-- ==== Sys2Proof/Word.lean ====
section
/-!
DEFINITION. Word.lean: the widths the manual names. A register is 64 bits (chapter 0, "Registers"); a memory cell is
one byte; multi-byte values are little-endian (R7).
-/
namespace Sys2Proof

/-- A register or double-word (chapter 0: "Registers are 64 bits wide"). -/
abbrev Word := BitVec 64

/-- One byte of a memory. -/
abbrev Byte := BitVec 8

end Sys2Proof
end

