-- ==== Sys2Proof/Syntax/Types.lean ====
section
/-!
DEFINITION. Syntax/Types.lean: the operand types of the commands. A command names a tile, a register, an address, or what
the world outside the part shows it (an ECC finding, a temperature, a packet); each of those is plain data here.
-/
namespace Sys2Proof

/-- A linear tile number (R4). -/
abbrev Tile := Fin 2048

/-- An x register, an f register, a v register (R168, R169). -/
abbrev XReg := Fin 16
abbrev FReg := Fin 32
abbrev VReg := Fin 4

/-- Who runs an instruction of Table 6.2: the prompter of a tile, or a booth core (R197), whose instruction also has a PRED field
and, in the three vector compares, names the predicate register `pd` in place of vd. -/
inductive Runner where
  | tile (t : Tile)
  | booth (n : Fin 2) (pred pd : Fin 8)
  deriving DecidableEq, Repr

/-- Who fetches: a tile a bundle (R132), a booth core a word of its stream (R197). -/
inductive Fetcher where
  | tile (t : Tile)
  | booth (n : Fin 2)
  deriving DecidableEq, Repr

/-- Integer operations of Table 6.2. -/
inductive IntOp where
  | add | sub | and | or | xor | shl | shr | sar | lt | ltu | min | max | minu | maxu
  | mul | mulh | mulhu | div | divu | rem | remu
  deriving DecidableEq, Repr

/-- Scalar loads (opcodes 0x10 to 0x17 and 0x1C). -/
inductive LdKind where
  | b | h | w | d | bu | hu | wu | fw | fd
  deriving DecidableEq, Repr

/-- Scalar stores (opcodes 0x18 to 0x1B, 0x1D and 0x1E). -/
inductive StKind where
  | b | h | w | d | fw | fd
  deriving DecidableEq, Repr

/-- Branch conditions (R179). -/
inductive BrCond where
  | eq | ne | lt | ge | ltu | geu
  deriving DecidableEq, Repr

/-- Opcode 0x28. -/
inductive FOp where
  | add | sub | mul | div | sqrt | min | max | abs | neg | cpys
  deriving DecidableEq, Repr

/-- Opcode 0x29. -/
inductive FmaKind where
  | mac | macn | macs | macns
  deriving DecidableEq, Repr

/-- Opcode 0x2B. -/
inductive FMov where
  | ftox | xtof | ceq | clt | cle | kind
  deriving DecidableEq, Repr

/-- The type codes of format C (R176). -/
inductive CTy where
  | b64 | b32 | sk16 | i32 | u32 | i16 | i8 | i64
  deriving DecidableEq, Repr

/-- The vector element types (R176). -/
inductive VTy where
  | i8 | i16 | i32 | b32 | b64 | sk16
  deriving DecidableEq, Repr

/-- Element-wise vector operations and reductions (R185). -/
inductive VOp where
  | add | sub | mul | min | max | and | or | xor | sll | srl | sra | ceq | clt | cle | redsum | redmax
  | fma | fms | fnma
  deriving DecidableEq, Repr

/-- Rounding mode field RM of a P-slot instruction (three bits). -/
abbrev Rm := Fin 8

/-- The fields of an MM (Table 4.2, Table 5.3). -/
structure MMSlot where
  shape : Bool
  fsa : Fin 4
  fsb : Fin 4
  tag : Fin 256
  oaa : Fin 8
  oab : Fin 8
  add : Bool
  neg : Bool
  cplx : Bool
  conj : Bool
  ta : Bool
  tb : Bool
  inc : Bool
  deriving DecidableEq, Repr

/-- The fields of a DRAIN (Table 5.3). -/
structure DrainSlot where
  shape : Bool
  fsd : Fin 4
  tag : Fin 256
  oad : Fin 8
  atype : Fin 8
  mask : Bool
  deriving DecidableEq, Repr

/-- The fields of an SHD (Table 5.3). -/
structure ShdSlot where
  tag : Fin 256
  sunit : Fin 128
  size : Fin 4
  deriving DecidableEq, Repr

/-- The fields of a D operation (Table 5.4). -/
structure DSlot where
  desc : Fin 16
  wc : Fin 16
  hint : Fin 4
  narrow : Bool
  mask : Bool
  deriving DecidableEq, Repr

/-- What an access finds in the codes that protect the stores (Table 8.6): the first unit, in address order, with a
correctable error, and the first with an uncorrectable one. The part cannot choose these; the world shows them. -/
structure EccFinding where
  corrected : Option Nat
  uncorrectable : Option Nat
  deriving DecidableEq, Repr

/-- The posting inputs of the callboard, in the order of R451. -/
inductive Poster where
  | booth (core : Fin 2) | security | cueTimer | collective | ingress (srcSeat : BitVec 15) | trap (stack : Fin 8)
  | tile (t : Tile)
  deriving DecidableEq, Repr

/-- What a COLL_DATA packet brings: the collective (the `num`-th posted on its set), whose data it is, whom it is for, the
share, where in the share, and whether it is a reduced result. The header has no field for these. -/
structure CollPiece where
  set : Nat
  num : Nat
  origin : Nat
  target : Nat
  share : Nat
  off : Nat
  result : Bool
  deriving DecidableEq, Repr

/-- An acknowledgement record (Table 12.4): the seats, MID and TAG of the packet acknowledged, bytes performed, code. -/
structure AckRec where
  dstSeat : Nat
  srcSeat : Nat
  srcMid : Nat
  tag : Nat
  bytes : Nat
  code : Nat
  deriving DecidableEq, Repr

/-- Control flits (Table 12.4). `dst` of a routed one is the seat it goes to. -/
inductive Ctl where
  | cue (count master delay : Nat) (retried : Bool)
  | stepComplete (dst sender step : Nat) (discard : Bool)
  | announce (k step : Nat)
  | drained (dst sender k : Nat) (discard : Bool)
  | verdict (k : Nat) (publish : Bool)
  | ack (dst : Nat) (recs : List AckRec)
  | tickets (vcs : List Nat) (lo hi : Nat)
  | retry (seq : Nat)
  | idle
  | probe
  | seatLost (seat stamp : Nat)
  deriving DecidableEq, Repr

/-- How a frame comes to a front-of-house port (R395-R397): its octets, the PCP of its 802.1Q tag where it has one, and how many octets have
left the receive buffer it goes to since a frame came there last. -/
structure RxFrame where
  len : Nat
  pcp : Option (Fin 8)
  drain : Nat
  deriving DecidableEq, Repr

/-- What every arriving RoCEv2 packet shows: its QP and PSN, the CE mark, whether its ICRC holds, and its frame (R396, R397, R399, R414). -/
structure RocePkt where
  qpn : BitVec 24
  psn : BitVec 24
  ce : Bool
  icrc : Bool
  frame : RxFrame
  deriving DecidableEq, Repr

/-- What a CM REQ shows beside what it asks for: the peer's address, whether its ICRC holds, its frame, and the host's local ACK timeout and
retry count (R399, R402). -/
structure CmPkt where
  ip : BitVec 128
  icrc : Bool
  frame : RxFrame
  ackTo : BitVec 5
  retries : Fin 8
  deriving DecidableEq, Repr

/-- A frame at a front-of-house port: IPv4 options, a fragment, whether a service of R395 consumes it. -/
structure FrameIn where
  port : Fin 4
  frame : RxFrame
  options : Bool
  fragment : Bool
  served : Bool
  deriving DecidableEq, Repr

/-- ARP as it comes to a port: a request for an address, or the answer that names a sender and its MAC address (R395). -/
inductive ArpIn where
  | request (ip : BitVec 32)
  | reply (ip : BitVec 32) (mac : BitVec 48)
  deriving DecidableEq, Repr

/-- IPv6 Neighbor Discovery as it comes to a port: a solicitation, or an advertisement (R395). -/
inductive NdIn where
  | solicit (ip : BitVec 128)
  | advert (ip : BitVec 128) (mac : BitVec 48)
  deriving DecidableEq, Repr

/-- What every PTP message shows: its domain, its transport as FH_PTP_CFG.TRANSPORT numbers them, and the port identity of the clock that sent
it (R417). -/
structure PtpHead where
  domain : BitVec 8
  transport : Fin 3
  source : BitVec 80
  deriving DecidableEq, Repr

/-- The RETH of a WRITE or READ: address, R_Key, length. -/
structure Reth where
  va : BitVec 64
  rkey : BitVec 32
  len : BitVec 32
  deriving DecidableEq, Repr

/-- What a flit carries before its trailer: 248 bytes of a class packet, or a control message. -/
inductive FlitBody where
  | cls (bytes : List Byte)
  | ctl (m : Ctl)
  deriving DecidableEq, Repr

/-- A flit with the fields of its trailer (Table 12.2); `good` says that its CRC holds and no codeword it touches was bad. -/
structure Flit where
  seq : Nat
  ack : Nat
  vc : Nat
  sop : Bool
  eop : Bool
  good : Bool
  body : FlitBody
  deriving DecidableEq, Repr

/-- A flit as FEC delivers it: its 256 bytes, and whether a codeword it touches was not correctable (R356, R362). -/
structure WireFlit where
  bytes : List Byte
  bad : Bool
  deriving DecidableEq, Repr

/-- Where the plan laid what protects a shard (R340, R469-R471): its stack and entry, tensor, method (1 COPY, 2 PARITY) and
the method from the next checkpoint, the areas K, D and X with the bitmap of X, the two mirror places at the partner,
where the engine's descriptors leave their record, and its piece of the flash staging area F. -/
structure ShardArea where
  stack : Nat
  entry : Nat
  tensor : Nat
  method : Nat
  next : Nat
  keep : Nat
  acc : Nat
  delta : Nat
  bitmap : Nat
  mirror0 : Nat
  mirror1 : Nat
  recAt : Nat
  stage : Nat
  deriving DecidableEq, Repr

/-- The stripe buffers of a PARITY tensor: G, each position's two buffers, and each position's image in copy 0 as pieces of memory
(R469, R470). -/
structure StripeArea where
  tensor : Nat
  g : Nat
  holders : List (Nat × Nat)
  images : List (List (Nat × Nat))
  deriving DecidableEq, Repr

/-- What a seat answers RECOVER with (R453, R488): it has restored, having sent or taken so many bytes of what an understudy receives; or it
refuses the promotion, its aliases being full. -/
structure RestoredMsg where
  seat : BitVec 15
  bytes : BitVec 64
  refused : Bool
  deriving DecidableEq, Repr

/-- What a promoted understudy reads or is given (R491): the lost seat's CB_BIND entries, scene and images from the committed mirror
slot with its side, and from the plan the shard-table entries (stack, entry, sixteen words), areas, stripes and party indices. -/
structure Rebuild where
  side : Fin 2
  bind : List Word
  scene : Nat
  seed : Nat
  images : List (List Byte)
  table : List (Nat × Nat × List Word)
  areas : List ShardArea
  stripes : List StripeArea
  party : List Nat
  deriving DecidableEq, Repr

/-- An operation of a layer (Table 11.1): the compiler's name for it, its shape, the format words of its operands. -/
structure LayerOp where
  op : Nat
  shape : List Nat
  fmts : List Nat
  deriving DecidableEq, Repr

/-- A layer of a job description (Table 11.1): its operations, its heads, experts and output fields, its COST and the shares of its
forward, input-gradient and weight-gradient passes, bytes of activations it keeps in the wings and of deferred-pass inputs. -/
structure LayerDesc where
  ops : List LayerOp
  heads : Nat
  experts : Nat
  fields : Nat
  cost : Nat
  fwd : Nat
  igrad : Nat
  wgrad : Nat
  act : Nat
  defer : Nat
  deriving DecidableEq, Repr

/-- A kind of contribution to a gradient buffer (R334): the seat's own F group's, once per micro-batch; every party's, once per step; every
party's, once per micro-batch. -/
inductive GradSend where
  | own | parties | partyMicros
  deriving DecidableEq, Repr

/-- A trainable tensor: its number and layer, the cut that divides it (0 none, 1 tensor, 2 pipeline, 3 data), its items, elements and
whether items are runs of 128 elements; format words of P, R, M and V, GCODE; components; ADAMW or SGDM, hyperparameter set; the
contributions a step sends into its gradient buffer (R334); the rate hint per 2¹⁶ sectors; bytes gathered per use (R336). -/
structure TensorDesc where
  number : Nat
  layer : Nat
  cut : Nat
  items : Nat
  elements : Nat
  runs : Bool
  fmtP : Nat
  fmtR : Nat
  fmtMV : Nat
  gcode : Nat
  hasR : Bool
  hasM : Bool
  hasV : Bool
  adam : Bool
  hset : Fin 16
  sends : List GradSend
  hint : Nat
  gather : Nat
  deriving DecidableEq, Repr

/-- A seat: its company position, whether it is an understudy seat, the torus coordinates of its company; the company is the group of
its number. -/
structure SeatDesc where
  seat : Nat
  pos : Nat
  spare : Bool
  x : Nat
  y : Nat
  z : Nat
  deriving DecidableEq, Repr

/-- The job description (R316, Table 11.1), as booth firmware reads it from DESC: T, S, D, M, samples per global batch, the clipping
request, the seats, the lengths of the torus dimensions, the partner reserve, the seats of sets 4 to 15. -/
structure JobDesc where
  layers : List LayerDesc
  tensors : List TensorDesc
  t : Nat
  stages : Nat
  d : Nat
  micro : Nat
  samples : Nat
  clip : Bool
  seats : List SeatDesc
  dims : List Nat
  reserve : Nat
  sets : List (List Nat)
  deriving DecidableEq, Repr

/-- The rollout plan (R347-R349, R386): weights and stream state of each layer in bytes, initial tile data, the seats it uses, and its planned
C0 load (seat, port, bytes per second). -/
structure RolloutDesc where
  weights : List Nat
  state : List Nat
  data : List (Nat × List Byte)
  seats : List Nat
  load : List (Nat × Nat × Nat)
  deriving DecidableEq, Repr

/-- The five ports of a rigging router, in the order of R20. -/
inductive RigPort where
  | north | east | south | west | tile
  deriving DecidableEq, Repr

/-- Where a rigging flit is bound: a tile's endpoint, an offset in a die's wings (R222), a stack by the package column of the tile it
concerns within the die (R18), an I/O die, or the hub behind I/O die 0. -/
inductive RigDst where
  | tile (t : Tile) | wings (die : Fin 8) (off : BitVec 33) | stack (k : Fin 8) (col : Fin 16) | io (i : Fin 2) | hub
  deriving DecidableEq, Repr

/-- A rigging flit: its class, its destination, and its 128 bytes (R17). -/
structure RigFlit where
  cls : Fin 4
  dst : RigDst
  body : BitVec 1024
  deriving DecidableEq, Repr

/-- What RIGGING_FLIT serves: an output of its router, whether the far ends of the attachments take flits of classes C1 to C3 then,
and the flits the hub sends over its link then (R16, R20). -/
structure RigTurn where
  port : RigPort
  take : Bool
  hub : List RigFlit
  deriving DecidableEq, Repr

/-- A write of a lock register: the master's MID and the HOLDER it writes (R457, R584). -/
structure LockWrite where
  mid : BitVec 12
  holder : BitVec 12
  deriving DecidableEq, Repr

/-- An access that arrives at its home in the same cycle as MEMORY_ACCESS's (R228): of a master, or the scrubber's. -/
structure MemMeet where
  scrub : Bool
  mid : BitVec 12
  addr : BitVec 44
  len : BitVec 8
  data : Option (List Byte)
  hint : Fin 4
  narrow : Bool
  ecc : EccFinding
  deriving DecidableEq, Repr

/-- What MEMORY_ACCESS meets: errors the codes find, and the accesses that arrive in its cycle. -/
structure MemTurn where
  ecc : EccFinding
  others : List MemMeet
  deriving DecidableEq, Repr

/-- The rails of Table 17.2. -/
inductive Rail where
  | bank | core (die : Fin 8) | wing (die : Fin 8) | stack (k : Fin 8) | io (i : Fin 2) | hub | nand | nor
  deriving DecidableEq, Repr

end Sys2Proof
end

