-- ==== Sys2Proof/Syntax.lean ====
section
/-!
DEFINITION. Syntax.lean: the commands of the part, one constructor per row of spec/opcode_table.json, in its order. Each
docstring gives the row's mnemonic, the rule that owns it and the row's summary.
-/
namespace Sys2Proof

/-- The commands: the operations and events of the part, each whole and indivisible. -/
inductive Instr where
  /-- REGISTER_WRITE (R583): A write to a register that has no row of its own merges the written bytes and sets fields under their access codes. -/
  | registerWrite (a : BitVec 44) (ws : List (BitVec 12 × Fin 8 × List Byte))
  /-- RC_READ (R10): A read of a register with RC fields returns those fields and then clears them, subject to R11 and R583. -/
  | rcRead (mid : BitVec 12) (a : BitVec 44) (len : Fin 9)
  /-- MEMORY_ACCESS (R27): A master's access to a mapped address is checked by MID and range, then performed at its home with ECC, poison and cache handling. -/
  | memoryAccess (mid : BitVec 12) (a : BitVec 44) (len : BitVec 16) (data : Option (List Byte)) (hint : Fin 4) (narrow : Bool) (turn : MemTurn)
  /-- RIGGING_FLIT (R18): A router takes a flit and forwards it along the dimension-ordered route, or hands it to the endpoint it is bound for. -/
  | riggingFlit (t : Tile) (ins : List (RigPort × RigFlit)) (o : RigTurn)
  /-- CUE_INCREMENT (R36): At the end of each cue period the cue count advances by one, with the latches and cue-flit sends due at that count. -/
  | cueIncrement
  /-- CUE (R40): A seat that accepts a cue flit corrects its phase by slewing and forwards the flit with the delay accumulated. -/
  | cue (p : Fin 16) (count : Word) (master : BitVec 15) (delay : BitVec 32) (retried : Bool) (hop : BitVec 32)
  /-- HOLDOVER (R41): After 64 cues without a cue flit the seat sets HOLDOVER, writes a promptbook entry and counts on its own oscillator. -/
  | holdover
  /-- CUT_OFF (R41): After 1024 cues in holdover the seat sets CUT_OFF, and the booth reports the seat lost. -/
  | cutOff
  /-- BACKUP_MASTER_TAKEOVER (R42): After 64 cues without the master's cue flits, the enabled backup seat becomes cue master and continues from its own count. -/
  | backupMasterTakeover
  /-- ALARM_ARM (R48): A write that sets ARM in CU_ALARM_CTL arms the alarm, and comparison starts in the next stage cycle. -/
  | alarmArm (n : Fin 32) (v : Word)
  /-- ALARM_FIRE (R48): An armed alarm whose target the count has reached clears ARM, sets FIRED and LATE as due, and takes its ACTION. -/
  | alarmFire (n : Fin 32)
  /-- STEP_COMPLETE (R50): When the four conditions of R50 hold, the seat's booth sends step-complete, with its discard flag, to the cue master. -/
  | stepComplete
  /-- STEP_COMPLETE_ACCEPTED (R51): The cue master accepts a step-complete; at the last one it computes K and floods the announcement. -/
  | stepCompleteAccepted (sender : BitVec 15) (step : BitVec 32) (discard : Bool)
  /-- ANNOUNCE (R54): A seat accepts the curtain announcement and records K, beginning its drain at once if the stamp is K or later. -/
  | announce (p : Fin 16) (k : Word) (step : BitVec 32)
  /-- CURTAIN_DRAIN_START (R52): At cue K each seat begins draining the classes in the order C0, C1, C2, C3. -/
  | curtainDrainStart
  /-- CLASS_DRAINED (R53): When class Cn is drained on a seat, the drain of Cn+1 begins, and after C3 the seat sends its drained report. -/
  | classDrained
  /-- DRAINED (R52): The cue master accepts a seat's drained report with its discard flag. -/
  | drained (sender : BitVec 15) (k : Word) (discard : Bool)
  /-- VERDICT_SET (R55): At K+32 the cue master sets PUBLISH or DISCARD, reports seats whose report is missing as lost, and floods the verdict. -/
  | verdictSet
  /-- VERDICT (R55): A seat accepts the flooded verdict of the curtain. -/
  | verdict (p : Fin 16) (k : Word) (publish : Bool)
  /-- CURTAIN_CUT_OFF (R55): A seat that has accepted no verdict by K+48 holds its state, sets CUT_OFF and is reported lost. -/
  | curtainCutOff
  /-- PUBLISH (R56): Under a PUBLISH verdict each seat publishes back copies, advances STEP, swaps marked banks, refills tickets and empties queues and tile channels. -/
  | publish (peer : List (List (BitVec 16))) (asked : Fin 16) (flash : Bool)
  /-- DISCARD (R57): Under a DISCARD verdict each seat refills tickets, empties queues and tile channels, publishes nothing and counts the discard. -/
  | discard (peer : List (List (BitVec 16)))
  /-- STEP_START (R52): At K+64 the armed tile groups make the first issue of the next step from index 0 of the bank in use. -/
  | stepStart
  /-- SCENE_START (R212): At a scene start each tile swaps banks if marked, clears its halt records and issues from index 0. -/
  | sceneStart
  /-- SCENE_CHANGE_START (R64): At change cue C the scene change begins on every seat, suspending placement commands under R438. -/
  | sceneChangeStart (heard : Option (Word × BitVec 16))
  /-- STOP_WAVE (R63): A stop wave stops 512 tiles of one die pair at their next bundle boundary, with their engines running to ready. -/
  | stopWave (w : Fin 4)
  /-- SCENE_SAVE (R62): Once the job-wide drain has ended, every tile's state is written as a record in its die's scene-save area. -/
  | sceneSave (quiet : Bool)
  /-- SCENE_SWAP_IN (R64): Once the save is done, the incoming bank images and initial data are loaded from the wings and the banks swapped. -/
  | sceneSwapIn
  /-- START_WAVE (R64): A start wave lets 512 tiles of one die pair make their first issue of the incoming scene. -/
  | startWave (w : Fin 4)
  /-- RESTORE_START (R66): At the restore's start cue, the rollout is discarded and each tile's record is loaded; tiles resume at RESUME in BANK. -/
  | restoreStart (heard : Option Word) (peer : List (List (BitVec 16)))
  /-- MATRIX_NOP (R135): The M-slot NOP does nothing. -/
  | matrixNop (t : Tile)
  /-- MM (R104): MM holds the array, multiplies two panels and commits the output tile, overwritten or added, at its ready cycle. -/
  | mm (t : Tile) (f : MMSlot)
  /-- SHD (R122): SHD copies accumulator units into shadow units, reading in cycle 1 and committing at u+3. -/
  | shd (t : Tile) (f : ShdSlot)
  /-- DRAIN (R121): DRAIN converts an accumulator tile into a format word and writes it, with an optional saturation mask, to data SRAM. -/
  | drain (t : Tile) (f : DrainSlot)
  /-- BUNDLE_FETCH (R133): The tile fetches and issues the next bundle, or the next repetition, at its pitch from the bank in use. -/
  | bundleFetch (r : Fetcher) (ecc : EccFinding)
  /-- DNOP (R136): The D-slot DNOP does nothing. -/
  | dnop (t : Tile)
  /-- COPY (R136): COPY increments its wait counter and starts moving LEN bytes from SRC to DST unchanged. -/
  | copy (t : Tile) (f : DSlot)
  /-- CONVERT (R136): CONVERT starts a transfer that converts from SFMT to DFMT under Table 3.10. -/
  | convert (t : Tile) (f : DSlot)
  /-- RWRITE (R136): RWRITE sends LEN bytes to DST as a reduce-write in DFMT. -/
  | rwrite (t : Tile) (f : DSlot)
  /-- GATHER (R338): GATHER starts a copy that also records the version of its first response. -/
  | gather (t : Tile) (f : DSlot)
  /-- REGATHER (R339): REGATHER starts a gather that compares every response's version with the VERSION already held. -/
  | regather (t : Tile) (f : DSlot)
  /-- FILL (R136): FILL starts writing LEN zero bytes at DST. -/
  | fill (t : Tile) (f : DSlot)
  /-- TRANSFER_COMPLETE (R151): A data-mover transfer completes, decrementing its wait counter and recording any fault in TA_MFAULT with the discard flag. -/
  | transferComplete (t : Tile) (k : Fin 16) (ecc : EccFinding)
  /-- SNOP (R137): The S-slot SNOP does nothing. -/
  | snop (t : Tile)
  /-- WAIT (R137): A WAIT-guarded issue is made in the first cycle in which its counter is at or below the threshold. -/
  | wait (t : Tile) (wc : Fin 16) (thr : BitVec 8)
  /-- FENCE_L (R30): FENCE.L holds the next issue until the tile's own engines have performed earlier accesses to the tile's stores. -/
  | fenceL (t : Tile)
  /-- FENCE_D (R31): FENCE.D holds the next issue until every earlier write and reduce-write of the master is visible part-wide. -/
  | fenceD (t : Tile)
  /-- FENCE_F (R32): FENCE.F holds the next issue until every earlier write to a seat of the named set is acknowledged or the seat is lost. -/
  | fenceF (t : Tile) (set : Fin 16)
  /-- FENCE_COMPLETE (R142): A fence completes, and the held next issue is made. -/
  | fenceComplete (t : Tile)
  /-- NOTICE (R137): NOTICE posts a prompter register as a callboard notice on the named channel. -/
  | notice (t : Tile) (ch : BitVec 8) (x : XReg)
  /-- TAKE (R137): A TAKE-guarded issue is made when its channel holds a notice, and it writes the oldest notice to a register at cycle 1. -/
  | take (t : Tile) (ch : BitVec 8) (x : XReg)
  /-- SWAP_BANK (R157): SWAP_BANK swaps to the standby bank if its commit word is set, and otherwise halts the tile with NO_COMMIT. -/
  | swapBank (t : Tile)
  /-- END (R143): END stops the tile's issue for the step or scene. -/
  | endOp (t : Tile)
  /-- TILE_ENDED (R143): Once END has issued, every resource has passed its ready cycle and all counters are zero, the tile has ended. -/
  | tileEnded (t : Tile)
  /-- PROMPTER_NOP (R176): The all-zero P-slot word does nothing. -/
  | prompterNop (r : Runner)
  /-- IADD (R178): Integer add, wrapping modulo 2^64. -/
  | iadd (r : Runner) (rd : XReg) (rs1 : XReg) (rs2 : XReg)
  /-- ISUB (R178): Integer subtract, wrapping modulo 2^64. -/
  | isub (r : Runner) (rd : XReg) (rs1 : XReg) (rs2 : XReg)
  /-- IAND (R178): Bitwise AND of two registers. -/
  | iand (r : Runner) (rd : XReg) (rs1 : XReg) (rs2 : XReg)
  /-- IOR (R178): Bitwise OR of two registers. -/
  | ior (r : Runner) (rd : XReg) (rs1 : XReg) (rs2 : XReg)
  /-- IXOR (R178): Bitwise XOR of two registers. -/
  | ixor (r : Runner) (rd : XReg) (rs1 : XReg) (rs2 : XReg)
  /-- ISHL (R178): Shift left by the low 6 bits of rs2. -/
  | ishl (r : Runner) (rd : XReg) (rs1 : XReg) (rs2 : XReg)
  /-- ISHR (R178): Logical shift right by the low 6 bits of rs2. -/
  | ishr (r : Runner) (rd : XReg) (rs1 : XReg) (rs2 : XReg)
  /-- ISAR (R178): Arithmetic shift right by the low 6 bits of rs2. -/
  | isar (r : Runner) (rd : XReg) (rs1 : XReg) (rs2 : XReg)
  /-- ILT (R178): Writes 1 when rs1 is less than rs2, signed. -/
  | ilt (r : Runner) (rd : XReg) (rs1 : XReg) (rs2 : XReg)
  /-- ILTU (R178): Writes 1 when rs1 is less than rs2, unsigned. -/
  | iltu (r : Runner) (rd : XReg) (rs1 : XReg) (rs2 : XReg)
  /-- IMIN (R178): Signed minimum of two registers. -/
  | imin (r : Runner) (rd : XReg) (rs1 : XReg) (rs2 : XReg)
  /-- IMAX (R178): Signed maximum of two registers. -/
  | imax (r : Runner) (rd : XReg) (rs1 : XReg) (rs2 : XReg)
  /-- IMINU (R178): Unsigned minimum of two registers. -/
  | iminu (r : Runner) (rd : XReg) (rs1 : XReg) (rs2 : XReg)
  /-- IMAXU (R178): Unsigned maximum of two registers. -/
  | imaxu (r : Runner) (rd : XReg) (rs1 : XReg) (rs2 : XReg)
  /-- IADDK (R178): Adds the sign-extended immediate. -/
  | iaddk (r : Runner) (rd : XReg) (rs1 : XReg) (imm : BitVec 16)
  /-- IANDK (R178): ANDs the zero-extended immediate. -/
  | iandk (r : Runner) (rd : XReg) (rs1 : XReg) (imm : BitVec 16)
  /-- IORK (R178): ORs the zero-extended immediate. -/
  | iork (r : Runner) (rd : XReg) (rs1 : XReg) (imm : BitVec 16)
  /-- IXORK (R178): XORs the zero-extended immediate. -/
  | ixork (r : Runner) (rd : XReg) (rs1 : XReg) (imm : BitVec 16)
  /-- ILTK (R178): Signed compare with the sign-extended immediate. -/
  | iltk (r : Runner) (rd : XReg) (rs1 : XReg) (imm : BitVec 16)
  /-- ILTUK (R178): Unsigned compare with the sign-extended immediate. -/
  | iltuk (r : Runner) (rd : XReg) (rs1 : XReg) (imm : BitVec 16)
  /-- ISHLK (R178): Shift left by an immediate amount. -/
  | ishlk (r : Runner) (rd : XReg) (rs1 : XReg) (sh : Fin 64)
  /-- ISHRK (R178): Logical shift right by an immediate amount. -/
  | ishrk (r : Runner) (rd : XReg) (rs1 : XReg) (sh : Fin 64)
  /-- ISARK (R178): Arithmetic shift right by an immediate amount. -/
  | isark (r : Runner) (rd : XReg) (rs1 : XReg) (sh : Fin 64)
  /-- IPUTH (R177): Writes the immediate into one 16-bit quarter of rd, leaving the other bits unchanged. -/
  | iputh (r : Runner) (rd : XReg) (h : Fin 4) (imm : BitVec 16)
  /-- IMUL (R178): Low 64 bits of the product. -/
  | imul (r : Runner) (rd : XReg) (rs1 : XReg) (rs2 : XReg)
  /-- IMULH (R178): High 64 bits of the signed 128-bit product. -/
  | imulh (r : Runner) (rd : XReg) (rs1 : XReg) (rs2 : XReg)
  /-- IMULHU (R178): High 64 bits of the unsigned 128-bit product. -/
  | imulhu (r : Runner) (rd : XReg) (rs1 : XReg) (rs2 : XReg)
  /-- IDIV (R178): Signed division toward zero, saturating on division by zero or overflow. -/
  | idiv (r : Runner) (rd : XReg) (rs1 : XReg) (rs2 : XReg)
  /-- IDIVU (R178): Unsigned division, saturating on division by zero. -/
  | idivu (r : Runner) (rd : XReg) (rs1 : XReg) (rs2 : XReg)
  /-- IREM (R178): Signed remainder with the sign of the dividend. -/
  | irem (r : Runner) (rd : XReg) (rs1 : XReg) (rs2 : XReg)
  /-- IREMU (R178): Unsigned remainder. -/
  | iremu (r : Runner) (rd : XReg) (rs1 : XReg) (rs2 : XReg)
  /-- LDB (R173): Loads a sign-extended byte from the own tile or a global address. -/
  | ldb (r : Runner) (rd : XReg) (rs1 : XReg) (imm : BitVec 16)
  /-- LDH (R173): Loads a sign-extended half-word. -/
  | ldh (r : Runner) (rd : XReg) (rs1 : XReg) (imm : BitVec 16)
  /-- LDW (R173): Loads a sign-extended word. -/
  | ldw (r : Runner) (rd : XReg) (rs1 : XReg) (imm : BitVec 16)
  /-- LDD (R173): Loads a double-word from the own tile or, counted on WC15, from a global address. -/
  | ldd (r : Runner) (rd : XReg) (rs1 : XReg) (imm : BitVec 16)
  /-- LDBU (R173): Loads a zero-extended byte. -/
  | ldbu (r : Runner) (rd : XReg) (rs1 : XReg) (imm : BitVec 16)
  /-- LDHU (R173): Loads a zero-extended half-word. -/
  | ldhu (r : Runner) (rd : XReg) (rs1 : XReg) (imm : BitVec 16)
  /-- LDWU (R173): Loads a zero-extended word. -/
  | ldwu (r : Runner) (rd : XReg) (rs1 : XReg) (imm : BitVec 16)
  /-- FLDW (R173): Loads a 32-bit value into an f register. -/
  | fldw (r : Runner) (fd : FReg) (rs1 : XReg) (imm : BitVec 16)
  /-- FLDD (R173): Loads a 64-bit value into an f register. -/
  | fldd (r : Runner) (fd : FReg) (rs1 : XReg) (imm : BitVec 16)
  /-- STB (R174): Stores a byte. -/
  | stb (r : Runner) (rs2 : XReg) (rs1 : XReg) (imm : BitVec 16)
  /-- STH (R174): Stores a half-word. -/
  | sth (r : Runner) (rs2 : XReg) (rs1 : XReg) (imm : BitVec 16)
  /-- STW (R174): Stores a word. -/
  | stw (r : Runner) (rs2 : XReg) (rs1 : XReg) (imm : BitVec 16)
  /-- STD (R174): Stores a double-word, merged under R583 where it hits a tile register. -/
  | std (r : Runner) (rs2 : XReg) (rs1 : XReg) (imm : BitVec 16)
  /-- FSTW (R174): Stores a 32-bit f value. -/
  | fstw (r : Runner) (fs2 : FReg) (rs1 : XReg) (imm : BitVec 16)
  /-- FSTD (R174): Stores a 64-bit f value. -/
  | fstd (r : Runner) (fs2 : FReg) (rs1 : XReg) (imm : BitVec 16)
  /-- GLOBAL_ACCESS_COMPLETE (R152): A prompter load or store outside the own tile completes and decrements WC15, with any failure recorded. -/
  | globalAccessComplete (t : Tile) (k : Fin 32) (ecc : EccFinding)
  /-- CBEQ (R179): Branches when the registers are equal. -/
  | cbeq (r : Runner) (rs1 : XReg) (rs2 : XReg) (off : BitVec 16)
  /-- CBNE (R179): Branches when the registers differ. -/
  | cbne (r : Runner) (rs1 : XReg) (rs2 : XReg) (off : BitVec 16)
  /-- CBLT (R179): Branches when rs1 is less, signed. -/
  | cblt (r : Runner) (rs1 : XReg) (rs2 : XReg) (off : BitVec 16)
  /-- CBGE (R179): Branches when rs1 is greater or equal, signed. -/
  | cbge (r : Runner) (rs1 : XReg) (rs2 : XReg) (off : BitVec 16)
  /-- CBLTU (R179): Branches when rs1 is less, unsigned. -/
  | cbltu (r : Runner) (rs1 : XReg) (rs2 : XReg) (off : BitVec 16)
  /-- CBGEU (R179): Branches when rs1 is greater or equal, unsigned. -/
  | cbgeu (r : Runner) (rs1 : XReg) (rs2 : XReg) (off : BitVec 16)
  /-- CALL (R179): Jumps to a constant target and writes the return index to rd. -/
  | call (r : Runner) (rd : XReg) (target : BitVec 13)
  /-- JREG (R179): Jumps to the bundle index held in a register. -/
  | jreg (r : Runner) (rs1 : XReg)
  /-- FADD (R180): IEEE floating-point add. -/
  | fadd (r : Runner) (dbl : Bool) (fd : FReg) (fs1 : FReg) (fs2 : FReg) (rm : Rm)
  /-- FSUB (R180): IEEE floating-point subtract. -/
  | fsub (r : Runner) (dbl : Bool) (fd : FReg) (fs1 : FReg) (fs2 : FReg) (rm : Rm)
  /-- FMUL (R180): IEEE floating-point multiply. -/
  | fmul (r : Runner) (dbl : Bool) (fd : FReg) (fs1 : FReg) (fs2 : FReg) (rm : Rm)
  /-- FDIV (R180): IEEE floating-point divide on DIV. -/
  | fdiv (r : Runner) (dbl : Bool) (fd : FReg) (fs1 : FReg) (fs2 : FReg) (rm : Rm)
  /-- FSQRT (R180): IEEE floating-point square root on DIV. -/
  | fsqrt (r : Runner) (dbl : Bool) (fd : FReg) (fs1 : FReg) (rm : Rm)
  /-- FMIN (R180): minimumNumber of two values. -/
  | fmin (r : Runner) (dbl : Bool) (fd : FReg) (fs1 : FReg) (fs2 : FReg) (rm : Rm)
  /-- FMAX (R180): maximumNumber of two values. -/
  | fmax (r : Runner) (dbl : Bool) (fd : FReg) (fs1 : FReg) (fs2 : FReg) (rm : Rm)
  /-- FABS (R180): IEEE abs, raising no flag. -/
  | fabs (r : Runner) (dbl : Bool) (fd : FReg) (fs1 : FReg) (rm : Rm)
  /-- FNEG (R180): IEEE negate, raising no flag. -/
  | fneg (r : Runner) (dbl : Bool) (fd : FReg) (fs1 : FReg) (rm : Rm)
  /-- FCPYS (R180): IEEE copySign, raising no flag. -/
  | fcpys (r : Runner) (dbl : Bool) (fd : FReg) (fs1 : FReg) (fs2 : FReg) (rm : Rm)
  /-- FMAC (R180): Fused fs1 × fs2 + fs3 with one rounding. -/
  | fmac (r : Runner) (dbl : Bool) (fd : FReg) (fs1 : FReg) (fs2 : FReg) (fs3 : FReg) (rm : Rm)
  /-- FMACN (R180): Fused −(fs1 × fs2) + fs3. -/
  | fmacn (r : Runner) (dbl : Bool) (fd : FReg) (fs1 : FReg) (fs2 : FReg) (fs3 : FReg) (rm : Rm)
  /-- FMACS (R180): Fused fs1 × fs2 − fs3. -/
  | fmacs (r : Runner) (dbl : Bool) (fd : FReg) (fs1 : FReg) (fs2 : FReg) (fs3 : FReg) (rm : Rm)
  /-- FMACNS (R180): Fused −(fs1 × fs2) − fs3. -/
  | fmacns (r : Runner) (dbl : Bool) (fd : FReg) (fs1 : FReg) (fs2 : FReg) (fs3 : FReg) (rm : Rm)
  /-- CVT (R181): Converts a scalar between types as a converting unit. -/
  | cvt (r : Runner) (dt : CTy) (st : CTy) (rd : FReg) (rs1 : FReg) (rm : Rm)
  /-- FTOX (R180): Copies f bits into an x register. -/
  | ftox (r : Runner) (dbl : Bool) (rd : XReg) (fs1 : FReg)
  /-- XTOF (R180): Copies x bits into an f register. -/
  | xtof (r : Runner) (dbl : Bool) (fd : FReg) (rs1 : XReg)
  /-- FCEQ (R180): Quiet equality compare into an x register. -/
  | fceq (r : Runner) (dbl : Bool) (rd : XReg) (fs1 : FReg) (fs2 : FReg)
  /-- FCLT (R180): Signalling less-than compare into an x register. -/
  | fclt (r : Runner) (dbl : Bool) (rd : XReg) (fs1 : FReg) (fs2 : FReg)
  /-- FCLE (R180): Signalling less-or-equal compare into an x register. -/
  | fcle (r : Runner) (dbl : Bool) (rd : XReg) (fs1 : FReg) (fs2 : FReg)
  /-- FKIND (R180): Writes the 4-bit class code of a value. -/
  | fkind (r : Runner) (dbl : Bool) (rd : XReg) (fs1 : FReg)
  /-- VLSET (R183): Sets VL to the lesser of a register and MAXVL of the named width. -/
  | vlset (r : Runner) (rd : XReg) (rs1 : XReg) (ty : VTy)
  /-- GETCYC (R182): Writes the stage-cycle count since the last reset. -/
  | getcyc (r : Runner) (rd : XReg)
  /-- GETCUE (R182): Writes the cue count current in the issue cycle. -/
  | getcue (r : Runner) (rd : XReg)
  /-- HOLDPT (R190): A hold point whose trap is taken at cycle 1 with RESTART 0. -/
  | holdpt (r : Runner)
  /-- TRET (R192): Returns from the handler, re-issuing the faulting instruction when RESTART is 1. -/
  | tret (r : Runner)
  /-- TSKIP (R192): Returns from the handler without re-issuing the faulting instruction. -/
  | tskip (r : Runner)
  /-- TRAP_ENTRY (R191): At a fault's trap point the tile fills TA_PTRAP0–3 and enters its handler, or halts if EN is 0. -/
  | trapEntry (t : Tile)
  /-- VADD (R185): Vector add over elements below VL. -/
  | vadd (r : Runner) (ty : VTy) (vd : VReg) (vs1 : VReg) (vs2 : VReg)
  /-- VSUB (R185): Vector subtract. -/
  | vsub (r : Runner) (ty : VTy) (vd : VReg) (vs1 : VReg) (vs2 : VReg)
  /-- VMUL (R185): Vector multiply. -/
  | vmul (r : Runner) (ty : VTy) (vd : VReg) (vs1 : VReg) (vs2 : VReg)
  /-- VMIN (R185): Vector minimum. -/
  | vmin (r : Runner) (ty : VTy) (vd : VReg) (vs1 : VReg) (vs2 : VReg)
  /-- VMAX (R185): Vector maximum. -/
  | vmax (r : Runner) (ty : VTy) (vd : VReg) (vs1 : VReg) (vs2 : VReg)
  /-- VAND (R185): Vector bitwise AND. -/
  | vand (r : Runner) (ty : VTy) (vd : VReg) (vs1 : VReg) (vs2 : VReg)
  /-- VOR (R185): Vector bitwise OR. -/
  | vor (r : Runner) (ty : VTy) (vd : VReg) (vs1 : VReg) (vs2 : VReg)
  /-- VXOR (R185): Vector bitwise XOR. -/
  | vxor (r : Runner) (ty : VTy) (vd : VReg) (vs1 : VReg) (vs2 : VReg)
  /-- VSLL (R185): Vector shift left. -/
  | vsll (r : Runner) (ty : VTy) (vd : VReg) (vs1 : VReg) (vs2 : VReg)
  /-- VSRL (R185): Vector logical shift right. -/
  | vsrl (r : Runner) (ty : VTy) (vd : VReg) (vs1 : VReg) (vs2 : VReg)
  /-- VSRA (R185): Vector arithmetic shift right. -/
  | vsra (r : Runner) (ty : VTy) (vd : VReg) (vs1 : VReg) (vs2 : VReg)
  /-- VCEQ (R185): Vector equality compare to an all-ones mask. -/
  | vceq (r : Runner) (ty : VTy) (vd : VReg) (vs1 : VReg) (vs2 : VReg)
  /-- VCLT (R185): Vector less-than compare. -/
  | vclt (r : Runner) (ty : VTy) (vd : VReg) (vs1 : VReg) (vs2 : VReg)
  /-- VCLE (R185): Vector less-or-equal compare. -/
  | vcle (r : Runner) (ty : VTy) (vd : VReg) (vs1 : VReg) (vs2 : VReg)
  /-- VREDSUM (R185): Ordered sum of elements below VL into element 0. -/
  | vredsum (r : Runner) (ty : VTy) (vd : VReg) (vs1 : VReg)
  /-- VREDMAX (R185): maximumNumber reduction into element 0. -/
  | vredmax (r : Runner) (ty : VTy) (vd : VReg) (vs1 : VReg)
  /-- VCVT (R185): Vector conversion between element types as a converting unit. -/
  | vcvt (r : Runner) (vd : VReg) (vs1 : VReg) (st : VTy) (dt : VTy)
  /-- VBCAST (R185): Broadcasts a scalar to every element below VL. -/
  | vbcast (r : Runner) (vd : VReg) (rs1 : FReg) (ty : VTy)
  /-- VEXT (R185): Extracts one element into a scalar register. -/
  | vext (r : Runner) (rd : FReg) (vs1 : VReg) (rs2 : XReg) (ty : VTy)
  /-- VFMA (R185): Vector fused vd + vs1 × vs2. -/
  | vfma (r : Runner) (ty : VTy) (vd : VReg) (vs1 : VReg) (vs2 : VReg)
  /-- VFMS (R185): Vector fused vd − vs1 × vs2. -/
  | vfms (r : Runner) (ty : VTy) (vd : VReg) (vs1 : VReg) (vs2 : VReg)
  /-- VFNMA (R185): Vector fused −(vd + vs1 × vs2). -/
  | vfnma (r : Runner) (ty : VTy) (vd : VReg) (vs1 : VReg) (vs2 : VReg)
  /-- VCMUL (R186): Vector complex multiply in the fixed order of four fused products. -/
  | vcmul (r : Runner) (conj : Bool) (acc : Bool) (ty : VTy) (vd : VReg) (vs1 : VReg) (vs2 : VReg)
  /-- VLD (R174): Vector load of the elements below VL from the own tile. -/
  | vld (r : Runner) (vd : VReg) (rs1 : XReg) (ty : VTy)
  /-- VST (R174): Vector store with byte masks to the own tile. -/
  | vst (r : Runner) (vd : VReg) (rs1 : XReg) (ty : VTy)
  /-- VGATHER (R187): Gathers elements by index one per cycle and writes the destination whole at VL+4. -/
  | vgather (r : Runner) (vd : VReg) (rs1 : XReg) (vs2 : VReg) (ty : VTy)
  /-- VSCATTER (R187): Scatters elements by index, performing element j at cycle j+1. -/
  | vscatter (r : Runner) (vd : VReg) (rs1 : XReg) (vs2 : VReg) (ty : VTy)
  /-- SR_SEED_WRITE (R101): A write of TA_SR_SEED reseeds the tile's stochastic-rounding generators from the next cycle. -/
  | srSeedWrite (t : Tile) (v : Word)
  /-- LOAD_SCENE (R201): The command verifies every image of a scene against the part's latency table and loads the accepted images into standby banks. -/
  | loadScene
  /-- BANK_WRITE (R156): A booth write to a standby bank writes its bytes and clears the bank's commit word. -/
  | bankWrite (core : Fin 2) (t : Tile) (bank : Fin 2) (off : Fin 0x20000) (data : List Byte)
  /-- BANK_COMMIT (R208): A booth write covering the commit word with SET = 1 commits the standby bank. -/
  | bankCommit (core : Fin 2) (t : Tile) (bank : Fin 2) (w : BitVec 128)
  /-- BANKCTL_MARK (R211): A write of TA_BANKCTL.MARK marks or unmarks the standby bank for the next publishing curtain or scene start. -/
  | bankctlMark (t : Tile) (mark : Bool)
  /-- BOOTH_HALT (R219): A write of 1 to TA_BANKCTL.HALT halts the tile with BOOTH_HALT and the written detail. -/
  | boothHalt (t : Tile) (detail : BitVec 32) (mark : Bool)
  /-- TILE_REVOKE (R486): Within 100 µs of a tile's halt, the booth revokes its locks, notices and unsent transfers. -/
  | tileRevoke (t : Tile)
  /-- CACHE_RESIZE (R230): A write that changes WG_CACHE_CTL.SIZE sets BUSY and starts writing back and invalidating every line. -/
  | cacheResize (v : Word)
  /-- CACHE_RESIZE_DONE (R230): When the write-back ends, BUSY clears and the new wings layout takes effect. -/
  | cacheResizeDone
  /-- REDUCE_WRITE (R277): A reduce-write reaches its home, which writes back and invalidates the line, and a trap engine adds it with ADD or XOR. -/
  | reduceWrite (mid : BitVec 12) (addr : BitVec 44) (xor : Bool) (fmt : BitVec 16) (data : List Byte) (psn : List Bool) (ecc : EccFinding)
  /-- HELD_REDUCE_WRITE (R271): A reduce-write held while its buffer is zeroed is added once the zeroing ends, and then acknowledged. -/
  | heldReduceWrite (k : Fin 8) (req : Fin 1024)
  /-- SCRUB (R244): The scrubber reads the next sector or word at its rate, correcting or poisoning it. -/
  | scrub (addr : BitVec 44) (ecc : EccFinding)
  /-- STACK_TEMP_SAMPLE (R254): Every 32 µs the controller reads each stack's temperature and moves its throttle step. -/
  | stackTempSample (k : Fin 8) (temp : BitVec 8)
  /-- RETIRE_PAGE (R249): The command copies a trap page into a spare with mirroring, remaps it and reports done once the list is in flash. -/
  | retirePage (bad : List (BitVec 44))
  /-- SHARD_ENTRY_WRITE (R267): A write that sets VALID in a shard entry is accepted only if every base lies in the stack's pinned range, and otherwise sets BAD_ENTRY. -/
  | shardEntryWrite (k : Fin 8) (idx : Fin 1024) (v : Word)
  /-- BQ_POST (R293): A write of TP_BQ_POST copies the descriptor words into the booth queue, or sets OVERRUN when the queue is full. -/
  | bqPost (k : Fin 8)
  /-- DESCRIPTOR_DISPATCH (R265): The dispatcher takes the next descriptor by round-robin, writes back and invalidates cached ranges, and hands work units to free engines. -/
  | descriptorDispatch (k : Fin 8)
  /-- SGDM (R281): SGDM updates a shard's back copies from its front copies and gradient. -/
  | sgdm (k : Fin 8) (r : Fin 128) (ecc : EccFinding)
  /-- ADAMW (R281): ADAMW updates a shard's back copies with moments, bias corrections and decoupled weight decay. -/
  | adamw (k : Fin 8) (r : Fin 128) (ecc : EccFinding)
  /-- TE_CONVERT (R290): The trap-engine CONVERT converts COUNT elements between format words. -/
  | teConvert (k : Fin 8) (r : Fin 128) (ecc : EccFinding)
  /-- TE_FILL (R290): The trap-engine FILL writes COUNT zero bytes. -/
  | teFill (k : Fin 8) (r : Fin 128) (ecc : EccFinding)
  /-- AXPY (R290): AXPY writes S0 × x + S1 × y, computed in B64 and encoded into FMT_B. -/
  | axpy (k : Fin 8) (r : Fin 128) (ecc : EccFinding)
  /-- NORM (R285): NORM writes the B64 sum of squares of COUNT elements into its record. -/
  | norm (k : Fin 8) (r : Fin 128) (ecc : EccFinding)
  /-- PARITY_DELTA (R289): PARITY_DELTA writes front XOR back of a shard as a staging area, with a bitmap of nonzero sectors. -/
  | parityDelta (k : Fin 8) (r : Fin 128) (ecc : EccFinding)
  /-- DESCRIPTOR_COMPLETE (R276): A descriptor's last unit is performed, its completion record is written and its notice or booth event is sent. -/
  | descriptorComplete (k : Fin 8) (r : Fin 128)
  /-- CLIP_RESOLVE (R286): A write of TP_CLIP_SUMSQ sets PENDING, computes the clipping factor and confirms, reruns or rejects the speculative updates. -/
  | clipResolve (k : Fin 8) (v : Word)
  /-- CLIP_DONE (R286): When the confirmation or reruns of a clip resolution complete, DONE is set. -/
  | clipDone (k : Fin 8)
  /-- DC_SNAPSHOT (R298): At each snapshot point, every tile, engine and die copies its live dress-check counters to snapshot registers and clears them. -/
  | dcSnapshot
  /-- DRESS_CHECK_RECOMPUTE (R304): A die's check unit takes a completed sample record, recomputes it wide, bins δ and E and counts the sample. -/
  | dressCheckRecompute (die : Fin 8)
  /-- DC_EVALUATE (R307): After a snapshot, booth firmware sums the snapshots and raises the dress-check events whose limits are crossed. -/
  | dcEvaluate
  /-- DC_SEED_WRITE (R300): A write of TA_DC_CTL.SEED reseeds every tile's sampler. -/
  | dcSeedWrite (v : Word)
  /-- PLACE (R316): The command computes the plan from the job description and the part, exchanges PLAN_ID and applies the plan. -/
  | place (j : JobDesc) (est : BitVec 32) (bubble : BitVec 16)
  /-- PLAN_ID_EXCHANGE (R318): A seat receives a peer's PLAN_ID message, and any mismatch stops the plan with RESULT MISMATCH. -/
  | planIdExchange (seat : BitVec 15) (id : Word)
  /-- RESHARD (R343): The command divides the changed cuts again and permutes items between seats from the restored state. -/
  | reshard (j : JobDesc) (est : BitVec 32) (bubble : BitVec 16)
  /-- PERMUTE_COMPLETE (R346): When every seat's incoming items are acknowledged, the new entries take the restored version and the old copies are released. -/
  | permuteComplete (others : Bool)
  /-- STAGE_SCENE (R347): The command verifies and holds a rollout scene, and reserves and places its rollout region. -/
  | stageScene (r : RolloutDesc)
  /-- LINK_TRAINING (R354): A fabric training attempt ends, measuring delay and choosing width, and the port comes up or the attempt fails. -/
  | linkTraining (p : Fin 16) (lanes : BitVec 4) (delay : BitVec 32) (peerSeat : BitVec 15) (peerPort : Fin 16) (peerNormal : Bool)
  /-- PORT_DISABLE (R355): A write of DISABLE = 1 takes the port down and holds it disabled. -/
  | portDisable (p : Fin 16)
  /-- PORT_ENABLE (R355): A write of DISABLE = 0 to a disabled port starts its training. -/
  | portEnable (p : Fin 16)
  /-- RETRAIN (R364): A write of FB_PORT_CFG.RETRAIN takes the link down and starts up to three training attempts. -/
  | retrain (p : Fin 16)
  /-- FLIT_RECEIVE (R363): A port receives a flit, checks CRC and sequence, takes ACK and either accepts it or discards it and sends RETRY. -/
  | flitReceive (p : Fin 16) (f : WireFlit) (fecCorr : Nat) (fecUncorr : Nat) (hi : Bool) (hop : BitVec 32) (peer : List (List (BitVec 16)))
  /-- RETRY (R363): A sender that receives RETRY resends every flit from the named SEQ in order. -/
  | retry (p : Fin 16) (seq : BitVec 12)
  /-- RETRY_TIMEOUT (R363): A receiver whose RETRY has gone 2 µs without the expected SEQ may send RETRY again. -/
  | retryTimeout (p : Fin 16)
  /-- LINK_IDLE_TIMEOUT (R364): A port that receives no valid flit for 10 µs takes its link down and starts retraining. -/
  | linkIdleTimeout (p : Fin 16)
  /-- TICKETS (R368): A TICKETS control flit returns class and control tickets to the sender. -/
  | tickets (p : Fin 16) (vcs : List (BitVec 16)) (lo : BitVec 8) (hi : BitVec 8)
  /-- TICKET_RETURN (R368): A receiver sends a TICKETS flit within 64 flit times of the first unreturned ticket, or at 256 waiting. -/
  | ticketReturn (p : Fin 16)
  /-- PACKET_GRANT (R366): An output arbiter grants a ready packet, with control flits first, then the lowest class round-robin over VCs and inputs. -/
  | packetGrant (p : Fin 16)
  /-- PACKET_ROUTE (R370): A seat takes an arriving class packet and consumes it or chooses its output port, level and relay. -/
  | packetRoute (input : Fin 17)
  /-- WRITE (R375): Fabric ingress checks a WRITE packet, performs it with poison marks and returns an ACK record. -/
  | write (ecc : EccFinding)
  /-- RWRITE_ADD (R375): Fabric ingress passes an add reduce-write packet to its home and acknowledges it once added. -/
  | rwriteAdd (ecc : EccFinding)
  /-- RWRITE_XOR (R375): Fabric ingress passes an XOR reduce-write packet to its home and acknowledges it once applied. -/
  | rwriteXor (ecc : EccFinding)
  /-- READ_REQ (R375): Fabric ingress performs a read request and answers with one READ_RESP carrying VERSION and CODE. -/
  | readReq (rdst : BitVec 44) (ecc : EccFinding)
  /-- READ_RESP (R375): A read response is written to the requester's destination and completes its transfer. -/
  | readResp
  /-- ACK (R375): An ACK control flit's records complete the acknowledged writes at their masters with their codes. -/
  | ack (p : Fin 16) (hi : Bool) (dst : BitVec 15) (recs : List AckRec)
  /-- RESP_TIMEOUT (R377): A request unacknowledged for RESP_TIMEOUT cues completes with RESP_TIMEOUT and sets the discard flag. -/
  | respTimeout (tag : BitVec 15)
  /-- SEAT_LOST (R482): A seat that accepts SEAT_LOST ends the running step as a discard and begins recovery, or leaves the job if it is named. -/
  | seatLost (p : Option (Fin 16)) (seat : BitVec 15) (stamp : BitVec 32) (peer : List (List (BitVec 16)))
  /-- IDLE (R359): An IDLE control flit keeps the link alive. -/
  | idle (p : Fin 16)
  /-- CE_POST (R380): A write of FB_CE_POST copies the descriptor into the named queue, or sets OVERRUN when the queue is full. -/
  | cePost (q : Fin 2)
  /-- COLLECTIVE_START (R383): A queued collective starts at its START_CUE with a free slot and runs its schedule. -/
  | collectiveStart (h : Fin 2)
  /-- ALL_REDUCE (R382): Reduces SRC over the set, and every party receives identical bits. -/
  | allReduce (r : Fin 8)
  /-- REDUCE_SCATTER (R380): Each party receives its share of the reduction. -/
  | reduceScatter (r : Fin 8)
  /-- ALL_GATHER (R380): Each party receives every party's share in party order. -/
  | allGather (r : Fin 8)
  /-- BROADCAST (R380): Each party receives the root's SRC. -/
  | broadcast (r : Fin 8)
  /-- PERMUTE (R380): Each move of the party's table is written to its destination seat. -/
  | permute (r : Fin 8)
  /-- BARRIER (R380): Completes when every party has posted. -/
  | barrier (r : Fin 8)
  /-- SCALAR_SUM (R382): Party 0 sums the set's B64 values in party order and broadcasts the sum. -/
  | scalarSum (r : Fin 8)
  /-- COLL_DATA (R380): The collective engine consumes an arriving COLL_DATA packet into scratch or a reserved slot. -/
  | collData (m : CollPiece) (ecc : EccFinding)
  /-- COLL_CTRL (R380): The collective engine consumes an arriving COLL_CTRL packet into a reserved slot. -/
  | collCtrl (set : Fin 16) (num : Nat)
  /-- COLLECTIVE_COMPLETE (R384): A collective finishes, writes its completion record and sends its notice. -/
  | collectiveComplete (r : Fin 8)
  /-- FH_LINK_UP (R394): A front-of-house port finishes negotiation and comes up in a mode it is allowed. -/
  | fhLinkUp (p : Fin 4) (mode : Fin 4)
  /-- FH_LINK_DOWN (R420): A front-of-house link going down puts its QPs into error and completes their outstanding requests with errors. -/
  | fhLinkDown (p : Fin 4)
  /-- ARP_REQUEST (R395): The port answers ARP for its own address. -/
  | arpRequest (p : Fin 4) (m : ArpIn)
  /-- NEIGHBOR_SOLICITATION (R395): The port answers IPv6 Neighbor Solicitation for its own address. -/
  | neighborSolicitation (p : Fin 4) (m : NdIn)
  /-- ICMP_ECHO (R395): The port answers ICMP or ICMPv6 echo requests. -/
  | icmpEcho (p : Fin 4) (v6 : Bool) (ip : BitVec 128) (data : List Byte)
  /-- FRAME_DROP (R395): A frame that no supported service consumes is dropped and counted. -/
  | frameDrop (f : FrameIn)
  /-- PFC_FRAME (R397): A received PFC frame pauses or releases transmission on its priorities. -/
  | pfcFrame (p : Fin 4) (quanta : List (Option (BitVec 16)))
  /-- PFC_REFRESH (R397): While occupancy stays above XON, PFC is resent every 0x8000 quanta, and at XON or below quanta 0 is sent. -/
  | pfcRefresh (p : Fin 4) (drain : Nat)
  /-- PFC_WATCHDOG (R398): ROCE_PRIO paused for PFC_WD ms sets PFC_STORM and ignores PFC for 1 s. -/
  | pfcWatchdog (p : Fin 4)
  /-- SEND (R400): An arriving SEND is answered NAK Invalid Request. -/
  | send (k : RocePkt)
  /-- RDMA_WRITE (R406): An arriving RDMA WRITE packet is checked against its window and performed, or NAKed. -/
  | rdmaWrite (k : RocePkt) (reth : Option Reth) (last : Bool) (data : List Byte) (ecc : EccFinding)
  /-- RDMA_WRITE_IMM (R400): An arriving RDMA WRITE with immediate is performed as a write, and with DB_IMM its immediate is taken as a doorbell. -/
  | rdmaWriteImm (k : RocePkt) (reth : Option Reth) (data : List Byte) (imm : BitVec 32) (ecc : EccFinding)
  /-- RDMA_READ (R406): An arriving RDMA READ request is checked and answered with response packets, or NAKed. -/
  | rdmaRead (k : RocePkt) (reth : Reth) (ecc : EccFinding)
  /-- ATOMIC (R400): An arriving atomic operation is answered NAK Invalid Request. -/
  | atomic (k : RocePkt)
  /-- RDMA_READ_RESPONSE (R416): A read response on a STORE session is written to the part's memory by the resilience engine. -/
  | rdmaReadResponse (k : RocePkt) (data : List Byte) (last : Bool)
  /-- RC_ACK (R402): An ACK or NAK for a request the part sent completes or fails that request. -/
  | rcAck (k : RocePkt) (syndrome : BitVec 8)
  /-- RC_TIMEOUT (R402): A requester timeout retries the request, and after seven retries the QP enters error. -/
  | rcTimeout (qpn : BitVec 24)
  /-- CNP (R415): A received CNP cuts the QP's rate at most once per 50 µs. -/
  | cnp (k : RocePkt)
  /-- RATE_INCREASE (R415): Every 55 µs without a CNP the QP's rate rises additively toward line rate. -/
  | rateIncrease (qpn : BitVec 24)
  /-- REQ (R402): A CM REQ on QP1 is accepted with a REP carrying the window-0 key and ring base, or rejected. -/
  | req (port : Fin 4) (cm : CmPkt) (peerQpn : BitVec 24) (psn : BitVec 24) (session : BitVec 16) (dbImm : Bool) (mtu : Fin 5) (qpn : Fin 4096)
  /-- REP (R416): A CM REP to the part's own REQ on a STORE session connects that QP. -/
  | rep (k : RocePkt) (peerQpn : BitVec 24) (psn : BitVec 24) (mtu : Fin 5)
  /-- DOORBELL (R409): A write of CMD_PI that passes both index tests advances CMD_PI, and otherwise counts BAD_DB. -/
  | doorbell (n : Fin 8) (v : BitVec 32)
  /-- STATUS_CONSUMED (R412): A write of STS_CI frees status entries and may release held command intake and pending statuses. -/
  | statusConsumed (n : Fin 8) (v : BitVec 32)
  /-- PTP_SYNC (R418): A Sync on the active port is timestamped, and the servo slews or steps the time base and updates LOCKED. -/
  | ptpSync (p : Fin 4) (h : PtpHead) (seq : BitVec 16) (origin : Option (BitVec 64)) (slew : Int)
  /-- PTP_FOLLOW_UP (R417): A two-step master's Follow_Up supplies the precise origin time of its Sync. -/
  | ptpFollowUp (p : Fin 4) (h : PtpHead) (seq : BitVec 16) (origin : BitVec 64) (slew : Int)
  /-- PTP_DELAY_REQ (R417): The slave sends Delay_Req for the end-to-end delay mechanism. -/
  | ptpDelayReq (p : Fin 4)
  /-- PTP_DELAY_RESP (R417): A Delay_Resp gives the path delay to the servo. -/
  | ptpDelayResp (p : Fin 4) (h : PtpHead) (seq : BitVec 16) (t4 : BitVec 64)
  /-- PTP_ANNOUNCE (R418): An Announce feeds the best master clock algorithm and the choice of active port. -/
  | ptpAnnounce (p : Fin 4) (h : PtpHead) (identity : Word) (vector : Nat)
  /-- PTP_ANNOUNCE_TIMEOUT (R419): Three Announce intervals without Announce clear LOCKED and may change the active port. -/
  | ptpAnnounceTimeout (p : Fin 4)
  /-- COMMAND_TAKE (R428): The booth takes the next command round-robin over sessions, checks length, opcode, parameters, SEQ and group, and writes the first status. -/
  | commandTake
  /-- J_COMMAND_START (R437): A queued J command starts when the previous J command is done. -/
  | jCommandStart
  /-- NOP (R441): The NOP command does nothing and is done. -/
  | nop
  /-- REG_READ (R442): Booth core 0 reads up to four registers and returns their values. -/
  | regRead
  /-- REG_WRITE (R442): Booth core 0 writes up to four registers and returns them read back. -/
  | regWrite
  /-- READ_LATENCY (R441): Copies TA_LAT_VER and TA_LAT0–63 to DEST. -/
  | readLatency
  /-- READ_BINDING (R441): Copies CB_BIND0–255 to DEST. -/
  | readBinding
  /-- READ_PROMPTBOOK (R520): Copies promptbook entries from FROM in ascending SEQ to DEST. -/
  | readPromptbook
  /-- READ_REPORT (R350): Copies the last plan's report to DEST. -/
  | readReport
  /-- SESSION_OPEN (R404): Enables a session with its kind, notify flag, peer prefix and QP limit. -/
  | sessionOpen
  /-- SESSION_CLOSE (R404): Disables a session and puts its QPs into error. -/
  | sessionClose
  /-- WINDOW_ADD (R405): Creates a window with a fresh R_Key for the issuing session. -/
  | windowAdd
  /-- WINDOW_REMOVE (R407): Removes a window once no command names it, refusing later packets. -/
  | windowRemove
  /-- STORE_OPEN (R416): Opens a STORE session, with the part connecting its QPs as CM requester. -/
  | storeOpen
  /-- JOB_OPEN (R436): Writes CU_CTL and makes the issuing session the owner of a new job. -/
  | jobOpen
  /-- JOB_CLOSE (R440): Cancels unstarted J commands and ends the job's ownership. -/
  | jobClose
  /-- JOB_START (R441): Runs steps from FIRST_STEP, reporting each curtain and dress-check event. -/
  | jobStart
  /-- JOB_STOP (R441): Stops the job's steps after the next curtain. -/
  | jobStop
  /-- SCENE_CHANGE (R61): Computes and floods the change cue C for a staged scene, or rejects or queues the change. -/
  | sceneChange
  /-- SCENE_RESTORE (R66): Schedules the restore of the saved scene, or fails when none is saved. -/
  | sceneRestore
  /-- SET_RISK_FLOOR (R443): Sets or removes the issuing session's risk floor for CUES cues. -/
  | setRiskFloor
  /-- RISK_FLOOR_EXPIRY (R443): A session's risk floor lapses when its CUES have passed. -/
  | riskFloorExpiry
  /-- CHECKPOINT_NOW (R467): Requests a checkpoint of the named layers at the next PUBLISH verdict. -/
  | checkpointNow
  /-- PROMOTE (R496): Promotes the understudy into a lost seat, or into a live seat after a checkpoint commits. -/
  | promote
  /-- RESTORE_CHECKPOINT (R495): Restores every seat from a flash or store image of STEP, or rejects with NOT_HELD. -/
  | restoreCheckpoint (others : Bool) (checks : Bool)
  /-- LINK_RETRAIN (R364): Retrains the named fabric ports and reports FB_STATUS.UP. -/
  | linkRetrain
  /-- WARM_RESET (R512): Accepts a warm reset, after which the booth takes no further command. -/
  | warmReset
  /-- WARM_RESET_EXECUTE (R511): 100 µs after a warm request the part resets and restarts from S1. -/
  | warmResetExecute
  /-- CB_POST (R451): A post to a channel is checked against its binding and queued round-robin, dropped when full, or sent remotely. -/
  | cbPost (ch : Fin 256) (posts : List (Poster × Word))
  /-- CB_TAKE (R450): A booth-core read of CB_TAKEn takes the oldest notice, or returns zero when empty. -/
  | cbTake (core : Fin 2) (ch : Fin 256)
  /-- CB_FLUSH (R455): A write of CB_FLUSH empties a channel without counting. -/
  | cbFlush (ch : Fin 256)
  /-- CB_LOCK (R457): A write of CB_LOCKn sets HOLDER to the value written. -/
  | cbLock (n : Fin 256) (w : LockWrite)
  /-- CB_ACQ (R456): A read of CB_ACQn acquires a free lock by round-robin, or returns the holder. -/
  | cbAcq (n : Fin 256) (readers : List (BitVec 12))
  /-- REMOTE_NOTICE (R452): An arriving notice packet is queued on the matching incoming channel through the aliases, or dropped and counted. -/
  | remoteNotice (src : BitVec 15) (ch : Fin 256) (notice : Word)
  /-- HEALTH_DECAY (R464): Every DECAY cues the internal health score falls by one. -/
  | healthDecay
  /-- RISK_REPORT (R466): The cue master receives a seat's risk report and updates the job estimate. -/
  | riskReport (seat : BitVec 15) (estimate : BitVec 8)
  /-- CHECKPOINT_ORDER (R474): A seat accepts the checkpoint order and starts the COPY drains and parity buffer copies. -/
  | checkpointOrder (k : BitVec 32) (n : BitVec 32) (layers : Fin 8)
  /-- PARITY_READY (R474): A member that receives a stripe holder's ready message sends its nonzero parity segment sectors as XOR reduce-writes. -/
  | parityReady (stripe : Fin 8)
  /-- CKPT_DONE (R476): The cue master receives a seat's CKPT_DONE, and with all of them floods CKPT_COMMIT. -/
  | ckptDone (seat : BitVec 15) (k : BitVec 32) (failed : Bool)
  /-- CKPT_COMMIT (R477): A seat commits its written slot and buffers, refreshes K, zeroes D, applies held deltas, clears HOLD and sets RS_CKPT. -/
  | ckptCommit (k : BitVec 32) (n : BitVec 32)
  /-- CKPT_ABANDON (R477): A seat discards the written slot and buffers, applies held deltas and clears HOLD. -/
  | ckptAbandon (k : BitVec 32)
  /-- FLASH_CHECKPOINT (R479): After a commit, the checkpoint is staged into F and its image written to the older flash slot. -/
  | flashCheckpoint
  /-- FLASH_IMAGE_COMPLETE (R479): The flash image write ends, writing its commit record and reporting FLASH_DURABLE, or reporting FLASH_FAIL. -/
  | flashImageComplete (ok : Bool)
  /-- STORE_CHECKPOINT (R481): A durable flash image is copied to a key region of the STORE session. -/
  | storeCheckpoint
  /-- STORE_COPY_COMPLETE (R481): The store copy ends with STORE_DURABLE or STORE_FAIL. -/
  | storeCopyComplete
  /-- STEP_DEADLINE (R483): A seat that has not met R50 by the step deadline halts its unended tiles, sends a discarding step-complete and writes STEP_TIMEOUT. -/
  | stepDeadline
  /-- STEP_COMPLETE_DEADLINE (R484): The cue master reports lost a seat whose step-complete is missing by STEP_LIMIT + 1024 cues. -/
  | stepCompleteDeadline
  /-- WATCHDOG_REFRESH (R487): Booth firmware refreshes the security block's booth watchdog. -/
  | watchdogRefresh
  /-- BOOTH_WATCHDOG (R487): After 50 ms without a refresh, the security block frees booth-held locks and resets both booth cores. -/
  | boothWatchdog
  /-- RECOVERY_REPORT (R488): The cue master receives a survivor's drained report with its last commit, and with all of them chooses the target and understudies. -/
  | recoveryReport (seat : BitVec 15) (k : BitVec 32) (n : BitVec 32)
  /-- RECOVER (R490): On RECOVER each survivor rolls its shards back to the target, and each promoted understudy is rebuilt from partner and parity. -/
  | recover (target : BitVec 32) (lost : List (BitVec 15)) (us : List (BitVec 15)) (b : Option Rebuild)
  /-- RESTORED (R488): The cue master receives a seat's restored report, and with all of them floods RESUME. -/
  | restored (m : RestoredMsg)
  /-- RESUME (R488): On RESUME each seat sets STEP to target + 1 and issues that step at the cue given. -/
  | resume (cue : Word) (step : BitVec 32)
  /-- POWER_ON (R525): VIN rising through 44.0 V starts a cold power-on reset at S0. -/
  | powerOn (vin : BitVec 16)
  /-- RESET_CONTACT (R574): RST_L held low for 10 µs starts a cold reset, and S0 starts when it rises. -/
  | resetContact
  /-- POWER_STAGE (R506): Stage S0 ramps the regulators, locks the clocks and charges the hold-up bank. -/
  | powerStage (us : BitVec 32) (charged : Bool)
  /-- ROOT_STAGE (R550): Stage S1 verifies firmware slots in order and starts booth core 0 from the first that passes, or stays in S1. -/
  | rootStage (us : BitVec 32)
  /-- HUB_STAGE (R506): Stage S2 clears hub SRAM, starts the promptbook, time base, cue count and flash controller, and copies the tail. -/
  | hubStage (us : BitVec 32) (tailOk : Bool)
  /-- MEMORY_STAGE (R507): Stage S3 trains, tests and zeroes the stacks and wings and reapplies the retirement list. -/
  | memoryStage (us : BitVec 32) (badStacks : List (Fin 8)) (badWings : List (Fin 8)) (listOk : Bool) (corrected : List (BitVec 40))
  /-- SELF_TEST_STAGE (R508): Stage S4 runs the tile self-test and then clears every tile store. -/
  | selfTestStage (us : BitVec 32) (fails : List (Tile × BitVec 8 × BitVec 20))
  /-- LINKS_STAGE (R506): Stage S5 trains the fabric ports and negotiates the front-of-house ports. -/
  | linksStage (us : BitVec 32)
  /-- CONFIGURATION_STAGE (R552): Stage S6 applies the configuration and ends in the boot lock, which sets the mode. -/
  | configurationStage (us : BitVec 32)
  /-- STAGE_TIMEOUT (R506): A boot stage not ended by its bound raises STAGE_TIMEOUT. -/
  | stageTimeout (stage : Fin 7)
  /-- PROMPTBOOK_WRITE (R518): The writer accepts one queued entry per booth cycle round-robin by SOURCE and gives it the next SEQ. -/
  | promptbookWrite
  /-- VIN_BAND_CHANGE (R525): VIN entering a warning band raises PW_UNDERVOLT or PW_OVERVOLT once. -/
  | vinBandChange (vin : BitVec 16)
  /-- POWER_FAIL (R536): VIN falling through 40.0 V, or over 60 V, starts the power-failure timeline and switches the bank onto the hub rails. -/
  | powerFail (vin : BitVec 16) (vbank : BitVec 16)
  /-- POWER_FAIL_STAGE_STOP (R536): By 10 µs issue, engines and links stop and VIO goes off. -/
  | powerFailStageStop
  /-- POWER_FAIL_RAILS_OFF (R536): By 100 µs the core, wings, stack and NOR rails go off and hold-up writes begin. -/
  | powerFailRailsOff
  /-- HOLDUP_WRITE_END (R536): At 18 ms, unfinished hold-up writes are abandoned. -/
  | holdupWriteEnd (tail : Bool) (written : Bool) (us : BitVec 32)
  /-- HOLDUP_END (R536): At the end of hold-up all rails go off, and the part starts cold if VIN is above 44 V. -/
  | holdupEnd (vin : BitVec 16)
  /-- RAIL_FAULT (R527): A rail out of band for 10 µs raises RAIL_FAULT and is handled as a trip of its die. -/
  | railFault (r : Rail)
  /-- CLK_UNLOCK (R539): A PLL losing lock raises CLK_UNLOCK and trips the dies, downs the ports or starts a cold reset. -/
  | clkUnlock (domain : Fin 19) (ports : BitVec 16)
  /-- GOVERNOR_FILL (R530): When a die's draw falls below its held level, the governor runs fill on idle arrays. -/
  | governorFill (die : Fin 8) (draw : BitVec 32)
  /-- FILL_DECAY (R530): After FILL_HOLD cues without a rise, the held level decays at 8 W per µs. -/
  | fillDecay
  /-- START_GRANT (R531): The governor grants first issues of tiles at rest, at most 512 per 50 µs, round-robin over die pairs. -/
  | startGrant
  /-- DUTY_STEP (R534): Every 10 µs the hold duty moves one step toward the largest demand. -/
  | dutyStep
  /-- CAP_EVALUATE (R535): The 1 ms average of input power raises or lowers the cap's demand. -/
  | capEvaluate (watts : BitVec 16)
  /-- THERMAL_SAMPLE (R540): Every 8 µs each die's temperature moves its thermal step and hold demand. -/
  | thermalSample (d : Fin 12) (temp : BitVec 8)
  /-- COOLANT_SAMPLE (R543): Every 1 ms the coolant temperatures may raise COOLANT_ALARM and its power demand, or trip the compute dies. -/
  | coolantSample (inlet : BitVec 8) (outlet : BitVec 8)
  /-- GET_REPORT (R556): Returns an attestation report signed by the identity key. -/
  | getReport (nonce : List Byte)
  /-- GET_CERT (R555): Returns bytes of the identity certificate chain. -/
  | getCert (req : List Byte)
  /-- CHALLENGE (R558): Returns a fresh debug challenge record, replacing any outstanding one. -/
  | challenge (req : List Byte)
  /-- CHALLENGE_EXPIRY (R558): An outstanding challenge expires 60 s after it is made. -/
  | challengeExpiry
  /-- UNLOCK (R558): Verifies signatures or a password response and sets PENDING to open a debug scope at the next warm reset. -/
  | unlock (req : List Byte)
  /-- CLOSE (R558): Closes any open debug scope and clears PENDING at once. -/
  | close (req : List Byte)
  /-- CLAIM (R561): In PROVISIONED state, fuses an owner key into OWNER0. -/
  | claim (req : List Byte)
  /-- ROTATE (R561): Fuses a new owner key into the next free slot and revokes the old one. -/
  | rotate (req : List Byte)
  /-- DECOMMISSION (R561): Revokes every owner slot and erases the configuration copies and checkpoint flash. -/
  | decommission (req : List Byte)
  /-- RESET (R564): The management RESET message, if RESET_EN is set, requests a warm reset 100 µs after its response. -/
  | reset (req : List Byte)
  /-- ENTDAA (R562): The management block takes an I3C dynamic address by ENTDAA. -/
  | entdaa (addr : BitVec 7)
  /-- SETDASA (R562): The management block takes its static address as its dynamic address. -/
  | setdasa
  /-- SET_ENDPOINT_ID (R563): MCTP control command that sets the endpoint ID. -/
  | setEndpointId (eid : BitVec 8)
  /-- GET_ENDPOINT_ID (R563): MCTP control command that returns the endpoint ID. -/
  | getEndpointId
  /-- GET_ENDPOINT_UUID (R563): MCTP control command that returns the endpoint UUID. -/
  | getEndpointUuid
  /-- GET_MCTP_VERSION_SUPPORT (R563): MCTP control command that returns the versions supported. -/
  | getMctpVersionSupport (type : BitVec 8)
  /-- GET_MESSAGE_TYPE_SUPPORT (R563): MCTP control command that returns the message types supported. -/
  | getMessageTypeSupport
  /-- GET_TID (R565): PLDM base command that returns the terminus ID. -/
  | getTid
  /-- SET_TID (R565): PLDM base command that sets the terminus ID. -/
  | setTid (tid : BitVec 8)
  /-- GET_PLDM_VERSION (R565): PLDM base command that returns versions. -/
  | getPldmVersion (type : BitVec 8)
  /-- GET_PLDM_TYPES (R565): PLDM base command that returns the types supported. -/
  | getPldmTypes
  /-- GET_PLDM_COMMANDS (R565): PLDM base command that returns the commands supported. -/
  | getPldmCommands (type : BitVec 8) (version : BitVec 32)
  /-- GET_PDR (R565): Returns a platform descriptor record. -/
  | getPdr (id : BitVec 32)
  /-- GET_SENSOR_READING (R565): Returns the latest sample of a sensor. -/
  | getSensorReading (id : BitVec 16)
  /-- SET_EVENT_RECEIVER (R565): Sets the receiver of platform events. -/
  | setEventReceiver (receiver : Option (BitVec 8))
  /-- SENSOR_SAMPLE (R565): Every 1 ms the sensors are sampled, and threshold crossings and state changes are sent as platform events. -/
  | sensorSample
  /-- REQUEST_UPDATE (R566): Starts a firmware or configuration update, or answers ALREADY_IN_UPDATE_MODE. -/
  | requestUpdate (image : Bool) (place : Fin 2)
  /-- UPDATE_COMPONENT (R566): Writes a slot image or configuration copy, manifest sector erased first and manifest written last. -/
  | updateComponent (off : BitVec 28) (data : List Byte) (last : Bool)
  /-- VERIFY_COMPLETE (R566): Runs the slot or configuration checks on what was written. -/
  | verifyComplete
  /-- ACTIVATE_FIRMWARE (R566): Sets the written slot's activation word so that it goes first at the next start-up. -/
  | activateFirmware
  /-- CANCEL_UPDATE (R566): Cancels the update and writes FW_UPDATE_FAIL. -/
  | cancelUpdate
  /-- RST_L_RISE (R574): When RST_L rises after being held low, the part leaves reset and S0 starts. -/
  | rstLRise
  /-- PFC_STORM_END (R398): One second after the PFC watchdog fires, the port stops ignoring received PFC for ROCE_PRIO and honours it again. -/
  | pfcStormEnd (p : Fin 4)
  deriving DecidableEq, Repr

end Sys2Proof
end

