-- ==== Sys2Proof/Decode.lean ====
section
/-!
DEFINITION. Decode.lean: the words of the opcode table. spec/opcode_table.json gives no row any bits (every row's fields are
empty), so no word spells a command. The bundle words a tile fetches are decoded in Machine/BundleCode.lean (R132-R138).
-/
namespace Sys2Proof

/-- The command a word spells by the table's bits: none, since the table gives no bits. -/
def decodeTableWord (_nbits _w : Nat) : Option Instr := none

end Sys2Proof
end

