-- ==== Sys2Proof/Machine/Bits.lean ====
section
/-!
DEFINITION. Machine/Bits.lean: bit ranges [high:low] (R7), byte order (R7), sign extension and the modular counts the
manual uses. Everything here works on `Nat` or on 64-bit words.
-/
namespace Sys2Proof.Machine

/-- Bits [hi:lo] of `n` (R7: bit 0 is the least significant). -/
def bitsOf (n hi lo : Nat) : Nat := (n >>> lo) % 2 ^ (hi + 1 - lo)

/-- Bit `i` of `n`. -/
def bitOf (n i : Nat) : Bool := (n >>> i) % 2 == 1

/-- `n` with bits [hi:lo] replaced by the low bits of `v`. -/
def putBits (n hi lo v : Nat) : Nat :=
  n - bitsOf n hi lo <<< lo + (v % 2 ^ (hi + 1 - lo)) <<< lo

/-- A mask of ones over [hi:lo]. -/
def maskOf (hi lo : Nat) : Nat := (2 ^ (hi + 1 - lo) - 1) <<< lo

/-- 1 or 0. -/
def b2n (b : Bool) : Nat := if b then 1 else 0

/-- Little-endian bytes of `n`, `k` of them (R7). -/
def leBytes (n : Nat) : Nat → List Byte
  | 0 => []
  | k + 1 => BitVec.ofNat 8 n :: leBytes (n / 256) k

/-- The number little-endian bytes spell (R7). -/
def ofLe : List Byte → Nat
  | [] => 0
  | b :: r => b.toNat + 256 * ofLe r

/-- Big-endian bytes (the keys and signatures of R549). -/
def beBytes (n k : Nat) : List Byte := (leBytes n k).reverse

def ofBe (l : List Byte) : Nat := ofLe l.reverse

/-- The signed value of the low `w` bits of `n`. -/
def signedOf (w n : Nat) : Int :=
  let m := n % 2 ^ w
  if m < 2 ^ (w - 1) then (m : Int) else (m : Int) - (2 ^ w : Nat)

/-- An integer wrapped to `w` bits. -/
def wrapTo (w : Nat) (i : Int) : Nat := (i % (2 ^ w : Nat)).toNat

/-- Sign extension of the low `w` bits to 64. -/
def sextW (w n : Nat) : Word := BitVec.ofInt 64 (signedOf w n)

/-- Saturating addition at `cap` (counters that stop at their all-ones value). -/
def satAdd (cap a b : Nat) : Nat := min cap (a + b)

/-- (a − b) modulo 2³², the index arithmetic of R409 and R520. -/
def sub32 (a b : Nat) : Nat := (a + 2 ^ 32 - b % 2 ^ 32) % 2 ^ 32

/-- `n` rounded up to a multiple of `m`. -/
def roundUp (n m : Nat) : Nat := if m = 0 then n else (n + m - 1) / m * m

/-- The first element at or after position `p` (with wrap) of `[0, n)` for which `f` holds: the round-robin of the
manual's arbiters ("from the one after the last grant"). -/
def roundRobin (n p : Nat) (f : Nat → Bool) : Option Nat :=
  ((List.range n).map (fun i => (p + i) % n)).find? f

/-- Insert by a key, after what has the same key. -/
def insertBy {α : Type} (k : α → Nat) (x : α) : List α → List α
  | [] => [x]
  | y :: r => if k x < k y then x :: y :: r else y :: insertBy k x r

/-- A list sorted by a key; elements of one key keep their order. -/
def sortBy {α : Type} (k : α → Nat) (l : List α) : List α := l.foldl (fun a x => insertBy k x a) []

/-- Replace element `i` of a list. -/
def listSet {α : Type} (l : List α) (i : Nat) (x : α) : List α := l.set i x

end Sys2Proof.Machine
end

