-- ==== Sys2Proof/Machine/Float.lean ====
section
/-!
DEFINITION. Machine/Float.lean: exact values, rounding and the arithmetic of IEEE 754-2019 as the manual uses it (R75-R82,
R180, R581, R582). A value is held exactly (an integer times a power of two); every operation computes the exact result
and rounds once. Flags are a mask over the bits of TA_CVT_STATUS (Table 3.12).
-/
namespace Sys2Proof.Machine

-- The bits of Table 3.12.
def fSat : Nat := 1
def fInfSat : Nat := 2
def fNanIn : Nat := 4
def fInvalid : Nat := 8
def fDivzero : Nat := 16
def fOverflow : Nat := 32
def fUnderflow : Nat := 64
def fInexact : Nat := 128
def fModeFix : Nat := 256

/-- The rounding modes of Table 3.3. -/
inductive RMode where
  | rne | rtz | rup | rdn | sr
  deriving DecidableEq, Repr

/-- ROUND of a format word (Table 3.3); the reserved codes give none. -/
def RMode.ofCode : Nat → Option RMode
  | 0 => some .rne | 1 => some .rtz | 2 => some .rup | 3 => some .rdn | 4 => some .sr | _ => none

/-- An exact value. `fin s m e` is (−1)^s · m · 2^e. `nan q s p` is a NaN with quiet bit q, sign s and the rest of its
fraction p in the B64 fraction's places [50:0]; `anyNan` is a quiet NaN whose sign and payload the manual leaves open. -/
inductive Val where
  | nan (quiet : Bool) (s : Bool) (p : Nat)
  | anyNan
  | inf (s : Bool)
  | fin (s : Bool) (m : Nat) (e : Int)
  deriving DecidableEq, Repr

/-- The default NaN of R78. -/
def defaultNan : Val := .nan true false 0

def Val.isNan : Val → Bool
  | .nan _ _ _ => true
  | .anyNan => true
  | _ => false

def Val.isSnan : Val → Bool
  | .nan q _ _ => !q
  | _ => false

def Val.isInf : Val → Bool
  | .inf _ => true
  | _ => false

def Val.isZero : Val → Bool
  | .fin _ 0 _ => true
  | _ => false

def Val.sign : Val → Bool
  | .nan _ s _ => s
  | .anyNan => false
  | .inf s => s
  | .fin s _ _ => s

def Val.neg : Val → Val
  | .nan q s p => .nan q (!s) p
  | .anyNan => .anyNan
  | .inf s => .inf (!s)
  | .fin s m e => .fin (!s) m e

def Val.abs : Val → Val
  | .nan q _ p => .nan q false p
  | .anyNan => .anyNan
  | .inf _ => .inf false
  | .fin _ m e => .fin false m e

/-- A zero of the given sign. -/
def Val.zero (s : Bool) : Val := .fin s 0 0

/-- A binary format: precision `p`, and `qmin` the exponent of its smallest subnormal; `emax` its largest exponent. -/
structure FFmt where
  p : Nat
  qmin : Int
  emax : Int
  deriving DecidableEq, Repr

def fB32 : FFmt := ⟨24, -149, 127⟩
def fB64 : FFmt := ⟨53, -1074, 1023⟩
/-- SK16 (Table 3.4): subnormal step 2⁻³⁹. -/
def fSK16 : FFmt := ⟨10, -39, 32⟩
/-- SKB8 elements (Table 3.6). -/
def fSKB8 : FFmt := ⟨4, -9, 8⟩
/-- SKB4 elements (Table 3.6). -/
def fSKB4 : FFmt := ⟨2, -1, 2⟩

/-- m · 2^(e − q) as a whole number of units 2^q, with the remainder compared with one half:
(whole, remainder = 0?, ordering of the remainder against half). -/
def unitsOf (m : Nat) (e q : Int) (sticky : Bool) : Nat × Bool × Ordering :=
  if q ≤ e then (m <<< (e - q).toNat, !sticky, .lt)
  else
    let k := (q - e).toNat
    let r := m % 2 ^ k
    let h := 2 ^ (k - 1)
    (m >>> k, r == 0 && !sticky, if r < h then .lt else if r == h && !sticky then .eq else .gt)

/-- Does the mode round the magnitude up? `odd`: the truncated unit count is odd. `draw`: under SR, R97's r with the
share floor(65536 · remainder). -/
def roundsUp (mode : RMode) (s odd exact : Bool) (cmp : Ordering) (share draw : Nat) : Bool :=
  if exact then false else
  match mode with
  | .rne => cmp == .gt || (cmp == .eq && odd)
  | .rtz => false
  | .rup => !s
  | .rdn => s
  | .sr => decide (share > draw)

/-- floor(65536 × remainder share) of R97. -/
def srShare (m : Nat) (e q : Int) : Nat :=
  if q ≤ e then 0 else
    let k := (q - e).toNat
    (65536 * (m % 2 ^ k)) >>> k

/-- The magnitude m·2^e (just above it when `sticky`) rounded to whole units of 2^q: (units, was exact). -/
def roundUnits (mode : RMode) (s : Bool) (m : Nat) (e q : Int) (sticky : Bool) (draw : Nat) : Nat × Bool :=
  let u := unitsOf m e q sticky
  let up := roundsUp mode s (u.1 % 2 == 1) u.2.1 u.2.2 (srShare m e q) draw
  (if up then u.1 + 1 else u.1, u.2.1)

/-- The unit exponent a format gives a magnitude: its last place, no finer than the subnormal step. -/
def quantum (f : FFmt) (m : Nat) (e : Int) : Int :=
  max f.qmin ((Nat.log2 m : Int) + e - (f.p - 1 : Nat))

/-- Largest finite value of a format in units of 2^(emax − p + 1). -/
def FFmt.maxUnits (f : FFmt) : Nat := 2 ^ f.p - 1

/-- Rounding to an IEEE format with the flags of R581: (value on the grid, flags). -/
def roundIeee (f : FFmt) (mode : RMode) (s : Bool) (m : Nat) (e : Int) (sticky : Bool) : Val × Nat :=
  if m = 0 then (.zero s, 0) else
  let q := quantum f m e
  let r := roundUnits mode s m e q sticky 0
  let inex := if r.2 then 0 else fInexact
  -- tininess after rounding: with the exponent range unbounded (R581)
  let q' : Int := (Nat.log2 m : Int) + e - (f.p - 1 : Nat)
  let r' := roundUnits mode s m e q' sticky 0
  let tiny := decide ((Nat.log2 r'.1 : Int) + q' < f.qmin + (f.p - 1 : Nat))
  if decide ((Nat.log2 r.1 : Int) + q > f.emax) && r.1 != 0 then
    let toInf := match mode with
      | .rne => true | .rtz => false | .rup => !s | .rdn => s | .sr => true
    (if toInf then .inf s else .fin s f.maxUnits (f.emax - (f.p - 1 : Nat)), fOverflow ||| fInexact)
  else
    (.fin s r.1 q, inex ||| (if tiny && !r.2 then fUnderflow else 0))

/-- Rounding a value (NaNs and infinities pass). -/
def roundVal (f : FFmt) (mode : RMode) (v : Val) : Val × Nat :=
  match v with
  | .fin s m e => roundIeee f mode s m e false
  | _ => (v, 0)

/-- The bit pattern (below the sign) of `n` units of 2^q on a format's grid: subnormals, normals and the carry into the
next binade fall out of one sum. -/
def gridBits (f : FFmt) (n : Nat) (q : Int) : Nat := n + (q - f.qmin).toNat * 2 ^ (f.p - 1)

/-- An exactly representable magnitude put on its format's grid. -/
def magBits (f : FFmt) (m : Nat) (e : Int) : Nat :=
  if m = 0 then 0 else
    let q := quantum f m e
    gridBits f (unitsOf m e q false).1 q

/-- An IEEE bit pattern of width `w` (32 or 64); `free` supplies the sign and payload of `anyNan`. -/
def encodeIeee (f : FFmt) (w : Nat) (free : Nat) (v : Val) : Nat :=
  let fb := f.p - 1
  let expAll := (2 ^ (w - 1 - fb) - 1) * 2 ^ fb
  match v with
  | .fin s m e => b2n s * 2 ^ (w - 1) + magBits f m e
  | .inf s => b2n s * 2 ^ (w - 1) + expAll
  | .nan q s p =>
    let frac := p >>> (52 - fb)
    let body := b2n q * 2 ^ (fb - 1) + frac
    b2n s * 2 ^ (w - 1) + expAll + (if body = 0 then 1 else body)
  | .anyNan => (free % 2) * 2 ^ (w - 1) + expAll + 2 ^ (fb - 1) + (free / 2) % 2 ^ (fb - 1)

/-- An IEEE bit pattern as an exact value. -/
def decodeIeee (f : FFmt) (w bits : Nat) : Val :=
  let fb := f.p - 1
  let s := bitOf bits (w - 1)
  let frac := bits % 2 ^ fb
  let ef := (bits >>> fb) % 2 ^ (w - 1 - fb)
  if ef = 2 ^ (w - 1 - fb) - 1 then
    if frac = 0 then .inf s
    else .nan (bitOf frac (fb - 1)) s ((frac % 2 ^ (fb - 1)) <<< (52 - fb))
  else if ef = 0 then .fin s frac f.qmin
  else .fin s (2 ^ fb + frac) (f.qmin + (ef - 1 : Nat))

def decB32 (b : Nat) : Val := decodeIeee fB32 32 b
def decB64 (b : Nat) : Val := decodeIeee fB64 64 b
def encB32 (free : Nat) (v : Val) : Nat := encodeIeee fB32 32 free v
def encB64 (free : Nat) (v : Val) : Nat := encodeIeee fB64 64 free v

/-- Flags of a NaN operand: a signalling NaN raises INVALID. -/
def nanFlags (l : List Val) : Nat := if l.any Val.isSnan then fInvalid else 0

/-- The exact sum of two finite values as (sign, magnitude, exponent); an exact zero takes the sign IEEE 754 gives it. -/
def exactAdd (mode : RMode) (s1 : Bool) (m1 : Nat) (e1 : Int) (s2 : Bool) (m2 : Nat) (e2 : Int) : Val :=
  let e := min e1 e2
  let a : Int := (if s1 then -1 else 1) * ((m1 <<< (e1 - e).toNat : Nat) : Int)
  let b : Int := (if s2 then -1 else 1) * ((m2 <<< (e2 - e).toNat : Nat) : Int)
  let t := a + b
  if t = 0 then
    if m1 = 0 ∧ m2 = 0 ∧ s1 = s2 then .zero s1 else .zero (mode == .rdn)
  else .fin (decide (t < 0)) t.natAbs e

/-- The exact sum of two values, before rounding (used where only the final rounding is observable). -/
def addExact (mode : RMode) (x y : Val) : Val × Nat :=
  match x, y with
  | .fin s1 m1 e1, .fin s2 m2 e2 => (exactAdd mode s1 m1 e1 s2 m2 e2, 0)
  | .inf s1, .inf s2 => if s1 = s2 then (.inf s1, 0) else (defaultNan, fInvalid)
  | .inf s, .fin _ _ _ => (.inf s, 0)
  | .fin _ _ _, .inf s => (.inf s, 0)
  | _, _ => (.anyNan, nanFlags [x, y])

/-- The exact product. -/
def mulExact (x y : Val) : Val × Nat :=
  match x, y with
  | .fin s1 m1 e1, .fin s2 m2 e2 => (.fin (s1 != s2) (m1 * m2) (e1 + e2), 0)
  | .inf s1, .inf s2 => (.inf (s1 != s2), 0)
  | .inf s1, .fin s2 m _ => if m = 0 then (defaultNan, fInvalid) else (.inf (s1 != s2), 0)
  | .fin s1 m _, .inf s2 => if m = 0 then (defaultNan, fInvalid) else (.inf (s1 != s2), 0)
  | _, _ => (.anyNan, nanFlags [x, y])

/-- addition of IEEE 754-2019. -/
def fAdd (f : FFmt) (mode : RMode) (x y : Val) : Val × Nat :=
  let a := addExact mode x y
  let r := roundVal f mode a.1
  (r.1, a.2 ||| r.2)

def fSub (f : FFmt) (mode : RMode) (x y : Val) : Val × Nat := fAdd f mode x y.neg

/-- multiplication. -/
def fMul (f : FFmt) (mode : RMode) (x y : Val) : Val × Nat :=
  let a := mulExact x y
  let r := roundVal f mode a.1
  (r.1, a.2 ||| r.2)

/-- fusedMultiplyAdd, with R582: 0 × ∞ is invalid whatever the addend. -/
def fFma (f : FFmt) (mode : RMode) (x y z : Val) : Val × Nat :=
  let p := mulExact x y
  if p.2 ≠ 0 ∧ !(x.isNan || y.isNan) then (defaultNan, fInvalid)
  else if x.isNan || y.isNan || z.isNan then (.anyNan, nanFlags [x, y, z])
  else
    let a := addExact mode p.1 z
    let r := roundVal f mode a.1
    (r.1, a.2 ||| r.2)

/-- division. -/
def fDiv (f : FFmt) (mode : RMode) (x y : Val) : Val × Nat :=
  match x, y with
  | .fin s1 m1 e1, .fin s2 m2 e2 =>
    let s := s1 != s2
    if m2 = 0 then if m1 = 0 then (defaultNan, fInvalid) else (.inf s, fDivzero)
    else if m1 = 0 then (.zero s, 0)
    else
      let k := Nat.log2 m2 + f.p + 3
      let n := m1 <<< k
      roundIeee f mode s (n / m2) (e1 - e2 - (k : Int)) (n % m2 != 0)
  | .inf s1, .fin s2 _ _ => (.inf (s1 != s2), 0)
  | .fin s1 _ _, .inf s2 => (.zero (s1 != s2), 0)
  | .inf _, .inf _ => (defaultNan, fInvalid)
  | _, _ => (.anyNan, nanFlags [x, y])

/-- Integer square root, bit by bit from bit `k`. -/
def isqrt (n : Nat) : Nat → Nat → Nat
  | 0, r => if (r + 1) * (r + 1) ≤ n then r + 1 else r
  | k + 1, r => let t := r + 2 ^ (k + 1); isqrt n k (if t * t ≤ n then t else r)

/-- squareRoot. -/
def fSqrt (f : FFmt) (mode : RMode) (x : Val) : Val × Nat :=
  match x with
  | .fin s m e =>
    if m = 0 then (.zero s, 0)
    else if s then (defaultNan, fInvalid)
    else
      let k0 := 2 * f.p + 6
      let k := if (e - (k0 : Int)) % 2 = 0 then k0 else k0 + 1
      let n := m <<< k
      let r := isqrt n (Nat.log2 n / 2) 0
      roundIeee f mode false r ((e - (k : Int)) / 2) (r * r != n)
  | .inf s => if s then (defaultNan, fInvalid) else (.inf false, 0)
  | _ => (.anyNan, nanFlags [x])

/-- Exact comparison of finite values: x < y. -/
def ltFin (s1 : Bool) (m1 : Nat) (e1 : Int) (s2 : Bool) (m2 : Nat) (e2 : Int) : Bool :=
  let e := min e1 e2
  let a : Int := (if s1 then -1 else 1) * ((m1 <<< (e1 - e).toNat : Nat) : Int)
  let b : Int := (if s2 then -1 else 1) * ((m2 <<< (e2 - e).toNat : Nat) : Int)
  decide (a < b)

/-- x < y, false on a NaN. -/
def Val.lt (x y : Val) : Bool :=
  match x, y with
  | .fin s1 m1 e1, .fin s2 m2 e2 => ltFin s1 m1 e1 s2 m2 e2
  | .inf s1, .inf s2 => s1 && !s2
  | .inf s, .fin _ _ _ => s
  | .fin _ _ _, .inf s => !s
  | _, _ => false

/-- x = y, false on a NaN; the two zeros are equal. -/
def Val.eq (x y : Val) : Bool := !x.isNan && !y.isNan && !x.lt y && !y.lt x

def Val.le (x y : Val) : Bool := x.lt y || x.eq y

/-- minimumNumber and maximumNumber (R180): a number beats a NaN, −0 is below +0, a signalling NaN raises INVALID. -/
def fMinMax (isMax : Bool) (x y : Val) : Val × Nat :=
  let fl := nanFlags [x, y]
  if x.isNan && y.isNan then (.anyNan, fl)
  else if x.isNan then (y, fl)
  else if y.isNan then (x, fl)
  else if x.eq y then (if (x.sign == isMax) then y else x, 0)
  else (if x.lt y == isMax then y else x, 0)

/-- FKIND (R180): the 4-bit class code. `f` is the format whose subnormals are told apart. -/
def fKind (f : FFmt) (v : Val) : Nat :=
  match v with
  | .fin s m e => 8 * b2n s + (if m = 0 then 0 else if magBits f m e < 2 ^ (f.p - 1) then 1 else 2)
  | .inf s => 8 * b2n s + 3
  | .nan q s _ => 8 * b2n s + (if q then 4 else 5)
  | .anyNan => 4

/-- A NaN passing from one IEEE format to the other (R78): quieted, with INVALID if it signalled; the payload's
high-order bits are kept (`encodeIeee` drops what the destination does not hold). -/
def quieten (v : Val) : Val × Nat :=
  match v with
  | .nan q s p => (.nan true s p, if q then 0 else fInvalid)
  | _ => (v, 0)

/-- Two values as exact reals: |x| as a natural times 2^e compared; used to find the largest magnitude (R90). -/
def magLt (x y : Val) : Bool := x.abs.lt y.abs

end Sys2Proof.Machine
end

