-- ==== Sys2Proof/Machine/NumFmt.lean ====
section
/-!
DEFINITION. Machine/NumFmt.lean: the number formats of chapter 3: the format word (R74-R76), the decoding of every format
(R79, R81-R85), the panel layout of block-scaled tensors (R86, R87, R106), every conversion (R90-R96), and the counts an
encoding raises (R100, R296).
-/
namespace Sys2Proof.Machine

/-- The formats of Table 3.2. -/
inductive NFmt where
  | b64 | b32 | b32x2 | sk16 | skb8 | skb4
  | int (signed : Bool) (bits : Nat)
  deriving DecidableEq, Repr

/-- The format a code names (Table 3.2); the other codes are reserved. -/
def NFmt.ofCode : Nat → Option NFmt
  | 0x01 => some .b64 | 0x02 => some .b32 | 0x03 => some .b32x2 | 0x04 => some .sk16
  | 0x08 => some .skb8 | 0x09 => some .skb4
  | 0x10 => some (.int true 8) | 0x11 => some (.int true 16) | 0x12 => some (.int true 32)
  | 0x18 => some (.int false 8) | 0x19 => some (.int false 16) | 0x1A => some (.int false 32)
  | _ => none

def NFmt.isSkb : NFmt → Bool
  | .skb8 => true | .skb4 => true | _ => false

def NFmt.isInt : NFmt → Bool
  | .int _ _ => true | _ => false

/-- SK16, SKB8 and SKB4: the destinations of R91. -/
def NFmt.isVendor : NFmt → Bool
  | .sk16 => true | .skb8 => true | .skb4 => true | _ => false

/-- Element size in bits (Table 3.2). -/
def NFmt.bits : NFmt → Nat
  | .b64 => 64 | .b32 => 32 | .b32x2 => 64 | .sk16 => 16 | .skb8 => 8 | .skb4 => 4
  | .int _ b => b

/-- A format word taken apart (Table 3.1). -/
structure FmtWord where
  fmt : NFmt
  block : Nat
  esc : Bool
  round : Nat
  deriving DecidableEq, Repr

/-- The fields of a format word; a reserved code gives none. -/
def FmtWord.ofWord (w : Nat) : Option FmtWord :=
  match NFmt.ofCode (bitsOf w 7 0) with
  | none => none
  | some f => some ⟨f, 2 ^ (4 + bitsOf w 9 8), bitOf w 10, bitsOf w 13 11⟩

/-- What the verifier accepts of a format word by R74 and R76: no reserved bits, no reserved ROUND, no BLOCK or ESC on a
format without blocks. -/
def fmtWordLegal (w : Nat) : Bool :=
  match FmtWord.ofWord w with
  | none => false
  | some f => bitsOf w 15 14 == 0 && decide (f.round ≤ 4) && (f.fmt.isSkb || bitsOf w 10 8 == 0)

/-- R75: the modes a destination allows. -/
def roundAllowed (f : NFmt) (code : Nat) : Bool :=
  if f.isVendor then code == 0 || code == 4 else decide (code ≤ 3)

/-- The mode a judged word gives and whether it had to be replaced by RNE (R76). -/
def effRound (f : NFmt) (code : Nat) : RMode × Bool :=
  if roundAllowed f code then ((RMode.ofCode code).getD .rne, false) else (.rne, true)

/-- Bytes of an element of an unblocked format. -/
def NFmt.size (f : NFmt) : Nat := (f.bits + 7) / 8

/-- SK16 decoding (R81, Table 3.4). -/
def decSK16 (b : Nat) : Val :=
  let c := b % 65536
  if c = 0xFFFF then defaultNan
  else
    let s := bitOf c 15
    let e := bitsOf c 14 9
    let f := bitsOf c 8 0
    if e = 0 then .fin s f (-39) else .fin s (512 + f) ((e : Int) - 40)

/-- SKB8 element decoding (R82, Table 3.6). -/
def decSKB8 (b : Nat) : Val :=
  let e := bitsOf b 6 3
  let f := bitsOf b 2 0
  if e = 0 then .fin (bitOf b 7) f (-9) else .fin (bitOf b 7) (8 + f) ((e : Int) - 10)

/-- SKB4 element decoding (R82, Table 3.6). -/
def decSKB4 (b : Nat) : Val :=
  let e := bitsOf b 2 1
  let f := bitsOf b 0 0
  if e = 0 then .fin (bitOf b 3) f (-1) else .fin (bitOf b 3) (2 + f) ((e : Int) - 2)

/-- A value times 2^k. -/
def Val.scale (v : Val) (k : Int) : Val :=
  match v with
  | .fin s m e => .fin s m (e + k)
  | _ => v

/-- Element `i` of a block, by the cases of R85. `esc` is none when the format word has ESC = 0. -/
def decBlockElem (f : NFmt) (block i elem scale : Nat) (esc : Option Nat) : Val :=
  if scale % 256 = 0xFF then defaultNan
  else
    let e := match esc with
      | none => none
      | some r => if bitOf r 23 && bitsOf r 22 16 == i && decide (bitsOf r 22 16 < block) then some (bitsOf r 15 0) else none
    match e with
    | some v => decSK16 v
    | none =>
      if scale % 256 = 0 then .zero false
      else ((if f = .skb4 then decSKB4 elem else decSKB8 elem)).scale ((scale % 256 : Nat) - 127 : Int)

/-- The value of a B32x2 pair (R79): hi + lo exactly; hi's when hi is an infinity or a NaN, lo's when only lo is. A zero
lo leaves hi, with its sign. -/
def pairVal (hi lo : Val) : Val :=
  match hi with
  | .fin _ _ _ => (match lo with
    | .fin _ m _ => if m = 0 then hi else (addExact .rne hi lo).1
    | _ => lo)
  | _ => hi

/-- The value of an element's bits, blocks aside (R79, R81; integers of chapter 3, "Integers"). -/
def decElem (f : NFmt) (b : Nat) : Val :=
  match f with
  | .b64 => decB64 b
  | .b32 => decB32 b
  | .b32x2 => pairVal (decB32 (b % 2 ^ 32)) (decB32 (b >>> 32))
  | .sk16 => decSK16 b
  | .skb8 => decSKB8 b
  | .skb4 => decSKB4 b
  | .int sg w => if sg then let i := signedOf w b; .fin (decide (i < 0)) i.natAbs 0 else .fin false (b % 2 ^ w) 0

/-- The counters of R296. -/
structure EncCnt where
  elements : Nat := 0
  saturated : Nat := 0
  vanished : Nat := 0
  blocks : Nat := 0
  zeroBlocks : Nat := 0
  escNarrowed : Nat := 0
  nanOut : Nat := 0
  deriving DecidableEq, Repr

def EncCnt.zero : EncCnt := ⟨0, 0, 0, 0, 0, 0, 0⟩

def EncCnt.add (a b : EncCnt) : EncCnt :=
  ⟨a.elements + b.elements, a.saturated + b.saturated, a.vanished + b.vanished, a.blocks + b.blocks,
   a.zeroBlocks + b.zeroBlocks, a.escNarrowed + b.escNarrowed, a.nanOut + b.nanOut⟩

/-- What a conversion did besides its result: status bits (Table 3.12), elements that saturated (R100), and the counts of
R296. -/
structure CvtStat where
  flags : Nat := 0
  sats : Nat := 0
  enc : EncCnt := {}
  deriving DecidableEq, Repr

def CvtStat.none : CvtStat := ⟨0, 0, EncCnt.zero⟩

def CvtStat.join (a b : CvtStat) : CvtStat := ⟨a.flags ||| b.flags, a.sats + b.sats, a.enc.add b.enc⟩

def CvtStat.ofFlags (f : Nat) : CvtStat := ⟨f, 0, EncCnt.zero⟩

/-- The largest finite magnitude of a vendor format in units of its top binade's last place: SK16 loses one unit on the
negative side to its NaN (Table 3.5). -/
def vendorMaxUnits (f : FFmt) (s : Bool) : Nat :=
  if f = fSK16 ∧ s = true then f.maxUnits - 1 else f.maxUnits

/-- The scalar rule R91 on a vendor grid: (bits below the sign, sign, flags). NaNs are handled by the caller. -/
def encVendorMag (f : FFmt) (mode : RMode) (draw : Nat) (v : Val) : Nat × Bool × Nat :=
  let qtop : Int := f.emax - (f.p - 1 : Nat)
  match v with
  | .inf s => (gridBits f (vendorMaxUnits f s) qtop, s, fSat ||| fInfSat)
  | .fin s m e =>
    if m = 0 then (0, s, 0) else
    let q := quantum f m e
    let r := roundUnits mode s m e q false draw
    -- r units of 2^q against the largest finite value in units of 2^qtop
    let ovr := if qtop ≤ q then decide (vendorMaxUnits f s < r.1 <<< (q - qtop).toNat)
      else decide (vendorMaxUnits f s <<< (qtop - q).toNat < r.1)
    if ovr then (gridBits f (vendorMaxUnits f s) qtop, s, fSat) else (gridBits f r.1 q, s, 0)
  | _ => (0, false, 0)

/-- Conversion into SK16 (R91): the code and what it did. -/
def encSK16 (mode : RMode) (draw : Nat) (v : Val) : Nat × CvtStat :=
  if v.isNan then (0xFFFF, ⟨fNanIn, 0, { EncCnt.zero with elements := 1, nanOut := 1 }⟩)
  else
    let r := encVendorMag fSK16 mode draw v
    let code := b2n r.2.1 * 2 ^ 15 + r.1
    let sat := if r.2.2 = 0 then 0 else 1
    let van := match v with | .fin _ m _ => if m ≠ 0 ∧ r.1 = 0 then 1 else 0 | _ => 0
    (code, ⟨r.2.2, sat, { EncCnt.zero with elements := 1, saturated := sat, vanished := van }⟩)

/-- The element format of an SKB format. -/
def NFmt.elemFmt (f : NFmt) : FFmt := if f = .skb4 then fSKB4 else fSKB8

/-- floor(log2 |v|) of a finite nonzero value. -/
def Val.ilog2 : Val → Int
  | .fin _ m e => (Nat.log2 m : Int) + e
  | _ => 0

/-- The scale R90 gives the largest finite magnitude `m` (not zero). -/
def chooseScale (f : NFmt) (m : Val) : Nat :=
  let ef := f.elemFmt
  let t : Int := m.ilog2 - ef.emax
  let maxelem : Val := .fin false ef.maxUnits (ef.emax - (ef.p - 1 : Nat))
  let t := if maxelem.lt (m.scale (-t)).abs then t + 1 else t
  (min (max (t + 127) 1) 0xFE).toNat

/-- The index of the largest magnitude, the lowest where equal, an infinity counting as largest (R90). -/
def largestIdx (x : List Val) : Nat :=
  let mag := fun v : Val => v.abs
  (x.zipIdx.foldl (fun (best : Nat × Val) (p : Val × Nat) => if best.2.lt (mag p.1) then (p.2, mag p.1) else best)
    (0, mag (x.headD (.zero false)))).1

/-- The largest finite magnitude over the elements other than `k`. -/
def largestFinite (x : List Val) (k : Option Nat) : Val :=
  x.zipIdx.foldl (fun best p =>
    if some p.2 = k then best
    else match p.1 with
      | .fin _ m e => if best.lt (.fin false m e) then .fin false m e else best
      | _ => best) (.zero false)

/-- One encoded block: element codes, scale, escape record (Table 3.8), what it did, and which elements saturated. -/
structure EncBlock where
  elems : List Nat
  scale : Nat
  esc : Nat
  stat : CvtStat
  sat : List Bool
  deriving DecidableEq, Repr

/-- R90 on the exact source values of one block. `real` counts the elements that are not padding (R296); `draw i` is the
SR draw of element i and `draw b` that of the escape value (R98). -/
def encBlock (f : NFmt) (esc : Bool) (mode : RMode) (draw : Nat → Nat) (real : Nat) (x : List Val) : EncBlock :=
  let b := x.length
  let cnt : EncCnt := { EncCnt.zero with blocks := 1, elements := min real b }
  let zeros := List.replicate b 0
  let nosat := List.replicate b false
  if x.any Val.isNan then ⟨zeros, 0xFF, 0, ⟨fNanIn, 0, { cnt with nanOut := 1 }⟩, nosat⟩
  else
    let k : Option Nat := if esc && x.any (fun v => !v.isZero) then some (largestIdx x) else none
    let xk : Val := match k with | some i => x.getD i (.zero false) | none => .zero false
    let kr := match k with | some _ => encSK16 mode (draw b) xk | none => (0, CvtStat.none)
    let rec_ := match k with | some i => 2 ^ 23 + i * 2 ^ 16 + kr.1 | none => 0
    let ksat := decide (kr.2.sats ≠ 0)
    let kstat : CvtStat := ⟨kr.2.flags, kr.2.sats, { EncCnt.zero with saturated := kr.2.sats }⟩
    let m := largestFinite x k
    let otherInf := x.zipIdx.any (fun p => p.1.isInf && decide (some p.2 ≠ k))
    if m.isZero && !otherInf then
      ⟨zeros, 0, rec_,
        kstat.join ⟨0, 0, { cnt with zeroBlocks := 1, escNarrowed := if k.isSome then 1 else 0 }⟩,
        nosat.zipIdx.map (fun p => ksat && decide (some p.2 = k))⟩
    else
      let scale := if m.isZero then 0xFE else chooseScale f m
      -- ESC_NARROWED of R296: the scale with the escape element counted in m
      let wide : Nat := if xk.isInf then (if m.isZero then 0xFE else scale)
        else chooseScale f (if m.lt xk.abs then xk.abs else m)
      let per := x.zipIdx.map (fun p =>
        if some p.2 = k then (0, 0, 0)
        else
          let r := encVendorMag f.elemFmt mode (draw p.2) (p.1.scale (127 - (scale : Int)))
          let signBit := if f = .skb4 then 8 else 128
          let van := match p.1 with | .fin _ mm _ => if mm ≠ 0 ∧ r.1 = 0 then 1 else 0 | _ => 0
          (b2n r.2.1 * signBit + r.1, r.2.2, van))
      let satn := (per.filter (fun q => q.2.1 != 0)).length
      let st : CvtStat :=
        ⟨per.foldl (fun a q => a ||| q.2.1) 0, satn,
          { cnt with
            saturated := satn
            vanished := per.foldl (fun a q => a + q.2.2) 0
            escNarrowed := if k.isSome && decide (scale < wide) then 1 else 0 }⟩
      ⟨per.map (fun q => q.1), scale, rec_, kstat.join st,
        per.zipIdx.map (fun q => q.1.2.1 != 0 || (ksat && decide (some q.2 = k)))⟩

/-- Conversion into B32 or B64 (R78, R92, rows E, I and D of Table 3.11). -/
def toIeee (f : FFmt) (w : Nat) (mode : RMode) (v : Val) : Nat × Nat :=
  if v.isNan then let q := quieten v; (encodeIeee f w 0 q.1, q.2)
  else let r := roundVal f mode v; (encodeIeee f w 0 r.1, r.2)

/-- Conversion into a pair (R93; rows E, P and D of Table 3.11). In a directed mode the fourth case can give a lo of half an ulp beside
an odd hi, which R80 does not call canonical; the formula is followed all the same (DESIGN CHOICE: R93 says both). -/
def toPair (mode : RMode) (v : Val) : Nat × Nat :=
  match v with
  | .fin _ m _ =>
    let h := (roundVal fB32 .rne v).1
    if h.isInf then let r := roundVal fB32 mode v; (encB32 0 r.1, r.2)
    else if m = 0 then (encB32 0 v, 0)
    else if h.isZero then let r := roundVal fB32 mode v; (encB32 0 r.1, r.2)
    else
      let d := (addExact .rne v h.neg).1
      let r := if d.isZero then (Val.zero false, 0) else roundVal fB32 mode d
      (encB32 0 h + encB32 0 r.1 * 2 ^ 32, r.2)
  | _ => toIeee fB32 32 mode v

/-- The least and greatest values of an integer format. -/
def intMin (sg : Bool) (w : Nat) : Int := if sg then -(2 ^ (w - 1) : Nat) else 0
def intMax (sg : Bool) (w : Nat) : Int := if sg then (2 ^ (w - 1) : Nat) - 1 else (2 ^ w : Nat) - 1

/-- Rounding a finite value to an integer: (integer, was exact). -/
def roundToInt (mode : RMode) (s : Bool) (m : Nat) (e : Int) : Int × Bool :=
  let r := roundUnits mode s m e 0 false 0
  ((if s then -1 else 1) * (r.1 : Int), r.2)

/-- Conversion to an integer format (R95). -/
def toInt (sg : Bool) (w : Nat) (mode : RMode) (v : Val) : Nat × Nat :=
  match v with
  | .fin s m e =>
    let r := roundToInt mode s m e
    if r.1 < intMin sg w then (wrapTo w (intMin sg w), fInvalid)
    else if intMax sg w < r.1 then (wrapTo w (intMax sg w), fInvalid)
    else (wrapTo w r.1, if r.2 then 0 else fInexact)
  | .inf s => (wrapTo w (if s then intMin sg w else intMax sg w), fInvalid)
  | _ => (0, fInvalid)

/-- Conversion between integer formats (R96). -/
def intToInt (sg : Bool) (w : Nat) (i : Int) : Nat × CvtStat :=
  if i < intMin sg w then (wrapTo w (intMin sg w), ⟨fSat, 1, EncCnt.zero⟩)
  else if intMax sg w < i then (wrapTo w (intMax sg w), ⟨fSat, 1, EncCnt.zero⟩)
  else (wrapTo w i, CvtStat.none)

/-- The integer a finite integral value holds. -/
def Val.toInteger : Val → Int
  | .fin s m e => (if s then -1 else 1) * ((if 0 ≤ e then m <<< e.toNat else m >>> (-e).toNat : Nat) : Int)
  | _ => 0

/-- One value into an unblocked destination (Table 3.10). `fromInt` tells row "Integers" apart. -/
def cvtScalar (dst : NFmt) (mode : RMode) (fromInt : Bool) (draw : Nat) (v : Val) : Nat × CvtStat :=
  match dst with
  | .b64 => let r := toIeee fB64 64 mode v; (r.1, .ofFlags r.2)
  | .b32 => let r := toIeee fB32 32 mode v; (r.1, .ofFlags r.2)
  | .b32x2 => let r := toPair mode v; (r.1, .ofFlags r.2)
  | .int sg w => if fromInt then intToInt sg w v.toInteger else let r := toInt sg w mode v; (r.1, .ofFlags r.2)
  | _ => encSK16 mode draw v

/-- A reader of bytes at offsets. -/
abbrev ByteRd := Nat → Byte

/-- The `n` bytes at offset `o`, little-endian (R7). -/
def rdLe (rd : ByteRd) (o : Nat) : Nat → Nat
  | 0 => 0
  | n + 1 => (rd o).toNat + 256 * rdLe rd (o + 1) n

/-- Blocks in a row of `cols` elements (R87). -/
def rowBlocks (f : FmtWord) (cols : Nat) : Nat := (cols + f.block - 1) / f.block

/-- Bytes of the element plane of `rows` rows (R86, R87). -/
def elemPlaneBytes (f : FmtWord) (rows cols : Nat) : Nat :=
  if f.fmt.isSkb then rows * rowBlocks f cols * f.block * f.fmt.bits / 8 else rows * cols * f.fmt.size

/-- Where the scale plane starts: the next 128-byte boundary (R106). -/
def scalePlaneAt (f : FmtWord) (rows cols : Nat) : Nat := roundUp (elemPlaneBytes f rows cols) 128

/-- Where the escape plane starts (R106). -/
def escPlaneAt (f : FmtWord) (rows cols : Nat) : Nat := roundUp (scalePlaneAt f rows cols + rows * rowBlocks f cols) 128

/-- The end of a panel. -/
def panelEnd (f : FmtWord) (rows cols : Nat) : Nat :=
  if f.fmt.isSkb then
    if f.esc then escPlaneAt f rows cols + 4 * (rows * rowBlocks f cols) else scalePlaneAt f rows cols + rows * rowBlocks f cols
  else elemPlaneBytes f rows cols

/-- The bits of element (i, j) of an unblocked panel. -/
def denseBits (f : FmtWord) (rd : ByteRd) (cols i j : Nat) : Nat := rdLe rd ((i * cols + j) * f.fmt.size) f.fmt.size

/-- The value of element (i, j) of a panel of `rows` rows of `cols` elements (R85, R86, R106). -/
def panelVal (f : FmtWord) (rd : ByteRd) (rows cols i j : Nat) : Val :=
  if f.fmt.isSkb then
    let blk := i * rowBlocks f cols + j / f.block
    let idx := blk * f.block + j % f.block
    let code := if f.fmt = .skb4 then
        (let b := (rd (idx / 2)).toNat; if idx % 2 = 0 then b % 16 else b / 16)
      else (rd idx).toNat
    let sc := (rd (scalePlaneAt f rows cols + blk)).toNat
    let es := if f.esc then some (rdLe rd (escPlaneAt f rows cols + 4 * blk) 4) else none
    decBlockElem f.fmt f.block (j % f.block) code sc es
  else decElem f.fmt (denseBits f rd cols i j)

/-- The result of writing a panel: bytes by offset, what the encoding did, one saturation bit per value (R128) and the SR
draws it consumed (R98). -/
structure PanelOut where
  bytes : List (Nat × Byte)
  stat : CvtStat
  sat : List Bool
  draws : Nat
  deriving DecidableEq, Repr

/-- Bytes of a number at an offset. -/
def bytesAt (o n k : Nat) : List (Nat × Byte) := (leBytes n k).zipIdx.map (fun p => (o + p.2, p.1))

/-- The two codes of each byte of an SKB4 element plane (R86). -/
def packNibbles : List Nat → List Nat
  | a :: b :: r => (a % 16 + 16 * (b % 16)) :: packNibbles r
  | [a] => [a % 16]
  | [] => []

/-- Write `rows` rows of `cols` values as a panel of format `f` (R86-R88, R90, R91, R121). `src i j` is the exact value;
`draw n` the n-th SR draw. -/
def encPanel (f : FmtWord) (mode : RMode) (fromInt : Bool) (draw : Nat → Nat) (rows cols : Nat)
    (src : Nat → Nat → Val) : PanelOut :=
  if f.fmt.isSkb then
    let nb := rowBlocks f cols
    let perBlock := f.block + (if f.esc then 1 else 0)
    let blocks := (List.range (rows * nb)).map (fun k =>
      let i := k / nb
      let j0 := k % nb * f.block
      let x := (List.range f.block).map (fun t => if j0 + t < cols then src i (j0 + t) else .zero false)
      encBlock f.fmt f.esc mode (fun t => draw (k * perBlock + t)) (cols - j0) x)
    let ebytes := blocks.zipIdx.flatMap (fun p =>
      let codes := if f.fmt = .skb4 then packNibbles p.1.elems else p.1.elems
      codes.zipIdx.map (fun q => (p.2 * (f.block * f.fmt.bits / 8) + q.2, BitVec.ofNat 8 q.1)))
    let sbytes := blocks.zipIdx.map (fun p => (scalePlaneAt f rows cols + p.2, BitVec.ofNat 8 p.1.scale))
    let xbytes := if f.esc then blocks.zipIdx.flatMap (fun p => bytesAt (escPlaneAt f rows cols + 4 * p.2) p.1.esc 4) else []
    ⟨ebytes ++ sbytes ++ xbytes,
      blocks.foldl (fun a b => a.join b.stat) CvtStat.none,
      (List.range (rows * cols)).map (fun n =>
        ((blocks.getD (n / cols * nb + n % cols / f.block) ⟨[], 0, 0, CvtStat.none, []⟩).sat.getD (n % cols % f.block) false)),
      if mode = .sr then rows * nb * perBlock else 0⟩
  else
    let outs := (List.range (rows * cols)).map (fun n => cvtScalar f.fmt mode fromInt (draw n) (src (n / cols) (n % cols)))
    ⟨outs.zipIdx.flatMap (fun p => bytesAt (p.2 * f.fmt.size) p.1.1 f.fmt.size),
      outs.foldl (fun a r => a.join r.2) CvtStat.none,
      outs.map (fun r => decide (r.2.sats ≠ 0)),
      if f.fmt = .sk16 ∧ mode = .sr then rows * cols else 0⟩

/-- Entry "—" of Table 3.10: the same format and, for SKB, the same BLOCK and ESC; a pair is copied unless its source word
has ROUND = RNE and its destination word another ROUND (chapter 3, "Conversions"). -/
def cvtIsCopy (src dst : FmtWord) : Bool :=
  src.fmt == dst.fmt &&
    (if src.fmt.isSkb then src.block == dst.block && src.esc == dst.esc
     else if src.fmt = .b32x2 then !(src.round == 0 && dst.round != 0) else true)

/-- Bit-list to bytes, bit 0 first (the mask of R128). -/
def packBits (o : Nat) (l : List Bool) : List (Nat × Byte) :=
  (List.range ((l.length + 7) / 8)).map (fun b =>
    (o + b, BitVec.ofNat 8 ((List.range 8).foldl (fun a i => a + b2n (l.getD (8 * b + i) false) * 2 ^ i) 0)))

end Sys2Proof.Machine
end

