-- ==== Sys2Proof/Machine/Matrix.lean ====
section
/-!
DEFINITION. Machine/Matrix.lean: the arithmetic of one MM (R104, R106, R107, R110-R113, R124, R126): pure functions from
panel bytes and accumulator bits to output bits and flags. Reading the panels, the timing and the commits are in
Machine/TileMatrix.lean.
-/
namespace Sys2Proof.Machine

/-- Table 4.3: M, N, K, bytes of one real component, occupancy, ready cycle. -/
structure MMShape where
  m : Nat
  n : Nat
  k : Nat
  comp : Nat
  occ : Nat
  ready : Nat
  deriving DecidableEq, Repr

/-- The operand pairings MM allows (R104): equal codes, or SKB4 beside SKB8, which runs as SKB8. -/
def mmFmt (a b : NFmt) : Option NFmt :=
  match a, b with
  | .skb4, .skb8 => some .skb8
  | .skb8, .skb4 => some .skb8
  | _, _ => if a = b && !a.isInt then some a else none

/-- R126: the formats complex mode is allowed for. -/
def cplxAllowed : NFmt → Bool
  | .b32 => true | .b32x2 => true | .b64 => true | _ => false

/-- Table 4.3. -/
def mmShape (f : NFmt) (wide cplx : Bool) : Option MMShape :=
  let c := cplx && cplxAllowed f
  match f with
  | .skb4 => some (if wide then ⟨16, 64, 256, 4, 32, 40⟩ else ⟨32, 32, 256, 4, 32, 40⟩)
  | .skb8 => some (if wide then ⟨16, 64, 128, 4, 32, 40⟩ else ⟨32, 32, 128, 4, 32, 40⟩)
  | .sk16 => some (if wide then ⟨16, 64, 64, 4, 32, 39⟩ else ⟨32, 32, 64, 4, 32, 39⟩)
  | .b32 => some (if c then (if wide then ⟨8, 32, 32, 4, 128, 134⟩ else ⟨16, 16, 32, 4, 128, 134⟩)
      else (if wide then ⟨8, 32, 32, 4, 32, 38⟩ else ⟨16, 16, 32, 4, 32, 38⟩))
  | .b32x2 => some (if c then (if wide then ⟨4, 16, 32, 8, 128, 140⟩ else ⟨8, 8, 32, 8, 128, 140⟩)
      else (if wide then ⟨4, 16, 32, 8, 32, 44⟩ else ⟨8, 8, 32, 8, 32, 44⟩))
  | .b64 => some (if c then (if wide then ⟨4, 16, 16, 8, 128, 138⟩ else ⟨8, 8, 16, 8, 128, 138⟩)
      else (if wide then ⟨4, 16, 16, 8, 32, 42⟩ else ⟨8, 8, 16, 8, 32, 42⟩))
  | .int _ _ => none

/-- Bytes of an output element: two components in complex mode (R119). -/
def MMShape.elemBytes (s : MMShape) (cplx : Bool) : Nat := s.comp * (if cplx then 2 else 1)

/-- Accumulator units of the output tile (R120). -/
def MMShape.units (s : MMShape) (cplx : Bool) : Nat := (s.m * s.n * s.elemBytes cplx + 511) / 512

/-- The accumulator type of a format (Table 4.3). -/
def accFmt : NFmt → NFmt
  | .b32x2 => .b32x2
  | .b64 => .b64
  | _ => .b32

/-- Every NaN the engine produces is the default NaN (R113). -/
def engNan (v : Val) : Val := if v.isNan then defaultNan else v

/-- One rounded B32 operation of the engine. -/
def eAdd (x y : Val) : Val × Nat := let r := fAdd fB32 .rne x y; (engNan r.1, r.2)
def eSub (x y : Val) : Val × Nat := let r := fSub fB32 .rne x y; (engNan r.1, r.2)
def eMul (x y : Val) : Val × Nat := let r := fMul fB32 .rne x y; (engNan r.1, r.2)
def eFma (x y z : Val) : Val × Nat := let r := fFma fB32 .rne x y z; (engNan r.1, r.2)

/-- The committed pair of R124, which is canonical (R80): the renormalised pair, or, where that is not canonical, the canonical pair of
its value; lo is +0 wherever hi is zero, infinite or NaN. DEDUCED: a non-canonical operand can leave R124's lines with a pair that
is not canonical, and R124 says that the committed one is. -/
def canonPair (hi lo : Val) : Val × Val :=
  match pairVal hi lo with
  | .fin _ m _ =>
    let v := pairVal hi lo
    let h := (roundVal fB32 .rne v).1
    if m = 0 then (hi, .zero false)
    else if encB32 0 h = encB32 0 hi && !h.isInf then (hi, lo)
    else if h.isInf || h.isZero then (h, .zero false)
    else
      let d := (addExact .rne v h.neg).1
      (h, if d.isZero then .zero false else (roundVal fB32 .rne d).1)
  | _ => (hi, .zero false)

/-- The two-sum of (ch, cl) with a product p and its low part e, and the renormalisation: lines 5 to 10 of R124. -/
def pairAccum (ch cl p e : Val) : (Val × Val) × Nat :=
  let s := eAdd ch p
  let v := eSub s.1 ch
  let sv := eSub s.1 v.1
  let t1 := eSub ch sv.1
  let t2 := eSub p v.1
  let t3 := eAdd t1.1 t2.1
  let t4 := eAdd t3.1 cl
  let t5 := eAdd t4.1 e
  let hi := eAdd s.1 t5.1
  let d := eSub hi.1 s.1
  let lo := eSub t5.1 d.1
  (canonPair hi.1 lo.1,
    s.2 ||| v.2 ||| sv.2 ||| t1.2 ||| t2.2 ||| t3.2 ||| t4.2 ||| t5.2 ||| hi.2 ||| d.2 ||| lo.2)

/-- One MAC step of R124. Pairs are (hi, lo); `a` is already negated where NEG asks. -/
def pairStep (c a b : Val × Val) : (Val × Val) × Nat :=
  let va := pairVal a.1 a.2
  let vb := pairVal b.1 b.2
  let vc := pairVal c.1 c.2
  let special := va.isNan || va.isInf || vb.isNan || vb.isInf || vc.isNan || vc.isInf
  if special then
    let r := fFma fB32 .rne va vb vc
    ((engNan r.1, .zero false), r.2)
  else
    let p := eMul a.1 b.1
    let e1 := eFma a.1 b.1 p.1.neg
    let e2 := eFma a.1 b.2 e1.1
    let e3 := eFma a.2 b.1 e2.1
    let r := pairAccum c.1 c.2 p.1 e3.1
    (r.1, p.2 ||| e1.2 ||| e2.2 ||| e3.2 ||| r.2)

/-- A value of the accumulator chain: one IEEE value, or a pair. -/
inductive AccVal where
  | one (v : Val)
  | pair (hi lo : Val)
  deriving DecidableEq, Repr

/-- Accumulator bits as a chain value. -/
def AccVal.ofBits (f : NFmt) (b : Nat) : AccVal :=
  match f with
  | .b32x2 => .pair (decB32 (b % 2 ^ 32)) (decB32 (b >>> 32))
  | .b64 => .one (decB64 b)
  | _ => .one (decB32 b)

/-- A chain value as accumulator bits. -/
def AccVal.toBits (f : NFmt) : AccVal → Nat
  | .one v => if f = .b64 then encB64 0 v else encB32 0 v
  | .pair h l => encB32 0 h + encB32 0 l * 2 ^ 32

/-- An operand element of the IEEE formats and the pair. -/
def AccVal.neg : AccVal → AccVal
  | .one v => .one v.neg
  | .pair h l => .pair h.neg l.neg

/-- One real step of R112 or R124. -/
def macStep (f : NFmt) (mode : RMode) (c a b : AccVal) : AccVal × Nat :=
  match c, a, b with
  | .pair ch cl, .pair ah al, .pair bh bl => let r := pairStep (ch, cl) (ah, al) (bh, bl); (.pair r.1.1 r.1.2, r.2)
  | .one cv, .one av, .one bv =>
    let r := fFma (if f = .b64 then fB64 else fB32) mode av bv cv
    (.one (engNan r.1), r.2)
  | _, _, _ => (c, 0)

/-- Additions in an order the manual does not state (R110, R111): a pairing chosen by `pick`, which nothing constrains;
each addition rounds to B32 under RNE. -/
def addAny (pick : Nat → Nat) : Nat → List Val → Val × Nat
  | 0, l => (l.headD (.zero false), 0)
  | n + 1, l =>
    match l with
    | [] => (.zero false, 0)
    | [v] => (v, 0)
    | _ =>
      let i := pick (2 * n) % l.length
      let x := l.getD i (.zero false)
      let l1 := l.eraseIdx i
      let j := pick (2 * n + 1) % l1.length
      let y := l1.getD j (.zero false)
      let s := eAdd x y
      let r := addAny pick n (s.1 :: l1.eraseIdx j)
      (r.1, s.2 ||| r.2)

/-- The exact sum of products over one run of k. -/
def exactDot (a b : Nat → Val) (k0 len : Nat) : Val :=
  (List.range len).foldl (fun s t => (addExact .rne s (mulExact (a (k0 + t)) (b (k0 + t))).1).1) (.zero false)

/-- One output element of R110 and R111. -/
def dotRuns (pick : Nat → Nat) (neg : Bool) (k run : Nat) (a b : Nat → Val) (c : Val) : Val × Nat :=
  let sums := (List.range (k / run)).map (fun r =>
    let s := engNan (exactDot a b (r * run) run); if neg && !s.isNan then s.neg else s)
  let r := addAny pick (sums.length + 1) (c :: sums)
  (engNan r.1, r.2 &&& (fInvalid ||| fOverflow))

/-- Everything one MM is told. -/
structure MMArgs where
  fa : FmtWord
  fb : FmtWord
  wide : Bool
  cplx : Bool
  conj : Bool
  neg : Bool
  ta : Bool
  tb : Bool
  add : Bool
  deriving DecidableEq, Repr

/-- The bits of a component of an IEEE or pair operand: element (row, k), part q (0 real, 1 imaginary). -/
def opBits (rd : ByteRd) (size : Nat) (cplx trans : Bool) (rows k row kk q : Nat) : Nat :=
  let idx := if trans then kk * rows + row else row * k + kk
  let es := if cplx then 2 * size else size
  rdLe rd (idx * es + q * size) size

/-- One output component of R112, R124 and R126. `acc` holds the two parts before; answers both parts after. -/
def chainElem (f : NFmt) (mode : RMode) (g : MMArgs) (cplx : Bool) (k : Nat) (a b : Nat → Nat → AccVal)
    (acc : AccVal × AccVal) : (AccVal × AccVal) × Nat :=
  (List.range k).foldl (fun st kk =>
    let sg := fun v : AccVal => if g.neg then v.neg else v
    if cplx then
      let ar := a kk 0
      let ai := if g.conj then (a kk 1).neg else a kk 1
      let r1 := macStep f mode st.1.1 (sg ar) (b kk 0)
      let r2 := macStep f mode r1.1 (sg ai.neg) (b kk 1)
      let i1 := macStep f mode st.1.2 (sg ar) (b kk 1)
      let i2 := macStep f mode i1.1 (sg ai) (b kk 0)
      ((r2.1, i2.1), st.2 ||| r1.2 ||| r2.2 ||| i1.2 ||| i2.2)
    else
      let r := macStep f mode st.1.1 (sg (a kk 0)) (b kk 0)
      ((r.1, st.1.2), st.2 ||| r.2)) (acc, 0)

/-- What one MM computes: the output components' bits in the order of R119, and the flags of R113. `acc n` is the bits of
component n taken under ADD = 1 (R114); without ADD the chain starts from +0. -/
def mmCompute (pick : Nat → Nat → Nat) (g : MMArgs) (rdA rdB : ByteRd) (acc : Nat → Nat) : List Nat × Nat :=
  match mmFmt g.fa.fmt g.fb.fmt with
  | none => ([], 0)
  | some f =>
    match mmShape f g.wide g.cplx with
    | none => ([], 0)
    | some sh =>
      let af := accFmt f
      let cplx := g.cplx && cplxAllowed f
      let parts := if cplx then 2 else 1
      let zero := AccVal.ofBits af 0
      let start := fun n => if g.add then AccVal.ofBits af (acc n) else zero
      if cplxAllowed f then
        let rm := effRound f g.fa.round
        let size := f.size
        let outs := (List.range (sh.m * sh.n)).map (fun e =>
          let i := e / sh.n
          let j := e % sh.n
          chainElem f (if f = .b32x2 then .rne else rm.1) g cplx sh.k
            (fun kk q => AccVal.ofBits f (opBits rdA size cplx g.ta sh.m sh.k i kk q))
            (fun kk q => AccVal.ofBits f (opBits rdB size cplx g.tb sh.n sh.k j kk q))
            (start (e * parts), if cplx then start (e * parts + 1) else zero))
        (outs.flatMap (fun o => if cplx then [o.1.1.toBits af, o.1.2.toBits af] else [o.1.1.toBits af]),
          outs.foldl (fun a o => a ||| o.2) (if f ≠ .b32x2 ∧ rm.2 then fModeFix else 0))
      else
        let isSk := f = .sk16
        let run := if isSk then 16 else min g.fa.block g.fb.block
        let va := fun i kk => if isSk && g.ta then decSK16 (opBits rdA 2 false true sh.m sh.k i kk 0)
          else panelVal g.fa rdA sh.m sh.k i kk
        let vb := fun j kk => if isSk && g.tb then decSK16 (opBits rdB 2 false true sh.n sh.k j kk 0)
          else panelVal g.fb rdB sh.n sh.k j kk
        let outs := (List.range (sh.m * sh.n)).map (fun e =>
          dotRuns (pick e) g.neg sh.k run (va (e / sh.n)) (vb (e % sh.n))
            (match start e with | .one v => v | .pair h _ => h))
        (outs.map (fun o => encB32 0 o.1), outs.foldl (fun a o => a ||| o.2) 0)

/-- Bytes a panel of an operand occupies (R106, R107). -/
def panelBytes (f : FmtWord) (rows k : Nat) (cplx : Bool) : Nat :=
  panelEnd f rows k * (if cplx && cplxAllowed f.fmt then 2 else 1)

/-- What a DRAIN is told: the accumulator type, the shape, and whether the tile is complex. -/
structure DrainShape where
  acc : NFmt
  m : Nat
  n : Nat
  cplx : Bool
  deriving DecidableEq, Repr

/-- Values in a row of the source tile (R121). -/
def DrainShape.rowLen (d : DrainShape) : Nat := if d.cplx then 2 * d.n else d.n

/-- Accumulator units a DRAIN reads (Table 4.4). -/
def DrainShape.units (d : DrainShape) : Nat := (d.m * d.rowLen * d.acc.size + 511) / 512

/-- The destination word a DRAIN uses: a block longer than the row becomes 16 elements (R121, unverified modes). -/
def drainFmt (f : FmtWord) (l : Nat) : FmtWord :=
  if f.fmt.isSkb && decide (l < f.block) then { f with block := 16 } else f

/-- The bytes a DRAIN writes (offsets from its destination), with the mask of R128. -/
def drainOut (d : DrainShape) (f : FmtWord) (mask : Bool) (draw : Nat → Nat) (acc : Nat → Nat) : PanelOut × RMode × Bool :=
  let l := d.rowLen
  let f := drainFmt f l
  let rm := effRound f.fmt f.round
  let same := f.fmt = d.acc && !f.fmt.isVendor && (f.fmt ≠ .b32x2)
  let o := if same then
      (⟨(List.range (d.m * l)).flatMap (fun n => bytesAt (n * d.acc.size) (acc n) d.acc.size), CvtStat.none,
        List.replicate (d.m * l) false, 0⟩ : PanelOut)
    else encPanel f rm.1 false draw d.m l (fun i j => decElem d.acc (acc (i * l + j)))
  let m := if mask then packBits (roundUp (panelEnd f d.m l) 128) o.sat else []
  (⟨o.bytes ++ m, o.stat, o.sat, o.draws⟩, rm.1, rm.2)

end Sys2Proof.Machine
end

