-- ==== Sys2Proof/Machine/Sparse.lean ====
section
/-!
DEFINITION. Machine/Sparse.lean: sparse plain data. Every large store of the part (its registers, its memories, the
state of its 2048 tiles) is a list of (key, value) pairs in ONE canonical form: keys strictly rising, and no entry equal
to what an unlisted key reads as.
-/
namespace Sys2Proof.Machine

/-- A sparse map: what is listed differs from the default. -/
abbrev SMap (α : Type) := List (Nat × α)

/-- What key `q` holds; an unlisted key holds `d`. -/
def smapGet {α : Type} (d : α) : SMap α → Nat → α
  | [], _ => d
  | (k, v) :: r, q => if k = q then v else smapGet d r q

/-- Insert or replace, keeping the keys rising. -/
def smapInsert {α : Type} (q : Nat) (x : α) : SMap α → SMap α
  | [] => [(q, x)]
  | (k, v) :: r =>
    if q < k then (q, x) :: (k, v) :: r
    else if q = k then (q, x) :: r
    else (k, v) :: smapInsert q x r

/-- Remove a key. -/
def smapErase {α : Type} (q : Nat) (m : SMap α) : SMap α := m.filter (fun p => decide (p.1 ≠ q))

/-- Write key `q`; writing the default removes the entry, so equal contents are equal data. -/
def smapSet {α : Type} [DecidableEq α] (d : α) (m : SMap α) (q : Nat) (x : α) : SMap α :=
  if x = d then smapErase q m else smapInsert q x m

/-- Every key is above `b` and the keys rise. -/
def smapSorted {α : Type} (b : Option Nat) : SMap α → Bool
  | [] => true
  | (k, _) :: r => (match b with | none => true | some n => decide (n < k)) && smapSorted (some k) r

/-- The canonical form: keys strictly rising and no entry at its key's default. -/
def smapWf {α : Type} [DecidableEq α] (d : Nat → α) (m : SMap α) : Bool :=
  smapSorted none m && m.all (fun p => decide (p.2 ≠ d p.1))

end Sys2Proof.Machine
end

