-- ==== Sys2Proof/Machine/TileTypes.lean ====
section
/-!
DEFINITION. Machine/TileTypes.lean: decoded slots of a bundle, and what a tile holds beside its registers and stores:
results on their way to their ready cycle (R145), held resources (R148), transfers and global accesses in flight (R150,
R152), a fault on its way to its trap point (R190), samples (R299).
-/
namespace Sys2Proof.Machine

/-- A decoded prompter instruction (R176, Table 6.2). -/
inductive PInsn where
  | nop
  | intR (op : IntOp) (rd rs1 rs2 : XReg)
  | intI (op : IntOp) (rd rs1 : XReg) (imm : BitVec 16)
  | iputh (rd : XReg) (h : Fin 4) (imm : BitVec 16)
  | load (k : LdKind) (rd : FReg) (rs1 : XReg) (imm : BitVec 16)
  | store (k : StKind) (rs2 : FReg) (rs1 : XReg) (imm : BitVec 16)
  | branch (c : BrCond) (rs1 rs2 : XReg) (off : BitVec 16)
  | call (rd : XReg) (target : BitVec 13)
  | jreg (rs1 : XReg)
  | fop (op : FOp) (dbl : Bool) (fd fs1 fs2 : FReg) (rm : Rm)
  | fma (k : FmaKind) (dbl : Bool) (fd fs1 fs2 fs3 : FReg) (rm : Rm)
  | fmov (op : FMov) (dbl : Bool) (rd rs1 rs2 : FReg)
  | cvt (dt st : CTy) (rd rs1 : FReg) (rm : Rm)
  | vlset (rd rs1 : XReg) (ty : VTy)
  | getcyc (rd : XReg)
  | getcue (rd : XReg)
  | holdpt
  | tret
  | tskip
  | vop (op : VOp) (ty : VTy) (vd vs1 vs2 : VReg)
  | vcvt (vd vs1 : VReg) (st dt : VTy)
  | vbcast (vd : VReg) (rs1 : FReg) (ty : VTy)
  | vext (rd : FReg) (vs1 : VReg) (rs2 : XReg) (ty : VTy)
  | vcmul (conj acc : Bool) (ty : VTy) (vd vs1 vs2 : VReg)
  | vld (vd : VReg) (rs1 : XReg) (ty : VTy)
  | vst (vd : VReg) (rs1 : XReg) (ty : VTy)
  | vgather (vd : VReg) (rs1 : XReg) (vs2 : VReg) (ty : VTy)
  | vscatter (vd : VReg) (rs1 : XReg) (vs2 : VReg) (ty : VTy)
  deriving DecidableEq, Repr

/-- A decoded M slot (Table 5.3). -/
inductive MInsn where
  | nop
  | mm (f : MMSlot)
  | shd (f : ShdSlot)
  | drain (f : DrainSlot)
  deriving DecidableEq, Repr

/-- The D operations (Table 5.4). -/
inductive DOp where
  | copy | convert | rwrite | gather | regather | fill
  deriving DecidableEq, Repr

/-- A decoded D slot. -/
inductive DInsn where
  | nop
  | op (o : DOp) (f : DSlot)
  deriving DecidableEq, Repr

/-- The three fences. -/
inductive FenceKind where
  | l | d | f (set : Fin 16)
  deriving DecidableEq, Repr

/-- A decoded S slot (Table 5.5). -/
inductive SInsn where
  | nop
  | wait (wc : Fin 16) (thr : BitVec 8)
  | fence (k : FenceKind)
  | notice (ch : BitVec 8) (x : XReg)
  | take (ch : BitVec 8) (x : XReg)
  | swapBank
  | endOp
  deriving DecidableEq, Repr

/-- Where in its program an issue stands: the bank in use, the bundle and the repetition (R586). -/
structure IssuePt where
  bank : Nat
  bundle : Nat
  rep : Nat
  deriving DecidableEq, Repr

/-- A fault on its way to its trap point (R190, R191). -/
structure TrapRec where
  due : Nat
  cause : Nat
  elem : Nat
  addr : Word
  insn : Nat
  pt : IssuePt
  restart : Bool
  inHandler : Bool
  deriving DecidableEq, Repr

/-- An MM in flight: what it was told, where its panels lie, the bytes it read, the rows that met poison. -/
structure MMJob where
  id : Nat
  args : MMArgs
  fmt : NFmt
  shape : MMShape
  tag : Nat
  units : Nat
  baseA : Nat
  baseB : Nat
  bytesA : List Byte
  bytesB : List Byte
  poisonA : List Nat
  poisonB : List Nat
  sampled : Bool
  /-- Bytes written into the data SRAM while the panels are read, each at its device address (R108). -/
  alts : List (Nat × Byte) := []
  deriving DecidableEq, Repr

/-- A chain sample in flight (R301): the tag's units, each MM's arguments and panel bytes. -/
structure ChainMM where
  args : MMArgs
  bytesA : List Byte
  bytesB : List Byte
  deriving DecidableEq, Repr

structure ChainSample where
  tag : Nat
  units : Nat
  fmts : NFmt × NFmt
  count : Nat
  mms : List ChainMM
  slot : Nat
  deriving DecidableEq, Repr

/-- A DRAIN in flight. -/
structure DrainJob where
  shape : DrainShape
  fmt : FmtWord
  mask : Bool
  tag : Nat
  dst : Nat
  ready : Nat
  deriving DecidableEq, Repr

/-- A DRAIN that has read its units: their values, the elements that met poison, the sample it closes with the units' bytes, and
the draws it had made of each earlier seed when TA_SR_SEED was written: seed, first draw, and a free word that says how many
(R98, R101). -/
structure DrainRun where
  job : DrainJob
  vals : List Nat
  bad : List Nat
  chain : Option ChainSample
  units : List Byte
  segs : List (Word × Nat × Nat)
  deriving DecidableEq, Repr

/-- A vector gather or scatter in flight (R187, R188): the addresses of its elements, the data of a scatter, what a gather
has read, and the element that faulted. -/
structure GatherJob where
  id : Nat
  scatter : Bool
  vd : Nat
  width : Nat
  addrs : List Word
  data : List Nat
  got : List Nat
  faulted : Bool
  insn : Nat
  pt : IssuePt
  inHandler : Bool
  trapDue : Nat
  deriving DecidableEq, Repr

/-- What happens in a later cycle of an operation (R144, R145). -/
inductive Eff where
  /-- a register takes the bits under the mask -/
  | commit (a : Nat) (v mask : Word)
  /-- bytes of the tile's own stores are written (a store performed, or an engine's commit) -/
  | bytes (a : Nat) (l : List Byte)
  /-- bytes that a store of the prompter writes through the window (R173, R301) -/
  | store (a : Nat) (l : List Byte)
  /-- bytes of the data SRAM written with byte masks by a DRAIN (R88, R121) -/
  | masked (l : List (Nat × Byte))
  /-- 64-bit words of the tile's own stores become poison (R245, R247) -/
  | poison (words : List Nat)
  /-- a store of the prompter to a tile register, under its access codes (R174) -/
  | regStore (a n v : Nat)
  /-- a conversion's status reaches TA_CVT_STATUS, TA_SAT_COUNT and the encoding counters -/
  | stat (c : CvtStat)
  /-- the instruction banks swap (R157) -/
  | bankSwap
  /-- a load from a store or tile register reads in this cycle (entry 0x24) and commits three cycles later -/
  | load (a : Nat) (k : LdKind) (rd : Nat) (insn : Nat) (pt : IssuePt) (inHandler : Bool) (late : Nat)
  | vload (a vl width vd : Nat) (insn : Nat) (pt : IssuePt) (inHandler : Bool)
  | mmPanels (id : Nat)
  | mmAdd (id : Nat)
  | shdRead (tag sunit u : Nat)
  | drainRead (d : DrainJob)
  | drainConv (d : DrainRun)
  | gatherElem (id j : Nat)
  | gatherDone (id : Nat)
  deriving DecidableEq, Repr

/-- An effect with the cycle it falls in and its place in issue order (R134, R146). -/
structure Act where
  due : Nat
  ord : Nat
  eff : Eff
  deriving DecidableEq, Repr

/-- A byte read for a transfer: its value, whether its unit was poisoned, whether no response brought it (R154, R245). -/
structure SrcByte where
  val : Byte
  psn : Bool
  miss : Bool
  deriving DecidableEq, Repr

/-- Where a transfer stands: not performed yet; waiting for read responses; waiting for acknowledgements or held additions;
nothing outstanding. -/
inductive XPhase where
  | queued | reading | waiting | done
  deriving DecidableEq, Repr

/-- A transfer the data mover holds (R150, R153): what its descriptor said, how far it is, how many answers it waits for,
what responses brought, its first cause and the further ones, and the versions of its responses in order of arrival (R338, R339), and what a sampled
CONVERT read and made (R302). -/
structure Xfer where
  id : Nat
  op : DOp
  src : Nat
  dst : Nat
  len : Nat
  sfmt : Nat
  dfmt : Nat
  version : Nat
  slot : DSlot
  ord : Nat
  sample : Option Nat
  phase : XPhase
  wait : Nat
  got : List (Nat × List SrcByte)
  cause : Option (Nat × Nat)
  more : List (Nat × Nat)
  vers : List (Nat × Nat)
  convSrc : List Byte
  convOut : List (Nat × Byte)
  deriving DecidableEq, Repr

/-- A prompter load or store outside its own tile (R152, R173). -/
structure GlobAcc where
  id : Nat
  addr : Nat
  bad : Bool
  load : Option (LdKind × Nat)
  bytes : List Byte
  ord : Nat
  sent : Bool
  deriving DecidableEq, Repr

/-- What a tile holds beside its registers and stores; `waitGrant` marks a tile at rest whose first issue waits for a start
grant (R531); `cutF` and `cutH` mark a waiting FENCE.F, of the stream and of the handler, a seat of whose set was lost (R32). Cycles are counted as `active` counts them. -/
structure TileX where
  acts : List Act
  ordNext : Nat
  busy : List Nat
  issueAt : Nat
  overlapUntil : Nat
  endIssued : Bool
  endH : Bool
  fence : Option (FenceKind × Nat)
  fenceH : Option (FenceKind × Nat)
  cutF : Bool
  cutH : Bool
  trap : Option TrapRec
  reexec : Option (Nat × Nat)
  resumeAt : Option Nat
  swapAt : Option Nat
  jobs : List MMJob
  gathers : List GatherJob
  xfers : List Xfer
  globals : List GlobAcc
  sr : List Nat
  samplerDraws : Nat
  enc : EncCnt
  chain : Option ChainSample
  lastIssue : Nat
  waitGrant : Bool
  deriving DecidableEq, Repr

/-- A tile at rest: nothing in flight. -/
def TileX.init : TileX where
  acts := []
  ordNext := 0
  busy := []
  issueAt := 0
  overlapUntil := 0
  endIssued := false
  endH := false
  fence := none
  fenceH := none
  cutF := false
  cutH := false
  trap := none
  reexec := none
  resumeAt := none
  swapAt := none
  jobs := []
  gathers := []
  xfers := []
  globals := []
  sr := []
  samplerDraws := 0
  enc := EncCnt.zero
  chain := none
  lastIssue := 0
  waitGrant := false

end Sys2Proof.Machine
end

