-- ==== Sys2Proof/Machine/BundleCode.lean ====
section
/-!
DEFINITION. Machine/BundleCode.lean: the encodings of a bundle and of its slots (R132, R135-R138, R176, R177): Tables 5.1,
5.3, 5.4, 5.5, 6.1 and 6.2. Decoding is total; a reserved opcode, function, type, field or bit gives none (R139, R176).
Encoding is written from the same tables.
-/
namespace Sys2Proof

-- Function codes of Table 6.2.
def IntOp.code : IntOp → Nat × Nat
  | .add => (1, 0) | .sub => (1, 1) | .and => (1, 2) | .or => (1, 3) | .xor => (1, 4) | .shl => (1, 5) | .shr => (1, 6)
  | .sar => (1, 7) | .lt => (1, 8) | .ltu => (1, 9) | .min => (1, 10) | .max => (1, 11) | .minu => (1, 12)
  | .maxu => (1, 13) | .mul => (12, 0) | .mulh => (12, 1) | .mulhu => (12, 2) | .div => (12, 4) | .divu => (12, 5)
  | .rem => (12, 6) | .remu => (12, 7)

def intOpOf (opc fn : Nat) : Option IntOp :=
  match opc, fn with
  | 1, 0 => some .add | 1, 1 => some .sub | 1, 2 => some .and | 1, 3 => some .or | 1, 4 => some .xor
  | 1, 5 => some .shl | 1, 6 => some .shr | 1, 7 => some .sar | 1, 8 => some .lt | 1, 9 => some .ltu
  | 1, 10 => some .min | 1, 11 => some .max | 1, 12 => some .minu | 1, 13 => some .maxu
  | 12, 0 => some .mul | 12, 1 => some .mulh | 12, 2 => some .mulhu | 12, 4 => some .div | 12, 5 => some .divu
  | 12, 6 => some .rem | 12, 7 => some .remu
  | _, _ => none

/-- The immediate forms: opcodes 0x02 to 0x07, and 0x08 with the shift in imm[7:6]. -/
def immOpOf (opc : Nat) : Option IntOp :=
  match opc with
  | 2 => some .add | 3 => some .and | 4 => some .or | 5 => some .xor | 6 => some .lt | 7 => some .ltu
  | _ => none

def immOpCode : IntOp → Option Nat
  | .add => some 2 | .and => some 3 | .or => some 4 | .xor => some 5 | .lt => some 6 | .ltu => some 7
  | _ => none

def shiftOf : Nat → Option IntOp
  | 0 => some .shl | 1 => some .shr | 2 => some .sar | _ => none

def shiftCode : IntOp → Option Nat
  | .shl => some 0 | .shr => some 1 | .sar => some 2 | _ => none

def LdKind.code : LdKind → Nat
  | .b => 0x10 | .h => 0x11 | .w => 0x12 | .d => 0x13 | .bu => 0x14 | .hu => 0x15 | .wu => 0x16 | .fw => 0x17 | .fd => 0x1C

def ldOf : Nat → Option LdKind
  | 0x10 => some .b | 0x11 => some .h | 0x12 => some .w | 0x13 => some .d | 0x14 => some .bu | 0x15 => some .hu
  | 0x16 => some .wu | 0x17 => some .fw | 0x1C => some .fd | _ => none

def StKind.code : StKind → Nat
  | .b => 0x18 | .h => 0x19 | .w => 0x1A | .d => 0x1B | .fw => 0x1D | .fd => 0x1E

def stOf : Nat → Option StKind
  | 0x18 => some .b | 0x19 => some .h | 0x1A => some .w | 0x1B => some .d | 0x1D => some .fw | 0x1E => some .fd
  | _ => none

/-- Does the kind name an f register? -/
def LdKind.isF : LdKind → Bool
  | .fw => true | .fd => true | _ => false

def StKind.isF : StKind → Bool
  | .fw => true | .fd => true | _ => false

def BrCond.code : BrCond → Nat
  | .eq => 0x20 | .ne => 0x21 | .lt => 0x22 | .ge => 0x23 | .ltu => 0x24 | .geu => 0x25

def brOf : Nat → Option BrCond
  | 0x20 => some .eq | 0x21 => some .ne | 0x22 => some .lt | 0x23 => some .ge | 0x24 => some .ltu | 0x25 => some .geu
  | _ => none

def FOp.code : FOp → Nat
  | .add => 0 | .sub => 1 | .mul => 2 | .div => 3 | .sqrt => 4 | .min => 5 | .max => 6 | .abs => 7 | .neg => 8 | .cpys => 9

def fopOf : Nat → Option FOp
  | 0 => some .add | 1 => some .sub | 2 => some .mul | 3 => some .div | 4 => some .sqrt | 5 => some .min | 6 => some .max
  | 7 => some .abs | 8 => some .neg | 9 => some .cpys | _ => none

/-- FSQRT, FABS and FNEG have fs2 zero. -/
def FOp.unary : FOp → Bool
  | .sqrt => true | .abs => true | .neg => true | _ => false

def FmaKind.code : FmaKind → Nat
  | .mac => 0 | .macn => 1 | .macs => 2 | .macns => 3

def fmaOf : Nat → Option FmaKind
  | 0 => some .mac | 1 => some .macn | 2 => some .macs | 3 => some .macns | _ => none

def FMov.code : FMov → Nat
  | .ftox => 0 | .xtof => 1 | .ceq => 2 | .clt => 3 | .cle => 4 | .kind => 5

def fmovOf : Nat → Option FMov
  | 0 => some .ftox | 1 => some .xtof | 2 => some .ceq | 3 => some .clt | 4 => some .cle | 5 => some .kind | _ => none

/-- Which fields of opcode 0x2B name x registers, and which forms have no second source. -/
def FMov.xDest : FMov → Bool
  | .xtof => false | _ => true

def FMov.xSrc : FMov → Bool
  | .xtof => true | _ => false

def FMov.unary : FMov → Bool
  | .ftox => true | .xtof => true | .kind => true | _ => false

def CTy.code : CTy → Nat
  | .b64 => 0 | .b32 => 1 | .sk16 => 2 | .i32 => 3 | .u32 => 4 | .i16 => 5 | .i8 => 6 | .i64 => 7

def ctyOf : Nat → Option CTy
  | 0 => some .b64 | 1 => some .b32 | 2 => some .sk16 | 3 => some .i32 | 4 => some .u32 | 5 => some .i16 | 6 => some .i8
  | 7 => some .i64 | _ => none

/-- Integer types are held in x registers (R176). -/
def CTy.isInt : CTy → Bool
  | .b64 => false | .b32 => false | .sk16 => false | _ => true

def VTy.code : VTy → Nat
  | .i8 => 0 | .i16 => 1 | .i32 => 2 | .b32 => 4 | .b64 => 5 | .sk16 => 6

def vtyOf : Nat → Option VTy
  | 0 => some .i8 | 1 => some .i16 | 2 => some .i32 | 4 => some .b32 | 5 => some .b64 | 6 => some .sk16 | _ => none

def VTy.isInt : VTy → Bool
  | .i8 => true | .i16 => true | .i32 => true | _ => false

def VTy.isFp : VTy → Bool
  | .b32 => true | .b64 => true | _ => false

/-- Element width in bits. -/
def VTy.width : VTy → Nat
  | .i8 => 8 | .i16 => 16 | .i32 => 32 | .b32 => 32 | .b64 => 64 | .sk16 => 16

def VOp.code : VOp → Nat
  | .add => 0 | .sub => 1 | .mul => 2 | .min => 3 | .max => 4 | .and => 5 | .or => 6 | .xor => 7 | .sll => 8 | .srl => 9
  | .sra => 10 | .ceq => 11 | .clt => 12 | .cle => 13 | .fma => 0x10 | .fms => 0x11 | .fnma => 0x12 | .redsum => 0x14
  | .redmax => 0x15

def vopOf : Nat → Option VOp
  | 0 => some .add | 1 => some .sub | 2 => some .mul | 3 => some .min | 4 => some .max | 5 => some .and | 6 => some .or
  | 7 => some .xor | 8 => some .sll | 9 => some .srl | 10 => some .sra | 11 => some .ceq | 12 => some .clt
  | 13 => some .cle | 0x10 => some .fma | 0x11 => some .fms | 0x12 => some .fnma | 0x14 => some .redsum
  | 0x15 => some .redmax | _ => none

/-- The types a vector operation takes (R176, R185). -/
def VOp.typeOk (o : VOp) (t : VTy) : Bool :=
  match o with
  | .and | .or | .xor | .sll | .srl | .sra => t.isInt
  | .fma | .fms | .fnma | .redsum | .redmax => t.isFp
  | _ => t.isInt || t.isFp

/-- Reductions have no second source. -/
def VOp.unary : VOp → Bool
  | .redsum => true | .redmax => true | _ => false

/-- RM of formats F and F4 (R176): RNE, RTZ, RUP, RDN or 0b111. -/
def rmFOk (rm : Nat) : Bool := decide (rm ≤ 3) || rm == 7

/-- The number format a CVT type stands for. -/
def CTy.fmt : CTy → Machine.NFmt
  | .b64 => .b64 | .b32 => .b32 | .sk16 => .sk16 | .i32 => .int true 32 | .u32 => .int false 32 | .i16 => .int true 16
  | .i8 => .int true 8 | .i64 => .int true 64

def VTy.fmt : VTy → Machine.NFmt
  | .i8 => .int true 8 | .i16 => .int true 16 | .i32 => .int true 32 | .b32 => .b32 | .b64 => .b64 | .sk16 => .sk16

/-- RM of format C (R75): by destination, or 0b111. -/
def rmCOk (dt : CTy) (rm : Nat) : Bool := rm == 7 || Machine.roundAllowed dt.fmt rm

end Sys2Proof

namespace Sys2Proof.Machine

/-- A bundle taken apart (Table 5.1). -/
structure Bundle where
  s : Nat
  d : Nat
  m : Nat
  p : Nat
  cls : Nat
  rep : Nat
  deriving DecidableEq, Repr

def Bundle.ofNat (n : Nat) : Bundle :=
  ⟨bitsOf n 127 112, bitsOf n 111 80, bitsOf n 79 48, bitsOf n 47 16, bitsOf n 15 13, bitsOf n 12 0⟩

/-- Pitch in cycles (Table 5.2). -/
def Bundle.pitch (b : Bundle) : Nat := 2 ^ b.cls

-- Building an index from a field.
def mkX (n : Nat) : XReg := ⟨n % 16, Nat.mod_lt _ (by decide)⟩
def mkF (n : Nat) : FReg := ⟨n % 32, Nat.mod_lt _ (by decide)⟩
def mkV (n : Nat) : VReg := ⟨n % 4, Nat.mod_lt _ (by decide)⟩
def mkRm (n : Nat) : Rm := ⟨n % 8, Nat.mod_lt _ (by decide)⟩
def mkFin (k : Nat) (h : 0 < k) (n : Nat) : Fin k := ⟨n % k, Nat.mod_lt _ h⟩

/-- Fields of a P-slot word by position (Table 6.1). -/
def pOpc (w : Nat) : Nat := bitsOf w 31 26
def pA (w : Nat) : Nat := bitsOf w 25 21
def pB (w : Nat) : Nat := bitsOf w 20 16
def pC (w : Nat) : Nat := bitsOf w 15 11
def pImm (w : Nat) : Nat := bitsOf w 15 0

/-- Give a value only where a condition on the fields holds. -/
def need {α : Type} (c : Bool) (v : Option α) : Option α := if c then v else none

/-- Format R, opcodes 0x01 and 0x0C. -/
def decIntR (w : Nat) : Option PInsn :=
  match intOpOf (pOpc w) (bitsOf w 5 0) with
  | some op => need (decide (pA w < 16) && decide (pB w < 16) && decide (pC w < 16) && bitsOf w 10 6 == 0)
      (some (.intR op (mkX (pA w)) (mkX (pB w)) (mkX (pC w))))
  | none => none

/-- Opcode 0x2C. -/
def decSys (w : Nat) : Option PInsn :=
  let fn := bitsOf w 5 0
  let ext := bitsOf w 10 6
  if fn = 0 then
    match vtyOf (bitsOf w 10 8) with
    | some ty => need (decide (pA w < 16) && decide (pB w < 16) && pC w == 0 && bitsOf w 7 6 == 0)
        (some (.vlset (mkX (pA w)) (mkX (pB w)) ty))
    | none => none
  else if fn = 1 then need (decide (pA w < 16) && pB w == 0 && pC w == 0 && ext == 0) (some (.getcyc (mkX (pA w))))
  else if fn = 2 then need (decide (pA w < 16) && pB w == 0 && pC w == 0 && ext == 0) (some (.getcue (mkX (pA w))))
  else
    need (pA w == 0 && pB w == 0 && pC w == 0 && ext == 0)
      (if fn = 3 then some .holdpt else if fn = 4 then some .tret else if fn = 5 then some .tskip else none)

/-- Opcode 0x30. -/
def decVec (w : Nat) : Option PInsn :=
  match vtyOf (bitsOf w 10 8) with
  | none => none
  | some ty =>
    let fn := bitsOf w 4 0
    if fn = 0x18 then
      match vtyOf (bitsOf w 13 11) with
      | some dt => need (decide (pA w < 4) && decide (pB w < 4) && bitsOf w 15 14 == 0) (some (.vcvt (mkV (pA w)) (mkV (pB w)) ty dt))
      | none => none
    else if fn = 0x1A then
      need (decide (pA w < 4) && decide (pC w < 4) && (!ty.isInt || decide (pB w < 16))) (some (.vbcast (mkV (pA w)) (mkF (pB w)) ty))
    else if fn = 0x1B then
      need (decide (pB w < 4) && decide (pC w < 16) && (!ty.isInt || decide (pA w < 16)))
        (some (.vext (mkF (pA w)) (mkV (pB w)) (mkX (pC w)) ty))
    else
      match vopOf fn with
      | none => none
      | some op => need (decide (pA w < 4) && decide (pB w < 4) && decide (pC w < 4) && op.typeOk ty)
          (some (.vop op ty (mkV (pA w)) (mkV (pB w)) (if op.unary then 0 else mkV (pC w))))

/-- Opcodes 0x33 and 0x34. -/
def decVmem (w : Nat) : Option PInsn :=
  match vtyOf (bitsOf w 10 8) with
  | none => none
  | some ty =>
    let fn := bitsOf w 4 0
    if pOpc w = 0x33 then
      need (decide (pA w < 4) && decide (pB w < 16) && pC w == 0)
        (if fn = 0 then some (.vld (mkV (pA w)) (mkX (pB w)) ty) else if fn = 1 then some (.vst (mkV (pA w)) (mkX (pB w)) ty) else none)
    else
      need (decide (pA w < 4) && decide (pB w < 16) && decide (pC w < 4))
        (if fn = 0 then some (.vgather (mkV (pA w)) (mkX (pB w)) (mkV (pC w)) ty)
         else if fn = 1 then some (.vscatter (mkV (pA w)) (mkX (pB w)) (mkV (pC w)) ty) else none)

/-- A P-slot word as an instruction (R176, Table 6.2); none where any opcode, function, type or field is reserved. A second source that
the instruction does not use and Table 6.2 does not list as zero may hold any register's number. -/
def decodeP (w : Nat) : Option PInsn :=
  if w = 0 then some .nop
  else
    let o := pOpc w
    if o = 1 ∨ o = 12 then decIntR w
    else if 2 ≤ o ∧ o ≤ 7 then
      match immOpOf o with
      | some op => need (decide (pA w < 16) && decide (pB w < 16)) (some (.intI op (mkX (pA w)) (mkX (pB w)) (BitVec.ofNat 16 (pImm w))))
      | none => none
    else if o = 8 then
      match shiftOf (bitsOf w 7 6) with
      | some op => need (decide (pA w < 16) && decide (pB w < 16) && bitsOf w 15 8 == 0)
          (some (.intI op (mkX (pA w)) (mkX (pB w)) (BitVec.ofNat 16 (bitsOf w 5 0))))
      | none => none
    else if o = 10 then
      need (decide (pA w < 16) && bitsOf w 20 18 == 0)
        (some (.iputh (mkX (pA w)) (mkFin 4 (by decide) (bitsOf w 17 16)) (BitVec.ofNat 16 (pImm w))))
    else if (ldOf o).isSome then
      match ldOf o with
      | some k => need (decide (pB w < 16) && (k.isF || decide (pA w < 16)))
          (some (.load k (mkF (pA w)) (mkX (pB w)) (BitVec.ofNat 16 (pImm w))))
      | none => none
    else if (stOf o).isSome then
      match stOf o with
      | some k => need (decide (pB w < 16) && (k.isF || decide (pA w < 16)))
          (some (.store k (mkF (pA w)) (mkX (pB w)) (BitVec.ofNat 16 (pImm w))))
      | none => none
    else if (brOf o).isSome then
      match brOf o with
      | some c => need (decide (pA w < 16) && decide (pB w < 16)) (some (.branch c (mkX (pA w)) (mkX (pB w)) (BitVec.ofNat 16 (pImm w))))
      | none => none
    else if o = 0x26 then
      need (decide (pA w < 16) && pB w == 0 && bitsOf w 15 13 == 0) (some (.call (mkX (pA w)) (BitVec.ofNat 13 (bitsOf w 12 0))))
    else if o = 0x27 then
      need (pA w == 0 && decide (pB w < 16) && pC w == 0 && bitsOf w 10 0 == 0) (some (.jreg (mkX (pB w))))
    else if o = 0x28 then
      match fopOf (bitsOf w 5 0) with
      | some op => need (decide (bitsOf w 7 6 < 2) && rmFOk (bitsOf w 10 8) && (!op.unary || pC w == 0))
          (some (.fop op (bitsOf w 7 6 == 1) (mkF (pA w)) (mkF (pB w)) (mkF (pC w)) (mkRm (bitsOf w 10 8))))
      | none => none
    else if o = 0x29 then
      match fmaOf (bitsOf w 1 0) with
      | some k => need (rmFOk (bitsOf w 5 3))
          (some (.fma k (bitOf w 2) (mkF (pA w)) (mkF (pB w)) (mkF (pC w)) (mkF (bitsOf w 10 6)) (mkRm (bitsOf w 5 3))))
      | none => none
    else if o = 0x2A then
      match ctyOf (bitsOf w 15 12), ctyOf (bitsOf w 11 8) with
      | some dt, some st =>
        need (bitsOf w 4 0 == 0 && (!dt.isInt || decide (pA w < 16)) && (!st.isInt || decide (pB w < 16)))
          (some (.cvt dt st (mkF (pA w)) (mkF (pB w)) (mkRm (bitsOf w 7 5))))
      | _, _ => none
    else if o = 0x2B then
      match fmovOf (bitsOf w 5 0) with
      | some op => need (bitsOf w 10 8 == 0 && decide (bitsOf w 7 6 < 2)
            && (!op.xDest || decide (pA w < 16)) && (!op.xSrc || decide (pB w < 16)))
          (some (.fmov op (bitsOf w 7 6 == 1) (mkF (pA w)) (mkF (pB w)) (if op.unary then 0 else mkF (pC w))))
      | none => none
    else if o = 0x2C then decSys w
    else if o = 0x30 then need (bitsOf w 7 5 == 0) (decVec w)
    else if o = 0x32 then
      match vtyOf (bitsOf w 10 8) with
      | some ty => need (bitsOf w 7 5 == 0 && bitsOf w 2 0 == 0 && decide (pA w < 4) && decide (pB w < 4) && decide (pC w < 4) && ty.isFp)
          (some (.vcmul (bitOf w 4) (bitOf w 3) ty (mkV (pA w)) (mkV (pB w)) (mkV (pC w))))
      | none => none
    else if o = 0x33 ∨ o = 0x34 then need (bitsOf w 7 5 == 0) (decVmem w)
    else none

/-- Fields put together: OPC, the three register fields and the low eleven bits. -/
def pWord (o a b c low : Nat) : Nat := o * 2 ^ 26 + a * 2 ^ 21 + b * 2 ^ 16 + c * 2 ^ 11 + low

def pWordI (o a b imm : Nat) : Nat := o * 2 ^ 26 + a * 2 ^ 21 + b * 2 ^ 16 + imm

/-- The word of an instruction (Tables 6.1 and 6.2). -/
def encodeP : PInsn → Nat
  | .nop => 0
  | .intR op rd rs1 rs2 => pWord op.code.1 rd rs1 rs2 op.code.2
  | .intI op rd rs1 imm =>
    match immOpCode op with
    | some o => pWordI o rd rs1 imm.toNat
    | none => pWordI 8 rd rs1 (((shiftCode op).getD 0) * 64 + imm.toNat % 64)
  | .iputh rd h imm => pWordI 10 rd h imm.toNat
  | .load k rd rs1 imm => pWordI k.code rd rs1 imm.toNat
  | .store k rs2 rs1 imm => pWordI k.code rs2 rs1 imm.toNat
  | .branch c rs1 rs2 off => pWordI c.code rs1 rs2 off.toNat
  | .call rd target => pWordI 0x26 rd 0 target.toNat
  | .jreg rs1 => pWordI 0x27 0 rs1 0
  | .fop op dbl fd fs1 fs2 rm => pWord 0x28 fd fs1 fs2 (rm.val * 256 + b2n dbl * 64 + op.code)
  | .fma k dbl fd fs1 fs2 fs3 rm => pWord 0x29 fd fs1 fs2 (fs3.val * 64 + rm.val * 8 + b2n dbl * 4 + k.code)
  | .fmov op dbl rd rs1 rs2 => pWord 0x2B rd rs1 rs2 (b2n dbl * 64 + op.code)
  | .cvt dt st rd rs1 rm => pWordI 0x2A rd rs1 (dt.code * 4096 + st.code * 256 + rm.val * 32)
  | .vlset rd rs1 ty => pWord 0x2C rd rs1 0 (ty.code * 256)
  | .getcyc rd => pWord 0x2C rd 0 0 1
  | .getcue rd => pWord 0x2C rd 0 0 2
  | .holdpt => pWord 0x2C 0 0 0 3
  | .tret => pWord 0x2C 0 0 0 4
  | .tskip => pWord 0x2C 0 0 0 5
  | .vop op ty vd vs1 vs2 => pWord 0x30 vd vs1 vs2 (ty.code * 256 + op.code)
  | .vcvt vd vs1 st dt => pWord 0x30 vd vs1 dt.code (st.code * 256 + 0x18)
  | .vbcast vd rs1 ty => pWord 0x30 vd rs1 0 (ty.code * 256 + 0x1A)
  | .vext rd vs1 rs2 ty => pWord 0x30 rd vs1 rs2 (ty.code * 256 + 0x1B)
  | .vcmul conj acc ty vd vs1 vs2 => pWord 0x32 vd vs1 vs2 (ty.code * 256 + b2n conj * 16 + b2n acc * 8)
  | .vld vd rs1 ty => pWord 0x33 vd rs1 0 (ty.code * 256)
  | .vst vd rs1 ty => pWord 0x33 vd rs1 0 (ty.code * 256 + 1)
  | .vgather vd rs1 vs2 ty => pWord 0x34 vd rs1 vs2 (ty.code * 256)
  | .vscatter vd rs1 vs2 ty => pWord 0x34 vd rs1 vs2 (ty.code * 256 + 1)

/-- What the encoding of an instruction admits beyond the types of its fields: register fields that name x registers,
types, rounding modes, fields that must be zero. -/
def PInsn.wf : PInsn → Bool
  | .intI op _ _ imm => (immOpCode op).isSome || ((shiftCode op).isSome && decide (imm.toNat < 64))
  | .load k rd _ _ => k.isF || decide (rd.val < 16)
  | .store k rs2 _ _ => k.isF || decide (rs2.val < 16)
  | .fop op _ _ _ fs2 rm => rmFOk rm && (!op.unary || fs2.val == 0)
  | .fma _ _ _ _ _ _ rm => rmFOk rm
  | .fmov op _ rd rs1 rs2 => (!op.unary || rs2.val == 0) && (!op.xDest || decide (rd.val < 16)) && (!op.xSrc || decide (rs1.val < 16))
  | .cvt dt st rd rs1 rm => (!dt.isInt || decide (rd.val < 16)) && (!st.isInt || decide (rs1.val < 16))
  | .vop op ty _ _ vs2 => op.typeOk ty && (!op.unary || vs2.val == 0)
  | .vbcast _ rs1 ty => !ty.isInt || decide (rs1.val < 16)
  | .vext rd _ _ ty => !ty.isInt || decide (rd.val < 16)
  | .vcmul _ _ ty _ _ _ => ty.isFp
  | _ => true

/-- An M-slot word (Table 5.3). -/
def decodeM (w : Nat) : Option MInsn :=
  if w = 0 then some .nop
  else
    match bitsOf w 31 28 with
    | 1 => need (bitsOf w 1 0 == 0) (some (.mm ⟨bitOf w 27, mkFin 4 (by decide) (bitsOf w 26 25), mkFin 4 (by decide) (bitsOf w 24 23),
        mkFin 256 (by decide) (bitsOf w 22 15), mkFin 8 (by decide) (bitsOf w 14 12), mkFin 8 (by decide) (bitsOf w 11 9),
        bitOf w 8, bitOf w 7, bitOf w 6, bitOf w 5, bitOf w 4, bitOf w 3, bitOf w 2⟩))
    | 2 => need (bitsOf w 27 23 == 0 && bitsOf w 5 0 == 0) (some (.shd ⟨mkFin 256 (by decide) (bitsOf w 22 15),
        mkFin 128 (by decide) (bitsOf w 14 8), mkFin 4 (by decide) (bitsOf w 7 6)⟩))
    | 3 => need (bitsOf w 24 23 == 0 && bitsOf w 7 0 == 0 && bitsOf w 11 9 != 7) (some (.drain ⟨bitOf w 27,
        mkFin 4 (by decide) (bitsOf w 26 25), mkFin 256 (by decide) (bitsOf w 22 15), mkFin 8 (by decide) (bitsOf w 14 12),
        mkFin 8 (by decide) (bitsOf w 11 9), bitOf w 8⟩))
    | _ => none

def encodeM : MInsn → Nat
  | .nop => 0
  | .mm f => 1 * 2 ^ 28 + b2n f.shape * 2 ^ 27 + f.fsa.val * 2 ^ 25 + f.fsb.val * 2 ^ 23 + f.tag.val * 2 ^ 15 + f.oaa.val * 2 ^ 12
      + f.oab.val * 2 ^ 9 + b2n f.add * 2 ^ 8 + b2n f.neg * 2 ^ 7 + b2n f.cplx * 2 ^ 6 + b2n f.conj * 2 ^ 5 + b2n f.ta * 2 ^ 4
      + b2n f.tb * 2 ^ 3 + b2n f.inc * 2 ^ 2
  | .shd f => 2 * 2 ^ 28 + f.tag.val * 2 ^ 15 + f.sunit.val * 2 ^ 8 + f.size.val * 2 ^ 6
  | .drain f => 3 * 2 ^ 28 + b2n f.shape * 2 ^ 27 + f.fsd.val * 2 ^ 25 + f.tag.val * 2 ^ 15 + f.oad.val * 2 ^ 12
      + f.atype.val * 2 ^ 9 + b2n f.mask * 2 ^ 8

/-- ATYPE 0b111 is reserved. -/
def MInsn.wf : MInsn → Bool
  | .drain f => f.atype.val != 7
  | _ => true

def dopOf : Nat → Option DOp
  | 1 => some .copy | 2 => some .convert | 3 => some .rwrite | 4 => some .gather | 5 => some .regather | 6 => some .fill
  | _ => none

def DOp.code : DOp → Nat
  | .copy => 1 | .convert => 2 | .rwrite => 3 | .gather => 4 | .regather => 5 | .fill => 6

/-- A D-slot word (Table 5.4). -/
def decodeD (w : Nat) : Option DInsn :=
  if w = 0 then some .nop
  else
    match dopOf (bitsOf w 31 28) with
    | some o => need (bitsOf w 15 0 == 0) (some (.op o ⟨mkFin 16 (by decide) (bitsOf w 27 24), mkFin 16 (by decide) (bitsOf w 23 20),
        mkFin 4 (by decide) (bitsOf w 19 18), bitOf w 17, bitOf w 16⟩))
    | none => none

def encodeD : DInsn → Nat
  | .nop => 0
  | .op o f => o.code * 2 ^ 28 + f.desc.val * 2 ^ 24 + f.wc.val * 2 ^ 20 + f.hint.val * 2 ^ 18 + b2n f.narrow * 2 ^ 17
      + b2n f.mask * 2 ^ 16

/-- An S-slot word (Table 5.5). -/
def decodeS (w : Nat) : Option SInsn :=
  match bitsOf w 15 12 with
  | 0 => need (w % 65536 == 0) (some .nop)
  | 1 => some (.wait (mkFin 16 (by decide) (bitsOf w 11 8)) (BitVec.ofNat 8 (bitsOf w 7 0)))
  | 2 => need (bitsOf w 9 4 == 0) (match bitsOf w 11 10 with
      | 0 => need (bitsOf w 3 0 == 0) (some (.fence .l))
      | 1 => need (bitsOf w 3 0 == 0) (some (.fence .d))
      | 2 => some (.fence (.f (mkFin 16 (by decide) (bitsOf w 3 0))))
      | _ => none)
  | 3 => some (.notice (BitVec.ofNat 8 (bitsOf w 11 4)) (mkX (bitsOf w 3 0)))
  | 4 => some (.take (BitVec.ofNat 8 (bitsOf w 11 4)) (mkX (bitsOf w 3 0)))
  | 5 => need (bitsOf w 11 0 == 0) (some .swapBank)
  | 6 => need (bitsOf w 11 0 == 0) (some .endOp)
  | _ => none

def encodeS : SInsn → Nat
  | .nop => 0
  | .wait k t => 1 * 4096 + k.val * 256 + t.toNat
  | .fence .l => 2 * 4096
  | .fence .d => 2 * 4096 + 1024
  | .fence (.f n) => 2 * 4096 + 2048 + n.val
  | .notice ch x => 3 * 4096 + ch.toNat * 16 + x.val
  | .take ch x => 4 * 4096 + ch.toNat * 16 + x.val
  | .swapBank => 5 * 4096
  | .endOp => 6 * 4096

end Sys2Proof.Machine
end

