-- ==== Sys2Proof/Config.lean ====
section
/-!
DEFINITION. Config.lean: what the manual leaves open, as constants without a body: nothing in Lean can evaluate them, so a
claim holds whatever they are. Each takes a counter of State (`free`) or the operands it depends on.
-/
namespace Sys2Proof.Config

/-- A value nothing in the manual fixes; the argument is a counter of State. -/
opaque freeWord : Nat → BitVec 64

/-- The stochastic-rounding draws of R97 and R98: seed, tile (or 4096 + engine), converting unit, index of the draw. -/
opaque srDraw : Word → Nat → Nat → Nat → BitVec 16

/-- The sampler draws of R299 and R300: seed, tile, index of the draw. -/
opaque sampleDraw : BitVec 32 → Nat → Nat → BitVec 16

/-- The ticket budgets the blocking engine declares with a plan (R317): PLAN_ID, port. -/
opaque planBudget : Nat → Nat → BitVec 64

/-- The MAC address of a front-of-house port (R395): of the part's configuration, which no register shows. -/
opaque macAddr : Nat → BitVec 48

/-- The order of the additions of R110 and R111 (and of other sums whose order is not stated): counter, element, step. -/
opaque sumPick : Nat → Nat → Nat → Nat

/-- Which of the values a panel byte has while an MM reads its panels is the one read (R108): counter, byte. -/
opaque pickByte : Nat → Nat → Nat

/-- Flit buffers of an input port beside the two that only C0 may use (R20), by class. -/
opaque rigRoom : Nat → Nat

/-- SHA-512 of the Nirard root key in ROOT0, as fused at manufacture (Table 18.1). -/
opaque rootHash : List Byte

/-- The device serial (Table 18.1). -/
opaque serial : BitVec 64

/-- The NOR bytes of the factory firmware and the factory configuration (R580), whose contents the manual does not give. -/
opaque factoryNor : Nat → Byte

/-- The identity certificate chain (R555). -/
opaque certChain : List Byte

/-- The identity key's signature over some bytes (R556): its key and its salt are not the manual's. -/
opaque idSign : Nat → List Byte → BitVec 4096

/-- The endpoint UUID (R563). -/
opaque uuid : BitVec 128

/-- The DETAIL of a code whose rule states none: the code, and what the event is about. -/
opaque openDetail : Nat → Nat → BitVec 64

/-- The cause that ends an access to the wings of a die that failed its test (Table 16.2). -/
opaque deadWings : BitVec 8

/-- The key, modulus then exponent, whose SHA-512 a fused slot holds (Table 18.1): the fuses hold the digest alone. -/
opaque keyOf : List Byte → List Byte

/-- The bytes that a tuple of R554 (Table 18.5) is hashed as. -/
opaque measBytes : List Nat → List Byte

/-- The peer prefix of session 0 that a configuration gives (R404): its length and address. -/
opaque sessPrefix : List Byte → BitVec 8 × BitVec 128

/-- The 64 bytes of a debug challenge (R558): serial, scope and life cycle, and the nonce; their places are not given. -/
opaque challengeRecord : List Nat → List Byte → List Byte

/-- The entry of Table 5.6 the verifier takes where an address or a format word is not a constant (R161): bundle, slot. -/
opaque verifierEntry : Nat → Nat → Nat

/-- Random bytes: counter, length. -/
opaque freeBytes : Nat → Nat → List Byte

/-- Version and command lists, descriptor records and capabilities that PLDM and MCTP name and this manual does not give (R563,
R565): what is asked, and its operands. -/
opaque answer : Nat → List Nat → List Byte

end Sys2Proof.Config
end

