-- ==== Sys2Proof/Machine/PbTypes.lean ====
section
/-!
DEFINITION. Machine/PbTypes.lean: the promptbook (R515-R523) as plain data: an entry on its way to the writer, an entry of
the ring, the writer's queue and pointer, and the tail.
-/
namespace Sys2Proof.Machine

/-- An entry handed to the writer. `pair` marks the HALT half of a HALT, HALT_DETAIL pair (R518); `host` an entry that is
also sent to the host status ring when the writer accepts it (R434). -/
structure PbIn where
  cue : Nat
  source : Nat
  kind : Nat
  code : Nat
  detail : Nat
  pair : Bool
  host : Bool
  deriving DecidableEq, Repr

/-- An entry of the ring (Table 16.6). `cls` is the whole CLASS byte. -/
structure PbRec where
  cue : Nat
  ns : Nat
  source : Nat
  cls : Nat
  code : Nat
  seq : Nat
  detail : Nat
  deriving DecidableEq, Repr

def PbRec.zero : PbRec := ⟨0, 0, 0, 0, 0, 0, 0⟩

/-- The writer: its queue in order of arrival, drops since the last GAP, the round-robin pointer (the MID after the last grant),
the next SEQ, the ring by slot, and the tail held in flash with what its header holds of it: the start-up
count and the first 8 bytes of the SHA-512 over its entries (R522). -/
structure PbState where
  queue : List PbIn
  drops : Nat
  ptr : Nat
  seq : Nat
  ring : SMap PbRec
  tail : Option (List PbRec)
  tailBoots : Nat
  tailSum : List Byte
  started : Bool
  deriving DecidableEq, Repr

def PbState.init : PbState where
  queue := []
  drops := 0
  ptr := 0
  seq := 1
  ring := []
  tail := none
  tailBoots := 0
  tailSum := []
  started := false

end Sys2Proof.Machine
end

