-- ==== Sys2Proof/Machine/BootTypes.lean ====
section
/-!
DEFINITION. Machine/BootTypes.lean: what start-up, the security block and the management block hold beside their registers
(R506-R514, R546-R567), and the firmware NOR.
-/
namespace Sys2Proof.Machine

/-- Start-up (R506): the stage that runs (7: after the boot lock); whether S5 has ended, and whether it reached its bound; the
durations of S0 and S1 in µs; entries held until S2 (R550); the code that sends the part to recovery; the retirement list in
flash (stack, page, spare; R251); whether RST_L is held low (R574); units that failed in S3 as TRAIN_FAIL details;
the cycles in which the stage that runs, and S5, started; the stages that have reached their bound. -/
structure BootX where
  stage : Nat
  links : Bool
  linksLate : Bool
  s0 : Nat
  s1 : Nat
  held : List PbIn
  fault : Option Nat
  retired : List (Nat × Nat × Nat)
  rstLow : Bool
  failed : List Nat
  since : Nat
  linksSince : Nat
  bounded : List Nat
  deriving DecidableEq, Repr

def BootX.init : BootX := ⟨0, false, false, 0, 0, [], none, [], false, [], 0, 0, []⟩

/-- A debug challenge outstanding (R558): its scope, its nonce, its 64 bytes, and the cycle it was made in. -/
structure Challenge where
  scope : Nat
  nonce : List Byte
  record : List Byte
  made : Nat
  deriving DecidableEq, Repr

/-- The security block: the fused slots (R546), what NOR bytes have been written since delivery and the ranges erased since
then, the challenge, the scope that opens at the next warm reset, the booted slot, the configuration copy applied, and SALT
and PWHASH of the applied configuration (R559). -/
structure SecX where
  roots : List (Option (List Byte))
  rootRevoked : Nat
  owners : List (Option (List Byte))
  ownerRevoked : Nat
  svn : Nat
  serial : Nat
  nor : SMap (Option Byte)
  norErased : List (Nat × Nat)
  challenge : Option Challenge
  pend : Option Nat
  slot : Option Nat
  copy : Option Nat
  salt : List Byte
  pwhash : List Byte
  deriving DecidableEq, Repr

/-- A firmware update that runs (R566): whether it writes a slot image or a configuration, the slot or copy it writes, whether
anything was written, the manifest bytes received, which are written last, whether all has come, and whether it verified. -/
structure Update where
  image : Bool
  place : Nat
  got : Bool
  manifest : List (Nat × Byte)
  whole : Bool
  verified : Bool
  deriving DecidableEq, Repr

/-- The management block: whether an I3C controller has addressed it, the terminus ID, the event receiver, the latest samples by
sensor, and the update. -/
structure MgmtX where
  addressed : Bool
  tid : Nat
  receiver : Option Nat
  samples : SMap (Option Nat)
  update : Option Update
  deriving DecidableEq, Repr

def MgmtX.init : MgmtX := ⟨false, 0, none, [], none⟩

end Sys2Proof.Machine
end

