-- ==== Sys2Proof/Machine/BoothTypes.lean ====
section
/-!
DEFINITION. Machine/BoothTypes.lean: what a booth core holds (R197).
-/
namespace Sys2Proof.Machine

/-- A booth core: its integer, floating-point and predicate registers, the index of its next 4-byte instruction, its own SRAM by
byte offset, whether it waits for an answer from another seat, and the code of its last fault or bus error. -/
structure BoothCore where
  x : SMap Word
  f : SMap Word
  p : SMap Word
  pc : Nat
  sram : SMap Byte
  waiting : Bool
  err : Nat
  deriving DecidableEq, Repr

def BoothCore.init : BoothCore := ⟨[], [], [], 0, [], false, 0⟩

end Sys2Proof.Machine
end

