-- ==== Sys2Proof/Machine/FlitCode.lean ====
section
/-!
DEFINITION. Machine/FlitCode.lean: flits as they stand on the wire (R356, R359, Tables 12.2 and 12.4): the trailer with its CRC-32 and
the bodies of the control flits.
-/
namespace Sys2Proof.Machine

/-- One bit of CRC-32 with polynomial 0x04C1_1DB7, the most significant first (R356; DESIGN CHOICE: the manual gives no bit order, no reflection and
no final inversion). -/
def crcBit (c : Nat) : Nat := if c.testBit 31 then (2 * c % 2 ^ 32) ^^^ 0x04C11DB7 else 2 * c

/-- CRC-32 over one byte more. -/
def crcByte (c : Nat) (b : Byte) : Nat := (List.range 8).foldl (fun c _ => crcBit c) (c ^^^ (b.toNat * 2 ^ 24))

/-- CRC-32 over some bytes, from a value on. The match only makes an evaluation settle each value before the next byte. -/
def crcFrom (c : Nat) : List Byte → Nat
  | [] => c
  | b :: l => match crcByte c b with
    | 0 => crcFrom 0 l
    | n + 1 => crcFrom (n + 1) l

/-- The CRC of a flit: bytes 0 to 247 and then the trailer's bits [63:32], from an initial value of all ones (R356). -/
def flitCrc (body trail : List Byte) : Nat := crcFrom 0xFFFFFFFF (body ++ trail)

/-- Fields (width, value) packed from bit 0 upward. -/
def packFields : List (Nat × Nat) → Nat
  | [] => 0
  | (w, v) :: r => v % 2 ^ w + 2 ^ w * packFields r

/-- The values of fields of these widths. -/
def unpackFields : List Nat → Nat → List Nat
  | [], _ => []
  | w :: r, n => n % 2 ^ w :: unpackFields r (n / 2 ^ w)

/-- Widths of an acknowledgement record in its 16 bytes; bit 127 marks a record that is there (DESIGN CHOICE: Table 12.4 gives the fields in
order, not their places, and no count). -/
def ackWidths : List Nat := [15, 15, 12, 16, 13, 8, 48, 1]

/-- CTYPE of a control message (Table 12.4). -/
def ctlType : Ctl → Nat
  | .cue _ _ _ _ => 1 | .stepComplete _ _ _ _ => 2 | .announce _ _ => 3 | .drained _ _ _ _ => 4 | .verdict _ _ => 5 | .ack _ _ => 6
  | .tickets _ _ _ => 7 | .retry _ => 8 | .idle => 9 | .probe => 10 | .seatLost _ _ => 11

/-- The fields of a control message's body, in the order of Table 12.4 and without gaps (DESIGN CHOICE: the table gives no places). -/
def ctlFields : Ctl → List (Nat × Nat)
  | .cue n m d r => [(64, n), (15, m), (32, d), (1, b2n r)]
  | .stepComplete _ q n d => [(15, q), (32, n), (1, b2n d)]
  | .announce k n => [(64, k), (32, n)]
  | .drained _ q k d => [(15, q), (64, k), (1, b2n d)]
  | .verdict k p => [(64, k), (1, b2n p)]
  | .ack _ l => (l.take 15).flatMap (fun a =>
      ackWidths.zip [a.dstSeat, a.srcSeat, a.srcMid, a.tag, a.bytes, a.code, 0, 1])
  | .tickets v lo hi => (List.range 8).map (fun i => (16, v.getD i 0)) ++ [(8, lo), (8, hi)]
  | .retry n => [(12, n)]
  | .idle => []
  | .probe => []
  | .seatLost q c => [(15, q), (64, c)]

/-- Bytes 0 to 247 of a control flit: its type and its body. -/
def ctlBytes (m : Ctl) : List Byte := leBytes (ctlType m) 1 ++ leBytes (packFields (ctlFields m)) 247

/-- The acknowledgement records of a body. -/
def ackRecs (n : Nat) : List AckRec :=
  (List.range 15).filterMap (fun i =>
    match unpackFields ackWidths (n / 2 ^ (128 * i)) with
    | [d, q, m, t, b, c, _, 1] => some ⟨d, q, m, t, b, c⟩
    | _ => none)

/-- The control message that bytes 0 to 247 of a control flit spell. A message routed to the cue master names no seat: it goes to `master`; an ACK to
the seat that its records answer. A type that Table 12.4 does not list does nothing (DESIGN CHOICE). -/
def ctlOf (master : Nat) (l : List Byte) : Ctl :=
  let n := ofLe (l.drop 1)
  let f := fun (ws : List Nat) (i : Nat) => (unpackFields ws n).getD i 0
  match (l.headD 0).toNat with
  | 1 => let g := f [64, 15, 32, 1]; .cue (g 0) (g 1) (g 2) (g 3 == 1)
  | 2 => let g := f [15, 32, 1]; .stepComplete master (g 0) (g 1) (g 2 == 1)
  | 3 => let g := f [64, 32]; .announce (g 0) (g 1)
  | 4 => let g := f [15, 64, 1]; .drained master (g 0) (g 1) (g 2 == 1)
  | 5 => let g := f [64, 1]; .verdict (g 0) (g 1 == 1)
  | 6 => let r := ackRecs n; .ack ((r.head?.map AckRec.srcSeat).getD master) r
  | 7 => let g := f (List.replicate 8 16 ++ [8, 8]); .tickets ((List.range 8).map g) (g 8) (g 9)
  | 8 => .retry (f [12] 0)
  | 10 => .probe
  | 11 => let g := f [15, 64]; .seatLost (g 0) (g 1)
  | _ => .idle

/-- Trailer bits [63:32] of a flit (Table 12.2). -/
def flitTrail (f : Flit) : Nat :=
  let c := match f.body with | .ctl _ => 1 | .cls _ => 0
  packFields [(2, 0), (1, c), (1, b2n f.eop), (1, b2n f.sop), (3, f.vc), (12, f.ack), (12, f.seq)]

/-- Bytes 0 to 247 of a flit. -/
def flitFront (f : Flit) : List Byte :=
  match f.body with
  | .ctl m => ctlBytes m
  | .cls b => b ++ List.replicate (248 - b.length) 0

/-- The 256 bytes of a flit (R356). -/
def flitBytes (f : Flit) : List Byte :=
  let t := leBytes (flitTrail f) 4
  flitFront f ++ leBytes (flitCrc (flitFront f) t) 4 ++ t

/-- A flit as FEC delivers it: marked bad where a codeword it touches was not correctable (R362). Its CRC is checked over the bytes (R356, R363). -/
def readFlit (master : Nat) (w : WireFlit) : Flit :=
  let front := w.bytes.take 248
  let crc := ofLe ((w.bytes.drop 248).take 4)
  let t := ofLe ((w.bytes.drop 252).take 4)
  let g := fun (i : Nat) => (unpackFields [2, 1, 1, 1, 3, 12, 12] t).getD i 0
  let good := w.bytes.length == 256 && crc == flitCrc front ((w.bytes.drop 252).take 4) && !w.bad
  ⟨g 6, g 5, g 4, g 3 == 1, g 2 == 1, good, if g 1 = 1 then .ctl (ctlOf master front) else .cls front⟩

end Sys2Proof.Machine
end

