-- ==== Sys2Proof/Machine/FabTypes.lean ====
section
/-!
DEFINITION. Machine/FabTypes.lean: packets and what the fabric of this part holds (R356-R368, R374, R377): input and output
of each port, retry buffers, tickets, requests outstanding, collectives.
-/
namespace Sys2Proof.Machine

/-- A class packet: the fields of its header (Table 12.3) and its payload. -/
structure Pkt where
  op : Nat
  dst : Nat
  addr : Nat
  src : Nat
  mid : Nat
  relayed : Bool
  hint : Nat
  fmt : Nat
  tag : Nat
  version : Nat
  code : Nat
  pmask : Nat
  lenm1 : Nat
  data : List Byte
  deriving DecidableEq, Repr

/-- OP codes of Table 12.3. -/
def opWrite : Nat := 1
def opRwAdd : Nat := 2
def opRwXor : Nat := 3
def opReadReq : Nat := 4
def opReadResp : Nat := 5
def opCollData : Nat := 6
def opCollCtrl : Nat := 7
def opMgmt : Nat := 8

/-- The class of a packet (Table 12.5). -/
def Pkt.cls (p : Pkt) : Nat :=
  if p.op = opReadReq then 1 else if p.op = opCollCtrl then 2 else if p.op = opMgmt then 3 else 0

/-- Packets that are accesses to the memory of the seat they go to. -/
def Pkt.isAccess (p : Pkt) : Bool := p.op == opWrite || p.op == opRwAdd || p.op == opRwXor || p.op == opReadReq || p.op == opCollData

/-- Do [a, a + n) and [b, b + m) share a granule? -/
def shareGranule (a n b m : Nat) : Bool :=
  decide (n ≠ 0) && decide (m ≠ 0) && decide (a / 128 ≤ (b + m - 1) / 128) && decide (b / 128 ≤ (a + n - 1) / 128)

/-- Bytes a packet reads or writes. -/
def Pkt.span (p : Pkt) : Nat := if p.op = opReadReq then p.lenm1 + 1 else p.data.length

/-- Are these accesses of one master to one granule (R29)? -/
def Pkt.sameGranule (p q : Pkt) : Bool :=
  p.isAccess && q.isAccess && p.src == q.src && p.mid == q.mid && shareGranule p.addr p.span q.addr q.span

/-- Flits of a packet (R357). -/
def Pkt.flits (p : Pkt) : Nat := if p.data.length ≤ 200 then 1 else 1 + (p.data.length - 200 + 247) / 248

/-- The six header words of Table 12.3. -/
def Pkt.words (p : Pkt) : List Nat :=
  [p.op * 2 ^ 59 + p.dst % 2 ^ 15 * 2 ^ 44 + p.addr % 2 ^ 44,
   p.src % 2 ^ 15 * 2 ^ 49 + p.mid % 2 ^ 12 * 2 ^ 37 + b2n p.relayed * 2 ^ 36 + p.hint % 4 * 2 ^ 34 + p.fmt % 2 ^ 16 * 2 ^ 16
     + p.tag % 2 ^ 16,
   p.version % 2 ^ 32 * 2 ^ 32 + p.code % 256 * 2 ^ 24 + b2n (decide (p.pmask ≠ 0)) * 2 ^ 12 + p.lenm1 % 4096,
   p.pmask % 2 ^ 64, p.pmask / 2 ^ 64 % 2 ^ 64, 0]

/-- Header and payload as bytes. -/
def Pkt.toBytes (p : Pkt) : List Byte := p.words.flatMap (fun w => leBytes w 8) ++ p.data

/-- The length of the payload a header announces: none on a READ_REQ, nor on COLL_DATA marked EMPTY (R381). -/
def payloadLen (op tag lenm1 : Nat) : Nat :=
  if op = opReadReq then 0 else if op = opCollData ∧ bitOf tag 15 then 0 else lenm1 + 1

/-- The packet that 48 header bytes and a payload spell. -/
def Pkt.ofBytes (l : List Byte) : Pkt :=
  let w := fun (i : Nat) => ofLe ((l.drop (8 * i)).take 8)
  let w0 := w 0
  let w1 := w 1
  let w2 := w 2
  let op := bitsOf w0 63 59
  let tag := bitsOf w1 15 0
  ⟨op, bitsOf w0 58 44, bitsOf w0 43 0, bitsOf w1 63 49, bitsOf w1 48 37, bitOf w1 36, bitsOf w1 35 34, bitsOf w1 31 16, tag,
    bitsOf w2 63 32, bitsOf w2 31 24, w 3 + w 4 * 2 ^ 64, bitsOf w2 11 0, (l.drop 48).take (payloadLen op tag (bitsOf w2 11 0))⟩

/-- Jobs of the resilience engine. -/
def jobCkpt : Nat := 1
def jobRebuild : Nat := 2
def jobPermute : Nat := 3

/-- Who waits for the answer to a request. -/
inductive ReqOwner where
  | xfer (t id off : Nat)
  | glob (t id : Nat)
  | coll (set num : Nat)
  | resil (job : Nat)
  | permute
  | core (n : Nat) (load : Option (LdKind × Nat))
  deriving DecidableEq, Repr

/-- Is the engine that waits for it the resilience engine? -/
def ReqOwner.isResil : ReqOwner → Bool
  | .resil _ => true
  | _ => false

/-- Is a request none of the step: the resilience engine's, or the permute's of a re-shard (R344, R475)? -/
def ReqOwner.apart : ReqOwner → Bool
  | .resil _ => true
  | .permute => true
  | _ => false

/-- A request or write not yet answered (R375, R377). -/
structure FReq where
  tag : Nat
  mid : Nat
  dst : Nat
  op : Nat
  addr : Nat
  len : Nat
  rdst : Nat
  sent : Nat
  owner : ReqOwner
  deriving DecidableEq, Repr

/-- A packet waiting at an output port: the input it came from (16 is this part), the VC it arrived on, and its VC. -/
structure OutPkt where
  input : Nat
  invc : Nat
  vc : Nat
  pkt : Pkt
  deriving DecidableEq, Repr

/-- A packet that a port is sending: the flits still to leave, and whether none has left yet (R366). -/
structure Leaving where
  out : OutPkt
  bodies : List (List Byte)
  first : Bool
  deriving DecidableEq, Repr

/-- Is a control message `c` the message `m` on its way on: a CUE flit gathers delay (R361)? -/
def ctlPasses (m c : Ctl) : Bool :=
  match m, c with
  | .cue n q _ _, .cue n' q' _ _ => n == n' && q == q'
  | _, _ => m == c

/-- A port: sequence numbers, retry buffer, flits of the packet being received, whole packets received, packets waiting to
leave, control flits waiting (0 link, 1 routed or flood), tickets held and to be returned per VC, control tickets held and
to be returned per level, the arbiter's pointer over (VC, input), the run of retries naming one SEQ, whether a RETRY of
ours is open, attempts of the training sequence in progress, and the cycles of the last valid flit and of our last RETRY. The
retry buffer keeps with a flit the TAG of this seat's packet it belongs to. `going` is the packet it is sending, `ctlHeld` the control flits that came
in by it, at level hi or lo, and wait at other ports (R360). -/
structure FPort where
  txSeq : Nat
  rxSeq : Nat
  retry : List (Flit × Option Nat)
  part : List Flit
  arrived : List (Nat × Pkt)
  outq : List OutPkt
  ctlq : List (Nat × Ctl)
  tk : List Nat
  ret : List Nat
  ctlTk : Nat × Nat
  ctlRet : Nat × Nat
  rr : Nat
  retrySeq : Option Nat
  retryRun : Nat
  asked : Bool
  attempts : Nat
  heardAt : Nat
  askedAt : Nat
  going : Option Leaving
  ctlHeld : List (Bool × Ctl)
  deriving DecidableEq, Repr

def FPort.init : FPort :=
  ⟨0, 0, [], [], [], [], [], List.replicate 8 0, List.replicate 8 0, (0, 0), (0, 0), 0, none, 0, false, 0, 0, 0, none, []⟩

/-- A byte with its poison. -/
abbrev PByte := Byte × Bool

/-- A collective that runs (R381-R384): its half, its set and number on it, its descriptor, the parties' seats in party
order, whether its own part has been sent, the share it reduces, contributions of which bytes are missing, parties already
added, shares whose result stands in DST, whether its own result was sent, sends not acknowledged, parties heard from, and
how it failed. -/
structure CollRun where
  half : Nat
  set : Nat
  num : Nat
  desc : List Nat
  parties : List Nat
  begun : Bool
  acc : List PByte
  part : List (CollPiece × List PByte)
  vals : List (Nat × List PByte)
  added : List Nat
  placed : List Nat
  published : Bool
  wait : Nat
  heard : List Nat
  lost : Option Nat
  cause : Nat
  malformed : Bool
  sat : Nat
  deriving DecidableEq, Repr

/-- Body of the CUE flit resent under retry (R361). -/
def resentFlit (f : Flit) (ack : Nat) : Flit :=
  match f.body with
  | .ctl (.cue n m d _) => { f with ack := ack, body := .ctl (.cue n m d true) }
  | _ => { f with ack := ack }

/-- Everything the fabric holds beside its registers; `ctls` are the TAGs of the coordination packets of collectives (set, number) that run, `ceStopped`
the collectives another party has told this one of as failed before they started here (R384). -/
structure FabState where
  ports : SMap FPort
  inject : List Pkt
  inbox : List Pkt
  reqs : List FReq
  tagNext : Nat
  routeHold : List (Nat × List Nat)
  ceQ0 : List (List Nat)
  ceQ1 : List (List Nat)
  runs : List CollRun
  ceHeard : List (Nat × Nat × Nat)
  early : List (CollPiece × Pkt)
  setCount : SMap Nat
  resilDone : List (Nat × Nat)
  lostSeats : List Nat
  tree : List Nat
  ctls : List (Nat × Nat × Nat)
  ceStopped : List (Nat × Nat)
  deriving DecidableEq, Repr

def FabState.init : FabState := ⟨[], [], [], [], 0, [], [], [], [], [], [], [], [], [], [], [], []⟩

end Sys2Proof.Machine
end

