-- ==== Sys2Proof/Machine/Registers.lean ====
section
/-!
DEFINITION. Machine/Registers.lean: EVERY REGISTER OF THE PART, transcribed from the register maps of the manual (the
tables that R69-R73, R99-R101, R130, R131, R164-R167, R196, R218, R219, R258-R261, R292-R295, R313-R315, R351, R389-R392,
R421-R425, R459-R462, R500-R503, R524, R545, R568 and R569 name): its address, its copies and their strides, and each
field's bits, access code (Table 0.5) and reset value. Bits no field names are reserved (R12).
-/
namespace Sys2Proof.Machine

/-- The access codes of Table 0.5. -/
inductive Access where
  | rw | ro | wo | w1c | rc | rwl
  deriving DecidableEq, Repr

/-- One field of a register map. -/
structure Field where
  name : String
  hi : Nat
  lo : Nat
  acc : Access
  reset : Nat
  deriving DecidableEq, Repr

/-- A register, or a family of them: copy (i, j) lies at base + i * s1 + j * s2, for i < n1 and j < n2. -/
structure RegDef where
  name : String
  base : Nat
  n1 : Nat
  s1 : Nat
  n2 : Nat
  s2 : Nat
  fields : List Field
  deriving DecidableEq, Repr

/-- Does this family hold the register at address `a`? -/
def RegDef.at? (r : RegDef) (a : Nat) : Bool :=
  decide (r.base ≤ a) &&
    (let d := a - r.base
     let i := if r.s1 = 0 then 0 else d / r.s1
     let e := if r.s1 = 0 then d else d % r.s1
     let j := if r.s2 = 0 then 0 else e / r.s2
     let f := if r.s2 = 0 then e else e % r.s2
     decide (i < r.n1) && decide (j < r.n2) && f == 0)

def regsTA0 : List RegDef := [
  -- R99
  ⟨"TA_CVT_STATUS", 0x110000f8100, 2048, 0x100000, 1, 0x0,
    [⟨"MODE_FIX", 8, 8, .w1c, 0⟩, ⟨"INEXACT", 7, 7, .w1c, 0⟩, ⟨"UNDERFLOW", 6, 6, .w1c, 0⟩, ⟨"OVERFLOW", 5, 5, .w1c, 0⟩, ⟨"DIVZERO", 4, 4, .w1c, 0⟩, ⟨"INVALID", 3, 3, .w1c, 0⟩, ⟨"NAN_IN", 2, 2, .w1c, 0⟩, ⟨"INF_SAT", 1, 1, .w1c, 0⟩, ⟨"SAT", 0, 0, .w1c, 0⟩]⟩,
  -- R100
  ⟨"TA_SAT_COUNT", 0x110000f8108, 2048, 0x100000, 1, 0x0,
    [⟨"COUNT", 31, 0, .rw, 0⟩]⟩,
  -- R101
  ⟨"TA_SR_SEED", 0x110000f8110, 2048, 0x100000, 1, 0x0,
    [⟨"SEED", 63, 0, .rw, 0⟩]⟩,
  -- R130
  ⟨"TA_OA", 0x110000f8200, 2048, 0x100000, 8, 0x8,
    [⟨"STEP", 44, 26, .rw, 0⟩, ⟨"BASE", 18, 0, .rw, 0⟩]⟩,
  -- R131
  ⟨"TA_MFMT", 0x110000f8240, 2048, 0x100000, 1, 0x0,
    [⟨"FMT3", 63, 48, .rw, 0⟩, ⟨"FMT2", 47, 32, .rw, 0⟩, ⟨"FMT1", 31, 16, .rw, 0⟩, ⟨"FMT0", 15, 0, .rw, 0⟩]⟩,
  -- R164
  ⟨"TA_SEQ", 0x110000f8300, 2048, 0x100000, 1, 0x0,
    [⟨"HALT_REASON", 39, 32, .ro, 0⟩, ⟨"BANK", 31, 31, .ro, 0⟩, ⟨"STANDBY_MARKED", 30, 30, .ro, 0⟩, ⟨"STANDBY_COMMIT", 29, 29, .ro, 0⟩, ⟨"STATE", 28, 26, .ro, 0⟩, ⟨"REPEAT_LEFT", 25, 13, .ro, 0⟩, ⟨"RESUME", 12, 0, .ro, 0⟩]⟩,
  -- R165
  ⟨"TA_WC_LO", 0x110000f8308, 2048, 0x100000, 1, 0x0,
    [⟨"WC0", 7, 0, .ro, 0⟩, ⟨"WC1", 15, 8, .ro, 0⟩, ⟨"WC2", 23, 16, .ro, 0⟩, ⟨"WC3", 31, 24, .ro, 0⟩, ⟨"WC4", 39, 32, .ro, 0⟩, ⟨"WC5", 47, 40, .ro, 0⟩, ⟨"WC6", 55, 48, .ro, 0⟩, ⟨"WC7", 63, 56, .ro, 0⟩]⟩,
  -- R165
  ⟨"TA_WC_HI", 0x110000f8310, 2048, 0x100000, 1, 0x0,
    [⟨"WC8", 7, 0, .ro, 0⟩, ⟨"WC9", 15, 8, .ro, 0⟩, ⟨"WC10", 23, 16, .ro, 0⟩, ⟨"WC11", 31, 24, .ro, 0⟩, ⟨"WC12", 39, 32, .ro, 0⟩, ⟨"WC13", 47, 40, .ro, 0⟩, ⟨"WC14", 55, 48, .ro, 0⟩, ⟨"WC15", 63, 56, .ro, 0⟩]⟩,
  -- R218
  ⟨"TA_HALT0", 0x110000f8318, 2048, 0x100000, 1, 0x0,
    [⟨"VALID", 63, 63, .ro, 0⟩, ⟨"REASON", 55, 48, .ro, 0⟩, ⟨"RESOURCE", 39, 36, .ro, 0⟩, ⟨"SLOT", 35, 33, .ro, 0⟩, ⟨"BANK", 32, 32, .ro, 0⟩, ⟨"ELEMENT", 31, 26, .ro, 0⟩, ⟨"REPEAT", 25, 13, .ro, 0⟩, ⟨"BUNDLE", 12, 0, .ro, 0⟩]⟩,
  -- R218
  ⟨"TA_HALT1", 0x110000f8320, 2048, 0x100000, 1, 0x0,
    [⟨"CYCLE", 63, 0, .ro, 0⟩]⟩,
  -- R218
  ⟨"TA_HALT2", 0x110000f8328, 2048, 0x100000, 1, 0x0,
    [⟨"DETAIL", 63, 0, .ro, 0⟩]⟩,
  -- R219
  ⟨"TA_BANKCTL", 0x110000f8330, 2048, 0x100000, 1, 0x0,
    [⟨"HALT_DETAIL", 63, 32, .wo, 0⟩, ⟨"HALT", 1, 1, .wo, 0⟩, ⟨"MARK", 0, 0, .rw, 0⟩]⟩]

def regsTA1 : List RegDef := [
  -- R166
  ⟨"TA_DMD_W0", 0x110000f8400, 2048, 0x100000, 16, 0x20,
    [⟨"SRC", 58, 0, .rw, 0⟩]⟩,
  -- R166
  ⟨"TA_DMD_W1", 0x110000f8408, 2048, 0x100000, 16, 0x20,
    [⟨"DST", 58, 0, .rw, 0⟩]⟩,
  -- R166
  ⟨"TA_DMD_W2", 0x110000f8410, 2048, 0x100000, 16, 0x20,
    [⟨"DFMT", 63, 48, .rw, 0⟩, ⟨"SFMT", 47, 32, .rw, 0⟩, ⟨"LEN", 31, 0, .rw, 0⟩]⟩,
  -- R166
  ⟨"TA_DMD_W3", 0x110000f8418, 2048, 0x100000, 16, 0x20,
    [⟨"VERSION", 31, 0, .rw, 0⟩]⟩,
  -- R196
  ⟨"TA_PCTL", 0x110000f8600, 2048, 0x100000, 1, 0x0,
    [⟨"FRM", 6, 4, .rw, 0⟩, ⟨"VRM", 2, 0, .rw, 0⟩]⟩,
  -- R196
  ⟨"TA_PTVEC", 0x110000f8608, 2048, 0x100000, 1, 0x0,
    [⟨"EN", 63, 63, .rw, 0⟩, ⟨"INDEX", 12, 0, .rw, 0⟩]⟩,
  -- R196
  ⟨"TA_PTRAP0", 0x110000f8610, 2048, 0x100000, 1, 0x0,
    [⟨"ACTIVE", 63, 63, .ro, 0⟩, ⟨"VALID", 62, 62, .ro, 0⟩, ⟨"CAUSE", 47, 40, .ro, 0⟩, ⟨"ELEMENT", 37, 32, .ro, 0⟩, ⟨"FBANK", 31, 31, .ro, 0⟩, ⟨"FREPEAT", 25, 13, .ro, 0⟩, ⟨"FBUNDLE", 12, 0, .ro, 0⟩]⟩,
  -- R196
  ⟨"TA_PTRAP1", 0x110000f8618, 2048, 0x100000, 1, 0x0,
    [⟨"ADDR", 63, 0, .ro, 0⟩]⟩,
  -- R196
  ⟨"TA_PTRAP2", 0x110000f8620, 2048, 0x100000, 1, 0x0,
    [⟨"RESTART", 26, 26, .ro, 0⟩, ⟨"REPEAT_LEFT", 25, 13, .ro, 0⟩, ⟨"RESUME", 12, 0, .ro, 0⟩]⟩,
  -- R196
  ⟨"TA_PTRAP3", 0x110000f8628, 2048, 0x100000, 1, 0x0,
    [⟨"INSN", 31, 0, .ro, 0⟩]⟩,
  -- R196
  ⟨"TA_PVL", 0x110000f8630, 2048, 0x100000, 1, 0x0,
    [⟨"VL", 7, 0, .rw, 0⟩]⟩,
  -- R168 R196
  ⟨"TA_PX0", 0x110000f8700, 2048, 0x100000, 1, 0x0,
    [⟨"VALUE", 63, 0, .ro, 0⟩]⟩]

def regsTA2 : List RegDef := [
  -- R196
  ⟨"TA_PXN", 0x110000f8708, 2048, 0x100000, 15, 0x8,
    [⟨"VALUE", 63, 0, .rw, 0⟩]⟩,
  -- R196
  ⟨"TA_PF", 0x110000f8800, 2048, 0x100000, 32, 0x8,
    [⟨"VALUE", 63, 0, .rw, 0⟩]⟩,
  -- R261
  ⟨"TA_MFAULT0", 0x110000f8900, 2048, 0x100000, 1, 0x0,
    [⟨"VALID", 63, 63, .w1c, 0⟩, ⟨"CAUSE", 55, 48, .ro, 0⟩, ⟨"DESC", 47, 44, .ro, 0⟩, ⟨"SOURCE", 43, 42, .ro, 0⟩]⟩,
  -- R261
  ⟨"TA_MFAULT1", 0x110000f8908, 2048, 0x100000, 1, 0x0,
    [⟨"ADDR", 58, 0, .ro, 0⟩]⟩,
  -- R261
  ⟨"TA_MFAULT2", 0x110000f8910, 2048, 0x100000, 1, 0x0,
    [⟨"COUNT", 31, 0, .rc, 0⟩]⟩,
  -- R315
  ⟨"TA_DC_ENC0", 0x110000f8a00, 2048, 0x100000, 1, 0x0,
    [⟨"ELEMENTS", 63, 0, .ro, 0⟩]⟩,
  -- R315
  ⟨"TA_DC_ENC1", 0x110000f8a08, 2048, 0x100000, 1, 0x0,
    [⟨"VANISHED", 63, 32, .ro, 0⟩, ⟨"SATURATED", 31, 0, .ro, 0⟩]⟩,
  -- R315
  ⟨"TA_DC_ENC2", 0x110000f8a10, 2048, 0x100000, 1, 0x0,
    [⟨"ZERO_BLOCKS", 63, 32, .ro, 0⟩, ⟨"ESC_NARROWED", 31, 0, .ro, 0⟩]⟩,
  -- R315
  ⟨"TA_DC_ENC3", 0x110000f8a18, 2048, 0x100000, 1, 0x0,
    [⟨"BLOCKS", 63, 32, .ro, 0⟩, ⟨"NAN_OUT", 31, 0, .ro, 0⟩]⟩]

/-- The TA block. -/
def regsTA : List RegDef := regsTA0 ++ regsTA1 ++ regsTA2

def regsTAG0 : List RegDef := [
  -- R167
  ⟨"TA_LAT_VER", 0x1200d000000, 1, 0x0, 1, 0x0,
    [⟨"ENTRIES", 39, 32, .ro, 0x24⟩, ⟨"VERSION", 31, 0, .ro, 0x10000⟩]⟩,
  -- R167
  ⟨"TA_LAT", 0x1200d000100, 64, 0x8, 1, 0x0,
    [⟨"ENTRY", 63, 56, .ro, 0⟩, ⟨"STALL", 46, 46, .ro, 0⟩, ⟨"VARIABLE", 45, 45, .ro, 0⟩, ⟨"READ", 44, 40, .ro, 0⟩, ⟨"RESOURCE", 39, 36, .ro, 0⟩, ⟨"PARAM", 35, 32, .ro, 0⟩, ⟨"RDY_B", 31, 24, .ro, 0⟩, ⟨"RDY_A", 23, 16, .ro, 0⟩, ⟨"OCC_B", 15, 8, .ro, 0⟩, ⟨"OCC_A", 7, 0, .ro, 0⟩]⟩,
  -- R313
  ⟨"TA_DC_CTL", 0x1200d000400, 1, 0x0, 1, 0x0,
    [⟨"SEED", 63, 32, .rw, 0⟩, ⟨"CONVERT_EN", 9, 9, .rw, 0⟩, ⟨"CHAIN_EN", 8, 8, .rw, 0⟩, ⟨"RATE", 3, 0, .rw, 0xa⟩]⟩,
  -- R313
  ⟨"TA_DC_THRESH", 0x1200d000408, 1, 0x0, 1, 0x0,
    [⟨"SAT_LIM", 63, 48, .rw, 0⟩, ⟨"VANISH_LIM", 47, 32, .rw, 0⟩, ⟨"DIS_LIM", 15, 8, .rw, 0⟩, ⟨"E_LEVEL", 5, 0, .rw, 0⟩]⟩,
  -- R313
  ⟨"TA_DC_SNAP", 0x1200d000410, 1, 0x0, 1, 0x0,
    [⟨"CUE", 63, 0, .ro, 0⟩]⟩,
  -- R314
  ⟨"TA_DC_AREA", 0x1200d001000, 8, 0x400, 1, 0x0,
    [⟨"VALID", 63, 63, .rw, 0⟩, ⟨"BASE", 9, 0, .rw, 0⟩]⟩,
  -- R314
  ⟨"TA_DC_COUNT0", 0x1200d001008, 8, 0x400, 1, 0x0,
    [⟨"DONE", 63, 32, .ro, 0⟩, ⟨"DISAGREE", 31, 0, .ro, 0⟩]⟩,
  -- R314
  ⟨"TA_DC_COUNT1", 0x1200d001010, 8, 0x400, 1, 0x0,
    [⟨"ABANDONED", 63, 48, .ro, 0⟩, ⟨"DROPPED", 47, 32, .ro, 0⟩, ⟨"SKIPPED", 31, 0, .ro, 0⟩]⟩,
  -- R314
  ⟨"TA_DC_COUNT2", 0x1200d001018, 8, 0x400, 1, 0x0,
    [⟨"NONFINITE", 63, 32, .ro, 0⟩, ⟨"SELECTED", 31, 0, .ro, 0⟩]⟩,
  -- R314
  ⟨"TA_DC_EHIST", 0x1200d001100, 8, 0x400, 32, 0x8,
    [⟨"COUNT", 63, 0, .ro, 0⟩]⟩,
  -- R314
  ⟨"TA_DC_SHIST", 0x1200d001200, 8, 0x400, 32, 0x8,
    [⟨"COUNT", 63, 0, .ro, 0⟩]⟩]

/-- The TAG block. -/
def regsTAG : List RegDef := regsTAG0

def regsCU0 : List RegDef := [
  -- R69
  ⟨"CU_COUNT", 0x12003000000, 1, 0x0, 1, 0x0,
    [⟨"COUNT", 63, 0, .ro, 0⟩]⟩,
  -- R70
  ⟨"CU_CTL", 0x12003000008, 1, 0x0, 1, 0x0,
    [⟨"MARGIN", 55, 48, .rw, 8⟩, ⟨"BACKUP_EN", 47, 47, .rw, 0⟩, ⟨"BACKUP_SEAT", 46, 32, .rw, 0⟩, ⟨"MASTER_SEAT", 30, 16, .rw, 0⟩, ⟨"PERIOD", 10, 0, .rw, 0x64⟩]⟩,
  -- R71
  ⟨"CU_STATUS", 0x12003000010, 1, 0x0, 1, 0x0,
    [⟨"SCENE_STATE", 13, 12, .ro, 0⟩, ⟨"LAST_VERDICT", 11, 11, .ro, 0⟩, ⟨"CURTAIN_PHASE", 10, 8, .ro, 0⟩, ⟨"LATE_ALARM", 5, 5, .w1c, 0⟩, ⟨"FAILOVER", 4, 4, .w1c, 0⟩, ⟨"CUT_OFF", 3, 3, .w1c, 0⟩, ⟨"HOLDOVER", 2, 2, .ro, 0⟩, ⟨"MASTER", 1, 1, .ro, 0⟩, ⟨"LOCKED", 0, 0, .ro, 0⟩]⟩,
  -- R72
  ⟨"CU_STEP", 0x12003000018, 1, 0x0, 1, 0x0,
    [⟨"DISCARDS", 63, 32, .ro, 0⟩, ⟨"STEP", 31, 0, .ro, 0⟩]⟩,
  -- R72
  ⟨"CU_CURTAIN", 0x12003000020, 1, 0x0, 1, 0x0,
    [⟨"K", 63, 0, .ro, 0⟩]⟩,
  -- R72
  ⟨"CU_MAP_CUE", 0x12003000028, 1, 0x0, 1, 0x0,
    [⟨"CUE", 63, 0, .ro, 0⟩]⟩,
  -- R72
  ⟨"CU_MAP_NS", 0x12003000030, 1, 0x0, 1, 0x0,
    [⟨"NS", 63, 0, .ro, 0⟩]⟩,
  -- R73
  ⟨"CU_ALARM_CTL", 0x12003000100, 32, 0x10, 1, 0x0,
    [⟨"TAG", 23, 16, .rw, 0⟩, ⟨"CHANNEL", 15, 8, .rw, 0⟩, ⟨"ACTION", 5, 4, .rw, 0⟩, ⟨"SCENE", 3, 3, .rw, 0⟩, ⟨"LATE", 2, 2, .w1c, 0⟩, ⟨"FIRED", 1, 1, .w1c, 0⟩, ⟨"ARM", 0, 0, .rw, 0⟩]⟩,
  -- R73
  ⟨"CU_ALARM_TGT", 0x12003000108, 32, 0x10, 1, 0x0,
    [⟨"TARGET", 63, 0, .rw, 0⟩]⟩]

/-- The CU block. -/
def regsCU : List RegDef := regsCU0

def regsWG0 : List RegDef := [
  -- R258
  ⟨"WG_CACHE_CTL", 0x1200c000000, 1, 0x0, 1, 0x0,
    [⟨"BUSY", 8, 8, .ro, 0⟩, ⟨"SIZE", 3, 0, .rw, 0⟩]⟩,
  -- R259
  ⟨"WG_HITS", 0x1200c000100, 8, 0x40, 1, 0x0,
    [⟨"COUNT", 63, 0, .ro, 0⟩]⟩,
  -- R259
  ⟨"WG_MISSES", 0x1200c000108, 8, 0x40, 1, 0x0,
    [⟨"COUNT", 63, 0, .ro, 0⟩]⟩,
  -- R259
  ⟨"WG_WRITEBACKS", 0x1200c000110, 8, 0x40, 1, 0x0,
    [⟨"COUNT", 63, 0, .ro, 0⟩]⟩,
  -- R259
  ⟨"WG_DROPS", 0x1200c000118, 8, 0x40, 1, 0x0,
    [⟨"COUNT", 63, 0, .ro, 0⟩]⟩,
  -- R259
  ⟨"WG_ECC", 0x1200c000120, 8, 0x40, 1, 0x0,
    [⟨"CORRECTED", 63, 32, .rc, 0⟩, ⟨"UNCORR", 31, 0, .rc, 0⟩]⟩]

/-- The WG block. -/
def regsWG : List RegDef := regsWG0

def regsTP0 : List RegDef := [
  -- R260
  ⟨"TP_STATUS", 0x1200b000000, 8, 0x1000, 1, 0x0,
    [⟨"TEMP", 23, 16, .ro, 0⟩, ⟨"STEP", 10, 8, .ro, 0⟩, ⟨"STOPPED", 2, 2, .ro, 0⟩, ⟨"TRAINED", 1, 1, .ro, 0⟩, ⟨"ONLINE", 0, 0, .ro, 0⟩]⟩,
  -- R260
  ⟨"TP_ECC", 0x1200b000008, 8, 0x1000, 1, 0x0,
    [⟨"CORRECTED", 63, 32, .rc, 0⟩, ⟨"UNCORR", 31, 16, .rc, 0⟩, ⟨"POISON_READS", 15, 0, .rc, 0⟩]⟩,
  -- R260
  ⟨"TP_ERRLOG0", 0x1200b000010, 8, 0x1000, 1, 0x0,
    [⟨"VALID", 63, 63, .w1c, 0⟩, ⟨"CAUSE", 55, 48, .ro, 0⟩, ⟨"ADDR", 43, 0, .ro, 0⟩]⟩,
  -- R260
  ⟨"TP_ERRLOG1", 0x1200b000018, 8, 0x1000, 1, 0x0,
    [⟨"MID", 63, 52, .ro, 0⟩, ⟨"CUE", 51, 0, .ro, 0⟩]⟩,
  -- R260
  ⟨"TP_SPARES", 0x1200b000020, 8, 0x1000, 1, 0x0,
    [⟨"USED", 31, 16, .ro, 0⟩, ⟨"TOTAL", 15, 0, .ro, 0x2900⟩]⟩,
  -- R260
  ⟨"TP_CE_CFG", 0x1200b000028, 8, 0x1000, 1, 0x0,
    [⟨"THRESH", 7, 0, .rw, 0x10⟩]⟩,
  -- R260
  ⟨"TP_THROTTLE", 0x1200b000030, 8, 0x1000, 1, 0x0,
    [⟨"CUES", 63, 0, .ro, 0⟩]⟩,
  -- R293
  ⟨"TP_TE_STATUS", 0x1200b000108, 8, 0x1000, 1, 0x0,
    [⟨"LATE_SEEN", 17, 17, .w1c, 0⟩, ⟨"BAD_ENTRY", 16, 16, .w1c, 0⟩, ⟨"BUSY", 15, 0, .ro, 0⟩]⟩,
  -- R293
  ⟨"TP_BQ_STATUS", 0x1200b000110, 8, 0x1000, 1, 0x0,
    [⟨"OVERRUN", 15, 15, .w1c, 0⟩, ⟨"FREE", 6, 0, .ro, 0x40⟩]⟩,
  -- R293
  ⟨"TP_BQ_POST", 0x1200b000118, 8, 0x1000, 1, 0x0,
    [⟨"POST", 0, 0, .wo, 0⟩]⟩,
  -- R293
  ⟨"TP_NORM_LOCAL", 0x1200b000120, 8, 0x1000, 1, 0x0,
    [⟨"SUMSQ", 63, 0, .ro, 0⟩]⟩,
  -- R293
  ⟨"TP_CLIP_MAX", 0x1200b000128, 8, 0x1000, 1, 0x0,
    [⟨"MAXNORM", 63, 0, .rw, 0x7ff0000000000000⟩]⟩]

def regsTP1 : List RegDef := [
  -- R293
  ⟨"TP_CLIP_SUMSQ", 0x1200b000130, 8, 0x1000, 1, 0x0,
    [⟨"S", 63, 0, .rw, 0⟩]⟩,
  -- R293
  ⟨"TP_CLIP_STATUS", 0x1200b000138, 8, 0x1000, 1, 0x0,
    [⟨"NONFINITE", 2, 2, .w1c, 0⟩, ⟨"DONE", 1, 1, .ro, 0⟩, ⟨"PENDING", 0, 0, .ro, 0⟩]⟩,
  -- R293
  ⟨"TP_CLIP_FACTOR", 0x1200b000140, 8, 0x1000, 1, 0x0,
    [⟨"C", 63, 0, .ro, 0x3ff0000000000000⟩]⟩,
  -- R293
  ⟨"TP_BQ_DESC", 0x1200b000200, 8, 0x1000, 8, 0x8,
    [⟨"WORD", 63, 0, .rw, 0⟩]⟩,
  -- R294
  ⟨"TP_CVT_STATUS", 0x1200b000400, 8, 0x1000, 16, 0x20,
    [⟨"MODE_FIX", 8, 8, .w1c, 0⟩, ⟨"INEXACT", 7, 7, .w1c, 0⟩, ⟨"UNDERFLOW", 6, 6, .w1c, 0⟩, ⟨"OVERFLOW", 5, 5, .w1c, 0⟩, ⟨"DIVZERO", 4, 4, .w1c, 0⟩, ⟨"INVALID", 3, 3, .w1c, 0⟩, ⟨"NAN_IN", 2, 2, .w1c, 0⟩, ⟨"INF_SAT", 1, 1, .w1c, 0⟩, ⟨"SAT", 0, 0, .w1c, 0⟩]⟩,
  -- R294
  ⟨"TP_SAT_COUNT", 0x1200b000408, 8, 0x1000, 16, 0x20,
    [⟨"COUNT", 31, 0, .rw, 0⟩]⟩,
  -- R294
  ⟨"TP_SR_SEED", 0x1200b000410, 8, 0x1000, 16, 0x20,
    [⟨"SEED", 63, 0, .rw, 0⟩]⟩,
  -- R295
  ⟨"TP_HYPER_LR", 0x1200b000800, 8, 0x1000, 16, 0x40,
    [⟨"LR", 31, 0, .rw, 0⟩]⟩,
  -- R295
  ⟨"TP_HYPER_B1", 0x1200b000808, 8, 0x1000, 16, 0x40,
    [⟨"B1", 31, 0, .rw, 0⟩]⟩,
  -- R295
  ⟨"TP_HYPER_B2", 0x1200b000810, 8, 0x1000, 16, 0x40,
    [⟨"B2", 31, 0, .rw, 0⟩]⟩,
  -- R295
  ⟨"TP_HYPER_EPS", 0x1200b000818, 8, 0x1000, 16, 0x40,
    [⟨"EPS", 31, 0, .rw, 0⟩]⟩,
  -- R295
  ⟨"TP_HYPER_WD", 0x1200b000820, 8, 0x1000, 16, 0x40,
    [⟨"WD", 31, 0, .rw, 0⟩]⟩]

def regsTP2 : List RegDef := [
  -- R295
  ⟨"TP_HYPER_BC1", 0x1200b000828, 8, 0x1000, 16, 0x40,
    [⟨"BC1", 31, 0, .rw, 0⟩]⟩,
  -- R295
  ⟨"TP_HYPER_BC2", 0x1200b000830, 8, 0x1000, 16, 0x40,
    [⟨"BC2", 31, 0, .rw, 0⟩]⟩,
  -- R295
  ⟨"TP_HYPER_7", 0x1200b000838, 8, 0x1000, 16, 0x40,
    [⟨"RSV", 31, 0, .ro, 0⟩]⟩,
  -- R315
  ⟨"TP_DC_ENC0", 0x1200b000c00, 8, 0x1000, 16, 0x20,
    [⟨"ELEMENTS", 63, 0, .ro, 0⟩]⟩,
  -- R315
  ⟨"TP_DC_ENC1", 0x1200b000c08, 8, 0x1000, 16, 0x20,
    [⟨"VANISHED", 63, 32, .ro, 0⟩, ⟨"SATURATED", 31, 0, .ro, 0⟩]⟩,
  -- R315
  ⟨"TP_DC_ENC2", 0x1200b000c10, 8, 0x1000, 16, 0x20,
    [⟨"ZERO_BLOCKS", 63, 32, .ro, 0⟩, ⟨"ESC_NARROWED", 31, 0, .ro, 0⟩]⟩,
  -- R315
  ⟨"TP_DC_ENC3", 0x1200b000c18, 8, 0x1000, 16, 0x20,
    [⟨"BLOCKS", 63, 32, .ro, 0⟩, ⟨"NAN_OUT", 31, 0, .ro, 0⟩]⟩]

/-- The TP block. -/
def regsTP : List RegDef := regsTP0 ++ regsTP1 ++ regsTP2

def regsTPS0 : List RegDef := [
  -- R292
  ⟨"TP_SHARD_W0", 0x1200b100000, 8, 0x20000, 1024, 0x80,
    [⟨"VALID", 63, 63, .rw, 0⟩, ⟨"FRONT", 62, 62, .ro, 0⟩, ⟨"WRITTEN", 61, 61, .ro, 0⟩, ⟨"FIRED", 60, 60, .ro, 0⟩, ⟨"SPEC", 59, 59, .ro, 0⟩, ⟨"HOLD", 58, 58, .ro, 0⟩, ⟨"LATE", 57, 57, .w1c, 0⟩, ⟨"HAS_R", 55, 55, .rw, 0⟩, ⟨"HAS_M", 54, 54, .rw, 0⟩, ⟨"HAS_V", 53, 53, .rw, 0⟩, ⟨"GCODE", 47, 40, .rw, 0⟩]⟩,
  -- R292
  ⟨"TP_SHARD_W1", 0x1200b100008, 8, 0x20000, 1024, 0x80,
    [⟨"VERSION", 63, 32, .rw, 0⟩, ⟨"ELEMENTS", 31, 0, .rw, 0⟩]⟩,
  -- R292
  ⟨"TP_SHARD_W2", 0x1200b100010, 8, 0x20000, 1024, 0x80,
    [⟨"CHANGED", 63, 40, .ro, 0⟩, ⟨"PBYTES", 39, 0, .rw, 0⟩]⟩,
  -- R292
  ⟨"TP_SHARD_W11", 0x1200b100058, 8, 0x20000, 1024, 0x80,
    [⟨"BASE_G", 43, 0, .rw, 0⟩]⟩,
  -- R292
  ⟨"TP_SHARD_W12", 0x1200b100060, 8, 0x20000, 1024, 0x80,
    [⟨"EXPECT", 47, 0, .rw, 0⟩]⟩,
  -- R292
  ⟨"TP_SHARD_W13", 0x1200b100068, 8, 0x20000, 1024, 0x80,
    [⟨"ARRIVED", 47, 0, .ro, 0⟩]⟩,
  -- R292
  ⟨"TP_SHARD_W14", 0x1200b100070, 8, 0x20000, 1024, 0x80,
    [⟨"SUMSQ", 63, 0, .ro, 0⟩]⟩,
  -- R292
  ⟨"TP_SHARD_W15", 0x1200b100078, 8, 0x20000, 1024, 0x80,
    [⟨"TRIG", 43, 0, .rw, 0⟩]⟩,
  -- R292
  ⟨"TP_SHARD_W3", 0x1200b100018, 8, 0x20000, 1024, 0x80,
    [⟨"BASE_P0", 43, 0, .rw, 0⟩]⟩,
  -- R292
  ⟨"TP_SHARD_W4", 0x1200b100020, 8, 0x20000, 1024, 0x80,
    [⟨"BASE_P1", 43, 0, .rw, 0⟩]⟩,
  -- R292
  ⟨"TP_SHARD_W5", 0x1200b100028, 8, 0x20000, 1024, 0x80,
    [⟨"BASE_R0", 43, 0, .rw, 0⟩]⟩,
  -- R292
  ⟨"TP_SHARD_W6", 0x1200b100030, 8, 0x20000, 1024, 0x80,
    [⟨"BASE_R1", 43, 0, .rw, 0⟩]⟩]

def regsTPS1 : List RegDef := [
  -- R292
  ⟨"TP_SHARD_W7", 0x1200b100038, 8, 0x20000, 1024, 0x80,
    [⟨"BASE_M0", 43, 0, .rw, 0⟩]⟩,
  -- R292
  ⟨"TP_SHARD_W8", 0x1200b100040, 8, 0x20000, 1024, 0x80,
    [⟨"BASE_M1", 43, 0, .rw, 0⟩]⟩,
  -- R292
  ⟨"TP_SHARD_W9", 0x1200b100048, 8, 0x20000, 1024, 0x80,
    [⟨"BASE_V0", 43, 0, .rw, 0⟩]⟩,
  -- R292
  ⟨"TP_SHARD_W10", 0x1200b100050, 8, 0x20000, 1024, 0x80,
    [⟨"BASE_V1", 43, 0, .rw, 0⟩]⟩]

/-- The TPS block. -/
def regsTPS : List RegDef := regsTPS0 ++ regsTPS1

def regsBK0 : List RegDef := [
  -- R351
  ⟨"BK_STATUS", 0x12002000000, 1, 0x0, 1, 0x0,
    [⟨"RESULT", 39, 32, .ro, 0⟩, ⟨"QUEUED", 15, 8, .ro, 0⟩, ⟨"STATE", 2, 0, .ro, 0⟩]⟩,
  -- R351
  ⟨"BK_PLAN_ID", 0x12002000008, 1, 0x0, 1, 0x0,
    [⟨"ID", 63, 0, .ro, 0⟩]⟩,
  -- R351
  ⟨"BK_CFG", 0x12002000010, 1, 0x0, 1, 0x0,
    [⟨"FAST", 31, 16, .rw, 0x800⟩, ⟨"PROBE", 15, 8, .rw, 0x10⟩]⟩,
  -- R351
  ⟨"BK_REPORT", 0x12002000018, 1, 0x0, 1, 0x0,
    [⟨"LEN", 31, 0, .ro, 0⟩]⟩,
  -- R351
  ⟨"BK_PERMUTE", 0x12002000020, 1, 0x0, 1, 0x0,
    [⟨"BYTES_LEFT", 47, 0, .ro, 0⟩]⟩]

/-- The BK block. -/
def regsBK : List RegDef := regsBK0

def regsFB0 : List RegDef := [
  -- R389
  ⟨"FB_CTL", 0x12009000000, 1, 0x0, 1, 0x0,
    [⟨"RELAY_EN", 40, 40, .rw, 1⟩, ⟨"RESP_TIMEOUT", 39, 24, .rw, 0xc8⟩, ⟨"RETRY_MAX", 23, 16, .rw, 8⟩, ⟨"SEAT", 14, 0, .rwl, 0⟩]⟩,
  -- R389
  ⟨"FB_STATUS", 0x12009000008, 1, 0x0, 1, 0x0,
    [⟨"STRAY", 63, 48, .rc, 0⟩, ⟨"DEGRADED", 31, 16, .ro, 0⟩, ⟨"UP", 15, 0, .ro, 0⟩]⟩,
  -- R389
  ⟨"FB_EVENT", 0x12009000010, 1, 0x0, 1, 0x0,
    [⟨"EVENTS", 9, 0, .w1c, 0⟩]⟩,
  -- R389
  ⟨"FB_CPATH", 0x12009000018, 1, 0x0, 1, 0x0,
    [⟨"VIA", 35, 0, .rw, 0xfffffffff⟩]⟩,
  -- R391
  ⟨"FB_SETPOS", 0x12009000020, 4, 0x8, 1, 0x0,
    [⟨"POS0", 15, 0, .rw, 0⟩, ⟨"POS1", 31, 16, .rw, 0⟩, ⟨"POS2", 47, 32, .rw, 0⟩, ⟨"POS3", 63, 48, .rw, 0⟩]⟩,
  -- R392
  ⟨"FB_CE_STATUS", 0x12009000100, 1, 0x0, 1, 0x0,
    [⟨"SAT", 63, 32, .rc, 0⟩, ⟨"OVERRUN", 16, 16, .w1c, 0⟩, ⟨"FREE1", 12, 8, .ro, 0x10⟩, ⟨"FREE0", 4, 0, .ro, 0x10⟩]⟩,
  -- R392
  ⟨"FB_CE_POST", 0x12009000108, 1, 0x0, 1, 0x0,
    [⟨"QUEUE", 0, 0, .wo, 0⟩]⟩,
  -- R392
  ⟨"FB_CE_DESC", 0x12009000140, 8, 0x8, 1, 0x0,
    [⟨"WORD", 63, 0, .rw, 0⟩]⟩,
  -- R390
  ⟨"FB_PORT_STATUS", 0x12009001000, 16, 0x100, 1, 0x0,
    [⟨"PEER_SEAT", 63, 49, .ro, 0⟩, ⟨"PEER_PORT", 48, 45, .ro, 0⟩, ⟨"LANES", 7, 4, .ro, 0⟩, ⟨"WIDTH", 3, 2, .ro, 0⟩, ⟨"STATE", 1, 0, .ro, 0⟩]⟩,
  -- R390
  ⟨"FB_PORT_CFG", 0x12009001008, 16, 0x100, 1, 0x0,
    [⟨"DATELINE", 2, 2, .rw, 0⟩, ⟨"DISABLE", 1, 1, .rw, 0⟩, ⟨"RETRAIN", 0, 0, .wo, 0⟩]⟩,
  -- R390
  ⟨"FB_PORT_DELAY", 0x12009001010, 16, 0x100, 1, 0x0,
    [⟨"PS", 31, 0, .ro, 0⟩]⟩,
  -- R390
  ⟨"FB_PORT_ERR0", 0x12009001018, 16, 0x100, 1, 0x0,
    [⟨"FEC_CORR", 63, 32, .rc, 0⟩, ⟨"FEC_UNCORR", 31, 0, .rc, 0⟩]⟩]

def regsFB1 : List RegDef := [
  -- R390
  ⟨"FB_PORT_ERR1", 0x12009001020, 16, 0x100, 1, 0x0,
    [⟨"CRC", 63, 32, .rc, 0⟩, ⟨"RETRIES", 31, 0, .rc, 0⟩]⟩,
  -- R390
  ⟨"FB_BUDGET", 0x12009001028, 16, 0x100, 1, 0x0,
    [⟨"VC0", 7, 0, .rw, 0x38⟩, ⟨"VC1", 15, 8, .rw, 0x38⟩, ⟨"VC2", 23, 16, .rw, 0x28⟩, ⟨"VC3", 31, 24, .rw, 0x28⟩, ⟨"VC4", 39, 32, .rw, 0x14⟩, ⟨"VC5", 47, 40, .rw, 0x14⟩, ⟨"VC6", 55, 48, .rw, 0xc⟩, ⟨"VC7", 63, 56, .rw, 0xc⟩]⟩,
  -- R390
  ⟨"FB_TICKETS", 0x12009001030, 16, 0x100, 1, 0x0,
    [⟨"VC0", 7, 0, .ro, 0⟩, ⟨"VC1", 15, 8, .ro, 0⟩, ⟨"VC2", 23, 16, .ro, 0⟩, ⟨"VC3", 31, 24, .ro, 0⟩, ⟨"VC4", 39, 32, .ro, 0⟩, ⟨"VC5", 47, 40, .ro, 0⟩, ⟨"VC6", 55, 48, .ro, 0⟩, ⟨"VC7", 63, 56, .ro, 0⟩]⟩,
  -- R391
  ⟨"FB_RT", 0x12009100000, 2048, 0x8, 1, 0x0,
    [⟨"VALID", 63, 63, .rw, 0⟩, ⟨"PORT", 62, 59, .rw, 0⟩, ⟨"VIA", 58, 55, .rw, 0xf⟩]⟩,
  -- R391
  ⟨"FB_GSET", 0x12009200000, 512, 0x8, 1, 0x0,
    [⟨"SETS0", 15, 0, .rw, 0⟩, ⟨"SETS1", 31, 16, .rw, 0⟩, ⟨"SETS2", 47, 32, .rw, 0⟩, ⟨"SETS3", 63, 48, .rw, 0⟩]⟩]

/-- The FB block. -/
def regsFB : List RegDef := regsFB0 ++ regsFB1

def regsFH0 : List RegDef := [
  -- R421
  ⟨"FH_RC", 0x12008000000, 1, 0x0, 1, 0x0,
    [⟨"ACK_TO", 36, 32, .rw, 0xe⟩, ⟨"MD", 31, 24, .rw, 0x80⟩, ⟨"AI", 23, 16, .rw, 5⟩, ⟨"RMIN", 15, 0, .rw, 1⟩]⟩,
  -- R422
  ⟨"FH_PTP_CFG", 0x12008000100, 1, 0x0, 1, 0x0,
    [⟨"DOMAIN", 15, 8, .rw, 0⟩, ⟨"TRANSPORT", 5, 4, .rw, 1⟩, ⟨"PORT", 3, 1, .rw, 0⟩, ⟨"ENABLE", 0, 0, .rw, 0⟩]⟩,
  -- R422
  ⟨"FH_PTP_STATUS", 0x12008000108, 1, 0x0, 1, 0x0,
    [⟨"ACTIVE", 3, 2, .ro, 0⟩, ⟨"STEPPED", 1, 1, .w1c, 0⟩, ⟨"LOCKED", 0, 0, .ro, 0⟩]⟩,
  -- R422
  ⟨"FH_PTP_OFFSET", 0x12008000110, 1, 0x0, 1, 0x0,
    [⟨"NS", 63, 0, .ro, 0⟩]⟩,
  -- R422
  ⟨"FH_PTP_GM", 0x12008000118, 1, 0x0, 1, 0x0,
    [⟨"IDENTITY", 63, 0, .ro, 0⟩]⟩,
  -- R423
  ⟨"FH_PORT_CFG", 0x12008001000, 4, 0x100, 1, 0x0,
    [⟨"VLAN_ID", 63, 52, .rwl, 0⟩, ⟨"ROCE_DSCP", 51, 46, .rw, 0x1a⟩, ⟨"CNP_DSCP", 45, 40, .rw, 0x30⟩, ⟨"ROCE_PRIO", 39, 37, .rw, 3⟩, ⟨"CNP_PRIO", 36, 34, .rw, 6⟩, ⟨"ECN_EN", 33, 33, .rw, 1⟩, ⟨"PFC_EN", 32, 32, .rw, 1⟩, ⟨"PFC_WD", 31, 16, .rw, 0x64⟩, ⟨"MODES", 2, 0, .rwl, 7⟩]⟩,
  -- R423
  ⟨"FH_PORT_STATUS", 0x12008001008, 4, 0x100, 1, 0x0,
    [⟨"CNP_RX", 31, 8, .rc, 0⟩, ⟨"PFC_STORM", 7, 7, .w1c, 0⟩, ⟨"PAUSED", 6, 6, .ro, 0⟩, ⟨"MODE", 5, 4, .ro, 0⟩, ⟨"UP", 0, 0, .ro, 0⟩]⟩,
  -- R423
  ⟨"FH_PORT_IP4", 0x12008001010, 4, 0x100, 1, 0x0,
    [⟨"GATEWAY", 63, 32, .rwl, 0⟩, ⟨"ADDR", 31, 0, .rwl, 0⟩]⟩,
  -- R423
  ⟨"FH_PORT_IP6A", 0x12008001018, 4, 0x100, 1, 0x0,
    [⟨"ADDR_HI", 63, 0, .rwl, 0⟩]⟩,
  -- R423
  ⟨"FH_PORT_IP6B", 0x12008001020, 4, 0x100, 1, 0x0,
    [⟨"ADDR_LO", 63, 0, .rwl, 0⟩]⟩,
  -- R423
  ⟨"FH_PORT_IP6G", 0x12008001028, 4, 0x100, 1, 0x0,
    [⟨"GW_IID", 63, 0, .rwl, 0⟩]⟩,
  -- R423
  ⟨"FH_PORT_PFC", 0x12008001030, 4, 0x100, 1, 0x0,
    [⟨"XOFF", 63, 32, .rw, 0x600000⟩, ⟨"XON", 31, 0, .rw, 0x500000⟩]⟩]

def regsFH1 : List RegDef := [
  -- R423
  ⟨"FH_PORT_DROP", 0x12008001038, 4, 0x100, 1, 0x0,
    [⟨"COUNT", 63, 0, .rc, 0⟩]⟩,
  -- R424
  ⟨"FH_SESS_CFG", 0x12008002000, 8, 0x100, 1, 0x0,
    [⟨"VALID", 63, 63, .rw, 0⟩, ⟨"KIND", 62, 62, .rw, 0⟩, ⟨"NOTIFY", 61, 61, .rw, 0⟩, ⟨"PREFIX", 51, 44, .rw, 0⟩, ⟨"QP_MAX", 12, 0, .rw, 0⟩]⟩,
  -- R424
  ⟨"FH_SESS_STATUS", 0x12008002008, 8, 0x100, 1, 0x0,
    [⟨"BAD_DB", 63, 48, .rc, 0⟩, ⟨"QPS", 12, 0, .ro, 0⟩]⟩,
  -- R424
  ⟨"FH_SESS_PEER_HI", 0x12008002010, 8, 0x100, 1, 0x0,
    [⟨"ADDR_HI", 63, 0, .rw, 0⟩]⟩,
  -- R424
  ⟨"FH_SESS_PEER_LO", 0x12008002018, 8, 0x100, 1, 0x0,
    [⟨"ADDR_LO", 63, 0, .rw, 0⟩]⟩,
  -- R425
  ⟨"FH_WIN0", 0x12008004000, 8, 0x200, 16, 0x20,
    [⟨"VALID", 63, 63, .ro, 0⟩, ⟨"ACCESS", 62, 61, .ro, 0⟩, ⟨"BASE", 43, 0, .ro, 0⟩]⟩,
  -- R425
  ⟨"FH_WIN1", 0x12008004008, 8, 0x200, 16, 0x20,
    [⟨"RKEY", 63, 32, .ro, 0⟩, ⟨"PAGES", 31, 0, .ro, 0⟩]⟩]

/-- The FH block. -/
def regsFH : List RegDef := regsFH0 ++ regsFH1

def regsBT0 : List RegDef := [
  -- R459
  ⟨"BT_JOB", 0x12000000000, 1, 0x0, 1, 0x0,
    [⟨"JOB", 63, 32, .ro, 0⟩, ⟨"JQUEUE", 12, 8, .ro, 0⟩, ⟨"OPEN", 4, 4, .ro, 0⟩, ⟨"OWNER", 2, 0, .ro, 0⟩]⟩,
  -- R459
  ⟨"BT_CMDSEQ", 0x12000000100, 8, 0x8, 1, 0x0,
    [⟨"EXPECT", 63, 32, .ro, 0⟩, ⟨"SET", 31, 31, .ro, 0⟩, ⟨"REJECTED", 15, 0, .rc, 0⟩]⟩,
  -- R524
  ⟨"BT_MODE", 0x12000000200, 1, 0x0, 1, 0x0,
    [⟨"REASON", 39, 32, .ro, 0⟩, ⟨"STAGE", 19, 16, .ro, 2⟩, ⟨"MODE", 1, 0, .ro, 0⟩]⟩,
  -- R524
  ⟨"BT_RESET", 0x12000000208, 1, 0x0, 1, 0x0,
    [⟨"MID", 43, 32, .ro, 0⟩, ⟨"KIND", 2, 0, .ro, 1⟩]⟩,
  -- R524
  ⟨"BT_PB_STATUS", 0x12000000210, 1, 0x0, 1, 0x0,
    [⟨"LAST", 63, 32, .ro, 0⟩, ⟨"OLDEST", 31, 0, .ro, 0⟩]⟩,
  -- R524
  ⟨"BT_PB_INFO", 0x12000000218, 1, 0x0, 1, 0x0,
    [⟨"DROPPED", 63, 32, .rc, 0⟩, ⟨"TAIL_COUNT", 31, 16, .ro, 0⟩, ⟨"TAIL_BOOTS", 15, 8, .ro, 0⟩, ⟨"TAIL_VALID", 0, 0, .ro, 0⟩]⟩]

/-- The BT block. -/
def regsBT : List RegDef := regsBT0

def regsCB0 : List RegDef := [
  -- R460
  ⟨"CB_BIND", 0x12001000000, 256, 0x8, 1, 0x0,
    [⟨"VALID", 63, 63, .rwl, 0⟩, ⟨"REMOTE_OUT", 62, 62, .rwl, 0⟩, ⟨"REMOTE_IN", 61, 61, .rwl, 0⟩, ⟨"PEER_CHANNEL", 55, 48, .rwl, 0⟩, ⟨"PEER_SEAT", 46, 32, .rwl, 0⟩, ⟨"RECEIVER_MID", 27, 16, .rwl, 0⟩, ⟨"SENDER_MID", 11, 0, .rwl, 0⟩]⟩,
  -- R461
  ⟨"CB_POST", 0x12001001000, 256, 0x8, 1, 0x0,
    [⟨"NOTICE", 63, 0, .wo, 0⟩]⟩,
  -- R461
  ⟨"CB_TAKE", 0x12001002000, 256, 0x8, 1, 0x0,
    [⟨"NOTICE", 63, 0, .ro, 0⟩]⟩,
  -- R461
  ⟨"CB_DROP", 0x12001003000, 256, 0x8, 1, 0x0,
    [⟨"DROPPED", 63, 32, .rc, 0⟩, ⟨"REFUSED", 31, 16, .rc, 0⟩, ⟨"COUNT", 4, 0, .ro, 0⟩]⟩,
  -- R461
  ⟨"CB_LOCK", 0x12001005000, 256, 0x8, 1, 0x0,
    [⟨"HOLDER", 11, 0, .rw, 0⟩]⟩,
  -- R461
  ⟨"CB_ACQ", 0x12001006000, 256, 0x8, 1, 0x0,
    [⟨"RESULT", 11, 0, .ro, 0⟩]⟩,
  -- R461
  ⟨"CB_FLUSH", 0x12001007000, 1, 0x0, 1, 0x0,
    [⟨"CHANNEL", 7, 0, .wo, 0⟩]⟩,
  -- R462
  ⟨"CB_ALIAS", 0x12001008000, 256, 0x8, 1, 0x0,
    [⟨"VALID", 63, 63, .rw, 0⟩, ⟨"TO_SEAT", 46, 32, .rw, 0⟩, ⟨"FROM_SEAT", 14, 0, .rw, 0⟩]⟩]

/-- The CB block. -/
def regsCB : List RegDef := regsCB0

def regsRS0 : List RegDef := [
  -- R500
  ⟨"RS_RISK", 0x12004000000, 1, 0x0, 1, 0x0,
    [⟨"ESTIMATE", 63, 56, .ro, 0⟩, ⟨"INTERNAL", 55, 48, .ro, 0⟩, ⟨"FLOOR", 47, 40, .ro, 0⟩, ⟨"JOB", 39, 32, .ro, 0⟩, ⟨"JOB_BAND", 3, 2, .ro, 0⟩, ⟨"BAND", 1, 0, .ro, 0⟩]⟩,
  -- R501
  ⟨"RS_CFG", 0x12004000008, 1, 0x0, 1, 0x0,
    [⟨"AUTO_PROMOTE", 63, 63, .rw, 1⟩, ⟨"RETRY_MAX", 55, 48, .rw, 3⟩, ⟨"STRAGGLE_STEPS", 47, 40, .rw, 8⟩, ⟨"DECAY", 31, 0, .rw, 0x100000⟩]⟩,
  -- R501
  ⟨"RS_LIMIT", 0x12004000010, 1, 0x0, 1, 0x0,
    [⟨"STEP_LIMIT", 63, 32, .rw, 0x1000000⟩, ⟨"STRAGGLE_CUES", 31, 0, .rw, 0x10000⟩]⟩,
  -- R502
  ⟨"RS_BAND", 0x12004000020, 4, 0x8, 1, 0x0,
    [⟨"INTERVAL", 31, 16, .rw, 0⟩, ⟨"FLASH_EVERY", 15, 8, .rw, 4⟩, ⟨"STORE_EVERY", 7, 0, .rw, 0x10⟩]⟩,
  -- R503
  ⟨"RS_CKPT", 0x12004000040, 1, 0x0, 1, 0x0,
    [⟨"STEP", 63, 32, .ro, 0⟩, ⟨"NUMBER", 31, 0, .ro, 0⟩]⟩,
  -- R503
  ⟨"RS_CKPT_STATE", 0x12004000048, 1, 0x0, 1, 0x0,
    [⟨"OPEN_STEP", 63, 32, .ro, 0⟩, ⟨"MIRROR_OK", 7, 7, .ro, 0⟩, ⟨"STRIPES_OK", 6, 6, .ro, 0⟩, ⟨"FLASH_WRITING", 5, 5, .ro, 0⟩, ⟨"PHASE", 2, 0, .ro, 0⟩]⟩,
  -- R503
  ⟨"RS_FLASH", 0x12004000050, 2, 0x8, 1, 0x0,
    [⟨"VALID", 63, 63, .ro, 0⟩, ⟨"STEP", 31, 0, .ro, 0⟩]⟩,
  -- R503
  ⟨"RS_STORE", 0x12004000060, 1, 0x0, 1, 0x0,
    [⟨"STEP", 63, 32, .ro, 0⟩, ⟨"COUNT", 31, 0, .ro, 0⟩]⟩,
  -- R503
  ⟨"RS_RECOVERY", 0x12004000068, 1, 0x0, 1, 0x0,
    [⟨"LOST_SEAT", 62, 48, .ro, 0⟩, ⟨"UNDERSTUDY", 46, 32, .ro, 0⟩, ⟨"TARGET", 31, 0, .ro, 0⟩]⟩]

/-- The RS block. -/
def regsRS : List RegDef := regsRS0

def regsPW0 : List RegDef := [
  -- R545
  ⟨"PW_STATUS", 0x12005000000, 1, 0x0, 1, 0x0,
    [⟨"VIN", 63, 48, .ro, 0⟩, ⟨"POWER", 47, 32, .ro, 0⟩, ⟨"VBANK", 31, 16, .ro, 0⟩, ⟨"BANK_OK", 0, 0, .ro, 0⟩]⟩,
  -- R545
  ⟨"PW_CAP", 0x12005000008, 1, 0x0, 1, 0x0,
    [⟨"WATTS", 15, 0, .rw, 0xd48⟩]⟩,
  -- R545
  ⟨"PW_GOV", 0x12005000010, 1, 0x0, 1, 0x0,
    [⟨"FILL_HOLD", 63, 32, .rw, 0x1000⟩, ⟨"WINDOW", 31, 16, .ro, 0x32⟩, ⟨"SLEW", 15, 0, .ro, 0x1f4⟩]⟩,
  -- R545
  ⟨"PW_HOLD", 0x12005000018, 1, 0x0, 1, 0x0,
    [⟨"DUTY", 12, 8, .ro, 0⟩, ⟨"TRIP", 3, 3, .ro, 0⟩, ⟨"COOLANT", 2, 2, .ro, 0⟩, ⟨"THERM", 1, 1, .ro, 0⟩, ⟨"CAP", 0, 0, .ro, 0⟩]⟩,
  -- R545
  ⟨"PW_COOLANT", 0x12005000020, 1, 0x0, 1, 0x0,
    [⟨"OUTLET", 15, 8, .ro, 0⟩, ⟨"INLET", 7, 0, .ro, 0⟩]⟩,
  -- R545
  ⟨"PW_THERM", 0x12005000100, 12, 0x8, 1, 0x0,
    [⟨"TEMP", 23, 16, .ro, 0⟩, ⟨"STEP", 2, 0, .ro, 0⟩]⟩]

/-- The PW block. -/
def regsPW : List RegDef := regsPW0

def regsSC0 : List RegDef := [
  -- R568
  ⟨"SC_STATUS", 0x12006000000, 1, 0x0, 1, 0x0,
    [⟨"FW_VERSION", 63, 32, .ro, 0⟩, ⟨"FAILS", 31, 28, .ro, 0⟩, ⟨"OWNER_SLOT", 27, 24, .ro, 0xf⟩, ⟨"ROOT_SLOT", 23, 20, .ro, 0⟩, ⟨"REVOKED", 19, 16, .ro, 0⟩, ⟨"LIFECYCLE", 15, 12, .ro, 2⟩, ⟨"SCOPE", 11, 10, .ro, 0⟩, ⟨"PENDING", 9, 9, .ro, 0⟩, ⟨"SLOT", 8, 8, .ro, 0⟩]⟩,
  -- R568
  ⟨"SC_SERIAL", 0x12006000008, 1, 0x0, 1, 0x0,
    [⟨"SERIAL", 63, 0, .ro, 0⟩]⟩,
  -- R568
  ⟨"SC_SVN", 0x12006000010, 1, 0x0, 1, 0x0,
    [⟨"MANIFEST", 39, 32, .ro, 0⟩, ⟨"FUSED", 7, 0, .ro, 0⟩]⟩,
  -- R568
  ⟨"SC_MEAS", 0x12006000100, 8, 0x40, 8, 0x8,
    [⟨"WORD", 63, 0, .ro, 0⟩]⟩]

/-- The SC block. -/
def regsSC : List RegDef := regsSC0

def regsMG0 : List RegDef := [
  -- R569
  ⟨"MG_CTL", 0x12007000000, 1, 0x0, 1, 0x0,
    [⟨"RESET_EN", 9, 9, .rwl, 0⟩, ⟨"I2C_ONLY", 8, 8, .rwl, 0⟩, ⟨"STATIC_ADDR", 6, 0, .rwl, 0x3a⟩]⟩,
  -- R569
  ⟨"MG_STATUS", 0x12007000008, 1, 0x0, 1, 0x0,
    [⟨"EID", 23, 16, .ro, 0⟩, ⟨"BUS", 8, 8, .ro, 0⟩, ⟨"DYN_ADDR", 6, 0, .ro, 0⟩]⟩,
  -- R569
  ⟨"MG_VENDOR", 0x12007000010, 1, 0x0, 1, 0x0,
    [⟨"ENTERPRISE", 31, 0, .ro, 0xc7a3⟩]⟩]

/-- The MG block. -/
def regsMG : List RegDef := regsMG0

/-- The register maps of the whole part. -/
def regTable : List RegDef :=
  regsTA ++ regsTAG ++ regsCU ++ regsWG ++ regsTP ++ regsTPS ++ regsBK ++ regsFB ++ regsFH ++ regsBT ++ regsCB ++ regsRS ++ regsPW ++ regsSC ++ regsMG

/-- Table 5.6 as TA_LAT0 to TA_LAT35 hold it (R144, R167); the registers beyond ENTRIES read as zero. -/
def latWords : List Nat := [
  0x1f1000280020, 0x1001f1000280020, 0x2001f1000270020, 0x3001f1000260020,
  0x4001f10002c0020, 0x5001f10002a0020, 0x6001f1000860080, 0x7001f10008c0080,
  0x8001f10008a0080, 0x1000012101030100, 0x1100012102080200, 0x1200012102090201,
  0x2000003000010001, 0x2100004000030001, 0x2200005000140014, 0x2300006000020001,
  0x2400016000040001, 0x2500006000010001, 0x2600206000000001, 0x2700007000040001,
  0x2800007000050001, 0x2900007000030001, 0x2a000050000e000e, 0x2b00005000180018,
  0x2c00000000020000, 0x3000008201020100, 0x3100008201040100, 0x3200008202040200,
  0x3300009301040100, 0x3400009301000100, 0x400020a000000001, 0x5000400000000000,
  0x510000b000010001, 0x520000b000000001, 0x5300000000020000, 0x5400000000000000]

/-- Reset values a map gives per copy or per part: TA_LATn per Table 5.6 (R167), RS_BANDb per Table 15.3 (R502), the fused
serial (R568). -/
def resetPerCopy (a : Nat) : Option Nat :=
  if 0x1200d000100 ≤ a ∧ a < 0x1200d000300 then some (latWords.getD ((a - 0x1200d000100) / 8) 0)
  else if a = 0x12006000008 then some Config.serial.toNat
  else if a = 0x12004000020 then some 0x03E80410
  else if a = 0x12004000028 then some 0x00FA0410
  else if a = 0x12004000030 then some 0x00320410
  else if a = 0x12004000038 then some 0x000A0410
  else none

/-- The register map at address `a`, if a register occupies it. -/
def regDefAt (a : Nat) : Option RegDef := regTable.find? (fun r => r.at? a)

/-- The reset value a register's fields spell. -/
def resetOfFields : List Field → Nat
  | [] => 0
  | f :: r => f.reset <<< f.lo + resetOfFields r

/-- The reset value of the register at `a` (zero where no register lies). -/
def regReset (a : Nat) : Word :=
  match resetPerCopy a with
  | some v => BitVec.ofNat 64 v
  | none => match regDefAt a with
    | some r => BitVec.ofNat 64 (resetOfFields r.fields)
    | none => 0

/-- A field of one register: where it lies. -/
structure Fld where
  addr : Nat
  hi : Nat
  lo : Nat
  deriving DecidableEq, Repr

end Sys2Proof.Machine
end

