-- ==== Sys2Proof/Machine/Fields.lean ====
section
/-!
DEFINITION. Machine/Fields.lean: the NAME of every register and of every field, as the manual's register maps spell them
(the same maps as Machine/Registers.lean). `R.<REGISTER>` is an address; `R.<REGISTER>_<FIELD>` is a field; the arguments
number the copies (tile, stack, die, port, session, entry).
-/
namespace Sys2Proof.Machine

/-- R99. -/
def R.TA_CVT_STATUS (i : Nat) : Nat := 0x110000f8100 + 0x100000 * i
def R.TA_CVT_STATUS_MODE_FIX (i : Nat) : Fld := ⟨0x110000f8100 + 0x100000 * i, 8, 8⟩
def R.TA_CVT_STATUS_INEXACT (i : Nat) : Fld := ⟨0x110000f8100 + 0x100000 * i, 7, 7⟩
def R.TA_CVT_STATUS_UNDERFLOW (i : Nat) : Fld := ⟨0x110000f8100 + 0x100000 * i, 6, 6⟩
def R.TA_CVT_STATUS_OVERFLOW (i : Nat) : Fld := ⟨0x110000f8100 + 0x100000 * i, 5, 5⟩
def R.TA_CVT_STATUS_DIVZERO (i : Nat) : Fld := ⟨0x110000f8100 + 0x100000 * i, 4, 4⟩
def R.TA_CVT_STATUS_INVALID (i : Nat) : Fld := ⟨0x110000f8100 + 0x100000 * i, 3, 3⟩
def R.TA_CVT_STATUS_NAN_IN (i : Nat) : Fld := ⟨0x110000f8100 + 0x100000 * i, 2, 2⟩
def R.TA_CVT_STATUS_INF_SAT (i : Nat) : Fld := ⟨0x110000f8100 + 0x100000 * i, 1, 1⟩
def R.TA_CVT_STATUS_SAT (i : Nat) : Fld := ⟨0x110000f8100 + 0x100000 * i, 0, 0⟩
/-- R100. -/
def R.TA_SAT_COUNT (i : Nat) : Nat := 0x110000f8108 + 0x100000 * i
def R.TA_SAT_COUNT_COUNT (i : Nat) : Fld := ⟨0x110000f8108 + 0x100000 * i, 31, 0⟩
/-- R101. -/
def R.TA_SR_SEED (i : Nat) : Nat := 0x110000f8110 + 0x100000 * i
def R.TA_SR_SEED_SEED (i : Nat) : Fld := ⟨0x110000f8110 + 0x100000 * i, 63, 0⟩
/-- R130. -/
def R.TA_OA (i : Nat) (j : Nat) : Nat := 0x110000f8200 + 0x100000 * i + 0x8 * j
def R.TA_OA_STEP (i : Nat) (j : Nat) : Fld := ⟨0x110000f8200 + 0x100000 * i + 0x8 * j, 44, 26⟩
def R.TA_OA_BASE (i : Nat) (j : Nat) : Fld := ⟨0x110000f8200 + 0x100000 * i + 0x8 * j, 18, 0⟩
/-- R131. -/
def R.TA_MFMT (i : Nat) : Nat := 0x110000f8240 + 0x100000 * i
def R.TA_MFMT_FMT3 (i : Nat) : Fld := ⟨0x110000f8240 + 0x100000 * i, 63, 48⟩
def R.TA_MFMT_FMT2 (i : Nat) : Fld := ⟨0x110000f8240 + 0x100000 * i, 47, 32⟩
def R.TA_MFMT_FMT1 (i : Nat) : Fld := ⟨0x110000f8240 + 0x100000 * i, 31, 16⟩
def R.TA_MFMT_FMT0 (i : Nat) : Fld := ⟨0x110000f8240 + 0x100000 * i, 15, 0⟩
/-- R164. -/
def R.TA_SEQ (i : Nat) : Nat := 0x110000f8300 + 0x100000 * i
def R.TA_SEQ_HALT_REASON (i : Nat) : Fld := ⟨0x110000f8300 + 0x100000 * i, 39, 32⟩
def R.TA_SEQ_BANK (i : Nat) : Fld := ⟨0x110000f8300 + 0x100000 * i, 31, 31⟩
def R.TA_SEQ_STANDBY_MARKED (i : Nat) : Fld := ⟨0x110000f8300 + 0x100000 * i, 30, 30⟩
def R.TA_SEQ_STANDBY_COMMIT (i : Nat) : Fld := ⟨0x110000f8300 + 0x100000 * i, 29, 29⟩
def R.TA_SEQ_STATE (i : Nat) : Fld := ⟨0x110000f8300 + 0x100000 * i, 28, 26⟩
def R.TA_SEQ_REPEAT_LEFT (i : Nat) : Fld := ⟨0x110000f8300 + 0x100000 * i, 25, 13⟩
def R.TA_SEQ_RESUME (i : Nat) : Fld := ⟨0x110000f8300 + 0x100000 * i, 12, 0⟩
/-- R165. -/
def R.TA_WC_LO (i : Nat) : Nat := 0x110000f8308 + 0x100000 * i
def R.TA_WC_LO_WC0 (i : Nat) : Fld := ⟨0x110000f8308 + 0x100000 * i, 7, 0⟩
def R.TA_WC_LO_WC1 (i : Nat) : Fld := ⟨0x110000f8308 + 0x100000 * i, 15, 8⟩
def R.TA_WC_LO_WC2 (i : Nat) : Fld := ⟨0x110000f8308 + 0x100000 * i, 23, 16⟩
def R.TA_WC_LO_WC3 (i : Nat) : Fld := ⟨0x110000f8308 + 0x100000 * i, 31, 24⟩
def R.TA_WC_LO_WC4 (i : Nat) : Fld := ⟨0x110000f8308 + 0x100000 * i, 39, 32⟩
def R.TA_WC_LO_WC5 (i : Nat) : Fld := ⟨0x110000f8308 + 0x100000 * i, 47, 40⟩
def R.TA_WC_LO_WC6 (i : Nat) : Fld := ⟨0x110000f8308 + 0x100000 * i, 55, 48⟩
def R.TA_WC_LO_WC7 (i : Nat) : Fld := ⟨0x110000f8308 + 0x100000 * i, 63, 56⟩
/-- R165. -/
def R.TA_WC_HI (i : Nat) : Nat := 0x110000f8310 + 0x100000 * i
def R.TA_WC_HI_WC8 (i : Nat) : Fld := ⟨0x110000f8310 + 0x100000 * i, 7, 0⟩
def R.TA_WC_HI_WC9 (i : Nat) : Fld := ⟨0x110000f8310 + 0x100000 * i, 15, 8⟩
def R.TA_WC_HI_WC10 (i : Nat) : Fld := ⟨0x110000f8310 + 0x100000 * i, 23, 16⟩
def R.TA_WC_HI_WC11 (i : Nat) : Fld := ⟨0x110000f8310 + 0x100000 * i, 31, 24⟩
def R.TA_WC_HI_WC12 (i : Nat) : Fld := ⟨0x110000f8310 + 0x100000 * i, 39, 32⟩
def R.TA_WC_HI_WC13 (i : Nat) : Fld := ⟨0x110000f8310 + 0x100000 * i, 47, 40⟩
def R.TA_WC_HI_WC14 (i : Nat) : Fld := ⟨0x110000f8310 + 0x100000 * i, 55, 48⟩
def R.TA_WC_HI_WC15 (i : Nat) : Fld := ⟨0x110000f8310 + 0x100000 * i, 63, 56⟩
/-- R218. -/
def R.TA_HALT0 (i : Nat) : Nat := 0x110000f8318 + 0x100000 * i
def R.TA_HALT0_VALID (i : Nat) : Fld := ⟨0x110000f8318 + 0x100000 * i, 63, 63⟩
def R.TA_HALT0_REASON (i : Nat) : Fld := ⟨0x110000f8318 + 0x100000 * i, 55, 48⟩
def R.TA_HALT0_RESOURCE (i : Nat) : Fld := ⟨0x110000f8318 + 0x100000 * i, 39, 36⟩
def R.TA_HALT0_SLOT (i : Nat) : Fld := ⟨0x110000f8318 + 0x100000 * i, 35, 33⟩
def R.TA_HALT0_BANK (i : Nat) : Fld := ⟨0x110000f8318 + 0x100000 * i, 32, 32⟩
def R.TA_HALT0_ELEMENT (i : Nat) : Fld := ⟨0x110000f8318 + 0x100000 * i, 31, 26⟩
def R.TA_HALT0_REPEAT (i : Nat) : Fld := ⟨0x110000f8318 + 0x100000 * i, 25, 13⟩
def R.TA_HALT0_BUNDLE (i : Nat) : Fld := ⟨0x110000f8318 + 0x100000 * i, 12, 0⟩
/-- R218. -/
def R.TA_HALT1 (i : Nat) : Nat := 0x110000f8320 + 0x100000 * i
def R.TA_HALT1_CYCLE (i : Nat) : Fld := ⟨0x110000f8320 + 0x100000 * i, 63, 0⟩
/-- R218. -/
def R.TA_HALT2 (i : Nat) : Nat := 0x110000f8328 + 0x100000 * i
def R.TA_HALT2_DETAIL (i : Nat) : Fld := ⟨0x110000f8328 + 0x100000 * i, 63, 0⟩
/-- R219. -/
def R.TA_BANKCTL (i : Nat) : Nat := 0x110000f8330 + 0x100000 * i
def R.TA_BANKCTL_HALT_DETAIL (i : Nat) : Fld := ⟨0x110000f8330 + 0x100000 * i, 63, 32⟩
def R.TA_BANKCTL_HALT (i : Nat) : Fld := ⟨0x110000f8330 + 0x100000 * i, 1, 1⟩
def R.TA_BANKCTL_MARK (i : Nat) : Fld := ⟨0x110000f8330 + 0x100000 * i, 0, 0⟩
/-- R166. -/
def R.TA_DMD_W0 (i : Nat) (j : Nat) : Nat := 0x110000f8400 + 0x100000 * i + 0x20 * j
def R.TA_DMD_W0_SRC (i : Nat) (j : Nat) : Fld := ⟨0x110000f8400 + 0x100000 * i + 0x20 * j, 58, 0⟩
/-- R166. -/
def R.TA_DMD_W1 (i : Nat) (j : Nat) : Nat := 0x110000f8408 + 0x100000 * i + 0x20 * j
def R.TA_DMD_W1_DST (i : Nat) (j : Nat) : Fld := ⟨0x110000f8408 + 0x100000 * i + 0x20 * j, 58, 0⟩
/-- R166. -/
def R.TA_DMD_W2 (i : Nat) (j : Nat) : Nat := 0x110000f8410 + 0x100000 * i + 0x20 * j
def R.TA_DMD_W2_DFMT (i : Nat) (j : Nat) : Fld := ⟨0x110000f8410 + 0x100000 * i + 0x20 * j, 63, 48⟩
def R.TA_DMD_W2_SFMT (i : Nat) (j : Nat) : Fld := ⟨0x110000f8410 + 0x100000 * i + 0x20 * j, 47, 32⟩
def R.TA_DMD_W2_LEN (i : Nat) (j : Nat) : Fld := ⟨0x110000f8410 + 0x100000 * i + 0x20 * j, 31, 0⟩
/-- R166. -/
def R.TA_DMD_W3 (i : Nat) (j : Nat) : Nat := 0x110000f8418 + 0x100000 * i + 0x20 * j
def R.TA_DMD_W3_VERSION (i : Nat) (j : Nat) : Fld := ⟨0x110000f8418 + 0x100000 * i + 0x20 * j, 31, 0⟩
/-- R196. -/
def R.TA_PCTL (i : Nat) : Nat := 0x110000f8600 + 0x100000 * i
def R.TA_PCTL_FRM (i : Nat) : Fld := ⟨0x110000f8600 + 0x100000 * i, 6, 4⟩
def R.TA_PCTL_VRM (i : Nat) : Fld := ⟨0x110000f8600 + 0x100000 * i, 2, 0⟩
/-- R196. -/
def R.TA_PTVEC (i : Nat) : Nat := 0x110000f8608 + 0x100000 * i
def R.TA_PTVEC_EN (i : Nat) : Fld := ⟨0x110000f8608 + 0x100000 * i, 63, 63⟩
def R.TA_PTVEC_INDEX (i : Nat) : Fld := ⟨0x110000f8608 + 0x100000 * i, 12, 0⟩
/-- R196. -/
def R.TA_PTRAP0 (i : Nat) : Nat := 0x110000f8610 + 0x100000 * i
def R.TA_PTRAP0_ACTIVE (i : Nat) : Fld := ⟨0x110000f8610 + 0x100000 * i, 63, 63⟩
def R.TA_PTRAP0_VALID (i : Nat) : Fld := ⟨0x110000f8610 + 0x100000 * i, 62, 62⟩
def R.TA_PTRAP0_CAUSE (i : Nat) : Fld := ⟨0x110000f8610 + 0x100000 * i, 47, 40⟩
def R.TA_PTRAP0_ELEMENT (i : Nat) : Fld := ⟨0x110000f8610 + 0x100000 * i, 37, 32⟩
def R.TA_PTRAP0_FBANK (i : Nat) : Fld := ⟨0x110000f8610 + 0x100000 * i, 31, 31⟩
def R.TA_PTRAP0_FREPEAT (i : Nat) : Fld := ⟨0x110000f8610 + 0x100000 * i, 25, 13⟩
def R.TA_PTRAP0_FBUNDLE (i : Nat) : Fld := ⟨0x110000f8610 + 0x100000 * i, 12, 0⟩
/-- R196. -/
def R.TA_PTRAP1 (i : Nat) : Nat := 0x110000f8618 + 0x100000 * i
def R.TA_PTRAP1_ADDR (i : Nat) : Fld := ⟨0x110000f8618 + 0x100000 * i, 63, 0⟩
/-- R196. -/
def R.TA_PTRAP2 (i : Nat) : Nat := 0x110000f8620 + 0x100000 * i
def R.TA_PTRAP2_RESTART (i : Nat) : Fld := ⟨0x110000f8620 + 0x100000 * i, 26, 26⟩
def R.TA_PTRAP2_REPEAT_LEFT (i : Nat) : Fld := ⟨0x110000f8620 + 0x100000 * i, 25, 13⟩
def R.TA_PTRAP2_RESUME (i : Nat) : Fld := ⟨0x110000f8620 + 0x100000 * i, 12, 0⟩
/-- R196. -/
def R.TA_PTRAP3 (i : Nat) : Nat := 0x110000f8628 + 0x100000 * i
def R.TA_PTRAP3_INSN (i : Nat) : Fld := ⟨0x110000f8628 + 0x100000 * i, 31, 0⟩
/-- R196. -/
def R.TA_PVL (i : Nat) : Nat := 0x110000f8630 + 0x100000 * i
def R.TA_PVL_VL (i : Nat) : Fld := ⟨0x110000f8630 + 0x100000 * i, 7, 0⟩
/-- R168 R196. -/
def R.TA_PX0 (i : Nat) : Nat := 0x110000f8700 + 0x100000 * i
def R.TA_PX0_VALUE (i : Nat) : Fld := ⟨0x110000f8700 + 0x100000 * i, 63, 0⟩
/-- R196. -/
def R.TA_PXN (i : Nat) (j : Nat) : Nat := 0x110000f8708 + 0x100000 * i + 0x8 * j
def R.TA_PXN_VALUE (i : Nat) (j : Nat) : Fld := ⟨0x110000f8708 + 0x100000 * i + 0x8 * j, 63, 0⟩
/-- R196. -/
def R.TA_PF (i : Nat) (j : Nat) : Nat := 0x110000f8800 + 0x100000 * i + 0x8 * j
def R.TA_PF_VALUE (i : Nat) (j : Nat) : Fld := ⟨0x110000f8800 + 0x100000 * i + 0x8 * j, 63, 0⟩
/-- R261. -/
def R.TA_MFAULT0 (i : Nat) : Nat := 0x110000f8900 + 0x100000 * i
def R.TA_MFAULT0_VALID (i : Nat) : Fld := ⟨0x110000f8900 + 0x100000 * i, 63, 63⟩
def R.TA_MFAULT0_CAUSE (i : Nat) : Fld := ⟨0x110000f8900 + 0x100000 * i, 55, 48⟩
def R.TA_MFAULT0_DESC (i : Nat) : Fld := ⟨0x110000f8900 + 0x100000 * i, 47, 44⟩
def R.TA_MFAULT0_SOURCE (i : Nat) : Fld := ⟨0x110000f8900 + 0x100000 * i, 43, 42⟩
/-- R261. -/
def R.TA_MFAULT1 (i : Nat) : Nat := 0x110000f8908 + 0x100000 * i
def R.TA_MFAULT1_ADDR (i : Nat) : Fld := ⟨0x110000f8908 + 0x100000 * i, 58, 0⟩
/-- R261. -/
def R.TA_MFAULT2 (i : Nat) : Nat := 0x110000f8910 + 0x100000 * i
def R.TA_MFAULT2_COUNT (i : Nat) : Fld := ⟨0x110000f8910 + 0x100000 * i, 31, 0⟩
/-- R315. -/
def R.TA_DC_ENC0 (i : Nat) : Nat := 0x110000f8a00 + 0x100000 * i
def R.TA_DC_ENC0_ELEMENTS (i : Nat) : Fld := ⟨0x110000f8a00 + 0x100000 * i, 63, 0⟩
/-- R315. -/
def R.TA_DC_ENC1 (i : Nat) : Nat := 0x110000f8a08 + 0x100000 * i
def R.TA_DC_ENC1_VANISHED (i : Nat) : Fld := ⟨0x110000f8a08 + 0x100000 * i, 63, 32⟩
def R.TA_DC_ENC1_SATURATED (i : Nat) : Fld := ⟨0x110000f8a08 + 0x100000 * i, 31, 0⟩
/-- R315. -/
def R.TA_DC_ENC2 (i : Nat) : Nat := 0x110000f8a10 + 0x100000 * i
def R.TA_DC_ENC2_ZERO_BLOCKS (i : Nat) : Fld := ⟨0x110000f8a10 + 0x100000 * i, 63, 32⟩
def R.TA_DC_ENC2_ESC_NARROWED (i : Nat) : Fld := ⟨0x110000f8a10 + 0x100000 * i, 31, 0⟩
/-- R315. -/
def R.TA_DC_ENC3 (i : Nat) : Nat := 0x110000f8a18 + 0x100000 * i
def R.TA_DC_ENC3_BLOCKS (i : Nat) : Fld := ⟨0x110000f8a18 + 0x100000 * i, 63, 32⟩
def R.TA_DC_ENC3_NAN_OUT (i : Nat) : Fld := ⟨0x110000f8a18 + 0x100000 * i, 31, 0⟩
/-- R167. -/
def R.TA_LAT_VER : Nat := 0x1200d000000
def R.TA_LAT_VER_ENTRIES : Fld := ⟨0x1200d000000, 39, 32⟩
def R.TA_LAT_VER_VERSION : Fld := ⟨0x1200d000000, 31, 0⟩
/-- R167. -/
def R.TA_LAT (i : Nat) : Nat := 0x1200d000100 + 0x8 * i
def R.TA_LAT_ENTRY (i : Nat) : Fld := ⟨0x1200d000100 + 0x8 * i, 63, 56⟩
def R.TA_LAT_STALL (i : Nat) : Fld := ⟨0x1200d000100 + 0x8 * i, 46, 46⟩
def R.TA_LAT_VARIABLE (i : Nat) : Fld := ⟨0x1200d000100 + 0x8 * i, 45, 45⟩
def R.TA_LAT_READ (i : Nat) : Fld := ⟨0x1200d000100 + 0x8 * i, 44, 40⟩
def R.TA_LAT_RESOURCE (i : Nat) : Fld := ⟨0x1200d000100 + 0x8 * i, 39, 36⟩
def R.TA_LAT_PARAM (i : Nat) : Fld := ⟨0x1200d000100 + 0x8 * i, 35, 32⟩
def R.TA_LAT_RDY_B (i : Nat) : Fld := ⟨0x1200d000100 + 0x8 * i, 31, 24⟩
def R.TA_LAT_RDY_A (i : Nat) : Fld := ⟨0x1200d000100 + 0x8 * i, 23, 16⟩
def R.TA_LAT_OCC_B (i : Nat) : Fld := ⟨0x1200d000100 + 0x8 * i, 15, 8⟩
def R.TA_LAT_OCC_A (i : Nat) : Fld := ⟨0x1200d000100 + 0x8 * i, 7, 0⟩
/-- R313. -/
def R.TA_DC_CTL : Nat := 0x1200d000400
def R.TA_DC_CTL_SEED : Fld := ⟨0x1200d000400, 63, 32⟩
def R.TA_DC_CTL_CONVERT_EN : Fld := ⟨0x1200d000400, 9, 9⟩
def R.TA_DC_CTL_CHAIN_EN : Fld := ⟨0x1200d000400, 8, 8⟩
def R.TA_DC_CTL_RATE : Fld := ⟨0x1200d000400, 3, 0⟩
/-- R313. -/
def R.TA_DC_THRESH : Nat := 0x1200d000408
def R.TA_DC_THRESH_SAT_LIM : Fld := ⟨0x1200d000408, 63, 48⟩
def R.TA_DC_THRESH_VANISH_LIM : Fld := ⟨0x1200d000408, 47, 32⟩
def R.TA_DC_THRESH_DIS_LIM : Fld := ⟨0x1200d000408, 15, 8⟩
def R.TA_DC_THRESH_E_LEVEL : Fld := ⟨0x1200d000408, 5, 0⟩
/-- R313. -/
def R.TA_DC_SNAP : Nat := 0x1200d000410
def R.TA_DC_SNAP_CUE : Fld := ⟨0x1200d000410, 63, 0⟩
/-- R314. -/
def R.TA_DC_AREA (i : Nat) : Nat := 0x1200d001000 + 0x400 * i
def R.TA_DC_AREA_VALID (i : Nat) : Fld := ⟨0x1200d001000 + 0x400 * i, 63, 63⟩
def R.TA_DC_AREA_BASE (i : Nat) : Fld := ⟨0x1200d001000 + 0x400 * i, 9, 0⟩
/-- R314. -/
def R.TA_DC_COUNT0 (i : Nat) : Nat := 0x1200d001008 + 0x400 * i
def R.TA_DC_COUNT0_DONE (i : Nat) : Fld := ⟨0x1200d001008 + 0x400 * i, 63, 32⟩
def R.TA_DC_COUNT0_DISAGREE (i : Nat) : Fld := ⟨0x1200d001008 + 0x400 * i, 31, 0⟩
/-- R314. -/
def R.TA_DC_COUNT1 (i : Nat) : Nat := 0x1200d001010 + 0x400 * i
def R.TA_DC_COUNT1_ABANDONED (i : Nat) : Fld := ⟨0x1200d001010 + 0x400 * i, 63, 48⟩
def R.TA_DC_COUNT1_DROPPED (i : Nat) : Fld := ⟨0x1200d001010 + 0x400 * i, 47, 32⟩
def R.TA_DC_COUNT1_SKIPPED (i : Nat) : Fld := ⟨0x1200d001010 + 0x400 * i, 31, 0⟩
/-- R314. -/
def R.TA_DC_COUNT2 (i : Nat) : Nat := 0x1200d001018 + 0x400 * i
def R.TA_DC_COUNT2_NONFINITE (i : Nat) : Fld := ⟨0x1200d001018 + 0x400 * i, 63, 32⟩
def R.TA_DC_COUNT2_SELECTED (i : Nat) : Fld := ⟨0x1200d001018 + 0x400 * i, 31, 0⟩
/-- R314. -/
def R.TA_DC_EHIST (i : Nat) (j : Nat) : Nat := 0x1200d001100 + 0x400 * i + 0x8 * j
def R.TA_DC_EHIST_COUNT (i : Nat) (j : Nat) : Fld := ⟨0x1200d001100 + 0x400 * i + 0x8 * j, 63, 0⟩
/-- R314. -/
def R.TA_DC_SHIST (i : Nat) (j : Nat) : Nat := 0x1200d001200 + 0x400 * i + 0x8 * j
def R.TA_DC_SHIST_COUNT (i : Nat) (j : Nat) : Fld := ⟨0x1200d001200 + 0x400 * i + 0x8 * j, 63, 0⟩
/-- R69. -/
def R.CU_COUNT : Nat := 0x12003000000
def R.CU_COUNT_COUNT : Fld := ⟨0x12003000000, 63, 0⟩
/-- R70. -/
def R.CU_CTL : Nat := 0x12003000008
def R.CU_CTL_MARGIN : Fld := ⟨0x12003000008, 55, 48⟩
def R.CU_CTL_BACKUP_EN : Fld := ⟨0x12003000008, 47, 47⟩
def R.CU_CTL_BACKUP_SEAT : Fld := ⟨0x12003000008, 46, 32⟩
def R.CU_CTL_MASTER_SEAT : Fld := ⟨0x12003000008, 30, 16⟩
def R.CU_CTL_PERIOD : Fld := ⟨0x12003000008, 10, 0⟩
/-- R71. -/
def R.CU_STATUS : Nat := 0x12003000010
def R.CU_STATUS_SCENE_STATE : Fld := ⟨0x12003000010, 13, 12⟩
def R.CU_STATUS_LAST_VERDICT : Fld := ⟨0x12003000010, 11, 11⟩
def R.CU_STATUS_CURTAIN_PHASE : Fld := ⟨0x12003000010, 10, 8⟩
def R.CU_STATUS_LATE_ALARM : Fld := ⟨0x12003000010, 5, 5⟩
def R.CU_STATUS_FAILOVER : Fld := ⟨0x12003000010, 4, 4⟩
def R.CU_STATUS_CUT_OFF : Fld := ⟨0x12003000010, 3, 3⟩
def R.CU_STATUS_HOLDOVER : Fld := ⟨0x12003000010, 2, 2⟩
def R.CU_STATUS_MASTER : Fld := ⟨0x12003000010, 1, 1⟩
def R.CU_STATUS_LOCKED : Fld := ⟨0x12003000010, 0, 0⟩
/-- R72. -/
def R.CU_STEP : Nat := 0x12003000018
def R.CU_STEP_DISCARDS : Fld := ⟨0x12003000018, 63, 32⟩
def R.CU_STEP_STEP : Fld := ⟨0x12003000018, 31, 0⟩
/-- R72. -/
def R.CU_CURTAIN : Nat := 0x12003000020
def R.CU_CURTAIN_K : Fld := ⟨0x12003000020, 63, 0⟩
/-- R72. -/
def R.CU_MAP_CUE : Nat := 0x12003000028
def R.CU_MAP_CUE_CUE : Fld := ⟨0x12003000028, 63, 0⟩
/-- R72. -/
def R.CU_MAP_NS : Nat := 0x12003000030
def R.CU_MAP_NS_NS : Fld := ⟨0x12003000030, 63, 0⟩
/-- R73. -/
def R.CU_ALARM_CTL (i : Nat) : Nat := 0x12003000100 + 0x10 * i
def R.CU_ALARM_CTL_TAG (i : Nat) : Fld := ⟨0x12003000100 + 0x10 * i, 23, 16⟩
def R.CU_ALARM_CTL_CHANNEL (i : Nat) : Fld := ⟨0x12003000100 + 0x10 * i, 15, 8⟩
def R.CU_ALARM_CTL_ACTION (i : Nat) : Fld := ⟨0x12003000100 + 0x10 * i, 5, 4⟩
def R.CU_ALARM_CTL_SCENE (i : Nat) : Fld := ⟨0x12003000100 + 0x10 * i, 3, 3⟩
def R.CU_ALARM_CTL_LATE (i : Nat) : Fld := ⟨0x12003000100 + 0x10 * i, 2, 2⟩
def R.CU_ALARM_CTL_FIRED (i : Nat) : Fld := ⟨0x12003000100 + 0x10 * i, 1, 1⟩
def R.CU_ALARM_CTL_ARM (i : Nat) : Fld := ⟨0x12003000100 + 0x10 * i, 0, 0⟩
/-- R73. -/
def R.CU_ALARM_TGT (i : Nat) : Nat := 0x12003000108 + 0x10 * i
def R.CU_ALARM_TGT_TARGET (i : Nat) : Fld := ⟨0x12003000108 + 0x10 * i, 63, 0⟩
/-- R258. -/
def R.WG_CACHE_CTL : Nat := 0x1200c000000
def R.WG_CACHE_CTL_BUSY : Fld := ⟨0x1200c000000, 8, 8⟩
def R.WG_CACHE_CTL_SIZE : Fld := ⟨0x1200c000000, 3, 0⟩
/-- R259. -/
def R.WG_HITS (i : Nat) : Nat := 0x1200c000100 + 0x40 * i
def R.WG_HITS_COUNT (i : Nat) : Fld := ⟨0x1200c000100 + 0x40 * i, 63, 0⟩
/-- R259. -/
def R.WG_MISSES (i : Nat) : Nat := 0x1200c000108 + 0x40 * i
def R.WG_MISSES_COUNT (i : Nat) : Fld := ⟨0x1200c000108 + 0x40 * i, 63, 0⟩
/-- R259. -/
def R.WG_WRITEBACKS (i : Nat) : Nat := 0x1200c000110 + 0x40 * i
def R.WG_WRITEBACKS_COUNT (i : Nat) : Fld := ⟨0x1200c000110 + 0x40 * i, 63, 0⟩
/-- R259. -/
def R.WG_DROPS (i : Nat) : Nat := 0x1200c000118 + 0x40 * i
def R.WG_DROPS_COUNT (i : Nat) : Fld := ⟨0x1200c000118 + 0x40 * i, 63, 0⟩
/-- R259. -/
def R.WG_ECC (i : Nat) : Nat := 0x1200c000120 + 0x40 * i
def R.WG_ECC_CORRECTED (i : Nat) : Fld := ⟨0x1200c000120 + 0x40 * i, 63, 32⟩
def R.WG_ECC_UNCORR (i : Nat) : Fld := ⟨0x1200c000120 + 0x40 * i, 31, 0⟩
/-- R260. -/
def R.TP_STATUS (i : Nat) : Nat := 0x1200b000000 + 0x1000 * i
def R.TP_STATUS_TEMP (i : Nat) : Fld := ⟨0x1200b000000 + 0x1000 * i, 23, 16⟩
def R.TP_STATUS_STEP (i : Nat) : Fld := ⟨0x1200b000000 + 0x1000 * i, 10, 8⟩
def R.TP_STATUS_STOPPED (i : Nat) : Fld := ⟨0x1200b000000 + 0x1000 * i, 2, 2⟩
def R.TP_STATUS_TRAINED (i : Nat) : Fld := ⟨0x1200b000000 + 0x1000 * i, 1, 1⟩
def R.TP_STATUS_ONLINE (i : Nat) : Fld := ⟨0x1200b000000 + 0x1000 * i, 0, 0⟩
/-- R260. -/
def R.TP_ECC (i : Nat) : Nat := 0x1200b000008 + 0x1000 * i
def R.TP_ECC_CORRECTED (i : Nat) : Fld := ⟨0x1200b000008 + 0x1000 * i, 63, 32⟩
def R.TP_ECC_UNCORR (i : Nat) : Fld := ⟨0x1200b000008 + 0x1000 * i, 31, 16⟩
def R.TP_ECC_POISON_READS (i : Nat) : Fld := ⟨0x1200b000008 + 0x1000 * i, 15, 0⟩
/-- R260. -/
def R.TP_ERRLOG0 (i : Nat) : Nat := 0x1200b000010 + 0x1000 * i
def R.TP_ERRLOG0_VALID (i : Nat) : Fld := ⟨0x1200b000010 + 0x1000 * i, 63, 63⟩
def R.TP_ERRLOG0_CAUSE (i : Nat) : Fld := ⟨0x1200b000010 + 0x1000 * i, 55, 48⟩
def R.TP_ERRLOG0_ADDR (i : Nat) : Fld := ⟨0x1200b000010 + 0x1000 * i, 43, 0⟩
/-- R260. -/
def R.TP_ERRLOG1 (i : Nat) : Nat := 0x1200b000018 + 0x1000 * i
def R.TP_ERRLOG1_MID (i : Nat) : Fld := ⟨0x1200b000018 + 0x1000 * i, 63, 52⟩
def R.TP_ERRLOG1_CUE (i : Nat) : Fld := ⟨0x1200b000018 + 0x1000 * i, 51, 0⟩
/-- R260. -/
def R.TP_SPARES (i : Nat) : Nat := 0x1200b000020 + 0x1000 * i
def R.TP_SPARES_USED (i : Nat) : Fld := ⟨0x1200b000020 + 0x1000 * i, 31, 16⟩
def R.TP_SPARES_TOTAL (i : Nat) : Fld := ⟨0x1200b000020 + 0x1000 * i, 15, 0⟩
/-- R260. -/
def R.TP_CE_CFG (i : Nat) : Nat := 0x1200b000028 + 0x1000 * i
def R.TP_CE_CFG_THRESH (i : Nat) : Fld := ⟨0x1200b000028 + 0x1000 * i, 7, 0⟩
/-- R260. -/
def R.TP_THROTTLE (i : Nat) : Nat := 0x1200b000030 + 0x1000 * i
def R.TP_THROTTLE_CUES (i : Nat) : Fld := ⟨0x1200b000030 + 0x1000 * i, 63, 0⟩
/-- R293. -/
def R.TP_TE_STATUS (i : Nat) : Nat := 0x1200b000108 + 0x1000 * i
def R.TP_TE_STATUS_LATE_SEEN (i : Nat) : Fld := ⟨0x1200b000108 + 0x1000 * i, 17, 17⟩
def R.TP_TE_STATUS_BAD_ENTRY (i : Nat) : Fld := ⟨0x1200b000108 + 0x1000 * i, 16, 16⟩
def R.TP_TE_STATUS_BUSY (i : Nat) : Fld := ⟨0x1200b000108 + 0x1000 * i, 15, 0⟩
/-- R293. -/
def R.TP_BQ_STATUS (i : Nat) : Nat := 0x1200b000110 + 0x1000 * i
def R.TP_BQ_STATUS_OVERRUN (i : Nat) : Fld := ⟨0x1200b000110 + 0x1000 * i, 15, 15⟩
def R.TP_BQ_STATUS_FREE (i : Nat) : Fld := ⟨0x1200b000110 + 0x1000 * i, 6, 0⟩
/-- R293. -/
def R.TP_BQ_POST (i : Nat) : Nat := 0x1200b000118 + 0x1000 * i
def R.TP_BQ_POST_POST (i : Nat) : Fld := ⟨0x1200b000118 + 0x1000 * i, 0, 0⟩
/-- R293. -/
def R.TP_NORM_LOCAL (i : Nat) : Nat := 0x1200b000120 + 0x1000 * i
def R.TP_NORM_LOCAL_SUMSQ (i : Nat) : Fld := ⟨0x1200b000120 + 0x1000 * i, 63, 0⟩
/-- R293. -/
def R.TP_CLIP_MAX (i : Nat) : Nat := 0x1200b000128 + 0x1000 * i
def R.TP_CLIP_MAX_MAXNORM (i : Nat) : Fld := ⟨0x1200b000128 + 0x1000 * i, 63, 0⟩
/-- R293. -/
def R.TP_CLIP_SUMSQ (i : Nat) : Nat := 0x1200b000130 + 0x1000 * i
def R.TP_CLIP_SUMSQ_S (i : Nat) : Fld := ⟨0x1200b000130 + 0x1000 * i, 63, 0⟩
/-- R293. -/
def R.TP_CLIP_STATUS (i : Nat) : Nat := 0x1200b000138 + 0x1000 * i
def R.TP_CLIP_STATUS_NONFINITE (i : Nat) : Fld := ⟨0x1200b000138 + 0x1000 * i, 2, 2⟩
def R.TP_CLIP_STATUS_DONE (i : Nat) : Fld := ⟨0x1200b000138 + 0x1000 * i, 1, 1⟩
def R.TP_CLIP_STATUS_PENDING (i : Nat) : Fld := ⟨0x1200b000138 + 0x1000 * i, 0, 0⟩
/-- R293. -/
def R.TP_CLIP_FACTOR (i : Nat) : Nat := 0x1200b000140 + 0x1000 * i
def R.TP_CLIP_FACTOR_C (i : Nat) : Fld := ⟨0x1200b000140 + 0x1000 * i, 63, 0⟩
/-- R293. -/
def R.TP_BQ_DESC (i : Nat) (j : Nat) : Nat := 0x1200b000200 + 0x1000 * i + 0x8 * j
def R.TP_BQ_DESC_WORD (i : Nat) (j : Nat) : Fld := ⟨0x1200b000200 + 0x1000 * i + 0x8 * j, 63, 0⟩
/-- R294. -/
def R.TP_CVT_STATUS (i : Nat) (j : Nat) : Nat := 0x1200b000400 + 0x1000 * i + 0x20 * j
def R.TP_CVT_STATUS_MODE_FIX (i : Nat) (j : Nat) : Fld := ⟨0x1200b000400 + 0x1000 * i + 0x20 * j, 8, 8⟩
def R.TP_CVT_STATUS_INEXACT (i : Nat) (j : Nat) : Fld := ⟨0x1200b000400 + 0x1000 * i + 0x20 * j, 7, 7⟩
def R.TP_CVT_STATUS_UNDERFLOW (i : Nat) (j : Nat) : Fld := ⟨0x1200b000400 + 0x1000 * i + 0x20 * j, 6, 6⟩
def R.TP_CVT_STATUS_OVERFLOW (i : Nat) (j : Nat) : Fld := ⟨0x1200b000400 + 0x1000 * i + 0x20 * j, 5, 5⟩
def R.TP_CVT_STATUS_DIVZERO (i : Nat) (j : Nat) : Fld := ⟨0x1200b000400 + 0x1000 * i + 0x20 * j, 4, 4⟩
def R.TP_CVT_STATUS_INVALID (i : Nat) (j : Nat) : Fld := ⟨0x1200b000400 + 0x1000 * i + 0x20 * j, 3, 3⟩
def R.TP_CVT_STATUS_NAN_IN (i : Nat) (j : Nat) : Fld := ⟨0x1200b000400 + 0x1000 * i + 0x20 * j, 2, 2⟩
def R.TP_CVT_STATUS_INF_SAT (i : Nat) (j : Nat) : Fld := ⟨0x1200b000400 + 0x1000 * i + 0x20 * j, 1, 1⟩
def R.TP_CVT_STATUS_SAT (i : Nat) (j : Nat) : Fld := ⟨0x1200b000400 + 0x1000 * i + 0x20 * j, 0, 0⟩
/-- R294. -/
def R.TP_SAT_COUNT (i : Nat) (j : Nat) : Nat := 0x1200b000408 + 0x1000 * i + 0x20 * j
def R.TP_SAT_COUNT_COUNT (i : Nat) (j : Nat) : Fld := ⟨0x1200b000408 + 0x1000 * i + 0x20 * j, 31, 0⟩
/-- R294. -/
def R.TP_SR_SEED (i : Nat) (j : Nat) : Nat := 0x1200b000410 + 0x1000 * i + 0x20 * j
def R.TP_SR_SEED_SEED (i : Nat) (j : Nat) : Fld := ⟨0x1200b000410 + 0x1000 * i + 0x20 * j, 63, 0⟩
/-- R295. -/
def R.TP_HYPER_LR (i : Nat) (j : Nat) : Nat := 0x1200b000800 + 0x1000 * i + 0x40 * j
def R.TP_HYPER_LR_LR (i : Nat) (j : Nat) : Fld := ⟨0x1200b000800 + 0x1000 * i + 0x40 * j, 31, 0⟩
/-- R295. -/
def R.TP_HYPER_B1 (i : Nat) (j : Nat) : Nat := 0x1200b000808 + 0x1000 * i + 0x40 * j
def R.TP_HYPER_B1_B1 (i : Nat) (j : Nat) : Fld := ⟨0x1200b000808 + 0x1000 * i + 0x40 * j, 31, 0⟩
/-- R295. -/
def R.TP_HYPER_B2 (i : Nat) (j : Nat) : Nat := 0x1200b000810 + 0x1000 * i + 0x40 * j
def R.TP_HYPER_B2_B2 (i : Nat) (j : Nat) : Fld := ⟨0x1200b000810 + 0x1000 * i + 0x40 * j, 31, 0⟩
/-- R295. -/
def R.TP_HYPER_EPS (i : Nat) (j : Nat) : Nat := 0x1200b000818 + 0x1000 * i + 0x40 * j
def R.TP_HYPER_EPS_EPS (i : Nat) (j : Nat) : Fld := ⟨0x1200b000818 + 0x1000 * i + 0x40 * j, 31, 0⟩
/-- R295. -/
def R.TP_HYPER_WD (i : Nat) (j : Nat) : Nat := 0x1200b000820 + 0x1000 * i + 0x40 * j
def R.TP_HYPER_WD_WD (i : Nat) (j : Nat) : Fld := ⟨0x1200b000820 + 0x1000 * i + 0x40 * j, 31, 0⟩
/-- R295. -/
def R.TP_HYPER_BC1 (i : Nat) (j : Nat) : Nat := 0x1200b000828 + 0x1000 * i + 0x40 * j
def R.TP_HYPER_BC1_BC1 (i : Nat) (j : Nat) : Fld := ⟨0x1200b000828 + 0x1000 * i + 0x40 * j, 31, 0⟩
/-- R295. -/
def R.TP_HYPER_BC2 (i : Nat) (j : Nat) : Nat := 0x1200b000830 + 0x1000 * i + 0x40 * j
def R.TP_HYPER_BC2_BC2 (i : Nat) (j : Nat) : Fld := ⟨0x1200b000830 + 0x1000 * i + 0x40 * j, 31, 0⟩
/-- R295. -/
def R.TP_HYPER_7 (i : Nat) (j : Nat) : Nat := 0x1200b000838 + 0x1000 * i + 0x40 * j
def R.TP_HYPER_7_RSV (i : Nat) (j : Nat) : Fld := ⟨0x1200b000838 + 0x1000 * i + 0x40 * j, 31, 0⟩
/-- R315. -/
def R.TP_DC_ENC0 (i : Nat) (j : Nat) : Nat := 0x1200b000c00 + 0x1000 * i + 0x20 * j
def R.TP_DC_ENC0_ELEMENTS (i : Nat) (j : Nat) : Fld := ⟨0x1200b000c00 + 0x1000 * i + 0x20 * j, 63, 0⟩
/-- R315. -/
def R.TP_DC_ENC1 (i : Nat) (j : Nat) : Nat := 0x1200b000c08 + 0x1000 * i + 0x20 * j
def R.TP_DC_ENC1_VANISHED (i : Nat) (j : Nat) : Fld := ⟨0x1200b000c08 + 0x1000 * i + 0x20 * j, 63, 32⟩
def R.TP_DC_ENC1_SATURATED (i : Nat) (j : Nat) : Fld := ⟨0x1200b000c08 + 0x1000 * i + 0x20 * j, 31, 0⟩
/-- R315. -/
def R.TP_DC_ENC2 (i : Nat) (j : Nat) : Nat := 0x1200b000c10 + 0x1000 * i + 0x20 * j
def R.TP_DC_ENC2_ZERO_BLOCKS (i : Nat) (j : Nat) : Fld := ⟨0x1200b000c10 + 0x1000 * i + 0x20 * j, 63, 32⟩
def R.TP_DC_ENC2_ESC_NARROWED (i : Nat) (j : Nat) : Fld := ⟨0x1200b000c10 + 0x1000 * i + 0x20 * j, 31, 0⟩
/-- R315. -/
def R.TP_DC_ENC3 (i : Nat) (j : Nat) : Nat := 0x1200b000c18 + 0x1000 * i + 0x20 * j
def R.TP_DC_ENC3_BLOCKS (i : Nat) (j : Nat) : Fld := ⟨0x1200b000c18 + 0x1000 * i + 0x20 * j, 63, 32⟩
def R.TP_DC_ENC3_NAN_OUT (i : Nat) (j : Nat) : Fld := ⟨0x1200b000c18 + 0x1000 * i + 0x20 * j, 31, 0⟩
/-- R292. -/
def R.TP_SHARD_W0 (i : Nat) (j : Nat) : Nat := 0x1200b100000 + 0x20000 * i + 0x80 * j
def R.TP_SHARD_W0_VALID (i : Nat) (j : Nat) : Fld := ⟨0x1200b100000 + 0x20000 * i + 0x80 * j, 63, 63⟩
def R.TP_SHARD_W0_FRONT (i : Nat) (j : Nat) : Fld := ⟨0x1200b100000 + 0x20000 * i + 0x80 * j, 62, 62⟩
def R.TP_SHARD_W0_WRITTEN (i : Nat) (j : Nat) : Fld := ⟨0x1200b100000 + 0x20000 * i + 0x80 * j, 61, 61⟩
def R.TP_SHARD_W0_FIRED (i : Nat) (j : Nat) : Fld := ⟨0x1200b100000 + 0x20000 * i + 0x80 * j, 60, 60⟩
def R.TP_SHARD_W0_SPEC (i : Nat) (j : Nat) : Fld := ⟨0x1200b100000 + 0x20000 * i + 0x80 * j, 59, 59⟩
def R.TP_SHARD_W0_HOLD (i : Nat) (j : Nat) : Fld := ⟨0x1200b100000 + 0x20000 * i + 0x80 * j, 58, 58⟩
def R.TP_SHARD_W0_LATE (i : Nat) (j : Nat) : Fld := ⟨0x1200b100000 + 0x20000 * i + 0x80 * j, 57, 57⟩
def R.TP_SHARD_W0_HAS_R (i : Nat) (j : Nat) : Fld := ⟨0x1200b100000 + 0x20000 * i + 0x80 * j, 55, 55⟩
def R.TP_SHARD_W0_HAS_M (i : Nat) (j : Nat) : Fld := ⟨0x1200b100000 + 0x20000 * i + 0x80 * j, 54, 54⟩
def R.TP_SHARD_W0_HAS_V (i : Nat) (j : Nat) : Fld := ⟨0x1200b100000 + 0x20000 * i + 0x80 * j, 53, 53⟩
def R.TP_SHARD_W0_GCODE (i : Nat) (j : Nat) : Fld := ⟨0x1200b100000 + 0x20000 * i + 0x80 * j, 47, 40⟩
/-- R292. -/
def R.TP_SHARD_W1 (i : Nat) (j : Nat) : Nat := 0x1200b100008 + 0x20000 * i + 0x80 * j
def R.TP_SHARD_W1_VERSION (i : Nat) (j : Nat) : Fld := ⟨0x1200b100008 + 0x20000 * i + 0x80 * j, 63, 32⟩
def R.TP_SHARD_W1_ELEMENTS (i : Nat) (j : Nat) : Fld := ⟨0x1200b100008 + 0x20000 * i + 0x80 * j, 31, 0⟩
/-- R292. -/
def R.TP_SHARD_W2 (i : Nat) (j : Nat) : Nat := 0x1200b100010 + 0x20000 * i + 0x80 * j
def R.TP_SHARD_W2_CHANGED (i : Nat) (j : Nat) : Fld := ⟨0x1200b100010 + 0x20000 * i + 0x80 * j, 63, 40⟩
def R.TP_SHARD_W2_PBYTES (i : Nat) (j : Nat) : Fld := ⟨0x1200b100010 + 0x20000 * i + 0x80 * j, 39, 0⟩
/-- R292. -/
def R.TP_SHARD_W11 (i : Nat) (j : Nat) : Nat := 0x1200b100058 + 0x20000 * i + 0x80 * j
def R.TP_SHARD_W11_BASE_G (i : Nat) (j : Nat) : Fld := ⟨0x1200b100058 + 0x20000 * i + 0x80 * j, 43, 0⟩
/-- R292. -/
def R.TP_SHARD_W12 (i : Nat) (j : Nat) : Nat := 0x1200b100060 + 0x20000 * i + 0x80 * j
def R.TP_SHARD_W12_EXPECT (i : Nat) (j : Nat) : Fld := ⟨0x1200b100060 + 0x20000 * i + 0x80 * j, 47, 0⟩
/-- R292. -/
def R.TP_SHARD_W13 (i : Nat) (j : Nat) : Nat := 0x1200b100068 + 0x20000 * i + 0x80 * j
def R.TP_SHARD_W13_ARRIVED (i : Nat) (j : Nat) : Fld := ⟨0x1200b100068 + 0x20000 * i + 0x80 * j, 47, 0⟩
/-- R292. -/
def R.TP_SHARD_W14 (i : Nat) (j : Nat) : Nat := 0x1200b100070 + 0x20000 * i + 0x80 * j
def R.TP_SHARD_W14_SUMSQ (i : Nat) (j : Nat) : Fld := ⟨0x1200b100070 + 0x20000 * i + 0x80 * j, 63, 0⟩
/-- R292. -/
def R.TP_SHARD_W15 (i : Nat) (j : Nat) : Nat := 0x1200b100078 + 0x20000 * i + 0x80 * j
def R.TP_SHARD_W15_TRIG (i : Nat) (j : Nat) : Fld := ⟨0x1200b100078 + 0x20000 * i + 0x80 * j, 43, 0⟩
/-- R292. -/
def R.TP_SHARD_W3 (i : Nat) (j : Nat) : Nat := 0x1200b100018 + 0x20000 * i + 0x80 * j
def R.TP_SHARD_W3_BASE_P0 (i : Nat) (j : Nat) : Fld := ⟨0x1200b100018 + 0x20000 * i + 0x80 * j, 43, 0⟩
/-- R292. -/
def R.TP_SHARD_W4 (i : Nat) (j : Nat) : Nat := 0x1200b100020 + 0x20000 * i + 0x80 * j
def R.TP_SHARD_W4_BASE_P1 (i : Nat) (j : Nat) : Fld := ⟨0x1200b100020 + 0x20000 * i + 0x80 * j, 43, 0⟩
/-- R292. -/
def R.TP_SHARD_W5 (i : Nat) (j : Nat) : Nat := 0x1200b100028 + 0x20000 * i + 0x80 * j
def R.TP_SHARD_W5_BASE_R0 (i : Nat) (j : Nat) : Fld := ⟨0x1200b100028 + 0x20000 * i + 0x80 * j, 43, 0⟩
/-- R292. -/
def R.TP_SHARD_W6 (i : Nat) (j : Nat) : Nat := 0x1200b100030 + 0x20000 * i + 0x80 * j
def R.TP_SHARD_W6_BASE_R1 (i : Nat) (j : Nat) : Fld := ⟨0x1200b100030 + 0x20000 * i + 0x80 * j, 43, 0⟩
/-- R292. -/
def R.TP_SHARD_W7 (i : Nat) (j : Nat) : Nat := 0x1200b100038 + 0x20000 * i + 0x80 * j
def R.TP_SHARD_W7_BASE_M0 (i : Nat) (j : Nat) : Fld := ⟨0x1200b100038 + 0x20000 * i + 0x80 * j, 43, 0⟩
/-- R292. -/
def R.TP_SHARD_W8 (i : Nat) (j : Nat) : Nat := 0x1200b100040 + 0x20000 * i + 0x80 * j
def R.TP_SHARD_W8_BASE_M1 (i : Nat) (j : Nat) : Fld := ⟨0x1200b100040 + 0x20000 * i + 0x80 * j, 43, 0⟩
/-- R292. -/
def R.TP_SHARD_W9 (i : Nat) (j : Nat) : Nat := 0x1200b100048 + 0x20000 * i + 0x80 * j
def R.TP_SHARD_W9_BASE_V0 (i : Nat) (j : Nat) : Fld := ⟨0x1200b100048 + 0x20000 * i + 0x80 * j, 43, 0⟩
/-- R292. -/
def R.TP_SHARD_W10 (i : Nat) (j : Nat) : Nat := 0x1200b100050 + 0x20000 * i + 0x80 * j
def R.TP_SHARD_W10_BASE_V1 (i : Nat) (j : Nat) : Fld := ⟨0x1200b100050 + 0x20000 * i + 0x80 * j, 43, 0⟩
/-- R351. -/
def R.BK_STATUS : Nat := 0x12002000000
def R.BK_STATUS_RESULT : Fld := ⟨0x12002000000, 39, 32⟩
def R.BK_STATUS_QUEUED : Fld := ⟨0x12002000000, 15, 8⟩
def R.BK_STATUS_STATE : Fld := ⟨0x12002000000, 2, 0⟩
/-- R351. -/
def R.BK_PLAN_ID : Nat := 0x12002000008
def R.BK_PLAN_ID_ID : Fld := ⟨0x12002000008, 63, 0⟩
/-- R351. -/
def R.BK_CFG : Nat := 0x12002000010
def R.BK_CFG_FAST : Fld := ⟨0x12002000010, 31, 16⟩
def R.BK_CFG_PROBE : Fld := ⟨0x12002000010, 15, 8⟩
/-- R351. -/
def R.BK_REPORT : Nat := 0x12002000018
def R.BK_REPORT_LEN : Fld := ⟨0x12002000018, 31, 0⟩
/-- R351. -/
def R.BK_PERMUTE : Nat := 0x12002000020
def R.BK_PERMUTE_BYTES_LEFT : Fld := ⟨0x12002000020, 47, 0⟩
/-- R389. -/
def R.FB_CTL : Nat := 0x12009000000
def R.FB_CTL_RELAY_EN : Fld := ⟨0x12009000000, 40, 40⟩
def R.FB_CTL_RESP_TIMEOUT : Fld := ⟨0x12009000000, 39, 24⟩
def R.FB_CTL_RETRY_MAX : Fld := ⟨0x12009000000, 23, 16⟩
def R.FB_CTL_SEAT : Fld := ⟨0x12009000000, 14, 0⟩
/-- R389. -/
def R.FB_STATUS : Nat := 0x12009000008
def R.FB_STATUS_STRAY : Fld := ⟨0x12009000008, 63, 48⟩
def R.FB_STATUS_DEGRADED : Fld := ⟨0x12009000008, 31, 16⟩
def R.FB_STATUS_UP : Fld := ⟨0x12009000008, 15, 0⟩
/-- R389. -/
def R.FB_EVENT : Nat := 0x12009000010
def R.FB_EVENT_EVENTS : Fld := ⟨0x12009000010, 9, 0⟩
/-- R389. -/
def R.FB_CPATH : Nat := 0x12009000018
def R.FB_CPATH_VIA : Fld := ⟨0x12009000018, 35, 0⟩
/-- R391. -/
def R.FB_SETPOS (i : Nat) : Nat := 0x12009000020 + 0x8 * i
def R.FB_SETPOS_POS0 (i : Nat) : Fld := ⟨0x12009000020 + 0x8 * i, 15, 0⟩
def R.FB_SETPOS_POS1 (i : Nat) : Fld := ⟨0x12009000020 + 0x8 * i, 31, 16⟩
def R.FB_SETPOS_POS2 (i : Nat) : Fld := ⟨0x12009000020 + 0x8 * i, 47, 32⟩
def R.FB_SETPOS_POS3 (i : Nat) : Fld := ⟨0x12009000020 + 0x8 * i, 63, 48⟩
/-- R392. -/
def R.FB_CE_STATUS : Nat := 0x12009000100
def R.FB_CE_STATUS_SAT : Fld := ⟨0x12009000100, 63, 32⟩
def R.FB_CE_STATUS_OVERRUN : Fld := ⟨0x12009000100, 16, 16⟩
def R.FB_CE_STATUS_FREE1 : Fld := ⟨0x12009000100, 12, 8⟩
def R.FB_CE_STATUS_FREE0 : Fld := ⟨0x12009000100, 4, 0⟩
/-- R392. -/
def R.FB_CE_POST : Nat := 0x12009000108
def R.FB_CE_POST_QUEUE : Fld := ⟨0x12009000108, 0, 0⟩
/-- R392. -/
def R.FB_CE_DESC (i : Nat) : Nat := 0x12009000140 + 0x8 * i
def R.FB_CE_DESC_WORD (i : Nat) : Fld := ⟨0x12009000140 + 0x8 * i, 63, 0⟩
/-- R390. -/
def R.FB_PORT_STATUS (i : Nat) : Nat := 0x12009001000 + 0x100 * i
def R.FB_PORT_STATUS_PEER_SEAT (i : Nat) : Fld := ⟨0x12009001000 + 0x100 * i, 63, 49⟩
def R.FB_PORT_STATUS_PEER_PORT (i : Nat) : Fld := ⟨0x12009001000 + 0x100 * i, 48, 45⟩
def R.FB_PORT_STATUS_LANES (i : Nat) : Fld := ⟨0x12009001000 + 0x100 * i, 7, 4⟩
def R.FB_PORT_STATUS_WIDTH (i : Nat) : Fld := ⟨0x12009001000 + 0x100 * i, 3, 2⟩
def R.FB_PORT_STATUS_STATE (i : Nat) : Fld := ⟨0x12009001000 + 0x100 * i, 1, 0⟩
/-- R390. -/
def R.FB_PORT_CFG (i : Nat) : Nat := 0x12009001008 + 0x100 * i
def R.FB_PORT_CFG_DATELINE (i : Nat) : Fld := ⟨0x12009001008 + 0x100 * i, 2, 2⟩
def R.FB_PORT_CFG_DISABLE (i : Nat) : Fld := ⟨0x12009001008 + 0x100 * i, 1, 1⟩
def R.FB_PORT_CFG_RETRAIN (i : Nat) : Fld := ⟨0x12009001008 + 0x100 * i, 0, 0⟩
/-- R390. -/
def R.FB_PORT_DELAY (i : Nat) : Nat := 0x12009001010 + 0x100 * i
def R.FB_PORT_DELAY_PS (i : Nat) : Fld := ⟨0x12009001010 + 0x100 * i, 31, 0⟩
/-- R390. -/
def R.FB_PORT_ERR0 (i : Nat) : Nat := 0x12009001018 + 0x100 * i
def R.FB_PORT_ERR0_FEC_CORR (i : Nat) : Fld := ⟨0x12009001018 + 0x100 * i, 63, 32⟩
def R.FB_PORT_ERR0_FEC_UNCORR (i : Nat) : Fld := ⟨0x12009001018 + 0x100 * i, 31, 0⟩
/-- R390. -/
def R.FB_PORT_ERR1 (i : Nat) : Nat := 0x12009001020 + 0x100 * i
def R.FB_PORT_ERR1_CRC (i : Nat) : Fld := ⟨0x12009001020 + 0x100 * i, 63, 32⟩
def R.FB_PORT_ERR1_RETRIES (i : Nat) : Fld := ⟨0x12009001020 + 0x100 * i, 31, 0⟩
/-- R390. -/
def R.FB_BUDGET (i : Nat) : Nat := 0x12009001028 + 0x100 * i
def R.FB_BUDGET_VC0 (i : Nat) : Fld := ⟨0x12009001028 + 0x100 * i, 7, 0⟩
def R.FB_BUDGET_VC1 (i : Nat) : Fld := ⟨0x12009001028 + 0x100 * i, 15, 8⟩
def R.FB_BUDGET_VC2 (i : Nat) : Fld := ⟨0x12009001028 + 0x100 * i, 23, 16⟩
def R.FB_BUDGET_VC3 (i : Nat) : Fld := ⟨0x12009001028 + 0x100 * i, 31, 24⟩
def R.FB_BUDGET_VC4 (i : Nat) : Fld := ⟨0x12009001028 + 0x100 * i, 39, 32⟩
def R.FB_BUDGET_VC5 (i : Nat) : Fld := ⟨0x12009001028 + 0x100 * i, 47, 40⟩
def R.FB_BUDGET_VC6 (i : Nat) : Fld := ⟨0x12009001028 + 0x100 * i, 55, 48⟩
def R.FB_BUDGET_VC7 (i : Nat) : Fld := ⟨0x12009001028 + 0x100 * i, 63, 56⟩
/-- R390. -/
def R.FB_TICKETS (i : Nat) : Nat := 0x12009001030 + 0x100 * i
def R.FB_TICKETS_VC0 (i : Nat) : Fld := ⟨0x12009001030 + 0x100 * i, 7, 0⟩
def R.FB_TICKETS_VC1 (i : Nat) : Fld := ⟨0x12009001030 + 0x100 * i, 15, 8⟩
def R.FB_TICKETS_VC2 (i : Nat) : Fld := ⟨0x12009001030 + 0x100 * i, 23, 16⟩
def R.FB_TICKETS_VC3 (i : Nat) : Fld := ⟨0x12009001030 + 0x100 * i, 31, 24⟩
def R.FB_TICKETS_VC4 (i : Nat) : Fld := ⟨0x12009001030 + 0x100 * i, 39, 32⟩
def R.FB_TICKETS_VC5 (i : Nat) : Fld := ⟨0x12009001030 + 0x100 * i, 47, 40⟩
def R.FB_TICKETS_VC6 (i : Nat) : Fld := ⟨0x12009001030 + 0x100 * i, 55, 48⟩
def R.FB_TICKETS_VC7 (i : Nat) : Fld := ⟨0x12009001030 + 0x100 * i, 63, 56⟩
/-- R391. -/
def R.FB_RT (i : Nat) : Nat := 0x12009100000 + 0x8 * i
def R.FB_RT_VALID (i : Nat) : Fld := ⟨0x12009100000 + 0x8 * i, 63, 63⟩
def R.FB_RT_PORT (i : Nat) : Fld := ⟨0x12009100000 + 0x8 * i, 62, 59⟩
def R.FB_RT_VIA (i : Nat) : Fld := ⟨0x12009100000 + 0x8 * i, 58, 55⟩
/-- R391. -/
def R.FB_GSET (i : Nat) : Nat := 0x12009200000 + 0x8 * i
def R.FB_GSET_SETS0 (i : Nat) : Fld := ⟨0x12009200000 + 0x8 * i, 15, 0⟩
def R.FB_GSET_SETS1 (i : Nat) : Fld := ⟨0x12009200000 + 0x8 * i, 31, 16⟩
def R.FB_GSET_SETS2 (i : Nat) : Fld := ⟨0x12009200000 + 0x8 * i, 47, 32⟩
def R.FB_GSET_SETS3 (i : Nat) : Fld := ⟨0x12009200000 + 0x8 * i, 63, 48⟩
/-- R421. -/
def R.FH_RC : Nat := 0x12008000000
def R.FH_RC_ACK_TO : Fld := ⟨0x12008000000, 36, 32⟩
def R.FH_RC_MD : Fld := ⟨0x12008000000, 31, 24⟩
def R.FH_RC_AI : Fld := ⟨0x12008000000, 23, 16⟩
def R.FH_RC_RMIN : Fld := ⟨0x12008000000, 15, 0⟩
/-- R422. -/
def R.FH_PTP_CFG : Nat := 0x12008000100
def R.FH_PTP_CFG_DOMAIN : Fld := ⟨0x12008000100, 15, 8⟩
def R.FH_PTP_CFG_TRANSPORT : Fld := ⟨0x12008000100, 5, 4⟩
def R.FH_PTP_CFG_PORT : Fld := ⟨0x12008000100, 3, 1⟩
def R.FH_PTP_CFG_ENABLE : Fld := ⟨0x12008000100, 0, 0⟩
/-- R422. -/
def R.FH_PTP_STATUS : Nat := 0x12008000108
def R.FH_PTP_STATUS_ACTIVE : Fld := ⟨0x12008000108, 3, 2⟩
def R.FH_PTP_STATUS_STEPPED : Fld := ⟨0x12008000108, 1, 1⟩
def R.FH_PTP_STATUS_LOCKED : Fld := ⟨0x12008000108, 0, 0⟩
/-- R422. -/
def R.FH_PTP_OFFSET : Nat := 0x12008000110
def R.FH_PTP_OFFSET_NS : Fld := ⟨0x12008000110, 63, 0⟩
/-- R422. -/
def R.FH_PTP_GM : Nat := 0x12008000118
def R.FH_PTP_GM_IDENTITY : Fld := ⟨0x12008000118, 63, 0⟩
/-- R423. -/
def R.FH_PORT_CFG (i : Nat) : Nat := 0x12008001000 + 0x100 * i
def R.FH_PORT_CFG_VLAN_ID (i : Nat) : Fld := ⟨0x12008001000 + 0x100 * i, 63, 52⟩
def R.FH_PORT_CFG_ROCE_DSCP (i : Nat) : Fld := ⟨0x12008001000 + 0x100 * i, 51, 46⟩
def R.FH_PORT_CFG_CNP_DSCP (i : Nat) : Fld := ⟨0x12008001000 + 0x100 * i, 45, 40⟩
def R.FH_PORT_CFG_ROCE_PRIO (i : Nat) : Fld := ⟨0x12008001000 + 0x100 * i, 39, 37⟩
def R.FH_PORT_CFG_CNP_PRIO (i : Nat) : Fld := ⟨0x12008001000 + 0x100 * i, 36, 34⟩
def R.FH_PORT_CFG_ECN_EN (i : Nat) : Fld := ⟨0x12008001000 + 0x100 * i, 33, 33⟩
def R.FH_PORT_CFG_PFC_EN (i : Nat) : Fld := ⟨0x12008001000 + 0x100 * i, 32, 32⟩
def R.FH_PORT_CFG_PFC_WD (i : Nat) : Fld := ⟨0x12008001000 + 0x100 * i, 31, 16⟩
def R.FH_PORT_CFG_MODES (i : Nat) : Fld := ⟨0x12008001000 + 0x100 * i, 2, 0⟩
/-- R423. -/
def R.FH_PORT_STATUS (i : Nat) : Nat := 0x12008001008 + 0x100 * i
def R.FH_PORT_STATUS_CNP_RX (i : Nat) : Fld := ⟨0x12008001008 + 0x100 * i, 31, 8⟩
def R.FH_PORT_STATUS_PFC_STORM (i : Nat) : Fld := ⟨0x12008001008 + 0x100 * i, 7, 7⟩
def R.FH_PORT_STATUS_PAUSED (i : Nat) : Fld := ⟨0x12008001008 + 0x100 * i, 6, 6⟩
def R.FH_PORT_STATUS_MODE (i : Nat) : Fld := ⟨0x12008001008 + 0x100 * i, 5, 4⟩
def R.FH_PORT_STATUS_UP (i : Nat) : Fld := ⟨0x12008001008 + 0x100 * i, 0, 0⟩
/-- R423. -/
def R.FH_PORT_IP4 (i : Nat) : Nat := 0x12008001010 + 0x100 * i
def R.FH_PORT_IP4_GATEWAY (i : Nat) : Fld := ⟨0x12008001010 + 0x100 * i, 63, 32⟩
def R.FH_PORT_IP4_ADDR (i : Nat) : Fld := ⟨0x12008001010 + 0x100 * i, 31, 0⟩
/-- R423. -/
def R.FH_PORT_IP6A (i : Nat) : Nat := 0x12008001018 + 0x100 * i
def R.FH_PORT_IP6A_ADDR_HI (i : Nat) : Fld := ⟨0x12008001018 + 0x100 * i, 63, 0⟩
/-- R423. -/
def R.FH_PORT_IP6B (i : Nat) : Nat := 0x12008001020 + 0x100 * i
def R.FH_PORT_IP6B_ADDR_LO (i : Nat) : Fld := ⟨0x12008001020 + 0x100 * i, 63, 0⟩
/-- R423. -/
def R.FH_PORT_IP6G (i : Nat) : Nat := 0x12008001028 + 0x100 * i
def R.FH_PORT_IP6G_GW_IID (i : Nat) : Fld := ⟨0x12008001028 + 0x100 * i, 63, 0⟩
/-- R423. -/
def R.FH_PORT_PFC (i : Nat) : Nat := 0x12008001030 + 0x100 * i
def R.FH_PORT_PFC_XOFF (i : Nat) : Fld := ⟨0x12008001030 + 0x100 * i, 63, 32⟩
def R.FH_PORT_PFC_XON (i : Nat) : Fld := ⟨0x12008001030 + 0x100 * i, 31, 0⟩
/-- R423. -/
def R.FH_PORT_DROP (i : Nat) : Nat := 0x12008001038 + 0x100 * i
def R.FH_PORT_DROP_COUNT (i : Nat) : Fld := ⟨0x12008001038 + 0x100 * i, 63, 0⟩
/-- R424. -/
def R.FH_SESS_CFG (i : Nat) : Nat := 0x12008002000 + 0x100 * i
def R.FH_SESS_CFG_VALID (i : Nat) : Fld := ⟨0x12008002000 + 0x100 * i, 63, 63⟩
def R.FH_SESS_CFG_KIND (i : Nat) : Fld := ⟨0x12008002000 + 0x100 * i, 62, 62⟩
def R.FH_SESS_CFG_NOTIFY (i : Nat) : Fld := ⟨0x12008002000 + 0x100 * i, 61, 61⟩
def R.FH_SESS_CFG_PREFIX (i : Nat) : Fld := ⟨0x12008002000 + 0x100 * i, 51, 44⟩
def R.FH_SESS_CFG_QP_MAX (i : Nat) : Fld := ⟨0x12008002000 + 0x100 * i, 12, 0⟩
/-- R424. -/
def R.FH_SESS_STATUS (i : Nat) : Nat := 0x12008002008 + 0x100 * i
def R.FH_SESS_STATUS_BAD_DB (i : Nat) : Fld := ⟨0x12008002008 + 0x100 * i, 63, 48⟩
def R.FH_SESS_STATUS_QPS (i : Nat) : Fld := ⟨0x12008002008 + 0x100 * i, 12, 0⟩
/-- R424. -/
def R.FH_SESS_PEER_HI (i : Nat) : Nat := 0x12008002010 + 0x100 * i
def R.FH_SESS_PEER_HI_ADDR_HI (i : Nat) : Fld := ⟨0x12008002010 + 0x100 * i, 63, 0⟩
/-- R424. -/
def R.FH_SESS_PEER_LO (i : Nat) : Nat := 0x12008002018 + 0x100 * i
def R.FH_SESS_PEER_LO_ADDR_LO (i : Nat) : Fld := ⟨0x12008002018 + 0x100 * i, 63, 0⟩
/-- R425. -/
def R.FH_WIN0 (i : Nat) (j : Nat) : Nat := 0x12008004000 + 0x200 * i + 0x20 * j
def R.FH_WIN0_VALID (i : Nat) (j : Nat) : Fld := ⟨0x12008004000 + 0x200 * i + 0x20 * j, 63, 63⟩
def R.FH_WIN0_ACCESS (i : Nat) (j : Nat) : Fld := ⟨0x12008004000 + 0x200 * i + 0x20 * j, 62, 61⟩
def R.FH_WIN0_BASE (i : Nat) (j : Nat) : Fld := ⟨0x12008004000 + 0x200 * i + 0x20 * j, 43, 0⟩
/-- R425. -/
def R.FH_WIN1 (i : Nat) (j : Nat) : Nat := 0x12008004008 + 0x200 * i + 0x20 * j
def R.FH_WIN1_RKEY (i : Nat) (j : Nat) : Fld := ⟨0x12008004008 + 0x200 * i + 0x20 * j, 63, 32⟩
def R.FH_WIN1_PAGES (i : Nat) (j : Nat) : Fld := ⟨0x12008004008 + 0x200 * i + 0x20 * j, 31, 0⟩
/-- R459. -/
def R.BT_JOB : Nat := 0x12000000000
def R.BT_JOB_JOB : Fld := ⟨0x12000000000, 63, 32⟩
def R.BT_JOB_JQUEUE : Fld := ⟨0x12000000000, 12, 8⟩
def R.BT_JOB_OPEN : Fld := ⟨0x12000000000, 4, 4⟩
def R.BT_JOB_OWNER : Fld := ⟨0x12000000000, 2, 0⟩
/-- R459. -/
def R.BT_CMDSEQ (i : Nat) : Nat := 0x12000000100 + 0x8 * i
def R.BT_CMDSEQ_EXPECT (i : Nat) : Fld := ⟨0x12000000100 + 0x8 * i, 63, 32⟩
def R.BT_CMDSEQ_SET (i : Nat) : Fld := ⟨0x12000000100 + 0x8 * i, 31, 31⟩
def R.BT_CMDSEQ_REJECTED (i : Nat) : Fld := ⟨0x12000000100 + 0x8 * i, 15, 0⟩
/-- R524. -/
def R.BT_MODE : Nat := 0x12000000200
def R.BT_MODE_REASON : Fld := ⟨0x12000000200, 39, 32⟩
def R.BT_MODE_STAGE : Fld := ⟨0x12000000200, 19, 16⟩
def R.BT_MODE_MODE : Fld := ⟨0x12000000200, 1, 0⟩
/-- R524. -/
def R.BT_RESET : Nat := 0x12000000208
def R.BT_RESET_MID : Fld := ⟨0x12000000208, 43, 32⟩
def R.BT_RESET_KIND : Fld := ⟨0x12000000208, 2, 0⟩
/-- R524. -/
def R.BT_PB_STATUS : Nat := 0x12000000210
def R.BT_PB_STATUS_LAST : Fld := ⟨0x12000000210, 63, 32⟩
def R.BT_PB_STATUS_OLDEST : Fld := ⟨0x12000000210, 31, 0⟩
/-- R524. -/
def R.BT_PB_INFO : Nat := 0x12000000218
def R.BT_PB_INFO_DROPPED : Fld := ⟨0x12000000218, 63, 32⟩
def R.BT_PB_INFO_TAIL_COUNT : Fld := ⟨0x12000000218, 31, 16⟩
def R.BT_PB_INFO_TAIL_BOOTS : Fld := ⟨0x12000000218, 15, 8⟩
def R.BT_PB_INFO_TAIL_VALID : Fld := ⟨0x12000000218, 0, 0⟩
/-- R460. -/
def R.CB_BIND (i : Nat) : Nat := 0x12001000000 + 0x8 * i
def R.CB_BIND_VALID (i : Nat) : Fld := ⟨0x12001000000 + 0x8 * i, 63, 63⟩
def R.CB_BIND_REMOTE_OUT (i : Nat) : Fld := ⟨0x12001000000 + 0x8 * i, 62, 62⟩
def R.CB_BIND_REMOTE_IN (i : Nat) : Fld := ⟨0x12001000000 + 0x8 * i, 61, 61⟩
def R.CB_BIND_PEER_CHANNEL (i : Nat) : Fld := ⟨0x12001000000 + 0x8 * i, 55, 48⟩
def R.CB_BIND_PEER_SEAT (i : Nat) : Fld := ⟨0x12001000000 + 0x8 * i, 46, 32⟩
def R.CB_BIND_RECEIVER_MID (i : Nat) : Fld := ⟨0x12001000000 + 0x8 * i, 27, 16⟩
def R.CB_BIND_SENDER_MID (i : Nat) : Fld := ⟨0x12001000000 + 0x8 * i, 11, 0⟩
/-- R461. -/
def R.CB_POST (i : Nat) : Nat := 0x12001001000 + 0x8 * i
def R.CB_POST_NOTICE (i : Nat) : Fld := ⟨0x12001001000 + 0x8 * i, 63, 0⟩
/-- R461. -/
def R.CB_TAKE (i : Nat) : Nat := 0x12001002000 + 0x8 * i
def R.CB_TAKE_NOTICE (i : Nat) : Fld := ⟨0x12001002000 + 0x8 * i, 63, 0⟩
/-- R461. -/
def R.CB_DROP (i : Nat) : Nat := 0x12001003000 + 0x8 * i
def R.CB_DROP_DROPPED (i : Nat) : Fld := ⟨0x12001003000 + 0x8 * i, 63, 32⟩
def R.CB_DROP_REFUSED (i : Nat) : Fld := ⟨0x12001003000 + 0x8 * i, 31, 16⟩
def R.CB_DROP_COUNT (i : Nat) : Fld := ⟨0x12001003000 + 0x8 * i, 4, 0⟩
/-- R461. -/
def R.CB_LOCK (i : Nat) : Nat := 0x12001005000 + 0x8 * i
def R.CB_LOCK_HOLDER (i : Nat) : Fld := ⟨0x12001005000 + 0x8 * i, 11, 0⟩
/-- R461. -/
def R.CB_ACQ (i : Nat) : Nat := 0x12001006000 + 0x8 * i
def R.CB_ACQ_RESULT (i : Nat) : Fld := ⟨0x12001006000 + 0x8 * i, 11, 0⟩
/-- R461. -/
def R.CB_FLUSH : Nat := 0x12001007000
def R.CB_FLUSH_CHANNEL : Fld := ⟨0x12001007000, 7, 0⟩
/-- R462. -/
def R.CB_ALIAS (i : Nat) : Nat := 0x12001008000 + 0x8 * i
def R.CB_ALIAS_VALID (i : Nat) : Fld := ⟨0x12001008000 + 0x8 * i, 63, 63⟩
def R.CB_ALIAS_TO_SEAT (i : Nat) : Fld := ⟨0x12001008000 + 0x8 * i, 46, 32⟩
def R.CB_ALIAS_FROM_SEAT (i : Nat) : Fld := ⟨0x12001008000 + 0x8 * i, 14, 0⟩
/-- R500. -/
def R.RS_RISK : Nat := 0x12004000000
def R.RS_RISK_ESTIMATE : Fld := ⟨0x12004000000, 63, 56⟩
def R.RS_RISK_INTERNAL : Fld := ⟨0x12004000000, 55, 48⟩
def R.RS_RISK_FLOOR : Fld := ⟨0x12004000000, 47, 40⟩
def R.RS_RISK_JOB : Fld := ⟨0x12004000000, 39, 32⟩
def R.RS_RISK_JOB_BAND : Fld := ⟨0x12004000000, 3, 2⟩
def R.RS_RISK_BAND : Fld := ⟨0x12004000000, 1, 0⟩
/-- R501. -/
def R.RS_CFG : Nat := 0x12004000008
def R.RS_CFG_AUTO_PROMOTE : Fld := ⟨0x12004000008, 63, 63⟩
def R.RS_CFG_RETRY_MAX : Fld := ⟨0x12004000008, 55, 48⟩
def R.RS_CFG_STRAGGLE_STEPS : Fld := ⟨0x12004000008, 47, 40⟩
def R.RS_CFG_DECAY : Fld := ⟨0x12004000008, 31, 0⟩
/-- R501. -/
def R.RS_LIMIT : Nat := 0x12004000010
def R.RS_LIMIT_STEP_LIMIT : Fld := ⟨0x12004000010, 63, 32⟩
def R.RS_LIMIT_STRAGGLE_CUES : Fld := ⟨0x12004000010, 31, 0⟩
/-- R502. -/
def R.RS_BAND (i : Nat) : Nat := 0x12004000020 + 0x8 * i
def R.RS_BAND_INTERVAL (i : Nat) : Fld := ⟨0x12004000020 + 0x8 * i, 31, 16⟩
def R.RS_BAND_FLASH_EVERY (i : Nat) : Fld := ⟨0x12004000020 + 0x8 * i, 15, 8⟩
def R.RS_BAND_STORE_EVERY (i : Nat) : Fld := ⟨0x12004000020 + 0x8 * i, 7, 0⟩
/-- R503. -/
def R.RS_CKPT : Nat := 0x12004000040
def R.RS_CKPT_STEP : Fld := ⟨0x12004000040, 63, 32⟩
def R.RS_CKPT_NUMBER : Fld := ⟨0x12004000040, 31, 0⟩
/-- R503. -/
def R.RS_CKPT_STATE : Nat := 0x12004000048
def R.RS_CKPT_STATE_OPEN_STEP : Fld := ⟨0x12004000048, 63, 32⟩
def R.RS_CKPT_STATE_MIRROR_OK : Fld := ⟨0x12004000048, 7, 7⟩
def R.RS_CKPT_STATE_STRIPES_OK : Fld := ⟨0x12004000048, 6, 6⟩
def R.RS_CKPT_STATE_FLASH_WRITING : Fld := ⟨0x12004000048, 5, 5⟩
def R.RS_CKPT_STATE_PHASE : Fld := ⟨0x12004000048, 2, 0⟩
/-- R503. -/
def R.RS_FLASH (i : Nat) : Nat := 0x12004000050 + 0x8 * i
def R.RS_FLASH_VALID (i : Nat) : Fld := ⟨0x12004000050 + 0x8 * i, 63, 63⟩
def R.RS_FLASH_STEP (i : Nat) : Fld := ⟨0x12004000050 + 0x8 * i, 31, 0⟩
/-- R503. -/
def R.RS_STORE : Nat := 0x12004000060
def R.RS_STORE_STEP : Fld := ⟨0x12004000060, 63, 32⟩
def R.RS_STORE_COUNT : Fld := ⟨0x12004000060, 31, 0⟩
/-- R503. -/
def R.RS_RECOVERY : Nat := 0x12004000068
def R.RS_RECOVERY_LOST_SEAT : Fld := ⟨0x12004000068, 62, 48⟩
def R.RS_RECOVERY_UNDERSTUDY : Fld := ⟨0x12004000068, 46, 32⟩
def R.RS_RECOVERY_TARGET : Fld := ⟨0x12004000068, 31, 0⟩
/-- R545. -/
def R.PW_STATUS : Nat := 0x12005000000
def R.PW_STATUS_VIN : Fld := ⟨0x12005000000, 63, 48⟩
def R.PW_STATUS_POWER : Fld := ⟨0x12005000000, 47, 32⟩
def R.PW_STATUS_VBANK : Fld := ⟨0x12005000000, 31, 16⟩
def R.PW_STATUS_BANK_OK : Fld := ⟨0x12005000000, 0, 0⟩
/-- R545. -/
def R.PW_CAP : Nat := 0x12005000008
def R.PW_CAP_WATTS : Fld := ⟨0x12005000008, 15, 0⟩
/-- R545. -/
def R.PW_GOV : Nat := 0x12005000010
def R.PW_GOV_FILL_HOLD : Fld := ⟨0x12005000010, 63, 32⟩
def R.PW_GOV_WINDOW : Fld := ⟨0x12005000010, 31, 16⟩
def R.PW_GOV_SLEW : Fld := ⟨0x12005000010, 15, 0⟩
/-- R545. -/
def R.PW_HOLD : Nat := 0x12005000018
def R.PW_HOLD_DUTY : Fld := ⟨0x12005000018, 12, 8⟩
def R.PW_HOLD_TRIP : Fld := ⟨0x12005000018, 3, 3⟩
def R.PW_HOLD_COOLANT : Fld := ⟨0x12005000018, 2, 2⟩
def R.PW_HOLD_THERM : Fld := ⟨0x12005000018, 1, 1⟩
def R.PW_HOLD_CAP : Fld := ⟨0x12005000018, 0, 0⟩
/-- R545. -/
def R.PW_COOLANT : Nat := 0x12005000020
def R.PW_COOLANT_OUTLET : Fld := ⟨0x12005000020, 15, 8⟩
def R.PW_COOLANT_INLET : Fld := ⟨0x12005000020, 7, 0⟩
/-- R545. -/
def R.PW_THERM (i : Nat) : Nat := 0x12005000100 + 0x8 * i
def R.PW_THERM_TEMP (i : Nat) : Fld := ⟨0x12005000100 + 0x8 * i, 23, 16⟩
def R.PW_THERM_STEP (i : Nat) : Fld := ⟨0x12005000100 + 0x8 * i, 2, 0⟩
/-- R568. -/
def R.SC_STATUS : Nat := 0x12006000000
def R.SC_STATUS_FW_VERSION : Fld := ⟨0x12006000000, 63, 32⟩
def R.SC_STATUS_FAILS : Fld := ⟨0x12006000000, 31, 28⟩
def R.SC_STATUS_OWNER_SLOT : Fld := ⟨0x12006000000, 27, 24⟩
def R.SC_STATUS_ROOT_SLOT : Fld := ⟨0x12006000000, 23, 20⟩
def R.SC_STATUS_REVOKED : Fld := ⟨0x12006000000, 19, 16⟩
def R.SC_STATUS_LIFECYCLE : Fld := ⟨0x12006000000, 15, 12⟩
def R.SC_STATUS_SCOPE : Fld := ⟨0x12006000000, 11, 10⟩
def R.SC_STATUS_PENDING : Fld := ⟨0x12006000000, 9, 9⟩
def R.SC_STATUS_SLOT : Fld := ⟨0x12006000000, 8, 8⟩
/-- R568. -/
def R.SC_SERIAL : Nat := 0x12006000008
def R.SC_SERIAL_SERIAL : Fld := ⟨0x12006000008, 63, 0⟩
/-- R568. -/
def R.SC_SVN : Nat := 0x12006000010
def R.SC_SVN_MANIFEST : Fld := ⟨0x12006000010, 39, 32⟩
def R.SC_SVN_FUSED : Fld := ⟨0x12006000010, 7, 0⟩
/-- R568. -/
def R.SC_MEAS (i : Nat) (j : Nat) : Nat := 0x12006000100 + 0x40 * i + 0x8 * j
def R.SC_MEAS_WORD (i : Nat) (j : Nat) : Fld := ⟨0x12006000100 + 0x40 * i + 0x8 * j, 63, 0⟩
/-- R569. -/
def R.MG_CTL : Nat := 0x12007000000
def R.MG_CTL_RESET_EN : Fld := ⟨0x12007000000, 9, 9⟩
def R.MG_CTL_I2C_ONLY : Fld := ⟨0x12007000000, 8, 8⟩
def R.MG_CTL_STATIC_ADDR : Fld := ⟨0x12007000000, 6, 0⟩
/-- R569. -/
def R.MG_STATUS : Nat := 0x12007000008
def R.MG_STATUS_EID : Fld := ⟨0x12007000008, 23, 16⟩
def R.MG_STATUS_BUS : Fld := ⟨0x12007000008, 8, 8⟩
def R.MG_STATUS_DYN_ADDR : Fld := ⟨0x12007000008, 6, 0⟩
/-- R569. -/
def R.MG_VENDOR : Nat := 0x12007000010
def R.MG_VENDOR_ENTERPRISE : Fld := ⟨0x12007000010, 31, 0⟩

end Sys2Proof.Machine
end

