-- ==== Sys2Proof/Machine/OutTypes.lean ====
section
/-!
DEFINITION. Machine/OutTypes.lean: what the part sends out of itself, in the order it is sent.
-/
namespace Sys2Proof.Machine

/-- Packets of a QP, those of the connection manager on QP1 among them (R399-R403, R414, R416). PSNs are 24 bits. -/
inductive RoceMsg where
  | ack (psn syndrome : Nat)
  | readResp (psn : Nat) (data : List Byte)
  | write (psn va rkey : Nat) (data : List Byte) (imm : Option Nat)
  | readReq (psn va rkey len : Nat)
  | send (psn : Nat) (data : List Byte)
  | cnp
  | cmRep (qpn peerQpn rkey ring : Nat)
  | cmRej (peerQpn reason : Nat)
  | cmReq (qpn ip : Nat)
  deriving DecidableEq, Repr

/-- What every RoCEv2 frame the part sends carries (R396, R414): VID, PCP, DSCP, and ECT(0). -/
structure RoceTag where
  vid : Nat
  pcp : Nat
  dscp : Nat
  ect : Bool
  deriving DecidableEq, Repr

/-- Other frames of a front-of-house port (R395, R397, R417). -/
inductive FrameMsg where
  | arpReply (ip mac : Nat)
  | arpRequest (ip mac : Nat)
  | neighborAdvert (ip mac : Nat)
  | neighborSolicit (ip mac : Nat)
  | echoReply (v6 : Bool) (data : List Byte)
  | pfc (prio quanta : Nat)
  | delayReq (transport seq : Nat)
  deriving DecidableEq, Repr

/-- C3 MGMT messages between the booths of a job whose payload the manual does not lay out (R60, R318, R466, R467, R474, R476,
R488, R489, R496). -/
inductive MgmtMsg where
  | risk (estimate : Nat)
  | planId (id : Nat)
  | sceneChange (cue scene : Nat) (restore : Bool)
  | quiet
  | ckptOrder (k n layers : Nat)
  | parityReady (stripe : Nat)
  | ckptDone (k : Nat) (failed : Bool)
  | ckptCommit (k n : Nat)
  | ckptAbandon (k : Nat)
  | recovery (k n : Nat)
  | recover (target : Nat) (lost understudies : List Nat)
  | unrecoverable (seat : Nat)
  | restored (bytes : Nat)
  | refused
  | resume (cue step : Nat)
  | straggler (seat : Nat)
  deriving DecidableEq, Repr

/-- A message out of the part. -/
inductive OutMsg where
  /-- the answer of an access to the master that made it: code 0 or the code of a bus error, and the data of a read -/
  | bus (mid addr code : Nat) (data : List Byte)
  /-- an event to booth firmware (R48, R276, R380) -/
  | booth (code detail : Nat)
  /-- the 256 bytes of a flit on a fabric port (R356) -/
  | flit (port : Nat) (bytes : List Byte)
  /-- a packet of a QP on a front-of-house port -/
  | roce (port qpn : Nat) (tag : RoceTag) (m : RoceMsg)
  /-- another frame of a front-of-house port -/
  | frame (port : Nat) (m : FrameMsg)
  /-- a response of the management block: whether an in-band interrupt signals it (R562), completion and body -/
  | mgmt (inBand : Bool) (completion : Nat) (body : List Byte)
  /-- a PlatformEventMessage of the management block: whether an in-band interrupt signals it (R562), receiver, sensor, reading
  (R565) -/
  | platformEvent (inBand : Bool) (receiver sensor reading : Nat)
  deriving DecidableEq, Repr

end Sys2Proof.Machine
end

