-- ==== Sys2Proof/Machine/HostTypes.lean ====
section
/-!
DEFINITION. Machine/HostTypes.lean: what the booth and the front-of-house ports hold beside their registers (R401-R443):
commands taken and not done, statuses that wait for the ring, QPs, risk floors, and the ports' buffers and PTP servo.
-/
namespace Sys2Proof.Machine

/-- A status entry (Table 14.2) but for its CUE, which is the count when it is written. -/
structure StEntry where
  opcode : Nat
  kind : Nat
  code : Nat
  seq : Nat
  cookie : Nat
  done : Nat
  total : Nat
  detail : List Byte
  deriving DecidableEq, Repr

/-- A status that waits for a free entry: its session, the command it belongs to, the entry (R412). -/
structure StWait where
  session : Nat
  cmd : Nat
  entry : StEntry
  deriving DecidableEq, Repr

/-- A command taken and not done: its header and parameters, whether it has started (R437), its units, the cue of its last
progress report, whether it is suspended (R438), a word of its own, and the event word of a dress-check report that waits for the next (R433). -/
structure CmdRec where
  id : Nat
  session : Nat
  opcode : Nat
  quiet : Bool
  seq : Nat
  cookie : Nat
  reqCue : Nat
  taken : Nat
  params : List Byte
  started : Bool
  suspended : Bool
  done : Nat
  total : Nat
  told : Option Nat
  word : Nat
  owed : Option Nat
  deriving DecidableEq, Repr

/-- What a QP has sent and not had acknowledged (R402, R416): PSN, kind (0 WRITE, 1 WRITE with immediate, 2 READ, 3 SEND),
device address of the data, length, remote address, immediate. -/
structure QpSent where
  psn : Nat
  kind : Nat
  addr : Nat
  len : Nat
  va : Nat
  rkey : Nat
  imm : Nat
  data : List Byte
  deriving DecidableEq, Repr

/-- An RC QP (R401-R403, R414-R416). Times are nanoseconds of the time base; the rate is in 256ths of a Gb/s. -/
structure Qp where
  qpn : Nat
  peerQpn : Nat
  port : Nat
  session : Nat
  dbImm : Bool
  requester : Bool
  connected : Bool
  error : Bool
  mtu : Nat
  epsn : Nat
  npsn : Nat
  sent : List QpSent
  retries : Nat
  /-- a WRITE whose packets are arriving: next address, R_Key -/
  writing : Option (Nat × Nat)
  rate : Nat
  cuts : Nat
  lastCut : Option Nat
  /-- when a CNP was last sent to the peer -/
  lastCnp : Option Nat
  /-- when the rate rose last, a CNP came last, or the QP began -/
  timer : Nat
  /-- before when none of its packets leaves (R415) -/
  nextAt : Nat
  /-- since when what it has sent waits for an acknowledgement (R402) -/
  ackAt : Nat
  /-- READs of the host not answered whole: the PSN of each one's last response packet (R400) -/
  reading : List Nat
  /-- its last SEND found no receive buffer at the host (R413) -/
  rnr : Bool
  /-- the host's local ACK timeout and retry count, from its REQ (R402) -/
  hostTimer : Nat × Nat
  deriving DecidableEq, Repr

/-- The remote keys of a STORE session (Table 14.4, STORE_OPEN). -/
structure StoreKey where
  va : Nat
  len : Nat
  rkey : Nat
  deriving DecidableEq, Repr

structure StoreSess where
  session : Nat
  port : Nat
  qps : Nat
  ip : Nat
  keys : List StoreKey
  deriving DecidableEq, Repr

/-- A message of a QP that waits to leave its port, and how many packets of it are still to be granted (R403). -/
structure TxMsg where
  qpn : Nat
  left : Nat
  tag : RoceTag
  msg : RoceMsg
  deriving DecidableEq, Repr

/-- A front-of-house port beside its registers: the lanes that are powered (R394), the MAC addresses its gateways were resolved to (R395), the
octets in its ROCE_PRIO buffer and in the buffer of the other priorities, whether PFC was sent and stands, and when it was sent last, until
when it is paused per priority, since when ROCE_PRIO is paused, until when PFC is ignored (R397, R398), times being ns of the time base; what
waits to leave it, and the QPN after that of its transmit arbiter's last grant (R403). -/
structure FhPort where
  lanes : List Nat
  gw4 : Option Nat
  gw6 : Option Nat
  roceOcc : Nat
  restOcc : Nat
  xoffSent : Bool
  pfcAt : Nat
  paused : List Nat
  pausedAt : Nat
  ignoreUntil : Option Nat
  txq : List TxMsg
  txPtr : Nat
  deriving DecidableEq, Repr

/-- A port without a link: every lane is powered, for negotiation (DESIGN CHOICE). -/
def FhPort.init : FhPort := ⟨[0, 1, 2, 3], none, none, 0, 0, false, 0, List.replicate 8 0, 0, none, [], 0⟩

/-- The PTP slave (R417-R419): Announce heard per port (grandmaster's identity, priority vector, its sender's port identity), a two-step Sync that waits for its
Follow_Up (sequence, receipt), when the last Sync came, a Delay_Req in progress (sequence, t3), t1 and t2 of the last Sync,
the mean path delay, good Syncs in a row, the next Delay_Req's sequence. -/
structure PtpState where
  heard : SMap (Nat × Nat × Nat)
  sync : Option (Nat × Int)
  lastSync : Option Int
  delay : Option (Nat × Int)
  t12 : Option (Int × Int)
  path : Int
  good : Nat
  delaySeq : Nat
  deriving DecidableEq, Repr

def PtpState.init : PtpState := ⟨[], none, none, none, none, 0, 0, 0⟩

/-- What the booth and the front of house hold beside their registers. -/
structure HostState where
  cmds : List CmdRec
  nextId : Nat
  rr : Nat
  waits : List StWait
  /-- sessions notified no more until STS_CI is written (R413) -/
  mute : List Nat
  qps : SMap (Option Qp)
  stores : List StoreSess
  floors : SMap (Nat × Nat)
  report : List Byte
  ports : SMap FhPort
  ptp : PtpState
  /-- a warm reset accepted and not performed: BT_RESET.KIND and MID (R512) -/
  warm : Option (Nat × Nat)
  /-- the cycle in which the request was answered (R511, R564) -/
  warmAt : Nat
  /-- a WARM_RESET command was accepted: the booth takes no further command (R512) -/
  warmCmd : Bool
  deriving DecidableEq, Repr

def HostState.init : HostState := ⟨[], 1, 0, [], [], [], [], [], [], [], PtpState.init, none, 0, false⟩

end Sys2Proof.Machine
end

