-- ==== Sys2Proof/Machine/JobTypes.lean ====
section
/-!
DEFINITION. Machine/JobTypes.lean: what a seat's booth holds of its job beside the registers: cue following (R39-R42), the
curtain (R50-R58), scenes (R60-R67), checkpoints and recovery (R463-R498).
-/
namespace Sys2Proof.Machine

/-- The cue timer: the cues at which flits of the followed and of the named master last came, the master last followed, and the cue of
entry into holdover (R40-R42); the stage cycle at which the period in progress began, its length in stage cycles (R37, R70), and by
how many cycles the edges have still to move to lie with the master's (R40). -/
structure CueState where
  lastFlit : Nat
  lastNamed : Nat
  followed : Option Nat
  heldAt : Nat
  start : Nat
  len : Nat
  slew : Int
  deriving DecidableEq, Repr

/-- PERIOD resets to 100: 1500 stage cycles. -/
def CueState.init : CueState := ⟨0, 0, none, 0, 0, 1500, 0⟩

/-- A job begins or ends at count `n`: no master has been followed; the period in progress goes on. -/
def CueState.fresh (x : CueState) (n : Nat) : CueState := { x with lastFlit := n, lastNamed := n, followed := none, heldAt := 0, slew := 0 }

/-- The curtain at a seat and, below, at the cue master: whether steps run, curtains JOB_START still asks for (none:
unbounded), JOB_STOP asked, the first issue of the step and the cue RESUME gave, whether step-complete was sent, K, the class
being drained (4: all drained), the verdict accepted and whether it was applied, deadlines passed in a row; step-completes
(seat, stamp, flag), drained reports, whether the verdict is set, the straggler count (R498), whether the
first issue is to be a scene start (R212), the marks of tiles written after K + 40, as they stood then (R211), and RS_CFG and RS_LIMIT
as the running step has them, where one was written since its first issue (R501). -/
structure CurtainState where
  running : Bool
  left : Option Nat
  stopAsked : Bool
  firstIssue : Option Nat
  resumeAt : Option Nat
  sent : Bool
  announced : Option Nat
  drain : Option Nat
  verdict : Option Bool
  applied : Bool
  late : Nat
  completes : List (Nat × Nat × Bool)
  reports : List (Nat × Bool)
  set : Bool
  straggle : Option (Nat × Nat)
  starting : Bool
  lateMarks : List (Nat × Bool)
  kept : Option (Word × Word)
  deriving DecidableEq, Repr

def CurtainState.init : CurtainState :=
  ⟨false, none, false, none, none, false, none, none, none, false, 0, [], [], false, none, false, [], none⟩

/-- The passes of a layer (R328). -/
inductive Pass where
  | forward | inputGrad | weightGrad
  deriving DecidableEq, Repr

/-- When a pass of a micro-batch runs (R331, R332): when its input has come; as soon as its output gradient arrives; after F has finished the
forward pass of the last micro-batch, micro-batches in the order their output gradients arrived; directly after the input-gradient pass. -/
inductive PassStart where
  | input | gradient | forwardsDone | inputGradDone
  deriving DecidableEq, Repr

/-- A pass as a plan has it (R331): when it runs, and the layer its result goes to at once, none where the layers end (with a layer of another
stage, to the same party of that stage, R326). -/
structure PassPlan where
  pass : Pass
  start : PassStart
  sendTo : Option Nat
  deriving DecidableEq, Repr

/-- A tile group of a seat (R328, R329): its layer, the passes it runs, its first quad in the walk and its quads. -/
structure GroupPlan where
  layer : Nat
  passes : List PassPlan
  start : Nat
  quads : Nat
  deriving DecidableEq, Repr

/-- A layer of a rollout (R348): its die, and the addresses of its weights and of its streams' state in that die's rollout region. -/
structure RolloutHome where
  layer : Nat
  die : Nat
  weights : Nat
  state : Nat
  deriving DecidableEq, Repr

/-- A staged scene: its images as verified, its seed, the pieces of initial tile data (address, length), per die the lowest byte of
its area in the wings, where bank images and data are held (R60, R347), and the layers' homes and tile groups (R348). -/
structure StagedScene where
  id : Nat
  images : List (List Byte)
  seed : Nat
  data : List (Nat × Nat)
  low : List Nat
  homes : List RolloutHome
  groups : List GroupPlan
  deriving DecidableEq, Repr

/-- The saved scene beside its records in the wings: what its tiles hold in flight, notices of its channels, its alarms, per stack the
booth queue that was held and where the engines' generators stood, and the poisoned units of its tiles' stores (R62, R63, R66, R454). -/
structure SavedScene where
  id : Nat
  images : List (List Byte)
  seed : Nat
  cue : Nat
  tiles : SMap TileX
  notices : List (Nat × List Word)
  alarms : List (Nat × Word × Word)
  queues : List (Nat × List (List Nat))
  gens : List (Nat × SMap Nat)
  psn : List Nat
  deriving DecidableEq, Repr

/-- A change in progress: its cue, the scene it starts (none: a restore), whether it has begun, saved, and loaded, and the
command that asked. -/
structure SceneChange where
  c : Nat
  scene : Option Nat
  begun : Bool
  saved : Bool
  loaded : Bool
  waves : List Nat
  deriving DecidableEq, Repr

/-- Scenes of the part. -/
structure SceneState where
  id : Nat
  images : List (List Byte)
  seed : Nat
  staged : List StagedScene
  saved : Option SavedScene
  change : Option SceneChange
  rollout : Bool
  deriving DecidableEq, Repr

def SceneState.init : SceneState := ⟨0, [], 0, [], none, none, false⟩

/-- A shard of an image: stack and entry, tensor, which components are present, its format words, its data. -/
structure FlashShard where
  stack : Nat
  entry : Nat
  tensor : Nat
  has : Nat
  fmts : List Nat
  data : List (Byte × Bool)
  deriving DecidableEq, Repr

/-- A checkpoint image in flash: the header's fields, what else the job record holds (scene, seed, party indices, CB_BIND), the shards, the
scene images, and whether its digest holds (R463, R479, R480). -/
structure FlashImage where
  job : Nat
  step : Nat
  number : Nat
  seat : Nat
  planId : Nat
  scene : Nat
  seed : Nat
  party : List Nat
  bind : List Word
  shards : List FlashShard
  images : List (List Byte)
  good : Bool
  deriving DecidableEq, Repr

/-- A store object that is read back (R416, R495): the command, its STORE session, STEP, the key region being read with its address,
length and key, how far its parts are known (0 header, 1 records, 2 data), what is still to be asked for (offset in the object,
length, device address or, with 0, place in the engine's own buffer), and that buffer. -/
structure StoreFetch where
  cmd : Nat
  session : Nat
  step : Nat
  region : Nat
  va : Nat
  len : Nat
  rkey : Nat
  phase : Nat
  todo : List (Nat × Nat × Nat × Nat)
  buf : List Byte
  deriving DecidableEq, Repr

/-- A checkpoint that the cue master has decided on and orders when its count reaches `due`: k, n, its layers, and what was asked for (R467). -/
structure CkptOrder where
  k : Nat
  n : Nat
  layers : Nat
  asked : Nat
  due : Nat
  deriving DecidableEq, Repr

/-- The resilience engine and the booth's recovery. `side` is the committed mirror slot and stripe buffer; `fresh` the company
positions whose stripe holder joined since it was committed; `opened` the open checkpoint (k, n, layers); `ready` stripes whose
ready message has not come, `readyEarly` those whose message came before the order; `reported` whether this seat, its classes drained, has reported for the recovery that runs, `budgets` the peers' budgets that its refill takes (R488); `deltas` shards whose X of this step waits for the verdict; `heldX` shards whose X is held, `order` the checkpoint the cue master has yet to order, `rebuild` the bytes this seat sends to understudies or takes as images, `rebuilt`
those that the reports of restored seats name, `bound` whether a promotion has written CB_BIND; `owed`
those whose next PARITY_DELTA waits for X, `ownSlots` the bases of the two mirror slots and their bytes, `slotMap` the pieces of the
neighbour's COPY shards in a slot (offset, address at the neighbour, length), `measured` the shards a PARITY_DELTA has measured (R340), `decayAt` when the score last fell, `unset` entries of the shard tables that become valid when their copies are complete, `probe` the COPY shards to measure (R341);
`wait` and `failed` the requests outstanding per job of the engine (1 checkpoint, 2 rebuild, 3 permute); `storeObjects` the objects closed (STEP,
key region), `written` the bytes this seat wrote for the newest checkpoint or restored last (R497), `fetch` the object being read back. -/
structure ResState where
  areas : List ShardArea
  stripes : List StripeArea
  recordAt : Nat × Nat
  ownSlots : Nat × Nat × Nat
  slotMap : List (Nat × Nat × Nat)
  side : Option Nat
  fresh : List Nat
  opened : Option (Nat × Nat × Nat)
  ready : List Nat
  readyEarly : List Nat
  doneSent : Bool
  deltas : List (Nat × Nat)
  heldX : List (Nat × Nat)
  owed : List (Nat × Nat)
  probe : List (Nat × Nat)
  measured : List (Nat × Nat)
  wait : List (Nat × Nat)
  failed : List Nat
  lastK : Nat
  asked : Nat
  order : Option CkptOrder
  rebuilt : Nat
  bound : Bool
  done : List (Nat × Bool)
  rebuild : Nat
  flash : Option FlashImage × Option FlashImage
  flashWriting : Option FlashImage
  flashDue : Bool
  storeDue : Bool
  storing : Bool
  storeCount : Nat
  storeObjects : List (Nat × Nat)
  recovering : Bool
  reported : Bool
  budgets : List (List Nat)
  lost : List Nat
  reports : List (Nat × Nat × Nat)
  target : Option Nat
  pairs : List (Nat × Nat)
  chosen : List (Nat × Nat)
  restored : List Nat
  restoring : Bool
  lostSince : List Nat
  live : Option (Nat × Nat)
  noMaster : Bool
  left : Bool
  deferred : List Nat
  watchedAt : Nat
  decayAt : Nat
  unset : List (Nat × Nat)
  written : Nat
  fetch : Option StoreFetch
  deriving DecidableEq, Repr

def ResState.init : ResState where
  areas := []
  stripes := []
  recordAt := (0, 0)
  ownSlots := (0, 0, 0)
  slotMap := []
  side := none
  fresh := []
  opened := none
  ready := []
  readyEarly := []
  doneSent := false
  deltas := []
  heldX := []
  owed := []
  probe := []
  measured := []
  wait := []
  failed := []
  lastK := 0
  asked := 0
  order := none
  rebuilt := 0
  bound := false
  done := []
  rebuild := 0
  flash := (none, none)
  flashWriting := none
  flashDue := false
  storeDue := false
  storing := false
  storeCount := 0
  storeObjects := []
  recovering := false
  reported := false
  budgets := []
  lost := []
  reports := []
  target := none
  pairs := []
  chosen := []
  restored := []
  restoring := false
  lostSince := []
  live := none
  noMaster := false
  left := false
  deferred := []
  watchedAt := 0
  decayAt := 0
  unset := []
  written := 0
  fetch := none

/-- A shard of a seat as the plan lays it: addresses of the components' two copies, the gradient buffer, the trigger descriptor, and the
areas of R471. The flash staging area F stands in pieces, each beside its shard (DESIGN CHOICE: one area for a seat exceeds a stack). -/
structure PShard where
  tensor : TensorDesc
  stack : Nat
  entry : Nat
  first : Nat
  items : Nat
  lo : Nat
  hi : Nat
  copies : List (Nat × Nat)
  grad : Nat
  trig : Nat
  keep : Nat
  acc : Nat
  delta : Nat
  bitmap : Nat
  stage : Nat
  expect : Nat
  method : Nat
  deriving DecidableEq, Repr

/-- What lies in the general area of a die's wings (R330). -/
inductive WingsUse where
  | dressCheck | activations (layer : Nat) | deferred (layer : Nat) | gathered (tensor : Nat)
  deriving DecidableEq, Repr

/-- A home in the wings: die, device address, bytes. -/
structure WingsHome where
  what : WingsUse
  die : Nat
  addr : Nat
  bytes : Nat
  deriving DecidableEq, Repr

/-- What is divided over the parties of a seat's tensor cut, layer by layer, and over its data cut (R320). -/
inductive ItemKind where
  | heads | experts | fields | samples
  deriving DecidableEq, Repr

/-- Items of a seat: kind, layer (0 for the samples), party index, first item, items. -/
structure ItemShare where
  kind : ItemKind
  layer : Nat
  party : Nat
  first : Nat
  count : Nat
  deriving DecidableEq, Repr

/-- What a plan says of one seat: company position, layer stage, its layers, its items, its tile groups, its shards, the first bytes its
plan takes in each stack's pinned range and those after the last, homes and bytes in each die's wings, the layers whose weight-gradient
pass is deferred, the tensors that are KEEP, its partner reserve. -/
structure SeatPlan where
  seat : Nat
  pos : Nat
  stage : Nat
  layers : List Nat
  items : List ItemShare
  groups : List GroupPlan
  shards : List PShard
  starts : List Nat
  ends : List Nat
  homes : List WingsHome
  wings : List Nat
  deferred : List Nat
  keeps : List Nat
  reserve : Nat
  result : Nat
  deriving DecidableEq, Repr

/-- A plan: the layer stage of each layer, its seats, or the RESULT and the seat that failed it (R317, R350). -/
structure Plan where
  stages : List Nat
  seats : List SeatPlan
  result : Nat
  fail : Nat
  deriving DecidableEq, Repr

/-- What the blocking engine reads from the part (Table 11.1): the latency table, bytes of each die's general area that no staged rollout
region takes (R330, R347), of the dress-check area,
retired pages (each has a spare, R249, so they cost no capacity), which ports are up, FAST, the rate of change measured for a tensor, and
the understudies promoted since the plan before (seat, place). -/
structure PartInputs where
  lat : List Word
  general : List Nat
  dress : Nat
  retired : List (Nat × Nat × Nat)
  up : List Bool
  fast : Nat
  rates : List (Nat × Nat)
  stood : List (Nat × Nat)
  deriving DecidableEq, Repr

/-- A plan made and not applied (R318, R319): its job description, the plan, PLAN_ID and report, whether it is a
re-shard, whether its permute runs, and the bytes in all that the permute brings this seat. -/
structure PendingPlan where
  desc : JobDesc
  plan : Plan
  id : Nat
  report : List Byte
  reshard : Bool
  permuting : Bool
  bytes : Nat
  deriving DecidableEq, Repr

/-- The job: its seats (understudies that stand by apart) and those understudies, the party index of this seat in each cut as the
job record keeps it, company positions of seats that do not stand at their own (R316), the groups a route to each group crosses (R327,
R372), the plan that is applied and its description, the plan that waits, the first placement that the next scene load applies (R319),
the ranges that permuted items still come to, bytes used in each die's wings, and PLAN_IDs heard of seats. -/
structure JobState where
  seats : List Nat
  understudies : List Nat
  party : List Nat
  stand : List (Nat × Nat)
  paths : List (Nat × List Nat)
  desc : Option JobDesc
  applied : Option Plan
  plan : Option PendingPlan
  ready : Option PendingPlan
  incoming : List (Nat × Nat)
  wings : List Nat
  planIds : List (Nat × Nat)
  deriving DecidableEq, Repr

def JobState.init : JobState := ⟨[], [], [], [], [], none, none, none, none, [], [], []⟩

end Sys2Proof.Machine
end

