-- ==== Sys2Proof/Machine/MemTypes.lean ====
section
/-!
DEFINITION. Machine/MemTypes.lean: lines of the memory-side cache (R229), entries of a watch table (R248), live counters
and records of the dress check (R298, R301-R306).
-/
namespace Sys2Proof.Machine

/-- One line of the memory-side cache, keyed by its granule number. -/
structure CLine where
  valid : Bool
  dirty : Bool
  keep : Bool
  stamp : Nat
  data : List Byte
  psn : List Nat
  deriving DecidableEq, Repr

def CLine.none : CLine := ⟨false, false, false, 0, [], []⟩

/-- An entry of a stack's watch table: local page, corrected errors, age. -/
structure WatchEnt where
  page : Nat
  count : Nat
  age : Nat
  deriving DecidableEq, Repr

/-- Live dress-check counters of a die; Table 10.4 holds the values of the last interval (R298, R314). -/
structure DcLive where
  done : Nat
  disagree : Nat
  abandoned : Nat
  dropped : Nat
  skipped : Nat
  nonfinite : Nat
  selected : Nat
  ehist : List Nat
  shist : List Nat
  slots : List Nat
  deriving DecidableEq, Repr

def DcLive.init : DcLive := ⟨0, 0, 0, 0, 0, 0, 0, List.replicate 32 0, List.replicate 32 0, []⟩

/-- Bytes one of a tile's engines committed in this stage cycle: where, how many, whose, and its place in issue order (R116,
R146, R172). -/
structure Won where
  addr : Nat
  len : Nat
  tile : Nat
  ord : Nat
  deriving DecidableEq, Repr

/-- What hardware did to a W1C, RC or counting field in this stage cycle: the field's value before, and the bits it set or the
amount it added (R11, R100). -/
structure RegEvt where
  addr : Nat
  hi : Nat
  lo : Nat
  before : Nat
  added : Nat
  deriving DecidableEq, Repr

/-- A write of a register that had been read in its cycle: it is accepted in the next one (R584). -/
structure LateWrite where
  mid : Nat
  addr : Nat
  data : List Byte
  deriving DecidableEq, Repr

/-- A load of a booth core from CB_ACQn: the core, how its register takes the value, and which. -/
structure CoreLoad where
  core : Nat
  kind : LdKind
  rd : Nat
  deriving DecidableEq, Repr

/-- An acquire of a lock that waits for the end of its cycle, where all of that cycle are arbitrated together (R458, R584). -/
structure LateAcq where
  lock : Nat
  mid : Nat
  addr : Nat
  len : Nat
  core : Option CoreLoad
  deriving DecidableEq, Repr

/-- The posts of one cycle to a channel (R451): where the pointer stood before them, what the cycle's flush and takes leave of the
notices queued before them, the posts let through, how many of them found no room, and, for an outgoing channel, their places in the
queue of notice packets. -/
structure ChanTurn where
  ch : Nat
  ptr : Nat
  base : List Word
  posts : List (Poster × Word)
  lost : Nat
  slots : List Nat
  deriving DecidableEq, Repr

/-- A tile halted in this stage cycle: the place of its reason in the order of R216, its sequencer state and what it held before,
and whether its record was still empty. -/
structure HaltNote where
  tile : Nat
  cls : Nat
  st : Nat
  x : TileX
  empty : Bool
  deriving DecidableEq, Repr

/-- An issue of this stage cycle: its tile and place, and what the tile held before it (R157, R215). -/
structure IssueNote where
  tile : Nat
  pt : IssuePt
  x : TileX
  seq : Word
  dc : DcLive
  deriving DecidableEq, Repr

/-- Why the banks of a tile swap when this cycle ends: a mark (R210), or a SWAP_BANK: the bundle it was issued with, none where it was
issued alone, and whether the issue has been performed, the test having held then (R157). -/
inductive SwapHow where
  | mark
  | slot (bundle : Option Nat) (performed : Bool)
  deriving DecidableEq, Repr

/-- A swap whose test of the standby commit word includes every loader write of this cycle (R157, R210). -/
structure SwapNote where
  tile : Nat
  how : SwapHow
  deriving DecidableEq, Repr

/-- A write of TA_BANKCTL that halts a tile which has made its issue of the cycle: it is accepted in the next one (R215). -/
structure LateHalt where
  tile : Nat
  off : Nat
  len : Nat
  v : Nat
  deriving DecidableEq, Repr

/-- What lasts for one stage cycle: hardware events on fields (R11); the values that registers written in this cycle keep for
its operations (R131, R196); the units whose generators start again in the next (R101); the registers read, and the writes put
off to the next cycle (R584); the tiles halted, and the registers of tiles that took a trap as they stood before (R216); the posts
of each channel (R451); the acquires put off to the next cycle (R458); the cue alarms armed in it (R48); its issues, the swaps it tests, the halts put off to the next
cycle (R157, R210, R215); the conversions counted in it, and whether its cue began in it (R298). -/
structure CycleX where
  evts : List RegEvt
  inForce : List (Nat × Word)
  reseeds : List Nat
  reads : List Nat
  late : List LateWrite
  halts : List HaltNote
  entered : List (Nat × List (Nat × Word))
  turns : List ChanTurn
  acqs : List LateAcq
  armed : List Nat
  issued : List IssueNote
  swaps : List SwapNote
  halting : List LateHalt
  counted : List (Nat × EncCnt)
  cueNew : Bool
  deriving DecidableEq, Repr

def CycleX.init : CycleX := ⟨[], [], [], [], [], [], [], [], [], [], [], [], [], [], false⟩

/-- A completed sample on its way to the check unit (R301, R302, R304). `tag` and `drain` are the first units of the chain and of
the DRAIN that closed it; `total` is the length of the panel a conversion wrote. -/
inductive DcRec where
  | chain (die slot tag drain : Nat) (mms : List ChainMM) (rows cols : Nat) (fmt : FmtWord) (out : List (Nat × Byte)) (units : List Byte)
  | conv (die : Nat) (slot : Nat) (sfmt dfmt : FmtWord) (n total : Nat) (src : List Byte) (out : List (Nat × Byte))
  deriving DecidableEq, Repr

def DcRec.die : DcRec → Nat
  | .chain d _ _ _ _ _ _ _ _ _ => d
  | .conv d _ _ _ _ _ _ _ => d

def DcRec.slot : DcRec → Nat
  | .chain _ k _ _ _ _ _ _ _ _ => k
  | .conv _ k _ _ _ _ _ _ => k

/-- Bytes a record has: everything R301 or R302 lists. -/
def DcRec.size : DcRec → Nat
  | .chain _ _ _ _ mms _ _ _ out units => (mms.map (fun m => m.bytesA.length + m.bytesB.length)).sum + units.length + out.length
  | .conv _ _ _ _ _ _ src out => src.length + out.length

end Sys2Proof.Machine
end

