-- ==== Sys2Proof/Machine/PowerTypes.lean ====
section
/-!
DEFINITION. Machine/PowerTypes.lean: what the power controller and the governor hold beside their registers (R525-R543).
-/
namespace Sys2Proof.Machine

/-- Where the power-failure timeline stands (Table 17.3). -/
inductive FailPhase where
  /-- no failure -/
  | none
  /-- the crossing -/
  | crossed
  /-- the 10 µs row is done -/
  | stopped
  /-- the 100 µs row is done, hold-up writes run -/
  | writing
  /-- 18 ms are over -/
  | written
  /-- every rail is off -/
  | off
  deriving DecidableEq, Repr

/-- The warning band VIN is in (0 none, 1 under, 2 over), the timeline, the cycle of the crossing, VIN and VBANK at it in 10 mV, and
whether a hub or I/O trip keeps the rails off until VIN has fallen and risen again (R541); demands of the cap and the coolant,
whether the coolant alarm stands and when its condition was last present, the compute dies tripped; the governor's pair pointer,
the cycle its 50 µs window began and the grants made in it, held levels per die in 840ths of a W with the cue of their last rise; the cycles of the duty's last step (R534) and of the levels' last
decay (R530). -/
structure PowerX where
  band : Nat
  phase : FailPhase
  failAt : Nat
  failVin : Nat
  failBank : Nat
  latched : Bool
  capDemand : Nat
  coolDemand : Nat
  coolAlarm : Bool
  coolAt : Nat
  tripped : List Nat
  govPtr : Nat
  govAt : Option Nat
  granted : Nat
  levels : List Nat
  rises : List Nat
  dutyAt : Nat
  fillAt : Nat
  deriving DecidableEq, Repr

def PowerX.init : PowerX :=
  ⟨0, .none, 0, 0, 0, false, 0, 0, false, 0, [], 0, none, 0, List.replicate 8 0, List.replicate 8 0, 0, 0⟩

end Sys2Proof.Machine
end

