-- ==== Sys2Proof/Machine/RigTypes.lean ====
section
/-!
DEFINITION. Machine/RigTypes.lean: what the routers of the rigging hold (R17, R18, R20).
-/
namespace Sys2Proof.Machine

/-- The rigging: flits waiting per input port and class, keyed (router × 5 + port) × 4 + class; the round-robin pointer of each
output, keyed router × 5 + port (0: north); the flits at the far ends of the die edges' attachments, keyed end × 4 + class, where an
end is a column (0 north edge, 64 south edge) or a row (128 west edge, 160 east edge), 192, the hub, or 193, the hub port's end for
what the hub sends; the hub port's pointer over
the rows of I/O die 0; and the flits handed to their endpoints, in order, with the router that did it (2048: the hub port). -/
structure RigState where
  bufs : SMap (List RigFlit)
  ptrs : SMap Nat
  ends : SMap (List RigFlit)
  hubPtr : Nat
  handed : List (Nat × RigFlit)
  deriving DecidableEq, Repr

def RigState.init : RigState := ⟨[], [], [], 0, []⟩

end Sys2Proof.Machine
end

