-- ==== Sys2Proof/Machine/TeTypes.lean ====
section
/-!
DEFINITION. Machine/TeTypes.lean: what a stack's trap engines hold (R262-R265, R271, R274): queues of descriptors, running
descriptors, the two pointers, held reduce-writes, the encoding counters and generators of the engines.
-/
namespace Sys2Proof.Machine

/-- A descriptor of R275: its eight words. -/
abbrev TeDesc := List Nat

/-- Who is told when a reduce-write has been added (R151, R280). -/
inductive RwOwner where
  | xfer (t id : Nat)
  | remote (seat mid tag : Nat)
  | nobody (mid : Nat)
  deriving DecidableEq, Repr

/-- A reduce-write held while its gradient buffer is zeroed (R271). -/
structure HeldRw where
  entry : Nat
  mid : Nat
  addr : Nat
  fmt : Nat
  xor : Bool
  data : List Byte
  psn : List Bool
  owner : RwOwner
  deriving DecidableEq, Repr

/-- What a descriptor has come to: Table 9.4. -/
structure TeResult where
  result : Nat
  cause : Nat
  sat : Nat
  changed : Nat
  sumsq : Nat
  done : Nat
  deriving DecidableEq, Repr

def TeResult.init : TeResult := ⟨0, 0, 0, 0, 0, 0⟩

/-- A work unit handed to an engine and not performed yet: the engine, and the words of the hyperparameter set as they stood when it
was handed over (R265, R295). -/
structure TeFlight where
  engine : Nat
  hyper : List Nat
  deriving DecidableEq, Repr

/-- A descriptor the dispatcher has started: its source (0 trigger, 1 booth, 2 resilience), how many units it has, how many are
performed, the next ones in flight, its result, the squares a norm sums (R285) and the engine of the last unit performed. -/
structure TeRun where
  desc : TeDesc
  source : Nat
  units : Nat
  unit : Nat
  flight : List TeFlight
  result : TeResult
  squares : List Val
  last : Nat
  deriving DecidableEq, Repr

/-- Units handed to engines so far. -/
def TeRun.handed (r : TeRun) : Nat := r.unit + r.flight.length

/-- What a stack's trap engines hold beside their registers. -/
structure TeStack where
  trigQ : List TeDesc
  boothQ : List TeDesc
  resilQ : List TeDesc
  srcPtr : Nat
  engPtr : Nat
  running : List TeRun
  zeroing : List Nat
  heldRw : List HeldRw
  suspended : Bool
  clipReruns : List TeDesc
  enc : SMap EncCnt
  sr : SMap Nat
  deriving DecidableEq, Repr

def TeStack.init : TeStack := ⟨[], [], [], 0, 0, [], [], [], false, [], [], []⟩

end Sys2Proof.Machine
end

