-- ==== Sys2Proof/Machine/State.lean ====
section
/-!
DEFINITION. Machine/State.lean: everything the manual gives the part, as plain data.
-/
namespace Sys2Proof.Machine

/-- Why the machine stops. -/
inductive Fault where
  /-- Raised by an MM, DRAIN or CONVERT issued with a format word or pairing that R104 and R74 leave to the verifier and
  for which the manual gives no behaviour in an unverified image; R14: the results are then not defined. Safe. -/
  | undefinedFormat
  /-- Raised by an instruction that is reserved on a booth core: VLSET (R197), or a word Table 6.1 and Table 6.2 do not admit (R176);
  no effect is stated for it there. Safe. -/
  | reservedInstruction
  deriving DecidableEq, Repr

/-- Why a command has no meaning. -/
inductive Refusal where
  /-- Raised by Dispatch for a command not modelled yet. Safe. -/
  | notModelled (mnemonic : String)
  deriving DecidableEq, Repr

/-- The part. -/
structure State where
  pending : List Instr
  cycle : Nat
  active : Nat
  free : Nat
  regs : SMap Word
  mem : List Host.Cell
  poison : SMap Bool
  won : List Won
  now : CycleX
  flaws : SMap Nat
  arb : SMap Nat
  tiles : SMap TileX
  pb : PbState
  discardFlag : Bool
  memSeen : List (Nat × Nat × Nat)
  corrSeen : List Nat
  cache : SMap CLine
  cacheClock : Nat
  cacheN : Nat
  passRanges : List (Nat × Nat)
  watch : SMap (List WatchEnt)
  retired : List (Nat × Nat × Nat)
  dc : SMap DcLive
  dcQueue : List DcRec
  dcWaiting : Bool
  dcMissed : Nat
  te : SMap TeStack
  fab : FabState
  promoted : List (Nat × Nat)
  job : JobState
  cueX : CueState
  curtain : CurtainState
  scene : SceneState
  res : ResState
  cb : SMap (List Word)
  cbPtr : SMap Nat
  lockPtr : SMap Nat
  cbOut : List (Nat × Nat × Word)
  host : HostState
  riskSent : Option (Nat × Nat)
  jobRisks : SMap Nat
  tbOff : Int
  power : PowerX
  rig : RigState
  regPtr : SMap Nat
  boot : BootX
  sec : SecX
  mgmt : MgmtX
  booth : SMap BoothCore
  out : List OutMsg
  deriving DecidableEq, Repr

/-- The security block as delivered (R580): one root key, no owner, nothing written to the NOR since. -/
def SecX.delivered : SecX where
  roots := [some Config.rootHash, none, none, none]
  rootRevoked := 0
  owners := [none, none, none, none]
  ownerRevoked := 0
  svn := 0
  serial := Config.serial.toNat
  nor := []
  norErased := []
  challenge := none
  pend := none
  slot := none
  copy := none
  salt := []
  pwhash := []

/-- The part as a cold power-on reset is released for the first time (R506, R511, R580): stage S0 runs; every register at its
reset value, every store zero (R507, R514), nothing in flight. -/
def State.reset : State where
  pending := []
  cycle := 0
  active := 0
  free := 0
  regs := []
  mem := []
  poison := []
  won := []
  now := CycleX.init
  flaws := []
  arb := []
  tiles := []
  pb := PbState.init
  discardFlag := false
  memSeen := []
  corrSeen := []
  cache := []
  cacheClock := 0
  cacheN := 0
  passRanges := []
  watch := []
  retired := []
  dc := []
  dcQueue := []
  dcWaiting := false
  dcMissed := 0
  te := []
  fab := FabState.init
  promoted := []
  job := JobState.init
  cueX := CueState.init
  curtain := CurtainState.init
  scene := SceneState.init
  res := ResState.init
  cb := []
  cbPtr := []
  lockPtr := []
  cbOut := []
  host := HostState.init
  riskSent := none
  jobRisks := []
  tbOff := 0
  power := PowerX.init
  rig := RigState.init
  regPtr := []
  boot := BootX.init
  sec := SecX.delivered
  mgmt := MgmtX.init
  booth := []
  out := []

end Sys2Proof.Machine
end

