-- ==== Sys2Proof/Machine/Ops.lean ====
section
/-!
DEFINITION. Machine/Ops.lean: the named operations every meaning is written in: reading and writing registers, fields and
memory, free values, the promptbook, memory causes, tile halts.
-/
namespace Sys2Proof.Machine

/-- What every meaning answers. -/
abbrev Out := Host.Outcome State Fault Refusal

/-- The register at a device address. -/
def State.reg (s : State) (a : Nat) : Word := smapGet (regReset a) s.regs a

/-- The register at a device address takes a value. -/
def State.setReg (s : State) (a : Nat) (v : Word) : State := { s with regs := smapSet (regReset a) s.regs a v }

/-- A field of a register. -/
def State.fld (s : State) (f : Fld) : Nat := bitsOf (s.reg f.addr).toNat f.hi f.lo

/-- A field of RS_CFG or RS_LIMIT as the running step has it: a write takes effect for the next step (R501). -/
def State.ruling (s : State) (f : Fld) : Nat :=
  match s.curtain.kept with
  | none => s.fld f
  | some k => bitsOf (if f.addr = R.RS_CFG then k.1 else k.2).toNat f.hi f.lo

/-- A one-bit field. -/
def State.bit (s : State) (f : Fld) : Bool := s.fld f == 1

/-- A field of a register takes a value (modulo its width). -/
def State.setFld (s : State) (f : Fld) (v : Nat) : State :=
  s.setReg f.addr (BitVec.ofNat 64 (putBits (s.reg f.addr).toNat f.hi f.lo v))

/-- A field that counts adds `n` and stops at its all-ones value. -/
def State.addFld (s : State) (f : Fld) (n : Nat) : State :=
  s.setFld f (satAdd (2 ^ (f.hi + 1 - f.lo) - 1) (s.fld f) n)

/-- Note what hardware does in this cycle to a field it sets or counts (R11, R100). -/
def State.noteEvt (s : State) (f : Fld) (n : Nat) : State :=
  { s with now := { s.now with evts := ⟨f.addr, f.hi, f.lo, s.fld f, n⟩ :: s.now.evts } }

/-- Hardware sets a one-bit W1C field. -/
def State.raiseFld (s : State) (f : Fld) : State := (s.noteEvt f 1).setFld f 1

/-- Hardware adds to an RC field, or to another whose reads and writes R11 or R100 orders against it. -/
def State.countFld (s : State) (f : Fld) (n : Nat) : State := (s.noteEvt f n).addFld f n

/-- What hardware has done to a field in this cycle. -/
def State.evtsOf (s : State) (f : Fld) : List RegEvt :=
  s.now.evts.filter (fun e => e.addr == f.addr && e.hi == f.hi && e.lo == f.lo)

/-- The bits hardware has set or counted in this cycle in the register at `a`. -/
def State.setNow (s : State) (a : Nat) : Nat :=
  (s.now.evts.filter (fun e => e.addr == a)).foldl (fun m e => Nat.lor m ((e.added % 2 ^ (e.hi + 1 - e.lo)) <<< e.lo)) 0

/-- A field that counts modulo its width. -/
def State.incFld (s : State) (f : Fld) (n : Nat) : State := s.setFld f (s.fld f + n)

/-- What an unlisted byte of memory reads as: every store is zeroed by start-up (R507, R508). -/
def memDefault : Byte := 0

/-- The canonical form of the memory: addresses strictly rising, no listed byte zero. -/
def Memory.wf (m : List Host.Cell) : Bool := smapWf (fun _ => memDefault) m

/-- One byte at a device address, as its store holds it. -/
def State.byte (s : State) (a : Nat) : Byte := smapGet memDefault s.mem a

def State.setByte (s : State) (a : Nat) (b : Byte) : State := { s with mem := smapSet memDefault s.mem a b }

/-- `n` bytes from an address. -/
def State.bytes (s : State) (a n : Nat) : List Byte := (List.range n).map (fun i => s.byte (a + i))

/-- Bytes written from an address upward. -/
def State.setBytes (s : State) (a : Nat) : List Byte → State
  | [] => s
  | b :: r => (s.setByte a b).setBytes (a + 1) r

/-- The little-endian number of `n` bytes (R7). -/
def State.num (s : State) (a n : Nat) : Nat := ofLe (s.bytes a n)

def State.setNum (s : State) (a n v : Nat) : State := s.setBytes a (leBytes v n)

/-- A fresh free value: nothing constrains it. -/
def State.fresh (s : State) : Nat × State := (s.free, { s with free := s.free + 1 })

/-- Free value number `j` from where the counter stands (the sign and payload of a NaN, R78). -/
def State.freeAt (s : State) (j : Nat) : Nat := (Config.freeWord (s.free + j)).toNat

/-- `n` free values have been used. -/
def State.usedFree (s : State) (n : Nat) : State := { s with free := s.free + n }

/-- Is the unit at this base address poisoned (R241)? -/
def State.poisoned (s : State) (u : Nat) : Bool := smapGet false s.poison u

def State.setPoison (s : State) (u : Nat) (p : Bool) : State := { s with poison := smapSet false s.poison u p }

def State.poisonAll (s : State) (us : List Nat) (p : Bool) : State := us.foldl (fun t u => t.setPoison u p) s

/-- The part's own seat, its mode and its cue count. -/
def State.mySeat (s : State) : Nat := s.fld R.FB_CTL_SEAT

def State.cue (s : State) : Nat := (s.reg R.CU_COUNT).toNat

def State.modeCode (s : State) : Nat := s.fld R.BT_MODE_MODE

/-- Start-up, test and recovery modes: unverified images may run (R205, R510). -/
def State.unverifiedMode (s : State) : Bool := s.modeCode != 1

/-- A cycle counted `c` by GETCYC is held at duty h when (c × h) mod 16 < h (R533). -/
def heldAt (c h : Nat) : Bool := decide ((c * h) % 16 < h)

def State.held (s : State) : Bool := heldAt s.cycle (s.fld R.PW_HOLD_DUTY)

/-- What a tile holds in flight. -/
def State.tile (s : State) (t : Nat) : TileX := smapGet TileX.init s.tiles t

def State.setTile (s : State) (t : Nat) (x : TileX) : State := { s with tiles := smapSet TileX.init s.tiles t x }

/-- Tile-window base of tile n (Table 1.4). -/
def tileBase (t : Nat) : Nat := 0x11000000000 + 0x100000 * t

-- Offsets of Table 1.5.
def offAcc : Nat := 0xC0000
def offShadow : Nat := 0xE0000
def offPmem : Nat := 0xF0000
def offRegs : Nat := 0xF8000

/-- Send something out of the part. -/
def State.send (s : State) (m : OutMsg) : State := { s with out := s.out ++ [m] }

/-- Hand an entry to the promptbook writer (R519): a full queue drops it and counts it. -/
def State.pbHand (s : State) (l : List PbIn) : State :=
  if s.pb.started then
    if s.pb.queue.length + l.length ≤ 512 then
      { s with pb := { s.pb with queue := s.pb.queue ++ l } }
    else
      { (s.countFld R.BT_PB_INFO_DROPPED l.length) with pb := { s.pb with drops := s.pb.drops + l.length } }
  else s

/-- An entry of one kind, stamped with the cue (R46). -/
def State.pbEntry (s : State) (kind source code detail : Nat) : State :=
  s.pbHand [⟨s.cue, source, kind, code, detail, false, false⟩]

-- The kinds of Table 16.7.
def pbBoot : Nat := 1
def pbHalt : Nat := 2
def pbHaltDetail : Nat := 3
def pbFault : Nat := 4
def pbEvent : Nat := 5
def pbCorrected : Nat := 6
def pbReset : Nat := 7
def pbGap : Nat := 8
def pbTailStart : Nat := 9
def pbPowerFail : Nat := 10

/-- A FAULT entry of the memory codes, written at most once per cue for one code and MID (R257). -/
def State.memEntry (s : State) (mid code addr : Nat) : State :=
  if s.memSeen.contains (pbFault, code, mid) then s
  else { (s.pbEntry pbFault mid code addr) with memSeen := (pbFault, code, mid) :: s.memSeen }

/-- An EVENT entry of the memory codes, under the same limit of its own (DEDUCED: R339 has a FAULT and an EVENT entry of one code and MID
written). -/
def State.memEvent (s : State) (mid code detail : Nat) : State :=
  if s.memSeen.contains (pbEvent, code, mid) then s
  else { (s.pbEntry pbEvent mid code detail) with memSeen := (pbEvent, code, mid) :: s.memSeen }

/-- An EVENT entry. -/
def State.event (s : State) (mid code detail : Nat) : State := s.pbEntry pbEvent mid code detail

/-- MID of a tile (Table 1.7). -/
def tileMid (t : Nat) : Nat := 0x800 + t

/-- A memory cause reported to a tile (R257, R261): TA_MFAULT0 to TA_MFAULT2, the discard flag, the promptbook.
`source` is 0 data mover, 1 prompter global access, 2 matrix engine. -/
def State.tileCause (s : State) (t source desc code addr : Nat) : State :=
  let s := if s.bit (R.TA_MFAULT0_VALID t) then s
    else ((((s.setFld (R.TA_MFAULT0_CAUSE t) code).setFld (R.TA_MFAULT0_DESC t) desc).setFld
      (R.TA_MFAULT0_SOURCE t) source).raiseFld (R.TA_MFAULT0_VALID t)).setFld (R.TA_MFAULT1_ADDR t) addr
  let s := s.countFld (R.TA_MFAULT2_COUNT t) 1
  { (s.memEntry (tileMid t) code addr) with discardFlag := true }

/-- Update the live dress-check counters of a die. -/
def State.dcUpd (s : State) (die : Nat) (g : DcLive → DcLive) : State :=
  { s with dc := smapSet DcLive.init s.dc die (g (smapGet DcLive.init s.dc die)) }

/-- A chain sample is abandoned and its slot freed (R301, R303). -/
def State.dcAbandon (s : State) (t : Nat) : State :=
  match (s.tile t).chain with
  | none => s
  | some q => (s.setTile t { s.tile t with chain := none }).dcUpd (t / 256)
      (fun c => { c with abandoned := satAdd 0xFFFF c.abandoned 1, slots := c.slots.filter (fun x => decide (x ≠ q.slot)) })

/-- Sequencer states of TA_SEQ.STATE (Table 5.10). -/
def seqIdle : Nat := 0
def seqIssuing : Nat := 1
def seqHeld : Nat := 2
def seqEnded : Nat := 3
def seqHalted : Nat := 4
def seqStopped : Nat := 5

/-- The place of a halt reason in the order of R216: the slots, then what an issue raises in no slot, NO_COMMIT and
UNVERIFIED_IMAGE, BOOTH_HALT. -/
def haltClass (reason slot : Nat) : Nat :=
  if slot ≠ 0 then slot else if reason = 0x07 then 7 else if reason = 0x09 ∨ reason = 0x0B then 6 else 5

/-- The first word of a halt record (Table 7.7). -/
def State.haltWord (s : State) (t reason bundle rep slot resource elem : Nat) : Word :=
  BitVec.ofNat 64 (2 ^ 63 + reason * 2 ^ 48 + resource * 2 ^ 36 + slot * 2 ^ 33 + s.fld (R.TA_SEQ_BANK t) * 2 ^ 32
    + elem * 2 ^ 26 + rep * 2 ^ 13 + bundle)

/-- HALT_REASON and, where the record is empty, the record (R216). -/
def State.haltRecord (s : State) (t reason : Nat) (w : Word) (detail : Nat) (empty : Bool) : State :=
  let s := s.setFld (R.TA_SEQ_HALT_REASON t) reason
  if empty then
    ((s.setReg (R.TA_HALT0 t) w).setReg (R.TA_HALT1 t) (BitVec.ofNat 64 s.cycle)).setReg (R.TA_HALT2 t) (BitVec.ofNat 64 detail)
  else s

/-- The two entries the booth writes of a halt (R216). -/
def State.haltEntries (s : State) (t reason detail : Nat) : List PbIn :=
  [⟨s.cue, tileMid t, pbHalt, reason, (s.reg (R.TA_HALT0 t)).toNat, true, false⟩,
    ⟨s.cue, tileMid t, pbHaltDetail, reason, detail % 2 ^ 64, false, false⟩]

/-- What a tile that halts leaves: its fences, a fault on its way, a return from its handler. -/
def TileX.halted (x : TileX) : TileX := { x with fence := none, fenceH := none, cutF := false, cutH := false, trap := none, reexec := none, resumeAt := none }

/-- A trap taken in the cycle of a halt is not taken (R216). -/
def State.untrap (s : State) (t : Nat) : State :=
  ((s.now.entered.filter (fun p => p.1 == t)).flatMap Prod.snd).foldl (fun u r => u.setReg r.1 r.2) s

/-- A reason that arises in the cycle of the tile's halt and comes before it in the order of R216 takes its place in the record
and in the promptbook. -/
def State.rehalt (s : State) (t reason : Nat) (w : Word) (detail cls : Nat) (h : HaltNote) : State :=
  let old := s.haltEntries t (s.fld (R.TA_SEQ_HALT_REASON t)) (s.reg (R.TA_HALT2 t)).toNat
  let s : State := { s with now := { s.now with halts := s.now.halts.map (fun n => if n.tile = t then { n with cls := cls } else n) } }
  let s := s.haltRecord t reason w detail h.empty
  let new := s.haltEntries t reason detail
  { s with pb := { s.pb with queue := s.pb.queue.map (fun e => ((old.zip new).find? (fun p => p.1 == e)).elim e Prod.snd) } }

/-- A halt of a tile (R215, R216): the record, HALT_REASON, the HALT pair. After the first only a reason of the same cycle that comes
before it in the order of R216 changes anything. -/
def State.haltTile (s : State) (t reason : Nat) (bundle rep slot resource elem : Nat) (detail : Nat) : State :=
  let cls := haltClass reason slot
  let w := s.haltWord t reason bundle rep slot resource elem
  if s.fld (R.TA_SEQ_STATE t) = seqHalted then
    match s.now.halts.find? (fun h => h.tile == t && decide (cls < min 7 h.cls)) with
    | some h => s.rehalt t reason w detail cls h
    | none => s
  else
    let s := s.untrap t
    let h : HaltNote := ⟨t, cls, s.fld (R.TA_SEQ_STATE t), s.tile t, !s.bit (R.TA_HALT0_VALID t)⟩
    let s : State := { s with now := { s.now with halts := h :: s.now.halts } }
    let s := ((s.setFld (R.TA_SEQ_STATE t) seqHalted).haltRecord t reason w detail h.empty).dcAbandon t
    let s := s.setTile t (s.tile t).halted
    s.pbHand (s.haltEntries t reason detail)

/-- The part as it stood for a tile halted in this cycle by a reason that comes after those of issue slots: its issue of this cycle
may still raise one (R215, R216). -/
def State.beforeHalt (s : State) (t : Nat) : Option State :=
  (s.now.halts.find? (fun h => h.tile == t && decide (4 < h.cls))).map (fun h => (s.setTile t h.x).setFld (R.TA_SEQ_STATE t) h.st)

end Sys2Proof.Machine
end

