-- ==== Sys2Proof/Machine/Status.lean ====
section
/-!
DEFINITION. Machine/Status.lean: the status rings of the host sessions (R408, R412, R413, R430-R435), events for the host,
the health score and the risk estimate (R464-R466).
-/
namespace Sys2Proof.Machine

/-- The ring region of a session (R408). -/
def ringBase (n : Nat) : Nat := 0x1200E000000 + 0x200000 * n

-- Offsets of Table 13.4.
def offCmdPi : Nat := 0x1FF000
def offStsCi : Nat := 0x1FF080
def offCmdCi : Nat := 0x1FF100
def offStsPi : Nat := 0x1FF180

/-- An index of a session. -/
def State.ringIdx (s : State) (n o : Nat) : Nat := s.num (ringBase n + o) 4

def State.setRingIdx (s : State) (n o v : Nat) : State := s.setNum (ringBase n + o) 8 (v % 2 ^ 32)

/-- The time base in ns (R515, R538): 1.5 stage cycles a nanosecond, moved by the PTP servo and by S2. -/
def State.timeNs (s : State) : Nat := ((s.cycle * 2 / 3 : Nat) + s.tbOff).toNat

/-- The time at another stage cycle. -/
def State.nsAt (s : State) (c : Nat) : Nat := ((c * 2 / 3 : Nat) + s.tbOff).toNat

/-- Is a session enabled as a HOST session? -/
def State.hostSess (s : State) (n : Nat) : Bool := s.bit (R.FH_SESS_CFG_VALID n) && !s.bit (R.FH_SESS_CFG_KIND n)

/-- The bytes of Table 14.2, CUE being the count now. -/
def StEntry.toBytes (e : StEntry) (cue : Nat) : List Byte :=
  leBytes e.opcode 2 ++ leBytes e.kind 1 ++ leBytes e.code 1 ++ leBytes e.seq 4 ++ leBytes e.cookie 8 ++ leBytes cue 8
    ++ leBytes e.done 4 ++ leBytes e.total 4 ++ (e.detail ++ List.replicate 32 0).take 32

def State.setQp (s : State) (q : Qp) : State :=
  { s with host := { s.host with qps := smapSet none s.host.qps q.qpn (some q) } }

def State.qp? (s : State) (n : Nat) : Option Qp := smapGet none s.host.qps n

def State.qpList (s : State) : List Qp := s.host.qps.filterMap (fun p => p.2)

def State.fhPort (s : State) (p : Nat) : FhPort := smapGet FhPort.init s.host.ports p

def State.setFhPort (s : State) (p : Nat) (x : FhPort) : State :=
  { s with host := { s.host with ports := smapSet FhPort.init s.host.ports p x } }

/-- What goes before request packets of its QP (R403). -/
def RoceMsg.isAnswer : RoceMsg → Bool
  | .ack _ _ => true | .readResp _ _ => true | .cnp => true | _ => false

/-- Payload bytes of a message. -/
def RoceMsg.payload : RoceMsg → Nat
  | .write _ _ _ d _ => d.length
  | .readResp _ d => d.length
  | .send _ d => d.length
  | _ => 0

/-- Packets of a message at a path MTU. -/
def RoceMsg.packets (mtu : Nat) : RoceMsg → Nat
  | .write _ _ _ d _ => max 1 ((d.length + mtu - 1) / mtu)
  | _ => 1

/-- A message of `packets` packets joins what waits to leave a port, tagged as the port's FH_PORT_CFG says (R396, R403, R414). -/
def State.queueRoce (s : State) (p qpn packets : Nat) (m : RoceMsg) : State :=
  let cnp := m == .cnp
  let tag : RoceTag := ⟨s.fld (R.FH_PORT_CFG_VLAN_ID p), s.fld (if cnp then R.FH_PORT_CFG_CNP_PRIO p else R.FH_PORT_CFG_ROCE_PRIO p),
    s.fld (if cnp then R.FH_PORT_CFG_CNP_DSCP p else R.FH_PORT_CFG_ROCE_DSCP p), s.bit (R.FH_PORT_CFG_ECN_EN p)⟩
  let x := s.fhPort p
  s.setFhPort p { x with txq := x.txq ++ [⟨qpn, packets, tag, m⟩] }

/-- A message of a QP waits at its port. -/
def State.sendRoce (s : State) (q : Qp) (m : RoceMsg) : State := s.queueRoce q.port q.qpn (m.packets q.mtu) m

/-- A message of the connection manager waits at a port, as one of QP1 (R399, R402). -/
def State.sendCm (s : State) (p : Nat) (m : RoceMsg) : State := s.queueRoce p 1 1 m

/-- Requests of a QP that have not left yet do not leave. -/
def State.unsend (s : State) (q : Qp) : State :=
  let x := s.fhPort q.port
  s.setFhPort q.port { x with txq := x.txq.filter (fun k => k.qpn != q.qpn || k.msg.isAnswer) }

/-- Line rate of a port's mode in 256ths of a Gb/s (Table 13.1). -/
def State.lineRate (s : State) (p : Nat) : Nat :=
  256 * (match s.fld (R.FH_PORT_STATUS_MODE p) with | 1 => 200 | 2 => 400 | 3 => 800 | _ => 0)

/-- Nanoseconds that `bits` take at a rate in 256ths of a Gb/s, which is a bit a nanosecond. -/
def bitNs (bits rate : Nat) : Nat := (256 * bits + rate - 1) / rate

/-- Is a priority of a port paused at `now` (R397)? -/
def FhPort.isPaused (x : FhPort) (prio now : Nat) : Bool := decide (now < x.paused.getD prio 0)

/-- The packet a port's transmit arbiter grants next, at `now` (R403): QPs round-robin by QPN, starting after the last grant; answers
before requests of their QP; what PFC pauses waits (R397), and so does what `may` keeps back. -/
def FhPort.txNext (x : FhPort) (now : Nat) (may : Nat → Bool) : Option TxMsg :=
  let l := x.txq.filter (fun k => !x.isPaused k.tag.pcp now && may k.qpn)
  let least := fun (ns : List Nat) => ns.foldl (fun (m : Option Nat) n => some (m.elim n (min n))) none
  let qpns := l.map TxMsg.qpn
  match (least (qpns.filter (fun n => decide (x.txPtr ≤ n)))).or (least qpns) with
  | none => none
  | some n => (l.find? (fun k => k.qpn == n && k.msg.isAnswer)).or (l.find? (fun k => k.qpn == n))

/-- A QP's packets leave no faster than its rate (R415); QP1 has none. -/
def State.paced (s : State) (qpn : Nat) : Bool := match s.qp? qpn with | some q => decide (q.nextAt ≤ s.timeNs) | none => true

/-- A packet of a message leaves: the next of its QP waits for the time the payload takes at the QP's rate (R415; DESIGN CHOICE: headers are
not counted, and a rate of 0 keeps nothing back). -/
def State.pace (s : State) (k : TxMsg) : State :=
  match s.qp? k.qpn with
  | none => s
  | some q =>
    let n := min q.mtu (k.msg.payload - (k.msg.packets q.mtu - k.left) * q.mtu)
    if n = 0 ∨ q.rate = 0 then s else s.setQp { q with nextAt := s.timeNs + bitNs (8 * n) q.rate }

/-- The last response packet of a READ leaves: the READ is outstanding no more (R400). -/
def State.readAnswered (s : State) (k : TxMsg) : State :=
  match k.msg, s.qp? k.qpn with
  | .readResp p _, some q => s.setQp { q with reading := q.reading.erase p }
  | _, _ => s

/-- PAUSED follows the pause of ROCE_PRIO, which lapses with its quanta (R397, Table 13.7). -/
def State.pauseLapse (s : State) (p : Nat) : State :=
  if s.bit (R.FH_PORT_STATUS_PAUSED p) && !(s.fhPort p).isPaused (s.fld (R.FH_PORT_CFG_ROCE_PRIO p)) s.timeNs then
    s.setFld (R.FH_PORT_STATUS_PAUSED p) 0
  else s

/-- One grant of a port's transmit arbiter, which lasts one packet (R403). A message is out of the part with its last packet. -/
def State.transmit (s : State) (p : Nat) : State :=
  let s := s.pauseLapse p
  let x := s.fhPort p
  match (if s.bit (R.FH_PORT_STATUS_UP p) then x.txNext s.timeNs s.paced else none) with
  | none => s
  | some k =>
    let t := (s.pace k).readAnswered k
    if k.left ≤ 1 then (t.setFhPort p { x with txq := x.txq.erase k, txPtr := k.qpn + 1 }).send (.roce p k.qpn k.tag k.msg)
    else t.setFhPort p { x with txq := x.txq.replace k { k with left := k.left - 1 }, txPtr := k.qpn + 1 }

/-- A request on a QP: it takes the next PSN and is kept until acknowledged (R402). -/
def State.qpRequest (s : State) (q : Qp) (r : QpSent) (m : Nat → RoceMsg) (psns : Nat) : State :=
  let q' := { q with
    npsn := (q.npsn + psns) % 2 ^ 24, sent := q.sent ++ [{ r with psn := q.npsn }], ackAt := if q.sent.isEmpty then s.timeNs else q.ackAt }
  (s.setQp q').sendRoce q (m q.npsn)

/-- R413: the notify QP is the lowest-numbered connected QP of the session that has a receive buffer at the host, as far as the part knows: it
learns that one has none from an RNR NAK; where that is so of all, the lowest-numbered (DEDUCED). -/
def State.notifyQp (s : State) (n : Nat) : Option Qp :=
  let l := s.qpList.filter (fun q => q.session == n && q.connected && !q.error)
  (l.find? (fun q => !q.rnr)).or l.head?

/-- A status entry goes out on the notify QP (R413). -/
def State.notifyEntry (s : State) (n : Nat) (b : List Byte) : State :=
  if !s.bit (R.FH_SESS_CFG_NOTIFY n) || s.host.mute.contains n then s
  else
    match s.notifyQp n with
    | none => s
    | some q => s.qpRequest q ⟨0, 3, 0, b.length, 0, 0, 0, b⟩ (fun p => .send p b) 1

/-- Free entries of a session's status ring (R412). -/
def State.stsFree (s : State) (n : Nat) : Nat := 1024 - sub32 (s.ringIdx n offStsPi) (s.ringIdx n offStsCi)

/-- Write an entry at STS_PI and advance it. -/
def State.writeStatus (s : State) (n : Nat) (e : StEntry) : State :=
  let pi := s.ringIdx n offStsPi
  let b := e.toBytes s.cue
  ((s.setBytes (ringBase n + 0x100000 + pi % 1024 * 64) b).setRingIdx n offStsPi (pi + 1)).notifyEntry n b

/-- A WARM_RESET was accepted: nothing more goes to the status rings (R512). -/
def State.warmAccepted (s : State) : Bool := s.host.warmCmd

/-- A warm reset is asked for: one that waits already takes it in (R512). -/
def State.askWarm (s : State) (kind mid : Nat) : State :=
  { s with host := { s.host with warm := s.host.warm.or (some (kind, mid)), warmAt := if s.host.warm.isSome then s.host.warmAt else s.cycle } }

/-- A WARM_RESET of session `n` is accepted (R512). -/
def State.acceptWarm (s : State) (n : Nat) : State :=
  let s := s.askWarm 3 (0x10 + n)
  { s with host := { s.host with warmCmd := true } }

/-- A status of command `cmd` (0 for an event) on a session: written, or kept while the ring is full, only the latest
progress report of a command being kept, and none once its DONE has arisen, which no PROGRESS may follow (R412, R431); a disabled session
discards it (R435). -/
def State.putStatus (s : State) (n cmd : Nat) (e : StEntry) : State :=
  if !s.hostSess n || s.warmAccepted then s
  else if s.stsFree n = 0 ∨ s.host.waits.any (fun w => w.session == n) then
    let old := if e.kind = 2 ∨ e.kind = 3 then s.host.waits.filter (fun w => !(w.session == n && w.cmd == cmd && w.entry.kind == 2))
      else s.host.waits
    { s with host := { s.host with waits := old ++ [⟨n, cmd, e⟩] } }
  else s.writeStatus n e

/-- Entries have become free: done and rejected replies first, then progress reports, each in the order they arose. -/
def State.drainStatus (s : State) (n : Nat) : Nat → State
  | 0 => s
  | f + 1 =>
    if s.stsFree n = 0 ∨ s.warmAccepted then s
    else
      let mine := s.host.waits.filter (fun w => w.session == n)
      match (mine.filter (fun w => w.entry.kind != 2) ++ mine.filter (fun w => w.entry.kind == 2)).head? with
      | none => s
      | some w =>
        let s : State := { s with host := { s.host with waits := s.host.waits.erase w } }
        (s.writeStatus n w.entry).drainStatus n f

/-- The 32 bytes of a promptbook entry (Table 16.6). -/
def PbRec.toBytes (r : PbRec) : List Byte :=
  leBytes r.cue 8 ++ leBytes r.ns 8 ++ leBytes r.source 2 ++ leBytes r.cls 1 ++ leBytes r.code 1 ++ leBytes r.seq 4
    ++ leBytes r.detail 8

/-- CLASS of an entry: KIND, and UNLOCKED while PTP is not locked (Table 16.6). -/
def State.pbCls (s : State) (kind : Nat) : Nat := kind + (if s.bit R.FH_PTP_STATUS_LOCKED then 0 else 128)

/-- An EVENT entry of the status rings: on session 0 and, if it differs, on the owner session (R434). -/
def State.eventStatus (s : State) (code : Nat) (detail : List Byte) : State :=
  let e : StEntry := ⟨0, 5, code, 0, 0, 0, 0, detail⟩
  let s := s.putStatus 0 0 e
  let o := s.fld R.BT_JOB_OWNER
  if s.bit R.BT_JOB_OPEN && o != 0 then s.putStatus o 0 e else s

/-- An event that also goes to the host status ring (R434): its status carries the promptbook entry, so it is written when
the writer accepts the entry; an entry the writer drops (R519) is sent at once, without a SEQ. -/
def State.hostEvent (s : State) (mid code detail : Nat) : State :=
  if s.pb.started && decide (s.pb.queue.length < 512) then s.pbHand [⟨s.cue, mid, pbEvent, code, detail, false, true⟩]
  else
    (s.pbEntry pbEvent mid code detail).eventStatus code
      (PbRec.toBytes ⟨s.cue, s.timeNs, mid, s.pbCls pbEvent, code, 0, detail⟩)

/-- The bands of R465. -/
def riskBand (n : Nat) : Nat := n / 64

/-- The largest floor in force (R443). -/
def State.riskFloor (s : State) : Nat := s.host.floors.foldl (fun m p => max m p.2.1) 0

/-- The payload of a C3 message: its type, which is not a notice's, and its values (DESIGN CHOICE: the manual lays none out). -/
def mgmtWords : MgmtMsg → List Nat
  | .risk e => [1, e]
  | .planId i => [2, i]
  | .sceneChange c q r => [3, c, q, b2n r]
  | .quiet => [4]
  | .ckptOrder k n l => [5, k, n, l]
  | .parityReady q => [6, q]
  | .ckptDone k f => [7, k, b2n f]
  | .ckptCommit k n => [8, k, n]
  | .ckptAbandon k => [9, k]
  | .recovery k n => [10, k, n]
  | .recover t l u => [11, t, l.length] ++ l ++ u
  | .unrecoverable q => [12, q]
  | .restored n => [13, n]
  | .resume c n => [14, c, n]
  | .straggler q => [15, q]
  | .refused => [16]

/-- The MGMT packet of a C3 message to a seat (R365). -/
def State.mgmtPkt (s : State) (m : MgmtMsg) (dst : Nat) : Pkt :=
  let d := (mgmtWords m).flatMap (fun w => leBytes w 8)
  ⟨opMgmt, dst, 0, s.mySeat, 0, false, 0, 0, 0, 0, 0, 0, d.length - 1, d⟩

/-- A C3 message goes to some seats: a MGMT packet to each of them that is not lost (R318, R365). What a booth does with one that comes is its
command's effect. -/
def State.sendC3 (s : State) (seats : List Nat) (m : MgmtMsg) : State :=
  { s with fab := { s.fab with inject := s.fab.inject ++ ((seats.filter (fun q => q != s.mySeat && !s.fab.lostSeats.contains q)).map (s.mgmtPkt m)) } }

/-- The seat that this one takes for the cue master: after a failover the one it follows (R42). -/
def State.cueMaster (s : State) : Nat :=
  if s.bit R.CU_STATUS_FAILOVER then s.cueX.followed.getD (s.fld R.CU_CTL_MASTER_SEAT) else s.fld R.CU_CTL_MASTER_SEAT

/-- The other seats of the job, those that stand by among them. -/
def State.mates (s : State) : List Nat := (s.job.seats ++ s.job.understudies).dedup.filter (fun q => q != s.mySeat)

/-- A report to the cue master (R466): on a change of band or a move of 16 or more since the last report, at most once per
1024 cues; one withheld leaves when the limit ends. The cue master takes its own estimate into RS_RISK.JOB. -/
def State.reportRisk (s : State) : State :=
  let e := s.fld R.RS_RISK_ESTIMATE
  let go := match s.riskSent with
    | none => decide (riskBand e ≠ 0) || decide (16 ≤ e)
    | some (v, c) => (decide (riskBand v ≠ riskBand e) || decide (16 ≤ max v e - min v e)) && decide (c + 1024 ≤ s.cue)
  if !go then s
  else
    let s : State := { s with riskSent := some (e, s.cue) }
    if s.bit R.CU_STATUS_MASTER then s else s.sendC3 [s.cueMaster] (.risk e)

/-- The job estimate at the cue master: the largest estimate last reported, its own included (R466). -/
def State.jobRisk (s : State) : State :=
  if s.bit R.CU_STATUS_MASTER then
    let m := s.jobRisks.foldl (fun a p => max a p.2) (s.fld R.RS_RISK_ESTIMATE)
    (s.setFld R.RS_RISK_JOB m).setFld R.RS_RISK_JOB_BAND (riskBand m)
  else s

/-- The estimate and its band from the score and the floors (R465); a change of band is an event. -/
def State.reRisk (s : State) : State :=
  let f := s.riskFloor
  let e := max (s.fld R.RS_RISK_INTERNAL) f
  let old := s.fld R.RS_RISK_BAND
  let s := ((s.setFld R.RS_RISK_FLOOR f).setFld R.RS_RISK_ESTIMATE e).setFld R.RS_RISK_BAND (riskBand e)
  let s := if riskBand e = old then s else s.hostEvent 5 0xAD (s.mySeat * 2 ^ 32 + s.fld R.CU_STEP_STEP)
  s.reportRisk.jobRisk

/-- Points of a health event (Table 15.2, R464). -/
def State.health (s : State) (n : Nat) : State :=
  (s.setFld R.RS_RISK_INTERNAL (min 255 (s.fld R.RS_RISK_INTERNAL + n))).reRisk

/-- DETAIL of a resilience code: the seat and the step (R499). -/
def seatStep (seat step : Nat) : Nat := seat * 2 ^ 32 + step % 2 ^ 32

end Sys2Proof.Machine
end

