-- ==== Sys2Proof/Machine/Shards.lean ====
section
/-!
DEFINITION. Machine/Shards.lean: the shard tables (R267-R271, R292): the valid entries of a stack, their two copies, the
name range and the ranges other masters may not reach (R268).
-/
namespace Sys2Proof.Machine

/-- Address of word 0 of a shard-table entry. -/
def shardBase (k i : Nat) : Nat := R.TP_SHARD_W0 k i

/-- The valid entries of stack `k`, in ascending number. -/
def State.validShards (s : State) (k : Nat) : List Nat :=
  ((s.regs.filter (fun p => decide (shardBase k 0 ≤ p.1) && decide (p.1 < shardBase k 1024)
    && (p.1 - shardBase k 0) % 0x80 == 0 && p.2.getLsbD 63)).map (fun p => (p.1 - shardBase k 0) / 0x80))

/-- The components of a shard (R267). -/
inductive Comp where
  | p | r | m | v
  deriving DecidableEq, Repr

/-- Base of copy 0 or 1 of a component. -/
def State.compBase (s : State) (k i : Nat) (c : Comp) (copy : Nat) : Nat :=
  match c, copy with
  | .p, 0 => s.fld (R.TP_SHARD_W3_BASE_P0 k i) | .p, _ => s.fld (R.TP_SHARD_W4_BASE_P1 k i)
  | .r, 0 => s.fld (R.TP_SHARD_W5_BASE_R0 k i) | .r, _ => s.fld (R.TP_SHARD_W6_BASE_R1 k i)
  | .m, 0 => s.fld (R.TP_SHARD_W7_BASE_M0 k i) | .m, _ => s.fld (R.TP_SHARD_W8_BASE_M1 k i)
  | .v, 0 => s.fld (R.TP_SHARD_W9_BASE_V0 k i) | .v, _ => s.fld (R.TP_SHARD_W10_BASE_V1 k i)

/-- Is a component present? -/
def State.compHas (s : State) (k i : Nat) (c : Comp) : Bool :=
  match c with
  | .p => true
  | .r => s.bit (R.TP_SHARD_W0_HAS_R k i)
  | .m => s.bit (R.TP_SHARD_W0_HAS_M k i)
  | .v => s.bit (R.TP_SHARD_W0_HAS_V k i)

/-- The copy that is the front copy, and the back copy. -/
def State.frontCopy (s : State) (k i : Nat) : Nat := s.fld (R.TP_SHARD_W0_FRONT k i)
def State.backCopy (s : State) (k i : Nat) : Nat := 1 - s.frontCopy k i

/-- One byte as its home serves it (R236): from a valid line of the memory-side cache, else from its store. -/
def State.homeByte (s : State) (a : Nat) : Byte :=
  let l := smapGet CLine.none s.cache (a / 128)
  if decide (a < 2 ^ 40) && l.valid then l.data.getD (a % 128) 0 else s.byte a

def State.homeNum (s : State) (a n : Nat) : Nat := ofLe ((List.range n).map (fun i => s.homeByte (a + i)))

/-- Format words FMT_B and FMT_C of the entry's trigger descriptor: the formats of R, M and V. -/
def State.trigFmts (s : State) (k i : Nat) : Nat × Nat :=
  let w := s.homeNum (s.fld (R.TP_SHARD_W15_TRIG k i) + 8) 8
  (bitsOf w 47 32, bitsOf w 31 16)

/-- Element size of a format word, 0 for a word of no format. -/
def fmtSize (w : Nat) : Nat := match FmtWord.ofWord w with | some f => f.fmt.size | none => 0

/-- Bytes of one copy of a component. P has PBYTES; R, M and V have ELEMENTS of their format. -/
def State.compBytes (s : State) (k i : Nat) (c : Comp) : Nat :=
  let n := s.fld (R.TP_SHARD_W1_ELEMENTS k i)
  match c with
  | .p => s.fld (R.TP_SHARD_W2_PBYTES k i)
  | .r => n * fmtSize (s.trigFmts k i).1
  | _ => n * fmtSize (s.trigFmts k i).2

/-- Does [a, a + len) touch [b, b + n)? -/
def touches (a len b n : Nat) : Bool := decide (a < b + n) && decide (b < a + len)

/-- The pinned range's stack (R226). -/
def pinnedStack (a : Nat) : Option Nat := if 2 ^ 39 ≤ a ∧ a < 2 ^ 40 then some (bitsOf a 38 36) else none

/-- What R268 says of an access of a tile, fabric ingress or a session: nothing, an address in the front copy with the
entry's VERSION, or a refusal. -/
inductive NameHit where
  | none
  | read (addr version : Nat)
  | refused
  deriving DecidableEq, Repr

def State.nameHit (s : State) (a len : Nat) (isWrite : Bool) : NameHit :=
  match pinnedStack a with
  | .none => .none
  | some k =>
    let es := s.validShards k
    match es.find? (fun i => touches a len (s.compBase k i .p 0) (s.fld (R.TP_SHARD_W2_PBYTES k i))) with
    | some i =>
      if isWrite then .refused
      else .read (if s.frontCopy k i = 0 then a else a - s.compBase k i .p 0 + s.compBase k i .p 1)
        (s.fld (R.TP_SHARD_W1_VERSION k i))
    | .none =>
      if es.any (fun i => touches a len (s.compBase k i .p 1) (s.compBytes k i .p)
          || [Comp.r, Comp.m, Comp.v].any (fun c => s.compHas k i c
            && (touches a len (s.compBase k i c 0) (s.compBytes k i c)
              || touches a len (s.compBase k i c 1) (s.compBytes k i c))))
      then .refused else .none

end Sys2Proof.Machine
end

