-- ==== Sys2Proof/Machine/RegAccess.lean ====
section
/-!
DEFINITION. Machine/RegAccess.lean: reading and writing a register under its fields' access codes (R10-R12, R583), for any
register of the part.
-/
namespace Sys2Proof.Machine

/-- The fields of the register at `a`; none where no register lies. -/
def fieldsAt (a : Nat) : List Field := match regDefAt a with | some r => r.fields | none => []

/-- After the boot lock RWL fields keep their value (R510, Table 0.5). -/
def State.locked (s : State) : Bool := s.modeCode != 0

/-- The bits of a 64-bit register that bytes [off, off + len) cover. -/
def coverMask (off len : Nat) : Nat := (2 ^ (8 * len) - 1) <<< (8 * off)

/-- One field after a write of `w` whose covered bits are `cov` (R10, R583). -/
def fieldAfter (locked : Bool) (old w cov : Nat) (f : Field) : Nat :=
  let m := maskOf f.hi f.lo
  match f.acc with
  | .rw => Nat.lor (Nat.land old (m - Nat.land m cov)) (Nat.land w (Nat.land m cov))
  | .rwl => if locked then Nat.land old m else Nat.lor (Nat.land old (m - Nat.land m cov)) (Nat.land w (Nat.land m cov))
  | .w1c => Nat.land old (m - Nat.land m (Nat.land w cov))
  | .ro => Nat.land old m
  | .wo => Nat.land old m
  | .rc => Nat.land old m

/-- A register after a write; reserved bits keep what they hold (R12). -/
def regAfter (locked : Bool) (fs : List Field) (old w cov : Nat) : Nat :=
  let named := fs.foldl (fun a f => Nat.lor a (maskOf f.hi f.lo)) 0
  fs.foldl (fun a f => Nat.lor a (fieldAfter locked old w cov f)) (old - Nat.land old named)

/-- The value a narrow write forms (R583): uncovered bits are the register's in RW and RWL fields, zero elsewhere. -/
def formedValue (fs : List Field) (old w cov : Nat) : Nat :=
  fs.foldl (fun a f =>
    let m := maskOf f.hi f.lo
    let keep := match f.acc with | .rw => true | .rwl => true | _ => false
    Nat.lor a (Nat.lor (Nat.land w (Nat.land m cov)) (if keep then Nat.land old (m - Nat.land m cov) else 0))) 0

/-- The bits of a register's W1C fields. -/
def w1cMask (fs : List Field) : Nat := fs.foldl (fun m f => match f.acc with | .w1c => Nat.lor m (maskOf f.hi f.lo) | _ => m) 0

/-- The W1C bits of the register at `a` that hardware has set in this cycle: a write of it does not clear them (R11). -/
def State.setHeld (s : State) (a : Nat) : Nat := Nat.land (s.setNow a) (w1cMask (fieldsAt a))

/-- Write `len` bytes of `v` at byte `off` of the register at `a`, by its access codes alone, the W1C bits set in this cycle kept (R11). -/
def State.regWrite (s : State) (a off len v : Nat) : State :=
  let old := (s.reg a).toNat
  let w := v <<< (8 * off)
  s.setReg a (BitVec.ofNat 64 (regAfter s.locked (fieldsAt a) old (w - Nat.land w (s.setHeld a)) (coverMask off len)))

/-- A field that has a counting event in this cycle, as it stood before the first of them (R11). -/
def State.fldBefore (s : State) (f : Fld) : Nat :=
  match (s.evtsOf f).getLast? with
  | some e => e.before
  | none => s.fld f

/-- What hardware has added to a field in this cycle. -/
def State.fldAdded (s : State) (f : Fld) : Nat := ((s.evtsOf f).map RegEvt.added).foldl (· + ·) 0

/-- A read clears an RC field, but for what hardware adds to it in this cycle (R11). -/
def State.clearRc (s : State) (f : Fld) : State :=
  let n := s.fldAdded f
  let s := s.setFld f (min (2 ^ (f.hi + 1 - f.lo) - 1) n)
  if n = 0 then s
  else
    { s with now := { s.now with
        evts := ⟨f.addr, f.hi, f.lo, 0, n⟩ :: s.now.evts.filter (fun e => !(e.addr == f.addr && e.hi == f.hi && e.lo == f.lo)) } }

/-- What hardware has counted in this cycle is taken back in part: a later event of the cycle has made it not happen (R11, R451). -/
def State.uncountFld (s : State) (f : Fld) (n : Nat) : State :=
  let b := s.fldBefore f
  let k := s.fldAdded f - n
  let s := s.setFld f (min (2 ^ (f.hi + 1 - f.lo) - 1) (b + k))
  { s with now := { s.now with
      evts := ⟨f.addr, f.hi, f.lo, b, k⟩ :: s.now.evts.filter (fun e => !(e.addr == f.addr && e.hi == f.hi && e.lo == f.lo)) } }

/-- What a whole-register action acts on (R583). -/
def State.formed (s : State) (a off len v : Nat) : Nat :=
  formedValue (fieldsAt a) (s.reg a).toNat (v <<< (8 * off)) (coverMask off len)

/-- Is the commit word of bank `b` of tile `t` set (R207)? -/
def commitAddr (t b : Nat) : Nat := tileBase t + 0x80000 + 0x20000 * b + 0x1FFF0

def State.commitSet (s : State) (t b : Nat) : Bool := (s.byte (commitAddr t b)).toNat % 2 == 1

/-- TA_SEQ shows MARK and the standby bank's commit word (R164, R219). -/
def State.regView (s : State) (a : Nat) : Nat :=
  let v := (s.reg a).toNat
  if 0x11000000000 ≤ a ∧ a < 0x11080000000 ∧ (a - 0x11000000000) % 0x100000 = 0xF8300 then
    let t := (a - 0x11000000000) / 0x100000
    putBits (putBits v 30 30 (s.fld (R.TA_BANKCTL_MARK t))) 29 29 (b2n (s.commitSet t (1 - s.fld (R.TA_SEQ_BANK t))))
  else v

/-- The value a read returns: WO fields and reserved bits read as zero (Table 0.5, R12); an RC field reads as it stood before
this cycle's events (R11). -/
def State.regShown (s : State) (a : Nat) : Nat :=
  let v := s.regView a
  (fieldsAt a).foldl (fun x f => match f.acc with
    | .wo => x
    | .rc => Nat.lor x (s.fldBefore ⟨a, f.hi, f.lo⟩ <<< f.lo)
    | _ => Nat.lor x (Nat.land v (maskOf f.hi f.lo))) 0

/-- The state after a read of bytes [off, off + len): RC fields with a byte among them are cleared (R10, R583). -/
def State.regReadEffect (s : State) (a off len : Nat) : State :=
  (fieldsAt a).foldl (fun t f => match f.acc with
    | .rc => if Nat.land (maskOf f.hi f.lo) (coverMask off len) ≠ 0 then t.clearRc ⟨a, f.hi, f.lo⟩ else t
    | _ => t) s

/-- A read: the bytes named, and the state after it. -/
def State.regRead (s : State) (a off len : Nat) : Nat × State :=
  ((s.regShown a >>> (8 * off)) % 2 ^ (8 * len), s.regReadEffect a off len)

/-- A register may be reached by a naturally aligned access of 1, 2, 4 or 8 bytes (R583). -/
def regAligned (a len : Nat) : Bool := (len == 1 || len == 2 || len == 4 || len == 8) && a % len == 0

/-- Tile registers: an offset no register occupies is reserved (R25, R174). -/
def tileRegMapped (a : Nat) : Bool := (regDefAt (a / 8 * 8)).isSome

/-- The register at `a` keeps its present value for the operations of this cycle: a write now acts on those issued from the
next cycle on (R131, R196). -/
def State.keepForce (s : State) (a : Nat) : State :=
  if s.now.inForce.any (fun p => p.1 == a) then s
  else { s with now := { s.now with inForce := (a, s.reg a) :: s.now.inForce } }

/-- The value of a register that this cycle's operations go by. -/
def State.regInForce (s : State) (a : Nat) : Word :=
  match s.now.inForce.find? (fun p => p.1 == a) with
  | some p => p.2
  | none => s.reg a

/-- The generators of a unit start again in the next stage cycle: a tile's number, or 4096 + 16 × stack + engine (R98, R262). -/
def State.reseedSoon (s : State) (u : Nat) : State :=
  { s with now := { s.now with reseeds := u :: s.now.reseeds.filter (fun x => decide (x ≠ u)) } }

/-- A write of TA_SR_SEED: the generators of the tile start again in the next stage cycle, and this cycle's draws are still the
old seed's (R101). -/
def State.seedWrite (s : State) (t off len v : Nat) : State :=
  let a := R.TA_SR_SEED t
  ((s.keepForce a).regWrite a off len v).reseedSoon t

/-- The round-robin of a register's writers goes on from the MID after this one (R584). -/
def State.writerGranted (s : State) (mid a : Nat) : State := { s with regPtr := smapSet 1 s.regPtr (a / 8 * 8) ((mid + 1) % 4096) }

/-- A store of the tile itself to one of its registers, under the register's access codes (R174, R583, R584); TA_BANKCTL is not
the tile's to write (R219), and what acts by TA_MFMT, TA_PCTL keeps to the old value in this cycle (R131, R196). -/
def State.tileRegStore (s : State) (t a n v : Nat) : State :=
  let r := a / 8 * 8
  let s := s.writerGranted (tileMid t) r
  if r = R.TA_BANKCTL t then s
  else if r = R.TA_SR_SEED t then s.seedWrite t (a % 8) n v
  else if r = R.TA_MFMT t ∨ r = R.TA_PCTL t then (s.keepForce r).regWrite r (a % 8) n v
  else s.regWrite r (a % 8) n v

end Sys2Proof.Machine
end

