-- ==== Sys2Proof/Machine/Memory.lean ====
section
/-!
DEFINITION. Machine/Memory.lean: the address map (R22-R27), the homes and interleave of the trap (R220-R228), the
memory-side cache (R229-R236), the narrow path (R237-R239), ECC and poison (R241-R247) and access rights by master. One
operation, `memAccess`, performs a read, write or partial write of any master and says how it ended.
-/
namespace Sys2Proof.Machine

/-- A place of Table 1.4 and Table 1.5. -/
inductive Region where
  | trap (stack loc : Nat)
  | wings (die off : Nat)
  | tdata (t : Nat)
  | tbank (t b : Nat)
  | tacc (t : Nat)
  | tshadow (t : Nat)
  | tpmem (t : Nat)
  | tregs (t : Nat)
  | breg (block : Nat)
  | ring
  | unmapped
  deriving DecidableEq, Repr

/-- Home stack and stack-local address of a trap address (R226, Table 8.3). -/
def trapHome (a : Nat) : Nat × Nat :=
  if a < 2 ^ 39 then
    (Nat.xor (bitsOf a 14 12) (bitsOf a 20 18), bitsOf a 38 15 * 4096 + bitsOf a 11 0)
  else (bitsOf a 38 36, 0x1000000000 + bitsOf a 35 0)

/-- The part of a tile window an offset lies in (Table 1.5). -/
def windowRegion (t o : Nat) : Region :=
  if o < 0x80000 then .tdata t
  else if o < 0xA0000 then .tbank t 0
  else if o < 0xC0000 then .tbank t 1
  else if o < 0xE0000 then .tacc t
  else if o < 0xF0000 then .tshadow t
  else if o < 0xF8000 then .tpmem t
  else .tregs t

/-- Do `n` bytes at an offset of a session's ring region lie where Table 13.4 reserves nothing? -/
def ringSpan (off n : Nat) : Bool :=
  decide (off + n ≤ 0x110000) || [0x1FF000, 0x1FF080, 0x1FF100, 0x1FF180].any (fun b => decide (b ≤ off) && decide (off + n ≤ b + 8))

/-- The offsets of a session's ring region that Table 13.4 does not reserve. -/
def ringMapped (off : Nat) : Bool := ringSpan off 1

/-- Where an address lies (Tables 1.4 to 1.6, 8.1). `n` is the cache size in force: its slice is a reserved offset
(R221). -/
def regionOf (n a : Nat) : Region :=
  if a < 2 ^ 40 then .trap (trapHome a).1 (trapHome a).2
  else if a < 0x10000000000 + 2 ^ 36 then
    let o := a - 0x10000000000
    let die := o / 0x200000000
    let off := o % 0x200000000
    if 0x1F0000000 - 0x10000000 * n ≤ off ∧ off < 0x1F0000000 then .unmapped else .wings die off
  else if 0x11000000000 ≤ a ∧ a < 0x11080000000 then
    windowRegion ((a - 0x11000000000) / 0x100000) ((a - 0x11000000000) % 0x100000)
  else if 0x12000000000 ≤ a ∧ a < 0x12010000000 then
    let b := (a - 0x12000000000) / 0x1000000
    if b = 14 then (if ringMapped ((a - 0x12000000000) % 0x200000) then .ring else .unmapped) else if b = 15 then .unmapped
    else match regDefAt (a / 8 * 8) with
      | some _ => .breg b
      | none => .unmapped
  else .unmapped

/-- The masters of Table 1.7. -/
inductive Master where
  | booth (core : Nat) | security | mgmt | resil | session (k : Nat) | ingress | engine (n : Nat) | tile (t : Nat)
  | nobody
  deriving DecidableEq, Repr

def masterOf (mid : Nat) : Master :=
  if mid = 1 ∨ mid = 2 then .booth (mid - 1)
  else if mid = 3 then .security
  else if mid = 4 then .mgmt
  else if mid = 5 then .resil
  else if 0x10 ≤ mid ∧ mid ≤ 0x17 then .session (mid - 0x10)
  else if mid = 0x20 then .ingress
  else if 0x100 ≤ mid ∧ mid ≤ 0x17F then .engine (mid - 0x100)
  else if 0x800 ≤ mid ∧ mid ≤ 0xFFF then .tile (mid - 0x800)
  else .nobody

/-- Registers the management block may read (Table 1.8). -/
def mgmtReads (a : Nat) (block : Nat) : Bool :=
  block == 7 || block == 5 || block == 6 || a == R.RS_RISK || a == R.BT_MODE
    || (block == 11 && (List.range 8).any (fun i => a == R.TP_STATUS i))

/-- Table 1.8: does this master have this right at this place? The windows and rings of a session are checked by the front
of house. -/
def allowed (m : Master) (write reduce : Bool) (r : Region) (a : Nat) : Bool :=
  match m, r with
  | .booth _, .unmapped => false
  | .booth _, _ => !reduce
  | .security, .unmapped => false
  | .security, .tbank _ _ => !write && !reduce
  | .security, _ => !reduce
  | .mgmt, .tregs _ => !write && !reduce
  | .mgmt, .breg b => !write && !reduce && mgmtReads (a / 8 * 8) b
  | .resil, .trap _ _ => !reduce
  | .resil, .wings _ _ => !reduce
  | .resil, .tdata _ => !write && !reduce
  | .resil, .tacc _ => !write && !reduce
  | .resil, .tshadow _ => !write && !reduce
  | .resil, .tpmem _ => !write && !reduce
  | .resil, .breg b => b == 4 && !reduce
  | .session _, .trap _ _ => !reduce
  | .session _, .wings _ _ => !reduce
  | .session _, .ring => !reduce
  | .ingress, .trap _ _ => true
  | .ingress, .wings _ _ => true
  | .ingress, .tdata _ => write && !reduce
  | .engine _, .trap _ _ => !reduce
  | .engine _, .wings _ _ => !reduce
  | .tile _, .trap _ _ => true
  | .tile _, .wings _ _ => true
  | .tile _, .tdata _ => !reduce
  | .tile _, .tacc _ => !reduce
  | .tile _, .tshadow _ => !reduce
  | .tile n, .tpmem t => n == t && !reduce
  | .tile n, .tregs t => n == t && !reduce
  | _, _ => false

/-- Base of the protected unit that holds an address (Table 8.6). -/
def unitSize (r : Region) : Nat :=
  match r with
  | .trap _ _ => 32
  | .tbank _ _ => 16
  | _ => 8

def unitBase (r : Region) (a : Nat) : Nat := a / unitSize r * unitSize r

/-- The unit bases an access of `len` bytes touches, ascending. -/
def unitsOver (r : Region) (a len : Nat) : List Nat :=
  if len = 0 then []
  else
    let u := unitSize r
    (List.range ((a + len - 1) / u - a / u + 1)).map (fun i => (a / u + i) * u)

/-- The pieces of [a, a + len) that lie in one 128-byte granule each. -/
def granulesOver (a len : Nat) : List (Nat × Nat) :=
  if len = 0 then []
  else (List.range ((a + len - 1) / 128 - a / 128 + 1)).map (fun i =>
    let lo := max a ((a / 128 + i) * 128)
    let hi := min (a + len) ((a / 128 + i + 1) * 128)
    (lo, hi - lo))

/-- Does the granule of an address reach into a range that a running trap-engine descriptor owns (R235)? -/
def State.passes (s : State) (a : Nat) : Bool :=
  s.passRanges.any (fun r => decide (r.1 < r.2) && decide (r.1 < a / 128 * 128 + 128) && decide (a / 128 * 128 < r.2))

/-- May trap accesses use the cache now (R229, R230, R235)? -/
def State.cacheable (s : State) (a : Nat) : Bool :=
  decide (s.cacheN ≠ 0) && !s.bit R.WG_CACHE_CTL_BUSY && !s.passes a

/-- The line of granule `g`. -/
def State.line (s : State) (g : Nat) : CLine := smapGet CLine.none s.cache g

def State.setLine (s : State) (g : Nat) (l : CLine) : State := { s with cache := smapSet CLine.none s.cache g l }

/-- Write a line's bytes and poison back to its stack. -/
def State.storeLine (s : State) (g : Nat) (l : CLine) : State :=
  let s := s.setBytes (g * 128) l.data
  (List.range 4).foldl (fun t i => let u := g * 128 + 32 * i; t.setPoison u (l.psn.contains u)) s

/-- Write back a dirty line (R233, R234); counted in WG_WRITEBACKS, which saturates (R259). -/
def State.writeBack (s : State) (g : Nat) : State :=
  let l := s.line g
  if l.valid && l.dirty then
    ((s.storeLine g l).setLine g { l with dirty := false }).addFld (R.WG_WRITEBACKS_COUNT (trapHome (g * 128)).1) 1
  else s

/-- Write back and invalidate (R234, R235). -/
def State.flushLine (s : State) (g : Nat) : State := (s.writeBack g).setLine g CLine.none

/-- Write back and invalidate every line of a range. -/
def State.flushRange (s : State) (a len : Nat) : State :=
  ((s.cache.map Prod.fst).filter (fun g => decide (a < g * 128 + 128) && decide (g * 128 < a + len))).foldl
    (fun t g => t.flushLine g) s

/-- The set a granule's line falls in (R229). -/
def cacheSet (n g : Nat) : Nat × Nat :=
  let h := trapHome (g * 128)
  (h.1, (h.2 / 128) % (n * 2 ^ 17))

/-- The victim of a full set: the least recently used line not marked KEEP, else the least recently used (R233). -/
def victimOf (lines : List (Nat × CLine)) : Option Nat :=
  let pick := fun (l : List (Nat × CLine)) => l.foldl (fun (b : Option (Nat × CLine)) p =>
    match b with
    | none => some p
    | some q => if p.2.stamp < q.2.stamp then some p else b) none
  match pick (lines.filter (fun p => !p.2.keep)) with
  | some p => some p.1
  | none => (pick lines).map Prod.fst

/-- Allocate a line for granule `g`, evicting where its set is full (R231, R233). -/
def State.allocLine (s : State) (g : Nat) (keep : Bool) : State :=
  let cs := cacheSet s.cacheN g
  let same := s.cache.filter (fun p => p.2.valid && cacheSet s.cacheN p.1 == cs)
  let s := if same.length < 16 then s
    else match victimOf same with
      | some v => s.flushLine v
      | none => s
  let psn := ((List.range 4).map (fun i => g * 128 + 32 * i)).filter (fun u => s.poisoned u)
  { (s.setLine g ⟨true, false, keep, s.cacheClock, s.bytes (g * 128) 128, psn⟩) with cacheClock := s.cacheClock + 1 }

/-- The current bytes of a trap piece, as its home serves them (R236). -/
def State.trapBytes (s : State) (a len : Nat) : List Byte :=
  let l := s.line (a / 128)
  if l.valid then (l.data.drop (a % 128)).take len else s.bytes a len

/-- Is a trap sector poisoned, as its home serves it? -/
def State.trapPoisoned (s : State) (u : Nat) : Bool :=
  let l := s.line (u / 128)
  if l.valid then l.psn.contains u else s.poisoned u

def State.setTrapPoison (s : State) (u : Nat) (p : Bool) : State :=
  let l := s.line (u / 128)
  if l.valid then
    s.setLine (u / 128) { l with psn := if p then (if l.psn.contains u then l.psn else u :: l.psn) else l.psn.filter (fun x => decide (x ≠ u)) }
  else s.setPoison u p

/-- Effect of a read of one granule piece on the cache (Table 8.4, R232, R238). -/
def State.cacheOnRead (s : State) (a len hint : Nat) (narrow : Bool) : State :=
  let g := a / 128
  let d := (trapHome a).1
  let l := s.line g
  if !s.cacheable a then s
  else if l.valid then
    let s := s.addFld (R.WG_HITS_COUNT d) 1
    if narrow then s
    else if hint = 0 then { (s.setLine g { l with stamp := s.cacheClock }) with cacheClock := s.cacheClock + 1 }
    else if hint = 2 then s.setLine g { l with keep := true }
    else if hint = 3 ∧ len = 128 then (s.setLine g CLine.none).addFld (R.WG_DROPS_COUNT d) 1
    else s
  else
    let s := s.addFld (R.WG_MISSES_COUNT d) 1
    if narrow || hint == 1 || hint == 3 then s else s.allocLine g (hint == 2)

/-- Effect of a write of one granule piece on the cache: one hit or miss, the replacement state, the line allocated (Table
8.4, R238, R259). -/
def State.cacheOnWrite (s : State) (a hint : Nat) (narrow : Bool) : State :=
  let g := a / 128
  let d := (trapHome a).1
  let l := s.line g
  if l.valid then
    let s := s.addFld (R.WG_HITS_COUNT d) 1
    if narrow then s
    else if hint = 0 then { (s.setLine g { l with stamp := s.cacheClock }) with cacheClock := s.cacheClock + 1 }
    else if hint = 2 then s.setLine g { l with keep := true }
    else s
  else if s.cacheable a then
    let s := s.addFld (R.WG_MISSES_COUNT d) 1
    if narrow || hint == 1 || hint == 3 then s else s.allocLine g (hint == 2)
  else s

/-- Bytes of one sector written where the home keeps the granule now: its line, which becomes dirty, or the stack. -/
def State.trapWritePiece (s : State) (a : Nat) (data : List Byte) : State :=
  let g := a / 128
  let l := s.line g
  if l.valid then
    s.setLine g { l with dirty := true, data := l.data.take (a % 128) ++ data ++ l.data.drop (a % 128 + data.length) }
  else s.setBytes a data

/-- First unused entry, or the lowest count with the older entry on a tie (R248). -/
def watchAdd (l : List WatchEnt) (page age : Nat) : List WatchEnt × Nat :=
  match l.find? (fun e => e.page == page) with
  | some e => (l.map (fun x => if x.page = page then { x with count := x.count + 1 } else x), e.count + 1)
  | none =>
    if l.length < 1024 then (l ++ [⟨page, 1, age⟩], 1)
    else
      let v := l.foldl (fun (b : WatchEnt) e => if e.count < b.count ∨ (e.count = b.count ∧ e.age < b.age) then e else b)
        (l.headD ⟨0, 0, 0⟩)
      (l.filter (fun e => decide (e ≠ v)) ++ [⟨page, 1, age⟩], 1)

/-- A corrected error in a stack: counted, and entered in the watch table (R242, R248). -/
def State.watchError (s : State) (mid stack loc a : Nat) : State :=
  let s := s.countFld (R.TP_ECC_CORRECTED stack) 1
  let r := watchAdd (smapGet [] s.watch stack) (bitsOf loc 36 16) s.cycle
  let s := { s with watch := smapSet [] s.watch stack r.1 }
  let th := s.fld (R.TP_CE_CFG_THRESH stack)
  if th ≠ 0 ∧ r.2 = th then (s.memEvent mid 0x48 a).health 8 else s

/-- A correctable error met by an access (R242): in a cached line it is the wings that hold the granule, in their cache slice. -/
def State.eccCorrected (s : State) (mid : Nat) (r : Region) (a : Nat) : State :=
  match r with
  | .trap st loc => if (s.line (a / 128)).valid then s.countFld (R.WG_ECC_CORRECTED st) 1 else s.watchError mid st loc a
  | .wings d _ => s.countFld (R.WG_ECC_CORRECTED d) 1
  | .tbank t _ => s.pbEntry pbCorrected (tileMid t) 0 (s.mySeat * 2 ^ 44 + a)
  | .tdata t | .tacc t | .tshadow t | .tpmem t =>
    if s.corrSeen.contains t then s
    else { (s.pbEntry pbCorrected mid 0 (s.mySeat * 2 ^ 44 + a)) with corrSeen := t :: s.corrSeen }
  | _ => s

/-- TP_ERRLOG0 and TP_ERRLOG1 take the first record since VALID was cleared (R260). -/
def State.errLog (s : State) (st cause u mid : Nat) : State :=
  if s.bit (R.TP_ERRLOG0_VALID st) then s
  else ((((s.raiseFld (R.TP_ERRLOG0_VALID st)).setFld (R.TP_ERRLOG0_CAUSE st) cause).setFld
    (R.TP_ERRLOG0_ADDR st) u).setFld (R.TP_ERRLOG1_MID st) mid).setFld (R.TP_ERRLOG1_CUE st) s.cue

/-- An uncorrectable error in a sector of a stack: poisoned in place, counted, recorded (R243, R260). -/
def State.stackUncorr (s : State) (mid st u : Nat) : State :=
  ((s.setPoison u true).countFld (R.TP_ECC_UNCORR st) 1).errLog st 0x42 u mid

/-- An uncorrectable error: the unit is poisoned in place and recorded (R243, R260), in the wings where a line is cached. -/
def State.eccUncorrectable (s : State) (mid : Nat) (r : Region) (a : Nat) : State :=
  let u := unitBase r a
  match r with
  | .trap st _ =>
    if (s.line (a / 128)).valid then (s.setTrapPoison u true).countFld (R.WG_ECC_UNCORR st) 1 else s.stackUncorr mid st u
  | .wings d _ => (s.setPoison u true).countFld (R.WG_ECC_UNCORR d) 1
  | .tdata _ | .tacc _ | .tshadow _ | .tpmem _ => s.setPoison u true
  | _ => s

/-- Is the unit at base `u` of this region poisoned? -/
def State.unitPoisoned (s : State) (r : Region) (u : Nat) : Bool :=
  match r with
  | .trap _ _ => s.trapPoisoned u
  | _ => s.poisoned u

/-- Does a commit of this cycle stand over a write of a byte by `who`: a tile's own operation and its place in issue order, or
another master (R116, R146, R172)? -/
def State.isWon (s : State) (a : Nat) (who : Option (Nat × Nat)) : Bool :=
  s.won.any (fun w => decide (w.addr ≤ a) && decide (a < w.addr + w.len)
    && (match who with | some (t, o) => !(w.tile == t && decide (w.ord ≤ o)) | none => true))

/-- Note a commit of one of a tile's engines (R116, R172). -/
def State.win (s : State) (t ord a n : Nat) : State := { s with won := ⟨a, n, t, ord⟩ :: s.won }

/-- The bits of those bytes of a register that `p` holds of. -/
def byteMask (p : Nat → Bool) : Word := BitVec.ofNat 64 (((List.range 8).map (fun i => if p i then 0xFF <<< (8 * i) else 0)).foldl (· + ·) 0)

/-- A commit of a tile's own operation to the bits of a register under a mask: where a later-issued operation has committed in
the same cycle, that stands (R146, R171). -/
def State.commitReg (s : State) (t ord a : Nat) (v mask : Word) : State :=
  let m := if s.won.isEmpty then mask else mask &&& byteMask (fun i => !s.isWon (a + i) (some (t, ord)))
  let s := s.setReg a ((s.reg a &&& ~~~m) ||| (v &&& m))
  if mask = -1 then s.win t ord a 8
  else ((List.range 8).filter (fun i => (mask.toNat >>> (8 * i)) % 256 != 0)).foldl (fun u i => u.win t ord (a + i) 1) s

/-- A write by any master through the tile window to a unit of a sampled tag abandons the sample (R301). -/
def State.dcWindowWrite (s : State) (t a len : Nat) : State :=
  match (s.tile t).chain with
  | none => s
  | some c =>
    let lo := tileBase t + offAcc + c.tag * 512
    if a < lo + c.units * 512 ∧ lo < a + len then s.dcAbandon t else s

/-- The bank a write finds in use: the one TA_SEQ.BANK names (R209). -/
def State.bankInUse (s : State) (t : Nat) : Nat := s.fld (R.TA_SEQ_BANK t)

/-- A booth write to the standby bank (R156, R208): a whole commit word with SET = 1 commits; anything else is an image
write, which clears the commit word and leaves its bytes alone. -/
def State.bankWrite (s : State) (t b a : Nat) (data : List Byte) : State :=
  let cw := commitAddr t b
  let covers := decide (a ≤ cw) && decide (cw + 16 ≤ a + data.length)
  let word := (data.drop (cw - a)).take 16
  let others := fun (u : State) => data.zipIdx.foldl (fun (v : State) p =>
    if cw ≤ a + p.2 then v else v.setByte (a + p.2) p.1) u
  if covers && (ofLe word % 2 == 1) then (others s).setBytes cw word
  else (others s).setBytes cw (List.replicate 16 0)

/-- Bytes written unit by unit: a unit written whole loses its poison, a part of a poisoned unit is not written (R246).
Answers whether poison refused a part. -/
def State.writeUnits (s : State) (r : Region) (a : Nat) (data : List Byte) (wr : State → Nat → List Byte → State) :
    State × Bool :=
  (unitsOver r a data.length).foldl (fun (st : State × Bool) u =>
    let lo := max a u
    let hi := min (a + data.length) (u + unitSize r)
    let piece := (data.drop (lo - a)).take (hi - lo)
    let whole := decide (hi - lo = unitSize r)
    if st.1.unitPoisoned r u && !whole then (st.1, true)
    else
      let t := wr st.1 lo piece
      ((match r with
        | .trap _ _ => if whole then t.setTrapPoison u false else t
        | _ => if whole then t.setPoison u false else t), st.2)) (s, false)

/-- How an access ended: the cause (0 for none), the data of a read (zeros where nothing was read), the poisoned units a
read met or a write left, and the VERSION the response carries (R268, R337). -/
structure MemEnd where
  cause : Nat
  data : List Byte
  poison : List Nat
  version : Nat := 0
  deriving DecidableEq, Repr

/-- One access of a master. -/
structure MemReq where
  mid : Nat
  addr : Nat
  len : Nat
  write : Option (List Byte)
  hint : Nat
  narrow : Bool
  ecc : EccFinding
  /-- Place in its tile's issue order, of an access a tile's operation makes (R146). -/
  ord : Option Nat := none
  deriving DecidableEq, Repr

def noEcc : EccFinding := ⟨none, none⟩

/-- Bytes written into a tile's data SRAM, for the MMs that still read their panels (R108). -/
def State.noteWrites (s : State) (a : Nat) (l : List Byte) : State :=
  let t := (a - 0x11000000000) / 0x100000
  let x := s.tile t
  if x.jobs.isEmpty then s
  else s.setTile t { x with jobs := x.jobs.map (fun j => { j with alts := j.alts ++ l.zipIdx.map (fun p => (a + p.2, p.1)) }) }

/-- A write to a tile's store by a master or a data mover skips the bytes that a commit of this cycle owns; a tile's own
operation owns its bytes in turn. -/
def State.sramWrite (s : State) (a : Nat) (who : Option (Nat × Nat)) (data : List Byte) : State :=
  let s := data.zipIdx.foldl (fun t p => if t.isWon (a + p.2) who then t else (t.setByte (a + p.2) p.1).noteWrites (a + p.2) [p.1]) s
  match who with
  | some (t, o) => s.win t o a data.length
  | none => s

/-- The tile whose store or registers a place is in. -/
def Region.tile? : Region → Option Nat
  | .tdata t => some t | .tacc t => some t | .tshadow t => some t | .tpmem t => some t | .tregs t => some t
  | _ => none

/-- The tile's own operation an access is part of, where it reaches that tile's own window. -/
def MemReq.who (q : MemReq) (r : Region) : Option (Nat × Nat) :=
  match r.tile?, q.ord with
  | some t, some o => if q.mid = tileMid t then some (t, o) else none
  | _, _ => none

/-- A protected unit that this error will be found in when it is next read: 1 correctable, 2 not. -/
def State.setFlaw (s : State) (u k : Nat) : State := { s with flaws := smapSet 0 s.flaws u k }

/-- An error stands in the unit that holds `x`, for the next reader of it, whoever that is. -/
def State.plantFlaw (s : State) (x : Option Nat) (k : Nat) : State :=
  match x with
  | none => s
  | some u =>
    match regionOf s.cacheN u with
    | .unmapped | .breg _ | .tregs _ | .ring => s
    | r => s.setFlaw (unitBase r u) k

/-- What the codes are to find: the errors stand in their units before the access that may read them (R242, R243). -/
def State.plant (s : State) (e : EccFinding) : State := (s.plantFlaw e.corrected 1).plantFlaw e.uncorrectable 2

/-- One unit is read: a correctable error in it is corrected and counted or entered, an uncorrectable one poisons it and is recorded, in a
tile's store with the reader's MID and the word's address (R242, R243). Answers whether it was uncorrectable. -/
def State.meetFlaw (s : State) (mid u : Nat) : Bool × State :=
  let k := smapGet 0 s.flaws u
  let r := regionOf s.cacheN u
  if k = 0 then (false, s)
  else if k = 1 then (false, (s.eccCorrected mid r u).setFlaw u 0)
  else
    let t := s.eccUncorrectable mid r u
    (true, (if r.tile?.isSome then t.memEntry mid 0x42 (s.mySeat * 2 ^ 44 + u) else t).setFlaw u 0)

/-- A reader meets the errors of the units it touches. -/
def State.meetFlaws (s : State) (mid a n : Nat) : Bool × State :=
  if s.flaws.isEmpty then (false, s)
  else (unitsOver (regionOf s.cacheN a) a n).foldl (fun acc u => let r := acc.2.meetFlaw mid u; (acc.1 || r.1, r.2)) (false, s)

/-- A unit written whole has no error left. -/
def State.cleanFlaws (s : State) (a n : Nat) : State :=
  if s.flaws.isEmpty then s
  else
    let r := regionOf s.cacheN a
    ((unitsOver r a n).filter (fun u => decide (a ≤ u) && decide (u + unitSize r ≤ a + n))).foldl (fun t u => t.setFlaw u 0) s

/-- The inputs of a home's arbiter (R228). -/
inductive HomeIn where
  | c0 | c1 | scrub | retire
  deriving DecidableEq, Repr

def HomeIn.idx : HomeIn → Nat
  | .c0 => 0 | .c1 => 1 | .scrub => 2 | .retire => 3

/-- The arbiter an access passes: the trap home of its stack, or the port of its wings block, which is (o >> 10) mod 64 of the
die (R222, R228). -/
def arbiterOf (r : Region) : Option (Nat × Nat) :=
  match r with
  | .trap st _ => some (st, 4)
  | .wings d off => some (8 + 64 * d + bitsOf off 15 10, 3)
  | _ => none

/-- A home grants an access: its round-robin goes on from the input after it (R228). -/
def State.homeGrant (s : State) (r : Region) (i : HomeIn) : State :=
  match arbiterOf r with
  | some (k, n) => { s with arb := smapSet 0 s.arb k ((i.idx + 1) % n) }
  | none => s

/-- The input a request comes in at: reduce-writes and writes travel in class C0, reads in class C1. -/
def MemReq.input (q : MemReq) : HomeIn := if q.write.isSome then .c0 else .c1

/-- A read that R25 and R27 let through, performed at its home (R227, R241-R245, R260). -/
def State.performRead (s : State) (q : MemReq) (r : Region) : MemEnd × State :=
  let met := match r with | .trap _ _ => (unitsOver r q.addr q.len).any (fun u => s.trapPoisoned u) | _ => false
  let f := (s.plant q.ecc).meetFlaws q.mid q.addr q.len
  let s := f.2
  let c := if f.1 then 0x42 else 0
  match r with
  | .trap st _ =>
    let data := (granulesOver q.addr q.len).flatMap (fun p => s.trapBytes p.1 p.2)
    let ps := (unitsOver r q.addr q.len).filter (fun u => s.trapPoisoned u)
    let s := if met then s.countFld (R.TP_ECC_POISON_READS st) 1 else s
    let s := (granulesOver q.addr q.len).foldl (fun t p => t.cacheOnRead p.1 p.2 q.hint q.narrow) s
    (⟨c, data, ps, 0⟩, s)
  | _ => (⟨c, s.bytes q.addr q.len, (unitsOver r q.addr q.len).filter (fun u => s.poisoned u), 0⟩, s)

/-- The sectors a write covers in part are read and merged, and that read may meet errors (R239). -/
def State.mergeReads (s : State) (mid : Nat) (us : List Nat) : Bool × State :=
  us.foldl (fun acc u => let r := acc.2.meetFlaws mid u 32; (acc.1 || r.1, r.2)) (false, s)

/-- The units outside the trap that a write leaves, since it covers a poisoned one in part (R246). -/
def State.leftUnits (s : State) (r : Region) (q : MemReq) : List Nat :=
  (unitsOver r q.addr q.len).filter (fun u => !(decide (q.addr ≤ u) && decide (u + unitSize r ≤ q.addr + q.len)) && s.poisoned u)

/-- A write that R25 and R27 let through, performed at its home (R227, R239, R243, R246). -/
def State.performWrite (s : State) (q : MemReq) (r : Region) (data : List Byte) : MemEnd × State :=
  let s := s.plant q.ecc
  match r with
  | .trap st _ =>
    let partials := (unitsOver r q.addr q.len).filter (fun u => !(decide (q.addr ≤ u) && decide (u + 32 ≤ q.addr + q.len)))
    let old := partials.any (fun u => s.trapPoisoned u)
    let f := s.mergeReads q.mid partials
    let s := f.2.cleanFlaws q.addr data.length
    let s := if old then s.countFld (R.TP_ECC_POISON_READS st) 1 else s
    let s := (granulesOver q.addr q.len).foldl (fun t p => t.cacheOnWrite p.1 q.hint q.narrow) s
    let w := s.writeUnits r q.addr data (fun t lo piece => t.trapWritePiece lo piece)
    (⟨if f.1 then 0x42 else if w.2 then 0x43 else 0, [], partials.filter (fun u => s.trapPoisoned u), 0⟩, w.1)
  | .tbank t b => (⟨0, [], [], 0⟩, (s.cleanFlaws q.addr data.length).bankWrite t b q.addr data)
  | .wings _ _ =>
    let w := (s.cleanFlaws q.addr data.length).writeUnits r q.addr data (fun t lo piece => t.setBytes lo piece)
    (⟨if w.2 then 0x43 else 0, [], s.leftUnits r q, 0⟩, w.1)
  | .ring => (⟨0, [], [], 0⟩, s.setBytes q.addr data)
  | _ =>
    let s := match r with
      | .tacc t => s.dcWindowWrite t q.addr data.length
      | _ => s
    let w := (s.cleanFlaws q.addr data.length).writeUnits r q.addr data (fun t lo piece => t.sramWrite lo (q.who r) piece)
    (⟨if w.2 then 0x43 else 0, [], s.leftUnits r q, 0⟩, w.1)

/-- Is the master a trap engine? Its accesses are performed in the base die, past the controller and its arbiter (R227, R235). -/
def Master.isEngine : Master → Bool
  | .engine _ => true
  | _ => false

/-- The access R25 and R27 let through, granted and performed at its home. -/
def State.perform (s : State) (q : MemReq) (r : Region) : MemEnd × State :=
  let s := if (masterOf q.mid).isEngine then s else s.homeGrant r q.input
  match q.write with
  | none => s.performRead q r
  | some data => s.performWrite q r data

/-- A tile reaches its own registers by device address (R27): an access of at most 8 bytes is one of one register, naturally aligned
(R583); a longer piece of a transfer goes register by register. What is not aligned, and what no register answers, is not performed
and is reported as R25 says. -/
def State.ownRegs (s : State) (q : MemReq) (t : Nat) : MemEnd × State :=
  if q.len ≤ 8 && !regAligned q.addr q.len then (⟨0x40, List.replicate q.len 0, [], 0⟩, s.memEntry q.mid 0x40 q.addr)
  else (unitsOver .ring q.addr q.len).foldl (fun acc u =>
    let lo := max q.addr u
    let n := min (q.addr + q.len) (u + 8) - lo
    let ok := tileRegMapped u && (n == 1 || n == 2 || n == 4 || n == 8) && lo % n == 0
    let fail := fun (c : Nat) =>
      ({ acc.1 with cause := if acc.1.cause = 0 then c else acc.1.cause, data := acc.1.data ++ List.replicate n 0 },
        acc.2.memEntry q.mid c lo)
    if !ok then fail 0x40
    else
      match q.write with
      | none => let r := acc.2.regRead u (lo % 8) n; ({ acc.1 with data := acc.1.data ++ leBytes r.1 n }, r.2)
      | some d =>
        if u = R.TA_BANKCTL t then fail 0x41
        else if acc.2.isWon u (q.who (.tregs t)) then acc
        else (acc.1, acc.2.tileRegStore t lo n (ofLe ((d.drop (lo - q.addr)).take n)))) (⟨0, [], [], 0⟩, s)

/-- The masters R268 binds. -/
def Master.named : Master → Bool
  | .tile _ => true | .ingress => true | .session _ => true | _ => false

/-- How an access to the wings of a die that failed its test ends (Table 16.2 names no cause): one of Table 8.9. -/
def deadWings : Nat := 0x40 + Config.deadWings.toNat % 7

/-- The access at its home: a stack that accepts no access (R255, R260, R507), a wings die
that failed its test (Table 16.2), a bank in use (R209), or `perform`. An access to a stopped stack that finds an error recorded is counted
nowhere (DESIGN CHOICE: UNCORR counts uncorrectable errors). -/
def State.atHome (s : State) (q : MemReq) (r : Region) : MemEnd × State :=
  let zeros := List.replicate q.len (0 : Byte)
  match r with
  | .trap st _ =>
    if !s.bit (R.TP_STATUS_ONLINE st) then
      ((⟨0x46, zeros, unitsOver r q.addr q.len, 0⟩ : MemEnd),
        (s.errLog st 0x46 (unitBase r q.addr) q.mid).memEntry q.mid 0x46 q.addr)
    else s.perform q r
  | .wings d _ =>
    if s.boot.failed.contains (0x100 + d) then ((⟨deadWings, zeros, unitsOver r q.addr q.len, 0⟩ : MemEnd), s.memEntry q.mid deadWings q.addr)
    else s.perform q r
  | .tbank t b =>
    if q.write.isSome && s.bankInUse t == b then
      ((⟨0x10, zeros, [], 0⟩ : MemEnd), s.pbEntry pbFault q.mid 0x10 q.addr)
    else s.perform q r
  | _ => s.perform q r

/-- One access to a memory or store (registers are reached by Machine/RegAccess.lean): the checks of R25, R27, R268, R209
and R255 in turn, each refusal logged with MID and address, then the access itself. Poisoned units of a read served from a
front copy are named at the addresses read. -/
def State.memAccess (s : State) (q : MemReq) : MemEnd × State :=
  let r := regionOf s.cacheN q.addr
  let zeros := List.replicate q.len (0 : Byte)
  let refuse := fun (c : Nat) => ((⟨c, zeros, [], 0⟩ : MemEnd), s.memEntry q.mid c q.addr)
  match r with
  | .unmapped => refuse 0x40
  | .breg _ => refuse 0x41
  | .tregs t => if q.mid = tileMid t then s.ownRegs q t else refuse 0x41
  | r =>
    if r == .ring && !ringSpan ((q.addr - 0x12000000000) % 0x200000) q.len then refuse 0x40
    else if !allowed (masterOf q.mid) q.write.isSome false r q.addr then refuse 0x41
    else
      match (if (masterOf q.mid).named then s.nameHit q.addr q.len q.write.isSome else .none) with
      | .refused => refuse 0x41
      | .none => s.atHome q r
      | .read a v =>
        let e := s.atHome { q with addr := a } (regionOf s.cacheN a)
        ({ e.1 with version := v, poison := e.1.poison.map (fun u => u + q.addr - a) }, e.2)

/-- An access with its cause recorded in the promptbook (R257), with the device address of the access (DESIGN CHOICE: Table 16.7 gives
DETAIL 59 bits, and the manual does not say whether the seat stands in them; an entry of an error in a tile's store, of a tile's
own cause and of a retired page has the global address). -/
def State.access (s : State) (q : MemReq) : MemEnd × State :=
  let e := s.memAccess q
  (e.1, if e.1.cause = 0x42 ∨ e.1.cause = 0x43 then
    e.2.memEntry q.mid e.1.cause q.addr else e.2)

end Sys2Proof.Machine
end

