-- ==== Sys2Proof/Machine/Flags.lean ====
section
/-!
DEFINITION. Machine/Flags.lean: what an operation's status does to TA_CVT_STATUS, TA_SAT_COUNT and the encoding counters of
its tile (R99, R100, R296, R297), and to the same registers of a stack.
-/
namespace Sys2Proof.Machine

/-- Status bits only ever set (R99); each is cleared by writing one, unless hardware sets it in that cycle too (R11). -/
def State.orReg (s : State) (a v : Nat) : State :=
  if v = 0 then s else (s.noteEvt ⟨a, 63, 0⟩ v).setReg a (BitVec.ofNat 64 (Nat.lor (s.reg a).toNat v))

/-- A counter of R296 stops at its all-ones value (R297, Table 10.5). -/
def EncCnt.sat (c : EncCnt) : EncCnt :=
  ⟨min (2 ^ 64 - 1) c.elements, min (2 ^ 32 - 1) c.saturated, min (2 ^ 32 - 1) c.vanished, min (2 ^ 32 - 1) c.blocks,
   min (2 ^ 32 - 1) c.zeroBlocks, min (2 ^ 32 - 1) c.escNarrowed, min (2 ^ 32 - 1) c.nanOut⟩

/-- What a converting unit counted in this stage cycle (R296, R298): tiles by number, the engines from 2048 on. -/
def State.countEnc (s : State) (k : Nat) (c : EncCnt) : State :=
  if c = EncCnt.zero then s else { s with now := { s.now with counted := s.now.counted ++ [(k, c)] } }

/-- A converting unit of tile `t` reports (R99, R100, R296). -/
def State.tileStat (s : State) (t : Nat) (c : CvtStat) : State :=
  let s := s.orReg (R.TA_CVT_STATUS t) c.flags
  let s := if c.sats = 0 then s else s.countFld (R.TA_SAT_COUNT_COUNT t) c.sats
  s.countEnc t c.enc

end Sys2Proof.Machine
end

