-- ==== Sys2Proof/Machine/Operands.lean ====
section
/-!
DEFINITION. Machine/Operands.lean: the operand forms of a tile's slots: x, f and v registers (R168-R171), effective
addresses and the checks on the own tile (R173-R175), rounding modes (R176), operand registers and format words of the
matrix engine (R109, R130, R131), wait counters (R150, R165).
-/
namespace Sys2Proof.Machine

/-- x[r] (R168: x0 reads as zero). -/
def State.x (s : State) (t r : Nat) : Word := if r = 0 then 0 else s.reg (R.TA_PXN t (r - 1))

/-- f[r]. -/
def State.f (s : State) (t r : Nat) : Word := s.reg (R.TA_PF t r)

/-- The low 32 or all 64 bits of an f register as an IEEE value (R170). -/
def fVal (dbl : Bool) (w : Word) : Val := if dbl then decB64 w.toNat else decB32 (w.toNat % 2 ^ 32)

/-- v[k] as a number of 512 bits, f(8k) lowest (R169). -/
def State.v (s : State) (t k : Nat) : Nat :=
  (List.range 8).foldl (fun a i => a + (s.f t (8 * k + i)).toNat <<< (64 * i)) 0

/-- Element j of width w (R169). -/
def vElem (v w j : Nat) : Nat := (v >>> (j * w)) % 2 ^ w

/-- VL (R183). -/
def State.vl (s : State) (t : Nat) : Nat := s.fld (R.TA_PVL_VL t)

/-- MAXVL of a width (R183). -/
def maxVl (w : Nat) : Nat := 512 / w

/-- TA_PCTL.FRM and TA_PCTL.VRM as this cycle's instructions find them (R196). -/
def State.frm (s : State) (t : Nat) : Nat := bitsOf (s.regInForce (R.TA_PCTL t)).toNat 6 4
def State.vrmCode (s : State) (t : Nat) : Nat := bitsOf (s.regInForce (R.TA_PCTL t)).toNat 2 0

/-- RM of a scalar instruction: the code, or TA_PCTL.FRM for 0b111 (R176). -/
def State.rmCode (s : State) (t : Nat) (rm : Rm) : Nat := if rm.val = 7 then s.frm t else rm.val

/-- The mode an IEEE operation uses, and whether it was replaced by RNE (R176). -/
def ieeeMode (code : Nat) : RMode × Bool :=
  match code with
  | 0 => (.rne, false) | 1 => (.rtz, false) | 2 => (.rup, false) | 3 => (.rdn, false) | _ => (.rne, true)

/-- The effective address x[rs1] + sext(imm16) (R173). -/
def State.effAddr (s : State) (t rs1 : Nat) (imm : BitVec 16) : Word := s.x t rs1 + imm.signExtend 64

/-- The checks of R175 on an own-tile access, but for poison: the device address, or the cause. -/
def ownAddr (t : Nat) (a : Word) (size align : Nat) : Except Nat Nat :=
  let n := a.toNat
  if n / 2 ^ 20 ≠ 0 then .error 0x21
  else if n % align ≠ 0 then .error 0x22
  else
    match windowRegion t (n % 2 ^ 20) with
    | .tbank _ _ => .error 0x24
    | .tregs _ =>
      if (unitsOver (.tregs t) (tileBase t + n) size).all (fun u => tileRegMapped u) then .ok (tileBase t + n) else .error 0x21
    | _ => .ok (tileBase t + n)

/-- Does a word of the access hold poison? -/
def State.wordsPoisoned (s : State) (a size : Nat) : Bool := (unitsOver (.ring) a size).any (fun u => s.poisoned u)

/-- Does a store cover only part of a poisoned word (R175)? -/
def State.partPoisoned (s : State) (a size : Nat) : Bool :=
  (unitsOver (.ring) a size).any (fun u => s.poisoned u && !(decide (a ≤ u) && decide (u + 8 ≤ a + size)))

/-- Is the device address among tile registers? -/
def isTileReg (a : Nat) : Bool := decide (offRegs ≤ (a - 0x11000000000) % 0x100000)

/-- Is it in the prompter's private memory (entry 0x23)? -/
def isPmem (a : Nat) : Bool :=
  let o := (a - 0x11000000000) % 0x100000
  decide (offPmem ≤ o) && decide (o < offRegs)

/-- Access size and register form of a scalar load. -/
def ldSize : LdKind → Nat
  | .b => 1 | .bu => 1 | .h => 2 | .hu => 2 | .w => 4 | .wu => 4 | .fw => 4 | .d => 8 | .fd => 8

/-- What a scalar load writes (R170, R178). -/
def ldValue (k : LdKind) (n : Nat) : Word :=
  match k with
  | .b => sextW 8 n | .h => sextW 16 n | .w => sextW 32 n
  | _ => BitVec.ofNat 64 n

def stSize : StKind → Nat
  | .b => 1 | .h => 2 | .w => 4 | .fw => 4 | .d => 8 | .fd => 8

/-- TA_OAn: the base the engine uses, with bits [6:0] cleared (R130). -/
def State.oaBase (s : State) (t n : Nat) : Nat := s.fld (R.TA_OA_BASE t n) / 128 * 128

/-- The format word FMTn of TA_MFMT, as this cycle's operations find it (R131). -/
def State.mfmt (s : State) (t n : Nat) : Nat := bitsOf (s.regInForce (R.TA_MFMT t)).toNat (16 * n + 15) (16 * n)

/-- Wait counter k (R165). -/
def wcFld (t k : Nat) : Fld :=
  if k < 8 then ⟨R.TA_WC_LO t, 8 * k + 7, 8 * k⟩ else ⟨R.TA_WC_HI t, 8 * (k - 8) + 7, 8 * (k - 8)⟩

def State.wc (s : State) (t k : Nat) : Nat := s.fld (wcFld t k)

/-- A counter rises by one in its operation's issue cycle and falls by one at completion (R150). -/
def State.wcInc (s : State) (t k : Nat) : State := s.setFld (wcFld t k) (s.wc t k + 1)

def State.wcDec (s : State) (t k : Nat) : State := s.setFld (wcFld t k) (s.wc t k - 1)

/-- Byte `o` of the data SRAM, offsets formed modulo 2¹⁹ (R106). -/
def State.dataByte (s : State) (t o : Nat) : Byte := s.byte (tileBase t + o % 2 ^ 19)

/-- Component `n` (of `size` bytes) of the accumulator units from `tag`. -/
def State.accBits (s : State) (t tag size n : Nat) : Nat := s.num (tileBase t + offAcc + tag * 512 + n * size) size

/-- Where an issue of the tile stands now: the bank in use, the bundle at RESUME and its repetition (R586). -/
def State.issuePt (s : State) (t : Nat) : IssuePt :=
  let bank := s.fld (R.TA_SEQ_BANK t)
  let b := s.fld (R.TA_SEQ_RESUME t)
  let rep := s.num (tileBase t + 0x80000 + 0x20000 * bank + 16 * b) 2 % 8192
  ⟨bank, b, rep - s.fld (R.TA_SEQ_REPEAT_LEFT t)⟩

end Sys2Proof.Machine
end

