-- ==== Sys2Proof/Machine/TileOps.lean ====
section
/-!
DEFINITION. Machine/TileOps.lean: shared operations of a tile: results scheduled for their ready cycle (R144, R145),
resources held (R148), faults sent to their trap point (R190), the point of issue (R140, R586), and the conditions under
which a tile can issue at all.
-/
namespace Sys2Proof.Machine

/-- An effect of the tile, `after` cycles from now, later in issue order than all before it. -/
def State.sched (s : State) (t after : Nat) (e : Eff) : State :=
  let x := s.tile t
  s.setTile t { x with acts := x.acts ++ [⟨s.active + after, x.ordNext, e⟩], ordNext := x.ordNext + 1 }

/-- An effect of an operation already issued, at its operation's place in issue order (R146). -/
def State.schedAt (s : State) (t after ord : Nat) (e : Eff) : State :=
  let x := s.tile t
  s.setTile t { x with acts := x.acts ++ [⟨s.active + after, ord, e⟩] }

/-- x[r] takes a value at its ready cycle; a write of x0 is discarded (R168). -/
def State.schedX (s : State) (t after r : Nat) (v : Word) : State :=
  if r = 0 then s else s.sched t after (.commit (R.TA_PXN t (r - 1)) v (-1))

/-- Bits of f[r] take a value at their ready cycle. -/
def State.schedF (s : State) (t after r : Nat) (v mask : Word) : State := s.sched t after (.commit (R.TA_PF t r) v mask)

/-- Bits of v[k] take a value (R169, R171): one commit for each f register beneath them. -/
def State.schedV (s : State) (t after k v mask : Nat) : State :=
  (List.range 8).foldl (fun u i =>
    let m := (mask >>> (64 * i)) % 2 ^ 64
    if m = 0 then u else u.schedF t after (8 * k + i) (BitVec.ofNat 64 (v >>> (64 * i))) (BitVec.ofNat 64 m)) s

/-- The parts of v[k] a vector result commits: each f register beneath, its value and mask (R169, R171). -/
def vCommits (t k v mask : Nat) : List Eff :=
  (List.range 8).filterMap (fun i =>
    let m := (mask >>> (64 * i)) % 2 ^ 64
    if m = 0 then none
    else some (.commit (R.TA_PF t (8 * k + i)) (BitVec.ofNat 64 (v >>> (64 * i))) (BitVec.ofNat 64 m)))

/-- A conversion or arithmetic status at its ready cycle. -/
def State.schedStat (s : State) (t after : Nat) (c : CvtStat) : State :=
  if c = CvtStat.none then s else s.sched t after (.stat c)

-- Resource codes of Table 5.12.
def resArray : Nat := 1
def resDrainp : Nat := 2
def resAlu : Nat := 3
def resMul : Nat := 4
def resDiv : Nat := 5
def resLsu : Nat := 6
def resFpu : Nat := 7
def resVec : Nat := 8
def resVmem : Nat := 9
def resDmq : Nat := 10
def resSync : Nat := 11

/-- The first cycle in which a resource is free. -/
def TileX.freeAt (x : TileX) (r : Nat) : Nat := x.busy.getD r 0

/-- Hold a resource from now for its occupancy (R148). -/
def State.hold (s : State) (t r occ : Nat) : State :=
  if r = 0 ∨ occ = 0 then s
  else
    let x := s.tile t
    s.setTile t { x with busy := (List.range 12).map (fun i => if i = r then s.active + occ else x.freeAt i) }

/-- A halt an issue would raise: reason, slot, resource, element, DETAIL (Table 7.6). -/
structure HaltReq where
  reason : Nat
  slot : Nat
  resource : Nat
  elem : Nat
  detail : Nat
  deriving DecidableEq, Repr

-- Slot codes of Table 7.7.
def slotM : Nat := 1
def slotD : Nat := 2
def slotP : Nat := 3
def slotS : Nat := 4

/-- A structural conflict halts the tile in the modes that run unverified images (R149). DETAIL is the cycle, as GETCYC
counts, in which the resource frees, with no held cycle in between. -/
def State.busyCheck (s : State) (t slot r occ : Nat) : Option HaltReq :=
  let fr := (s.tile t).freeAt r
  if r ≠ 0 ∧ occ ≠ 0 ∧ s.active < fr ∧ s.unverifiedMode then some ⟨0x02, slot, r, 0, s.cycle + (fr - s.active)⟩ else none

/-- A fault on its way to its trap point (R190); the first one stands. -/
def State.raiseTrap (s : State) (t : Nat) (r : TrapRec) : State :=
  match (s.tile t).trap with
  | some _ => s
  | none => s.setTile t { s.tile t with trap := some r }

/-- Is the tile inside its handler? -/
def State.inHandler (s : State) (t : Nat) : Bool := s.bit (R.TA_PTRAP0_ACTIVE t)

/-- The bundle at an index of a bank. -/
def State.bundleAt (s : State) (t bank i : Nat) : Bundle :=
  Bundle.ofNat (s.num (tileBase t + 0x80000 + 0x20000 * bank + 16 * i) 16)

/-- The stream's next issue becomes the first of bundle `i` (R586). -/
def State.setResume (s : State) (t i : Nat) : State :=
  let i := i % 8192
  let left := if i = 8191 then 0 else (s.bundleAt t (s.fld (R.TA_SEQ_BANK t)) i).rep
  (s.setFld (R.TA_SEQ_RESUME t) i).setFld (R.TA_SEQ_REPEAT_LEFT t) left

/-- The earliest cycle of the next issue. -/
def State.setIssueAt (s : State) (t n : Nat) : State := s.setTile t { s.tile t with issueAt := n }

/-- A branch taken (R141): the target issues max(p, 2) cycles from now. -/
def State.takeBranch (s : State) (t target p : Nat) : State := (s.setResume t target).setIssueAt t (s.active + max p 2)

/-- Does a scene run on this part: a step's, or a rollout? -/
def State.sceneOn (s : State) : Bool := s.curtain.running || s.scene.rollout

/-- Can the tile make an issue in this cycle? It is not halted, ended or stopped, nor clock-gated as a tile outside the running
scene is (R21), its banks are not about to swap (R157, R210), the cycle is not held (R532), no fault has reached its trap point (R191), no fence holds it (R142) and END has
not issued (R143). Where no scene runs, an idle tile issues what a command gives it (DESIGN CHOICE). -/
def State.canIssue (s : State) (t : Nat) : Bool :=
  let x := s.tile t
  let st := s.fld (R.TA_SEQ_STATE t)
  !s.held && !s.now.swaps.any (fun q => q.tile == t) && !x.waitGrant && decide (st ≤ seqHeld) && (st != seqIdle || !s.sceneOn)
    && (match x.trap with | some r => decide (s.active < r.due) | none => true)
    && (if s.inHandler t then x.fenceH.isNone && !x.endH else x.fence.isNone && !x.endIssued)
    && x.reexec.isNone && x.resumeAt.isNone

/-- Note the cycle of an issue and what it found; a held tile is issuing again. -/
def State.noteIssue (s : State) (t : Nat) : State :=
  let s : State := { s with now := { s.now with
    issued := ⟨t, s.issuePt t, s.tile t, s.reg (R.TA_SEQ t), smapGet DcLive.init s.dc (t / 256)⟩ :: s.now.issued } }
  let s := s.setTile t { s.tile t with lastIssue := s.active }
  if s.fld (R.TA_SEQ_STATE t) = seqHeld then s.setFld (R.TA_SEQ_STATE t) seqIssuing else s

/-- Does the test of a SWAP_BANK stop the issue so far? -/
def HaltReq.isSwap (h : HaltReq) : Bool := h.slot == slotS && (h.reason == 0x0B || h.reason == 0x09)

/-- The banks of a tile swap when this cycle ends, if the test then holds (R157, R210). -/
def State.noteSwap (s : State) (t : Nat) (how : SwapHow) : State :=
  { s with now := { s.now with swaps := s.now.swaps ++ [⟨t, how⟩] } }

/-- Halt at an issue (R215). -/
def State.haltAt (s : State) (t : Nat) (pt : IssuePt) (h : HaltReq) : State :=
  s.haltTile t h.reason pt.bundle pt.rep h.slot h.resource h.elem h.detail

/-- An issue that one of its slots stops halts the tile; where the test of a SWAP_BANK stops it, the writes of this cycle are still to come
(R157). -/
def State.stopIssue (s : State) (t : Nat) (pt : IssuePt) (bundle : Option Nat) (h : HaltReq) : State :=
  if h.isSwap then (s.noteIssue t).noteSwap t (.slot bundle false) else s.haltAt t pt h

/-- One slot issued alone by a command: it stands for that slot of the bundle at RESUME; a check that fails halts the tile
and nothing is performed; where the tile has halted in this cycle, the check alone is made (R216). -/
def State.issueAlone (s : State) (t : Nat) (check : State → Option HaltReq) (perform : State → State) : State :=
  if s.canIssue t then
    match check s with
    | some h => s.stopIssue t (s.issuePt t) none h
    | none => perform (s.noteIssue t)
  else
    match s.beforeHalt t with
    | some u => if u.canIssue t then ((check u).elim s (s.haltAt t (s.issuePt t))) else s
    | none => s

/-- The stochastic-rounding draws of one converting unit of a tile (R98): draw `i` from where its generator stands. -/
def State.tileDraw (s : State) (t unit i : Nat) : Nat :=
  (Config.srDraw (s.regInForce (R.TA_SR_SEED t)) t unit ((s.tile t).sr.getD unit 0 + i)).toNat

/-- A unit's generator has given `n` draws. -/
def State.tileDrew (s : State) (t unit n : Nat) : State :=
  if n = 0 then s
  else
    let x := s.tile t
    s.setTile t { x with sr := (List.range 3).map (fun u => x.sr.getD u 0 + (if u = unit then n else 0)) }

-- The converting units of a tile.
def unitDrain : Nat := 0
def unitMover : Nat := 1
def unitPrompter : Nat := 2

/-- The generators start again from the seed (R98, R101). -/
def State.reseedTile (s : State) (t : Nat) : State := s.setTile t { s.tile t with sr := [] }

/-- The stage cycle after a write of TA_SR_SEED: the generators start again, and a DRAIN in progress goes on with the new
sequence; how many draws it had made of the old one is not stated (R101). -/
def State.reseedNext (s : State) (t : Nat) : State :=
  let old := s.regInForce (R.TA_SR_SEED t)
  let x := s.tile t
  let s := s.setTile t { x with acts := x.acts.map (fun a => match a.eff with
    | .drainConv d => { a with eff := .drainConv { d with segs := d.segs ++ [(old, x.sr.getD unitDrain 0, s.freeAt 0)] } }
    | _ => a) }
  (s.usedFree 1).reseedTile t

/-- Draw `i` of a DRAIN's `n`: of the seeds it began with, as many as were made before they were replaced; then of the
present one. -/
def State.drainDraw (s : State) (t n : Nat) : List (Word × Nat × Nat) → Nat → Nat
  | [], i => s.tileDraw t unitDrain i
  | (seed, start, f) :: r, i =>
    let k := f % (n + 1)
    if i < k then (Config.srDraw seed t unitDrain (start + i)).toNat else s.drainDraw t (n - k) r (i - k)

/-- How many of `n` draws come from the present seed. -/
def drainLeft (n : Nat) : List (Word × Nat × Nat) → Nat
  | [] => n
  | (_, _, f) :: r => drainLeft (n - f % (n + 1)) r

/-- Where a slot of a die's dress-check area lies (R303). -/
def State.slotBase (s : State) (die slot : Nat) : Nat :=
  0x10000000000 + 0x200000000 * die + 0x800000 * s.fld (R.TA_DC_AREA_BASE die) + 0x40000 * slot

/-- A completed sample: the tap writes its record into its slot, and the check unit takes it in turn (R303, R304). How a record is
laid out in its slot is not stated: its bytes there are free values, from the slot's base (DESIGN CHOICE: no header). -/
def State.tapRecord (s : State) (r : DcRec) : State :=
  let a := s.slotBase r.die r.slot
  let n := min r.size 0x40000
  let reg := regionOf s.cacheN a
  let s := (s.homeGrant reg .c0).setBytes a ((List.range n).map (fun i => BitVec.ofNat 8 (s.freeAt i)))
  let s := (unitsOver reg a n).foldl (fun t u => t.setPoison u false) s
  { s.usedFree n with dcQueue := s.dcQueue ++ [r] }


end Sys2Proof.Machine
end

