-- ==== Sys2Proof/Machine/Callboard.lean ====
section
/-!
DEFINITION. Machine/Callboard.lean: the callboard (R445-R458): bindings, notices, posts granted round-robin, takes, flushes,
aliases, lock registers.
-/
namespace Sys2Proof.Machine

/-- The kinds of channel of R445. -/
inductive ChanKind where
  | unbound | localCh | outgoing | incoming
  deriving DecidableEq, Repr

def State.chanKind (s : State) (n : Nat) : ChanKind :=
  let o := s.bit (R.CB_BIND_REMOTE_OUT n)
  let i := s.bit (R.CB_BIND_REMOTE_IN n)
  if !s.bit (R.CB_BIND_VALID n) || (o && i) then .unbound
  else if o then .outgoing else if i then .incoming else .localCh

/-- The place of an input in the order of R451. -/
def posterInput : Poster → Nat
  | .booth c => c.val | .security => 2 | .cueTimer => 3 | .collective => 4 | .ingress _ => 5 | .trap k => 6 + k.val
  | .tile t => 14 + t.val

/-- The MID checked (Table 14.6). -/
def posterMid : Poster → Nat
  | .booth c => 1 + c.val | .security => 3 | .cueTimer => 1 | .collective => 0x20 | .ingress _ => 0x20
  | .trap k => 0x100 + 16 * k.val | .tile t => 0x800 + t.val

/-- Is `src` the peer seat of an incoming channel, through the aliases of R453 (R449, R452)? -/
def State.fromPeer (s : State) (n src : Nat) : Bool :=
  let peer := s.fld (R.CB_BIND_PEER_SEAT n)
  src == peer || (List.range 256).any (fun k => s.bit (R.CB_ALIAS_VALID k) && s.fld (R.CB_ALIAS_TO_SEAT k) == src
    && s.fld (R.CB_ALIAS_FROM_SEAT k) == peer)

/-- The seat an arrival comes from. -/
def posterSeat : Poster → Option Nat
  | .ingress src => some src.toNat
  | _ => none

/-- Is this post let through (R445, R447, R449)? An arrival also needs the peer seat of R452; the collective engine posts on local
channels alone. -/
def State.postAllowed (s : State) (n : Nat) (p : Poster) : Bool :=
  s.fld (R.CB_BIND_SENDER_MID n) == posterMid p &&
    (match s.chanKind n with
      | .unbound => false
      | .incoming => (match posterSeat p with | some src => s.fromPeer n src | none => false)
      | .localCh => (posterSeat p).isNone
      | .outgoing => (posterSeat p).isNone && p != .collective)

/-- Is this take let through (R447)? -/
def State.takeAllowed (s : State) (n mid : Nat) : Bool :=
  s.chanKind n != .unbound && s.fld (R.CB_BIND_RECEIVER_MID n) == mid

/-- The queue of a channel. -/
def State.chan (s : State) (n : Nat) : List Word := smapGet [] s.cb n

/-- A channel's queue, with COUNT of CB_DROP beside it. -/
def State.setChan (s : State) (n : Nat) (q : List Word) : State :=
  ({ s with cb := smapSet [] s.cb n q } : State).setFld (R.CB_DROP_COUNT n) q.length

/-- A notice as it is delivered: bit 44 set, bits [55:45] zero (R448). -/
def deliveredNotice (v : Word) : Word :=
  BitVec.ofNat 64 (bitsOf v.toNat 63 56 * 2 ^ 56 + 2 ^ 44 + bitsOf v.toNat 43 0)

/-- The seat an outgoing channel's notices go to now (R453). -/
def State.peerOf (s : State) (n : Nat) : Nat :=
  let peer := s.fld (R.CB_BIND_PEER_SEAT n)
  match (List.range 256).find? (fun k => s.bit (R.CB_ALIAS_VALID k) && s.fld (R.CB_ALIAS_FROM_SEAT k) == peer) with
  | some k => s.fld (R.CB_ALIAS_TO_SEAT k)
  | none => peer

/-- How far an input stands behind the pointer of R451. -/
def postTurn (ptr : Nat) (p : Poster) : Nat := (posterInput p + 2062 - ptr) % 2062

/-- The posts of one cycle, in the order they are granted (R451). -/
def grantOrder (ptr : Nat) (l : List (Poster × Word)) : List (Poster × Word) :=
  sortBy (fun q => postTurn ptr q.1) l

/-- The posts of this cycle to a channel, if there are any. -/
def State.turn? (s : State) (n : Nat) : Option ChanTurn := s.now.turns.find? (fun x => x.ch == n)

/-- The posts of this cycle to a channel, with what stood before the first of them. -/
def State.turn (s : State) (n : Nat) : ChanTurn := (s.turn? n).getD ⟨n, smapGet 0 s.cbPtr n, s.chan n, [], 0, []⟩

def State.setTurn (s : State) (x : ChanTurn) : State :=
  { s with now := { s.now with turns := x :: s.now.turns.filter (fun y => y.ch != x.ch) } }

/-- Notices of a channel that are queued in this cycle: its takes and flushes come before them (R451). -/
def State.posted (s : State) (n : Nat) : Nat :=
  match s.turn? n with
  | some x => (s.chan n).length - x.base.length
  | none => 0

/-- Is there a notice for a take of this cycle? -/
def State.hasNotice (s : State) (n : Nat) : Bool := decide (s.posted n < (s.chan n).length)

/-- A channel's queue is replaced from outside: the cycle's posts to it are over. -/
def State.refillChan (s : State) (n : Nat) (q : List Word) : State :=
  ({ s with now := { s.now with turns := s.now.turns.filter (fun y => y.ch != n) } } : State).setChan n q

/-- DROPPED of CB_DROP after the posts that find no room become `k` (R450). -/
def State.setLost (s : State) (x : ChanTurn) (k : Nat) : State :=
  let f := R.CB_DROP_DROPPED x.ch
  let s := if x.lost < k then s.countFld f (k - x.lost) else if k < x.lost then s.uncountFld f (x.lost - k) else s
  s.setTurn { x with lost := k }

/-- The pointer after the posts of a cycle are granted in that order. -/
def State.turnPtr (s : State) (n : Nat) (order : List (Poster × Word)) : State :=
  match order.getLast? with
  | some p => { s with cbPtr := smapSet 0 s.cbPtr n ((posterInput p.1 + 1) % 2062) }
  | none => s

/-- The posts of a cycle to a channel of this seat are granted, round-robin from where the pointer stood before them: behind what the
cycle's flush and takes leave, up to sixteen are queued (R450, R451). -/
def State.settleLocal (s : State) (x : ChanTurn) : State :=
  let order := grantOrder x.ptr x.posts
  let room := 16 - x.base.length
  let s := s.setChan x.ch (x.base ++ (order.take room).map (fun p => deliveredNotice p.2))
  (s.setLost x (x.posts.length - room)).turnPtr x.ch order

/-- The posts of a cycle to an outgoing channel take the places of the part's queue of 64 notice packets that the cycle has found for
them, in their order (R451, R452). -/
def State.settleOut (s : State) (x : ChanTurn) : State :=
  let order := grantOrder x.ptr x.posts
  let slots := if s.cbOut.length < 64 then x.slots ++ [s.cbOut.length] else x.slots
  let entry := fun (p : Poster × Word) => (s.peerOf x.ch, s.fld (R.CB_BIND_PEER_CHANNEL x.ch), p.2)
  let s : State := { s with cbOut := (slots.zip order).foldl (fun q p => q.take p.1 ++ [entry p.2] ++ q.drop (p.1 + 1)) s.cbOut }
  (s.setLost { x with slots := slots } (x.posts.length - slots.length)).turnPtr x.ch order

/-- A post that was let through: queued, dropped and counted, or put in the part's queue of notice packets (R450, R452), in the order of
R451 among the cycle's posts to the channel. -/
def State.postThrough (s : State) (n : Nat) (p : Poster) (v : Word) : State :=
  let x := s.turn n
  let x := { x with posts := x.posts ++ [(p, v)] }
  match s.chanKind n with
  | .outgoing => s.settleOut x
  | _ => s.settleLocal x

/-- One granted post, its refusal counted (R447). Booth cores and tiles learn of a refusal otherwise. -/
def State.post (s : State) (n : Nat) (p : Poster) (v : Word) : State :=
  if s.postAllowed n p then s.postThrough n p v
  else
    match p with
    | .booth _ => s
    | .tile _ => s
    | _ => s.countFld (R.CB_DROP_REFUSED n) 1

/-- Posts of one cycle to a channel; R451 grants them round-robin. -/
def State.posts (s : State) (n : Nat) (l : List (Poster × Word)) : State :=
  (grantOrder (smapGet 0 s.cbPtr n) l).foldl (fun t p => t.post n p.1 p.2) s

/-- The oldest notice leaves; zero from an empty channel (R450), or where all were posted in this cycle (R451). A post of the cycle that
had found no room takes the place. -/
def State.takeNotice (s : State) (n : Nat) : Word × State :=
  if s.hasNotice n then
    ((s.chan n).headD 0, match s.turn? n with
      | some x => s.settleLocal { x with base := x.base.tail }
      | none => s.setChan n (s.chan n).tail)
  else (0, s)

/-- Empty a channel without counting (R455); the posts of the cycle come after the flush (R451). -/
def State.flushChan (s : State) (n : Nat) : State :=
  match s.turn? n with
  | some x => if s.chanKind n = .outgoing then s else s.settleLocal { x with base := [] }
  | none => s.setChan n []

/-- CB_POST: posts of one cycle to one channel (R447-R452). A booth core refused gets a bus error with CB_UNBOUND. -/
def execCbPost (ch : Fin 256) (posts : List (Poster × Word)) (s : State) : Out :=
  let bad := posts.filter (fun p => !s.postAllowed ch p.1)
  let s := s.posts ch posts
  let s := bad.foldl (fun (u : State) p => match p.1 with
    | .booth _ => u.send (.bus (posterMid p.1) (R.CB_POST ch) 0x90 [])
    | .tile t => u.haltAt t (u.issuePt t) ⟨0x06, slotS, 0, 0, ch⟩
    | _ => u) s
  .next s

/-- A read of CB_TAKEn by a booth core (R447, R450). -/
def State.cbTake (s : State) (mid n : Nat) : State :=
  if s.takeAllowed n mid then
    let r := s.takeNotice n
    r.2.send (.bus mid (R.CB_TAKE n) 0 (leBytes r.1.toNat 8))
  else if mid = 1 ∨ mid = 2 then s.send (.bus mid (R.CB_TAKE n) 0x90 [])
  else s.countFld (R.CB_DROP_REFUSED n) 1

/-- CB_TAKE: R450. -/
def execCbTake (core : Fin 2) (ch : Fin 256) (s : State) : Out := .next (s.cbTake (1 + core) ch)

/-- CB_FLUSH: R455. -/
def execCbFlush (ch : Fin 256) (s : State) : Out := .next (s.flushChan ch)

/-- A register has been read in this cycle: later writes to it are of the next (R584). -/
def State.readReg (s : State) (r : Nat) : State :=
  if s.now.reads.contains r then s else { s with now := { s.now with reads := r :: s.now.reads } }

/-- Booth cores and the security block reach the lock registers (R456, Table 1.8). -/
def lockMaster (mid : BitVec 12) : Bool := mid.toNat == 1 || mid.toNat == 2 || mid.toNat == 3

/-- CB_LOCK: a write sets HOLDER, whoever holds the lock (R457), and counts among the register's writers; after a read or acquire of
this cycle it is a write of the next (R458, R584). No other master reaches the register (R456). -/
def execCbLock (n : Fin 256) (w : LockWrite) (s : State) : Out :=
  .next (if !lockMaster w.mid then (s.memEntry w.mid.toNat 0x41 (R.CB_LOCK n)).send (.bus w.mid.toNat (R.CB_LOCK n) 0x41 [])
    else if s.now.reads.contains (R.CB_LOCK n) then
      { s with now := { s.now with late := s.now.late ++ [⟨w.mid.toNat, R.CB_LOCK n, leBytes w.holder.toNat 8⟩] } }
    else ((s.writerGranted w.mid.toNat (R.CB_LOCK n)).setFld (R.CB_LOCK_HOLDER n) w.holder.toNat).send (.bus w.mid.toNat (R.CB_LOCK n) 0 []))

/-- How far a MID stands behind the lock's pointer (R458). -/
def lockTurn (ptr mid : Nat) : Nat := (mid + 4096 - ptr) % 4096

/-- Does an acquire of lock `n` wait: for others of its cycle, or, the lock having been read in this one, for the next (R458, R584)? -/
def State.acqLate (s : State) (n : Nat) : Bool := s.now.reads.contains (R.CB_LOCK n) || s.now.acqs.any (fun q => q.lock == n)

/-- Acquires put off to the next cycle. -/
def State.putOff (s : State) (l : List LateAcq) : State := { s with now := { s.now with acqs := s.now.acqs ++ l } }

/-- The winner of the acquires of one cycle: at a free lock one wins by round-robin over MIDs (R458). -/
def State.acqWin (s : State) (n : Nat) (readers : List Nat) : Option Nat × State :=
  if s.fld (R.CB_LOCK_HOLDER n) ≠ 0 then (none, s)
  else
    match readers.argmin (lockTurn (smapGet 1 s.lockPtr n)) with
    | none => (none, s)
    | some w => (some w, { s.setFld (R.CB_LOCK_HOLDER n) w with lockPtr := smapSet 1 s.lockPtr n ((w + 1) % 4096) })

/-- The reads of CB_ACQn of one cycle (R456, R458): the winner reads 0, every other reads the holder. -/
def State.acquire (s : State) (n : Nat) (readers : List Nat) : State :=
  let s := if readers.isEmpty then s else s.readReg (R.CB_LOCK n)
  let r := s.acqWin n readers
  let holder := r.2.fld (R.CB_LOCK_HOLDER n)
  readers.foldl (fun (v : State) m => v.send (.bus m (R.CB_ACQ n) 0 (leBytes (if some m = r.1 then 0 else holder) 8))) r.2

/-- CB_ACQ: R456, R458. After a read of the lock in this cycle they are acquires of the next. -/
def execCbAcq (n : Fin 256) (readers : List (BitVec 12)) (s : State) : Out :=
  let l := (readers.filter lockMaster).map BitVec.toNat
  .next (if s.acqLate n then s.putOff (l.map (fun m => ⟨n, m, R.CB_ACQ n, 8, none⟩)) else s.acquire n l)

/-- REMOTE_NOTICE: a notice packet arrives from another seat (R452, R453). -/
def execRemoteNotice (src : BitVec 15) (ch : Fin 256) (notice : Word) (s : State) : Out :=
  .next (s.post ch (.ingress src) notice)

end Sys2Proof.Machine
end

