-- ==== Sys2Proof/Machine/FabSend.lean ====
section
/-!
DEFINITION. Machine/FabSend.lean: what any unit of the part does to reach another seat: a request with its TAG put before
the router (R357, R375), a control message toward a seat or down the flood tree (R359), membership of seat sets (R391).
-/
namespace Sys2Proof.Machine

def State.port (s : State) (p : Nat) : FPort := smapGet FPort.init s.fab.ports p

def State.setPort (s : State) (p : Nat) (x : FPort) : State :=
  { s with fab := { s.fab with ports := smapSet FPort.init s.fab.ports p x } }

/-- STATE of a port is up. -/
def State.portUp (s : State) (p : Nat) : Bool := s.fld (R.FB_PORT_STATUS_STATE p) == 2

/-- Own group and position (R353). -/
def State.ownGroup (s : State) : Nat := s.mySeat / 16
def State.ownPos (s : State) : Nat := s.mySeat % 16

/-- The company port that leads to position `d` (Table 12.1). -/
def State.companyPort (s : State) (d : Nat) : Nat := if d = 8 then s.ownPos else d

/-- Torus dimension of a port: 1, 2, 3 for x, y, z; 0 for the others. -/
def torusDim (p : Nat) : Nat := if p = 8 ∨ p = 9 then 1 else if p = 10 ∨ p = 11 then 2 else if p = 12 ∨ p = 13 then 3 else 0

/-- R370: output port, level and RELAYED for a packet to `dst` from input `inp` (16: this part) at level `lvl`; none is
NO_ROUTE. -/
def State.route (s : State) (dst inp lvl : Nat) : Option (Nat × Nat × Bool) :=
  let g := dst / 16
  let d := dst % 16
  if g = s.ownGroup then
    let via := bitsOf (s.fld R.FB_CPATH_VIA) (4 * d + 3) (4 * d)
    if inp = 16 ∧ d ≤ 8 ∧ via ≠ 15 then some (s.companyPort via, 1, false) else some (s.companyPort d, 0, false)
  else if !s.bit (R.FB_RT_VALID g) then none
  else
    let via := s.fld (R.FB_RT_VIA g)
    if inp = 16 ∧ via ≠ 15 ∧ via ≠ s.ownPos then some (s.companyPort via, 1, true)
    else
      let out := s.fld (R.FB_RT_PORT g)
      let l := if inp ≠ 16 ∧ torusDim inp ≠ 0 ∧ torusDim inp = torusDim out then lvl else 0
      some (out, if s.bit (R.FB_PORT_CFG_DATELINE out) then 1 else l, false)

/-- Is a seat reachable from this one by a route or relay (R379)? -/
def State.reachable (s : State) (dst : Nat) : Bool :=
  match s.route dst 16 0 with
  | some (p, _, _) => s.portUp p
  | none => false

/-- The company position of a seat: as the plan has it (R316), else its own. -/
def State.posAt (s : State) (seat : Nat) : Nat := ((s.job.stand.find? (fun p => p.1 == seat)).map Prod.snd).getD (seat % 16)

/-- The company position this seat stands at: a promoted understudy stands at the lost seat's (R491). -/
def State.standsAt (s : State) : Nat :=
  match s.promoted.find? (fun p => p.2 == s.mySeat) with
  | some p => s.posAt p.1
  | none => s.posAt s.mySeat

/-- Seats this part's booth has reported lost. -/
def State.isLost (s : State) (seat : Nat) : Bool := s.fab.lostSeats.contains seat

/-- Is a seat in set `n` (R391)? -/
def State.inSet (s : State) (n seat : Nat) : Bool :=
  let g := seat / 16
  let m := bitsOf (s.reg (R.FB_GSET (g / 4))).toNat (16 * (g % 4) + 15) (16 * (g % 4))
  let p := bitsOf (s.reg (R.FB_SETPOS (n / 4))).toNat (16 * (n % 4) + 15) (16 * (n % 4))
  bitOf m n && bitOf p (seat % 16)

/-- The seats of set `n`, group by group: only a group register that is not zero puts a group into a set. -/
def State.setSeats (s : State) (n : Nat) : List Nat :=
  let words := (s.regs.map Prod.fst).filter (fun a => decide (R.FB_GSET 0 ≤ a) && decide (a < R.FB_GSET 512))
  let groups := words.flatMap (fun a => (List.range 4).map (fun i => 4 * ((a - R.FB_GSET 0) / 8) + i))
  (groups.flatMap (fun g => (List.range 16).map (fun d => 16 * g + d))).filter (fun q => s.inSet n q)

/-- A packet of this part, before the router. -/
def State.injectPkt (s : State) (p : Pkt) : State := { s with fab := { s.fab with inject := s.fab.inject ++ [p] } }

/-- PMASK for a payload at `addr`: the 32-byte sectors of the destination that poisoned bytes land in (R358). -/
def pmaskOf (addr : Nat) (psn : List Bool) : Nat :=
  ((psn.zipIdx.filter Prod.fst).map (fun p => (addr % 32 + p.2) / 32)).dedup.foldl (fun a i => a + 2 ^ i) 0

/-- A request: a packet with a TAG of its own, remembered until it is answered (R375, R377). A request to a seat reported
lost is not sent: it is answered at once, by the caller. -/
def State.sendReq (s : State) (owner : ReqOwner) (op mid dst addr : Nat) (hint fmt : Nat) (data : List Byte)
    (psn : List Bool) (len rdst : Nat) : State :=
  let tag := s.fab.tagNext % 2 ^ 15
  let r : FReq := ⟨tag, mid, dst, op, addr, len, rdst, s.cue, owner⟩
  let s : State := { s with fab := { s.fab with reqs := s.fab.reqs ++ [r], tagNext := (tag + 1) % 2 ^ 15 } }
  s.injectPkt ⟨op, dst, addr, s.mySeat, mid, false, hint, fmt, tag, 0, 0, pmaskOf addr psn, len - 1, data⟩

/-- A control flit to be sent on a port. -/
def State.ctlOut (s : State) (p prio : Nat) (m : Ctl) : State :=
  let x := s.port p
  s.setPort p { x with ctlq := x.ctlq ++ [(prio, m)] }

/-- A routed control flit toward its seat (R359, R360); one for this seat itself is not sent. -/
def State.ctlRouted (s : State) (dst : Nat) (m : Ctl) : State :=
  if dst = s.mySeat then s
  else
    match s.route dst 16 0 with
    | some (p, l, _) => if s.portUp p then s.ctlOut p (1 + l) m else s
    | none => s

/-- A flood control flit out of every port of this seat in the flood tree the plan built (R39, R327). -/
def State.flood (s : State) (m : Ctl) : State := s.fab.tree.foldl (fun t p => if t.portUp p then t.ctlOut p 1 m else t) s

/-- An acknowledgement record back to the requester (R375). -/
def State.ackTo (s : State) (seat mid tag bytes code : Nat) : State :=
  s.ctlRouted seat (.ack seat [⟨s.mySeat, seat, mid, tag, bytes, code⟩])

/-- Points of the fabric's events (Table 15.2); those of SEAT_LOST fall for a seat of the job, where it is accepted. -/
def fbPoints (code : Nat) : Nat :=
  match code with
  | 0x60 => 32 | 0x61 => 16 | 0x62 => 8 | _ => 0

/-- An event of the fabric: FB_EVENT bit, a promptbook entry with the port or seat (R388, R389), LINK_DOWN to the host too
(R434), and its health points (R464). -/
def State.fbEvent (s : State) (code detail : Nat) : State :=
  let s := if code < 0x6A then s.orReg R.FB_EVENT (2 ^ (code - 0x60)) else s
  let s := if code = 0x60 then s.hostEvent 0x20 code detail else s.event 0x20 code detail
  if fbPoints code = 0 then s else s.health (fbPoints code)

/-- Is this fence a FENCE.F whose set holds the seat? -/
def State.fenceHits (s : State) (seat : Nat) (f : Option (FenceKind × Nat)) : Bool :=
  match f with
  | some (.f n, _) => s.inSet n.val seat
  | _ => false

/-- A seat counts as lost here from now on: a FENCE.F that waits and whose set holds it completes, and the step is discarded (R32, R379). -/
def State.noteLost (s : State) (seat : Nat) : State :=
  if s.isLost seat then s
  else
    let hit := s.tiles.any (fun p => s.fenceHits seat p.2.fence || s.fenceHits seat p.2.fenceH)
    let tiles := s.tiles.map (fun p => (p.1, { p.2 with
      cutF := p.2.cutF || s.fenceHits seat p.2.fence, cutH := p.2.cutH || s.fenceHits seat p.2.fenceH }))
    { s with tiles := tiles, discardFlag := s.discardFlag || hit, fab := { s.fab with lostSeats := s.fab.lostSeats ++ [seat] } }

/-- The booth reports a seat lost and floods SEAT_LOST (R32, R379). -/
def State.reportLost (s : State) (seat : Nat) : State :=
  if s.isLost seat then s else ((s.noteLost seat).fbEvent 0x65 seat).flood (.seatLost seat s.cue)

/-- [a, a + len) cut so that no piece crosses a 4 KiB boundary of `a` or of `b` (R357): (offset, length) pairs. -/
def cutPkts (a b : Nat) : Nat → Nat → Nat → List (Nat × Nat)
  | 0, _, _ => []
  | _ + 1, _, 0 => []
  | f + 1, o, n + 1 =>
    let k := min (n + 1) (min (4096 - (a + o) % 4096) (4096 - (b + o) % 4096))
    (o, k) :: cutPkts a b f (o + k) (n + 1 - k)

def cuts (a b len : Nat) : List (Nat × Nat) := cutPkts a b (len + 1) 0 len

end Sys2Proof.Machine
end

