-- ==== Sys2Proof/Machine/Reduce.lean ====
section
/-!
DEFINITION. Machine/Reduce.lean: reduce-writes at their home (R234, R271-R273, R277-R280): the element sums, the engine
that adds, the count that fires a shard's trigger, and what poison does.
-/
namespace Sys2Proof.Machine

/-- What a stack's trap engines hold. -/
def State.teStack (s : State) (k : Nat) : TeStack := smapGet TeStack.init s.te k

def State.setTe (s : State) (k : Nat) (x : TeStack) : State := { s with te := smapSet TeStack.init s.te k x }

/-- An engine as a converting unit reports (R262, R294, R296, R297). -/
def State.teStat (s : State) (k e : Nat) (c : CvtStat) : State :=
  let s := s.orReg (R.TP_CVT_STATUS k e) c.flags
  let s := if c.sats = 0 then s else s.countFld (R.TP_SAT_COUNT_COUNT k e) c.sats
  s.countEnc (2048 + 16 * k + e) c.enc

/-- Draw `i` of an engine's generator from where it stands (R97, R98, R262). -/
def State.teDraw (s : State) (k e i : Nat) : Nat :=
  (Config.srDraw (s.regInForce (R.TP_SR_SEED k e)) (4096 + 16 * k + e) 0 (smapGet 0 (s.teStack k).sr e + i)).toNat

def State.teDrew (s : State) (k e n : Nat) : State :=
  if n = 0 then s
  else
    let x := s.teStack k
    s.setTe k { x with sr := smapSet 0 x.sr e (smapGet 0 x.sr e + n) }

/-- Engines with a work unit of a running descriptor. -/
def TeStack.busy (x : TeStack) : List Nat := x.running.flatMap (fun r => r.flight.map TeFlight.engine)

/-- The free engine whose turn it is, from the pointer (R265). -/
def TeStack.freeEngine (x : TeStack) : Option Nat := roundRobin 16 x.engPtr (fun e => !x.busy.contains e)

/-- The engine the next work unit goes to: a free one by round-robin (R265, R277). A unit for which none is free takes the engine at
the pointer when that has performed its own (DESIGN CHOICE: the manual does not say which engine is free first). -/
def State.takeEngine (s : State) (k : Nat) : Nat × State :=
  let x := s.teStack k
  let e := x.freeEngine.getD (x.engPtr % 16)
  (e, s.setTe k { x with engPtr := (e + 1) % 16 })

/-- Formats ADD is defined for (R278). -/
def reduceFmt : NFmt → Bool
  | .b64 => true | .b32 => true | .b32x2 => true | .sk16 => true | .int _ 32 => true
  | _ => false

/-- One element of ADD: the sum's bits and its status; `draw` serves SR, `free` an open NaN (R278). -/
def addElem (f : FmtWord) (draw free : Nat) (d x : Nat) : Nat × CvtStat :=
  let r := effRound f.fmt f.round
  let fix := if r.2 then fModeFix else 0
  match f.fmt with
  | .b64 => let v := fAdd fB64 r.1 (decB64 d) (decB64 x); (encB64 free v.1, .ofFlags (Nat.lor v.2 fix))
  | .b32 => let v := fAdd fB32 r.1 (decB32 d) (decB32 x); (encB32 free v.1, .ofFlags (Nat.lor v.2 fix))
  | .b32x2 =>
    let dh := decB32 (d % 2 ^ 32)
    let dl := decB32 (d >>> 32)
    let sh := decB32 (x % 2 ^ 32)
    let sl := decB32 (x >>> 32)
    let vd := pairVal dh dl
    let vs := pairVal sh sl
    if vd.isNan || vd.isInf || vs.isNan || vs.isInf then
      let v := fAdd fB32 .rne vd vs
      (encB32 0 (engNan v.1), .ofFlags v.2)
    else
      let p := pairAccum dh dl sh sl
      (encB32 0 p.1.1 + encB32 0 p.1.2 * 2 ^ 32, .ofFlags p.2)
  | .sk16 =>
    let v := encSK16 r.1 draw (addExact .rne (decSK16 d) (decSK16 x)).1
    (v.1, v.2.join (.ofFlags fix))
  | _ => ((d + x) % 2 ^ 32, CvtStat.none)

/-- The bytes a reduce-write makes of what stands there: XOR bytewise, or ADD element by element; the status, and the number of
SR draws. Elements `live` does not hold of are not added: they report nothing and draw nothing (R280). -/
def reduceBytes (xor : Bool) (f : FmtWord) (draw free : Nat → Nat) (live : Nat → Bool) (old data : List Byte) :
    List Byte × CvtStat × Nat :=
  if xor then ((old.zip data).map (fun p => p.1 ^^^ p.2), CvtStat.none, 0)
  else
    let z := f.fmt.size
    let n := data.length / z
    let sr := f.fmt == .sk16 && (effRound f.fmt f.round).1 == .sr
    let nth := fun (i : Nat) => ((List.range i).filter live).length
    let outs := ((List.range n).filter live).map (fun i =>
      (i, addElem f (draw (nth i)) (free i) (ofLe ((old.drop (i * z)).take z)) (ofLe ((data.drop (i * z)).take z))))
    (outs.foldl (fun b r => b.take (r.1 * z) ++ leBytes r.2.1 z ++ b.drop ((r.1 + 1) * z)) old,
      outs.foldl (fun a r => a.join r.2.2) CvtStat.none, if sr then outs.length else 0)

/-- How a reduce-write ended. -/
structure RedEnd where
  cause : Nat
  held : Bool
  done : Nat
  deriving DecidableEq, Repr

/-- A reduce-write on its way to its home. -/
structure RedReq where
  mid : Nat
  addr : Nat
  fmt : Nat
  xor : Bool
  data : List Byte
  psn : List Bool
  ecc : EccFinding
  owner : RwOwner
  deriving DecidableEq, Repr

/-- The gradient buffer of an entry (R272). -/
def State.gradRange (s : State) (k i : Nat) : Nat × Nat :=
  (s.fld (R.TP_SHARD_W11_BASE_G k i),
    s.fld (R.TP_SHARD_W1_ELEMENTS k i) * fmtSize (s.fld (R.TP_SHARD_W0_GCODE k i)))

/-- The 64-byte descriptor at an address. -/
def State.descAt (s : State) (a : Nat) : TeDesc := (List.range 8).map (fun w => s.homeNum (a + 8 * w) 8)

/-- A descriptor on the trigger queue; during a scene change it is held there (R274). -/
def State.queueTrigger (s : State) (k : Nat) (d : TeDesc) : State :=
  let x := s.teStack k
  s.setTe k { x with trigQ := x.trigQ ++ [d] }

/-- The bytes of an ADD that fall in the gradient buffer of an entry are counted, performed or not; the count that first
reaches EXPECT fires the trigger; a later one is late (R272, R273). -/
def State.countArrived (s : State) (k i n : Nat) : State :=
  let late := s.bit (R.TP_SHARD_W0_FIRED k i)
  let s := s.setFld (R.TP_SHARD_W13_ARRIVED k i) (s.fld (R.TP_SHARD_W13_ARRIVED k i) + n)
  if late then
    { (s.raiseFld (R.TP_SHARD_W0_LATE k i)).raiseFld (R.TP_TE_STATUS_LATE_SEEN k) with discardFlag := true }
  else if s.fld (R.TP_SHARD_W12_EXPECT k i) ≠ 0 ∧ s.fld (R.TP_SHARD_W12_EXPECT k i) ≤ s.fld (R.TP_SHARD_W13_ARRIVED k i) then
    (s.setFld (R.TP_SHARD_W0_FIRED k i) 1).queueTrigger k (s.descAt (s.fld (R.TP_SHARD_W15_TRIG k i)))
  else s

/-- The entries whose gradient buffers a reduce-write reaches into, with the bytes that fall in each: (stack, entry, bytes). -/
def State.gradEntries (s : State) (a len : Nat) : List (Nat × Nat × Nat) :=
  match pinnedStack a with
  | none => []
  | some k => ((s.validShards k).filter (fun i => touches a len (s.gradRange k i).1 (s.gradRange k i).2)).map (fun i =>
      let g := s.gradRange k i
      (k, i, min (a + len) (g.1 + g.2) - max a g.1))

/-- The entry whose buffer a reduce-write has to wait for, since it is still being zeroed (R271). -/
def State.zeroEntry (s : State) (a len : Nat) : Option (Nat × Nat) :=
  ((s.gradEntries a len).find? (fun e => (s.teStack e.1).zeroing.contains e.2.1)).map (fun e => (e.1, e.2.1))

/-- An ADD is counted in every entry it falls in, performed or not (R272). Of one that only reaches into a buffer the bytes inside
count (DESIGN CHOICE: the manual speaks of those that fall in it). -/
def State.countAll (s : State) (a len : Nat) : State := (s.gradEntries a len).foldl (fun t e => t.countArrived e.1 e.2.1 e.2.2) s

/-- The stack whose engines serve a home. -/
def homeStack (r : Region) : Option Nat :=
  match r with
  | .trap k _ => some k
  | .wings d _ => some d
  | _ => none

/-- What comes before the addition: the line goes first (R234), and what the codes find in what the payload touches is dealt with;
whether an error was uncorrectable. -/
def State.reducePrep (s : State) (q : RedReq) (r : Region) : Bool × State :=
  let s := match r with | .trap _ _ => s.flushRange q.addr q.data.length | _ => s
  (s.plant q.ecc).meetFlaws q.mid q.addr q.data.length

/-- The sectors a reduce-write reads: one that meets a poison that stood there is counted (R260, R277). -/
def State.countPoison (s : State) (q : RedReq) (r : Region) : State :=
  match r with
  | .trap st _ =>
    if (unitsOver r q.addr q.data.length).any (fun u => s.trapPoisoned u) then s.countFld (R.TP_ECC_POISON_READS st) 1 else s
  | _ => s

/-- A unit of the region becomes poison. -/
def State.poisonIn (s : State) (r : Region) (u : Nat) : State :=
  match r with
  | .trap _ _ => s.setTrapPoison u true
  | _ => s.setPoison u true

/-- The addition itself, at the home: a unit that holds poison is left; a unit the payload's poison reaches is poisoned; each other
unit takes its elements (R277-R280). -/
def State.reduceNow (s : State) (q : RedReq) (f : FmtWord) (r : Region) (k : Nat) : RedEnd × State :=
  let p := (s.countPoison q r).reducePrep q r
  let un := p.1
  let g := p.2.takeEngine k
  let s := g.2
  let n := q.data.length
  let z := if q.xor then 1 else f.fmt.size
  let old := s.bytes q.addr n
  let unitsOf := fun (i : Nat) => unitsOver r (q.addr + i / z * z) z
  let bad := (unitsOver r q.addr n).filter (fun u => s.unitPoisoned r u)
  let hit := ((List.range n).filter (fun i => q.psn.getD i false)).flatMap unitsOf |>.dedup
  let skip := fun (i : Nat) => (unitsOf i).any (fun u => bad.contains u || hit.contains u)
  let res := reduceBytes q.xor f (s.teDraw k g.1) s.freeAt (fun e => !skip (e * z)) old q.data
  let s := ((List.range n).filter (fun i => !skip i)).foldl (fun t i => t.setByte (q.addr + i) (res.1.getD i 0)) s
  let s := (hit.filter (fun u => !bad.contains u)).foldl (fun t u => t.poisonIn r u) s
  let s := if q.xor then s else s.usedFree n
  let s := (s.teStat k g.1 res.2.1).teDrew k g.1 res.2.2
  (⟨if un then 0x42 else if !bad.isEmpty then 0x43 else if !hit.isEmpty then 0x45 else 0, false,
    ((List.range n).filter (fun i => !(unitsOf i).any (fun u => bad.contains u))).length⟩, s)

/-- Why a home performs no reduce-write now: a stack that accepts no access (R255, R260), a wings die that failed its test. -/
def State.homeShut (s : State) (r : Region) : Nat :=
  match r with
  | .trap st _ => if s.bit (R.TP_STATUS_ONLINE st) then 0 else 0x46
  | .wings d _ => if s.boot.failed.contains (0x100 + d) then deadWings else 0
  | _ => 0

/-- The reduce-write is granted at its home and performed, unless the home is shut. -/
def State.reduceHome (s : State) (q : RedReq) (r : Region) (k : Nat) : RedEnd × State :=
  let c := s.homeShut r
  if c ≠ 0 then
    (⟨c, false, 0⟩, (if c = 0x46 then s.errLog k 0x46 (unitBase r q.addr) q.mid else s).memEntry q.mid c q.addr)
  else
    let f := (FmtWord.ofWord q.fmt).getD ⟨.b64, 0, false, 0⟩
    let e := (s.homeGrant r .c0).reduceNow q f r k
    (e.1, if e.1.cause = 0 then e.2 else e.2.memEntry q.mid e.1.cause q.addr)

/-- A reduce-write for a buffer still being zeroed is held for it (R271). -/
def State.holdReduce (s : State) (k i : Nat) (q : RedReq) : State :=
  let x := s.teStack k
  s.setTe k { x with heldRw := x.heldRw ++ [⟨i, q.mid, q.addr, q.fmt, q.xor, q.data, q.psn, q.owner⟩] }

/-- A reduce-write reaches its home (R27, R268, R271, R272, R277-R280). `internal` marks the resilience engine's own path. One that
is held counts in ARRIVED now (DESIGN CHOICE: R271 says only when it is added). -/
def State.reduceWrite (s : State) (internal : Bool) (q : RedReq) : RedEnd × State :=
  let r := regionOf s.cacheN q.addr
  let n := q.data.length
  let fmtOk := q.xor || (match FmtWord.ofWord q.fmt with | some w => reduceFmt w.fmt | none => false)
  let s := if q.xor then s else s.countAll q.addr n
  let refuse := fun (c : Nat) => ((⟨c, false, 0⟩ : RedEnd), s.memEntry q.mid c q.addr)
  match homeStack r with
  | none => refuse (match r with | .unmapped => 0x40 | _ => 0x41)
  | some k =>
    if !internal && !allowed (masterOf q.mid) true true r q.addr then refuse 0x41
    else if (masterOf q.mid).named && s.nameHit q.addr n true == .refused then refuse 0x41
    else if !fmtOk then refuse 0x41
    else
      match s.zeroEntry q.addr n with
      | some (k', i) => (⟨0, true, 0⟩, s.holdReduce k' i q)
      | none => s.reduceHome q r k

end Sys2Proof.Machine
end

