-- ==== Sys2Proof/Machine/TileMatrix.lean ====
section
/-!
DEFINITION. Machine/TileMatrix.lean: the matrix engine in a tile (R102-R109, R114-R123, R128): issuing MM, SHD and DRAIN,
the cycles in which they read and commit, poison (R247), and the samples the dress check takes of them (R299, R301).
-/
namespace Sys2Proof.Machine

/-- The words of a tile's own stores a byte range touches, offsets formed modulo 2¹⁹ (R106). -/
def dataWords (t base len : Nat) : List Nat :=
  ((List.range (len / 8 + 2)).map (fun i => tileBase t + (base / 8 * 8 + 8 * i) % 2 ^ 19)).filter
    (fun w => (List.range 8).any (fun k => decide (((w + k - tileBase t) + 2 ^ 19 - base % 2 ^ 19) % 2 ^ 19 < len)))

/-- Panel bytes as they stand. -/
def State.panel (s : State) (t base len : Nat) : List Byte := (List.range len).map (fun i => s.dataByte t (base + i))

/-- Is byte `i` of a panel in a poisoned word? -/
def State.panelPoisoned (s : State) (t base i : Nat) : Bool := s.poisoned (tileBase t + (base + i) % 2 ^ 19 / 8 * 8)

/-- The row of an operand panel that a byte belongs to (R106, R107). -/
def panelRow (f : FmtWord) (rows k : Nat) (cplx trans : Bool) (i : Nat) : Option Nat :=
  if f.fmt.isSkb then
    let nb := rowBlocks f k
    let eb := elemPlaneBytes f rows k
    if i < eb then some (i / (nb * f.block * f.fmt.bits / 8))
    else if scalePlaneAt f rows k ≤ i ∧ i < scalePlaneAt f rows k + rows * nb then some ((i - scalePlaneAt f rows k) / nb)
    else if f.esc && decide (escPlaneAt f rows k ≤ i) then some ((i - escPlaneAt f rows k) / 4 / nb)
    else none
  else
    let es := f.fmt.size * (if cplx then 2 else 1)
    some (if trans then i / es % rows else i / es / k)

/-- Rows of a panel that meet poison. -/
def State.poisonRows (s : State) (t : Nat) (f : FmtWord) (base len rows k : Nat) (cplx trans : Bool) : List Nat :=
  ((List.range len).filter (fun i => s.panelPoisoned t base i)).filterMap (panelRow f rows k cplx trans) |>.dedup

/-- The operands of an MM as its format words and fields give them (R104, R107, R126): in unverified modes TA and TB are
ignored on SKB operands, and CPLX on a format without complex mode. None where R104 pairs the formats with no MM. -/
def State.mmArgs (s : State) (t : Nat) (f : MMSlot) : Option (MMArgs × NFmt × MMShape) :=
  match FmtWord.ofWord (s.mfmt t f.fsa), FmtWord.ofWord (s.mfmt t f.fsb) with
  | some fa, some fb =>
    match mmFmt fa.fmt fb.fmt with
    | none => none
    | some nf =>
      let cplx := f.cplx && cplxAllowed nf
      let g : MMArgs := ⟨fa, fb, f.shape, cplx, f.conj && cplx, f.neg, f.ta && !fa.fmt.isSkb, f.tb && !fb.fmt.isSkb, f.add⟩
      (mmShape nf f.shape cplx).map (fun sh => (g, nf, sh))
  | _, _ => none

/-- Vendor operands: the chains the sampler may follow (R299). -/
def sampleFmts (g : MMArgs) : Bool := g.fa.fmt.isVendor && g.fb.fmt.isVendor

/-- A free slot of a die's dress-check area (R303). -/
def freeSlot (c : DcLive) : Option Nat := (List.range 32).find? (fun i => !c.slots.contains i)

/-- The sampler's draw at an eligible start: selected with probability 2^−RATE (R299, R300). -/
def State.samplerDraw (s : State) (t : Nat) : Bool × State :=
  let x := s.tile t
  let d := (Config.sampleDraw (BitVec.ofNat 32 (s.fld R.TA_DC_CTL_SEED)) t x.samplerDraws).toNat
  (decide (d % 2 ^ s.fld R.TA_DC_CTL_RATE = 0), s.setTile t { x with samplerDraws := x.samplerDraws + 1 })

/-- An MM meets the sampler (R299, R301): it may start a chain, extend one, or end one. Answers whether it is recorded.
One that ends the sample of its tag is itself drawn as a start (DESIGN CHOICE: the manual does not order the two). -/
def State.sampleMM (s : State) (t : Nat) (g : MMArgs) (tag units : Nat) : Bool × State :=
  let die := t / 256
  let fmts := (g.fa.fmt, g.fb.fmt)
  -- an MM on the tag of a chain in flight
  let step1 : Bool × State := match (s.tile t).chain with
    | none => (false, s)
    | some c =>
      if tag < c.tag + c.units ∧ c.tag < tag + units then
        if g.add && c.fmts == fmts && decide (c.count < 16) && c.tag == tag then
          (true, s.setTile t { s.tile t with chain := some { c with count := c.count + 1 } })
        else (false, s.dcAbandon t)
      else (false, s)
  if step1.1 || g.add || !sampleFmts g || !s.bit R.TA_DC_CTL_CHAIN_EN || !s.bit (R.TA_DC_AREA_VALID die) then step1
  else
    let s := step1.2
    match (s.tile t).chain with
    | some _ => (false, s.dcUpd die (fun c => { c with skipped := satAdd 0xFFFFFFFF c.skipped 1 }))
    | none =>
      -- a conversion sample in flight: not eligible
      if (s.tile t).xfers.any (fun x => x.sample.isSome) then (false, s)
      else
      let d := s.samplerDraw t
      if !d.1 then (false, d.2)
      else
        let s := d.2.dcUpd die (fun c => { c with selected := satAdd 0xFFFFFFFF c.selected 1 })
        match freeSlot (smapGet DcLive.init s.dc die) with
        | none => (false, s.dcUpd die (fun c => { c with dropped := satAdd 0xFFFF c.dropped 1 }))
        | some k =>
          (true, (s.setTile t { s.tile t with chain := some ⟨tag, units, fmts, 1, [], k⟩ }).dcUpd die
            (fun c => { c with slots := k :: c.slots }))

/-- The errors that words of a panel hold are met by the array's reads (R242, R243). -/
def State.panelFlaws (s : State) (t base len : Nat) : Bool × State :=
  if s.flaws.isEmpty then (false, s)
  else (dataWords t base len).foldl (fun acc w => let r := acc.2.meetFlaws (tileMid t) w 8; (acc.1 || r.1, r.2)) (false, s)

/-- Issue an MM (R104, R108, R109, R114, R118). -/
def State.issueMM (s : State) (t : Nat) (f : MMSlot) : State :=
  match s.mmArgs t f with
  | none => s
  | some (g, nf, sh) =>
    let units := sh.units g.cplx
    let tag := f.tag.val / units * units
    let baseA := s.oaBase t f.oaa
    let baseB := s.oaBase t f.oab
    let lenA := panelBytes g.fa sh.m sh.k g.cplx
    let lenB := panelBytes g.fb sh.n sh.k g.cplx
    let fl := s.panelFlaws t baseA lenA
    let fm := fl.2.panelFlaws t baseB lenB
    let s := if fl.1 then fm.2.tileCause t 2 0 0x42 baseA else fm.2
    let s := if fm.1 then s.tileCause t 2 0 0x42 baseB else s
    let sm := s.sampleMM t g tag units
    let s := sm.2
    let id := (s.tile t).ordNext
    let job : MMJob := ⟨id, g, nf, sh, tag, units, baseA, baseB, s.panel t baseA lenA, s.panel t baseB lenB,
      s.poisonRows t g.fa baseA lenA sh.m sh.k g.cplx g.ta, s.poisonRows t g.fb baseB lenB sh.n sh.k g.cplx g.tb, sm.1, []⟩
    let s := s.setTile t { s.tile t with jobs := (s.tile t).jobs ++ [job], ordNext := id + 1 }
    let s := s.hold t resArray sh.occ
    let inc := fun (u : State) (n : Nat) => u.sched t 1 (.commit (R.TA_OA t n)
      (BitVec.ofNat 64 ((s.oaBase t n + s.fld (R.TA_OA_STEP t n)) % 2 ^ 19)) 0x7FFFF)
    let s := if f.inc then (if f.oaa = f.oab then inc s f.oaa else inc (inc s f.oaa) f.oab) else s
    (s.schedAt t sh.occ id (.mmPanels id)).schedAt t (sh.ready - 1) id (.mmAdd id)

/-- What a panel byte may be read as: its value at the issue, and every value written to it since (R108). -/
def MMJob.seen (j : MMJob) (t base i : Nat) (old : Byte) : List Byte :=
  old :: (j.alts.filter (fun p => p.1 == tileBase t + (base + i) % 2 ^ 19)).map Prod.snd

/-- The array has read its panels (R108): each byte written meanwhile was read old or new, as nothing in the manual fixes. -/
def State.mmPanelsDone (s : State) (t id : Nat) : State :=
  match (s.tile t).jobs.find? (fun j => j.id == id) with
  | none => s
  | some j =>
    let mix := fun (base : Nat) (old : List Byte) (salt : Nat) => old.zipIdx.map (fun p =>
      let l := j.seen t base p.2 p.1
      l.getD (Config.pickByte (s.free + salt) p.2 % l.length) p.1)
    let a := if j.alts.isEmpty then j.bytesA else mix j.baseA j.bytesA 0
    let b := if j.alts.isEmpty then j.bytesB else mix j.baseB j.bytesB 1
    let s := if j.alts.isEmpty then s else { s with free := s.free + 2 }
    let x := s.tile t
    let chain := if j.sampled then x.chain.map (fun c => { c with mms := c.mms ++ [⟨j.args, a, b⟩] }) else x.chain
    s.setTile t { x with
      jobs := x.jobs.map (fun y => if y.id = id then { y with bytesA := a, bytesB := b, alts := [] } else y)
      chain := chain }

/-- A reader of a byte list. -/
def listRd (l : List Byte) : ByteRd := fun i => l.getD i 0

/-- The cycle before the ready cycle (R114): the accumulator values are taken and the commit is on its way. -/
def State.mmFinish (s : State) (t id : Nat) : State :=
  match (s.tile t).jobs.find? (fun j => j.id == id) with
  | none => s
  | some j =>
    let comp := j.shape.comp
    let parts := if j.args.cplx then 2 else 1
    let base := tileBase t + offAcc + j.tag * 512
    let fl := if j.args.add then s.meetFlaws (tileMid t) base (j.units * 512) else (false, s)
    let s := if fl.1 then fl.2.tileCause t 2 0 0x42 j.baseA else fl.2
    let r := mmCompute (fun e k => Config.sumPick s.free e k) j.args (listRd j.bytesA) (listRd j.bytesB)
      (fun n => s.accBits t j.tag comp n)
    let bad := fun (n : Nat) =>
      let e := n / parts
      j.poisonA.contains (e / j.shape.n) || j.poisonB.contains (e % j.shape.n)
        || (j.args.add && s.poisoned ((base + n * comp) / 8 * 8))
    let nan := if accFmt j.fmt = .b64 then encB64 0 defaultNan else encB32 0 defaultNan
    let bits := r.1.zipIdx.map (fun p => if bad p.2 then nan else p.1)
    let anyBad := (List.range r.1.length).any bad
    let s := { s with free := s.free + 1 }
    let s := s.setTile t { s.tile t with jobs := (s.tile t).jobs.filter (fun y => decide (y.id ≠ id)) }
    let s := s.schedAt t 1 id (.bytes base (bits.flatMap (fun b => leBytes b comp)))
    let s := if r.2 = 0 then s else s.schedAt t 1 id (.stat (.ofFlags r.2))
    if anyBad then s.tileCause t 2 0 0x45 (if j.poisonA.isEmpty then j.baseB else j.baseA) else s

/-- Units of an SHD (Table 5.3). -/
def shdUnits (f : ShdSlot) : Nat := 2 ^ f.size.val

/-- Issue an SHD (R105, R118, R122). -/
def State.issueShd (s : State) (t : Nat) (f : ShdSlot) : State :=
  let u := shdUnits f
  (s.hold t resDrainp u).sched t 1 (.shdRead (f.tag.val / u * u) (f.sunit.val / u * u) u)

/-- An SHD, or a DRAIN into no vendor format, that reads a sampled unit abandons the sample (R301). -/
def State.sampleRead (s : State) (t tag u : Nat) : State :=
  match (s.tile t).chain with
  | none => s
  | some c => if tag < c.tag + c.units ∧ c.tag < tag + u then s.dcAbandon t else s

/-- Cycle 1 of an SHD: the units are read, the copy commits at cycle u + 3; poison moves with the data (R245). A cause met
there has ADDR 0 (DESIGN CHOICE: Table 8.14 names a panel, and there is none). -/
def State.shdReadNow (s : State) (t ord tag sunit u : Nat) : State :=
  let s := s.sampleRead t tag u
  let src := tileBase t + offAcc + tag * 512
  let dst := tileBase t + offShadow + sunit * 512
  let fl := s.meetFlaws (tileMid t) src (u * 512)
  let s := if fl.1 then fl.2.tileCause t 2 0 0x42 0 else fl.2
  let ps := ((List.range (u * 64)).filter (fun i => s.poisoned (src + 8 * i))).map (fun i => dst + 8 * i)
  let s := s.schedAt t (u + 2) ord (.bytes dst (s.bytes src (u * 512)))
  if ps.isEmpty then s else s.schedAt t (u + 2) ord (.poison ps)

/-- The source of a DRAIN by ATYPE and SHAPE (Table 4.4, R135). -/
def drainShape (atype : Nat) (wide : Bool) : Option DrainShape :=
  let sq := fun (a : NFmt) (n : Nat) (c : Bool) => if wide then (⟨a, n / 2, 2 * n, c⟩ : DrainShape) else ⟨a, n, n, c⟩
  match atype with
  | 0 => some (sq .b32 16 false) | 1 => some (sq .b32x2 8 false) | 2 => some (sq .b64 8 false)
  | 3 => some (sq .b32 16 true) | 4 => some (sq .b32x2 8 true) | 5 => some (sq .b64 8 true)
  | 6 => some (sq .b32 32 false) | _ => none

/-- Issue a DRAIN (R105, R121, R128). -/
def State.issueDrain (s : State) (t : Nat) (f : DrainSlot) : State :=
  match drainShape f.atype f.shape, FmtWord.ofWord (s.mfmt t f.fsd) with
  | some d, some w =>
    let u := d.units
    let m := b2n f.mask
    let ready := 2 * u + 8 + m
    (s.hold t resDrainp (2 * u + m)).sched t 1 (.drainRead ⟨d, w, f.mask, f.tag.val / u * u, s.oaBase t f.oad, ready⟩)
  | _, _ => s

/-- Offsets written for value `n` of a panel: its element, or its whole block with scale and escape (R247). -/
def elemBytesOf (f : FmtWord) (rows cols n : Nat) : List Nat :=
  if f.fmt.isSkb then
    let nb := rowBlocks f cols
    let k := n / cols * nb + n % cols / f.block
    let eb := f.block * f.fmt.bits / 8
    ((List.range eb).map (fun i => k * eb + i)) ++ [scalePlaneAt f rows cols + k]
      ++ (if f.esc then (List.range 4).map (fun i => escPlaneAt f rows cols + 4 * k + i) else [])
  else (List.range f.fmt.size).map (fun i => n * f.fmt.size + i)

/-- Cycle 1 of a DRAIN: the units are read; the sample of the tag closes, or is abandoned (R301). The units' values are
converted on the way to the ready cycle. -/
def State.drainReadNow (s : State) (t ord : Nat) (d : DrainJob) : State :=
  let sh := d.shape
  let u := sh.units
  let size := sh.acc.size
  let l := sh.rowLen
  let base := tileBase t + offAcc + d.tag * 512
  let fl := s.meetFlaws (tileMid t) base (u * 512)
  let s := if fl.1 then fl.2.tileCause t 2 0 0x42 d.dst else fl.2
  let vals := (List.range (sh.m * l)).map (fun n => s.accBits t d.tag size n)
  let bad := (List.range (sh.m * l)).filter (fun n => (unitsOver .ring (base + n * size) size).any (fun w => s.poisoned w))
  let units := s.bytes base (u * 512)
  let r : Option ChainSample × State := match (s.tile t).chain with
    | some c =>
      if d.tag < c.tag + c.units ∧ c.tag < d.tag + u then
        if d.fmt.fmt.isVendor then (some c, s.setTile t { s.tile t with chain := none }) else (none, s.dcAbandon t)
      else (none, s)
    | none => (none, s)
  let s := r.2.schedAt t (d.ready - 2) ord (.drainConv ⟨d, vals, bad, r.1, units, []⟩)
  if bad.isEmpty then s else s.tileCause t 2 0 0x45 d.dst

/-- The cycle before a DRAIN's ready cycle: its values are converted, with the draws of the seeds they fell under, and the
output commits in the next (R98, R101, R121, R247). -/
def State.drainConvNow (s : State) (t ord : Nat) (q : DrainRun) : State :=
  let d := q.job
  let sh := d.shape
  let l := sh.rowLen
  let f := drainFmt d.fmt l
  let acc := fun n => q.vals.getD n 0
  let n := (drainOut sh d.fmt d.mask (fun _ => 0) acc).1.draws
  let r := drainOut sh d.fmt d.mask (s.drainDraw t n q.segs) acc
  let at_ := fun (o : Nat) => tileBase t + (d.dst + o) % 2 ^ 19
  let maskOf := fun (n : Nat) => if d.mask then [roundUp (panelEnd f sh.m l) 128 + n / 8] else []
  let badWords := (q.bad.flatMap (fun n => (elemBytesOf f sh.m l n ++ maskOf n).map (fun o => at_ o / 8 * 8))).dedup
  let s := match q.chain with
    | some c => s.tapRecord (.chain (t / 256) c.slot c.tag d.tag c.mms sh.m l f r.1.bytes q.units)
    | none => s
  let s := s.tileDrew t unitDrain (drainLeft n q.segs)
  let s := s.schedAt t 1 ord (.masked (r.1.bytes.map (fun p => (at_ p.1, p.2))))
  let st : CvtStat := { r.1.stat with flags := Nat.lor r.1.stat.flags (if r.2.2 then fModeFix else 0) }
  let s := if st = CvtStat.none then s else s.schedAt t 1 ord (.stat st)
  if q.bad.isEmpty then s else s.schedAt t 1 ord (.poison badWords)

/-- What halts the tile at an M slot: a reserved field (R139), or a resource still held (R149). -/
def State.checkM (s : State) (t : Nat) (i : MInsn) : Option HaltReq :=
  if !i.wf then some ⟨0x01, slotM, 0, 0, encodeM i⟩
  else
    match i with
    | .nop => none
    | .mm f => match s.mmArgs t f with
      | some (_, _, sh) => s.busyCheck t slotM resArray sh.occ
      | none => none
    | .shd f => s.busyCheck t slotM resDrainp (shdUnits f)
    | .drain f => match drainShape f.atype f.shape with
      | some d => s.busyCheck t slotM resDrainp (2 * d.units)
      | none => none

/-- Does the manual say what this M slot does? A format word it leaves to the verifier gives no effect in an unverified image
(R14, R104). -/
def State.definedM (s : State) (t : Nat) (i : MInsn) : Bool :=
  match i with
  | .mm f => (s.mmArgs t f).isSome
  | .drain f => (FmtWord.ofWord (s.mfmt t f.fsd)).isSome
  | _ => true

/-- Perform an M slot. -/
def State.performM (s : State) (t : Nat) (i : MInsn) : State :=
  match i with
  | .nop => s
  | .mm f => s.issueMM t f
  | .shd f => s.issueShd t f
  | .drain f => s.issueDrain t f

/-- An M slot issued alone. -/
def State.runM (s : State) (t : Nat) (i : MInsn) : Out :=
  if s.canIssue t && (s.checkM t i).isNone && !s.definedM t i then .fault .undefinedFormat
  else .next (s.issueAlone t (fun u => u.checkM t i) (fun u => u.performM t i))

/-- MATRIX_NOP: R134, R135. -/
def execMatrixNop (t : Tile) (s : State) : Out := s.runM t .nop

/-- MM: R104 to R120. -/
def execMm (t : Tile) (f : MMSlot) (s : State) : Out := s.runM t (.mm f)

/-- SHD: R122. -/
def execShd (t : Tile) (f : ShdSlot) (s : State) : Out := s.runM t (.shd f)

/-- DRAIN: R121, R128. -/
def execDrain (t : Tile) (f : DrainSlot) (s : State) : Out := s.runM t (.drain f)

end Sys2Proof.Machine
end

