-- ==== Sys2Proof/Machine/TileMover.lean ====
section
/-!
DEFINITION. Machine/TileMover.lean: the data mover (R136, R150-R155, R237-R239, R245-R247, R302, R337-R339): issuing a D
operation, reading its source, delivering to its destination here or on another seat, completing it.
-/
namespace Sys2Proof.Machine

def State.xfer? (s : State) (t id : Nat) : Option Xfer := (s.tile t).xfers.find? (fun x => x.id == id)

def State.putXfer (s : State) (t : Nat) (x : Xfer) : State :=
  s.setTile t { s.tile t with xfers := (s.tile t).xfers.map (fun y => if y.id = x.id then x else y) }

/-- Seat field and device address of a global address (R5). -/
def gSeat (a : Nat) : Nat := bitsOf a 58 44
def gDev (a : Nat) : Nat := bitsOf a 43 0

def State.isLocal (s : State) (a : Nat) : Bool := gSeat a == s.mySeat

/-- The format words of a CONVERT, where both name a format (R14, R74). -/
def Xfer.fmts (x : Xfer) : Option (FmtWord × FmtWord) :=
  match FmtWord.ofWord x.sfmt, FmtWord.ofWord x.dfmt with
  | some a, some b => some (a, b)
  | _, _ => none

/-- Elements of a CONVERT: LEN counts the bytes of the element plane. -/
def Xfer.elems (x : Xfer) : Nat :=
  match x.fmts with
  | some (f, _) => if f.fmt.isSkb then x.len * 8 / f.fmt.bits / f.block * f.block else x.len / f.fmt.size
  | none => 0

/-- Bytes from SRC that a transfer reads. -/
def Xfer.srcSpan (x : Xfer) : Nat :=
  match x.op with
  | .fill => 0
  | .convert => (match x.fmts with | some (f, _) => if x.elems = 0 then 0 else panelEnd f 1 x.elems | none => 0)
  | _ => x.len

/-- Bytes from DST that a transfer may write. -/
def Xfer.dstSpan (x : Xfer) : Nat :=
  match x.op with
  | .convert => (match x.fmts with
    | some (_, g) => if x.elems = 0 then 0 else
        (if x.slot.mask then roundUp (panelEnd g 1 x.elems) 128 + (x.elems + 7) / 8 else panelEnd g 1 x.elems)
    | none => 0)
  | _ => x.len

/-- Is a device address in the trap (R226)? -/
def inTrap (a : Nat) : Bool := decide (a < 2 ^ 40)

/-- R237: a narrow transfer's trap side is 32-byte aligned, and so is its LEN. -/
def Xfer.misaligned (x : Xfer) : Option Nat :=
  if !x.slot.narrow then none
  else
    let bad := fun (a : Nat) => inTrap (gDev a) && (gDev a % 32 != 0 || x.len % 32 != 0)
    if x.op ≠ .fill ∧ bad x.src then some x.src else if bad x.dst then some x.dst else none

/-- A cause of a transfer, with the global address of the failing access: the first is its fault, and each further one counts too
(R261). -/
def Xfer.blame (x : Xfer) (code addr : Nat) : Xfer :=
  if code = 0 then x
  else
    match x.cause with
    | none => { x with cause := some (code, addr) }
    | some _ => { x with more := x.more ++ [(code, addr)] }

/-- The causes of accesses to this part, at device addresses. -/
def Xfer.blameAll (x : Xfer) (mySeat : Nat) (l : List (Nat × Nat)) : Xfer :=
  l.foldl (fun y c => y.blame c.1 (mySeat * 2 ^ 44 + c.2)) x

/-- The version a GATHER or REGATHER compares its responses with: that of its first response, or the one held (R338, R339). -/
def Xfer.heldVersion (x : Xfer) : Option Nat :=
  match x.op with
  | .gather => x.vers.head?.map Prod.fst
  | .regather => some x.version
  | _ => none

/-- A response of version `v` for the granule at device address `a` arrives: the first that differs raises STALE_GATHER, in its place among
the transfer's causes (R261, R338, R339). -/
def Xfer.sawVersion (x : Xfer) (v a : Nat) : Xfer :=
  let y := { x with vers := x.vers ++ [(v, a)] }
  if (x.cause.toList ++ x.more).any (fun c => c.1 == 0x47) || x.heldVersion.all (· == v) then y
  else y.blame 0x47 (gSeat x.src * 2 ^ 44 + a)

/-- The responses of this part's granules arrive, each with its cause or its version. -/
def Xfer.sawAll (x : Xfer) (mySeat : Nat) (causes vers : List (Nat × Nat)) : Xfer :=
  vers.foldl (fun y p => (y.blameAll mySeat (causes.filter (fun c => c.2 == p.2))).sawVersion p.1 p.2) x

/-- The sampler at an eligible CONVERT (R299, R302, R303): the slot of a sample taken. -/
def State.sampleConvert (s : State) (t : Nat) (sf df : FmtWord) : Option Nat × State :=
  let die := t / 256
  let src := match sf.fmt with | .b64 => true | .b32 => true | .b32x2 => true | _ => false
  if !src || !df.fmt.isVendor || !s.bit R.TA_DC_CTL_CONVERT_EN || !s.bit (R.TA_DC_AREA_VALID die) then (none, s)
  else if (s.tile t).xfers.any (fun x => x.sample.isSome) then
    (none, s.dcUpd die (fun c => { c with skipped := satAdd 0xFFFFFFFF c.skipped 1 }))
  else
    let d := s.samplerDraw t
    if !d.1 then (none, d.2)
    else
      let s := d.2.dcUpd die (fun c => { c with selected := satAdd 0xFFFFFFFF c.selected 1 })
      match freeSlot (smapGet DcLive.init s.dc die) with
      | none => (none, s.dcUpd die (fun c => { c with dropped := satAdd 0xFFFF c.dropped 1 }))
      | some k => (some k, s.dcUpd die (fun c => { c with slots := k :: c.slots }))

/-- What halts the tile at a D slot (R139, R149, R152, R153). -/
def State.checkD (s : State) (t : Nat) (i : DInsn) : Option HaltReq :=
  match i with
  | .nop => none
  | .op _ f =>
    if f.wc.val = 15 then some ⟨0x01, slotD, 0, 0, encodeD i⟩
    else if 16 ≤ (s.tile t).xfers.length then some ⟨0x03, slotD, 0, 0, f.desc.val⟩
    else if s.wc t f.wc.val = 255 then some ⟨0x04, slotD, 0, 0, f.wc.val⟩
    else s.busyCheck t slotD resDmq 1

/-- Read requests of a transfer whose source is on another seat (R357, R375). -/
def State.sendReads (s : State) (t : Nat) (x : Xfer) : State :=
  let span := x.srcSpan
  (cuts (gDev x.src) (gDev x.dst) span).foldl (fun u c =>
    u.sendReq (.xfer t x.id c.1) opReadReq (tileMid t) (gSeat x.src) (gDev x.src + c.1) x.slot.hint.val 0 [] [] c.2
      (gDev x.dst + c.1)) s

/-- A run of granules of one seat, and whether they are written. -/
structure Span where
  seat : Nat
  lo : Nat
  hi : Nat
  write : Bool
  deriving DecidableEq, Repr

def spanOf (a len : Nat) (write : Bool) : List Span :=
  if len = 0 then [] else [⟨gSeat a, gDev a / 128, (gDev a + len + 127) / 128, write⟩]

def Span.meets (a b : Span) : Bool := a.seat == b.seat && decide (a.lo < b.hi) && decide (b.lo < a.hi)

/-- What a transfer reads and writes. -/
def Xfer.spans (x : Xfer) : List Span :=
  (if x.op = .fill then [] else spanOf x.src x.srcSpan false) ++ spanOf x.dst x.dstSpan true

/-- What a prompter access outside the tile reads or writes. -/
def GlobAcc.spans (g : GlobAcc) : List Span :=
  if g.bad then []
  else match g.load with
    | some (k, _) => spanOf g.addr (ldSize k) false
    | none => spanOf g.addr g.bytes.length true

/-- Accesses of earlier operations of the tile that are not performed yet. Writes that have left for another seat are performed
there in the order they leave in (R374), so that only reads wait for them. -/
def State.unperformed (s : State) (t ord : Nat) (write : Bool) : List Span :=
  let left := fun (l : List Span) => if write then l.filter (fun p => p.seat == s.mySeat) else l
  ((s.tile t).xfers.filter (fun y => decide (y.ord < ord))).flatMap (fun y =>
      match y.phase with
      | .done => []
      | .waiting => left (spanOf y.dst y.dstSpan true)
      | _ => y.spans)
    ++ ((s.tile t).globals.filter (fun g => decide (g.ord < ord))).flatMap (fun g =>
      if g.sent && g.load.isNone then left g.spans else g.spans)

/-- May these accesses be performed now? Accesses of one master to one granule keep their issue order (R29), on this part and
across the fabric (R374). -/
def State.inOrder (s : State) (t ord : Nat) (l : List Span) : Bool :=
  l.all (fun a => !(s.unperformed t ord a.write).any (fun b => a.meets b))

def State.xferMayGo (s : State) (t : Nat) (x : Xfer) : Bool := s.inOrder t x.ord x.spans

/-- A transfer whose reads leave; one that reads nothing has nothing outstanding. -/
def Xfer.begun (x : Xfer) : Xfer :=
  let n := (cuts (gDev x.src) (gDev x.dst) x.srcSpan).length
  if n = 0 then { x with phase := .done } else { x with phase := .reading, wait := n }

/-- The read requests of a transfer leave. -/
def State.startReads (s : State) (t : Nat) (x : Xfer) : State :=
  let x := x.begun
  (s.putXfer t x).sendReads t x

/-- Does this D slot name formats the manual gives it a meaning for (R14, R74)? -/
def State.definedD (s : State) (t : Nat) (i : DInsn) : Bool :=
  match i with
  | .op .convert f =>
    let w := (s.reg (R.TA_DMD_W2 t f.desc.val)).toNat
    (FmtWord.ofWord (bitsOf w 47 32)).isSome && (FmtWord.ofWord (bitsOf w 63 48)).isSome
  | _ => true

/-- Issue a D operation: its descriptor is read now (R155), its counter rises (R150), and reads of another seat leave. -/
def State.issueD (s : State) (t : Nat) (o : DOp) (f : DSlot) : State :=
  let d := f.desc.val
  let w2 := (s.reg (R.TA_DMD_W2 t d)).toNat
  let s := (s.hold t resDmq 1).wcInc t f.wc.val
  let sm := match o, FmtWord.ofWord (bitsOf w2 47 32), FmtWord.ofWord (bitsOf w2 63 48) with
    | .convert, some a, some b => s.sampleConvert t a b
    | _, _, _ => (none, s)
  let s := sm.2
  let id := (s.tile t).ordNext
  let x : Xfer := ⟨id, o, s.fld (R.TA_DMD_W0_SRC t d), s.fld (R.TA_DMD_W1_DST t d), bitsOf w2 31 0, bitsOf w2 47 32,
    bitsOf w2 63 48, s.fld (R.TA_DMD_W3_VERSION t d), f, id, sm.1, .queued, 0, [], none, [], [], [], []⟩
  let bad := x.misaligned
  let far := !s.isLocal x.src && o != .fill
  let x := match bad with
    | some a => { x.blame 0x44 a with phase := .done }
    | none => if far && s.isLost (gSeat x.src) then { x.blame 0x65 x.src with phase := .done } else x
  let go := far && x.phase == .queued && s.xferMayGo t x
  let x := if go then x.begun else x
  let s := s.setTile t { s.tile t with xfers := (s.tile t).xfers ++ [x], ordNext := id + 1 }
  if go then s.sendReads t x else s

/-- Perform a D slot. -/
def State.performD (s : State) (t : Nat) (i : DInsn) : State :=
  match i with
  | .nop => s
  | .op o f => s.issueD t o f

/-- A read of [a, a + n) of this part by a transfer or an engine: bytes with their poison, the causes and their addresses, and the
VERSION of each granule's response. -/
def State.moverRead (s : State) (mid a n hint : Nat) (narrow : Bool) (ecc : EccFinding) :
    (List SrcByte × List (Nat × Nat) × List (Nat × Nat)) × State :=
  (granulesOver a n).foldl (fun acc p =>
    let e := acc.2.access ⟨mid, p.1, p.2, none, hint, narrow, noEcc, none⟩
    let us := unitSize (regionOf acc.2.cacheN p.1)
    let bs := e.1.data.zipIdx.map (fun q => (⟨q.1, e.1.poison.contains ((p.1 + q.2) / us * us), false⟩ : SrcByte))
    let c := if e.1.cause = 0 then acc.1.2.1 else acc.1.2.1 ++ [(e.1.cause, p.1)]
    ((acc.1.1 ++ bs, c, acc.1.2.2 ++ [(e.1.version, p.1)]), e.2)) (([], [], []), s.plant ecc)

/-- The first of some causes, 0 for none. -/
def firstCause (l : List (Nat × Nat)) : Nat := (l.head?.map Prod.fst).getD 0

/-- Units of this part become poison, as data moved there was (R245). -/
def State.poisonAt (s : State) (a : Nat) : State :=
  let r := regionOf s.cacheN a
  match r with
  | .trap _ _ => s.setTrapPoison (unitBase r a) true
  | .unmapped => s
  | .breg _ => s
  | .tregs _ => s
  | .tbank _ _ => s
  | .ring => s
  | _ => s.setPoison (unitBase r a) true

/-- A cause that leaves nothing performed. -/
def notPerformed (c : Nat) : Bool := c == 0x40 || c == 0x41 || c == 0x46 || c == 0x10 || (c == deadWings && c != 0x42 && c != 0x43)

/-- Bytes of [a, a + n) that a write performed: none where it was refused, and none of the units it left (R246, R375). -/
def State.writtenOf (s : State) (a n : Nat) (e : MemEnd) : Nat :=
  if notPerformed e.cause then 0
  else
    let us := unitSize (regionOf s.cacheN a)
    ((List.range n).filter (fun i => !e.poison.contains ((a + i) / us * us))).length

/-- A write of bytes to this part for a transfer, granule by granule; bytes from poisoned units poison the units they
land in (R245, R246). Beside the causes it answers how many bytes it performed. -/
def State.moverWriteN (s : State) (mid a hint : Nat) (narrow : Bool) (ecc : EccFinding) (ord : Option Nat) (l : List (Byte × Bool)) :
    (List (Nat × Nat) × Nat) × State :=
  (granulesOver a l.length).foldl (fun acc p =>
    let piece := (l.drop (p.1 - a)).take p.2
    let e := acc.2.access ⟨mid, p.1, p.2, some (piece.map Prod.fst), hint, narrow, noEcc, ord⟩
    let refused := decide (e.1.cause = 0x40 ∨ e.1.cause = 0x41 ∨ e.1.cause = 0x46 ∨ e.1.cause = 0x10)
    let s := if refused then e.2 else
      (piece.zipIdx.filter (fun q => q.1.2)).foldl (fun u q => u.poisonAt (p.1 + q.2)) e.2
    ((if e.1.cause = 0 then acc.1.1 else acc.1.1 ++ [(e.1.cause, p.1)], acc.1.2 + s.writtenOf p.1 piece.length e.1), s)) (([], 0), s.plant ecc)

/-- The causes of a write and what it leaves. -/
def State.moverWrite (s : State) (mid a hint : Nat) (narrow : Bool) (ecc : EccFinding) (ord : Option Nat) (l : List (Byte × Bool)) :
    List (Nat × Nat) × State :=
  let r := s.moverWriteN mid a hint narrow ecc ord l
  (r.1.1, r.2)

/-- Offsets of the bytes of element `n` of a source of format `f`: its own bytes, and for a block its scale and escape
record (Table 8.7). -/
def srcElemBytes (f : FmtWord) (cols n : Nat) : List Nat :=
  if f.fmt.isSkb then
    let k := n / f.block
    (n * f.fmt.bits / 8) :: (scalePlaneAt f 1 cols + k)
      :: (if f.esc then (List.range 4).map (fun i => escPlaneAt f 1 cols + 4 * k + i) else [])
  else (List.range f.fmt.size).map (fun i => n * f.fmt.size + i)

/-- Consecutive offsets gathered into runs. -/
def runsOf {α : Type} : List (Nat × α) → List (Nat × List α)
  | [] => []
  | (o, b) :: r =>
    match runsOf r with
    | (o', l) :: rest => if o' = o + 1 then (o, b :: l) :: rest else (o, [b]) :: (o', l) :: rest
    | [] => [(o, [b])]

/-- What a transfer sends to DST, by offset: bytes with poison; the status of a conversion, its draws, and the offset of the first
poisoned source byte it consumed. -/
structure MoveOut where
  bytes : List (Nat × (Byte × Bool))
  stat : CvtStat
  draws : Nat
  consumed : Option Nat
  deriving DecidableEq, Repr

/-- Offsets a block format leaves between its planes are not moved. -/
def inPlanes (f : FmtWord) (n o : Nat) : Bool :=
  if f.fmt.isSkb then
    decide (o < elemPlaneBytes f 1 n) || (decide (scalePlaneAt f 1 n ≤ o) && decide (o < scalePlaneAt f 1 n + rowBlocks f n))
      || (f.esc && decide (escPlaneAt f 1 n ≤ o))
  else true

/-- The elements whose output depends on element `e` of `n`: its whole block in a block format, whose scale the element helps to set
(R90). -/
def madeWith (g : FmtWord) (n e : Nat) : List Nat :=
  if g.fmt.isSkb then (List.range' (e / g.block * g.block) g.block).filter (fun i => decide (i < n)) else [e]

/-- The data of a transfer on its way to DST (R94, R128, R154, R247). `draw` gives SR draws. What depends on a read that no response
answered is not written (R154): the whole block of such an element, with the mask bits of all its elements. -/
def moveOut (x : Xfer) (draw : Nat → Nat) (src : List SrcByte) : MoveOut :=
  let plain := fun (keep : Nat → Bool) =>
    (⟨(src.zipIdx.filter (fun p => !p.1.miss && keep p.2)).map (fun p => (p.2, (p.1.val, p.1.psn))), CvtStat.none, 0, none⟩ : MoveOut)
  match x.op with
  | .fill => ⟨(List.range x.len).map (fun i => (i, ((0 : Byte), false))), CvtStat.none, 0, none⟩
  | .convert =>
    (match x.fmts with
    | none => plain (fun _ => true)
    | some (f, g) =>
      let n := x.elems
      if n = 0 then ⟨[], CvtStat.none, 0, none⟩
      else
        let rd : ByteRd := fun i => (src.getD i ⟨0, false, false⟩).val
        let copy := cvtIsCopy f g
        let m := effRound g.fmt g.round
        let out := encPanel g m.1 f.fmt.isInt draw 1 n (fun i j => panelVal f rd 1 n i j)
        let bytes := if copy then (src.zipIdx.filter (fun p => inPlanes f n p.2)).map (fun p => (p.2, p.1.val)) else out.bytes
        let maskAt := roundUp (panelEnd g 1 n) 128
        let mask := if x.slot.mask then packBits maskAt (if copy then List.replicate n false else out.sat) else []
        let made := fun (e : Nat) => elemBytesOf g 1 n e ++ (if x.slot.mask then [maskAt + e / 8] else [])
        let psnAt := fun (e : Nat) => (srcElemBytes f n e).find? (fun o => (src.getD o ⟨0, false, false⟩).psn)
        let bad := (List.range n).filter (fun e => (psnAt e).isSome)
        let gone := (List.range n).filter (fun e => (srcElemBytes f n e).any (fun o => (src.getD o ⟨0, false, false⟩).miss))
        let badO := (bad.flatMap made).dedup
        let goneO := ((gone.flatMap (madeWith g n)).dedup.flatMap made).dedup
        ⟨((bytes ++ mask).filter (fun p => !goneO.contains p.1)).map (fun p => (p.1, (p.2, badO.contains p.1))),
          { (if copy then CvtStat.none else out.stat) with
            flags := Nat.lor (if copy then 0 else out.stat.flags) (if m.2 then fModeFix else 0) },
          out.draws, (bad.filterMap psnAt).min?⟩)
  | _ => plain (fun _ => true)

/-- Is offset `o` of a transfer's output a byte of one of its first `n` elements, of `total`? -/
def recByte (g : FmtWord) (total n o : Nat) : Bool :=
  if g.fmt.isSkb then
    let k := n / g.block
    decide (o < n * g.fmt.bits / 8) || (decide (scalePlaneAt g 1 total ≤ o) && decide (o < scalePlaneAt g 1 total + k))
      || (g.esc && decide (escPlaneAt g 1 total ≤ o) && decide (o < escPlaneAt g 1 total + 4 * k))
  else decide (o < n * g.fmt.size)

/-- A sampled CONVERT keeps what it read and made until it completes (R302). -/
def Xfer.keepSample (x : Xfer) (src : List SrcByte) (out : MoveOut) : Xfer :=
  if x.sample.isSome then { x with convSrc := src.map SrcByte.val, convOut := out.bytes.map (fun p => (p.1, p.2.1)) } else x

/-- The sample of a CONVERT that completes is recorded, or, with a fault, abandoned (R154, R302). -/
def State.closeConvSample (s : State) (t : Nat) (x : Xfer) : State :=
  match x.sample, x.fmts with
  | some k, some (f, g) =>
    let die := t / 256
    if x.cause.isSome then
      s.dcUpd die (fun c => { c with abandoned := satAdd 0xFFFF c.abandoned 1, slots := c.slots.filter (fun y => decide (y ≠ k)) })
    else
      let n0 := min (x.len / f.fmt.size) 4096
      let n := if g.fmt.isSkb then n0 / g.block * g.block else n0
      s.tapRecord (.conv die k f g n x.elems (x.convSrc.take (n * f.fmt.size)) (x.convOut.filter (fun p => recByte g x.elems n p.1)))
  | _, _ => s

/-- Write what a transfer made to DST on this part. -/
def State.putLocal (s : State) (t : Nat) (x : Xfer) (l : List (Nat × (Byte × Bool))) : Xfer × State :=
  (runsOf l).foldl (fun acc r =>
    let w := acc.2.moverWrite (tileMid t) (gDev x.dst + r.1) x.slot.hint.val x.slot.narrow noEcc (some x.ord) r.2
    (acc.1.blameAll s.mySeat w.1, w.2)) (x, s)

/-- Write requests to DST on another seat (R357, R375): packets within 4 KiB blocks; the transfer waits for each. -/
def State.putRemote (s : State) (t : Nat) (x : Xfer) (op fmt : Nat) (l : List (Nat × (Byte × Bool))) : Xfer × State :=
  if s.isLost (gSeat x.dst) then (x.blame 0x65 x.dst, s)
  else
    (runsOf l).foldl (fun acc r =>
      let a := gDev x.dst + r.1
      (cuts a a r.2.length).foldl (fun acc c =>
        let piece := (r.2.drop c.1).take c.2
        ({ acc.1 with wait := acc.1.wait + 1 },
          acc.2.sendReq (.xfer t x.id (r.1 + c.1)) op (tileMid t) (gSeat x.dst) (a + c.1) x.slot.hint.val fmt
            (piece.map Prod.fst) (piece.map Prod.snd) c.2 0)) acc) (x, s)

/-- A reduce-write of a transfer to DST on this part, cut at 4 KiB as packets are; a part that is held is waited for. -/
def State.reduceLocal (s : State) (t : Nat) (x : Xfer) (l : List (Nat × (Byte × Bool))) : Xfer × State :=
  (runsOf l).foldl (fun acc r =>
    let a := gDev x.dst + r.1
    (cuts a a r.2.length).foldl (fun acc c =>
      let piece := (r.2.drop c.1).take c.2
      let e := acc.2.reduceWrite false ⟨tileMid t, a + c.1, x.dfmt, false, piece.map Prod.fst, piece.map Prod.snd, noEcc, .xfer t x.id⟩
      let y := acc.1.blame e.1.cause (x.dst + r.1 + c.1)
      (if e.1.held then { y with wait := y.wait + 1 } else y, e.2)) acc) (x, s)

/-- The source is in hand: the transfer goes to DST. Poison consumed is blamed at the first poisoned byte of the source (DESIGN CHOICE: R261
gives ADDR as that of the failing access). -/
def State.deliver (s : State) (t : Nat) (x : Xfer) (src : List SrcByte) : State :=
  let out := moveOut x (s.tileDraw t unitMover) src
  let s := (s.tileStat t out.stat).tileDrew t unitMover out.draws
  let x := match out.consumed with
    | some o => x.blame 0x45 (x.src + o)
    | none => x
  let r := match x.op, s.isLocal x.dst with
    | .rwrite, true => s.reduceLocal t x out.bytes
    | .rwrite, false => s.putRemote t x opRwAdd x.dfmt out.bytes
    | _, true => s.putLocal t x out.bytes
    | _, false => s.putRemote t x opWrite 0 out.bytes
  let x := r.1
  let x := { x with phase := if x.wait = 0 then .done else .waiting, got := [] }
  r.2.putXfer t (x.keepSample src out)

/-- A GATHER's or REGATHER's write of VERSION, ordered against prompter stores of its cycle as R146 says (R166). -/
def State.writeVersion (s : State) (t ord d v : Nat) : State :=
  let f := R.TA_DMD_W3_VERSION t d
  let mask := (2 ^ (f.hi + 1 - f.lo) - 1) <<< f.lo
  s.commitReg t ord f.addr (BitVec.ofNat 64 (v <<< f.lo)) (BitVec.ofNat 64 mask)

/-- What a GATHER or REGATHER leaves in VERSION: the version of its first response, or of the first that differs from the one held
(R338, R339). -/
def State.versions (s : State) (t : Nat) (x : Xfer) : State :=
  match x.op with
  | .gather => (match x.vers.head? with
    | some p => s.writeVersion t x.ord x.slot.desc.val p.1
    | none => s)
  | .regather => (match x.vers.find? (fun p => decide (p.1 ≠ x.version)) with
    | some p => s.writeVersion t x.ord x.slot.desc.val p.1
    | none => s)
  | _ => s

/-- The versions a STALE_GATHER names: the one held, and the first that differs from it (R339). -/
def Xfer.stalePair (x : Xfer) : Nat :=
  let held := (match x.op with | .regather => some x.version | _ => x.vers.head?.map Prod.fst).getD 0
  held * 2 ^ 32 + ((x.vers.find? (fun p => decide (p.1 ≠ held))).map Prod.fst).getD 0

/-- A cause of a transfer reaches its tile; STALE_GATHER has an EVENT entry of its own beside the FAULT (R257, R339). -/
def State.xferCause (s : State) (t : Nat) (x : Xfer) (c : Nat × Nat) : State :=
  let s := s.tileCause t 0 x.slot.desc.val c.1 c.2
  if c.1 = 0x47 then s.memEvent (tileMid t) 0x47 x.stalePair else s

/-- A transfer with nothing outstanding completes (R150, R151, R154, R261). -/
def State.finishXfer (s : State) (t : Nat) (x : Xfer) : State :=
  let s := s.versions t x
  let s := (x.cause.toList ++ x.more).foldl (fun u c => u.xferCause t x c) s
  let s := s.closeConvSample t x
  (s.setTile t { s.tile t with xfers := (s.tile t).xfers.filter (fun y => decide (y.id ≠ x.id)) }).wcDec t x.slot.wc.val

/-- Finish a transfer if nothing of it is outstanding. -/
def State.tryFinish (s : State) (t id : Nat) : State :=
  match s.xfer? t id with
  | some x => if x.phase = .done then s.finishXfer t x else s
  | none => s

/-- A read response's data, or the code that ended the wait, reaches the transfer that asked (R154, R337, R375, R377). -/
def State.xferRead (s : State) (t id off len : Nat) (resp : Option (List Byte × List Bool × Nat × Nat)) (code : Nat) : State :=
  match s.xfer? t id with
  | none => s
  | some x =>
    let part : List SrcByte := match resp with
      | some (d, ps, _, _) => (List.range len).map (fun i => ⟨d.getD i 0, ps.getD i false, false⟩)
      | none => List.replicate len ⟨0, false, true⟩
    let x := x.blame code (x.src + off)
    let x := match resp with
      | some (_, _, v, a) => x.sawVersion v a
      | none => x
    let now := match x.op with
      | .copy => s.isLocal x.dst | .gather => s.isLocal x.dst | .regather => s.isLocal x.dst | _ => false
    let r : Xfer × State := if now && resp.isSome then
        s.putLocal t x ((part.zipIdx).map (fun p => (off + p.2, (p.1.val, p.1.psn))))
      else (x, s)
    let x := { r.1 with wait := r.1.wait - 1, got := if now then r.1.got else r.1.got ++ [(off, part)] }
    let s := r.2.putXfer t x
    if x.wait ≠ 0 then s
    else if now then (s.putXfer t { x with phase := .done }).tryFinish t id
    else
      let all := (sortBy Prod.fst x.got).flatMap Prod.snd
      (s.deliver t x all).tryFinish t id

/-- A write of a transfer has been acknowledged, or will not be (R151, R375, R377). -/
def State.xferAcked (s : State) (t id off code : Nat) : State :=
  match s.xfer? t id with
  | none => s
  | some x =>
    let x := x.blame code (x.dst + off)
    let x := { x with wait := x.wait - 1 }
    let x := { x with phase := if x.wait = 0 ∧ x.phase = .waiting then .done else x.phase }
    (s.putXfer t x).tryFinish t id

/-- TRANSFER_COMPLETE: the transfer at place `k` of the tile's queue performs its accesses to this part and, once nothing of
it is outstanding, completes (R150, R151). A transfer an earlier access of the tile must precede waits. -/
def execTransferComplete (t : Tile) (k : Fin 16) (ecc : EccFinding) (s : State) : Out :=
  match (s.tile t).xfers[k.val]? with
  | none => .next s
  | some x =>
    match x.phase with
    | .queued =>
      if !s.xferMayGo t x then .next s
      else if !s.isLocal x.src && x.op != .fill then .next ((s.startReads t x).tryFinish t x.id)
      else
        let s := s.plant ecc
        let r := if x.op = .fill then (([], [], []), s)
          else s.moverRead (tileMid t) (gDev x.src) x.srcSpan x.slot.hint.val x.slot.narrow noEcc
        let x := x.sawAll s.mySeat r.1.2.1 r.1.2.2
        .next (((r.2.putXfer t x).deliver t x r.1.1).tryFinish t x.id)
    | .done => .next (s.finishXfer t x)
    | _ => .next s

end Sys2Proof.Machine
end

