-- ==== Sys2Proof/Machine/Wings.lean ====
section
/-!
DEFINITION. Machine/Wings.lean: commands of the wings and the trap beside plain accesses: the cache size (R230, R258),
reduce-writes and those held (R271, R277-R280), the scrubber (R244), throttling (R253-R255).
-/
namespace Sys2Proof.Machine

/-- Does a job own the part (BT_JOB.OPEN)? -/
def State.jobOpen (s : State) : Bool := s.bit R.BT_JOB_OPEN

/-- Write back and invalidate every line. -/
def State.flushAll (s : State) : State := (s.cache.map Prod.fst).foldl (fun t g => t.flushLine g) s

/-- A write of WG_CACHE_CTL with value `v` (R230, R258). -/
def State.cacheResize (s : State) (v : Nat) : State :=
  let n := v % 16
  if s.jobOpen || decide (8 < n) || decide (n = s.fld R.WG_CACHE_CTL_SIZE) then s
  else ((s.setFld R.WG_CACHE_CTL_SIZE n).setFld R.WG_CACHE_CTL_BUSY 1).flushAll

/-- CACHE_RESIZE: R230, R258. -/
def execCacheResize (v : Word) (s : State) : Out := .next (s.cacheResize v.toNat)

/-- CACHE_RESIZE_DONE: the new layout takes effect (R230). The bytes of wings that a smaller SIZE gives back read as they did before
they became the slice (DESIGN CHOICE: the manual does not say what they hold). -/
def execCacheResizeDone (s : State) : Out :=
  if s.bit R.WG_CACHE_CTL_BUSY then
    .next { s.setFld R.WG_CACHE_CTL_BUSY 0 with cacheN := s.fld R.WG_CACHE_CTL_SIZE }
  else .next s

/-- The writer of a reduce-write learns how it ended (R151, R280, R375). -/
def State.reduceAck (s : State) (o : RwOwner) (addr bytes code : Nat) : State :=
  match o with
  | .xfer t id => s.xferAcked t id (match s.xfer? t id with | some x => addr - gDev x.dst | none => 0) code
  | .remote seat mid tag => s.ackTo seat mid tag bytes code
  | .nobody mid => s.send (.bus mid addr code [])

/-- REDUCE_WRITE: a reduce-write of a master of this part reaches its home (R277-R280). XOR is sent by the resilience engine
only (R278). -/
def execReduceWrite (mid : BitVec 12) (addr : BitVec 44) (xor : Bool) (fmt : BitVec 16) (data : List Byte) (psn : List Bool)
    (ecc : EccFinding) (s : State) : Out :=
  let resil := mid.toNat == 5
  let r := s.reduceWrite (resil && xor)
    ⟨mid.toNat, addr.toNat, fmt.toNat, xor, data, psn, ecc, .nobody mid.toNat⟩
  .next (if r.1.held then r.2 else r.2.reduceAck (.nobody mid.toNat) addr.toNat r.1.done r.1.cause)

/-- Zeros written by a stack's engines over [a, a + n): FILL work units of 4096 bytes, each with its engine's MID, in the base die
(R227, R255, R263, R265, R271). -/
def State.engineZero (s : State) (k a n : Nat) : State :=
  let ps := s.passRanges
  let s : State := { s.flushRange a n with passRanges := (a, a + n) :: ps }
  let s := (List.range ((n + 4095) / 4096)).foldl (fun t j =>
    let e := t.takeEngine k
    (e.2.moverWrite (0x100 + 16 * k + e.1) (a + 4096 * j) 1 false noEcc none (List.replicate (min 4096 (n - 4096 * j)) (0, false))).2) s
  { s with passRanges := ps }

/-- A held reduce-write is added and acknowledged (R271), unless another buffer it reaches into is still being zeroed. -/
def State.addHeld (s : State) (k : Nat) (h : HeldRw) : State :=
  let q : RedReq := ⟨h.mid, h.addr, h.fmt, h.xor, h.data, h.psn, noEcc, h.owner⟩
  match s.zeroEntry h.addr h.data.length with
  | some (k', i) => s.holdReduce k' i q
  | none =>
    let e := s.reduceHome q (regionOf s.cacheN h.addr) k
    e.2.reduceAck h.owner h.addr e.1.done e.1.cause

/-- HELD_REDUCE_WRITE: the zeroing of the gradient buffer of entry `i` of stack `k` ends, and what was held for it is added in
order of arrival (R271). -/
def execHeldReduceWrite (k : Fin 8) (i : Fin 1024) (s : State) : Out :=
  let x := s.teStack k
  if !x.zeroing.contains i.val then .next s
  else
    let g := s.gradRange k i
    let s := s.engineZero k g.1 g.2
    let x := s.teStack k
    let mine := x.heldRw.filter (fun h => h.entry == i.val)
    let s := s.setTe k { x with zeroing := x.zeroing.filter (fun e => decide (e ≠ i.val)),
                                heldRw := x.heldRw.filter (fun h => h.entry != i.val) }
    .next (mine.foldl (fun t h => t.addHeld k h) s)

/-- The die of whose cache slice an address is a word (R221, R229). -/
def sliceDie (n a : Nat) : Option Nat :=
  let o := a - 0x10000000000
  if 0x10000000000 ≤ a ∧ a < 0x11000000000 ∧ 0x1F0000000 - 0x10000000 * n ≤ o % 0x200000000 ∧ o % 0x200000000 < 0x1F0000000 then
    some (o / 0x200000000) else none

/-- An uncorrectable error in a word of a cache slice: counted, and the sector of the line that the word holds a part of becomes
poison. Which line that is follows from the slice's layout, which is not stated: a free choice, or no line. -/
def State.sliceUncorr (s : State) (d : Nat) : State :=
  let ls := (s.cache.filter (fun p => p.2.valid && (trapHome (p.1 * 128)).1 == d)).map Prod.fst
  let f := s.freeAt 0 % (4 * ls.length + 1)
  let s := (s.usedFree 1).countFld (R.WG_ECC_UNCORR d) 1
  match ls[f / 4]? with
  | some g => s.setTrapPoison (g * 128 + 32 * (f % 4)) true
  | none => s

/-- The scrubber of a home reads one sector of a stack, or one word of a die's wings, the slice among them; it is an input of the
home's arbiter, and corrects and poisons as any reader, with MID 0 (R228, R242-R244). Of a stack it reads the stack itself, whatever
a line of the cache holds. -/
def State.scrub (s : State) (addr : Nat) (ecc : EccFinding) : State :=
  let r := regionOf s.cacheN addr
  let u := unitBase r addr
  let met := fun (x : Option Nat) => match x with | some y => decide (u ≤ y) && decide (y < u + unitSize r) | none => false
  match r with
  | .trap k loc =>
    if !s.bit (R.TP_STATUS_ONLINE k) then s
    else
      let s := s.homeGrant r .scrub
      let s := if s.poisoned u then s.countFld (R.TP_ECC_POISON_READS k) 1 else s
      if (s.line (u / 128)).valid then
        let s := if met ecc.corrected then s.watchError 0 k loc u else s
        if met ecc.uncorrectable then s.stackUncorr 0 k u else s
      else ((s.plant ecc).meetFlaws 0 u 32).2
  | .wings _ _ => (((s.homeGrant r .scrub).plant ecc).meetFlaws 0 u 8).2
  | _ =>
    match sliceDie s.cacheN addr with
    | some d =>
      let s := s.homeGrant (.wings d ((addr - 0x10000000000) % 0x200000000)) .scrub
      let s := if met ecc.corrected then s.countFld (R.WG_ECC_CORRECTED d) 1 else s
      if met ecc.uncorrectable then s.sliceUncorr d else s
    | none => s

/-- SCRUB: R228, R242-R244. -/
def execScrub (addr : BitVec 44) (ecc : EccFinding) (s : State) : Out := .next (s.scrub addr.toNat ecc)

/-- Entry temperatures of Table 8.8. -/
def stackEntry (n : Nat) : Nat := [0, 85, 95, 100, 105, 110].getD n 0

/-- The step a sample leads to: the highest whose entry it reaches, else one lower at 3 degrees below the entry of the
current step (R254). -/
def nextStep (entry : Nat → Nat) (top cur temp : Nat) : Nat :=
  let up := ((List.range (top + 1)).filter (fun n => decide (cur < n) && decide (entry n ≤ temp))).foldl max 0
  if up ≠ 0 then up else if cur ≠ 0 ∧ temp + 3 ≤ entry cur then cur - 1 else cur

/-- A trip of a compute die (R541): a demand of 16 until a reset, THERM_TRIP, and the seat leaves the job. -/
def State.tripDie (s : State) (die : Nat) : State :=
  let s := if s.power.tripped.contains die then s
    else (({ s with power := { s.power with tripped := s.power.tripped ++ [die] } } : State).hostEvent 0 0xCA (Config.openDetail 0xCA die).toNat).health 32
  let s := (s.setFld R.PW_HOLD_TRIP 1).setFld R.PW_HOLD_DUTY 16
  s.reportLost s.mySeat

/-- STACK_TEMP_SAMPLE: R253-R255, R541. -/
def execStackTempSample (k : Fin 8) (temp : BitVec 8) (s : State) : Out :=
  let cur := s.fld (R.TP_STATUS_STEP k)
  let new := nextStep stackEntry 5 cur temp.toNat
  let s := s.setFld (R.TP_STATUS_TEMP k) temp.toNat
  if new = cur then .next s
  else
    let detail := (Config.openDetail 0x49 (k.val * 2 ^ 24 + cur * 2 ^ 16 + new * 2 ^ 8 + temp.toNat)).toNat
    let s := s.setFld (R.TP_STATUS_STEP k) new
    let s := if cur < 4 ∧ new = 4 then s.hostEvent (0x100 + 16 * k) 0x49 detail else s.memEvent (0x100 + 16 * k) 0x49 detail
    let s := if 3 ≤ new then s.health 16 else s
    if new = 5 then
      .next (((s.setFld (R.TP_STATUS_STOPPED k) 1).setFld (R.TP_STATUS_ONLINE k) 0).tripDie k)
    else .next s

end Sys2Proof.Machine
end

