-- ==== Sys2Proof/Machine/TrapDesc.lean ====
section
/-!
DEFINITION. Machine/TrapDesc.lean: descriptors of the trap engines (R262-R269, R274-R276, R292, R293): their fields, what
makes one malformed, the ranges they name, their dispatch and completion, the shard table and the booth queue.
-/
namespace Sys2Proof.Machine

def TeDesc.w (d : TeDesc) (i : Nat) : Nat := d.getD i 0
def TeDesc.op (d : TeDesc) : Nat := bitsOf (d.w 0) 63 56
def TeDesc.hset (d : TeDesc) : Nat := bitsOf (d.w 0) 55 52
def TeDesc.notify (d : TeDesc) : Nat := bitsOf (d.w 0) 51 50
def TeDesc.clip (d : TeDesc) : Nat := bitsOf (d.w 0) 33 32
def TeDesc.zeroG (d : TeDesc) : Bool := bitOf (d.w 0) 31
def TeDesc.shard (d : TeDesc) : Nat := bitsOf (d.w 0) 9 0
def TeDesc.fmtA (d : TeDesc) : Option FmtWord := FmtWord.ofWord (bitsOf (d.w 1) 63 48)
def TeDesc.fmtB (d : TeDesc) : Option FmtWord := FmtWord.ofWord (bitsOf (d.w 1) 47 32)
def TeDesc.fmtC (d : TeDesc) : Option FmtWord := FmtWord.ofWord (bitsOf (d.w 1) 31 16)
def TeDesc.fmtD (d : TeDesc) : Option FmtWord := FmtWord.ofWord (bitsOf (d.w 1) 15 0)
def TeDesc.addrA (d : TeDesc) : Nat := bitsOf (d.w 2) 43 0
def TeDesc.addrB (d : TeDesc) : Nat := bitsOf (d.w 3) 43 0
def TeDesc.addrC (d : TeDesc) : Nat := bitsOf (d.w 4) 43 0
def TeDesc.count (d : TeDesc) : Nat := bitsOf (d.w 5) 39 0
def TeDesc.rec (d : TeDesc) : Nat := bitsOf (d.w 7) 43 0

-- OP codes of Table 9.3.
def teSgdm : Nat := 1
def teAdamw : Nat := 2
def teConvert : Nat := 8
def teFill : Nat := 9
def teAxpy : Nat := 10
def teNorm : Nat := 11
def teParity : Nat := 16

def TeDesc.isOpt (d : TeDesc) : Bool := d.op == teSgdm || d.op == teAdamw
def TeDesc.namesShard (d : TeDesc) : Bool := d.isOpt || d.op == teParity

/-- Does the optimizer use the remainder (Table 9.3)? -/
def State.teHasR (s : State) (k : Nat) (d : TeDesc) : Bool :=
  s.compHas k d.shard .r && (match d.fmtA with | some f => f.fmt != .b64 | none => false)

/-- May stack `k`'s engines reach an address (R263)? -/
def teReach (k a : Nat) : Bool :=
  if a < 2 ^ 40 then (trapHome a).1 == k
  else decide (0x10000000000 + 0x200000000 * k ≤ a) && decide (a < 0x10000000000 + 0x200000000 * (k + 1))

/-- May they reach all of [a, a + n)? Homes change at 4 KiB. -/
def teReachAll (k a n : Nat) : Bool :=
  n == 0 || ((List.range ((a + n - 1) / 4096 - a / 4096 + 1)).all (fun i => teReach k (max a ((a / 4096 + i) * 4096)))
    && teReach k (a + n - 1))

/-- Bytes of an array of `n` elements of a format (R86, R106). -/
def arrBytes (f : Option FmtWord) (n : Nat) : Nat :=
  match f with
  | some g => if n = 0 then 0 else panelEnd g 1 n
  | none => 0

/-- The components a shard has, in the order P, R, M, V (R289). -/
def State.comps (s : State) (k i : Nat) : List Comp := [Comp.p, .r, .m, .v].filter (fun c => s.compHas k i c)

/-- Bytes of one copy of all present components. -/
def State.shardBytes (s : State) (k i : Nat) : Nat := (s.comps k i).foldl (fun a c => a + s.compBytes k i c) 0

/-- Components an optimizer descriptor reads and writes: SGDM uses no V (R281). -/
def State.optComps (s : State) (k : Nat) (d : TeDesc) : List (Comp × Option FmtWord) :=
  [(Comp.p, d.fmtA)] ++ (if s.teHasR k d then [(Comp.r, d.fmtB)] else [])
    ++ (if s.compHas k d.shard .m then [(Comp.m, d.fmtC)] else [])
    ++ (if s.compHas k d.shard .v && d.op == teAdamw then [(Comp.v, d.fmtC)] else [])

/-- Ranges a descriptor reads, and ranges it writes: (address, bytes). -/
def State.teReads (s : State) (k : Nat) (d : TeDesc) : List (Nat × Nat) :=
  let n := s.fld (R.TP_SHARD_W1_ELEMENTS k d.shard)
  let i := d.shard
  if d.isOpt then
    (s.optComps k d).map (fun c => (s.compBase k i c.1 (s.frontCopy k i), arrBytes c.2 n)) ++ [s.gradRange k i]
  else if d.op = teConvert ∨ d.op = teNorm then [(d.addrA, arrBytes d.fmtA d.count)]
  else if d.op = teAxpy then [(d.addrA, arrBytes d.fmtA d.count), (d.addrC, arrBytes d.fmtC d.count)]
  else if d.op = teParity then
    (s.comps k i).flatMap (fun c => [(s.compBase k i c 0, s.compBytes k i c), (s.compBase k i c 1, s.compBytes k i c)])
  else []

def State.teWrites (s : State) (k : Nat) (d : TeDesc) : List (Nat × Nat) :=
  let n := s.fld (R.TP_SHARD_W1_ELEMENTS k d.shard)
  let i := d.shard
  if d.isOpt then
    (s.optComps k d).map (fun c => (s.compBase k i c.1 (s.backCopy k i), arrBytes c.2 n))
  else if d.op = teConvert ∨ d.op = teAxpy then [(d.addrB, arrBytes d.fmtB d.count)]
  else if d.op = teFill then [(d.addrB, d.count)]
  else if d.op = teParity then
    let b := s.shardBytes k i
    [(d.addrB, b), (d.addrC, ((b + 31) / 32 + 7) / 8)]
  else []

/-- Formats of the optimizer (Table 9.3): P, and moments or gradients. -/
def optFmt (f : Option FmtWord) : Bool :=
  match f with
  | some g => (match g.fmt with | .b64 => true | .b32 => true | .sk16 => true | .skb8 => true | .skb4 => true | _ => false)
  | none => false

def momFmt (f : Option FmtWord) : Bool :=
  match f with
  | some g => (match g.fmt with | .b64 => true | .b32 => true | .sk16 => true | _ => false)
  | none => false

def remFmt (f : Option FmtWord) : Bool :=
  match f with
  | some g => (match g.fmt with | .b64 => true | .b32 => true | _ => false)
  | none => false

def normFmt (f : Option FmtWord) : Bool :=
  match f with
  | some g => !g.fmt.isInt
  | none => false

/-- Every range a descriptor names: what it reads and writes, and its completion record. -/
def State.teRanges (s : State) (k : Nat) (d : TeDesc) : List (Nat × Nat) := s.teReads k d ++ s.teWrites k d ++ [(d.rec, 32)]

/-- What makes a descriptor malformed (R275). -/
def State.malformed (s : State) (k : Nat) (d : TeDesc) : Bool :=
  let fmts :=
    if d.isOpt then
      optFmt d.fmtA && (!s.teHasR k d || remFmt d.fmtB) && momFmt d.fmtD
        && bitsOf (d.w 1) 7 0 == s.fld (R.TP_SHARD_W0_GCODE k d.shard)
        && (!(s.compHas k d.shard .m || s.compHas k d.shard .v) || momFmt d.fmtC)
    else if d.op = teConvert then d.fmtA.isSome && d.fmtB.isSome
    else if d.op = teAxpy then momFmt d.fmtA && momFmt d.fmtC && d.fmtB.isSome
    else if d.op = teNorm then normFmt d.fmtA
    else d.op == teFill || d.op == teParity
  !fmts || d.clip == 3 || d.notify == 3
    || (d.namesShard && !s.bit (R.TP_SHARD_W0_VALID k d.shard))
    || !(s.teRanges k d).all (fun r => teReachAll k r.1 r.2)

/-- Elements, or bytes for FILL and PARITY_DELTA (R265). -/
def State.teCount (s : State) (k : Nat) (d : TeDesc) : Nat :=
  if d.isOpt then s.fld (R.TP_SHARD_W1_ELEMENTS k d.shard)
  else if d.op = teParity then s.shardBytes k d.shard
  else d.count

/-- Ranges of every running descriptor, which other accesses pass through without the cache (R235); a malformed one has only its
record. -/
def State.setPass (s : State) : State :=
  { s with passRanges := (s.te.flatMap (fun p => p.2.running.flatMap (fun r =>
      (if r.result.result = 3 then [(r.desc.rec, 32)] else s.teRanges p.1 r.desc).map (fun q => (q.1, q.1 + q.2))))) }

/-- BUSY: engines with a unit of a running descriptor (Table 9.6). -/
def State.setBusy (s : State) (k : Nat) : State :=
  s.setFld (R.TP_TE_STATUS_BUSY k) (((s.teStack k).busy.dedup).foldl (fun a e => a + 2 ^ e) 0)

/-- Does a running descriptor of the stack name this shard? -/
def State.shardBusy (s : State) (k i : Nat) : Bool :=
  (s.teStack k).running.any (fun r => r.desc.namesShard && r.desc.shard == i)

/-- Does HOLD keep this descriptor from starting (R269)? -/
def State.heldBack (s : State) (k : Nat) (d : TeDesc) : Bool :=
  d.isOpt && s.bit (R.TP_SHARD_W0_VALID k d.shard) && s.bit (R.TP_SHARD_W0_HOLD k d.shard)

/-- The queue of a source. -/
def TeStack.queue (x : TeStack) (src : Nat) : List TeDesc :=
  match src with | 0 => x.trigQ | 1 => x.boothQ | _ => x.resilQ

/-- The descriptor a queue gives next, in arrival order (R264). One that HOLD keeps back lets the others proceed (R269), but none of
its own shard (R265); one whose shard a running descriptor names keeps its place, and what stands behind it waits. -/
def State.nextOf (s : State) (k : Nat) (past : List Nat) : List TeDesc → Option TeDesc
  | [] => none
  | d :: r =>
    if s.heldBack k d || (d.namesShard && past.contains d.shard) then s.nextOf k (d.shard :: past) r
    else if d.namesShard && s.shardBusy k d.shard then none
    else some d

/-- The descriptor a source gives next. From C to the restore the trigger queue is held, and the booth's until the incoming scene
runs (R63, R274). What the resilience engine has queued starts all the same (DESIGN CHOICE: R63 names no source, and R269 and R473
tie that queue to the shards, which no scene change touches). -/
def State.startable (s : State) (k src : Nat) : Option TeDesc :=
  let x := s.teStack k
  if x.suspended && (src == 0 || src == 1 && s.scene.change.isSome) then none else s.nextOf k [] (x.queue src)

/-- The booth queue of a stack, and FREE with it (R293). -/
def State.setBoothQ (s : State) (k : Nat) (q : List TeDesc) : State :=
  (s.setTe k { s.teStack k with boothQ := q }).setFld (R.TP_BQ_STATUS_FREE k) (64 - q.length)

/-- Take one descriptor out of a source's queue. -/
def State.unqueue (s : State) (k src : Nat) (d : TeDesc) : State :=
  let x := s.teStack k
  match src with
  | 0 => s.setTe k { x with trigQ := x.trigQ.erase d }
  | 1 => s.setBoothQ k (x.boothQ.erase d)
  | _ => s.setTe k { x with resilQ := x.resilQ.erase d }

/-- The words of a hyperparameter set that work units handed over in this cycle go by (R295). -/
def State.hyperWords (s : State) (k h : Nat) : List Nat := (List.range 7).map (fun w => (s.regInForce (R.TP_HYPER_LR k h + 8 * w)).toNat)

/-- One work unit goes to the free engine whose turn it is: the next of the descriptor that started first among those with units left
(R265; DESIGN CHOICE: how units of different descriptors interleave is not stated). -/
def State.handUnit (s : State) (k : Nat) : State :=
  let x := s.teStack k
  match x.freeEngine, x.running.findIdx? (fun r => decide (r.handed < r.units)) with
  | some e, some i =>
    s.setTe k { x with
      engPtr := (e + 1) % 16
      running := x.running.zipIdx.map (fun p =>
        if p.2 = i then { p.1 with flight := p.1.flight ++ [⟨e, s.hyperWords k p.1.desc.hset⟩] } else p.1) }
  | _, _ => s

/-- Every free engine takes a unit while there are any. -/
def State.handUnits (s : State) (k : Nat) : State := ((List.range 16).foldl (fun t _ => t.handUnit k) s).setBusy k

/-- DESCRIPTOR_DISPATCH: the dispatcher of stack `k` starts a descriptor: every range it names leaves the caches first (R235), and
its work units go to the free engines (R264, R265, R269). -/
def execDescriptorDispatch (k : Fin 8) (s : State) : Out :=
  let x := s.teStack k
  match roundRobin 3 x.srcPtr (fun i => (s.startable k i).isSome) with
  | none => .next s
  | some src =>
    match s.startable k src with
    | none => .next s
    | some d =>
      let s := s.unqueue k src d
      let bad := s.malformed k d
      let n := if bad then 0 else (s.teCount k d + 4095) / 4096
      let s := (if bad then [(d.rec, 32)] else s.teRanges k d).foldl (fun t r => t.flushRange r.1 r.2) s
      let x := s.teStack k
      let run : TeRun := ⟨d, src, n, 0, [], { TeResult.init with result := if bad then 3 else 0 }, [], 0⟩
      let s := s.setTe k { x with srcPtr := (src + 1) % 3, running := x.running ++ [run] }
      .next (s.setPass.handUnits k)

/-- SHARD_ENTRY_WRITE: a write of word 0 of entry `i` (R267, R292). -/
def State.shardEntryWrite (s : State) (k i v : Nat) : State :=
  let a := R.TP_SHARD_W0 k i
  let t := s.regWrite a 0 8 v
  if !bitOf v 63 then t
  else
    let inside := fun (b : Nat) => pinnedStack b == some k
    let ok := ([Comp.p, .r, .m, .v].filter (fun c => t.compHas k i c)).all (fun c =>
        inside (t.compBase k i c 0) && inside (t.compBase k i c 1)) && inside (t.fld (R.TP_SHARD_W11_BASE_G k i))
    if ok then t else (t.setFld (R.TP_SHARD_W0_VALID k i) 0).raiseFld (R.TP_TE_STATUS_BAD_ENTRY k)

def execShardEntryWrite (k : Fin 8) (i : Fin 1024) (v : Word) (s : State) : Out := .next (s.shardEntryWrite k i v.toNat)

/-- BQ_POST: the eight words of TP_BQ_DESC go to the booth queue, or OVERRUN is set (R293). -/
def State.bqPost (s : State) (k : Nat) : State :=
  let x := s.teStack k
  if s.fld (R.TP_BQ_STATUS_FREE k) = 0 then s.raiseFld (R.TP_BQ_STATUS_OVERRUN k)
  else
    let d : TeDesc := (List.range 8).map (fun j => (s.reg (R.TP_BQ_DESC k j)).toNat)
    s.setBoothQ k (x.boothQ ++ [d])

def execBqPost (k : Fin 8) (s : State) : Out := .next (s.bqPost k)

/-- The completion record (Table 9.4). -/
def TeRun.record (r : TeRun) : Nat :=
  let t := r.result
  min t.sat (2 ^ 32 - 1) * 2 ^ 224 + min t.changed (2 ^ 32 - 1) * 2 ^ 192 + t.sumsq % 2 ^ 64 * 2 ^ 128
    + t.done % 2 ^ 40 * 2 ^ 48 + t.result * 2 ^ 44 + t.cause * 2 ^ 36 + r.desc.op * 2 ^ 28 + r.desc.shard

/-- B64 addition under RNE of two words, an open NaN taking a free value; and its flags. -/
def b64Add (free x y : Nat) : Nat × Nat := let r := fAdd fB64 .rne (decB64 x) (decB64 y); (encB64 free r.1, r.2)

/-- Additions of B64 values in an order the manual does not state (R285), and their flags. -/
def addAny64 (pick : Nat → Nat) : Nat → List Val → Val × Nat
  | 0, l => (l.headD (.zero false), 0)
  | n + 1, l =>
    match l with
    | [] => (.zero false, 0)
    | [v] => (v, 0)
    | _ =>
      let i := pick (2 * n) % l.length
      let x := l.getD i (.zero false)
      let l1 := l.eraseIdx i
      let j := pick (2 * n + 1) % l1.length
      let a := fAdd fB64 .rne x (l1.getD j (.zero false))
      let r := addAny64 pick n (a.1 :: l1.eraseIdx j)
      (r.1, Nat.lor a.2 r.2)

/-- What an optimizer does at completion: WRITTEN (R269); a speculative one also SPEC, SUMSQ and TP_NORM_LOCAL (R285), whose
additions the engine of the last work unit reports (DESIGN CHOICE: the manual names none). -/
def State.optDone (s : State) (k : Nat) (r : TeRun) (sum : Nat) : State :=
  let i := r.desc.shard
  let s := s.setFld (R.TP_SHARD_W0_WRITTEN k i) 1
  if r.desc.clip = 1 then
    let a := b64Add (s.freeAt 0) (s.reg (R.TP_SHARD_W14 k i)).toNat sum
    let b := b64Add (s.freeAt 1) (s.reg (R.TP_NORM_LOCAL k)).toNat sum
    let s := (s.usedFree 2).teStat k r.last (.ofFlags (Nat.lor a.2 b.2))
    let s := s.setReg (R.TP_SHARD_W14 k i) (BitVec.ofNat 64 a.1)
    (s.setReg (R.TP_NORM_LOCAL k) (BitVec.ofNat 64 b.1)).setFld (R.TP_SHARD_W0_SPEC k i) 1
  else s

/-- Does RESULT ≠ DONE of this descriptor discard the step (R291, R478)? -/
def TeRun.discards (r : TeRun) : Bool := r.result.result != 0 && (r.source != 2 || r.desc.op == teParity)

/-- The running descriptor at place `r`, where it has no unit left, completes: its record is written at REC by the base
die, then its notice posted or its event sent (R227, R235, R265, R276, R291). -/
def State.completeDesc (s : State) (k : Fin 8) (r : Nat) : Option (TeRun × State) :=
  let x := s.teStack k
  match x.running[r]? with
  | none => none
  | some run =>
    if run.unit < run.units then none
    else
      let sums := run.desc.op == teNorm || (run.desc.isOpt && run.desc.clip == 1)
      let v := addAny64 (fun j => Config.sumPick s.free 0 j) (run.squares.length + 1) (.zero false :: run.squares)
      let live := sums && run.result.result != 3
      let sum := if live then encB64 (s.freeAt 0) v.1 else 0
      let s := if sums then s.usedFree 1 else s
      let s := if live then s.teStat k run.last (.ofFlags v.2) else s
      let run := { run with result := { run.result with sumsq := sum } }
      let s := if run.desc.isOpt && run.result.result != 3 then s.optDone k run sum else s
      let s := if run.desc.op = teParity ∧ run.result.result ≠ 3 then
          s.setFld (R.TP_SHARD_W2_CHANGED k run.desc.shard) (min run.result.changed (2 ^ 24 - 1)) else s
      let s := if run.discards then { s with discardFlag := true } else s
      let s := if teReachAll k run.desc.rec 32 then
          (s.moverWrite (0x100 + 16 * k) run.desc.rec 1 false noEcc none
            ((leBytes run.record 32).map (fun b => (b, false)))).2 else s
      let x := s.teStack k
      let s := (s.setTe k { x with running := x.running.eraseIdx r, clipReruns := x.clipReruns.erase run.desc }).setPass
      let note := BitVec.ofNat 64 (bitsOf (run.desc.w 0) 41 34 * 2 ^ 56 + run.desc.rec)
      match run.desc.notify with
      | 1 => some (run, s.post (bitsOf (run.desc.w 0) 49 42) (.trap k) note)
      | 2 => some (run, s.send (.booth 0 run.desc.rec))
      | _ => some (run, s)

end Sys2Proof.Machine
end

