-- ==== Sys2Proof/Machine/TrapEngine.lean ====
section
/-!
DEFINITION. Machine/TrapEngine.lean: work units of the trap engines (R265, R281-R291): the optimizer, CONVERT, FILL, AXPY,
NORM and PARITY_DELTA, and the clipping factor (R286).
-/
namespace Sys2Proof.Machine

/-- An array in memory: base, format, elements. -/
structure Arr where
  base : Nat
  fmt : FmtWord
  n : Nat
  deriving DecidableEq, Repr

/-- The ranges (offset, bytes) of elements [lo, hi): elements, and for blocks their scales and escape records. -/
def Arr.spans (a : Arr) (lo hi : Nat) : List (Nat × Nat) :=
  if a.fmt.fmt.isSkb then
    let b0 := lo / a.fmt.block
    let nb := (hi + a.fmt.block - 1) / a.fmt.block - b0
    [(b0 * (a.fmt.block * a.fmt.fmt.bits / 8), nb * (a.fmt.block * a.fmt.fmt.bits / 8)), (scalePlaneAt a.fmt 1 a.n + b0, nb)]
      ++ (if a.fmt.esc then [(escPlaneAt a.fmt 1 a.n + 4 * b0, 4 * nb)] else [])
  else [(lo * a.fmt.fmt.size, (hi - lo) * a.fmt.fmt.size)]

/-- What a work unit is doing: the state, what it has come to, its stack, engine and hyperparameters. -/
structure TeUnit where
  s : State
  res : TeResult
  k : Nat
  e : Nat
  hyper : List Nat

/-- MID of an engine. -/
def TeUnit.mid (u : TeUnit) : Nat := 0x100 + 16 * u.k + u.e

/-- RESULT of a cause (R291). -/
def resultOf (cause : Nat) : Nat := if cause = 0x46 then 4 else if cause = 0x43 ∨ cause = 0x45 then 1 else 2

/-- The first failure of a descriptor stands (R291). -/
def TeResult.blame (r : TeResult) (cause : Nat) : TeResult :=
  if cause = 0 ∨ r.result ≠ 0 then r else { r with result := resultOf cause, cause := cause }

/-- The causes of a unit's accesses: the first stands. -/
def TeResult.blameAll (r : TeResult) (l : List (Nat × Nat)) : TeResult := l.foldl (fun x c => x.blame c.1) r

/-- Read some ranges of an array: bytes by offset. -/
def TeUnit.read (u : TeUnit) (a : Arr) (lo hi : Nat) : List (Nat × SrcByte) × TeUnit :=
  (a.spans lo hi).foldl (fun acc p =>
    let r := acc.2.s.moverRead u.mid (a.base + p.1) p.2 1 false noEcc
    (acc.1 ++ r.1.1.zipIdx.map (fun q => (p.1 + q.2, q.1)),
      { acc.2 with s := r.2, res := acc.2.res.blameAll r.1.2.1 })) ([], u)

/-- The byte at an offset of what was read. -/
def atOff (l : List (Nat × SrcByte)) (o : Nat) : SrcByte :=
  match l.find? (fun p => p.1 == o) with
  | some p => p.2
  | none => ⟨0, false, false⟩

/-- The value of element `i`. -/
def Arr.val (a : Arr) (l : List (Nat × SrcByte)) (i : Nat) : Val := panelVal a.fmt (fun o => (atOff l o).val) 1 a.n 0 i

/-- Is element `i` poisoned (Table 8.7)? -/
def Arr.bad (a : Arr) (l : List (Nat × SrcByte)) (i : Nat) : Bool :=
  (srcElemBytes a.fmt a.n i).any (fun o => (atOff l o).psn)

/-- Where the poison that element `i` meets lies: the first poisoned byte it is made of. -/
def Arr.badAt (a : Arr) (l : List (Nat × SrcByte)) (i : Nat) : Option Nat :=
  ((srcElemBytes a.fmt a.n i).find? (fun o => (atOff l o).psn)).map (fun o => a.base + o)

/-- Write bytes by offset, poisoned where marked. `free` replaces the data of a descriptor whose ranges overlap (R290). -/
def TeUnit.write (u : TeUnit) (base : Nat) (free : Bool) (l : List (Nat × (Byte × Bool))) : TeUnit :=
  let l := if free then l.zipIdx.map (fun p => (p.1.1, ((BitVec.ofNat 8 (u.s.freeAt p.2)), p.1.2.2))) else l
  let u := if free then { u with s := u.s.usedFree l.length } else u
  (runsOf l).foldl (fun v r =>
    let w := v.s.moverWrite u.mid (base + r.1) 1 false noEcc none r.2
    { v with s := w.2, res := v.res.blameAll w.1 }) u

/-- The offset in the whole array of a byte of a panel that holds elements [lo, lo + n) alone. -/
def Arr.reloc (a : Arr) (lo n o : Nat) : Nat :=
  if a.fmt.fmt.isSkb then
    if o < scalePlaneAt a.fmt 1 n then lo / a.fmt.block * (a.fmt.block * a.fmt.fmt.bits / 8) + o
    else if a.fmt.esc ∧ escPlaneAt a.fmt 1 n ≤ o then
      escPlaneAt a.fmt 1 a.n + 4 * (lo / a.fmt.block) + (o - escPlaneAt a.fmt 1 n)
    else scalePlaneAt a.fmt 1 a.n + lo / a.fmt.block + (o - scalePlaneAt a.fmt 1 n)
  else lo * a.fmt.fmt.size + o

/-- An open NaN takes a free sign and payload (R78). -/
def Val.settle (free : Nat) (v : Val) : Val :=
  match v with
  | .anyNan => decB64 (encB64 free .anyNan)
  | w => w

/-- Encode values into elements [lo, hi) of an array and write them; elements marked poisoned are written as poison. The
values the written elements now have come back. -/
def TeUnit.store (u : TeUnit) (a : Arr) (lo : Nat) (fromInt free : Bool) (vals : List Val) (bad : List Bool) :
    (Nat → Val) × TeUnit :=
  let n := vals.length
  if n = 0 then ((fun _ => .zero false), u)
  else
    let m := effRound a.fmt.fmt a.fmt.round
    let settled := vals.zipIdx.map (fun p => p.1.settle (u.s.freeAt p.2))
    let s := u.s.usedFree n
    let out := encPanel a.fmt m.1 fromInt (s.teDraw u.k u.e) 1 n (fun _ j => settled.getD j (.zero false))
    let dead := (((List.range n).filter (fun j => bad.getD j false)).flatMap (fun j => elemBytesOf a.fmt 1 n j)).dedup
    let s := (s.teStat u.k u.e { out.stat with flags := Nat.lor out.stat.flags (if m.2 then fModeFix else 0) }).teDrew u.k u.e
      out.draws
    let rd : ByteRd := fun o => match out.bytes.find? (fun p => p.1 == o) with | some p => p.2 | none => 0
    let u := { u with s := s, res := { u.res with sat := u.res.sat + out.stat.sats } }
    ((fun j => panelVal a.fmt rd 1 n 0 j),
      u.write a.base free (out.bytes.map (fun p => (a.reloc lo n p.1, (p.2, dead.contains p.1)))))

/-- What an operation reports goes to the engine's status (R265, R294). -/
def TeUnit.report (u : TeUnit) (flags : Nat) : TeUnit := { u with s := u.s.teStat u.k u.e (.ofFlags flags) }

/-- Elements performed, and the address of the unit that met poison, if one did (R284, R291). Poison is blamed after every cause of an access of
the work unit (DESIGN CHOICE: R291 does not order the failures of one unit). -/
def TeUnit.finish (u : TeUnit) (n : Nat) (poison : Option Nat) : TeUnit :=
  let res := { u.res with done := u.res.done + n }
  match poison with
  | some a => { u with s := u.s.memEntry u.mid 0x45 (unitBase (regionOf u.s.cacheN a) a), res := res.blame 0x45 }
  | none => { u with res := res }

/-- A B64 value and the flags of the operations that made it. -/
abbrev DVal := Val × Nat

/-- A value as it was decoded. -/
def dOf (v : Val) : DVal := (v, 0)

/-- B64 operations under RNE, with their flags (R281, R581). -/
def dOp (f : FFmt → RMode → Val → Val → Val × Nat) (x y : DVal) : DVal :=
  let r := f fB64 .rne x.1 y.1
  (r.1, Nat.lor (Nat.lor x.2 y.2) r.2)

def dAdd (x y : DVal) : DVal := dOp fAdd x y
def dSub (x y : DVal) : DVal := dOp fSub x y
def dMul (x y : DVal) : DVal := dOp fMul x y
def dDiv (x y : DVal) : DVal := dOp fDiv x y
def dSqrt (x : DVal) : DVal := let r := fSqrt fB64 .rne x.1; (r.1, Nat.lor x.2 r.2)

/-- Is a product 0 × ∞? -/
def zeroTimesInf (x y : Val) : Bool := !x.isNan && !y.isNan && decide ((mulExact x y).2 ≠ 0)

/-- A product and an addend, each operation rounded; a product 0 × ∞ is invalid and gives the default NaN whatever the addend is
(R281, R582). -/
def dMulAdd (x y z : DVal) : DVal :=
  let r := dAdd (dMul x y) z
  if zeroTimesInf x.1 y.1 then (defaultNan, Nat.lor (dMul x y).2 z.2) else r

/-- Hyperparameters of a set (Table 9.7), as a work unit was handed them. -/
structure Hyper where
  lr : Val
  b1 : Val
  b2 : Val
  eps : Val
  wd : Val
  bc1 : Val
  bc2 : Val
  deriving DecidableEq, Repr

def Hyper.ofWords (l : List Nat) : Hyper :=
  let v := fun (i : Nat) => decB32 (l.getD i 0 % 2 ^ 32)
  ⟨v 0, v 1, v 2, v 3, v 4, v 5, v 6⟩

/-- The value 1. -/
def vOne : Val := .fin false 1 0

/-- One element of R281: (wn, mn, vn) from w, g (already scaled), m, v. -/
def optStep (adam : Bool) (h : Hyper) (w g : DVal) (m v : Val) : DVal × DVal × DVal :=
  let o := dOf
  if adam then
    let mn := dMulAdd (o h.b1) (o m) (dMul (dSub (o vOne) (o h.b1)) g)
    let mn := if zeroTimesInf (dSub (o vOne) (o h.b1)).1 g.1 then (defaultNan, mn.2) else mn
    let gg := dMul (dMul (dSub (o vOne) (o h.b2)) g) g
    let vn := dMulAdd (o h.b2) (o v) gg
    let vn := if zeroTimesInf (dMul (dSub (o vOne) (o h.b2)) g).1 g.1 then (defaultNan, vn.2) else vn
    let r := dMulAdd (o h.wd) w (dDiv (dMul mn (o h.bc1)) (dAdd (dSqrt (dMul vn (o h.bc2))) (o h.eps)))
    let u := dMul (o h.lr) r
    (dSub w u, mn, vn)
  else
    let mn := dMulAdd (o h.wd) w (dMulAdd (o h.b1) (o m) g)
    (dSub w (dMul (o h.lr) mn), mn, dOf (.zero false))

/-- Do a descriptor's reads and writes overlap (R290)? -/
def State.teOverlap (s : State) (k : Nat) (d : TeDesc) : Bool :=
  (s.teReads k d).any (fun a => (s.teWrites k d).any (fun b => touches a.1 a.2 b.1 b.2))

/-- An array of a shard component. -/
def State.compArr (s : State) (k i : Nat) (c : Comp) (copy : Nat) (f : Option FmtWord) : Arr :=
  ⟨s.compBase k i c copy, f.getD ⟨.b64, 0, false, 0⟩, s.fld (R.TP_SHARD_W1_ELEMENTS k i)⟩

/-- Squares a unit adds to a norm. -/
structure UnitOut where
  unit : TeUnit
  squares : List Val

/-- One work unit of SGDM or ADAMW over elements [lo, hi) (R281-R285). Poison of an input reaches the components whose arithmetic reads it: M'
of SGDM all of p, r, m and g, of ADAMW m and g; V' v and g; P' and R' all (R284). -/
def optUnit (d : TeDesc) (u : TeUnit) (lo hi : Nat) : UnitOut :=
  let s := u.s
  let k := u.k
  let i := d.shard
  let free := s.teOverlap k d
  let fr := s.frontCopy k i
  let bk := s.backCopy k i
  let hasR := s.teHasR k d
  let hasM := s.compHas k i .m
  let hasV := s.compHas k i .v && d.op == teAdamw
  let h := Hyper.ofWords u.hyper
  let c := decB64 (s.reg (R.TP_CLIP_FACTOR k)).toNat
  let aP := s.compArr k i .p fr d.fmtA
  let aR := s.compArr k i .r fr d.fmtB
  let aM := s.compArr k i .m fr d.fmtC
  let aV := s.compArr k i .v fr d.fmtC
  let aG : Arr := ⟨(s.gradRange k i).1, d.fmtD.getD ⟨.b64, 0, false, 0⟩, s.fld (R.TP_SHARD_W1_ELEMENTS k i)⟩
  let rP := u.read aP lo hi
  let rR := if hasR then rP.2.read aR lo hi else ([], rP.2)
  let rM := if hasM then rR.2.read aM lo hi else ([], rR.2)
  let rV := if hasV then rM.2.read aV lo hi else ([], rM.2)
  let rG := rV.2.read aG lo hi
  let idx := (List.range (hi - lo)).map (fun j => lo + j)
  let atW := fun (j : Nat) => (aP.badAt rP.1 j).or (if hasR then aR.badAt rR.1 j else none)
  let atM := fun (j : Nat) => (if hasM then aM.badAt rM.1 j else none)
  let atV := fun (j : Nat) => (if hasV then aV.badAt rV.1 j else none)
  let at_ := fun (j : Nat) => (((atW j).or (atM j)).or (atV j)).or (aG.badAt rG.1 j)
  let bad := idx.map (fun j => (at_ j).isSome)
  let badM := idx.map (fun j => (((if d.op == teAdamw then none else atW j).or (atM j)).or (aG.badAt rG.1 j)).isSome)
  let badV := idx.map (fun j => ((atV j).or (aG.badAt rG.1 j)).isSome)
  let z : Val := .zero false
  let outs := idx.map (fun j =>
    let w := dAdd (dOf (aP.val rP.1 j)) (dOf (if hasR then aR.val rR.1 j else z))
    let g := dOf (aG.val rG.1 j)
    let g' := if d.clip = 2 then dMul (dOf c) g else g
    optStep (d.op == teAdamw) h w g' (if hasM then aM.val rM.1 j else z) (if hasV then aV.val rV.1 j else z))
  let sq := if d.clip = 1 then idx.map (fun j => dMul (dOf (aG.val rG.1 j)) (dOf (aG.val rG.1 j))) else []
  let said := outs.foldl (fun a o => Nat.lor (Nat.lor a o.1.2) (Nat.lor o.2.1.2 o.2.2.2)) (sq.foldl (fun a q => Nat.lor a q.2) 0)
  let wP := (rG.2.report said).store { aP with base := s.compBase k i .p bk } lo false free (outs.map (fun o => o.1.1)) bad
  let rem := outs.zipIdx.map (fun p => addExact .rne p.1.1.1 (wP.1 p.2).neg)
  let v := if hasR then
      ((wP.2.report (rem.foldl (fun a q => Nat.lor a q.2) 0)).store { aR with base := s.compBase k i .r bk } lo false free
        (rem.map Prod.fst) bad).2 else wP.2
  let v := if hasM then (v.store { aM with base := s.compBase k i .m bk } lo false free (outs.map (fun o => o.2.1.1)) badM).2 else v
  let v := if hasV then (v.store { aV with base := s.compBase k i .v bk } lo false free (outs.map (fun o => o.2.2.1)) badV).2 else v
  let v := if d.zeroG && d.clip != 1 then
      v.write aG.base free ((aG.spans lo hi).flatMap (fun p => (List.range p.2).map (fun o => (p.1 + o, ((0 : Byte), false)))))
    else v
  ⟨v.finish (hi - lo) (idx.findSome? at_), sq.map Prod.fst⟩

/-- CONVERT over elements [lo, hi) (R94, R290). A conversion between equal formats copies the bytes; it draws and falls back to RNE as
the destination's ROUND says all the same (R76, R98), and poison of a block's scale or escape record reaches the whole block
(R247). -/
def convertUnit (d : TeDesc) (u : TeUnit) (lo hi : Nat) : UnitOut :=
  let a : Arr := ⟨d.addrA, d.fmtA.getD ⟨.b64, 0, false, 0⟩, d.count⟩
  let b : Arr := ⟨d.addrB, d.fmtB.getD ⟨.b64, 0, false, 0⟩, d.count⟩
  let free := u.s.teOverlap u.k d
  let r := u.read a lo hi
  let n := hi - lo
  let idx := (List.range n).map (fun j => lo + j)
  let bad := idx.map (fun j => a.bad r.1 j)
  let v := if cvtIsCopy a.fmt b.fmt then
      let m := effRound b.fmt.fmt b.fmt.round
      let out := encPanel b.fmt m.1 a.fmt.fmt.isInt (r.2.s.teDraw u.k u.e) 1 n (fun _ j => a.val r.1 (lo + j))
      let dead := (((List.range n).filter (fun j => bad.getD j false)).flatMap (fun j =>
        (elemBytesOf b.fmt 1 n j).map (fun o => b.reloc lo n o))).dedup
      let w := r.2.report (if m.2 then fModeFix else 0)
      ({ w with s := w.s.teDrew u.k u.e out.draws } : TeUnit).write b.base free
        (r.1.map (fun p => (p.1, (p.2.val, p.2.psn || dead.contains p.1))))
    else (r.2.store b lo a.fmt.fmt.isInt free (idx.map (fun j => a.val r.1 j)) bad).2
  ⟨v.finish n (idx.findSome? (fun j => a.badAt r.1 j)), []⟩

/-- FILL over bytes [lo, hi) (R290). -/
def fillUnit (d : TeDesc) (u : TeUnit) (lo hi : Nat) : UnitOut :=
  ⟨(u.write d.addrB false ((List.range (hi - lo)).map (fun j => (lo + j, ((0 : Byte), false))))).finish (hi - lo) none, []⟩

/-- AXPY over elements [lo, hi) (R290): S0 × x + S1 × y, each operation rounded. -/
def axpyUnit (d : TeDesc) (u : TeUnit) (lo hi : Nat) : UnitOut :=
  let a : Arr := ⟨d.addrA, d.fmtA.getD ⟨.b64, 0, false, 0⟩, d.count⟩
  let b : Arr := ⟨d.addrB, d.fmtB.getD ⟨.b64, 0, false, 0⟩, d.count⟩
  let c : Arr := ⟨d.addrC, d.fmtC.getD ⟨.b64, 0, false, 0⟩, d.count⟩
  let free := u.s.teOverlap u.k d
  let rx := u.read a lo hi
  let ry := rx.2.read c lo hi
  let s0 := decB32 (bitsOf (d.w 6) 31 0)
  let s1 := decB32 (bitsOf (d.w 6) 63 32)
  let idx := (List.range (hi - lo)).map (fun j => lo + j)
  let bad := idx.map (fun j => a.bad rx.1 j || c.bad ry.1 j)
  let outs := idx.map (fun j =>
    let x := a.val rx.1 j
    let y := c.val ry.1 j
    let q := dMulAdd (dOf s0) (dOf x) (dMul (dOf s1) (dOf y))
    if zeroTimesInf s1 y then (defaultNan, q.2) else q)
  let v := ((ry.2.report (outs.foldl (fun f o => Nat.lor f o.2) 0)).store b lo false free (outs.map Prod.fst) bad).2
  ⟨v.finish (hi - lo) (idx.findSome? (fun j => (a.badAt rx.1 j).or (c.badAt ry.1 j))), []⟩

/-- NORM over elements [lo, hi) (R285). -/
def normUnit (d : TeDesc) (u : TeUnit) (lo hi : Nat) : UnitOut :=
  let a : Arr := ⟨d.addrA, d.fmtA.getD ⟨.b64, 0, false, 0⟩, d.count⟩
  let r := u.read a lo hi
  let idx := (List.range (hi - lo)).map (fun j => lo + j)
  let sq := (idx.zipIdx).map (fun p =>
    let v := if a.bad r.1 p.1 then Val.settle (r.2.s.freeAt p.2) .anyNan else a.val r.1 p.1
    dMul (dOf v) (dOf v))
  let v := ({ r.2 with s := r.2.s.usedFree (hi - lo) } : TeUnit).report (sq.foldl (fun f q => Nat.lor f q.2) 0)
  ⟨v.finish (hi - lo) (idx.findSome? (fun j => a.badAt r.1 j)), sq.map Prod.fst⟩

/-- Where byte `o` of a shard's staging image lies: component and offset in it (R289). -/
def State.imageByte (s : State) (k i : Nat) : List Comp → Nat → Option (Comp × Nat)
  | [], _ => none
  | c :: r, o => if o < s.compBytes k i c then some (c, o) else s.imageByte k i r (o - s.compBytes k i c)

/-- PARITY_DELTA over bytes [lo, hi) of the staging area (R289): front XOR back, zero while WRITTEN = 0, and the bitmap of
nonzero sectors. Poison read poisons what it reaches. -/
def parityUnit (d : TeDesc) (u : TeUnit) (lo hi : Nat) : UnitOut :=
  let s := u.s
  let k := u.k
  let i := d.shard
  let free := s.teOverlap k d
  let cs := s.comps k i
  let fr := s.frontCopy k i
  let bk := s.backCopy k i
  let at_ := fun (o copy : Nat) => match s.imageByte k i cs o with
    | some (c, p) => s.compBase k i c copy + p
    | none => 0
  let offs := (List.range (hi - lo)).map (fun j => lo + j)
  let rd := fun (v : TeUnit) (copy : Nat) => (runsOf (offs.map (fun o => (at_ o copy, o)))).foldl (fun acc r =>
    let q := acc.2.s.moverRead u.mid r.1 r.2.length 1 false noEcc
    (acc.1 ++ r.2.zip q.1.1, { acc.2 with s := q.2, res := acc.2.res.blameAll q.1.2.1 }))
    (([] : List (Nat × SrcByte)), v)
  let f := rd u fr
  let b := rd f.2 bk
  let w := s.bit (R.TP_SHARD_W0_WRITTEN k i)
  let delta := fun (o : Nat) => if w then (atOff f.1 o).val ^^^ (atOff b.1 o).val else (0 : Byte)
  let psn := fun (o : Nat) => w && ((atOff f.1 o).psn || (atOff b.1 o).psn)
  let v := b.2.write d.addrB free (offs.map (fun o => (o, (delta o, psn o))))
  let bits := fun (q : Nat) => (List.range 8).foldl (fun a j =>
    let sec := (q * 8 + j) * 32
    a + (if (List.range 32).any (fun t => decide (sec + t < hi) && (delta (sec + t) != 0 || psn (sec + t))) then 2 ^ j else 0)) 0
  let qs := (List.range ((hi - lo + 255) / 256)).map (fun q => lo / 256 + q)
  let v := v.write d.addrC free (qs.map (fun q => (q, (BitVec.ofNat 8 (bits q), false))))
  let n := qs.foldl (fun a q => a + ((List.range 8).filter (fun j => bitOf (bits q) j)).length) 0
  let v := { v with res := { v.res with changed := v.res.changed + n } }
  let met := offs.findSome? (fun o => if !w then none else if (atOff f.1 o).psn then some (at_ o fr)
    else if (atOff b.1 o).psn then some (at_ o bk) else none)
  ⟨v.finish (hi - lo) met, []⟩

/-- The next work unit in flight of the running descriptor at place `r`, if its operation is `op`: it is performed by the engine it
was handed to, which then is free again (R265). Its accesses come one after another, none of another master among them (DESIGN CHOICE:
one of the orders in which the base die's round-robin of R235 may grant sectors). -/
def State.runUnit (s : State) (k r : Nat) (ecc : EccFinding) (op : Nat)
    (f : TeDesc → TeUnit → Nat → Nat → UnitOut) : State :=
  match (s.teStack k).running[r]? with
  | none => s
  | some run =>
    match run.flight with
    | [] => s
    | w :: rest =>
      if run.desc.op ≠ op then s
      else
        let lo := run.unit * 4096
        let hi := min (lo + 4096) (s.teCount k run.desc)
        let o := f run.desc ⟨s.plant ecc, run.result, k, w.engine, w.hyper⟩ lo hi
        let s := o.unit.s
        let x := s.teStack k
        let run' := { run with
          unit := run.unit + 1, flight := rest, result := o.unit.res, squares := run.squares ++ o.squares, last := w.engine }
        (s.setTe k { x with running := x.running.set r run' }).handUnits k

/-- SGDM: R281-R285. -/
def execSgdm (k : Fin 8) (r : Fin 128) (ecc : EccFinding) (s : State) : Out := .next (s.runUnit k r ecc teSgdm optUnit)

/-- ADAMW: R281-R285. -/
def execAdamw (k : Fin 8) (r : Fin 128) (ecc : EccFinding) (s : State) : Out := .next (s.runUnit k r ecc teAdamw optUnit)

/-- TE_CONVERT: R290. -/
def execTeConvert (k : Fin 8) (r : Fin 128) (ecc : EccFinding) (s : State) : Out :=
  .next (s.runUnit k r ecc teConvert convertUnit)

/-- TE_FILL: R290. -/
def execTeFill (k : Fin 8) (r : Fin 128) (ecc : EccFinding) (s : State) : Out := .next (s.runUnit k r ecc teFill fillUnit)

/-- AXPY: R290. -/
def execAxpy (k : Fin 8) (r : Fin 128) (ecc : EccFinding) (s : State) : Out := .next (s.runUnit k r ecc teAxpy axpyUnit)

/-- NORM: R285. -/
def execNorm (k : Fin 8) (r : Fin 128) (ecc : EccFinding) (s : State) : Out := .next (s.runUnit k r ecc teNorm normUnit)

/-- PARITY_DELTA: R289. -/
def execParityDelta (k : Fin 8) (r : Fin 128) (ecc : EccFinding) (s : State) : Out :=
  .next (s.runUnit k r ecc teParity parityUnit)

/-- A descriptor with CLIP = factor. -/
def TeDesc.asFactor (d : TeDesc) : TeDesc := putBits (d.w 0) 33 32 2 :: d.drop 1

/-- The clipping factor of R286; where MAXNORM / sqrt(S) is a NaN the manual states none, and a free value stands. The flags of its square root
and division reach no status register (DESIGN CHOICE: the manual names none). -/
def clipFactor (free maxn sum : Nat) : Nat :=
  let q := (dDiv (dOf (decB64 maxn)) (dSqrt (dOf (decB64 sum)))).1
  if q.isNan then free else if q.lt vOne then encB64 0 q else 0x3FF0000000000000

/-- A write of TP_CLIP_SUMSQ (R286). -/
def State.clipResolve (s : State) (k v : Nat) : State :=
  if s.bit (R.TP_CLIP_STATUS_PENDING k) then s
  else
    let s := (s.setReg (R.TP_CLIP_SUMSQ k) (BitVec.ofNat 64 v)).setFld (R.TP_CLIP_STATUS_PENDING k) 1
    let sv := decB64 (v % 2 ^ 64)
    let free := s.freeAt 0
    let s := s.usedFree 1
    if sv.isNan || sv.isInf then
      let c := if sv.isNan then free else clipFactor free (s.reg (R.TP_CLIP_MAX k)).toNat v
      { (s.setReg (R.TP_CLIP_FACTOR k) (BitVec.ofNat 64 c)).raiseFld (R.TP_CLIP_STATUS_NONFINITE k) with discardFlag := true }
    else
      let c := clipFactor free (s.reg (R.TP_CLIP_MAX k)).toNat v
      let s := s.setReg (R.TP_CLIP_FACTOR k) (BitVec.ofNat 64 c)
      let spec := (s.validShards k).filter (fun i => s.bit (R.TP_SHARD_W0_SPEC k i))
      spec.foldl (fun t i =>
        let d := t.descAt (t.fld (R.TP_SHARD_W15_TRIG k i))
        if c = 0x3FF0000000000000 then
          let g := t.gradRange k i
          let t := if d.zeroG then t.engineZero k g.1 g.2 else t
          t.setFld (R.TP_SHARD_W0_SPEC k i) 0
        else
          let t := t.queueTrigger k d.asFactor
          let x := t.teStack k
          t.setTe k { x with clipReruns := x.clipReruns ++ [d.asFactor] }) s

/-- CLIP_RESOLVE: R286. -/
def execClipResolve (k : Fin 8) (v : Word) (s : State) : Out := .next (s.clipResolve k v.toNat)

/-- CLIP_DONE: the last of the resolution's work has completed (R286). -/
def execClipDone (k : Fin 8) (s : State) : Out :=
  if s.bit (R.TP_CLIP_STATUS_PENDING k) && (s.teStack k).clipReruns.isEmpty then
    .next (s.setFld (R.TP_CLIP_STATUS_DONE k) 1)
  else .next s

end Sys2Proof.Machine
end

