-- ==== Sys2Proof/Machine/DressCheck.lean ====
section
/-!
DEFINITION. Machine/DressCheck.lean: the dress check (R298-R309, R313-R315): snapshots of the counters, the wide
recomputation of a sample and its metric, the limits and their events, the sampler's seed.
-/
namespace Sys2Proof.Machine

/-- The four registers of Table 10.5 at base `a`. -/
def State.putEnc (s : State) (a : Nat) (c : EncCnt) : State :=
  (((s.setReg a (BitVec.ofNat 64 c.elements)).setReg (a + 8) (BitVec.ofNat 64 (c.vanished * 2 ^ 32 + c.saturated))).setReg
    (a + 16) (BitVec.ofNat 64 (c.zeroBlocks * 2 ^ 32 + c.escNarrowed))).setReg (a + 24)
      (BitVec.ofNat 64 (c.blocks * 2 ^ 32 + c.nanOut))

/-- Is this the address of a TA_DC_ENCw or TP_DC_ENCw? -/
def isEncReg (a : Nat) : Bool :=
  (decide (0x11000000000 ≤ a ∧ a < 0x11080000000) && (let o := (a - 0x11000000000) % 0x100000; decide (0xF8A00 ≤ o ∧ o < 0xF8A20)))
    || (decide (0x1200B000000 ≤ a ∧ a < 0x1200B008000) && (let o := (a - 0x1200B000000) % 0x1000; decide (0xC00 ≤ o ∧ o < 0xE00)))

/-- The counters of a die become the values of the last interval, and are cleared (R298, R306, R314). Slots stay. -/
def State.dcDie (s : State) (d : Nat) : State :=
  let c := smapGet DcLive.init s.dc d
  let s := ((s.setFld (R.TA_DC_COUNT0_DONE d) c.done).setFld (R.TA_DC_COUNT0_DISAGREE d) c.disagree).setFld
    (R.TA_DC_COUNT1_ABANDONED d) c.abandoned
  let s := ((s.setFld (R.TA_DC_COUNT1_DROPPED d) c.dropped).setFld (R.TA_DC_COUNT1_SKIPPED d) c.skipped).setFld
    (R.TA_DC_COUNT2_NONFINITE d) c.nonfinite
  let s := s.setFld (R.TA_DC_COUNT2_SELECTED d) c.selected
  let s := (List.range 32).foldl (fun t b =>
    (t.setReg (R.TA_DC_EHIST d b) (BitVec.ofNat 64 (c.ehist.getD b 0))).setReg (R.TA_DC_SHIST d b)
      (BitVec.ofNat 64 (c.shist.getD b 0))) s
  { s with dc := smapSet DcLive.init s.dc d { DcLive.init with slots := c.slots } }

/-- A snapshot point (R298, R309). -/
def State.dcSnapshot (s : State) : State :=
  let s : State := { s with dcMissed := s.dcMissed + b2n s.dcWaiting, dcWaiting := true }
  let s : State := { s with regs := s.regs.filter (fun p => !isEncReg p.1) }
  let s := (s.tiles.map Prod.fst).foldl (fun t n =>
    let x := t.tile n
    if x.enc = EncCnt.zero then t
    else (t.putEnc (R.TA_DC_ENC0 n) x.enc).setTile n { x with enc := EncCnt.zero }) s
  let s := (List.range 8).foldl (fun t k =>
    let x := t.teStack k
    let t := x.enc.foldl (fun u p => u.putEnc (R.TP_DC_ENC0 k p.1) p.2) t
    t.setTe k { x with enc := [] }) s
  let s := (List.range 8).foldl (fun t d => t.dcDie d) s
  s.setReg R.TA_DC_SNAP (s.reg R.CU_COUNT)

/-- Does a snapshot point lie at this cue (R298)? The start of cue K + 40 of a curtain, the change cue of a scene change or the start
cue of a restore, and in a scene without curtains every cue that is a multiple of 1024. -/
def State.snapPoint (s : State) : Bool :=
  s.curtain.announced == some (s.cue - 40) && decide (40 ≤ s.cue) || s.scene.change.any (fun c => c.c == s.cue)
    || (s.scene.rollout && s.cue % 1024 == 0)

/-- DC_SNAPSHOT: a snapshot is taken once at each snapshot point, in the stage cycle in which its cue begins; what is counted in that cycle falls
in the next interval (R298). -/
def execDcSnapshot (s : State) : Out :=
  .next (if s.now.cueNew && s.snapPoint && decide ((s.reg R.TA_DC_SNAP).toNat ≠ s.cue) then s.dcSnapshot else s)

/-- The bin of a value (R306). -/
def dcBin (v : Val) : Nat :=
  if v.isZero then 0
  else if v.lt (.fin false 1 (-29)) then 1
  else
    match (List.range 29).find? (fun (i : Nat) => v.lt (.fin false 1 ((i : Int) - 28))) with
    | some i => i + 2
    | none => 31

/-- The wide value of output `n` of a chain sample (R304). -/
def chainWide (mms : List ChainMM) (n : Nat) : Val :=
  mms.foldl (fun w g =>
    match mmFmt g.args.fa.fmt g.args.fb.fmt with
    | none => w
    | some f =>
      match mmShape f g.args.wide false with
      | none => w
      | some sh =>
        let i := n / sh.n
        let j := n % sh.n
        let rdA : ByteRd := fun o => g.bytesA.getD o 0
        let rdB : ByteRd := fun o => g.bytesB.getD o 0
        let va := fun kk => if f = .sk16 ∧ g.args.ta then decSK16 (opBits rdA 2 false true sh.m sh.k i kk 0)
          else panelVal g.args.fa rdA sh.m sh.k i kk
        let vb := fun kk => if f = .sk16 ∧ g.args.tb then decSK16 (opBits rdB 2 false true sh.n sh.k j kk 0)
          else panelVal g.args.fb rdB sh.n sh.k j kk
        (List.range sh.k).foldl (fun acc kk =>
          let a := if g.args.neg then (va kk).neg else va kk
          (fFma fB64 .rne a (vb kk) acc).1) w) (.zero false)

/-- The pairs (w, y) of a sample. Values of a DRAIN that lie outside the chain's own units have no wide value. -/
def DcRec.pairs : DcRec → List (Val × Val)
  | .chain _ _ tag drain mms rows cols f out _ =>
    let rd : ByteRd := fun o => match out.find? (fun p => p.1 == o) with | some p => p.2 | none => 0
    let units := mms.foldl (fun a m => match mmFmt m.args.fa.fmt m.args.fb.fmt with
      | some g => (match mmShape g m.args.wide false with | some sh => max a (sh.m * sh.n) | none => a)
      | none => a) 0
    ((List.range (rows * cols)).filter (fun n => decide (tag * 128 ≤ drain * 128 + n) && decide (drain * 128 + n < tag * 128 + units))).map
      (fun n => (chainWide mms (drain * 128 + n - tag * 128), panelVal f rd rows cols (n / cols) (n % cols)))
  | .conv _ _ sf df n total src out =>
    let rs : ByteRd := fun o => src.getD o 0
    let rd : ByteRd := fun o => match out.find? (fun p => p.1 == o) with | some p => p.2 | none => 0
    (List.range n).map (fun i => ((roundVal fB64 .rne (panelVal sf rs 1 n 0 i)).1, panelVal df rd 1 total 0 i))

/-- Is w finite? -/
def Val.isFin (v : Val) : Bool := !v.isNan && !v.isInf

/-- The disagreement of one element (R305); `m` is the largest finite |w|. -/
def dcDelta (m w y : Val) : Val :=
  if y.isNan then .fin false 1 0
  else if y.eq w then .zero false
  else
    let fl := m.scale (-12)
    let den := if w.abs.lt fl then fl else w.abs
    (fDiv fB64 .rne (fSub fB64 .rne y w).1.abs den).1

/-- DRESS_CHECK_RECOMPUTE: the check unit of a die finishes its oldest record (R304-R306). A sample with no finite w has no
mean: it counts in DONE and disagrees never (DESIGN CHOICE: R305 states none). -/
def execDressCheckRecompute (die : Fin 8) (s : State) : Out :=
  match s.dcQueue.find? (fun r => r.die == die.val) with
  | none => .next s
  | some r =>
    let ps := r.pairs
    let fin := ps.filter (fun p => p.1.isFin)
    let m := fin.foldl (fun a p => if magLt a p.1 then p.1.abs else a) (.zero false)
    let ds := fin.map (fun p => dcDelta m p.1 p.2)
    let sum := addAny64 (fun j => Config.sumPick s.free 0 j) (ds.length + 1) (ds.map (fun d => (fMul fB64 .rne d d).1))
    let e := (fSqrt fB64 .rne (fDiv fB64 .rne sum.1 (.fin false fin.length 0)).1).1
    let lvl := s.fld R.TA_DC_THRESH_E_LEVEL
    let bad := decide (lvl ≠ 0) && !fin.isEmpty && !(e.lt (.fin false 1 (-(lvl : Int))))
    let up := fun (h : List Nat) (b : Nat) => h.set b (satAdd (2 ^ 64 - 1) (h.getD b 0) 1)
    let s : State := { s.usedFree 1 with dcQueue := s.dcQueue.erase r }
    .next (s.dcUpd die (fun c =>
      { c with
        done := satAdd 0xFFFFFFFF c.done 1,
        disagree := satAdd 0xFFFFFFFF c.disagree (b2n bad),
        nonfinite := satAdd 0xFFFFFFFF c.nonfinite (ps.length - fin.length),
        ehist := ds.foldl (fun h d => up h (dcBin d)) c.ehist,
        shist := if fin.isEmpty then c.shist else up c.shist (dcBin e),
        slots := c.slots.filter (fun x => decide (x ≠ r.slot)) }))

/-- Base addresses of every ENC0 that shows anything, with its SOURCE (Table 10.2). -/
def State.encSources (s : State) : List (Nat × Nat) :=
  let ta := (s.regs.filter (fun p => isEncReg p.1)).map (fun p => if p.1 < 0x12000000000 then
      let t := (p.1 - 0x11000000000) / 0x100000
      (t, R.TA_DC_ENC0 t)
    else
      let k := (p.1 - 0x1200B000000) / 0x1000
      let e := ((p.1 - 0x1200B000000) % 0x1000 - 0xC00) / 0x20
      (0x8000 + 16 * k + e, R.TP_DC_ENC0 k e))
  ta.dedup

/-- The first source with the largest count. -/
def topSource (l : List (Nat × Nat)) : Nat :=
  (l.foldl (fun (b : Nat × Nat) p => if b.2 < p.2 then p else b) (0, 0)).1

/-- The dress-check report of the running JOB_START: one leaves in 10 ms, a later word takes the place of one that waits (R433). -/
def State.dcReport (s : State) (word : Option Nat) : State :=
  match s.host.cmds.find? (fun c => c.opcode == 0x26 && c.started) with
  | none => s
  | some c =>
    match word.or c.owed with
    | none => s
    | some w =>
      let due := match c.told with | none => true | some t => decide (t + 10000000 ≤ s.timeNs)
      let d := if due then { c with told := some s.timeNs, owed := none } else { c with owed := some w }
      let s : State := { s with host := { s.host with cmds := s.host.cmds.map (fun x => if x.id = c.id then d else x) } }
      if due then s.putStatus c.session c.id ⟨c.opcode, 2, 0x93, c.seq, c.cookie, 0, 0, leBytes w 8⟩ else s

/-- One dress-check event: its promptbook entry, and a progress report of the running JOB_START, QUIET or not (R308, R431, R434). -/
def State.dcEvent (s : State) (kind source value : Nat) : State :=
  let w := kind * 2 ^ 56 + source * 2 ^ 32 + min value (2 ^ 32 - 1)
  (s.event 1 0x93 w).dcReport (some w)

/-- DC_EVALUATE: booth firmware sums the snapshot and compares it (R307, R308); an interval it missed is counted in the
promptbook (R309). A report that waits leaves first, when it is due (R433). Where no tile or engine counted a NaN, SOURCE
of DC_NONFINITE names the die (DESIGN CHOICE: Table 10.2 has that form for DC_DISAGREE). -/
def execDcEvaluate (s : State) : Out :=
  let s := s.dcReport none
  if !s.dcWaiting then .next s
  else
    let s := if s.dcMissed = 0 then s else s.event 1 0xFA s.dcMissed
    let s : State := { s with dcWaiting := false, dcMissed := 0 }
    let src := s.encSources
    let hi := fun (a : Nat) => (s.reg a).toNat / 2 ^ 32
    let lo := fun (a : Nat) => (s.reg a).toNat % 2 ^ 32
    let sum := fun (f : Nat → Nat) => src.foldl (fun a p => a + f p.2) 0
    let dies := fun (f : Nat → Nat) => (List.range 8).foldl (fun a d => a + f d) 0
    let elements := sum (fun a => (s.reg a).toNat)
    let vanished := sum (fun a => hi (a + 8))
    let saturated := sum (fun a => lo (a + 8))
    let nanOut := sum (fun a => lo (a + 24))
    let done := dies (fun d => s.fld (R.TA_DC_COUNT0_DONE d))
    let dis := dies (fun d => s.fld (R.TA_DC_COUNT0_DISAGREE d))
    let nonf := dies (fun d => s.fld (R.TA_DC_COUNT2_NONFINITE d))
    let top := fun (f : Nat → Nat) => topSource (src.map (fun p => (p.1, f p.2)))
    let topDie := fun (f : Nat → Nat) => topSource ((List.range 8).map (fun d => (0xF000 + d, f d)))
    let per := fun (n : Nat) => if elements = 0 then s.freeAt 0 % 2 ^ 32 else n * 2 ^ 20 / elements
    let disLim := s.fld R.TA_DC_THRESH_DIS_LIM
    let vanLim := s.fld R.TA_DC_THRESH_VANISH_LIM
    let satLim := s.fld R.TA_DC_THRESH_SAT_LIM
    let s0 := s.usedFree 1
    let s1 := if disLim ≠ 0 ∧ 16 ≤ done ∧ disLim * done ≤ dis * 256 then
        s0.dcEvent 1 (topDie (fun d => s.fld (R.TA_DC_COUNT0_DISAGREE d))) (dis * 256 / done) else s0
    let s2 := if vanLim ≠ 0 ∧ vanLim * elements ≤ vanished * 2 ^ 20 then
        s1.dcEvent 2 (top (fun a => hi (a + 8))) (per vanished) else s1
    let s3 := if satLim ≠ 0 ∧ satLim * elements ≤ saturated * 2 ^ 20 then
        s2.dcEvent 3 (top (fun a => lo (a + 8))) (per saturated) else s2
    .next (if 0 < nanOut ∨ 0 < nonf then
      s3.dcEvent 4 (if nanOut = 0 then topDie (fun d => s.fld (R.TA_DC_COUNT2_NONFINITE d)) else top (fun a => lo (a + 24)))
        (nanOut + nonf) else s3)

/-- Every tile's sampler starts again from its seed (R300). -/
def State.reseedSamplers (s : State) : State :=
  (s.tiles.map Prod.fst).foldl (fun t n => t.setTile n { t.tile n with samplerDraws := 0 }) s

/-- A write of TA_DC_CTL that covers SEED (R300, R313). -/
def State.dcCtlWrite (s : State) (off len v : Nat) : State :=
  let s := s.regWrite R.TA_DC_CTL off len v
  if off + len ≤ 4 then s else s.reseedSamplers

/-- DC_SEED_WRITE: R300, R313. -/
def execDcSeedWrite (v : Word) (s : State) : Out := .next (s.dcCtlWrite 0 8 v.toNat)

/-- A write of TA_DC_AREA of a die (R314): VALID = 1 needs an area inside the general area of Table 8.1. -/
def State.dcAreaWrite (s : State) (d off len v : Nat) : State :=
  let t := s.regWrite (R.TA_DC_AREA d) off len v
  let lo := t.fld (R.TA_DC_AREA_BASE d) * 0x800000
  if t.bit (R.TA_DC_AREA_VALID d) && decide (0x1F0000000 - s.cacheN * 0x10000000 < lo + 0x800000) then
    t.setFld (R.TA_DC_AREA_VALID d) 0 else t

end Sys2Proof.Machine
end

