-- ==== Sys2Proof/Machine/BoothOps.lean ====
section
/-!
DEFINITION. Machine/BoothOps.lean: reading and writing a booth core's registers and its own SRAM, and how an access of it
ends (R168-R170, R173, R175, R197, R247).
-/
namespace Sys2Proof.Machine

def State.core (s : State) (n : Nat) : BoothCore := smapGet BoothCore.init s.booth n
def State.setCore (s : State) (n : Nat) (c : BoothCore) : State := { s with booth := smapSet BoothCore.init s.booth n c }

/-- x0 reads as zero, and a write to it is discarded (R168). -/
def BoothCore.xr (c : BoothCore) (k : Nat) : Word := if k = 0 then 0 else smapGet 0 c.x k
def BoothCore.setX (c : BoothCore) (k : Nat) (v : Word) : BoothCore := if k = 0 then c else { c with x := smapSet 0 c.x k v }

def BoothCore.fr (c : BoothCore) (k : Nat) : Word := smapGet 0 c.f k
def BoothCore.setF (c : BoothCore) (k : Nat) (v : Word) : BoothCore := { c with f := smapSet 0 c.f k v }

/-- p0 reads as all ones, and a write to it is discarded (R197). -/
def BoothCore.pr (c : BoothCore) (k : Nat) : Nat := if k = 0 then 2 ^ 64 - 1 else (smapGet (0 : Word) c.p k).toNat
def BoothCore.setP (c : BoothCore) (k v : Nat) : BoothCore :=
  if k = 0 then c else { c with p := smapSet 0 c.p k (BitVec.ofNat 64 v) }

/-- v[k], f(8k) lowest (R169). -/
def BoothCore.vr (c : BoothCore) (k : Nat) : Nat :=
  (List.range 8).foldl (fun a i => a + (c.fr (8 * k + i)).toNat <<< (64 * i)) 0

/-- The bits under `mask` of v[k] take those of `v` (R169, R197). -/
def BoothCore.setV (c : BoothCore) (k v mask : Nat) : BoothCore :=
  (List.range 8).foldl (fun (d : BoothCore) i =>
    let m := BitVec.ofNat 64 (mask >>> (64 * i))
    d.setF (8 * k + i) ((d.fr (8 * k + i) &&& ~~~m) ||| (BitVec.ofNat 64 (v >>> (64 * i)) &&& m))) c

/-- Bytes of the core's own SRAM. -/
def BoothCore.ld (c : BoothCore) (a n : Nat) : Nat := ofLe ((List.range n).map (fun i => smapGet 0 c.sram (a + i)))
def BoothCore.st (c : BoothCore) (a : Nat) (l : List Byte) : BoothCore :=
  { c with sram := l.zipIdx.foldl (fun m b => smapSet 0 m (a + b.2) b.1) c.sram }

/-- The instruction after this one. -/
def BoothCore.step (c : BoothCore) : BoothCore := { c with pc := (c.pc + 1) % 8192 }

/-- Does core `n` take an instruction now: firmware was booted, and the core waits for no answer (R509)? -/
def State.coreRuns (s : State) (n : Nat) : Bool :=
  s.sec.slot.isSome && s.power.phase != .off && !s.boot.rstLow && !(s.core n).waiting

/-- A fault or bus error, HOLDPT, TRET or TSKIP: the core goes on in a firmware vector, at a place the manual leaves open. -/
def State.coreVector (s : State) (n : Nat) (c : BoothCore) (code : Nat) : State :=
  (s.setCore n { c with pc := s.freeAt 0 % 8192, err := code, waiting := false }).usedFree 1

/-- What a load writes (R170, R178). -/
def BoothCore.loaded (c : BoothCore) (k : LdKind) (rd v : Nat) : BoothCore :=
  if k.isF then c.setF rd (ldValue k v) else c.setX rd (ldValue k v)

/-- A core's access outside its SRAM ends: a load writes its register, an error goes to the core (R247). -/
def State.coreDone (s : State) (n : Nat) (ld : Option (LdKind × Nat)) (v code : Nat) : State :=
  if code ≠ 0 then s.coreVector n (s.core n) code
  else
    let c := match ld with | some (k, rd) => (s.core n).loaded k rd v | none => s.core n
    s.setCore n { c.step with waiting := false }

/-- An address of the own SRAM (R173, R175), or the cause. -/
def sramAddr (a : Word) (align : Nat) : Except Nat Nat :=
  if a.toNat / 2 ^ 20 ≠ 0 then .error 0x21 else if a.toNat % align ≠ 0 then .error 0x22 else .ok a.toNat

/-- Does the word have a PRED field (format V)? -/
def hasPred (w : Nat) : Bool := pOpc w == 0x30 || pOpc w == 0x32 || pOpc w == 0x33 || pOpc w == 0x34

/-- A word of a booth core's stream: the instruction, its PRED, and the predicate a compare writes (R176, R197). VLSET is
reserved. -/
def decodeBooth (w : Nat) : Option (PInsn × Fin 8 × Fin 8) :=
  if hasPred w then
    let u := putBits w 7 5 0
    let pred := mkFin 8 (by decide) (bitsOf w 7 5)
    let fn := bitsOf w 4 0
    if pOpc w = 0x30 ∧ 0x0B ≤ fn ∧ fn ≤ 0x0D then
      need (decide (pA w < 8)) ((decodeP (putBits u 25 21 0)).map (fun i => (i, pred, mkFin 8 (by decide) (pA w))))
    else (decodeP u).map (fun i => (i, pred, 0))
  else
    match decodeP w with
    | some (.vlset _ _ _) => none
    | r => r.map (fun i => (i, 0, 0))

end Sys2Proof.Machine
end

