-- ==== Sys2Proof/Machine/FabColl.lean ====
section
/-!
DEFINITION. Machine/FabColl.lean: the collective engine (R380-R384, R392): posting, starting, sending shares, adding
contributions, placing results, completing.
-/
namespace Sys2Proof.Machine

-- Fields of Table 12.7; a descriptor is its eight words.
def ceOp (d : List Nat) : Nat := bitsOf (d.getD 0 0) 63 56
def ceSet (d : List Nat) : Nat := bitsOf (d.getD 0 0) 55 52
def ceNotify (d : List Nat) : Nat := bitsOf (d.getD 0 0) 51 50
def ceRedop (d : List Nat) : Nat := bitsOf (d.getD 0 0) 33 32
def ceFmtWord (d : List Nat) : Nat := bitsOf (d.getD 0 0) 31 16
def ceSrc (d : List Nat) : Nat := bitsOf (d.getD 1 0) 43 0
def ceDst (d : List Nat) : Nat := bitsOf (d.getD 2 0) 43 0
def ceScratch (d : List Nat) : Nat := bitsOf (d.getD 3 0) 43 0
def ceCount (d : List Nat) : Nat := bitsOf (d.getD 4 0) 47 0
def ceStart (d : List Nat) : Nat := (d.getD 5 0) % 2 ^ 64
def ceTable (d : List Nat) : Nat := bitsOf (d.getD 6 0) 43 0
def ceRec (d : List Nat) : Nat := bitsOf (d.getD 7 0) 43 0

-- Operations of Table 12.8.
def ceAllReduce : Nat := 1
def ceReduceScatter : Nat := 2
def ceAllGather : Nat := 3
def ceBroadcast : Nat := 4
def cePermute : Nat := 5
def ceBarrier : Nat := 6
def ceScalarSum : Nat := 7

/-- The element format: code 0x00 means bytes (Table 12.7); SCALAR_SUM is B64. -/
def ceFmt (d : List Nat) : Option FmtWord :=
  if ceOp d = ceScalarSum then some ⟨.b64, 0, false, 0⟩
  else if ceFmtWord d % 256 = 0 then some ⟨.int false 8, 0, false, 0⟩
  else FmtWord.ofWord (ceFmtWord d)

/-- REDOP and format pairings of R382. -/
def ceReducible (d : List Nat) : Bool :=
  match ceRedop d, ceFmt d with
  | 0, some f => ceFmtWord d % 256 != 0 && reduceFmt f.fmt
  | 1, some f => (match f.fmt with | .b64 => true | .b32 => true | .int true 32 => true | _ => false)
  | 2, some _ => ceFmtWord d % 256 == 0
  | _, _ => false

/-- The seats of a set with their indices: ascending seat order, a promoted understudy in the place of the seat it replaced
(R381, R391, R322). -/
def State.setParties (s : State) (n : Nat) : List Nat :=
  let seats := s.setSeats n
  let live := seats.filter (fun q => !s.promoted.any (fun p => p.1 == q))
  sortBy (fun q => match s.promoted.find? (fun p => p.2 == q) with | some p => p.1 | none => q) live

/-- First item and items of party `p` (R320). -/
def shareItems (n parties p : Nat) : Nat × Nat :=
  let q := n / parties
  let m := n % parties
  (p * q + min p m, if p < m then q + 1 else q)

/-- First and one-past-last element of share `p` (R320, R381): an item is 128 elements, the last may be shorter. -/
def shareElems (count parties p : Nat) : Nat × Nat :=
  let r := shareItems ((count + 127) / 128) parties p
  (min count (r.1 * 128), min count ((r.1 + r.2) * 128))

def CollRun.me (r : CollRun) (seat : Nat) : Nat := r.parties.idxOf seat

def CollRun.fmt (r : CollRun) : FmtWord := (ceFmt r.desc).getD ⟨.int false 8, 0, false, 0⟩

/-- Elements that move as share `p`: a broadcast or a scalar moves whole. -/
def CollRun.elems (r : CollRun) (p : Nat) : Nat × Nat :=
  if ceOp r.desc = ceBroadcast then (0, ceCount r.desc)
  else if ceOp r.desc = ceScalarSum then (0, 1)
  else shareElems (ceCount r.desc) r.parties.length p

/-- Bytes of share `p`. -/
def CollRun.bytes (r : CollRun) (p : Nat) : Nat :=
  let e := r.elems p
  if e.1 = e.2 then 0
  else ((Arr.spans ⟨0, r.fmt, max (ceCount r.desc) 1⟩ e.1 e.2).foldl (fun a x => a + x.2) 0)

/-- Read the share `[lo, hi)` of a panel of `n` elements at `base` with the engine's MID. -/
def State.ceRead (s : State) (base n lo hi : Nat) (f : FmtWord) : (List PByte × Nat) × State :=
  if lo = hi then (([], 0), s)
  else
    (Arr.spans ⟨base, f, n⟩ lo hi).foldl (fun acc p =>
      let r := acc.2.moverRead 0x20 (base + p.1) p.2 0 false noEcc
      ((acc.1.1 ++ r.1.1.map (fun b => (b.val, b.psn)), if acc.1.2 ≠ 0 then acc.1.2 else firstCause r.1.2.1), r.2))
      (([], 0), s)

/-- Write a share. -/
def State.ceWrite (s : State) (base n lo hi : Nat) (f : FmtWord) (l : List PByte) : Nat × State :=
  if lo = hi then (0, s)
  else
    let r := (Arr.spans ⟨base, f, n⟩ lo hi).foldl (fun acc p =>
      let w := acc.2.2.moverWrite 0x20 (base + p.1) 0 false noEcc none (acc.2.1.take p.2)
      (if acc.1 ≠ 0 then acc.1 else firstCause w.1, acc.2.1.drop p.2, w.2)) (0, l, s)
    (r.1, r.2.2)

/-- The way of a contribution (R383). One group: straight to the party. One position across groups: around the ring. Otherwise within the
group to the target's position, then around the ring of that position. -/
def nextHop (parties : List Nat) (me target : Nat) : Nat :=
  let after := fun (l : List Nat) => l.getD ((l.idxOf me + 1) % max l.length 1) target
  if me / 16 = target / 16 then target
  else if parties.all (fun q => q % 16 == me % 16) then after parties
  else if me % 16 ≠ target % 16 ∧ parties.contains (me / 16 * 16 + target % 16) then me / 16 * 16 + target % 16
  else
    let ring := parties.filter (fun q => q % 16 == me % 16)
    if 1 < ring.length then after ring else target

/-- The way of a result (R383): the ring of this position first, and in the target's group the closing exchange; where no party of the target's
group stands at this position, by way of one of the own group whose position one does. -/
def backHop (parties : List Nat) (me target : Nat) : Nat :=
  let after := fun (l : List Nat) => l.getD ((l.idxOf me + 1) % max l.length 1) target
  if me / 16 = target / 16 then target
  else if parties.contains (target / 16 * 16 + me % 16) then after (parties.filter (fun q => q % 16 == me % 16))
  else
    match parties.find? (fun q => q / 16 == me / 16 && q != me && parties.contains (target / 16 * 16 + q % 16)) with
    | some q => q
    | none => target

/-- Bytes of an item of 128 elements in SCRATCH. -/
def itemBytes (f : FmtWord) : Nat :=
  128 * f.fmt.bits / 8 + (if f.fmt.isSkb then 128 / f.block * (if f.esc then 5 else 1) else 0)

/-- Where a piece lands in SCRATCH at its target: one place of q + 1 items for each other party (R383). -/
def CollRun.place (r : CollRun) (p : CollPiece) : Nat :=
  let idx := if p.result then p.share else p.origin
  let slot := if idx < p.target then idx else idx - 1
  let q := (ceCount r.desc + 127) / 128 / max r.parties.length 1
  ceScratch r.desc + slot * ((q + 1) * itemBytes r.fmt) + p.off

/-- Send one piece toward its target as COLL_DATA packets (R381, R383); a zero-length one is marked EMPTY. -/
def State.sendPiece (s : State) (r : CollRun) (p : CollPiece) (l : List PByte) : CollRun × State :=
  let hop := (if p.result then backHop else nextHop) r.parties s.mySeat (r.parties.getD p.target 0)
  if s.isLost hop then ({ r with lost := some (r.lost.getD hop) }, s)
  else if l.isEmpty then
    let s := s.sendReq (.coll r.set r.num) opCollData 0x20 hop (r.place p) 0 (ceFmtWord r.desc) [] [] 1 0
    let inj := s.fab.inject.map (fun q => if q.op = opCollData ∧ q.data = [] ∧ q.tag < 2 ^ 15 ∧ q.src = s.mySeat then
      { q with tag := q.tag + 2 ^ 15 } else q)
    ({ r with wait := r.wait + 1 }, { s with fab := { s.fab with inject := inj } })
  else
    let a := r.place p
    (cuts a a l.length).foldl (fun acc c =>
      let d := (l.drop c.1).take c.2
      ({ acc.1 with wait := acc.1.wait + 1 },
        acc.2.sendReq (.coll r.set r.num) opCollData 0x20 hop (a + c.1) 0 (ceFmtWord r.desc) (d.map Prod.fst) (d.map Prod.snd)
          c.2 0)) (r, s)

/-- Two contributions become one (R382). -/
def State.ceCombine (s : State) (r : CollRun) (x y : List PByte) : List PByte × Nat × State :=
  let f := r.fmt
  let z := f.fmt.size
  let a := x.map Prod.fst
  let b := y.map Prod.fst
  let psn := (x.zip y).map (fun p => p.1.2 || p.2.2)
  match ceRedop r.desc with
  | 0 =>
    let o := reduceBytes false f (fun i => s.freeAt (2 * i) % 65536) (fun i => s.freeAt (2 * i + 1)) (fun _ => true) a b
    (o.1.zip psn, o.2.1.sats, s.usedFree (2 * x.length))
  | 1 =>
    let el := fun (i : Nat) =>
      let u := ofLe ((a.drop (i * z)).take z)
      let v := ofLe ((b.drop (i * z)).take z)
      match f.fmt with
      | .b64 => encB64 (s.freeAt i) (fMinMax true (decB64 u) (decB64 v)).1
      | .b32 => encB32 (s.freeAt i) (fMinMax true (decB32 u) (decB32 v)).1
      | _ => if signedOf 32 u < signedOf 32 v then v else u
    (((List.range (x.length / z)).flatMap (fun i => leBytes (el i) z)).zip psn, 0, s.usedFree x.length)
  | _ => (((a.zip b).map (fun p => p.1 ^^^ p.2)).zip psn, 0, s)

def CollRun.blame (r : CollRun) (c : Nat) : CollRun := if c = 0 ∨ r.cause ≠ 0 then r else { r with cause := c }

/-- A result stands in DST: the share's place, or all of DST for a scatter's own share. -/
def State.placeShare (s : State) (r : CollRun) (share : Nat) (l : List PByte) : CollRun × State :=
  let e := r.elems share
  let w := if ceOp r.desc = ceReduceScatter then s.ceWrite (ceDst r.desc) (e.2 - e.1) 0 (e.2 - e.1) r.fmt l
    else if ceOp r.desc = ceScalarSum then s.ceWrite (ceDst r.desc) 1 0 1 r.fmt l
    else s.ceWrite (ceDst r.desc) (ceCount r.desc) e.1 e.2 r.fmt l
  ({ r.blame w.1 with placed := r.placed ++ [share] }, w.2)

/-- The parties other than this one. -/
def CollRun.others (r : CollRun) (me : Nat) : List Nat := (List.range r.parties.length).filter (fun p => decide (p ≠ me))

/-- A share whose every contribution is added goes to DST, and from there to every party where all are to have it. -/
def State.cePublish (s : State) (r : CollRun) : CollRun × State :=
  let me := r.me s.mySeat
  if r.published || decide (r.added.length < r.parties.length) then (r, s)
  else if ceOp r.desc = ceAllReduce then
    let p := s.placeShare { r with published := true } me r.acc
    (r.others me).foldl (fun acc t => acc.2.sendPiece acc.1 ⟨r.set, r.num, me, t, me, 0, true⟩ r.acc) p
  else if ceOp r.desc = ceReduceScatter then s.placeShare { r with published := true } me r.acc
  else if ceOp r.desc = ceScalarSum ∧ me = 0 then
    let vs := (sortBy Prod.fst r.vals).map (fun v => ofLe (v.2.map Prod.fst))
    let psn := r.vals.any (fun v => v.2.any Prod.snd)
    let sum := match vs with
      | [] => 0
      | v :: rest => (rest.foldl (fun (a : Nat × Nat) w => ((b64Add (s.freeAt a.2) a.1 w).1, a.2 + 1)) (v, 0)).1
    let l : List PByte := (leBytes sum 8).map (fun b => (b, psn))
    let p := (s.usedFree vs.length).placeShare { r with published := true } 0 l
    (r.others 0).foldl (fun acc t => acc.2.sendPiece acc.1 ⟨r.set, r.num, 0, t, 0, 0, true⟩ l) p
  else (r, s)

/-- A whole contribution or result has come for this party. -/
def State.ceTake (s : State) (r : CollRun) (p : CollPiece) (l : List PByte) : CollRun × State :=
  if p.result then s.placeShare r p.share l
  else if ceOp r.desc = ceScalarSum then
    s.cePublish { r with vals := r.vals ++ [(p.origin, l)], added := r.added ++ [p.origin] }
  else
    let c := s.ceCombine r r.acc l
    c.2.2.cePublish { r with acc := c.1, sat := r.sat + c.2.1, added := r.added ++ [p.origin] }

/-- A piece of a collective that has begun here: forwarded on its way, or kept until the share is whole. -/
def State.cePiece (s : State) (r : CollRun) (p : CollPiece) (l : List PByte) : CollRun × State :=
  let me := r.me s.mySeat
  if p.target ≠ me then s.sendPiece r p l
  else
    let same := fun (q : CollPiece × List PByte) => q.1.origin == p.origin && q.1.share == p.share && q.1.result == p.result
    let r : CollRun := { r with part := r.part ++ [(p, l)] }
    let mine := r.part.filter same
    let n : Nat := mine.foldl (fun (a : Nat) q => a + q.2.length) 0
    if n < r.bytes p.share then (r, s)
    else
      let whole := (sortBy (fun q => q.1.off) mine).flatMap Prod.snd
      s.ceTake { r with part := r.part.filter (fun q => !same q) } p whole

def State.run? (s : State) (set num : Nat) : Option CollRun := s.fab.runs.find? (fun r => r.set == set && r.num == num)

def State.putRun (s : State) (r : CollRun) : State :=
  { s with fab := { s.fab with runs := s.fab.runs.map (fun q => if q.set = r.set ∧ q.num = r.num then r else q) } }

/-- Free entries of both queues (Table 12.13). -/
def State.ceFree (s : State) : State :=
  (s.setFld R.FB_CE_STATUS_FREE0 (16 - s.fab.ceQ0.length)).setFld R.FB_CE_STATUS_FREE1 (16 - s.fab.ceQ1.length)

/-- A write of FB_CE_POST (R380). The ninth word kept is the number of the collective on its set. -/
def State.cePost (s : State) (q : Nat) : State :=
  let d := (List.range 8).map (fun j => (s.reg (R.FB_CE_DESC j)).toNat)
  let l := if q = 0 then s.fab.ceQ0 else s.fab.ceQ1
  if 16 ≤ l.length then s.raiseFld R.FB_CE_STATUS_OVERRUN
  else
    let n := smapGet 0 s.fab.setCount (ceSet d)
    let f := { s.fab with setCount := smapSet 0 s.fab.setCount (ceSet d) (n + 1) }
    let f := if q = 0 then { f with ceQ0 := l ++ [d ++ [n]] } else { f with ceQ1 := l ++ [d ++ [n]] }
    ({ s with fab := f } : State).ceFree

/-- CE_POST: R380. -/
def execCePost (q : Fin 2) (s : State) : Out := .next (s.cePost q)

/-- What makes a descriptor malformed (R384). -/
def ceMalformed (d : List Nat) (member : Bool) : Bool :=
  let op := ceOp d
  let high := [1, 2, 3, 6, 7].any (fun i => bitsOf (d.getD i 0) 63 44 != 0) || bitsOf (d.getD 4 0) 63 48 != 0
  decide (op = 0 ∨ 7 < op) || bitsOf (d.getD 0 0) 15 0 != 0 || ceNotify d == 3 || ceRedop d == 3 || high || !member
    || ((op == ceAllReduce || op == ceReduceScatter) && !ceReducible d)
    || ((op == ceAllGather || op == ceBroadcast) && (ceFmt d).isNone)

/-- COLLECTIVE_START: a half takes the oldest descriptor of its queue, at most four running, at its start cue (R380, R381,
R384). -/
def execCollectiveStart (h : Fin 2) (s : State) : Out :=
  let q := if h.val = 0 then s.fab.ceQ0 else s.fab.ceQ1
  match q with
  | [] => .next s
  | d :: rest =>
    if 4 ≤ (s.fab.runs.filter (fun r => r.half == h.val)).length ∨ s.cue < ceStart d then .next s
    else
      let ps := s.setParties (ceSet d)
      let bad := ceMalformed (d.take 8) (ps.contains s.mySeat)
      let set := ceSet d
      let num := d.getD 8 0
      let run : CollRun := ⟨h, set, num, d.take 8, ps, false, [], [], [], [], [], false, 0,
        (s.fab.ceHeard.filter (fun x => x.1 == set && x.2.1 == num)).map (fun x => x.2.2), (ps.find? (fun p => s.isLost p)).or (if s.fab.ceStopped.contains (set, num) then some 0 else none), 0, bad, 0⟩
      let f := { s.fab with
        ceQ0 := if h.val = 0 then rest else s.fab.ceQ0, ceQ1 := if h.val = 0 then s.fab.ceQ1 else rest,
        runs := s.fab.runs ++ [run], ceHeard := s.fab.ceHeard.filter (fun x => !(x.1 == set && x.2.1 == num)), ceStopped := s.fab.ceStopped.filter (fun x => x != (set, num)) }
      .next ({ s with fab := f } : State).ceFree

/-- Pieces that came before the collective began here. -/
def State.ceEarly (s : State) (r : CollRun) : CollRun × State :=
  let mine := s.fab.early.filter (fun e => e.1.set == r.set && e.1.num == r.num)
  let s : State := { s with fab := { s.fab with early := s.fab.early.filter (fun e => !(e.1.set == r.set && e.1.num == r.num)) } }
  if ceOp r.desc = cePermute then (r, s) else
  mine.foldl (fun acc e =>
    let psn := fun (i : Nat) => bitOf e.2.pmask ((e.2.addr % 32 + i) / 32)
    acc.2.cePiece acc.1 e.1 (e.2.data.zipIdx.map (fun b => (b.1, psn b.2)))) (r, s)

/-- The moves of a PERMUTE: COUNT records of four 64-bit words at TABLE. -/
def State.moves (s : State) (d : List Nat) : List (Nat × Nat × Nat × Nat) :=
  (List.range (ceCount d)).map (fun i =>
    let w := fun (j : Nat) => s.homeNum (ceTable d + 32 * i + 8 * j) 8
    (w 0 % 2 ^ 44, w 1 % 2 ^ 15, w 2 % 2 ^ 44, w 3))

/-- A coordination packet to a party: it has posted, or (`stop`) the collective has failed (R380, R384; DESIGN CHOICE: the manual does not say how the
other parties learn of a failure). -/
def State.sendCollCtrl (s : State) (set num dst : Nat) (stop : Bool) : State :=
  let tag := s.fab.tagNext % 2 ^ 15
  let ctls := if stop then s.fab.ctls else s.fab.ctls ++ [(tag, set, num)]
  ({ s with fab := { s.fab with tagNext := (tag + 1) % 2 ^ 15, ctls := ctls } } : State).injectPkt
    ⟨opCollCtrl, dst, 0, s.mySeat, 0x20, false, 0, 0, tag, 0, 0, 0, 0, [BitVec.ofNat 8 (b2n stop)]⟩

/-- This party's own part of a collective (Table 12.8, R381-R383). -/
def State.ceBegin (s : State) (r : CollRun) : CollRun × State :=
  let me := r.me s.mySeat
  let r := { r with begun := true }
  let d := r.desc
  let op := ceOp d
  let p : CollRun × State :=
    if op = ceAllReduce ∨ op = ceReduceScatter then
      (List.range r.parties.length).foldl (fun acc t =>
        let e := r.elems t
        let x := acc.2.ceRead (ceSrc d) (ceCount d) e.1 e.2 r.fmt
        let c := acc.1.blame x.1.2
        if t = me then ({ c with acc := x.1.1, added := c.added ++ [me] }, x.2)
        else x.2.sendPiece c ⟨r.set, r.num, me, t, t, 0, false⟩ x.1.1) (r, s)
    else if op = ceAllGather then
      let e := r.elems me
      let x := s.ceRead (ceSrc d) (e.2 - e.1) 0 (e.2 - e.1) r.fmt
      let p := x.2.placeShare (r.blame x.1.2) me x.1.1
      (r.others me).foldl (fun acc t => acc.2.sendPiece acc.1 ⟨r.set, r.num, me, t, me, 0, true⟩ x.1.1) p
    else if op = ceBroadcast then
      if ceTable d % 16 = me then
        let x := s.ceRead (ceSrc d) (ceCount d) 0 (ceCount d) r.fmt
        let p := x.2.placeShare (r.blame x.1.2) me x.1.1
        (r.others me).foldl (fun acc t => acc.2.sendPiece acc.1 ⟨r.set, r.num, me, t, me, 0, true⟩ x.1.1) p
      else (r, s)
    else if op = ceScalarSum then
      let x := s.ceRead (ceSrc d) 1 0 1 r.fmt
      let r := r.blame x.1.2
      if me = 0 then ({ r with vals := [(0, x.1.1)], added := [0] }, x.2)
      else x.2.sendPiece r ⟨r.set, r.num, me, 0, 0, 0, false⟩ x.1.1
    else if op = ceBarrier then
      (r, (r.others me).foldl (fun t q =>
        t.sendCollCtrl r.set r.num (r.parties.getD q 0) false) s)
    else if op = cePermute then
      (s.moves d).foldl (fun acc m =>
        let x := acc.2.moverRead 0x20 m.1 m.2.2.2 0 false noEcc
        let c := acc.1.blame (firstCause x.1.2.1)
        let l := x.1.1.map (fun b => (b.val, b.psn))
        if m.2.1 = s.mySeat then
          let w := x.2.moverWrite 0x20 m.2.2.1 0 false noEcc none l
          (c.blame (firstCause w.1), w.2)
        else if x.2.isLost m.2.1 then ({ c with lost := some (c.lost.getD m.2.1) }, x.2)
        else
          (cuts m.2.2.1 m.2.2.1 l.length).foldl (fun acc k =>
            let q := (l.drop k.1).take k.2
            ({ acc.1 with wait := acc.1.wait + 1 },
              acc.2.sendReq (.coll r.set r.num) opCollData 0x20 m.2.1 (m.2.2.1 + k.1) 0 0 (q.map Prod.fst) (q.map Prod.snd) k.2 0))
            (c, x.2)) (r, s)
    else (r, s)
  let p := p.2.cePublish p.1
  p.2.ceEarly p.1

/-- The run at place `r`, of operation `op` and not begun, begins. -/
def State.ceRow (s : State) (r op : Nat) : State :=
  match s.fab.runs[r]? with
  | none => s
  | some run =>
    if run.begun || run.malformed || run.lost.isSome || ceOp run.desc != op then s
    else
      let p := s.ceBegin run
      p.2.putRun p.1

def execAllReduce (r : Fin 8) (s : State) : Out := .next (s.ceRow r ceAllReduce)
def execReduceScatter (r : Fin 8) (s : State) : Out := .next (s.ceRow r ceReduceScatter)
def execAllGather (r : Fin 8) (s : State) : Out := .next (s.ceRow r ceAllGather)
def execBroadcast (r : Fin 8) (s : State) : Out := .next (s.ceRow r ceBroadcast)
def execPermute (r : Fin 8) (s : State) : Out := .next (s.ceRow r cePermute)
def execBarrier (r : Fin 8) (s : State) : Out := .next (s.ceRow r ceBarrier)
def execScalarSum (r : Fin 8) (s : State) : Out := .next (s.ceRow r ceScalarSum)

/-- COLL_CTRL: a party is heard from (R380, R381); before the collective starts here it is kept. -/
def State.collCtrl (s : State) (set num src : Nat) : State :=
  match s.run? set num with
  | some r => s.putRun { r with heard := (r.heard ++ [src]).dedup }
  | none => { s with fab := { s.fab with ceHeard := s.fab.ceHeard ++ [(set, num, src)] } }

/-- An exchange of a collective has failed (R377, R378, R384): it stops here, with the seat that is lost, or 0, and the other parties are told. -/
def State.collFail (s : State) (set num lost : Nat) : State :=
  match s.run? set num with
  | none => s
  | some r =>
    let t : State := { s.putRun { r with lost := some (r.lost.getD lost) } with discardFlag := true }
    if r.lost.isSome then t
    else (r.others (r.me s.mySeat)).foldl (fun u q => let p := r.parties.getD q 0; if u.isLost p then u else u.sendCollCtrl set num p true) t

/-- Another party tells that a collective has failed: it stops here too, now or when it starts (R384). -/
def State.collStopped (s : State) (set num : Nat) : State :=
  match s.run? set num with
  | none => { s with fab := { s.fab with ceStopped := s.fab.ceStopped ++ [(set, num)] } }
  | some r => { s.putRun { r with lost := some (r.lost.getD 0) } with discardFlag := true }

/-- A send of a collective was acknowledged, or failed (R375, R377, R378, R384). -/
def State.collAck (s : State) (set num code dst : Nat) : State :=
  match s.run? set num with
  | none => s
  | some r =>
    let r := { r with wait := r.wait - 1 }
    if code = 0x60 ∨ code = 0x64 ∨ code = 0x65 then (s.putRun r).collFail set num (if code = 0x65 then dst else 0)
    else s.putRun (r.blame code)

/-- A seat reported lost stops every collective it is a party of (R384). -/
def State.collLost (s : State) (seat : Nat) : State :=
  { s with fab := { s.fab with runs := s.fab.runs.map (fun r =>
      if r.parties.contains seat ∧ r.lost.isNone then { r with lost := some seat } else r) } }

/-- Is a collective finished here (Table 12.8)? -/
def CollRun.done (r : CollRun) (me : Nat) : Bool :=
  let op := ceOp r.desc
  r.begun && r.wait == 0 &&
    (if op = ceAllReduce then r.published && (List.range r.parties.length).all (fun p => r.placed.contains p)
     else if op = ceReduceScatter then r.published
     else if op = ceAllGather then (List.range r.parties.length).all (fun p => r.placed.contains p)
     else if op = ceBroadcast then r.placed.contains (ceTable r.desc % 16)
     else if op = ceScalarSum then r.placed.contains 0
     else if op = ceBarrier then (r.others me).all (fun p => r.heard.contains (r.parties.getD p 0))
     else true)

/-- COLLECTIVE_COMPLETE: the run at place `r` is finished, malformed, or has lost a party (R380, R384). -/
def execCollectiveComplete (r : Fin 8) (s : State) : Out :=
  match s.fab.runs[r.val]? with
  | none => .next s
  | some run =>
    if !(run.malformed || run.lost.isSome || run.done (run.me s.mySeat)) then .next s
    else
      let lost := run.lost.isSome && !run.malformed
      let free := s.freeAt 0 % 16
      let s := if lost then s.usedFree 1 else s
      let s := if run.malformed then s.fbEvent 0x67 s.mySeat
        else if lost then { s.fbEvent 0x66 (run.lost.getD 0) with discardFlag := true } else s
      let code := if run.malformed then 0x67 else if lost then 0x66 else run.cause
      let res := if run.malformed then 3 else if lost then free else if run.cause = 0 then 0 else resultOf run.cause
      let w := min run.sat (2 ^ 32 - 1) * 2 ^ 224 + (if run.malformed || lost then 0 else ceCount run.desc % 2 ^ 40) * 2 ^ 48
        + res * 2 ^ 44 + code * 2 ^ 36 + ceOp run.desc * 2 ^ 28 + (if lost then run.lost.getD 0 % 2 ^ 15 else 0)
      let s := s.countFld R.FB_CE_STATUS_SAT run.sat
      let s : State := { s with fab := { s.fab with
        runs := s.fab.runs.eraseIdx r.val, ctls := s.fab.ctls.filter (fun c => c.2 != (run.set, run.num)) } }
      let s := (s.moverWrite 0x20 (ceRec run.desc) 0 false noEcc none ((leBytes w 32).map (fun b => (b, false)))).2
      let note := BitVec.ofNat 64 (bitsOf (run.desc.getD 0 0) 41 34 * 2 ^ 56 + ceRec run.desc)
      match ceNotify run.desc with
      | 1 => .next (s.post (bitsOf (run.desc.getD 0 0) 49 42) .collective note)
      | 2 => .next (s.send (.booth 0 (ceRec run.desc)))
      | _ => .next s

end Sys2Proof.Machine
end

