-- ==== Sys2Proof/Machine/TileSync.lean ====
section
/-!
DEFINITION. Machine/TileSync.lean: the S slot (R137, R142, R143, R157), fences and what completes them (R30-R32), the end of
a tile's step, the prompter's accesses outside its tile (R152, R173), the trap point (R191, R194).
-/
namespace Sys2Proof.Machine

/-- Does the guard of an issue hold (R142, R150)? A TAKE that is not bound to the tile does not wait: it halts. -/
def State.guardHolds (s : State) (t : Nat) (i : SInsn) : Bool :=
  match i with
  | .wait k thr => decide (s.wc t k.val ≤ thr.toNat)
  | .take ch _ => !s.takeAllowed ch.toNat (tileMid t) || s.hasNotice ch.toNat
  | _ => true

/-- The commit word of a bank. -/
def State.commitWord (s : State) (t b : Nat) : Nat := s.num (commitAddr t b) 16

/-- What stops a swap to a bank: NO_COMMIT, or UNVERIFIED_IMAGE outside the modes that run unverified images (R157, R213). -/
def State.swapBar (s : State) (t b : Nat) : Option Nat :=
  if !s.commitSet t b then some 0x0B
  else if bitOf (s.commitWord t b) 1 && !s.unverifiedMode then some 0x09
  else none

/-- Mayhap the callboard lets this tile post on the channel (R137, R447). -/
def State.tilePosts (s : State) (t : Tile) (ch : Nat) : Bool := s.postAllowed ch (.tile t)

/-- What halts the tile at an S slot (R137, R149, R157, R213). -/
def State.checkS (s : State) (t : Tile) (i : SInsn) : Option HaltReq :=
  match i with
  | .notice ch _ =>
    if !s.tilePosts t ch.toNat then some ⟨0x06, slotS, 0, 0, ch.toNat⟩ else s.busyCheck t slotS resSync 1
  | .take ch _ =>
    if !s.takeAllowed ch.toNat (tileMid t) then some ⟨0x06, slotS, 0, 0, ch.toNat⟩ else s.busyCheck t slotS resSync 1
  | .swapBank =>
    let b := 1 - s.fld (R.TA_SEQ_BANK t)
    (s.swapBar t b).map (fun c => ⟨c, slotS, 0, 0, s.commitWord t b % 2 ^ 64⟩)
  | _ => none

/-- The next issue waits for a fence; everything issued so far lies before it. -/
def State.setFence (s : State) (t : Nat) (k : FenceKind) : State :=
  let x := s.tile t
  let f := some (k, x.ordNext)
  let s := s.setTile t (if s.inHandler t then { x with fenceH := f, ordNext := x.ordNext + 1 }
    else { x with fence := f, ordNext := x.ordNext + 1 })
  s.setFld (R.TA_SEQ_STATE t) seqHeld

/-- Perform an S slot whose guard holds. -/
def State.performS (s : State) (t : Tile) (i : SInsn) : State :=
  match i with
  | .nop => s
  | .wait _ _ => s
  | .fence k => s.setFence t k
  | .notice ch x => (s.hold t resSync 1).posts ch.toNat [(.tile t, s.x t x)]
  | .take ch x =>
    let r := (s.hold t resSync 1).takeNotice ch.toNat
    r.2.schedX t 1 x r.1
  | .swapBank => ((s.sched t 1 .bankSwap).setIssueAt t (s.active + 2)).noteSwap t (.slot none true)
  | .endOp => s.setTile t (if s.inHandler t then { s.tile t with endH := true } else { s.tile t with endIssued := true })

/-- An S slot issued alone: until its guard holds the tile is held (R142). -/
def State.runS (s : State) (t : Tile) (i : SInsn) : State :=
  if s.canIssue t && !s.guardHolds t i then s.setFld (R.TA_SEQ_STATE t) seqHeld
  else s.issueAlone t (fun u => u.checkS t i) (fun u => u.performS t i)

/-- SNOP: R137. -/
def execSnop (t : Tile) (s : State) : Out := .next (s.runS t .nop)

/-- WAIT: R137, R142, R150. -/
def execWait (t : Tile) (wc : Fin 16) (thr : BitVec 8) (s : State) : Out := .next (s.runS t (.wait wc thr))

/-- FENCE.L: R30. -/
def execFenceL (t : Tile) (s : State) : Out := .next (s.runS t (.fence .l))

/-- FENCE.D: R31. -/
def execFenceD (t : Tile) (s : State) : Out := .next (s.runS t (.fence .d))

/-- FENCE.F: R32. -/
def execFenceF (t : Tile) (set : Fin 16) (s : State) : Out := .next (s.runS t (.fence (.f set)))

/-- NOTICE: R137, R448. -/
def execNotice (t : Tile) (ch : BitVec 8) (x : XReg) (s : State) : Out := .next (s.runS t (.notice ch x))

/-- TAKE: R137, R450. -/
def execTake (t : Tile) (ch : BitVec 8) (x : XReg) (s : State) : Out := .next (s.runS t (.take ch x))

/-- SWAP_BANK: R157. -/
def execSwapBank (t : Tile) (s : State) : Out := .next (s.runS t .swapBank)

/-- END: R143. -/
def execEndOp (t : Tile) (s : State) : Out := .next (s.runS t .endOp)

/-- Does a range of device addresses touch the tile's own data SRAM, accumulators, shadow set or prompter memory (R30)? -/
def ownStore (t a len : Nat) : Bool :=
  let b := tileBase t
  touches a len b 0x80000 || touches a len (b + offAcc) (offRegs - offAcc)

/-- Does one of these spans of an operation reach the tile's own stores? -/
def State.atOwn (s : State) (t a len : Nat) : Bool := s.isLocal a && ownStore t (gDev a) len

/-- Does a transfer still have an access to the tile's own stores to perform (R30)? -/
def State.ownPending (s : State) (t : Nat) (y : Xfer) : Bool :=
  match y.phase with
  | .done => false
  | .waiting => false
  | .reading => s.atOwn t y.dst y.dstSpan
  | .queued => (y.op != .fill && s.atOwn t y.src y.srcSpan) || s.atOwn t y.dst y.dstSpan

/-- Seats that a waiting FENCE.F still needs: those of its set with an unacknowledged write issued before it. -/
def State.fenceSeats (s : State) (t set ord : Nat) : List Nat :=
  let x := s.tile t
  (((x.xfers.filter (fun y => decide (y.ord < ord) && !s.isLocal y.dst && y.phase != .done)).map (fun y => gSeat y.dst))
    ++ ((x.globals.filter (fun g => decide (g.ord < ord) && g.load.isNone && !g.bad && !s.isLocal g.addr)).map
      (fun g => gSeat g.addr))).filter (fun q => s.inSet set q)

/-- Has the tile nothing in flight that issued before `ord`? -/
def TileX.quietBefore (x : TileX) (ord : Nat) : Bool :=
  x.acts.all (fun a => decide (ord ≤ a.ord)) && x.jobs.all (fun j => decide (ord ≤ j.id)) && x.gathers.all (fun g => decide (ord ≤ g.id))

/-- Has every write and reduce-write issued before `ord` been performed, on this part or on another (R31)? -/
def TileX.writtenBefore (x : TileX) (ord : Nat) : Bool :=
  x.xfers.all (fun y => decide (ord ≤ y.ord) || y.phase == .done)
    && x.globals.all (fun g => decide (ord ≤ g.ord) || g.load.isSome || g.bad)

/-- Is a reduce-write that a master of this part made by REDUCE_WRITE still held for a buffer (R31, R271)? -/
def State.heldOf (s : State) (mid : Nat) : Bool :=
  s.te.any (fun p => p.2.heldRw.any (fun h => match h.owner with | .nobody m => m == mid | _ => false))

/-- The seats of the set that no route or relay reaches (R32). -/
def State.fenceGone (s : State) (set : Nat) : List Nat := (s.setSeats set).filter (fun q => decide (q ≠ s.mySeat) && !s.isLost q && !s.reachable q)

/-- What a fence waits for has come about (R30-R32): a FENCE.F ends too when a seat of its set is unreachable. -/
def State.fenceDone (s : State) (t : Nat) (k : FenceKind) (ord : Nat) : Bool :=
  let x := s.tile t
  match k with
  | .l => x.quietBefore ord && x.xfers.all (fun y => decide (ord ≤ y.ord) || !s.ownPending t y)
      && x.globals.all (fun g => decide (ord ≤ g.ord) || g.bad || !s.atOwn t g.addr 1)
  | .d => x.quietBefore ord && x.writtenBefore ord && !s.heldOf (tileMid t)
  | .f set => (s.fenceSeats t set.val ord).all (fun q => s.isLost q) || !(s.fenceGone set.val).isEmpty || (if s.inHandler t then x.cutH else x.cutF)

/-- Has the tile ended (R143)? -/
def State.hasEnded (s : State) (t : Nat) : Bool :=
  let x := s.tile t
  (if s.inHandler t then x.endH else x.endIssued) && x.trap.isNone && x.reexec.isNone && x.resumeAt.isNone
    && x.acts.isEmpty && x.jobs.isEmpty && x.gathers.isEmpty && x.busy.all (fun b => decide (b ≤ s.active))
    && (List.range 16).all (fun k => s.wc t k == 0)

/-- TILE_ENDED: R143. -/
def execTileEnded (t : Tile) (s : State) : Out :=
  if s.hasEnded t && decide (s.fld (R.TA_SEQ_STATE t) ≤ seqHeld) then .next (s.setFld (R.TA_SEQ_STATE t) seqEnded)
  else .next s

/-- The record of a trap (R191, R192): TA_PTRAP0 to TA_PTRAP3. -/
def State.fillTrap (s : State) (t : Nat) (r : TrapRec) : State :=
  let w0 := 2 ^ 63 + 2 ^ 62 + r.cause * 2 ^ 40 + r.elem * 2 ^ 32 + r.pt.bank * 2 ^ 31 + r.pt.rep * 2 ^ 13 + r.pt.bundle
  let w2 := b2n r.restart * 2 ^ 26 + s.fld (R.TA_SEQ_REPEAT_LEFT t) * 2 ^ 13 + s.fld (R.TA_SEQ_RESUME t)
  (((s.setReg (R.TA_PTRAP0 t) (BitVec.ofNat 64 w0)).setReg (R.TA_PTRAP1 t) r.addr).setReg (R.TA_PTRAP2 t)
    (BitVec.ofNat 64 w2)).setReg (R.TA_PTRAP3 t) (BitVec.ofNat 64 r.insn)

/-- Entering the handler, or the halt that stands in its place (R191, R194). -/
def State.enterTrap (s : State) (t : Nat) (r : TrapRec) : State :=
  let s := s.setTile t { s.tile t with trap := none }
  let halt := fun (c : Nat) => s.haltTile t c r.pt.bundle r.pt.rep slotP 0 r.elem r.addr.toNat
  if !s.bit (R.TA_PTVEC_EN t) then halt r.cause
  else if r.inHandler then halt 0x28
  else
    let st := s.fld (R.TA_SEQ_STATE t)
    let was := [R.TA_SEQ t, R.TA_PTRAP0 t, R.TA_PTRAP1 t, R.TA_PTRAP2 t, R.TA_PTRAP3 t].map (fun a => (a, s.reg a))
    let s : State := { s with now := { s.now with entered := (t, was) :: s.now.entered } }
    let s := ((s.fillTrap t r).setResume t (s.fld (R.TA_PTVEC_INDEX t))).setIssueAt t (s.active + 2)
    if st = seqStopped then s else s.setFld (R.TA_SEQ_STATE t) seqIssuing

/-- TRAP_ENTRY: a fault has reached its trap point (R191). A tile already halted takes no trap (R216). -/
def execTrapEntry (t : Tile) (s : State) : Out :=
  match (s.tile t).trap with
  | none => .next s
  | some r => if r.due ≤ s.active ∧ s.fld (R.TA_SEQ_STATE t) ≠ seqHalted then .next (s.enterTrap t r) else .next s

def State.glob? (s : State) (t id : Nat) : Option GlobAcc := (s.tile t).globals.find? (fun g => g.id == id)

/-- A global access completes (R150-R152, R173): a load writes its register in this cycle, zero where it failed; a failure
is recorded as the prompter's (R261). -/
def State.finishGlobal (s : State) (t : Nat) (g : GlobAcc) (v code : Nat) : State :=
  let s := match g.load with
    | some (k, rd) =>
      let w := if code = 0 then ldValue k v else 0
      if k.isF then s.commitReg t g.ord (R.TA_PF t rd) w (-1)
      else if rd = 0 then s else s.commitReg t g.ord (R.TA_PXN t (rd - 1)) w (-1)
    | none => s
  let s := if code = 0 then s else s.tileCause t 1 0 code g.addr
  (s.setTile t { s.tile t with globals := (s.tile t).globals.filter (fun y => decide (y.id ≠ g.id)) }).wcDec t 15

/-- May the access be performed now (R29, R374)? -/
def State.globMayGo (s : State) (t : Nat) (g : GlobAcc) : Bool := s.inOrder t g.ord g.spans

/-- GLOBAL_ACCESS_COMPLETE: the prompter's access at place `k` is performed on this part by the narrow path (R239), or sent to
its seat, whose answer completes it. -/
def execGlobalAccessComplete (t : Tile) (k : Fin 32) (ecc : EccFinding) (s : State) : Out :=
  match (s.tile t).globals[k.val]? with
  | none => .next s
  | some g =>
    let n := match g.load with | some (k, _) => ldSize k | none => g.bytes.length
    if g.bad then .next (s.finishGlobal t g 0 0x40)
    else if !g.sent && !s.globMayGo t g then .next s
    else if s.isLocal g.addr then
        let e := s.access ⟨tileMid t, gDev g.addr, n, if g.load.isSome then none else some g.bytes, 0, true, ecc, some g.ord⟩
        let code := if e.1.cause ≠ 0 then e.1.cause else if e.1.poison.isEmpty then 0 else 0x43
        .next (e.2.finishGlobal t g (ofLe e.1.data) code)
    else if g.sent then .next s
    else if s.isLost (gSeat g.addr) then .next (s.finishGlobal t g 0 0x65)
    else
      let s := s.setTile t { s.tile t with globals := (s.tile t).globals.map (fun y => if y.id = g.id then { y with sent := true } else y) }
      .next (s.sendReq (.glob t g.id) (if g.load.isSome then opReadReq else opWrite) (tileMid t) (gSeat g.addr) (gDev g.addr) 0 0
        g.bytes (g.bytes.map (fun _ => false)) n 0)

end Sys2Proof.Machine
end

