-- ==== Sys2Proof/Machine/FabLink.lean ====
section
/-!
DEFINITION. Machine/FabLink.lean: links of the fabric (R354-R374, R378): training, going down, flits, retry, tickets, the
arbiters and the router.
-/
namespace Sys2Proof.Machine

/-- A request of this part ends: with a code alone, or with the data of a READ_RESP (payload, poison of each byte, VERSION,
address). A failure of R377 or R378 sets the discard flag, but for the resilience engine's own (R377, R378, R261). -/
def State.reqDone (s : State) (r : FReq) (code : Nat) (resp : Option (List Byte × List Bool × Nat × Nat)) : State :=
  let s : State := { s with fab := { s.fab with reqs := s.fab.reqs.filter (fun q => q.tag != r.tag) } }
  match r.owner with
  | .xfer t id off => if r.op = opReadReq then s.xferRead t id off r.len resp code else s.xferAcked t id off code
  | .glob t id =>
    (match s.glob? t id with
    | none => s
    | some g =>
      match resp with
      | some (d, ps, _, _) => s.finishGlobal t g (ofLe d) (if code ≠ 0 then code else if ps.any id then 0x43 else 0)
      | none => s.finishGlobal t g 0 code)
  | .coll set num => s.collAck set num code r.dst
  | .resil j =>
    let s := match resp with
      | some (d, ps, _, _) => (s.moverWrite 5 r.rdst 0 false noEcc none (d.zip ps)).2
      | none => s
    { s with fab := { s.fab with resilDone := s.fab.resilDone ++ [(j, code)] } }
  | .permute => { s with fab := { s.fab with resilDone := s.fab.resilDone ++ [(jobPermute, code)] } }
  | .core n ld =>
    (match resp with
    | some (d, ps, _, _) => s.coreDone n ld (ofLe d) (if code ≠ 0 then code else if ps.any id then 0x43 else 0)
    | none => s.coreDone n ld 0 code)

/-- A dropped or timed-out packet of this seat completes with a code, and the discard flag is set; a dropped coordination packet fails its collective
(R378, R384, R385). -/
def State.reqLost (s : State) (tag code : Nat) : State :=
  match s.fab.reqs.find? (fun q => q.tag == tag) with
  | none => (match s.fab.ctls.find? (fun c => c.1 == tag) with
    | some c => s.collFail c.2.1 c.2.2 0
    | none => s)
  | some r =>
    let s := s.reqDone r code none
    if r.owner.isResil then s else { s with discardFlag := true }

/-- TAG of a packet of this seat whose loss its master learns of (R378). -/
def State.ownTag (s : State) (p : Pkt) : Option Nat :=
  if p.src = s.mySeat ∧ p.op ≠ opReadResp ∧ p.op ≠ opMgmt then some (p.tag % 2 ^ 15) else none

/-- A seat counts as lost here: what waits for it completes with SEAT_LOST (R154, R379), its collectives stop (R384). -/
def State.seatGone (s : State) (seat : Nat) : State :=
  let tags := (s.fab.reqs.filter (fun r => r.dst == seat)).map (fun r => r.tag)
  (tags.foldl (fun t g => t.reqLost g 0x65) s).collLost seat

/-- The booth reports a seat lost (R379). -/
def State.loseSeat (s : State) (seat : Nat) : State := if s.isLost seat then s else (s.reportLost seat).seatGone seat

/-- A seat of the job with no route and no relay from here is reported lost (R379): the route and relay its entries name, which `reroute` keeps
to whole paths. -/
def State.lostByRoute (s : State) : State :=
  s.job.seats.foldl (fun t q => if q = t.mySeat ∨ t.reachable q then t else t.loseSeat q) s

/-- Is the destination group held while a route entry's change waits (R374): a packet sent on the old route is not answered, or still queued at
a port? -/
def State.routeHeld (s : State) (dst : Nat) : Bool :=
  s.fab.routeHold.any (fun h => h.1 == dst / 16 && (h.2.any (fun t => s.fab.reqs.any (fun r => r.tag == t))
    || s.fab.ports.any (fun p => p.2.outq.any (fun o => o.pkt.dst / 16 == h.1) || p.2.going.any (fun o => o.out.pkt.dst / 16 == h.1))))

/-- A route entry of group `g` changes: new packets for it wait for every earlier one (R374). A packet that is never acknowledged counts as
sent once it has left its port's queue (DESIGN CHOICE: nothing tells this seat more). -/
def State.holdRoute (s : State) (g : Nat) : State :=
  let sentAlready := fun (r : FReq) => decide (r.dst / 16 = g) && !s.fab.inject.any (fun k => s.ownTag k == some r.tag)
  let tags := (s.fab.reqs.filter sentAlready).map (fun r => r.tag)
  let queued := s.fab.ports.any (fun p => p.2.outq.any (fun o => o.pkt.dst / 16 == g) || p.2.going.any (fun o => o.out.pkt.dst / 16 == g))
  { s with fab := { s.fab with
    routeHold := s.fab.routeHold.filter (fun h => h.1 != g) ++ (if tags = [] && !queued then [] else [(g, tags)]) } }

/-- Is a path whole at company position `q`: no seat of it is lost, and the link that this seat would leave by is up (R372)? -/
def State.pathWhole (s : State) (g : Nat) (path : List Nat) (q : Nat) : Bool :=
  let gone := fun (seat : Nat) => s.res.lost.contains seat || s.isLost seat
  let own := decide (s.ownPos < 8) && q == s.standsAt
  path.all (fun h => !gone (16 * h + q))
    && (if own then s.portUp (s.fld (R.FB_RT_PORT g)) else !gone (16 * s.ownGroup + q) && s.portUp (s.companyPort q))

/-- A VIA field takes a position; packets sent before are waited for (R374). -/
def State.setVia (s : State) (f : Fld) (g v : Nat) : State := if s.fld f = v then s else (s.setFld f v).holdRoute g

/-- The relays, after a loss or a change of this seat's links (R326, R372): a group whose path at the own torus position is not whole is reached by
the next position above whose path is whole; an understudy uses the positions above the one it stands at. -/
def State.reroutePaths (s : State) : State :=
  let p := s.standsAt
  s.job.paths.foldl (fun t e =>
    if t.ownPos < 8 && t.pathWhole e.1 e.2 p then t.setVia (R.FB_RT_VIA e.1) e.1 15
    else
      match ((List.range 8).map (fun i => (p + 1 + i) % 8)).find? (fun q => q != p && t.pathWhole e.1 e.2 q) with
      | none => t
      | some q => t.setVia (R.FB_RT_VIA e.1) e.1 q) s

/-- The relays inside the company (R370): a position whose own company port is down is reached through the next position above this seat's whose
link is up (DESIGN CHOICE: R372 gives the choice for FB_RT alone). -/
def State.rerouteCompany (s : State) : State :=
  if s.job.paths.isEmpty && s.job.seats.all (fun q => q / 16 != s.ownGroup) then s
  else
    let p := s.standsAt
    let gone := fun (q : Nat) => s.res.lost.contains (16 * s.ownGroup + q) || s.isLost (16 * s.ownGroup + q)
    (List.range 9).foldl (fun t d =>
      if d = t.ownPos then t
      else
        let f : Fld := ⟨R.FB_CPATH, 4 * d + 3, 4 * d⟩
        if t.portUp (t.companyPort d) then t.setVia f t.ownGroup 15
        else
          match ((List.range 8).map (fun i => (p + 1 + i) % 8)).find? (fun q => q != t.ownPos && q != d && !gone q && t.portUp (t.companyPort q)) with
          | none => t
          | some q => t.setVia f t.ownGroup q) s

def State.reroute (s : State) : State := s.reroutePaths.rerouteCompany

/-- Width bits of FB_PORT_STATUS (Table 12.11) and the lanes used, by R354. -/
def laneChoice (l : Nat) : Nat × Nat :=
  if l % 16 = 15 then (3, 15)
  else if l % 4 = 3 then (2, 3)
  else if l / 4 % 4 = 3 then (2, 12)
  else
    match [0, 1, 2, 3].find? (fun i => bitOf l i) with
    | some i => (1, 2 ^ i)
    | none => (0, 0)

/-- Clear a bit of FB_STATUS.UP and DEGRADED. -/
def State.portBits (s : State) (p : Nat) (up degraded : Bool) : State :=
  let put := fun (f : Fld) (b : Bool) (t : State) => t.setFld f (putBits (t.fld f) p p (b2n b))
  put R.FB_STATUS_DEGRADED degraded (put R.FB_STATUS_UP up s)

/-- Flits leave the buffer of VC `vc` of an input: their tickets go back (R368). -/
def State.freeFlits (s : State) (inp vc n : Nat) : State :=
  if 16 ≤ inp then s
  else
    let y := s.port inp
    s.setPort inp { y with ret := y.ret.set vc (y.ret.getD vc 0 + n) }

/-- Tickets of a packet that left the input buffer otherwise than by a port. -/
def State.freeInput (s : State) (inp vc : Nat) (k : Pkt) : State := s.freeFlits inp vc k.flits

/-- Does a control flit that came in wait at some port to go on? -/
def State.ctlWaits (s : State) (m : Ctl) : Bool := s.fab.ports.any (fun p => p.2.ctlq.any (fun q => ctlPasses m q.2))

/-- Control flits at level `hi` leave the input buffers of a port: their control tickets go back (R360). -/
def FPort.freeCtl (x : FPort) (l : List (Bool × Ctl)) : FPort :=
  { x with ctlRet := (x.ctlRet.1 + (l.filter (fun h => !h.1)).length, x.ctlRet.2 + (l.filter (fun h => h.1)).length) }

/-- The control flits that have gone on leave the buffers of the inputs they came by. -/
def State.settleCtl (s : State) : State :=
  (List.range 16).foldl (fun t p =>
    let x := t.port p
    if x.ctlHeld.isEmpty then t
    else
      t.setPort p (({ x with ctlHeld := x.ctlHeld.filter (fun h => t.ctlWaits h.2) } : FPort).freeCtl (x.ctlHeld.filter (fun h => !t.ctlWaits h.2)))) s

/-- A routed or flood control flit accepted by port `p` keeps its buffer while it waits to go on (R360). -/
def State.ctlTaken (s : State) (p : Nat) (hi : Bool) (m : Ctl) : State :=
  let x := s.port p
  if s.ctlWaits m then s.setPort p { x with ctlHeld := x.ctlHeld ++ [(hi, m)] } else s.setPort p (x.freeCtl [(hi, m)])

/-- Flits of VC `v` that stand in the input buffers of port `p`, or wait to leave by another port. -/
def State.heldFlits (s : State) (p v : Nat) : Nat :=
  (((s.port p).arrived.filter (fun a => a.1 == v)).map (fun a => a.2.flits)).sum
    + (s.fab.ports.map (fun q =>
        ((q.2.outq.filter (fun o => o.input == p && o.invc == v)).map (fun o => o.pkt.flits)).sum
          + (match q.2.going with | some g => if g.out.input == p && g.out.invc == v then g.bodies.length else 0 | none => 0))).sum

/-- A link leaves STATE 2 (R364, R367, R378): what was queued for it or held for retry is dropped (a packet queued here leaves the input
buffer it came by, whose peer gets its tickets back, R368), a partly received packet is discarded, tickets are gone; packets that arrived
whole and control flits that wait to go on stay, and the arbiter goes on from its last grant (R366). -/
def State.linkDrop (s : State) (p : Nat) : State :=
  let x := s.port p
  let tags := (x.outq.filterMap (fun o => s.ownTag o.pkt) ++ (x.going.bind (fun g => s.ownTag g.out.pkt)).toList ++ x.retry.filterMap Prod.snd).dedup
  let s := x.outq.foldl (fun t o => t.freeInput o.input o.invc o.pkt) s
  let s := match x.going with | some g => s.freeFlits g.out.input g.out.invc g.bodies.length | none => s
  let s := (s.setPort p { FPort.init with arrived := x.arrived, rr := x.rr, ctlHeld := x.ctlHeld }).settleCtl
  let s := (s.setReg (R.FB_TICKETS p) 0).portBits p false false
  let s := (s.setFld (R.FB_PORT_STATUS_LANES p) 0).setFld (R.FB_PORT_STATUS_WIDTH p) 0
  (tags.foldl (fun t g => t.reqLost g 0x60) s).fbEvent 0x60 p

/-- A port goes to another STATE; from STATE 2 its link goes down. -/
def State.portTo (s : State) (p st : Nat) : State :=
  let was := s.portUp p
  let s := s.setFld (R.FB_PORT_STATUS_STATE p) st
  if was then (s.linkDrop p).reroute.lostByRoute else s.setPort p { s.port p with attempts := 0 }

/-- The limits of R367 on a value of FB_BUDGET. -/
def budgetOk (v : Nat) : Bool :=
  let b := fun (i : Nat) => bitsOf v (8 * i + 7) (8 * i)
  decide (((List.range 8).map (fun i => 8 * b i)).foldl (· + ·) 0 ≤ 2048) && decide (16 ≤ b 0) && decide (16 ≤ b 1)

/-- Budget of VC `v` that port `p` grants its peer, in flits. -/
def State.budget (s : State) (p v : Nat) : Nat := 8 * bitsOf (s.reg (R.FB_BUDGET p)).toNat (8 * v + 7) (8 * v)

/-- FB_TICKETS from the tickets held. -/
def State.showTickets (s : State) (p : Nat) : State :=
  s.setReg (R.FB_TICKETS p) (BitVec.ofNat 64 ((s.port p).tk.zipIdx.foldl (fun a q => a + min 255 (q.1 / 8) * 2 ^ (8 * q.2)) 0))

/-- LINK_TRAINING: an attempt ends on a port that is training: the lanes that pass, the one-way delay in ps, and what the peer
tells (R354, R355, R364, R505; delay above 5 µs fails). -/
def execLinkTraining (p : Fin 16) (lanes : BitVec 4) (delay : BitVec 32) (peerSeat : BitVec 15) (peerPort : Fin 16)
    (peerNormal : Bool) (s : State) : Out :=
  if s.fld (R.FB_PORT_STATUS_STATE p) ≠ 1 then .next s
  else
    let c := laneChoice lanes.toNat
    let ok := decide (c.1 ≠ 0) && decide (delay.toNat ≤ 5000000) && (peerNormal == decide (s.modeCode = 1))
    let x := s.port p
    if !ok then
      let s := s.setPort p { x with attempts := x.attempts + 1 }
      if x.attempts + 1 < 3 then .next s
      else
        let s := (s.setFld (R.FB_PORT_STATUS_STATE p) 0).setPort p { s.port p with attempts := 0 }
        .next (if 5000000 < delay.toNat then s.fbEvent 0x60 p else s)
    else
      let s := ((s.setFld (R.FB_PORT_STATUS_STATE p) 2).setFld (R.FB_PORT_STATUS_LANES p) c.2).setFld (R.FB_PORT_STATUS_WIDTH p) c.1
      let s := (s.setFld (R.FB_PORT_STATUS_PEER_SEAT p) peerSeat.toNat).setFld (R.FB_PORT_STATUS_PEER_PORT p) peerPort
      let s := (s.setFld (R.FB_PORT_DELAY_PS p) delay.toNat).portBits p true (decide (c.1 ≠ 3))
      let s := s.setPort p { FPort.init with
        arrived := x.arrived, rr := x.rr, ctlHeld := x.ctlHeld, ret := (List.range 8).map (fun v => s.budget p v - s.heldFlits p v),
        ctlTk := (16, 16), heardAt := s.cycle }
      let s := s.showTickets p
      .next ((if c.1 ≠ 3 then s.fbEvent 0x61 p else s).fbEvent 0x69 p).reroute

/-- A write of FB_PORT_CFG: DATELINE, DISABLE and RETRAIN as the value gives them (R355, R364, Table 12.11). -/
def State.portCfgWrite (s : State) (p v : Nat) : State :=
  let was := s.bit (R.FB_PORT_CFG_DISABLE p)
  let s := (s.setFld (R.FB_PORT_CFG_DATELINE p) (bitsOf v 2 2)).setFld (R.FB_PORT_CFG_DISABLE p) (bitsOf v 1 1)
  let dis := bitOf v 1
  if dis && !was then s.portTo p 3
  else if !dis && was then s.portTo p 1
  else if bitOf v 0 && !dis then s.portTo p 1
  else s

/-- The value of FB_PORT_CFG with other bits. -/
def State.portCfg (s : State) (p : Nat) (disable retrain : Bool) : Nat :=
  4 * s.fld (R.FB_PORT_CFG_DATELINE p) + 2 * b2n disable + b2n retrain

/-- PORT_DISABLE: R355. -/
def portDisableRow (p : Fin 16) (s : State) : Out := .next (s.portCfgWrite p (s.portCfg p true false))

/-- PORT_ENABLE: R355. -/
def execPortEnable (p : Fin 16) (s : State) : Out := .next (s.portCfgWrite p (s.portCfg p false false))

/-- RETRAIN: R364; no effect on a disabled port. -/
def retrainRow (p : Fin 16) (s : State) : Out :=
  .next (s.portCfgWrite p (s.portCfg p (s.bit (R.FB_PORT_CFG_DISABLE p)) true))

/-- Sequence number of the last flit received in order. -/
def FPort.ackNow (x : FPort) : Nat := (x.rxSeq + 4095) % 4096

/-- A flit goes out and into the retry buffer (R363). -/
def State.sendFlit (s : State) (p vc : Nat) (sop eop : Bool) (body : FlitBody) (tag : Option Nat) : State :=
  let x := s.port p
  let f : Flit := ⟨x.txSeq, x.ackNow, vc, sop, eop, true, body⟩
  (s.setPort p { x with txSeq := (x.txSeq + 1) % 4096, retry := x.retry ++ [(f, tag)] }).send (.flit p (flitBytes f))

/-- A RETRY flit naming the expected SEQ (R363, Table 12.11). -/
def State.askRetry (s : State) (p : Nat) : State :=
  let x := s.port p
  let s := s.setPort p { x with asked := true, askedAt := s.cycle, ctlq := x.ctlq ++ [(0, Ctl.retry x.rxSeq)] }
  s.countFld (R.FB_PORT_ERR1_RETRIES p) 1

/-- A discarded flit asks for RETRY once, until the expected SEQ arrives or 2 µs pass. -/
def State.refuseFlit (s : State) (p : Nat) : State := if (s.port p).asked then s else s.askRetry p

/-- ACK `a` frees flits up to it: those at a distance of at most half the SEQ space behind it. -/
def ackedBy (a seq : Nat) : Bool := decide ((a + 4096 - seq) % 4096 < 2048)

/-- A port receives a flit (R362, R363): the state, and the control message it accepts. -/
def State.flitIn (s : State) (p : Nat) (f : Flit) (fecCorr fecUncorr : Nat) : State × Option Ctl :=
  let s := (s.countFld (R.FB_PORT_ERR0_FEC_CORR p) fecCorr).countFld (R.FB_PORT_ERR0_FEC_UNCORR p) fecUncorr
  if !f.good then ((s.countFld (R.FB_PORT_ERR1_CRC p) 1).refuseFlit p, none)
  else
    let x := s.port p
    let s := s.setPort p { x with retry := x.retry.filter (fun q => !ackedBy f.ack q.1.seq), heardAt := s.cycle }
    let x := s.port p
    if f.seq ≠ x.rxSeq then (s.refuseFlit p, none)
    else
      let x := { x with rxSeq := (x.rxSeq + 1) % 4096, asked := false }
      match f.body with
      | .ctl m => (s.setPort p x, some m)
      | .cls _ =>
        let part := if f.sop then [f] else x.part ++ [f]
        if f.eop then
          let bytes := part.flatMap (fun q => match q.body with | .cls b => b | .ctl _ => [])
          (s.setPort p { x with part := [], arrived := x.arrived ++ [(f.vc, Pkt.ofBytes bytes)] }, none)
        else (s.setPort p { x with part := part }, none)

/-- A RETRY of the peer (R363, R364): everything from that SEQ is resent in order; RETRY_MAX in a row for one SEQ take the link
down. -/
def State.retryIn (s : State) (p seq : Nat) : State :=
  let x := s.port p
  let run := if x.retrySeq = some seq then x.retryRun + 1 else 1
  if s.fld R.FB_CTL_RETRY_MAX ≤ run then (s.fbEvent 0x62 p).portTo p 1
  else
    let again := x.retry.filter (fun q => !ackedBy ((seq + 4095) % 4096) q.1.seq)
    let fs := again.map (fun q => (resentFlit q.1 x.ackNow, q.2))
    let s := s.setPort p { x with
      retrySeq := some seq, retryRun := run,
      retry := x.retry.filter (fun q => ackedBy ((seq + 4095) % 4096) q.1.seq) ++ fs }
    fs.foldl (fun t q => t.send (.flit p (flitBytes q.1))) s

/-- RETRY: a RETRY flit arrives on port `p`. -/
def retryRow (p : Fin 16) (seq : BitVec 12) (s : State) : Out :=
  .next (if s.portUp p then s.retryIn p seq.toNat else s)

/-- RETRY_TIMEOUT: 2 µs (3000 cycles of 1.5 GHz) have gone since our RETRY (R363). -/
def execRetryTimeout (p : Fin 16) (s : State) : Out :=
  let x := s.port p
  .next (if s.portUp p ∧ x.asked ∧ x.askedAt + 3000 ≤ s.cycle then s.askRetry p else s)

/-- LINK_IDLE_TIMEOUT: no valid flit for 10 µs, 15000 cycles (R364). -/
def linkIdleTimeoutRow (p : Fin 16) (s : State) : Out :=
  .next (if s.portUp p ∧ (s.port p).heardAt + 15000 ≤ s.cycle then s.portTo p 1 else s)

/-- Tickets the peer returns (R368). -/
def State.ticketsIn (s : State) (p : Nat) (vcs : List Nat) (lo hi : Nat) : State :=
  let x := s.port p
  (s.setPort p { x with tk := (List.range 8).map (fun v => x.tk.getD v 0 + vcs.getD v 0 % 2 ^ 16),
                        ctlTk := (x.ctlTk.1 + lo % 256, x.ctlTk.2 + hi % 256) }).showTickets p

/-- TICKETS: R368. -/
def execTickets (p : Fin 16) (vcs : List (BitVec 16)) (lo hi : BitVec 8) (s : State) : Out :=
  .next (if s.portUp p then s.ticketsIn p (vcs.map BitVec.toNat) lo.toNat hi.toNat else s)

/-- TICKET_RETURN: what waits to be returned leaves in one TICKETS flit (R368). -/
def execTicketReturn (p : Fin 16) (s : State) : Out :=
  let x := s.port p
  if !s.portUp p || (x.ret.all (fun n => n == 0) && x.ctlRet == (0, 0)) then .next s
  else .next (s.setPort p { x with ret := List.replicate 8 0, ctlRet := (0, 0),
                                   ctlq := x.ctlq ++ [(0, .tickets x.ret x.ctlRet.1 x.ctlRet.2)] })

/-- IDLE: R359, R364. -/
def execIdle (p : Fin 16) (s : State) : Out :=
  .next (if s.portUp p then s.setPort p { s.port p with heardAt := s.cycle } else s)

/-- Flit bodies of a packet: 48 header bytes and up to 200 of payload first, then up to 248 each (R357). -/
def flitBodies (fuel : Nat) (l : List Byte) : List (List Byte) :=
  match fuel with
  | 0 => []
  | f + 1 => if l.length ≤ 248 then [l] else l.take 248 :: flitBodies f (l.drop 248)

/-- The next flit of the packet that port `p` is sending leaves, and with it the buffer it stood in (R366, R368). -/
def State.sendNext (s : State) (p : Nat) (g : Leaving) : State :=
  match g.bodies with
  | [] => s.setPort p { s.port p with going := none }
  | b :: r =>
    let s := s.setPort p { s.port p with going := if r.isEmpty then none else some { g with bodies := r, first := false } }
    (s.freeFlits g.out.input g.out.invc 1).sendFlit p g.out.vc g.first r.isEmpty (.cls b) (s.ownTag g.out.pkt)

/-- The C3 packet of the oldest outgoing notice, if its route leaves by `p` (R452). -/
def State.noticePkt (s : State) (p : Nat) : Option OutPkt :=
  match s.cbOut with
  | [] => none
  | (dst, ch, v) :: _ =>
    if s.routeHeld dst then none else
    match s.route dst 16 0 with
    | some (q, l, rel) =>
      if q = p then some ⟨17, 0, 6 + l,
        ⟨opMgmt, dst, 0, s.mySeat, 0, rel, 0, 0, 0, 0, 0, 0, 15, leBytes (0x4E + 256 * ch) 8 ++ leBytes v.toNat 8⟩⟩ else none
    | none => none

/-- The oldest notice packet leaves; the places that this cycle's posts to outgoing channels have taken stand (R451, R452). -/
def State.noticeLeaves (s : State) : State :=
  { s with cbOut := s.cbOut.drop 1, now := { s.now with turns := s.now.turns.filter (fun x => x.slots.isEmpty) } }

/-- The class packet the arbiter of port `p` grants (R366): the lowest class with a packet ready, round-robin over its two VCs
and the inputs; 17 is the callboard's queue. -/
def State.grant (s : State) (p : Nat) : Option OutPkt :=
  let x := s.port p
  let all := x.outq ++ (s.noticePkt p).toList
  let ready := fun (o : OutPkt) => decide (o.pkt.flits ≤ x.tk.getD o.vc 0)
  let first := fun (vc inp : Nat) => all.find? (fun o => o.vc == vc && o.input == inp)
  let at' := fun (c i : Nat) => (first (2 * c + i / 18) (i % 18)).filter ready
  (List.range 4).findSome? (fun c => (roundRobin 36 x.rr (fun i => (at' c i).isSome)).bind (at' c))

/-- The control flit a port sends next (R360): link control first, then routed and flood flits that hold a control ticket. -/
def FPort.nextCtl (x : FPort) : Option (Nat × Ctl) :=
  (x.ctlq.find? (fun q => q.1 == 0)).or
    (x.ctlq.find? (fun q => (q.1 == 1 && decide (0 < x.ctlTk.1)) || (q.1 == 2 && decide (0 < x.ctlTk.2))))

/-- The packet a port's arbiter grants takes its tickets, and its first flit leaves (R366, R367). -/
def State.startPkt (s : State) (p : Nat) (o : OutPkt) : State :=
  let s := if o.input = 17 then s.noticeLeaves else s
  let x := s.port p
  let s := s.setPort p { x with outq := x.outq.erase o, tk := x.tk.set o.vc (x.tk.getD o.vc 0 - o.pkt.flits),
                                rr := (o.vc % 2 * 18 + o.input + 1) % 36 }
  (s.sendNext p ⟨o, flitBodies 18 o.pkt.toBytes, true⟩).showTickets p

/-- PACKET_GRANT: port `p` sends one flit: its next control flit, else the next of the packet it is sending, else the first of the packet its arbiter
grants (R360, R363, R366, R367, R368). With its retry buffer full it sends nothing but control flits (R363). -/
def execPacketGrant (p : Fin 16) (s : State) : Out :=
  if !s.portUp p then .next s
  else
    let x := s.port p
    match x.nextCtl with
    | some c =>
      let tk := if c.1 = 1 then (x.ctlTk.1 - 1, x.ctlTk.2) else if c.1 = 2 then (x.ctlTk.1, x.ctlTk.2 - 1) else x.ctlTk
      .next (((s.setPort p { x with ctlq := x.ctlq.erase c, ctlTk := tk }).sendFlit p 0 false false (.ctl c.2) none).settleCtl)
    | none =>
      if 1024 ≤ x.retry.length then .next s
      else
        match x.going, s.grant p with
        | some g, _ => .next (s.sendNext p g)
        | none, some o => .next (s.startPkt p o)
        | none, none => .next s

/-- A packet bound for this seat: notices go straight to the callboard (R452), the rest wait for their endpoint; the message of any other C3 packet
acts when its booth runs it, as the command of that message. A seat that has left its job
takes none (R485). -/
def State.consume (s : State) (k : Pkt) : State :=
  if s.res.left then s
  else if k.op = opMgmt then
    let w := ofLe (k.data.take 8)
    if w % 256 = 0x4E then s.post (w / 256 % 256) (.ingress (BitVec.ofNat 15 k.src)) (BitVec.ofNat 64 (ofLe ((k.data.drop 8).take 8)))
    else s
  else { s with fab := { s.fab with inbox := s.fab.inbox ++ [k] } }

/-- A packet dropped at the router: one of this seat waits for R377. -/
def State.dropPkt (s : State) (inp vc code : Nat) (k : Pkt) : State := (s.freeInput inp vc k).fbEvent code k.dst

/-- A pool port carries only packets whose source or destination is the seat at the other end of its link (R371). -/
def State.poolBars (s : State) (p : Nat) (k : Pkt) : Bool :=
  decide (14 ≤ p) && k.dst != s.fld (R.FB_PORT_STATUS_PEER_SEAT p) && k.src != s.fld (R.FB_PORT_STATUS_PEER_SEAT p)

/-- The router takes packet `k` from `inp` at `vc` (R369-R373, R353). -/
def State.routePkt (s : State) (inp vc : Nat) (k : Pkt) : State :=
  if k.dst = s.mySeat then (s.freeInput inp vc k).consume k
  else if inp ≠ 16 ∧ (9 ≤ s.ownPos ∨ (k.dst / 16 = s.ownGroup ∧ 8 < k.dst % 16)) then s.dropPkt inp vc 0x68 k
  else if inp ≠ 16 ∧ k.relayed ∧ !s.bit R.FB_CTL_RELAY_EN then s.dropPkt inp vc 0x63 k
  else
    match s.route k.dst inp (vc % 2) with
    | none => s.dropPkt inp vc 0x63 k
    | some (p, l, rel) =>
      if !s.portUp p || s.poolBars p k then s.dropPkt inp vc 0x63 k
      else
        let k := { k with relayed := k.relayed || rel }
        let x := s.port p
        s.setPort p { x with outq := x.outq ++ [⟨inp, vc, 2 * k.cls + l, k⟩] }

/-- PACKET_ROUTE: the router takes the oldest packet of an input port, or (16) the oldest of this part, whose group is not held
(R369-R374). -/
def execPacketRoute (input : Fin 17) (s : State) : Out :=
  if input.val = 16 then
    match s.fab.inject.find? (fun k => !s.routeHeld k.dst) with
    | none => .next s
    | some k => .next (({ s with fab := { s.fab with inject := s.fab.inject.erase k } } : State).routePkt 16 0 k)
  else
    match (s.port input).arrived.find? (fun a => !s.routeHeld a.2.dst) with
    | none => .next s
    | some a =>
      .next ((s.setPort input { s.port input with arrived := (s.port input).arrived.erase a }).routePkt input a.1 a.2)

end Sys2Proof.Machine
end

