-- ==== Sys2Proof/Machine/FabIn.lean ====
section
/-!
DEFINITION. Machine/FabIn.lean: fabric ingress and the answers to what this part sent (R358, R375-R377, R381).
-/
namespace Sys2Proof.Machine

/-- Is an earlier reduce-write of the packet's master to one of its granules held for a buffer (R29, R271)? -/
def State.heldBefore (s : State) (k : Pkt) : Bool :=
  s.te.any (fun p => p.2.heldRw.any (fun h => match h.owner with
    | .remote seat mid _ => seat == k.src && mid == k.mid && shareGranule h.addr h.data.length k.addr k.span
    | _ => false))

/-- The oldest packet of one operation that may be performed: none of the same master for the same granule came before it. -/
def State.firstAfter (s : State) (op : Nat) : List Pkt → List Pkt → Option Pkt
  | _, [] => none
  | before, k :: rest =>
    if k.op == op && !before.any (fun q => q.sameGranule k) && !(k.isAccess && s.heldBefore k) then some k
    else s.firstAfter op (k :: before) rest

/-- The packet of one operation that ingress performs next: the oldest that R29 and R374 do not make wait. -/
def State.firstIn (s : State) (op : Nat) : Option Pkt := s.firstAfter op [] s.fab.inbox

def State.takeIn (s : State) (k : Pkt) : State := { s with fab := { s.fab with inbox := s.fab.inbox.erase k } }

/-- The payload with its poison by PMASK (R358). -/
def Pkt.bytes (k : Pkt) : List PByte := k.data.zipIdx.map (fun b => (b.1, bitOf k.pmask ((k.addr % 32 + b.2) / 32)))

/-- The MID every arriving packet is checked and performed with, whoever sent it: fabric ingress (R376). -/
def ingressMid : Nat := 0x20

/-- `n` bytes of permuted items are in (BK_PERMUTE). -/
def State.permuteLess (s : State) (n : Nat) : State := s.setFld R.BK_PERMUTE_BYTES_LEFT (s.fld R.BK_PERMUTE_BYTES_LEFT - n)

/-- Permuted bytes that arrive in a new copy, written or added by XOR, are no longer awaited (R344, R346). -/
def State.permuteIn (s : State) (k : Pkt) : State :=
  if s.job.incoming.any (fun r => decide (r.1 ≤ k.addr) && decide (k.addr + k.data.length ≤ r.1 + r.2)) then s.permuteLess k.data.length else s

/-- Write a packet's payload and acknowledge it. A request of another seat is performed by the normal path: no packet carries NARROW
(DESIGN CHOICE for R237: Table 12.3 has no field for it, and the manual names no other way). -/
def State.ingressWrite (s : State) (k : Pkt) (ecc : EccFinding) : State :=
  let w := (s.permuteIn k).moverWriteN ingressMid k.addr k.hint false ecc none k.bytes
  w.2.ackTo k.src k.mid k.tag w.1.2 (firstCause w.1.1)

/-- WRITE: the oldest WRITE at ingress is checked, performed with its poison and acknowledged (R358, R375, R376). -/
def execWrite (ecc : EccFinding) (s : State) : Out :=
  match s.firstIn opWrite with
  | none => .next s
  | some k => .next ((s.takeIn k).ingressWrite k ecc)

/-- A reduce-write at ingress goes to its home; it is acknowledged once added (R280, R375). -/
def State.ingressReduce (s : State) (k : Pkt) (xor : Bool) (ecc : EccFinding) : State :=
  let o := RwOwner.remote k.src k.mid k.tag
  let r := (if xor then s.permuteIn k else s).reduceWrite false ⟨ingressMid, k.addr, k.fmt, xor, k.data, k.bytes.map Prod.snd, ecc, o⟩
  if r.1.held then r.2
  else r.2.reduceAck o k.addr r.1.done r.1.cause

/-- RWRITE_ADD: R375, R278. -/
def execRwriteAdd (ecc : EccFinding) (s : State) : Out :=
  match s.firstIn opRwAdd with
  | none => .next s
  | some k => .next ((s.takeIn k).ingressReduce k false ecc)

/-- RWRITE_XOR: R375, R278. -/
def execRwriteXor (ecc : EccFinding) (s : State) : Out :=
  match s.firstIn opRwXor with
  | none => .next s
  | some k => .next ((s.takeIn k).ingressReduce k true ecc)

/-- READ_REQ: the oldest read request at ingress is performed, by the normal path (R237, as of writes), and answered by one READ_RESP
(R255, R337, R358, R375, R376). `rdst` is the requester's destination address, which the response carries. -/
def execReadReq (rdst : BitVec 44) (ecc : EccFinding) (s : State) : Out :=
  match s.firstIn opReadReq with
  | none => .next s
  | some k =>
    let n := k.lenm1 + 1
    let r := (s.takeIn k).moverRead ingressMid k.addr n k.hint false ecc
    let c := firstCause r.1.2.1
    let data := if c = 0x40 ∨ c = 0x41 then List.replicate n 0 else r.1.1.map (fun b => b.val)
    let psn := r.1.1.map (fun b => b.psn)
    let ver := (r.1.2.2.head?.map Prod.fst).getD 0
    .next (r.2.injectPkt ⟨opReadResp, k.src, rdst.toNat, s.mySeat, k.mid, false, 0, 0, k.tag, ver, c,
      pmaskOf rdst.toNat psn, k.lenm1, data⟩)

/-- An answer that names no outstanding request (R377). -/
def State.stray (s : State) : State := s.countFld R.FB_STATUS_STRAY 1

/-- READ_RESP: the oldest read response at ingress completes its request (R375, R377, R358). -/
def readRespRow (s : State) : Out :=
  match s.firstIn opReadResp with
  | none => .next s
  | some k =>
    let s := s.takeIn k
    match s.fab.reqs.find? (fun r => r.tag == k.tag % 2 ^ 15 && r.op == opReadReq) with
    | none => .next s.stray
    | some r => .next (s.reqDone r k.code (some (k.data, k.bytes.map Prod.snd, k.version, r.addr)))

/-- One acknowledgement record at its requester (R375, R377). -/
def State.ackRecord (s : State) (r : AckRec) : State :=
  match s.fab.reqs.find? (fun q => q.tag == r.tag % 2 ^ 15 && q.op != opReadReq) with
  | none => s.stray
  | some q => if r.srcSeat = s.mySeat then s.reqDone q r.code none else s.stray

/-- A routed control flit that came in on port `p` for another seat goes on (R359, R370); a pool seat forwards nothing (R371). -/
def State.ctlForward (s : State) (p : Nat) (hi : Bool) (dst : Nat) (m : Ctl) : State :=
  if 9 ≤ s.ownPos then s else
  match s.route dst p (b2n hi) with
  | some (q, l, _) => if s.portUp q then s.ctlOut q (1 + l) m else s
  | none => s

/-- ACK: acknowledgement records arrive on port `p`, at level `hi` (R375); those for another seat are passed on. -/
def State.ackIn (s : State) (p : Nat) (hi : Bool) (dst : Nat) (recs : List AckRec) : State :=
  if dst = s.mySeat then recs.foldl (fun t r => t.ackRecord r) s else s.ctlForward p hi dst (.ack dst recs)

def ackRow (p : Fin 16) (hi : Bool) (dst : BitVec 15) (recs : List AckRec) (s : State) : Out :=
  .next (s.ackIn p hi dst.toNat recs)

/-- RESP_TIMEOUT: a request has gone RESP_TIMEOUT cues without an answer (R377). -/
def respTimeoutRow (tag : BitVec 15) (s : State) : Out :=
  match s.fab.reqs.find? (fun r => r.tag == tag.toNat) with
  | none => .next s
  | some r =>
    if r.sent + s.fld R.FB_CTL_RESP_TIMEOUT ≤ s.cue then .next ((s.fbEvent 0x64 r.dst).reqLost tag.toNat 0x64)
    else .next s

/-- COLL_DATA: the oldest collective packet at ingress is written where it says and, if it is a piece of a share, joins its
collective (R375, R380-R383). -/
def execCollData (m : CollPiece) (ecc : EccFinding) (s : State) : Out :=
  match s.firstIn opCollData with
  | none => .next s
  | some k =>
    let s := (s.takeIn k).ingressWrite k ecc
    match s.run? m.set m.num with
    | some r =>
      if ceOp r.desc = cePermute ∨ r.malformed then .next s
      else if r.begun then
        let p := s.cePiece r m k.bytes
        .next (p.2.putRun p.1)
      else .next { s with fab := { s.fab with early := s.fab.early ++ [(m, k)] } }
    | none => .next { s with fab := { s.fab with early := s.fab.early ++ [(m, k)] } }

/-- COLL_CTRL: the oldest coordination packet at ingress: its sender has posted, or tells of a failure (R380, R384). -/
def execCollCtrl (set : Fin 16) (num : Nat) (s : State) : Out :=
  match s.firstIn opCollCtrl with
  | none => .next s
  | some k => .next (if k.data.headD 0 = 1 then (s.takeIn k).collStopped set num else (s.takeIn k).collCtrl set num k.src)

end Sys2Proof.Machine
end

