-- ==== Sys2Proof/Machine/FohQp.lean ====
section
/-!
DEFINITION. Machine/FohQp.lean: QPs of the front-of-house ports (R399-R404, R413-R416, R420): errors, acknowledgements,
congestion, connection.
-/
namespace Sys2Proof.Machine

/-- (a − b) modulo 2²⁴, the arithmetic of PSNs. -/
def sub24 (a b : Nat) : Nat := (a + 2 ^ 24 - b % 2 ^ 24) % 2 ^ 24

/-- The message of a request that is kept until acknowledged. -/
def QpSent.msg (r : QpSent) : RoceMsg :=
  match r.kind with
  | 0 => .write r.psn r.va r.rkey r.data none
  | 1 => .write r.psn r.va r.rkey r.data (some r.imm)
  | 2 => .readReq r.psn r.va r.rkey r.len
  | _ => .send r.psn r.data

/-- PSNs a request takes: one per packet of the path MTU; a READ one per response packet. -/
def QpSent.psns (r : QpSent) (mtu : Nat) : Nat := max 1 ((r.len + mtu - 1) / mtu)

/-- Requests of a STORE session move to another connected QP of it (R416). -/
def State.moveSent (s : State) (q : Qp) : State :=
  match s.qpList.find? (fun o => o.session == q.session && o.requester && o.connected && !o.error && o.qpn != q.qpn
      && s.bit (R.FH_PORT_STATUS_UP o.port)) with
  | none => s
  | some o =>
    let s := s.setQp { q with sent := [] }
    q.sent.foldl (fun t r => match t.qp? o.qpn with
      | some o => t.qpRequest o r (fun p => ({ r with psn := p } : QpSent).msg) (r.psns o.mtu)
      | none => t) s

/-- A QP enters the error state (R402, R404, R406, R420): it counts as connected no more, and none of its requests leaves; a STORE
session's requests are
retried on another QP. -/
def State.qpError (s : State) (q : Qp) : State :=
  if q.error then s
  else
    let s := if q.connected then s.setFld (R.FH_SESS_STATUS_QPS q.session) (s.fld (R.FH_SESS_STATUS_QPS q.session) - 1) else s
    let q := { q with error := true, connected := false, writing := none }
    let s := (s.setQp q).unsend q
    if q.requester then s.moveSent q else s.setQp { q with sent := [] }

/-- A NAK moves the responder QP to the error state (R406). -/
def State.nak (s : State) (q : Qp) (psn syndrome : Nat) : State := (s.sendRoce q (.ack psn syndrome)).qpError q

/-- A frame that no service consumes, or that no buffer takes (R395, R397). -/
def State.dropFrame (s : State) (p : Nat) : State := s.countFld (R.FH_PORT_DROP_COUNT p) 1

/-- PFC for ROCE_PRIO: when its buffer reaches XOFF, and when it falls to XON (R397). -/
def State.pfcCheck (s : State) (p : Nat) : State :=
  let x := s.fhPort p
  let roce := s.fld (R.FH_PORT_CFG_ROCE_PRIO p)
  if s.bit (R.FH_PORT_CFG_PFC_EN p) && decide (s.fld (R.FH_PORT_PFC_XOFF p) ≤ x.roceOcc) && !x.xoffSent then
    (s.setFhPort p { x with xoffSent := true, pfcAt := s.timeNs }).send (.frame p (.pfc roce 0xFFFF))
  else if x.xoffSent && decide (x.roceOcc ≤ s.fld (R.FH_PORT_PFC_XON p)) then
    (s.setFhPort p { x with xoffSent := false }).send (.frame p (.pfc roce 0))
  else s

/-- The priority of a received frame: its PCP, 0 where it is untagged (R396). -/
def rxPrio (f : RxFrame) : Nat := f.pcp.elim 0 Fin.val

/-- A frame comes into a port's receive buffer: 8 MiB for ROCE_PRIO, 256 KiB for all other priorities; one above 9216 bytes, or that its buffer
does not hold, is dropped and counted (R395-R397). -/
def State.rxFrame (s : State) (p : Nat) (f : RxFrame) : Bool × State :=
  let x := s.fhPort p
  let roce := rxPrio f == s.fld (R.FH_PORT_CFG_ROCE_PRIO p)
  let occ := (if roce then x.roceOcc else x.restOcc) - f.drain
  let fits := decide (f.len ≤ 9216) && decide (occ + f.len ≤ (if roce then 2 ^ 23 else 2 ^ 18))
  let occ := if fits then occ + f.len else occ
  let s := (s.setFhPort p (if roce then { x with roceOcc := occ } else { x with restOcc := occ })).pfcCheck p
  (fits, if fits then s else s.dropFrame p)

/-- A packet marked CE: a CNP to the peer, at most once per 50 µs per QP (R414). -/
def State.cnpSend (s : State) (q : Qp) : State :=
  if (match q.lastCnp with | none => true | some c => decide (c + 50000 ≤ s.timeNs)) then
    (s.setQp { q with lastCnp := some s.timeNs }).sendRoce q .cnp
  else s

/-- What every arriving packet does before its verb: a QP that is not connected, a frame that no buffer takes and a bad ICRC drop it; then CNP.
The QP, where the packet was not dropped, is handed on with the state. -/
def State.roceIn (s : State) (k : RocePkt) : Option Qp × State :=
  match s.qp? k.qpn.toNat with
  | none => (none, s)
  | some q =>
    if !s.bit (R.FH_PORT_STATUS_UP q.port) then (none, s)
    else
      let r := s.rxFrame q.port k.frame
      if !r.1 || !k.icrc || !q.connected || q.error then (none, r.2)
      else
        let s := if k.ce then r.2.cnpSend q else r.2
        (s.qp? q.qpn, s)

/-- A request packet in PSN order; a STORE session's QP answers NAK Invalid Request (R416); a repeated PSN is acknowledged
again; a gap is answered NAK PSN Sequence Error. -/
def State.request (s : State) (k : RocePkt) (act : Qp → State → State) : State :=
  match s.roceIn k with
  | (none, s) => s
  | (some q, s) =>
    if q.requester then s.nak q k.psn.toNat 0x61
    else
      let d := sub24 k.psn.toNat q.epsn
      if d = 0 then act q s
      else if d < 2 ^ 23 then s.sendRoce q (.ack q.epsn 0x60)
      else s.sendRoce q (.ack (sub24 q.epsn 1) 0)

/-- SEND: NAK Invalid Request (R400). -/
def execSend (k : RocePkt) (s : State) : Out := .next (s.request k (fun q t => t.nak q k.psn.toNat 0x61))

/-- ATOMIC: NAK Invalid Request (R400). -/
def execAtomic (k : RocePkt) (s : State) : Out := .next (s.request k (fun q t => t.nak q k.psn.toNat 0x61))

/-- At `now`, requests acknowledged by PSN `p` leave; a READ is acknowledged by its data. -/
def Qp.acked (q : Qp) (p now : Nat) : Qp :=
  { q with
    sent := q.sent.filter (fun r => r.kind == 2 || decide (2 ^ 23 ≤ sub24 p (r.psn + r.psns q.mtu - 1))), retries := 0, ackAt := now }

/-- Everything not acknowledged is sent again; what of it had not left yet leaves once. -/
def State.resend (s : State) (q : Qp) : State := q.sent.foldl (fun t r => t.sendRoce q r.msg) (s.unsend q)

/-- One more retry: after seven the QP enters error (R402). -/
def State.retryQp (s : State) (q : Qp) : State :=
  if 7 ≤ q.retries then s.qpError q else (s.setQp { q with retries := q.retries + 1, ackAt := s.timeNs }).resend q

/-- RC_ACK: an ACK, an RNR NAK or a NAK for requests the part sent (R402, R413). -/
def execRcAck (k : RocePkt) (syndrome : BitVec 8) (s : State) : Out :=
  match s.roceIn k with
  | (none, s) => .next s
  | (some q, s) =>
    let y := syndrome.toNat
    if y < 0x20 then .next (s.setQp { q.acked k.psn.toNat s.timeNs with rnr := false })
    else if y < 0x40 then
      -- RNR: the host has no receive buffer; after the retries notification stops until STS_CI is written
      let q := { q with rnr := true }
      if 7 ≤ q.retries then
        let s := s.setQp { q with sent := q.sent.filter (fun r => r.kind != 3), retries := 0 }
        .next { s with host := { s.host with mute := (s.host.mute ++ [q.session]).dedup } }
      else .next ((s.setQp { q with retries := q.retries + 1, ackAt := s.timeNs }).resend q)
    else if y = 0x60 then
      let q := q.acked (sub24 k.psn.toNat 1) s.timeNs
      .next ((s.setQp q).resend q)
    else .next (s.qpError q)

/-- The requester's timeout: 4.096 µs × 2^ACK_TO, in ns (R402). -/
def State.ackTimeout (s : State) : Nat := 4096 * 2 ^ s.fld R.FH_RC_ACK_TO

/-- RC_TIMEOUT: the requester's timeout has passed (R402). -/
def execRcTimeout (qpn : BitVec 24) (s : State) : Out :=
  match s.qp? qpn.toNat with
  | none => .next s
  | some q =>
    if q.sent.isEmpty || q.error || !q.connected || decide (s.timeNs < q.ackAt + s.ackTimeout) then .next s else .next (s.retryQp q)

/-- CNP: the QP's rate is cut, at most once per 50 µs (R415). Rates are in 256ths of a Gb/s. -/
def execCnp (k : RocePkt) (s : State) : Out :=
  match s.roceIn k with
  | (none, s) => .next s
  | (some q, s) =>
    let s := s.countFld (R.FH_PORT_STATUS_CNP_RX q.port) 1
    let q := { q with timer := s.timeNs }
    if (match q.lastCut with | none => true | some c => decide (c + 50000 ≤ s.timeNs)) then
      .next (s.setQp { q with
        rate := max (q.rate * (256 - s.fld R.FH_RC_MD) / 256) (256 * s.fld R.FH_RC_RMIN), lastCut := some s.timeNs, cuts := 0 })
    else .next (s.setQp q)

/-- RATE_INCREASE: 55 µs without a CNP (R415). -/
def execRateIncrease (qpn : BitVec 24) (s : State) : Out :=
  match s.qp? qpn.toNat with
  | none => .next s
  | some q =>
    if s.timeNs < q.timer + 55000 then .next s
    else
      .next (s.setQp { q with
        cuts := q.cuts + 1, rate := min (s.lineRate q.port) (q.rate + 256 * s.fld R.FH_RC_AI * (q.cuts + 1)), timer := s.timeNs })

/-- Does an address match the session's peer prefix (R402, Table 13.8)? -/
def State.peerOk (s : State) (n ip : Nat) : Bool :=
  let want := (s.reg (R.FH_SESS_PEER_HI n)).toNat * 2 ^ 64 + (s.reg (R.FH_SESS_PEER_LO n)).toNat
  let k := 128 - min 128 (s.fld (R.FH_SESS_CFG_PREFIX n))
  ip >>> k == want >>> k

/-- QPs of a session that are connected or connecting. -/
def State.sessQps (s : State) (n : Nat) : List Qp := s.qpList.filter (fun q => q.session == n && !q.error)

/-- Is the place of a QP free? -/
def State.qpFree (s : State) (i : Nat) : Bool := match s.qp? (0x100 + i) with | some q => q.error | none => true

/-- The first free QP from place `i` on, with wrap. -/
def State.freeQpFrom (s : State) (i : Nat) : Option Nat := ((List.range 4096).map (fun n => (i + n) % 4096)).find? s.qpFree

/-- A new QP of a session on a port; its own first PSN is free. -/
def State.newQp (s : State) (i peer port n : Nat) (dbImm requester : Bool) (mtu epsn : Nat) (timer : Nat × Nat) : Qp :=
  ⟨0x100 + i, peer, port, n, dbImm, requester, !requester, false, mtu, epsn, s.freeAt 0 % 2 ^ 24, [], 0, none, s.lineRate port, 0, none, none,
    s.timeNs, 0, 0, [], false, timer⟩

/-- REQ: a CM REQ on a port: who asks, what its private data names, and the QPN the part gives, or the next free above it (R401, R402). It is
rejected by the four conditions alone; the host's timeout and retry count are taken as they are. -/
def execReq (port : Fin 4) (cm : CmPkt) (peerQpn : BitVec 24) (psn : BitVec 24) (session : BitVec 16) (dbImm : Bool)
    (mtu : Fin 5) (qpn : Fin 4096) (s : State) : Out :=
  let n := session.toNat
  if !s.bit (R.FH_PORT_STATUS_UP port) then .next s
  else
    let r := s.rxFrame port cm.frame
    let s := r.2
    let no := s.sendCm port (.cmRej peerQpn.toNat 1)
    if !r.1 || !cm.icrc then .next s
    else if 8 ≤ n then .next no
    else if !s.hostSess n || !s.peerOk n cm.ip.toNat || decide (s.fld (R.FH_SESS_CFG_QP_MAX n) ≤ (s.sessQps n).length) then .next no
    else
      match s.freeQpFrom qpn with
      | none => .next no
      | some i =>
        let q := s.newQp i peerQpn.toNat port n dbImm false (256 * 2 ^ mtu.val) psn.toNat (cm.ackTo.toNat, cm.retries.val)
        let s := ((s.usedFree 1).setQp q).setFld (R.FH_SESS_STATUS_QPS n) (s.fld (R.FH_SESS_STATUS_QPS n) + 1)
        .next (s.sendCm port (.cmRep q.qpn peerQpn.toNat (s.fld (R.FH_WIN1_RKEY n 0)) (ringBase n)))

end Sys2Proof.Machine
end

