-- ==== Sys2Proof/Machine/FohRdma.lean ====
section
/-!
DEFINITION. Machine/FohRdma.lean: RDMA reads and writes under the windows (R405-R412), and doorbells.
-/
namespace Sys2Proof.Machine

/-- (v − i) modulo 2³² at most `lim`: the tests of R409. -/
def within32 (v i lim : Nat) : Bool := decide (sub32 v i ≤ lim)

/-- A write of CMD_PI (R409). -/
def State.doorbell (s : State) (n v : Nat) : State :=
  if within32 v (s.ringIdx n offCmdCi) 128 && within32 v (s.ringIdx n offCmdPi) 128 then s.setRingIdx n offCmdPi v
  else s.countFld (R.FH_SESS_STATUS_BAD_DB n) 1

/-- A write of STS_CI (R412, R413): entries free, kept statuses are written, notification starts again. -/
def State.statusConsumed (s : State) (n v : Nat) : State :=
  if within32 (s.ringIdx n offStsPi) v 1024 && within32 v (s.ringIdx n offStsCi) 1024 then
    let s : State := { s.setRingIdx n offStsCi v with host := { s.host with
      mute := s.host.mute.filter (fun m => m != n)
      qps := s.host.qps.map (fun p => (p.1, p.2.map (fun q => if q.session = n then { q with rnr := false } else q))) } }
    s.drainStatus n (s.host.waits.length + 1)
  else s.countFld (R.FH_SESS_STATUS_BAD_DB n) 1

/-- DOORBELL: R409. -/
def execDoorbell (n : Fin 8) (v : BitVec 32) (s : State) : Out := .next (if s.hostSess n then s.doorbell n v.toNat else s)

/-- STATUS_CONSUMED: R412. -/
def execStatusConsumed (n : Fin 8) (v : BitVec 32) (s : State) : Out :=
  .next (if s.hostSess n then s.statusConsumed n v.toNat else s)

/-- The window an R_Key names on a session. -/
def State.window (s : State) (n rkey : Nat) : Option Nat :=
  (List.range 16).find? (fun w => s.bit (R.FH_WIN0_VALID n w) && s.fld (R.FH_WIN1_RKEY n w) == rkey)

/-- Access of window 0 (Table 13.4). -/
def ringAllows (write : Bool) (off len : Nat) : Bool :=
  let inside := fun (lo hi : Nat) => decide (lo ≤ off) && decide (off + len ≤ hi)
  inside offCmdPi (offCmdPi + 8) || inside offStsCi (offStsCi + 8)
    || (if write then inside 0 0x100000
        else inside 0x100000 0x110000 || inside offCmdCi (offCmdCi + 8) || inside offStsPi (offStsPi + 8))

/-- The first two checks of Table 13.3. -/
def State.windowOk (s : State) (n rkey va len : Nat) (write : Bool) : Bool :=
  match s.window n rkey with
  | none => false
  | some w =>
    let base := s.fld (R.FH_WIN0_BASE n w)
    let size := 4096 * s.fld (R.FH_WIN1_PAGES n w)
    let a := s.fld (R.FH_WIN0_ACCESS n w)
    decide (base ≤ va) && decide (va + len ≤ base + size)
      && (if w = 0 then ringAllows write (va - base) len else if write then bitOf a 1 else bitOf a 0)

/-- The place of a cause among the checks of Table 13.3. -/
def nakRank (c : Nat) : Nat := if c = 0x41 then 0 else if c = 0x40 then 1 else if c = 0x46 then 3 else 2

/-- The failure that decides the outcome: the first in the order of Table 13.3, then by address (R406). -/
def firstFailing (l : List (Nat × Nat)) : Option (Nat × Nat) :=
  l.foldl (fun m c => match m with | some d => if nakRank c.1 < nakRank d.1 then some c else some d | none => some c) none

/-- NAK syndrome of a cause (Table 13.3). -/
def nakOf (cause : Nat) : Nat := if cause = 0x40 ∨ cause = 0x41 then 0x62 else 0x63

/-- The address a session's access of `n` bytes is served at: that of the front copy where it lies in a name range (R268). -/
def State.servedAt (s : State) (a n : Nat) : Nat := match s.nameHit a n false with | .read b _ => b | _ => a

/-- Does a stopped stack hold an address (R255)? -/
def State.onStopped (s : State) (a : Nat) : Bool :=
  match regionOf s.cacheN a with | .trap st _ => !s.bit (R.TP_STATUS_ONLINE st) | _ => false

/-- Poisoned units in [a, a + n), those alone that it covers in part where `part` says so. -/
def State.badUnits (s : State) (a n : Nat) (part : Bool) : List Nat :=
  let r := regionOf s.cacheN a
  (unitsOver r a n).filter (fun u => s.unitPoisoned r u && !(part && decide (a ≤ u) && decide (u + unitSize r ≤ a + n)))

/-- What a write that is not performed has done all the same: the sectors it covers in part were read, and errors met there are counted,
poison their units and are recorded (R239, R243, R260). -/
def State.mergeOnly (s : State) (mid va n : Nat) : State :=
  (granulesOver va n).foldl (fun t g =>
    match regionOf t.cacheN g.1 with
    | .trap st l =>
      if !t.bit (R.TP_STATUS_ONLINE st) then t
      else
        let us := (unitsOver (.trap st l) g.1 g.2).filter (fun u => !(decide (g.1 ≤ u) && decide (u + 32 ≤ g.1 + g.2)))
        let t := if us.any (fun u => t.trapPoisoned u) then t.countFld (R.TP_ECC_POISON_READS st) 1 else t
        (t.mergeReads mid us).2
    | _ => t) s

/-- A failure is logged; a stopped stack logs it beside (R257, R260, R406). -/
def State.logFailure (s : State) (mid : Nat) (c : Nat × Nat) : State :=
  let s := match regionOf s.cacheN c.2 with
    | .trap st l => if c.1 = 0x46 then s.errLog st 0x46 (unitBase (.trap st l) c.2) mid else s
    | _ => s
  s.memEntry mid c.1 c.2

/-- A write that passed its window: an index of the ring is a doorbell, anything else goes to memory. Nothing of a packet that
fails is performed; its failure is logged, and the errors it met stay met (R243, R406). -/
def State.rdmaPerform (s : State) (n va : Nat) (data : List Byte) (ecc : EccFinding) : Option Nat × State :=
  let idx := fun (o : Nat) => decide (ringBase n + o ≤ va) && decide (va + data.length ≤ ringBase n + o + 8)
  let merged := fun (o : Nat) =>
    ofLe (((((s.bytes (ringBase n + o) 8).take (va - ringBase n - o)) ++ data ++
      ((s.bytes (ringBase n + o) 8).drop (va - ringBase n - o + data.length))).take 4))
  if idx offCmdPi then (none, s.doorbell n (merged offCmdPi))
  else if idx offStsCi then (none, s.statusConsumed n (merged offStsCi))
  else
    let w := s.moverWrite (0x10 + n) va 0 false ecc none (data.map (fun b => (b, false)))
    let stopped := (granulesOver va data.length).filter (fun g => s.onStopped g.1)
    match firstFailing (w.1 ++ stopped.flatMap (fun g => (s.badUnits g.1 g.2 true).map (fun u => (0x43, u)))) with
    | none => (none, w.2)
    | some c => (some c.1, ((s.plant ecc).mergeOnly (0x10 + n) va data.length).logFailure (0x10 + n) c)

/-- A packet of a WRITE: its own RETH, or the place where the one before ended (R406). -/
def State.rdmaWrite (s : State) (k : RocePkt) (reth : Option Reth) (last : Bool) (data : List Byte) (imm : Option Nat)
    (ecc : EccFinding) : State :=
  s.request k (fun q t =>
    let pos := match reth with
      | some r => some (r.va.toNat, r.rkey.toNat)
      | none => q.writing
    match pos with
    | none => t.nak q k.psn.toNat 0x61
    | some (va, rkey) =>
      if !t.windowOk q.session rkey va data.length true then
        (t.memEntry (0x10 + q.session) 0x41 va).nak q k.psn.toNat 0x62
      else
        let w := t.rdmaPerform q.session va data ecc
        match w.1 with
        | some c => w.2.nak q k.psn.toNat (nakOf c)
        | none =>
          let q := (w.2.qp? q.qpn).getD q
          let t := w.2.setQp { q with
            epsn := (q.epsn + 1) % 2 ^ 24, writing := if last then none else some (va + data.length, rkey) }
          let t := match imm with
            | some v => if q.dbImm then t.doorbell q.session v else t
            | none => t
          if last then t.sendRoce q (.ack k.psn.toNat 0) else t)

/-- RDMA_WRITE: R406. -/
def execRdmaWrite (k : RocePkt) (reth : Option Reth) (last : Bool) (data : List Byte) (ecc : EccFinding) (s : State) : Out :=
  .next (s.rdmaWrite k reth last data none ecc)

/-- RDMA_WRITE_IMM: the last packet of a WRITE with immediate; with DB_IMM the immediate is a doorbell (R400, R409). -/
def execRdmaWriteImm (k : RocePkt) (reth : Option Reth) (data : List Byte) (imm : BitVec 32) (ecc : EccFinding) (s : State) : Out :=
  .next (s.rdmaWrite k reth true data (some imm.toNat) ecc)

/-- Data of one response packet of a READ, or the failure that decides it, logged: poison and errors of what can be read come before a stack
that has stopped, of which nothing is read (R406, Table 13.3). -/
def State.readData (s : State) (mid va n : Nat) : (List Byte × Option (Nat × Nat)) × State :=
  let gs := granulesOver va n
  let stopped := gs.filter (fun g => s.onStopped g.1)
  let r := (gs.filter (fun g => !s.onStopped g.1)).foldl (fun (acc : (List Byte × List (Nat × Nat)) × State) g =>
    let e := acc.2.moverRead mid g.1 g.2 0 false noEcc
    ((acc.1.1 ++ e.1.1.map (fun b => b.val), acc.1.2 ++ e.1.2.1 ++ (e.1.1.zipIdx.filter (fun b => b.1.psn)).map (fun b => (0x43, g.1 + b.2))), e.2))
    (([], []), s)
  let held := stopped.flatMap (fun g => (s.badUnits (s.servedAt g.1 g.2) g.2 false).map (fun _ => (0x43, g.1)))
  let c := firstFailing (r.1.2 ++ held ++ stopped.map (fun g => (0x46, g.1)))
  ((r.1.1, c), match c with | some c => if c.1 = 0x43 ∨ c.1 = 0x46 then r.2.logFailure mid c else r.2 | none => r.2)

/-- Response packets of a READ until one fails (R406). -/
def State.readPackets (s : State) (q : Qp) (va len psn : Nat) : Nat → State
  | 0 => s
  | f + 1 =>
    if len = 0 then s
    else
      let n := min len q.mtu
      let r := s.readData (0x10 + q.session) va n
      match r.1.2 with
      | some c => r.2.nak q psn (nakOf c.1)
      | none => (r.2.sendRoce q (.readResp psn r.1.1)).readPackets q (va + n) (len - n) ((psn + 1) % 2 ^ 24) f

/-- Which of the checks that concern the whole range of a READ fails: Table 1.8 and the name ranges, then mapping (R406). -/
def State.readRefused (s : State) (n va len : Nat) : Option (Nat × Nat) :=
  let l := (granulesOver va len).map (fun g => (regionOf s.cacheN g.1, g))
  firstFailing (l.filterMap (fun g =>
    if g.1 = .unmapped then some (0x40, g.2.1)
    else if !allowed (.session n) false false g.1 g.2.1 || s.nameHit g.2.1 g.2.2 false == .refused then some (0x41, g.2.1) else none))

/-- RDMA_READ: checked as a whole, then answered packet by packet (R406). One beyond the 16 that may be outstanding is answered NAK Invalid
Request (R400; DESIGN CHOICE: Table 13.2 states the limit and no answer). -/
def execRdmaRead (k : RocePkt) (reth : Reth) (ecc : EccFinding) (s : State) : Out :=
  .next (s.request k (fun q t =>
    let va := reth.va.toNat
    let len := reth.len.toNat
    if 16 ≤ q.reading.length then t.nak q k.psn.toNat 0x61
    else if !t.windowOk q.session reth.rkey.toNat va len false then (t.memEntry (0x10 + q.session) 0x41 va).nak q k.psn.toNat 0x62
    else
      match t.readRefused q.session va len with
      | some c => (t.memEntry (0x10 + q.session) c.1 c.2).nak q k.psn.toNat 0x62
      | none =>
        let n := max 1 ((len + q.mtu - 1) / q.mtu)
        let q := { q with epsn := (q.epsn + n) % 2 ^ 24, reading := q.reading ++ [(k.psn.toNat + n - 1) % 2 ^ 24] }
        let t := t.setQp q
        if len = 0 then t.sendRoce q (.readResp k.psn.toNat []) else (t.plant ecc).readPackets q va len k.psn.toNat (n + 1)))

end Sys2Proof.Machine
end

