-- ==== Sys2Proof/Machine/FohPort.lean ====
section
/-!
DEFINITION. Machine/FohPort.lean: links, frames, PFC and PTP of the front-of-house ports (R394-R398, R417-R420).
-/
namespace Sys2Proof.Machine

def State.ptp (s : State) : PtpState := s.host.ptp

def State.setPtp (s : State) (x : PtpState) : State := { s with host := { s.host with ptp := x } }

/-- The port PTP listens to (R418): the preferred one if it is up and hears Announce, else the next above it that does. -/
def State.ptpChoice (s : State) : Option Nat :=
  roundRobin 4 (s.fld R.FH_PTP_CFG_PORT) (fun p => s.bit (R.FH_PORT_STATUS_UP p) && s.ptp.heard.any (fun h => h.1 == p))

/-- Choose the active port again; a change clears LOCKED (R418, R419), and FH_PTP_GM follows the selected master. -/
def State.ptpSelect (s : State) : State :=
  match s.ptpChoice with
  | none => s
  | some p =>
    let s := if p = s.fld R.FH_PTP_STATUS_ACTIVE then s
      else ((s.setFld R.FH_PTP_STATUS_ACTIVE p).setFld R.FH_PTP_STATUS_LOCKED 0).setPtp { s.ptp with good := 0, sync := none }
    s.setFld R.FH_PTP_GM_IDENTITY (smapGet (0, 0, 0) s.ptp.heard p).1

/-- Lanes that a mode uses; it powers the others down (Table 13.1). -/
def modeLanes (mode : Nat) : List Nat := List.range (match mode with | 1 => 1 | 2 => 2 | _ => 4)

/-- The IPv6 gateway: a link-local address with the interface identifier of FH_PORT_IP6G (Table 13.7). -/
def State.gateway6 (s : State) (p : Nat) : Nat := 0xFE80 * 2 ^ 112 + s.fld (R.FH_PORT_IP6G_GW_IID p)

/-- The gateways that a port has an address for are asked for their MAC addresses (R395; DESIGN CHOICE: when its link comes up). -/
def State.askGateways (s : State) (p : Nat) : State :=
  let mac := (Config.macAddr p).toNat
  let s := if s.fld (R.FH_PORT_IP4_GATEWAY p) = 0 then s else s.send (.frame p (.arpRequest (s.fld (R.FH_PORT_IP4_GATEWAY p)) mac))
  if s.fld (R.FH_PORT_IP6G_GW_IID p) = 0 then s else s.send (.frame p (.neighborSolicit (s.gateway6 p) mac))

/-- FH_PTP_CFG was written: what was heard in another domain or over another transport counts no more (R418). -/
def State.ptpMoved (s : State) (domain transport : Nat) : State :=
  if s.fld R.FH_PTP_CFG_DOMAIN = domain ∧ s.fld R.FH_PTP_CFG_TRANSPORT = transport then s
  else s.setPtp { s.ptp with heard := [], sync := none, delay := none, t12 := none }

/-- FH_LINK_UP: negotiation ends in a mode that MODES allows (R394). -/
def execFhLinkUp (p : Fin 4) (mode : Fin 4) (s : State) : Out :=
  if mode.val = 0 ∨ s.bit (R.FH_PORT_STATUS_UP p) ∨ bitOf (s.fld (R.FH_PORT_CFG_MODES p)) (mode.val - 1) = false then .next s
  else
    let s := s.setFhPort p { s.fhPort p with lanes := modeLanes mode.val }
    .next (((s.setFld (R.FH_PORT_STATUS_UP p) 1).setFld (R.FH_PORT_STATUS_MODE p) mode).askGateways p).ptpSelect

/-- FH_LINK_DOWN: every QP of the port enters the error state (R420). -/
def State.fhDown (s : State) (p : Nat) : State :=
  let s := ((s.setFld (R.FH_PORT_STATUS_UP p) 0).setFld (R.FH_PORT_STATUS_MODE p) 0).setFld (R.FH_PORT_STATUS_PAUSED p) 0
  let s := s.setFhPort p FhPort.init
  (((s.qpList.filter (fun q => q.port == p)).map Qp.qpn).foldl (fun t n => match t.qp? n with | some q => t.qpError q | none => t) s).ptpSelect

def execFhLinkDown (p : Fin 4) (s : State) : Out := .next (if s.bit (R.FH_PORT_STATUS_UP p) then s.fhDown p else s)

/-- FRAME_DROP: a frame with IPv4 options, a fragment, and one that no service takes are dropped, and so is one above 9216 bytes or without room
in its buffer; any other stands in its buffer, and its service's own command takes it (R395, R397). -/
def execFrameDrop (f : FrameIn) (s : State) : Out :=
  .next (if !s.bit (R.FH_PORT_STATUS_UP f.port) then s
    else if f.options || f.fragment || !f.served then s.dropFrame f.port else (s.rxFrame f.port f.frame).2)

/-- ARP_REQUEST: a request for the port's own address is answered; an answer from its gateway resolves that (R395). -/
def execArpRequest (p : Fin 4) (m : ArpIn) (s : State) : Out :=
  .next (match m with
    | .request ip => if ip.toNat = s.fld (R.FH_PORT_IP4_ADDR p) then s.send (.frame p (.arpReply ip.toNat (Config.macAddr p).toNat)) else s.dropFrame p
    | .reply ip mac =>
      if ip.toNat = s.fld (R.FH_PORT_IP4_GATEWAY p) then s.setFhPort p { s.fhPort p with gw4 := some mac.toNat } else s.dropFrame p)

/-- The port's IPv6 address. -/
def State.ip6 (s : State) (p : Nat) : Nat := (s.reg (R.FH_PORT_IP6A p)).toNat * 2 ^ 64 + (s.reg (R.FH_PORT_IP6B p)).toNat

/-- NEIGHBOR_SOLICITATION: as ARP, on IPv6 (R395). -/
def execNeighborSolicitation (p : Fin 4) (m : NdIn) (s : State) : Out :=
  .next (match m with
    | .solicit ip => if ip.toNat = s.ip6 p then s.send (.frame p (.neighborAdvert ip.toNat (Config.macAddr p).toNat)) else s.dropFrame p
    | .advert ip mac => if ip.toNat = s.gateway6 p then s.setFhPort p { s.fhPort p with gw6 := some mac.toNat } else s.dropFrame p)

/-- ICMP_ECHO: R395. An IPv4 address stands in the low 32 bits. -/
def execIcmpEcho (p : Fin 4) (v6 : Bool) (ip : BitVec 128) (data : List Byte) (s : State) : Out :=
  .next (if ip.toNat = (if v6 then s.ip6 p else s.fld (R.FH_PORT_IP4_ADDR p)) then s.send (.frame p (.echoReply v6 data))
    else s.dropFrame p)

/-- When a pause of `q` quanta, each 512 bit times of the port, ends (R397, IEEE 802.1Qbb); 0 ends it at once. -/
def State.pauseEnd (s : State) (p q : Nat) : Nat := if q = 0 then 0 else s.timeNs + bitNs (512 * q) (s.lineRate p)

/-- PFC_FRAME: quanta for the priorities it names; ROCE_PRIO is ignored for the second after the watchdog (R397, R398). -/
def execPfcFrame (p : Fin 4) (quanta : List (Option (BitVec 16))) (s : State) : Out :=
  if !s.bit (R.FH_PORT_CFG_PFC_EN p) then .next s
  else
    let x := s.fhPort p
    let roce := s.fld (R.FH_PORT_CFG_ROCE_PRIO p)
    let paused := (List.range 8).map (fun i =>
      match quanta.getD i none with
      | some q => if i = roce ∧ (x.ignoreUntil.any (fun t => decide (s.timeNs < t))) then x.paused.getD i 0 else s.pauseEnd p q.toNat
      | none => x.paused.getD i 0)
    let y := { x with paused := paused }
    let now := y.isPaused roce s.timeNs
    let s := s.setFhPort p { y with pausedAt := if now ∧ !x.isPaused roce s.timeNs then s.timeNs else x.pausedAt }
    .next (s.setFld (R.FH_PORT_STATUS_PAUSED p) (if now then 1 else 0))

/-- PFC_REFRESH: `drain` octets have left the ROCE_PRIO buffer. Where it is at XON or below, quanta 0 is sent; above it, PFC once more when
0x8000 quanta have passed since it was sent (R397). -/
def execPfcRefresh (p : Fin 4) (drain : Nat) (s : State) : Out :=
  let x := s.fhPort p
  let s := (s.setFhPort p { x with roceOcc := x.roceOcc - drain }).pfcCheck p
  let y := s.fhPort p
  if !y.xoffSent || decide (s.timeNs < y.pfcAt + bitNs (512 * 0x8000) (s.lineRate p)) then .next s
  else .next ((s.setFhPort p { y with pfcAt := s.timeNs }).send (.frame p (.pfc (s.fld (R.FH_PORT_CFG_ROCE_PRIO p)) 0xFFFF)))

/-- The codes that the owning chapters' tables list (R13). -/
def listedCodes : List Nat :=
  List.range' 0x01 11 ++ List.range' 0x11 15 ++ List.range' 0x21 4 ++ List.range' 0x26 6 ++ List.range' 0x40 12 ++ List.range' 0x60 10
    ++ List.range' 0x81 20 ++ List.range' 0xA0 16 ++ List.range' 0xC0 7 ++ List.range' 0xC8 4
    ++ [0xE0, 0xE1] ++ List.range' 0xE3 7 ++ [0xEB, 0xEC, 0xF0, 0xF1, 0xF2, 0xF4, 0xF5, 0xF6, 0xF8, 0xF9, 0xFA]

/-- A code that no rule states, as far as R13 leaves it open: any listed one. -/
def openCode (free : Nat) : Nat := listedCodes.getD (free % listedCodes.length) 0x01

/-- PFC_WATCHDOG: ROCE_PRIO has stayed paused for PFC_WD ms, and still is (R398). The promptbook entry's code is not stated: free, among those that
R13 admits. -/
def execPfcWatchdog (p : Fin 4) (s : State) : Out :=
  let x := s.fhPort p
  let wd := s.fld (R.FH_PORT_CFG_PFC_WD p)
  if !x.isPaused (s.fld (R.FH_PORT_CFG_ROCE_PRIO p)) s.timeNs || wd == 0 || decide (s.timeNs < x.pausedAt + 1000000 * wd) then .next s
  else
    let roce := s.fld (R.FH_PORT_CFG_ROCE_PRIO p)
    let s := s.setFhPort p { x with paused := x.paused.set roce 0, ignoreUntil := some (s.timeNs + 1000000000) }
    let s := (s.raiseFld (R.FH_PORT_STATUS_PFC_STORM p)).setFld (R.FH_PORT_STATUS_PAUSED p) 0
    .next ((s.usedFree 1).event 1 (openCode (s.freeAt 0)) p)

/-- PFC_STORM_END: one second after the watchdog (R398). -/
def execPfcStormEnd (p : Fin 4) (s : State) : Out :=
  let x := s.fhPort p
  match x.ignoreUntil with
  | none => .next s
  | some t => if s.timeNs < t then .next s else .next (s.setFhPort p { x with ignoreUntil := none })

/-- Does PTP run in a message's domain, over its transport (R417)? -/
def State.ptpTakes (s : State) (h : PtpHead) : Bool :=
  s.bit R.FH_PTP_CFG_ENABLE && h.domain.toNat == s.fld R.FH_PTP_CFG_DOMAIN && h.transport.val == s.fld R.FH_PTP_CFG_TRANSPORT

/-- Is one master better than another: by its priority vector, the lower the better, then its grandmaster's identity, then its own? -/
def betterMaster (a b : Nat × Nat × Nat) : Bool :=
  decide (a.2.1 < b.2.1 ∨ (a.2.1 = b.2.1 ∧ (a.1 < b.1 ∨ (a.1 = b.1 ∧ a.2.2 < b.2.2))))

/-- PTP_ANNOUNCE: the best master heard on each port (R417, R418); a master's later Announce replaces its earlier. -/
def execPtpAnnounce (p : Fin 4) (h : PtpHead) (identity : Word) (vector : Nat) (s : State) : Out :=
  if !s.ptpTakes h then .next s
  else
    let new := (identity.toNat, vector, h.source.toNat)
    let best := match s.ptp.heard.find? (fun e => e.1 == p.val) with
      | some e => if e.2.2.2 = h.source.toNat ∨ betterMaster new e.2 then new else e.2
      | none => new
    .next (s.setPtp { s.ptp with heard := smapInsert p.val best s.ptp.heard }).ptpSelect

/-- PTP_ANNOUNCE_TIMEOUT: three Announce intervals without Announce on a port (R418, R419). -/
def execPtpAnnounceTimeout (p : Fin 4) (s : State) : Out :=
  let s := s.setPtp { s.ptp with heard := smapErase p.val s.ptp.heard }
  let s := if p.val = s.fld R.FH_PTP_STATUS_ACTIVE then (s.setFld R.FH_PTP_STATUS_LOCKED 0).setPtp { s.ptp with good := 0 } else s
  .next s.ptpSelect

/-- The servo at one offset (R418, R419): a step above 1 µs, else the slew the part chose, within ±100 ppm of the time since the
Sync before. -/
def State.servo (s : State) (t1 t2 slew : Int) : State :=
  let x := s.ptp
  let off := t2 - t1 - x.path
  let s := s.setReg R.FH_PTP_OFFSET (BitVec.ofInt 64 off)
  if 1000 < off.natAbs then
    (({ s with tbOff := s.tbOff - off } : State).raiseFld R.FH_PTP_STATUS_STEPPED).setFld R.FH_PTP_STATUS_LOCKED 0
      |>.setPtp { x with sync := none, lastSync := some (t2 - off), t12 := none, good := 0 }
  else
    let room : Int := match x.lastSync with | some t => max 0 ((t2 - t) / 10000) | none => 0
    let d := max (-room) (min room slew)
    let good := if off.natAbs < 100 then x.good + 1 else 0
    let s := ({ s with tbOff := s.tbOff + d } : State).setPtp { x with sync := none, lastSync := some t2, t12 := some (t1, t2), good := good }
    if 16 ≤ good then s.setFld R.FH_PTP_STATUS_LOCKED 1 else s

/-- A message of the selected master on the active port, in the domain and over the transport (R417, R418). -/
def State.ptpHere (s : State) (p : Nat) (h : PtpHead) : Bool :=
  s.ptpTakes h && p == s.fld R.FH_PTP_STATUS_ACTIVE && s.ptp.heard.any (fun e => e.1 == p && e.2.2.2 == h.source.toNat)

/-- PTP_SYNC: a Sync on the active port; a one-step master's carries its origin (R417, R418). -/
def execPtpSync (p : Fin 4) (h : PtpHead) (seq : BitVec 16) (origin : Option (BitVec 64)) (slew : Int) (s : State) : Out :=
  if !s.ptpHere p h then .next s
  else
    match origin with
    | some t1 => .next (s.servo t1.toNat s.timeNs slew)
    | none => .next (s.setPtp { s.ptp with sync := some (seq.toNat, (s.timeNs : Int)) })

/-- PTP_FOLLOW_UP: the origin of a two-step Sync (R417). -/
def execPtpFollowUp (p : Fin 4) (h : PtpHead) (seq : BitVec 16) (origin : BitVec 64) (slew : Int) (s : State) : Out :=
  if !s.ptpHere p h then .next s
  else
    match s.ptp.sync with
    | some (n, t2) => if n = seq.toNat then .next (s.servo origin.toNat t2 slew) else .next s
    | none => .next s

/-- PTP_DELAY_REQ: the slave asks for the path delay (R417). -/
def execPtpDelayReq (p : Fin 4) (s : State) : Out :=
  if !s.bit R.FH_PTP_CFG_ENABLE || p.val != s.fld R.FH_PTP_STATUS_ACTIVE || !s.bit (R.FH_PORT_STATUS_UP p) then .next s
  else
    let x := s.ptp
    .next ((s.setPtp { x with delay := some (x.delaySeq, (s.timeNs : Int)), delaySeq := (x.delaySeq + 1) % 2 ^ 16 }).send
      (.frame p (.delayReq (s.fld R.FH_PTP_CFG_TRANSPORT) x.delaySeq)))

/-- PTP_DELAY_RESP: the mean path delay ((t2 − t1) + (t4 − t3)) / 2 (R417). -/
def execPtpDelayResp (p : Fin 4) (h : PtpHead) (seq : BitVec 16) (t4 : BitVec 64) (s : State) : Out :=
  if !s.ptpHere p h then .next s
  else
    match s.ptp.delay, s.ptp.t12 with
    | some (n, t3), some (t1, t2) =>
      if n = seq.toNat then .next (s.setPtp { s.ptp with path := ((t2 - t1) + ((t4.toNat : Int) - t3)) / 2, delay := none }) else .next s
    | _, _ => .next s

end Sys2Proof.Machine
end

