-- ==== Sys2Proof/Machine/PlanCalc.lean ====
section
/-!
DEFINITION. Machine/PlanCalc.lean: the blocking engine's calculation (R316-R342, R347-R350): a plan as a function of the job
description and of what the part's tables say.
-/
namespace Sys2Proof
open Sys2Proof.Machine

/-- Sums of every contiguous run of a list. -/
def runSums : List Nat → List Nat
  | [] => []
  | c :: r => (List.range (r.length + 1)).map (fun n => c + (r.take n).sum) ++ runSums r

/-- Fewest contiguous stages whose costs stay within `cap` (each layer alone does); `used` is the cost of the stage begun. -/
def stagesNeeded (cap : Nat) : List Nat → Option Nat → Nat
  | [], _ => 0
  | c :: r, none => 1 + stagesNeeded cap r (some c)
  | c :: r, some used => if used + c ≤ cap then stagesNeeded cap r (some (used + c)) else 1 + stagesNeeded cap r (some c)

/-- Can these layers be split into `k` nonempty stages of at most `cap`? -/
def splits (cap k : Nat) (l : List Nat) : Bool :=
  decide (k ≤ l.length) && l.all (fun c => decide (c ≤ cap)) && decide (stagesNeeded cap l none ≤ k)

/-- Sizes of the stages: each stage takes the least that leaves the rest splittable (the lexicographically least list). -/
def stageSizes (cap : Nat) : Nat → List Nat → List Nat
  | 0, _ => []
  | 1, l => [l.length]
  | k + 1, l =>
    let n := ((List.range l.length).find? (fun i => decide ((l.take (i + 1)).sum ≤ cap) && splits cap k (l.drop (i + 1)))).getD 0 + 1
    n :: stageSizes cap k (l.drop n)

/-- R323: the sizes of the layer stages; none where no split exists. -/
def layerSplit (costs : List Nat) (s : Nat) : Option (List Nat) :=
  if s = 0 ∨ costs.length < s then none
  else
    match ((runSums costs).filter (fun c => splits c s costs)).min? with
    | none => none
    | some best => some (stageSizes best s costs)

/-- The stage of each layer. -/
def stageOfLayers (sizes : List Nat) : List Nat := sizes.zipIdx.flatMap (fun p => List.replicate p.1 p.2)

/-- One step of taking back: the group with the most quads, the later among equals (R328). -/
def takeBack (q : List Nat) : List Nat :=
  let m := q.foldl max 0
  match (q.zipIdx.filter (fun p => p.1 == m)).getLast? with
  | some p => q.set p.2 (p.1 - 1)
  | none => q

def takeBackN : Nat → List Nat → List Nat
  | 0, q => q
  | n + 1, q => takeBackN n (takeBack q)

/-- R328: quads of each group. -/
def apportion (quads : Nat) (shares : List Nat) : List Nat :=
  let total := max shares.sum 1
  let base := shares.map (fun s => max 1 (quads * s / total))
  let rem := shares.zipIdx.map (fun p => (quads * p.1 % total, p.2))
  if quads < base.sum then takeBackN (base.sum - quads) base
  else
    let order := (sortBy (fun p => total - p.1) rem.reverse).take (quads - base.sum)
    base.zipIdx.map (fun p => if order.any (fun r => r.2 == p.2) then p.1 + 1 else p.1)

/-- The die of a place in the walk of R329. -/
def walkDie (q : Nat) : Nat := [0, 1, 2, 3, 7, 6, 5, 4].getD (q / 64) 0

/-- The die that holds the most quads of [a, a + n), the lower number on a tie (R333). -/
def mostDie (a n : Nat) : Nat :=
  let cnt := fun d => ((List.range n).filter (fun i => walkDie (a + i) == d)).length
  (List.range 8).foldl (fun b d => if cnt b < cnt d then d else b) 0

/-- The linear numbers of the four tiles of a place in the walk of R329: a die's quad rows run north to south, west to east and back. -/
def quadTiles (q : Nat) : List Nat :=
  let i := q % 64 / 8
  let j := if i % 2 = 0 then q % 8 else 7 - q % 8
  (List.range 4).map (fun n => 256 * walkDie q + 16 * (2 * i + n / 2) + 2 * j + n % 2)

/-- The tiles of a group. -/
def Machine.GroupPlan.tiles (g : GroupPlan) : List Nat := (List.range g.quads).flatMap (fun n => quadTiles (g.start + n))

/-- The job's seats but its understudies, in ascending order; a promoted one counts (R322). -/
def JobDesc.members (j : JobDesc) : List SeatDesc := sortBy (fun q => q.seat) (j.seats.filter (fun q => !q.spare))

def JobDesc.understudies (j : JobDesc) : List Nat := (j.seats.filter (fun q => q.spare)).map (fun q => q.seat)

/-- A coordinate. -/
def SeatDesc.at (q : SeatDesc) : Nat → Nat
  | 0 => q.x | 1 => q.y | _ => q.z

/-- The torus dimension of the layer stages: the first of x, y, z whose length is S (R325). -/
def JobDesc.stageDim (j : JobDesc) : Option Nat := (List.range 3).find? (fun i => j.dims.getD i 1 == j.stages)

def JobDesc.companies (j : JobDesc) : List Nat := (j.members.map (fun q => q.seat / 16)).dedup

/-- The stage a company lies in. -/
def JobDesc.stageOf (j : JobDesc) (g : Nat) : Nat :=
  match j.stageDim, j.members.find? (fun q => q.seat / 16 == g) with
  | some i, some q => q.at i
  | _, _ => 0

/-- Does the data cut take the company ports (R325)? -/
def JobDesc.dataInside (j : JobDesc) : Bool := decide (j.t = 1 ∧ 2 ≤ j.d ∧ j.d ≤ 8)

/-- The torus dimensions of the data cut: those the layer stages leave, longest first, ties x, y, z (R325). -/
def JobDesc.dataDims (j : JobDesc) : List Nat :=
  let m := j.dims.foldl max 0
  sortBy (fun i => m - j.dims.getD i 1) ((List.range 3).filter (fun i => some i != j.stageDim))

/-- Where a company lies along the data cut: the longest of its dimensions runs fastest. -/
def JobDesc.dataPlace (j : JobDesc) (g : Nat) : Nat :=
  match j.members.find? (fun q => q.seat / 16 == g) with
  | none => 0
  | some q => j.dataDims.foldr (fun i acc => acc * max 1 (j.dims.getD i 1) + q.at i) 0

/-- The companies that hold stage `k`, in ascending order: one, or the first D along the data cut (R324, R325). -/
def JobDesc.holders (j : JobDesc) (k : Nat) : List Nat :=
  sortBy id ((sortBy j.dataPlace (j.companies.filter (fun g => j.stageOf g == k))).take (if j.dataInside then 1 else max j.d 1))

/-- Seats of a company that hold its layers: the first T, or the D data-parallel parties. -/
def JobDesc.crew (j : JobDesc) (g : Nat) : List Nat :=
  ((j.members.filter (fun q => q.seat / 16 == g)).map (fun q => q.seat)).take (if j.dataInside then j.d else j.t)

/-- Does a seat hold layers? -/
def JobDesc.works (j : JobDesc) (q : Nat) : Bool := (j.holders (j.stageOf (q / 16))).contains (q / 16) && (j.crew (q / 16)).contains q

/-- Party and parties of a seat in a cut (R320, R322). -/
def JobDesc.party (j : JobDesc) (q cut : Nat) : Nat × Nat :=
  let inside := ((j.crew (q / 16)).idxOf q, (j.crew (q / 16)).length)
  match cut with
  | 1 => if j.dataInside then (0, 1) else inside
  | 3 => if j.dataInside then inside
    else ((j.holders (j.stageOf (q / 16))).idxOf (q / 16), (j.holders (j.stageOf (q / 16))).length)
  | _ => (0, 1)

/-- The company position of a seat. -/
def JobDesc.posOf (j : JobDesc) (q : Nat) : Nat := ((j.seats.find? (fun e => e.seat == q)).map SeatDesc.pos).getD (q % 16)

/-- The items of a seat (R320, R321): heads, experts and output fields of its layers over the tensor cut, samples over the data cut. -/
def JobDesc.itemsOf (j : JobDesc) (q : Nat) (layers : List Nat) : List ItemShare :=
  let share := fun (kind : ItemKind) (layer cut n : Nat) =>
    let p := j.party q cut
    let r := shareItems n p.2 p.1
    (⟨kind, layer, p.1, r.1, r.2⟩ : ItemShare)
  layers.flatMap (fun i =>
    match j.layers[i]? with
    | none => []
    | some l => [share .heads i 1 l.heads, share .experts i 1 l.experts, share .fields i 1 l.fields]) ++ [share .samples 0 3 j.samples]

/-- N of a tensor's cut. -/
def TensorDesc.count (t : TensorDesc) : Nat := if t.runs then (t.elements + 127) / 128 else t.items

/-- First and one-past-last element of some items. -/
def TensorDesc.range (t : TensorDesc) (first n : Nat) : Nat × Nat :=
  if t.runs then (min t.elements (128 * first), min t.elements (128 * (first + n)))
  else
    let e := t.elements / max t.items 1
    (first * e, (first + n) * e)

/-- Bytes of `n` elements of a format word stored as a tensor of one row (R86). -/
def tensorBytes (w n : Nat) : Nat := match FmtWord.ofWord w with | some f => panelEnd f 1 n | none => 0

/-- Components of a tensor, with their format words, in the order P, R, M, V. -/
def TensorDesc.comps (t : TensorDesc) : List Nat :=
  [t.fmtP] ++ (if t.hasR then [t.fmtR] else []) ++ (if t.hasM then [t.fmtMV] else []) ++ (if t.hasV then [t.fmtMV] else [])

/-- One copy of all components of `n` elements. -/
def TensorDesc.image (t : TensorDesc) (n : Nat) : Nat := (t.comps.map (fun w => tensorBytes w n)).sum

def Machine.PShard.elems (p : PShard) : Nat := p.hi - p.lo
def Machine.PShard.bytes (p : PShard) : Nat := p.tensor.image p.elems

/-- Addresses are 4 KiB aligned (R333, R471). -/
def page (n : Nat) : Nat := roundUp n 4096

/-- Two copies of each component from an address on. -/
def layCopies (n : Nat) : List Nat → Nat → List (Nat × Nat)
  | [], _ => []
  | w :: r, a => let b := page (tensorBytes w n); (a, a + b) :: layCopies n r (a + 2 * b)

/-- Base of a stack's pinned range (R226). -/
def pinnedBase (k : Nat) : Nat := 2 ^ 39 + k * 2 ^ 36

/-- Contributions of a step to a gradient buffer, every kind added (R334). -/
def TensorDesc.contributions (t : TensorDesc) (micro parties : Nat) : Nat :=
  (t.sends.map (fun k => match k with | .own => micro | .parties => parties | .partyMicros => parties * micro)).sum

/-- A shard laid at a cursor of its stack; what it takes. Every shard has K, X and its piece of F, one of 64 MiB or more also D. -/
def layShard (j : JobDesc) (t : TensorDesc) (parties k e first n lo hi cur : Nat) : PShard × Nat :=
  let m := hi - lo
  let base := pinnedBase k + cur
  let cs := layCopies m t.comps base
  let g := base + (t.comps.map (fun w => 2 * page (tensorBytes w m))).sum
  let gb := m * fmtSize t.gcode
  let trig := g + page gb
  let img := t.image m
  let keep := trig + 4096
  let acc := keep + page img
  let delta := acc + (if 2 ^ 26 ≤ img then page img else 0)
  let bitmap := delta + page img
  let bits := page (((img + 31) / 32 + 7) / 8)
  let stage := bitmap + bits
  let expect := if m = 0 then 0 else t.contributions j.micro parties * gb
  (⟨t, k, e, first, n, lo, hi, cs, g, trig, keep, acc, delta, bitmap, stage, expect, 0⟩, stage + page img - pinnedBase k)

/-- Element ranges of the entries of a shard (R335). -/
def entryRanges : Nat → Nat → Nat → List (Nat × Nat)
  | 0, _, _ => []
  | f + 1, lo, hi => if hi - lo < 2 ^ 32 then [(lo, hi)] else (lo, lo + (2 ^ 32 - 128)) :: entryRanges f (lo + (2 ^ 32 - 128)) hi

/-- Start and quads of each group in the walk (R329). -/
def layGroups : List Nat → Nat → List (Nat × Nat)
  | [], _ => []
  | n :: r, a => (a, n) :: layGroups r (a + n)

/-- Die of a layer's F group. -/
def groupDie (groups : List (Nat × Nat)) (i : Nat) : Nat := let g := groups.getD (2 * i) (0, 0); mostDie g.1 g.2

/-- The shards of a seat, tensor by tensor: cursors and entries used per stack (R333-R335). -/
def layShards (j : JobDesc) (q : Nat) (layers : List Nat) (groups : List (Nat × Nat)) (starts : List Nat) : List PShard × List Nat :=
  let r := j.tensors.foldl (fun (acc : List PShard × List Nat × List Nat) t =>
    if !layers.contains t.layer then acc
    else
      let k := groupDie groups (layers.idxOf t.layer)
      let pp := j.party q t.cut
      let sh := shareItems t.count pp.2 pp.1
      let er := t.range sh.1 sh.2
      (entryRanges 64 er.1 er.2).foldl (fun (a : List PShard × List Nat × List Nat) x =>
        let s := layShard j t pp.2 k (a.2.2.getD k 0) sh.1 sh.2 x.1 x.2 (a.2.1.getD k 0)
        (a.1 ++ [s.1], a.2.1.set k s.2, a.2.2.set k (a.2.2.getD k 0 + 1))) acc)
    ([], starts, List.replicate 8 0)
  (r.1, r.2.1)

/-- The method by size and rate (R340). -/
def methodOf (fast rate bytes : Nat) : Nat := if bytes < 2 ^ 26 ∨ fast ≤ rate then 1 else 2

/-- Room of the images and the job record in a mirror slot. -/
def recordRoom : Nat := 2 ^ 26

/-- COPY bytes of a seat's slot, with the room of its images and job record. -/
def slotBytes (l : List PShard) : Nat := ((l.filter (fun p => p.method == 1)).map (fun p => page p.bytes)).sum + recordRoom

/-- G of a tensor over a company (R470): the largest image. -/
def stripeG (l : Nat) : Nat := (l + 223) / 224 * 32

/-- Bytes of the company's largest shard of a tensor. -/
def largestImage (j : JobDesc) (g : Nat) (t : TensorDesc) : Nat :=
  ((j.crew g).map (fun q => let pp := j.party q t.cut; let sh := shareItems t.count pp.2 pp.1; let r := t.range sh.1 sh.2; t.image (r.2 - r.1))).foldl max 0

/-- Reserve a seat needs (R469): its COPY bytes twice, and its parity buffers. -/
def reserveOf (j : JobDesc) (g : Nat) (l : List PShard) : Nat :=
  let ts := ((l.filter (fun p => p.method == 2)).map (fun p => p.tensor)).dedup
  2 * slotBytes l + (ts.map (fun t => 2 * stripeG (largestImage j g t))).sum

/-- R342: COPY shards of 64 MiB or more change to PARITY, the largest first, until the rest fit. -/
def fitReserve (j : JobDesc) (g : Nat) : Nat → List PShard → List PShard
  | 0, l => l
  | f + 1, l =>
    if reserveOf j g l ≤ j.reserve then l
    else
      let big := l.filter (fun p => p.method == 1 && decide (2 ^ 26 ≤ p.bytes))
      match big.argmax PShard.bytes with
      | none => l
      | some m => fitReserve j g f (l.map (fun p => if p = m then { p with method := 2 } else p))

/-- The tile groups of a rollout's layers `l` on the die at place `i` of the walk (R328, R329, R348): all of that die's quads, by bytes of weights. -/
def rolloutGroups (weights : List Nat) (i : Nat) (l : List Nat) : List GroupPlan :=
  (l.zip (layGroups (apportion 64 (l.map (fun n => weights.getD n 0))) (64 * i))).map (fun p =>
    (⟨p.1, [⟨.forward, .input, if p.1 + 1 < weights.length then some (p.1 + 1) else none⟩], p.2.1, p.2.2⟩ : GroupPlan))

/-- The homes of a rollout's layers on a die, from the lowest address of its region (R348): each layer's weights, then its streams' state. -/
def rolloutHomes (weights state : List Nat) (die : Nat) : List Nat → Nat → List RolloutHome
  | [], _ => []
  | n :: r, a => let b := a + weights.getD n 0; ⟨n, die, a, b⟩ :: rolloutHomes weights state die r (b + state.getD n 0)

/-- Homes laid in the dies' general areas: the cursors, and what lies where (R330). -/
abbrev WingsFill := List Nat × List WingsHome

/-- One more home on a die, at its cursor. -/
def WingsFill.add (w : WingsFill) (what : WingsUse) (die bytes : Nat) : WingsFill :=
  (w.1.set die (w.1.getD die 0 + bytes), w.2 ++ [⟨what, die, 0x10000000000 + 0x200000000 * die + w.1.getD die 0, bytes⟩])

/-- One more home where it fits. -/
def WingsFill.try (w : WingsFill) (room : List Nat) (what : WingsUse) (die bytes : Nat) : Option WingsFill :=
  if w.1.getD die 0 + bytes ≤ room.getD die 0 then some (w.add what die bytes) else none

/-- Bytes a die needs for the tensors that are gathered again: those of one layer at a time, since a layer's space is released after its forward
pass (R336). -/
def scratchOf (ts : List TensorDesc) (die : Nat → Nat) (d : Nat) : Nat :=
  ((ts.map (fun t => t.layer)).dedup.filter (fun n => die n == d)).foldl
    (fun m n => max m ((ts.filter (fun t => t.layer == n)).map (fun t => t.gather)).sum) 0

/-- The tensors made KEEP, in descending order of bytes gathered, for as long as what is gathered again still fits beside them (R336). -/
def keepAll (room : List Nat) (die : Nat → Nat) : List TensorDesc → List TensorDesc → WingsFill → WingsFill × List Nat
  | [], _, w => (w, [])
  | t :: r, again, w =>
    let d := die t.layer
    let rest := again ++ r
    if w.1.getD d 0 + t.gather + scratchOf rest die d ≤ room.getD d 0 then
      let k := keepAll room die r again (w.add (.gathered t.number) d t.gather)
      (k.1, t.number :: k.2)
    else keepAll room die r (again ++ [t]) w

/-- The homes of the tensors gathered again: above what is kept, a layer's beside each other, the layers' one upon another (R336). -/
def layAgain (ts : List TensorDesc) (die : Nat → Nat) (w : WingsFill) : WingsFill :=
  let homes := (ts.map (fun t => t.layer)).dedup.flatMap (fun n =>
    ((ts.filter (fun t => t.layer == n)).foldl (fun (acc : WingsFill) t => acc.add (.gathered t.number) (die n) t.gather) (w.1, [])).2)
  (w.1.zipIdx.map (fun p => p.1 + scratchOf ts die p.2), w.2 ++ homes)

/-- The passes of a layer's groups (R328, R331, R332): F's and B's. -/
def passesOf (j : JobDesc) (layer : Nat) (later : Bool) : List PassPlan × List PassPlan :=
  let next := if layer + 1 < j.layers.length then some (layer + 1) else none
  let fwd : PassPlan := ⟨.forward, .input, next⟩
  let grad : PassPlan := ⟨.inputGrad, .gradient, if layer = 0 then none else some (layer - 1)⟩
  if later then ([fwd, ⟨.weightGrad, .forwardsDone, none⟩], [grad]) else ([fwd], [grad, ⟨.weightGrad, .inputGradDone, none⟩])

/-- The plan of one seat; `starts` are the first bytes it may take in each stack's pinned range. -/
def seatPlan (j : JobDesc) (part : PartInputs) (stages : List Nat) (starts : List Nat) (q : Nat) : SeatPlan :=
  let g := q / 16
  let k := j.stageOf g
  let layers := (stages.zipIdx.filter (fun p => p.1 == k)).map Prod.snd
  let descs := layers.filterMap (fun i => j.layers[i]?)
  let shares := descs.flatMap (fun l => [l.fwd + l.wgrad, l.igrad])
  let groups := layGroups (apportion 512 shares) 0
  let die := fun (layer : Nat) => groupDie groups (layers.idxOf layer)
  let sh := layShards j q layers groups starts
  let rate := fun (t : TensorDesc) => ((part.rates.find? (fun r => r.1 == t.number)).map Prod.snd).getD t.hint
  let shards := fitReserve j g sh.1.length (sh.1.map (fun p => { p with method := methodOf part.fast (rate p.tensor) p.bytes }))
  let dress : WingsFill := if part.dress = 0 then (List.replicate 8 0, [])
    else (List.range 8).foldl (fun w d => w.add .dressCheck d part.dress) (List.replicate 8 0, [])
  let act := (layers.zip descs).foldl (fun (w : WingsFill) p => w.add (.activations p.1) (die p.1) p.2.act) dress
  let gathered := j.tensors.filter (fun t => decide (1 < j.d) && decide (t.gather ≠ 0) && layers.contains t.layer)
  let spare := part.general.zipIdx.map (fun p => p.1 - scratchOf gathered die p.2)
  let df := (layers.zip descs).foldl (fun (w : WingsFill × List Nat) p =>
    match w.1.try spare (.deferred p.1) (die p.1) p.2.defer with | some n => (n, w.2 ++ [p.1]) | none => w) (act, [])
  let most := gathered.foldl (fun m t => max m t.gather) 0
  let kp := keepAll part.general die (sortBy (fun t => most - t.gather) gathered) [] df.1
  let full := layAgain (gathered.filter (fun t => !kp.2.contains t.number)) die kp.1
  let plans := groups.zipIdx.map (fun p =>
    let layer := layers.getD (p.2 / 2) 0
    let l := passesOf j layer (df.2.contains layer)
    (⟨layer, if p.2 % 2 = 0 then l.1 else l.2, p.1.1, p.1.2⟩ : GroupPlan))
  let res := reserveOf j g shards
  let bad :=
    if 512 < groups.length then 1
    else if (full.1.zip part.general).any (fun n => decide (n.2 < n.1)) then 2
    else if sh.2.any (fun n => decide (2 ^ 36 < n)) then 3
    else if (List.range 8).any (fun k => decide (1024 < (shards.filter (fun p => p.stack == k)).length)) then 4
    else if j.reserve < res ∨ 2 ^ 38 < j.reserve then 6
    else 0
  ⟨q, j.posOf q, k, layers, j.itemsOf q layers, plans, shards, starts, sh.2, full.2, full.1, df.2, kp.2, res, bad⟩

/-- The plan of one seat beside the one it, or the seat it was promoted into the place of, has (R345): before the old copies where it fits there, else after them. -/
def seatBeside (j : JobDesc) (part : PartInputs) (stages : List Nat) (old : Option Plan) (q : Nat) : SeatPlan :=
  let low := seatPlan j part stages (List.replicate 8 0) q
  let was := ((part.stood.find? (fun p => p.1 == q)).map Prod.snd).getD q
  match old.bind (fun p => p.seats.find? (fun e => e.seat == was)) with
  | none => low
  | some o => if (low.ends.zip o.starts).all (fun e => decide (e.1 ≤ e.2)) then low else seatPlan j part stages o.ends q

/-- A re-shard's description: the layer stages, the cut kinds and the format words are those of the job before (R343). -/
def JobDesc.keeping (j : JobDesc) (old : Option JobDesc) : JobDesc :=
  match old with
  | none => j
  | some o => { j with
      stages := o.stages
      layers := j.layers.zipIdx.map (fun p => match o.layers[p.2]? with | some l => { p.1 with ops := l.ops } | none => p.1)
      tensors := j.tensors.map (fun t => match o.tensors.find? (fun u => u.number == t.number) with
        | some u => { t with cut := u.cut, fmtP := u.fmtP, fmtR := u.fmtR, fmtMV := u.fmtMV, gcode := u.gcode } | none => t) }

/-- Every seat of a job that holds layers, in ascending order. -/
def JobDesc.workers (j : JobDesc) : List Nat := (j.members.map (fun q => q.seat)).filter (fun q => j.works q)

/-- Input and link checks (R323-R325, R343). -/
def JobDesc.fails (j : JobDesc) (reshard : Bool) : Nat :=
  if j.stages = 0 ∨ j.layers.length < j.stages ∨ j.t = 0 ∨ j.seats.isEmpty then 8
  else if 8 < j.t then 5
  else if j.stageDim.isNone then 5
  else if (List.range j.stages).any (fun k => decide ((j.holders k).length < if j.dataInside then 1 else max j.d 1)) then 5
  else if !reshard && (List.range j.stages).any (fun k => (j.holders k).any (fun g => decide ((j.crew g).length < if j.dataInside then j.d else j.t))) then 5
  else if reshard && decide (j.stages ≤ (j.companies.filter (fun g => !(j.holders (j.stageOf g)).contains g)).length) then 5
  else 0

/-- The layer stage of each layer: split by cost, or as the plan before has it (R323, R343). -/
def JobDesc.layerStages (j : JobDesc) (old : Option Plan) : Option (List Nat) :=
  match old.filter (fun p => p.stages.length == j.layers.length) with
  | some p => some p.stages
  | none => (layerSplit (j.layers.map (fun l => l.cost)) j.stages).map stageOfLayers

/-- The plan (R316-R345); a re-shard is made beside the plan that `old` holds. -/
def makePlan (j : JobDesc) (part : PartInputs) (old : Option Plan) (reshard : Bool) : Plan :=
  let old := if reshard then old else none
  match j.fails reshard with
  | 0 =>
    (match j.layerStages old with
    | none => ⟨[], [], 8, 0xFFFF⟩
    | some stages =>
      let seats := j.workers.map (fun q => seatBeside j part stages old q)
      match seats.find? (fun p => p.result != 0) with
      | some p => ⟨stages, seats, p.result, p.seat⟩
      | none => ⟨stages, seats, 0, 0xFFFF⟩)
  | r => ⟨[], [], r, 0xFFFF⟩

/-- A tensor record (Table 11.3). A seat that does not hold the tensor's layer holds none of it: what it would hold is zero. -/
def Machine.SeatPlan.record (p : SeatPlan) (d : Nat) (stages : List Nat) (t : TensorDesc) : Nat :=
  let l := p.shards.filter (fun s => s.tensor.number == t.number)
  let all := t.count * 2 ^ 64 + t.number * 2 ^ 48 + stages.getD t.layer 0 * 2 ^ 40 + t.cut * 2 ^ 24
  match l.head? with
  | none => all
  | some h =>
    let bytes := (l.map PShard.bytes).sum
    (((h.copies.headD (0, 0)).1 * 2 ^ 212) + bytes * 2 ^ 160 + h.first * 2 ^ 128 + h.items * 2 ^ 96 + all
      + 3 * 2 ^ 36 + h.stack * 2 ^ 32 + h.method * 2 ^ 30
      + (if t.gather = 0 ∨ d ≤ 1 then 0 else if p.keeps.contains t.number then 1 else 2) * 2 ^ 28
      + b2n (p.deferred.contains t.layer) * 2 ^ 27 + h.entry * 2 ^ 14)

/-- Trap bytes of a seat: what its plan takes of the pinned ranges, the flash staging area among it, and its reserve. -/
def Machine.SeatPlan.trap (p : SeatPlan) : Nat := p.ends.sum - p.starts.sum + p.reserve

/-- The header of a report after PLAN_ID (Table 11.2). -/
def reportHead (result stages seats records wings trap reserve est bubble fail : Nat) : List Byte :=
  leBytes result 1 ++ leBytes stages 1 ++ leBytes seats 2 ++ leBytes records 4 ++ leBytes wings 8 ++ leBytes trap 8 ++ leBytes reserve 8
    ++ leBytes est 4 ++ leBytes bubble 2 ++ leBytes fail 2 ++ List.replicate 16 0

/-- The report (R350, Tables 11.2 and 11.3) without PLAN_ID, and PLAN_ID over it (R318): a record for every seat and tensor. STEP_EST and
BUBBLE are the firmware's estimates. -/
def Machine.Plan.report (p : Plan) (j : JobDesc) (est bubble : Nat) : List Byte :=
  let recs := p.seats.flatMap (fun q => (sortBy TensorDesc.number j.tensors).map (fun t => q.record j.d p.stages t))
  let big := fun (f : SeatPlan → Nat) => (p.seats.map f).foldl max 0
  reportHead p.result j.stages p.seats.length recs.length (big (fun q => q.wings.foldl max 0)) (big SeatPlan.trap) (big (fun q => q.reserve))
    est bubble p.fail ++ recs.flatMap (fun r => leBytes r 32)

/-- The way from one coordinate to another on a ring of `n`: the coordinates crossed, and whether it runs downward; the shorter way,
upward on a tie (R327). -/
def ringWay (n a b : Nat) : List Nat × Bool :=
  let up := (b + n - a) % n
  let down := (a + n - b) % n
  if up ≤ down then ((List.range up).map (fun i => (a + i + 1) % n), false)
  else ((List.range down).map (fun i => (a + n - (i + 1)) % n), true)

/-- The group at some coordinates. -/
def JobDesc.groupAt (j : JobDesc) (x y z : Nat) : Option Nat :=
  (j.seats.find? (fun q => q.x == x && q.y == y && q.z == z)).map (fun q => q.seat / 16)

/-- Groups crossed from group to group in dimension order, the last the destination, and the first port (R327). -/
def JobDesc.way (j : JobDesc) (a b : SeatDesc) : List Nat × Nat :=
  let n := fun i => max 1 (j.dims.getD i 1)
  let wx := ringWay (n 0) a.x b.x
  let wy := ringWay (n 1) a.y b.y
  let wz := ringWay (n 2) a.z b.z
  let path := wx.1.filterMap (fun x => j.groupAt x a.y a.z) ++ wy.1.filterMap (fun y => j.groupAt b.x y a.z)
    ++ wz.1.filterMap (fun z => j.groupAt b.x b.y z)
  let port := if !wx.1.isEmpty then 8 + b2n wx.2 else if !wy.1.isEmpty then 10 + b2n wy.2 else 12 + b2n wz.2
  (path, port)

/-- The port of seat `a` that leads straight to seat `b`. -/
def JobDesc.linkPort (j : JobDesc) (a b : SeatDesc) : Option Nat :=
  let p := a.seat % 16
  let q := b.seat % 16
  if a.seat / 16 = b.seat / 16 then (if p = q then none else if q = 8 then some p else some q)
  else if p ≠ q ∨ 8 ≤ p then none
  else
    let w := j.way a b
    if w.1.length = 1 then some w.2 else none

/-- Breadth-first from the cue master: each new seat with its parent, level by level, at most 24 links deep (R40, R327). -/
def JobDesc.bfs (j : JobDesc) : Nat → List SeatDesc → List (SeatDesc × SeatDesc) → List SeatDesc → List (SeatDesc × SeatDesc)
  | 0, _, tree, _ => tree
  | f + 1, front, tree, rest =>
    let new := rest.filterMap (fun b => (front.find? (fun a => (j.linkPort a b).isSome)).map (fun a => (b, a)))
    if new.isEmpty then tree
    else j.bfs f (new.map Prod.fst) (tree ++ new) (rest.filter (fun b => !new.any (fun p => p.1 == b)))

/-- The flood tree's ports at a seat: to its parent and to its children. -/
def JobDesc.treePorts (j : JobDesc) (master me : Nat) : List Nat :=
  match j.seats.find? (fun q => q.seat == master) with
  | none => []
  | some m =>
    let tree := j.bfs 24 [m] [] (sortBy (fun q => q.seat) (j.seats.filter (fun q => q.seat != master)))
    (tree.filterMap (fun p => if p.1.seat = me then j.linkPort p.1 p.2 else if p.2.seat = me then j.linkPort p.2 p.1 else none)).dedup

/-- The seats of set `n` as seat `me` has it (R327). -/
def JobDesc.setSeats (j : JobDesc) (me n : Nat) : List Nat :=
  let g := me / 16
  let k := j.stageOf g
  let at' := fun (k' : Nat) => match (j.holders k')[(j.holders k).idxOf g]? with | some h => j.crew h | none => []
  match n with
  | 0 => (j.seats.filter (fun q => q.seat / 16 == g)).map (fun q => q.seat)
  | 1 => if k = 0 then [] else at' (k - 1)
  | 2 => at' (k + 1)
  | 3 => if j.dataInside then j.crew g else (j.holders k).filterMap (fun h => (j.crew h)[(j.crew g).idxOf me]?)
  | m => j.sets.getD (m - 4) []

/-- Offsets of COPY shards in a mirror slot. -/
def slotOffsets : List PShard → Nat → List (PShard × Nat)
  | [], _ => []
  | p :: r, o => if p.method = 1 then (p, o) :: slotOffsets r (o + page p.bytes) else slotOffsets r o

/-- Pieces of a shard's copy 0 in image order: address and length. -/
def Machine.PShard.pieces (p : PShard) : List (Nat × Nat) := (p.copies.zip p.tensor.comps).map (fun c => (c.1.1, tensorBytes c.2 p.elems))

/-- Pieces with their offsets in the image. -/
def offsets : List (Nat × Nat) → Nat → List (Nat × Nat × Nat)
  | [], _ => []
  | (a, n) :: r, o => (o, a, n) :: offsets r (o + n)

/-- The seat plan of a place of the company. -/
def Machine.Plan.at (p : Plan) (g pos : Nat) : List PShard := ((p.seats.find? (fun q => q.seat / 16 == g && q.pos == pos)).map SeatPlan.shards).getD []

/-- What of pieces lies in bytes [lo, hi) of the image they make up: address, offset in the image, length. -/
def piecesIn (l : List (Nat × Nat)) (lo hi : Nat) : List (Nat × Nat × Nat) :=
  (offsets l 0).filterMap (fun q =>
    let a := max lo q.1
    let b := min hi (q.1 + q.2.2)
    if a < b then some (q.2.1 + (a - q.1), a, b - a) else none)

/-- PARITY tensors of a company. -/
def Machine.Plan.parityOf (p : Plan) (g : Nat) : List TensorDesc :=
  (((List.range 8).flatMap (fun i => p.at g i)).filter (fun s => s.method == 2)).map PShard.tensor |>.dedup

/-- The stripes of a company (R469, R470): parity buffers follow the two slots of a holder's reserve. -/
def Machine.Plan.stripes (p : Plan) (j : JobDesc) (g : Nat) : List StripeArea :=
  ((p.parityOf g).foldl (fun (acc : List StripeArea × Nat) t =>
    let sz := stripeG (largestImage j g t)
    let holders := (List.range 8).map (fun i =>
      let base := 2 * slotBytes (p.at g ((i + 7) % 8)) + acc.2
      (base, base + sz))
    let images := (List.range 8).map (fun i => ((p.at g i).filter (fun s => s.tensor == t && s.method == 2)).flatMap PShard.pieces)
    (acc.1 ++ [⟨t.number, sz, holders, images⟩], acc.2 + 2 * sz)) ([], 0)).1

/-- The areas of a seat's shards (R471). -/
def areasOf (l : List PShard) : List ShardArea :=
  let off := slotOffsets l 0
  let sb := slotBytes l
  (l.filter (fun p => decide (p.elems ≠ 0))).map (fun p =>
    let o := ((off.find? (fun q => q.1 == p)).map Prod.snd).getD 0
    ⟨p.stack, p.entry, p.tensor.number, p.method, p.method, p.keep, p.acc, p.delta, p.bitmap, o, sb + o, p.trig + 128, p.stage⟩)

end Sys2Proof
end

