-- ==== Sys2Proof/Machine/CueTime.lean ====
section
/-!
DEFINITION. Machine/CueTime.lean: the cue count, its distribution and the cue alarms (R36-R49, R585).
-/
namespace Sys2Proof.Machine

/-- Flood a control flit on, but not back by the port it came from. -/
def State.floodFrom (s : State) (p : Nat) (m : Ctl) : State :=
  (s.fab.tree.filter (fun q => q != p)).foldl (fun t q => if t.portUp q then t.ctlOut q 1 m else t) s

/-- The promptbook entry of the cue timer (R585). -/
def State.cueEntry (s : State) (type rest : Nat) : State := s.event 1 0 (type * 2 ^ 56 + rest)

/-- The count becomes `n`, its cue having begun in stage cycle `c`: what is limited to once a cue starts again (R242, R257), and a multiple
of 1024 is latched with the time (R44). -/
def State.setCount (s : State) (n c : Nat) : State :=
  let s : State := if n = s.cue then s else { s with memSeen := [], corrSeen := [] }
  let s : State := { s.setReg R.CU_COUNT (BitVec.ofNat 64 n) with now := { s.now with cueNew := true } }
  if n % 1024 = 0 then (s.setReg R.CU_MAP_CUE (BitVec.ofNat 64 n)).setReg R.CU_MAP_NS (BitVec.ofNat 64 (s.nsAt c)) else s

/-- The cue period in stage cycles (R37). -/
def State.cuePeriod (s : State) : Nat := 15 * s.fld R.CU_CTL_PERIOD

/-- A seat that becomes master while no seat of the job is counting (R43). -/
def State.startCount (s : State) : State :=
  s.setCount (if s.bit R.FH_PTP_STATUS_LOCKED then s.timeNs / (s.fld R.CU_CTL_PERIOD * 10) else 0) s.cueX.start

/-- How much a single period is lengthened: what is still to be moved, at most 15 stage cycles either way (R40). -/
def CueState.step (x : CueState) : Int := max (-15) (min 15 x.slew)

/-- The next period begins where this one ends. Its length is PERIOD's as it stands now (R70), lengthened or shortened (R40). -/
def CueState.next (x : CueState) (period : Nat) : CueState :=
  { x with start := x.start + x.len, len := (period + x.step).toNat, slew := x.slew - x.step }

/-- CUE_INCREMENT: R36-R38, R70: at the end of the cue period, and not before it; the latch of R44 and the cue flits of R39 at their
counts; what is limited to once a cue starts again (R257), and throttled stacks count the cue, and a risk report that was withheld may leave (R466). -/
def execCueIncrement (s : State) : Out :=
  if s.cycle < s.cueX.start + s.cueX.len then .next s
  else
    let n := s.cue + 1
    let s : State := { s with cueX := s.cueX.next s.cuePeriod }
    let s := s.setCount n s.cueX.start
    let s := (List.range 8).foldl (fun t k => if t.fld (R.TP_STATUS_STEP k) < 2 then t else t.addFld (R.TP_THROTTLE_CUES k) 1) s
    let s : State := match s.curtain.announced with
      | some k => if s.curtain.applied && n == k + 56 then s.setFld R.CU_STATUS_CURTAIN_PHASE 6 else s
      | none => s
    .next (if n % 16 = 0 ∧ s.bit R.CU_STATUS_MASTER then s.flood (.cue n s.mySeat 0 false) else s).reportRisk

/-- Does this seat follow a flit of `master` now (R42)? The named master's always; the backup's while the named one is silent;
a former master follows the backup. -/
def State.follows (s : State) (master : Nat) : Bool :=
  let named := s.fld R.CU_CTL_MASTER_SEAT
  let backup := s.bit R.CU_CTL_BACKUP_EN && master == s.fld R.CU_CTL_BACKUP_SEAT
  if s.mySeat = master then false
  else if s.bit R.CU_STATUS_MASTER then backup && s.mySeat == named
  else master == named || (backup && (s.cueX.lastNamed + 64 ≤ s.cue || s.cueX.followed == some master && s.mySeat == named))

/-- The stage cycle in which cue `c` begins by this seat's own count. -/
def State.edgeOf (s : State) (c : Nat) : Int :=
  let x := s.cueX
  if c ≤ s.cue then (x.start : Int) - ((s.cue - c) * s.cuePeriod : Nat) else (x.start : Int) + x.len + ((c - s.cue - 1) * s.cuePeriod : Nat)

/-- Picoseconds as stage cycles, to the nearest. -/
def psCycles (d : Nat) : Nat := (3 * d + 1000) / 2000

/-- A followed flit whose count is taken, `d` cycles on, and, unless the flit was resent, its phase with it (R40, R361). A count that is ahead never goes back (R36). -/
def State.takeCount (s : State) (count d : Nat) (retried : Bool) : State :=
  let p := max 1 s.cuePeriod
  let n := count + d / p
  if n ≤ s.cue then s
  else
    let s : State := if retried then s else { s with cueX := { s.cueX with start := s.cycle - d % p, len := p, slew := 0 } }
    s.setCount n s.cueX.start

/-- What the flit says of the phase (R40, R41): by how many cycles the master's edge of that cue lies after this seat's. Within 30 cycles,
which are 20 ns, the seat is locked and a holdover is over (DESIGN CHOICE: the holdover ends with the alignment). -/
def State.takePhase (s : State) (count d : Nat) : State :=
  let off : Int := (s.cycle : Int) - d - s.edgeOf count
  let s : State := { s with cueX := { s.cueX with slew := off } }
  if off.natAbs ≤ 30 then (s.setFld R.CU_STATUS_HOLDOVER 0).setFld R.CU_STATUS_LOCKED 1 else s.setFld R.CU_STATUS_LOCKED 0

/-- A cue flit is accepted (R40-R42, R361): a seat that has followed nobody takes the count, and so does
any from a flit that was resent; the phase is corrected from every flit that was not. -/
def State.cueIn (s : State) (from? : Option Nat) (count master delay hop : Nat) (retried : Bool) : State :=
  let d := match from? with | some p => delay + s.fld (R.FB_PORT_DELAY_PS p) + hop | none => delay + hop
  let s := match from? with | some p => s.floodFrom p (.cue count master (d % 2 ^ 32) retried) | none => s
  if !s.follows master then s
  else
    let first := s.cueX.followed.isNone
    let s := if s.bit R.CU_STATUS_MASTER then s.setFld R.CU_STATUS_MASTER 0 else s
    let s := if first || retried then s.takeCount count (psCycles d) retried else s
    let s := if master ≠ s.fld R.CU_CTL_MASTER_SEAT then s.raiseFld R.CU_STATUS_FAILOVER else s
    let x := s.cueX
    let s : State := { s with cueX := { x with
      lastFlit := s.cue, followed := some master,
      lastNamed := if master = s.fld R.CU_CTL_MASTER_SEAT then s.cue else x.lastNamed } }
    if retried then s else s.takePhase count (psCycles d)

/-- CUE: a cue flit arrives by port `p`; `hop` is this seat's own forwarding time in ps (R361). -/
def execCue (p : Fin 16) (count : Word) (master : BitVec 15) (delay : BitVec 32) (retried : Bool) (hop : BitVec 32) (s : State) : Out :=
  .next (s.cueIn (some p) count.toNat master.toNat delay.toNat hop.toNat retried)

/-- HOLDOVER: 64 cues without a cue flit from the master (R41, R585); the seat counts on at the nominal period. Where it has followed no
master yet, the entry names the seat of CU_CTL.MASTER_SEAT (DESIGN CHOICE: R585 names the master last followed). -/
def execHoldover (s : State) : Out :=
  if s.bit R.CU_STATUS_MASTER || s.bit R.CU_STATUS_HOLDOVER || !s.jobOpen || decide (s.cue < s.cueX.lastFlit + 64) then .next s
  else
    let last := s.cueX.followed.getD (s.fld R.CU_CTL_MASTER_SEAT)
    let s : State := { s with cueX := { s.cueX with heldAt := s.cue, slew := 0 } }
    let s := (s.setFld R.CU_STATUS_HOLDOVER 1).setFld R.CU_STATUS_LOCKED 0
    .next (s.cueEntry 1 (last * 2 ^ 32 + s.cue % 2 ^ 32))

/-- CUT_OFF: 1024 cues in holdover (R41); a seat that holds for want of a master is not cut off (R489). -/
def execCutOff (s : State) : Out :=
  if !s.bit R.CU_STATUS_HOLDOVER || s.bit R.CU_STATUS_CUT_OFF || s.res.noMaster || decide (s.cue < s.cueX.heldAt + 1024) then .next s
  else .next ((s.raiseFld R.CU_STATUS_CUT_OFF).loseSeat s.mySeat)

/-- BACKUP_MASTER_TAKEOVER: R42. A backup that has followed no master knows of no seat that counts: it starts the count (R43). -/
def execBackupMasterTakeover (s : State) : Out :=
  if !s.bit R.CU_CTL_BACKUP_EN || s.bit R.CU_STATUS_MASTER || decide (s.fld R.CU_CTL_BACKUP_SEAT ≠ s.mySeat) || !s.jobOpen
      || decide (s.cue < s.cueX.lastNamed + 64) then .next s
  else
    let s := (((s.setFld R.CU_STATUS_MASTER 1).raiseFld R.CU_STATUS_FAILOVER).setFld R.CU_STATUS_HOLDOVER 0).setFld R.CU_STATUS_LOCKED 0
    .next (if s.cueX.followed.isNone then s.startCount else s)

/-- A write of CU_ALARM_CTL (R48, Table 2.8): an alarm it arms, or leaves armed, is compared from the next cycle on. -/
def State.alarmCtlWrite (s : State) (n off len v : Nat) : State :=
  let s := s.regWrite (R.CU_ALARM_CTL n) off len v
  if s.bit (R.CU_ALARM_CTL_ARM n) then { s with now := { s.now with armed := n :: s.now.armed } } else s

/-- ALARM_ARM: the booth writes CU_ALARM_CTL of alarm `n`. -/
def execAlarmArm (n : Fin 32) (v : Word) (s : State) : Out := .next (s.alarmCtlWrite n 0 8 v.toNat)

/-- ALARM_FIRE: the first compared cycle in which the count is at the target or past it (R48, R449, R585). -/
def execAlarmFire (n : Fin 32) (s : State) : Out :=
  let target := (s.reg (R.CU_ALARM_TGT n)).toNat
  if !s.bit (R.CU_ALARM_CTL_ARM n) || s.now.armed.contains n.val || decide (s.cue < target) then .next s
  else
    let s := (s.setFld (R.CU_ALARM_CTL_ARM n) 0).raiseFld (R.CU_ALARM_CTL_FIRED n)
    let s := if target < s.cue then (s.raiseFld (R.CU_ALARM_CTL_LATE n)).raiseFld R.CU_STATUS_LATE_ALARM else s
    match s.fld (R.CU_ALARM_CTL_ACTION n) with
    | 0 => .next (s.send (.booth 1 n))
    | 1 => .next (s.post (s.fld (R.CU_ALARM_CTL_CHANNEL n)) .cueTimer
        (BitVec.ofNat 64 (s.fld (R.CU_ALARM_CTL_TAG n) * 2 ^ 56 + R.CU_ALARM_CTL n)))
    | a => .next (s.cueEntry 2 (n * 2 ^ 48 + a * 2 ^ 40 + target % 2 ^ 32))

end Sys2Proof.Machine
end

