-- ==== Sys2Proof/Machine/CmdBase.lean ====
section
/-!
DEFINITION. Machine/CmdBase.lean: the life of a taken command (R426-R440): its statuses and how other units end it.
-/
namespace Sys2Proof.Machine

/-- Opcodes of Table 14.4. -/
def opcNop : Nat := 0x01
def opcRegRead : Nat := 0x02
def opcRegWrite : Nat := 0x03
def opcReadLatency : Nat := 0x04
def opcReadBinding : Nat := 0x05
def opcReadPromptbook : Nat := 0x06
def opcReadReport : Nat := 0x07
def opcSessionOpen : Nat := 0x10
def opcSessionClose : Nat := 0x11
def opcWindowAdd : Nat := 0x12
def opcWindowRemove : Nat := 0x13
def opcStoreOpen : Nat := 0x14
def opcJobOpen : Nat := 0x20
def opcJobClose : Nat := 0x21
def opcLoadScene : Nat := 0x22
def opcStageScene : Nat := 0x23
def opcPlace : Nat := 0x24
def opcReshard : Nat := 0x25
def opcJobStart : Nat := 0x26
def opcJobStop : Nat := 0x27
def opcSceneChange : Nat := 0x28
def opcSceneRestore : Nat := 0x29
def opcSetRiskFloor : Nat := 0x30
def opcCheckpointNow : Nat := 0x31
def opcPromote : Nat := 0x32
def opcRestoreCheckpoint : Nat := 0x33
def opcRetirePage : Nat := 0x34
def opcLinkRetrain : Nat := 0x35
def opcWarmReset : Nat := 0x40

/-- Group J (Table 14.4). -/
def groupJ (o : Nat) : Bool := decide (0x21 ≤ o) && decide (o ≤ 0x29)

/-- A parameter of `n` bytes at offset `o`. -/
def CmdRec.par (c : CmdRec) (o n : Nat) : Nat := ofLe ((c.params.drop o).take n)

/-- A status of a command. -/
def State.cmdStatus (s : State) (c : CmdRec) (kind code : Nat) (detail : List Byte) : State :=
  s.putStatus c.session c.id ⟨c.opcode, kind, code, c.seq, c.cookie, c.done % 2 ^ 32, c.total % 2 ^ 32, detail⟩

/-- J commands that have not started, as BT_JOB shows them, and among them the placement requests that wait, as BK_STATUS does (R319). -/
def State.showJobs (s : State) : State :=
  let l := s.host.cmds.filter (fun c => groupJ c.opcode && !c.started)
  (s.setFld R.BT_JOB_JQUEUE l.length).setFld R.BK_STATUS_QUEUED (l.filter (fun c => c.opcode == opcPlace || c.opcode == opcReshard)).length

/-- A command leaves; a window whose removal waited for it goes (R439). -/
def State.cmdGone (s : State) (c : CmdRec) : State :=
  ({ s with host := { s.host with cmds := s.host.cmds.filter (fun d => d.id != c.id) } } : State).showJobs

/-- DONE of a command with its code and DETAIL (R431). -/
def State.cmdDone (s : State) (c : CmdRec) (code : Nat) (detail : List Byte) : State := (s.cmdGone c).cmdStatus c 3 code detail

/-- The command at its place takes a new record. -/
def State.putCmd (s : State) (c : CmdRec) : State :=
  { s with host := { s.host with cmds := s.host.cmds.map (fun d => if d.id = c.id then c else d) } }

/-- A PROGRESS entry of a command as its record now is, unless QUIET; at most one per 10 ms (R431, R433), the time measured on the time
base. -/
def State.cmdProgress (s : State) (c : CmdRec) : State :=
  let due := match c.told with | none => true | some t => decide (t + 10000000 ≤ s.timeNs)
  if c.quiet || !due then s.putCmd c else (s.putCmd { c with told := some s.timeNs }).cmdStatus c 2 0 []

/-- The units of a running command, with a PROGRESS entry when one is due. -/
def State.cmdUnits (s : State) (c : CmdRec) (done total : Nat) : State := s.cmdProgress { c with done := done, total := total }

/-- The first started command of an opcode that is not suspended. -/
def State.runningCmd (s : State) (o : Nat) : Option CmdRec :=
  s.host.cmds.find? (fun c => c.opcode == o && c.started && !c.suspended)

/-- Every started command of an opcode that a condition picks ends. -/
def State.endCmds (s : State) (o : Nat) (pick : CmdRec → Bool) (code : Nat) (detail : List Byte) : State :=
  (s.host.cmds.filter (fun c => c.opcode == o && c.started && pick c)).foldl (fun t c => t.cmdDone c code detail) s

/-- The same, each with all of `units` done. -/
def State.endCmdsOf (s : State) (o : Nat) (pick : CmdRec → Bool) (code units : Nat) (detail : List Byte) : State :=
  (s.host.cmds.filter (fun c => c.opcode == o && c.started && pick c)).foldl
    (fun t c => t.cmdDone { c with done := units, total := units } code detail) s

/-- Does a command of an opcode run that a condition picks? -/
def State.anyCmd (s : State) (o : Nat) (pick : CmdRec → Bool) : Bool :=
  s.host.cmds.any (fun c => c.opcode == o && c.started && pick c)

/-- A resilience code: a promptbook entry from MID 0x005 with the seat and step (R499); `ev` ones go to the host too (R434). -/
def State.resCode (s : State) (ev : Bool) (code seat : Nat) : State :=
  let d := seatStep seat (s.fld R.CU_STEP_STEP)
  if ev then s.hostEvent 5 code d else s.event 5 code d

end Sys2Proof.Machine
end

