-- ==== Sys2Proof/Machine/ResBase.lean ====
section
/-!
DEFINITION. Machine/ResBase.lean: what the resilience engine does with memory (R469-R475, R490): reading and writing areas
with MID 0x005, local XOR reduce-writes, its requests to other seats, and the deltas of PARITY shards.
-/
namespace Sys2Proof.Machine

/-- Causes that fail the engine's work (R478): poison travels instead. -/
def resFails (c : Nat) : Bool := c != 0 && c != 0x43 && c != 0x45

def State.setRes (s : State) (x : ResState) : State := { s with res := x }

/-- Bytes written for the newest checkpoint (R497). -/
def State.wrote (s : State) (n : Nat) : State := s.setRes { s.res with written := s.res.written + n }

/-- MiB of `n` bytes, rounded up (Tables 14.4 and 15.6). -/
def mib (n : Nat) : Nat := (n + (2 ^ 20 - 1)) / 2 ^ 20

/-- Bytes that a promoted understudy receives from this seat, or takes itself as images (Table 15.6). -/
def State.rebuiltMore (s : State) (n : Nat) : State := s.setRes { s.res with rebuild := s.res.rebuild + n }

def State.mibWritten (s : State) : Nat := mib s.res.written

/-- This seat takes no part in its job any more: it has left it, or no seat directs it (R485, R489). -/
def State.outOfJob (s : State) : Bool := s.res.left || s.res.noMaster

/-- A job of the engine has failed. -/
def State.resFail (s : State) (job : Nat) : State := s.setRes { s.res with failed := (s.res.failed ++ [job]).dedup }

/-- Read an area: its bytes with their poison; a cause that is not poison fails the job. -/
def State.resRead (s : State) (job a n : Nat) : List PByte × State :=
  let r := s.moverRead 5 a n 0 false noEcc
  let bad := r.1.2.1.any (fun c => resFails c.1)
  (r.1.1.map (fun b => (b.val, b.psn)), if bad then r.2.resFail job else r.2)

/-- Write an area. -/
def State.resWrite (s : State) (job a : Nat) (l : List PByte) : State :=
  let w := s.moverWrite 5 a 0 false noEcc none l
  if w.1.any (fun c => resFails c.1) then w.2.resFail job else w.2

/-- Zero an area: its bytes and the poison of its units. -/
def State.resZero (s : State) (a n : Nat) : State := s.resWrite 0 a (List.replicate n (0, false))

/-- Sectors of 32 bytes of a list, with their offsets. -/
def sectors (l : List PByte) : List (Nat × List PByte) :=
  (List.range ((l.length + 31) / 32)).map (fun i => (32 * i, (l.drop (32 * i)).take 32))

/-- A sector that has to be sent: not zero, or poisoned. -/
def sectorSet (l : List PByte) : Bool := l.any (fun b => b.1 != 0 || b.2)

/-- XOR a list into an area by local XOR reduce-writes, sector by sector (R277, R473, R490). -/
def State.resXor (s : State) (a : Nat) (l : List PByte) : State :=
  ((sectors l).filter (fun p => sectorSet p.2)).foldl (fun t p =>
    (t.reduceWrite true ⟨5, a + p.1, 0, true, p.2.map Prod.fst, p.2.map Prod.snd, noEcc, .nobody 5⟩).2) s

/-- The area of a shard. -/
def State.area? (s : State) (k i : Nat) : Option ShardArea := s.res.areas.find? (fun a => a.stack == k && a.entry == i)

/-- One copy's image: every present component in the order P, R, M, V (R289, R470). -/
def State.copyImage (s : State) (job k i copy : Nat) : List PByte × State :=
  (s.comps k i).foldl (fun acc c =>
    let r := acc.2.resRead job (s.compBase k i c copy) (s.compBytes k i c)
    (acc.1 ++ r.1, r.2)) ([], s)

/-- Write an image into a copy. -/
def State.writeImage (s : State) (job k i copy : Nat) (l : List PByte) : State :=
  ((s.comps k i).foldl (fun acc c =>
    let n := s.compBytes k i c
    (acc.1.drop n, acc.2.resWrite job (s.compBase k i c copy) (acc.1.take n))) (l, s)).2

/-- XOR of two lists of bytes; poison of either poisons. -/
def xorBytes (a b : List PByte) : List PByte := (a.zip b).map (fun p => (p.1.1 ^^^ p.2.1, p.1.2 || p.2.2))

/-- The copy that holds version `n`: the front copy, or the held back copy if a curtain has passed (R477). -/
def State.copyOf (s : State) (k i n : Nat) : Nat :=
  if s.fld (R.TP_SHARD_W1_VERSION k i) = n then s.frontCopy k i else s.backCopy k i

/-- Apply X of a shard to D: the marked sectors (R473). -/
def State.applyX (s : State) (a : ShardArea) : State :=
  let r := s.resRead 0 a.delta (s.shardBytes a.stack a.entry)
  r.2.resXor a.acc r.1

/-- Post a PARITY_DELTA of a shard on the engine's own path or the booth's queue (R264, R289, R341, R473). On a full resilience
queue it stays owed; on a full booth queue it is not posted (R293). -/
def State.postDelta (s : State) (a : ShardArea) (booth : Bool) : State :=
  let x := s.teStack a.stack
  let d : TeDesc := [teParity * 2 ^ 56 + a.entry, 0, 0, a.delta, a.bitmap, 0, 0, a.recAt]
  if booth then (if s.fld (R.TP_BQ_STATUS_FREE a.stack) = 0 then s else s.setBoothQ a.stack (x.boothQ ++ [d]))
  else if 64 ≤ x.resilQ.length then s.setRes { s.res with owed := (s.res.owed ++ [(a.stack, a.entry)]).dedup }
  else s.setTe a.stack { x with resilQ := x.resilQ ++ [d] }

/-- Shards whose next PARITY_DELTA waited, for X or for room in the queue, are posted once X is free. -/
def State.postOwed (s : State) : State :=
  let free := s.res.owed.filter (fun p => !s.res.deltas.contains p && !s.res.heldX.contains p)
  let s := s.setRes { s.res with owed := s.res.owed.filter (fun p => !free.contains p) }
  free.foldl (fun t p => match t.area? p.1 p.2 with | some a => t.postDelta a false | none => t) s

/-- Every held X is applied (R477). -/
def State.applyHeld (s : State) : State :=
  let h := s.res.heldX
  let s := h.foldl (fun t p => match t.area? p.1 p.2 with | some a => t.applyX a | none => t) s
  (s.setRes { s.res with heldX := [] }).postOwed

/-- HOLD of every shard of the seat (R475, R477). -/
def State.setHolds (s : State) (v : Nat) : State :=
  s.res.areas.foldl (fun t a => t.setFld (R.TP_SHARD_W0_HOLD a.stack a.entry) v) s

/-- The seat that stands at a position of the company. -/
def State.seatAt (s : State) (pos : Nat) : Nat :=
  let own := ((s.job.stand.find? (fun p => p.1 / 16 == s.ownGroup && p.2 == pos)).map Prod.fst).getD (16 * s.ownGroup + pos)
  match s.promoted.find? (fun p => p.1 == own) with
  | some p => p.2
  | none => own

/-- Requests of a job, cut into packets; each is counted until it is acknowledged (R375, R476). -/
def State.resSend (s : State) (job op dst addr : Nat) (l : List PByte) : State :=
  let s := if job = jobCkpt then s.wrote l.length else if job = jobRebuild then s.rebuiltMore l.length else s
  if l.isEmpty then s
  else if dst = s.mySeat then
    if op = opRwXor then s.resXor addr l else s.resWrite job addr l
  else if s.isLost dst then s.resFail job
  else
    (cuts addr addr l.length).foldl (fun t k =>
      let q := (l.drop k.1).take k.2
      let n := ((t.res.wait.find? (fun w => w.1 == job)).map Prod.snd).getD 0
      let t := t.setRes { t.res with wait := (job, n + 1) :: t.res.wait.filter (fun w => w.1 != job) }
      t.sendReq (if job = jobPermute then .permute else .resil job) op 5 dst (addr + k.1) 0 0 (q.map Prod.fst) (q.map Prod.snd) k.2 0) s

/-- Requests of a job not answered. -/
def State.resWait (s : State) (job : Nat) : Nat := ((s.res.wait.find? (fun w => w.1 == job)).map Prod.snd).getD 0

/-- The answers that came for the engine are taken into its jobs. -/
def State.resTake (s : State) : State :=
  let l := s.fab.resilDone
  let s : State := { s with fab := { s.fab with resilDone := [] } }
  l.foldl (fun t r =>
    let n := t.resWait r.1
    let t := t.setRes { t.res with wait := (r.1, n - 1) :: t.res.wait.filter (fun w => w.1 != r.1) }
    if resFails r.2 then t.resFail r.1 else t) s

/-- A message to the cue master; at the master itself it is acted on by the caller. -/
def State.toMaster (s : State) (m : MgmtMsg) : State :=
  s.sendC3 [s.cueMaster] m

/-- Bytes of a die's general area (Table 8.1). -/
def State.generalBytes (s : State) : Nat := 0x1F0000000 - s.cacheN * 2 ^ 28

/-- Where the space of a die's general area ends: its top, or below what scenes staged (scene `id` apart) reserve (R330, R347). -/
def State.sceneTop (s : State) (id : Option Nat) (die : Nat) : Nat :=
  (s.scene.staged.filter (fun x => some x.id != id)).foldl (fun m x => min m (x.low.getD die 0 - (0x10000000000 + 0x200000000 * die)))
    s.generalBytes

/-- The live seats of the job. -/
def State.liveSeats (s : State) : List Nat := s.job.seats.filter (fun q => !s.res.lost.contains q && !s.isLost q)

end Sys2Proof.Machine
end

