-- ==== Sys2Proof/Machine/Sha512.lean ====
section
/-!
DEFINITION. Machine/Sha512.lean: SHA-512 (FIPS 180-4, which ch. 0's table of standards names), which image digests, PLAN_ID
and firmware checks use (R198, R318, R480).

A block is run on two histories of four words, the accumulators a (newest first) and e, beside a sliding window of sixteen
message words: no eight-variable tuple and no 80-word schedule is ever laid out.
-/
namespace Sys2Proof.Machine

/-- The 80 round constants, five to a row, the first in the highest bits. -/
def shaKRows : List Nat := [
  0x428a2f98d728ae227137449123ef65cdb5c0fbcfec4d3b2fe9b5dba58189dbbc3956c25bf348b538,
  0x59f111f1b605d019923f82a4af194f9bab1c5ed5da6d8118d807aa98a303024212835b0145706fbe,
  0x243185be4ee4b28c550c7dc3d5ffb4e272be5d74f27b896f80deb1fe3b1696b19bdc06a725c71235,
  0xc19bf174cf692694e49b69c19ef14ad2efbe4786384f25e30fc19dc68b8cd5b5240ca1cc77ac9c65,
  0x2de92c6f592b02754a7484aa6ea6e4835cb0a9dcbd41fbd476f988da831153b5983e5152ee66dfab,
  0xa831c66d2db43210b00327c898fb213fbf597fc7beef0ee4c6e00bf33da88fc2d5a79147930aa725,
  0x06ca6351e003826f142929670a0e6e7027b70a8546d22ffc2e1b21385c26c9264d2c6dfc5ac42aed,
  0x53380d139d95b3df650a73548baf63de766a0abb3c77b2a881c2c92e47edaee692722c851482353b,
  0xa2bfe8a14cf10364a81a664bbc423001c24b8b70d0f89791c76c51a30654be30d192e819d6ef5218,
  0xd69906245565a910f40e35855771202a106aa07032bbd1b819a4c116b8d2d0c81e376c085141ab53,
  0x2748774cdf8eeb9934b0bcb5e19b48a8391c0cb3c5c95a634ed8aa4ae3418acb5b9cca4f7763e373,
  0x682e6ff3d6b2b8a3748f82ee5defb2fc78a5636f43172f6084c87814a1f0ab728cc702081a6439ec,
  0x90befffa23631e28a4506cebde82bde9bef9a3f7b2c67915c67178f2e372532bca273eceea26619c,
  0xd186b8c721c0c207eada7dd6cde0eb1ef57d4f7fee6ed17806f067aa72176fba0a637dc5a2c898a6,
  0x113f9804bef90dae1b710b35131c471b28db77f523047d8432caab7b40c724933c9ebe0a15c9bebc,
  0x431d67c49c100d4c4cc5d4becb3e42b6597f299cfc657e2a5fcb6fab3ad6faec6c44198c4a475817]

/-- The eight initial words, four to a row, the first in the highest bits: the a history of a block's start (words 0 to 3)
and its e history (words 4 to 7). -/
def shaStart : Nat × Nat := (
  0x6a09e667f3bcc908bb67ae8584caa73b3c6ef372fe94f82ba54ff53a5f1d36f1,
  0x510e527fade682d19b05688c2b3e6c1f1f83d9abfb41bd6b5be0cd19137e2179)

/-- A row of n 64-bit words, the first in the highest bits. -/
def rowWords (n x : Nat) : List Word := (List.range n).map (fun i => BitVec.ofNat 64 (x >>> (64 * (n - 1 - i))))

/-- The round constants in round order. -/
def shaK : List Word := shaKRows.flatMap (rowWords 5)

/-- The XOR of a word's rotations to the right by each of these amounts. -/
def rotMix (x : Word) (by_ : List Nat) : Word := by_.foldl (fun acc r => acc ^^^ x.rotateRight r) 0

/-- What a block carries between rounds: the newest four a words, the newest four e words, and the sixteen message words
from the round's own on. -/
structure ShaRun where
  as : List Word
  es : List Word
  window : List Word
  deriving DecidableEq, Repr

/-- One round with constant k: the new e word is the oldest a word plus t, the new a word t plus the a history's mix; the
window slides by one word. -/
def ShaRun.round (r : ShaRun) (k : Word) : ShaRun :=
  let a := fun i => r.as.getD i 0
  let e := fun i => r.es.getD i 0
  let m := fun i => r.window.getD i 0
  let choose := e 2 ^^^ (e 0 &&& (e 1 ^^^ e 2))
  let majority := (a 0 &&& (a 1 ||| a 2)) ||| (a 1 &&& a 2)
  let t := e 3 + rotMix (e 0) [14, 18, 41] + choose + k + m 0
  let next := m 0 + (rotMix (m 1) [1, 8] ^^^ (m 1 >>> 7)) + m 9 + (rotMix (m 14) [19, 61] ^^^ (m 14 >>> 6))
  { as := (t + rotMix (a 0) [28, 34, 39] + majority) :: r.as.take 3
    es := (a 3 + t) :: r.es.take 3
    window := r.window.drop 1 ++ [next] }

/-- A block of 128 bytes on the pair of histories a digest stands in. -/
def shaBlock (h : List Word × List Word) (block : List Byte) : List Word × List Word :=
  let words := (List.range 16).map (fun i => BitVec.ofNat 64 (ofBe ((block.drop (8 * i)).take 8)))
  let r := shaK.foldl ShaRun.round { as := h.1, es := h.2, window := words }
  (h.1.zipWith (· + ·) r.as, h.2.zipWith (· + ·) r.es)

/-- The message with its padding: one set bit, zeros, and the length in bits in the last 16 bytes of a block. -/
def shaPad (l : List Byte) : List Byte :=
  let fill := (239 - l.length % 128) % 128
  l ++ (0x80 :: List.replicate fill 0) ++ beBytes (8 * l.length) 16

/-- SHA-512 of a byte string: 64 bytes. -/
def sha512 (l : List Byte) : List Byte :=
  let m := shaPad l
  let h := (List.range (m.length / 128)).foldl (fun h i => shaBlock h (m.drop (128 * i)))
    (rowWords 4 shaStart.1, rowWords 4 shaStart.2)
  ((List.range 4).map (fun i => h.1.getD i 0) ++ (List.range 4).map (fun i => h.2.getD i 0)).flatMap
    (fun w => beBytes w.toNat 8)

end Sys2Proof.Machine
end

