-- ==== Sys2Proof/Machine/Ckpt.lean ====
section
/-!
DEFINITION. Machine/Ckpt.lean: checkpoints (R463-R481) and the digest of a promptbook tail (R522): the order, the drain, commit and abandon, flash images and the store.
-/
namespace Sys2Proof.Machine

/-- The digest that a tail's header holds (R522). -/
def tailDigest (l : List PbRec) : List Byte := (sha512 (l.flatMap PbRec.toBytes)).take 8

/-- A job record, in the order R463 lists it: JOB, n, SCENE_ID, PLAN_ID, seed, party indices, CB_BIND. -/
def recordBytes (job n scene plan seed : Nat) (party : List Nat) (bind : List Word) : List Byte :=
  leBytes job 4 ++ leBytes n 4 ++ leBytes scene 2 ++ leBytes plan 8 ++ leBytes seed 8 ++ (List.range 3).flatMap (fun i => leBytes (party.getD i 0) 2)
    ++ (List.range 256).flatMap (fun i => leBytes (bind.getD i 0).toNat 8)

/-- Bytes of a job record. -/
def recordSize : Nat := 2080

/-- The seat's 256 CB_BIND entries. -/
def State.bindings (s : State) : List Word := (List.range 256).map (fun i => s.reg (R.CB_BIND i))

/-- The job record of this seat for version `n` (R463). -/
def State.jobRecord (s : State) (n : Nat) : List Byte :=
  recordBytes (s.fld R.BT_JOB_JOB) n s.scene.id (s.reg R.BK_PLAN_ID).toNat s.scene.seed s.job.party s.bindings

/-- A new method takes effect: a shard that becomes PARITY starts with D at the front copy, since no stripe holds any of it. -/
def State.takeMethods (s : State) : State :=
  s.res.areas.foldl (fun t a =>
    if a.next = a.method then t
    else
      let t := if a.next = 2 then
          let r := t.copyImage 0 a.stack a.entry (t.frontCopy a.stack a.entry)
          r.2.resWrite 0 a.acc r.1 else t
      t.setRes { t.res with areas := t.res.areas.map (fun b => if b.stack = a.stack ∧ b.entry = a.entry then { b with method := a.next } else b) }) s

/-- The side a checkpoint is written into: the one that does not hold the committed one (R474). -/
def State.newSide (s : State) : Nat := match s.res.side with | some b => 1 - b | none => 0

/-- COPY drains: every COPY shard's front copy, the images and the job record go to the partner (R469, R474). -/
def State.copyDrain (s : State) (n : Nat) : State :=
  let b := s.newSide
  let p := s.seatAt ((s.standsAt + 1) % 8)
  let s := (s.res.areas.filter (fun a => a.method == 1)).foldl (fun t a =>
    let r := t.copyImage jobCkpt a.stack a.entry (t.frontCopy a.stack a.entry)
    r.2.resSend jobCkpt opWrite p (if b = 0 then a.mirror0 else a.mirror1) r.1) s
  let rec' := (s.jobRecord n ++ s.scene.images.flatten).map (fun x => (x, false))
  s.resSend jobCkpt opWrite p (if b = 0 then s.res.recordAt.1 else s.res.recordAt.2) rec'

/-- The stripe this seat holds: its committed buffer is copied into the other, or that one is zeroed when the holder has none
committed, and the members are told (R474). -/
def State.stripeCopy (s : State) : State :=
  let j := s.standsAt
  let b := s.newSide
  let s := s.res.stripes.foldl (fun t st =>
    let h := st.holders.getD j (0, 0)
    let old := if b = 0 then h.2 else h.1
    let new := if b = 0 then h.1 else h.2
    let t := t.wrote st.g
    if t.res.side.isNone ∨ t.res.fresh.contains j then t.resZero new st.g
    else
      let r := t.resRead jobCkpt old st.g
      r.2.resWrite jobCkpt new r.1) s
  if s.res.stripes.isEmpty then s
  else ((List.range 8).filter (fun m => m != j)).foldl (fun t m => t.sendC3 [t.seatAt m] (.parityReady j)) s

/-- Is this seat a member of a company of the job (or an understudy in a member's place)? -/
def State.isMember (s : State) : Bool := s.job.seats.contains s.mySeat && decide (s.standsAt < 8)

/-- The flash and store layers that a CHECKPOINT_NOW waits for. -/
def CmdRec.layers (c : CmdRec) : Nat := c.par 0 1

/-- What the pending CHECKPOINT_NOWs of this seat ask for: their layers, and 8 while any is pending, whatever layers it names (R467). -/
def State.ckptAsks (s : State) : Nat :=
  (s.host.cmds.filter (fun c => c.opcode == opcCheckpointNow && c.started && c.word == 0)).foldl (fun a c => Nat.lor a (Nat.lor 8 c.layers)) 0

/-- A member's segment of a stripe for one tensor: of D, or of the front copy toward a holder that has joined (R470, R474): the copy that
held the checkpoint's step when it was ordered, whichever it is since (R58). -/
def State.segment (s : State) (st : StripeArea) (a : ShardArea) (stripe : Nat) (front : Bool) : List PByte × State :=
  let i := (stripe + 7 - s.standsAt) % 8
  let n := s.shardBytes a.stack a.entry
  let n0 := (s.res.opened.map (fun o => o.2.1)).getD (s.fld (R.TP_SHARD_W1_VERSION a.stack a.entry))
  let r := if front then s.copyImage jobCkpt a.stack a.entry (s.copyOf a.stack a.entry n0) else s.resRead jobCkpt a.acc n
  (((r.1 ++ List.replicate (7 * st.g - r.1.length) (0, false)).drop (i * st.g)).take st.g, r.2)

/-- The parity sends toward the holder of a stripe (R474). -/
def State.paritySend (s : State) (stripe : Nat) : State :=
  let b := s.newSide
  let front := s.res.side.isNone || s.res.fresh.contains stripe
  s.res.stripes.foldl (fun t st =>
    (t.res.areas.filter (fun a => a.tensor == st.tensor && a.method == 2)).foldl (fun u a =>
      let r := u.segment st a stripe front
      let h := st.holders.getD stripe (0, 0)
      let base := if b = 0 then h.1 else h.2
      ((sectors r.1).filter (fun p => sectorSet p.2)).foldl (fun v p =>
        v.resSend jobCkpt opRwXor (v.seatAt stripe) (base + p.1) p.2) r.2) t) s

/-- The stripe's holder is ready: this member's parity sends toward it go (R474). -/
def State.stripeReady (s : State) (stripe : Nat) : State :=
  (s.setRes { s.res with ready := s.res.ready.erase stripe }).paritySend stripe

/-- The ready messages that came before the order (R474). -/
def State.takeEarly (s : State) : State :=
  let l := s.res.readyEarly.filter (fun q => s.res.ready.contains q)
  l.foldl State.stripeReady (s.setRes { s.res with readyEarly := [] })

/-- The order of a checkpoint is accepted (R474): it serves every pending CHECKPOINT_NOW whose layers it has. A seat out of the job takes none
(R485, R489). -/
def State.ckptOrder (s : State) (k n layers : Nat) : State :=
  if s.res.opened.isSome || s.outOfJob then s
  else
    let s := s.takeMethods
    let ready := if s.res.stripes.isEmpty then [] else (List.range 8).filter (fun m => m != s.standsAt)
    let s := s.setRes { s.res with
      opened := some (k, n, layers), ready := ready, doneSent := false, written := 0, lastK := max s.res.lastK k,
      failed := s.res.failed.filter (fun j => j != jobCkpt) }
    let s := (s.setFld R.RS_CKPT_STATE_OPEN_STEP n).setFld R.RS_CKPT_STATE_PHASE 1
    let s : State := { s with host := { s.host with cmds := s.host.cmds.map (fun c =>
      if c.opcode = opcCheckpointNow ∧ c.started ∧ c.word = 0 ∧ Nat.land c.layers layers = c.layers then { c with word := k } else c) } }
    let s := s.setRes { s.res with asked := s.ckptAsks }
    if s.isMember then (s.copyDrain n).stripeCopy.takeEarly else s.setRes { s.res with ready := [], readyEarly := [] }

/-- Every drain and send of the open checkpoint is acknowledged, or it failed: CKPT_DONE goes to the cue master (R476). -/
def State.ckptSettle (s : State) : State :=
  match s.res.opened with
  | none => s
  | some (k, _, _) =>
    let bad := s.res.failed.contains jobCkpt
    if s.res.doneSent || (!bad && (!s.res.ready.isEmpty || s.resWait jobCkpt != 0)) then s
    else
      let s := (s.setRes { s.res with doneSent := true, done := s.res.done ++ (if s.bit R.CU_STATUS_MASTER then [(s.mySeat, bad)] else []) })
      (s.setFld R.RS_CKPT_STATE_PHASE 2).toMaster (.ckptDone k bad)

/-- What the engine does when answers have come: a checkpoint may be done. -/
def State.settle (s : State) : State := s.resTake.ckptSettle

/-- The cue master's order leaves, and it accepts it itself (R467, R474). One that a checkpoint or a recovery has overtaken is given up: what
it was asked for is pending again. -/
def State.floodOrder (s : State) (o : CkptOrder) : State :=
  let s := s.setRes { s.res with order := none }
  if s.res.opened.isSome || s.res.recovering || s.outOfJob then s.setRes { s.res with asked := Nat.lor s.res.asked o.asked }
  else (s.sendC3 s.mates (.ckptOrder o.k o.n o.layers)).ckptOrder o.k o.n o.layers

/-- The order that this seat, as the cue master, has yet to give. -/
def State.orderDue (s : State) : Option CkptOrder := if s.bit R.CU_STATUS_MASTER then s.res.order else none

/-- CHECKPOINT_ORDER: an order that comes is accepted; at the cue master it is the master's own, which leaves at K + 56 (R467, R474). -/
def execCheckpointOrder (k n : BitVec 32) (layers : Fin 8) (s : State) : Out :=
  match s.orderDue with
  | some o => .next (if o.due ≤ s.cue then (s.floodOrder o).settle else s)
  | none => .next (s.ckptOrder k.toNat n.toNat layers).settle

/-- PARITY_READY: R474. One that comes before this seat has accepted the order is kept until it does. -/
def execParityReady (stripe : Fin 8) (s : State) : Out :=
  if s.outOfJob then .next s
  else if s.res.opened.isNone then .next (s.setRes { s.res with readyEarly := (s.res.readyEarly ++ [stripe.val]).dedup })
  else if s.res.ready.contains stripe.val then .next (s.stripeReady stripe).settle
  else .next s

/-- Rate of change of a shard per 2¹⁶ sectors (R340). -/
def State.rateOf (s : State) (a : ShardArea) : Nat :=
  let n := (s.shardBytes a.stack a.entry + 31) / 32
  if n = 0 then 0 else s.fld (R.TP_SHARD_W2_CHANGED a.stack a.entry) * 2 ^ 16 / n

/-- The rate of change of a shard: as measured, or before any measurement the job's hint (R340). -/
def State.shardRate (s : State) (a : ShardArea) : Nat :=
  if s.res.measured.contains (a.stack, a.entry) then s.rateOf a
  else ((s.job.desc.bind (fun j => j.tensors.find? (fun t => t.number == a.tensor))).map (fun t => t.hint)).getD 0

/-- After a checkpoint each shard's method is evaluated again, and COPY shards come due for measurement (R341). -/
def State.reMethod (s : State) (k : Nat) : State :=
  let fast := s.fld R.BK_CFG_FAST
  let areas := s.res.areas.map (fun a =>
    let r := s.shardRate a
    if a.method = 2 ∧ fast ≤ r then { a with next := 1 }
    else if a.method = 1 ∧ 2 ^ 26 ≤ s.shardBytes a.stack a.entry ∧ 2 * r < fast then { a with next := 2 }
    else { a with next := a.method })
  let p := s.fld R.BK_CFG_PROBE
  let due := decide (p ≠ 0) && decide (k % p = 0)
  s.setRes { s.res with
    areas := areas,
    probe := if due then (areas.filter (fun a => a.method == 1)).map (fun a => (a.stack, a.entry)) else s.res.probe }

/-- CHECKPOINT_NOW commands of which every layer is durable end (Table 15.6). -/
def State.ckptCmds (s : State) (pick : CmdRec → Bool) (code : Nat) : State :=
  s.endCmdsOf opcCheckpointNow (fun c => pick c && c.word != 0) code s.mibWritten (leBytes (s.fld R.RS_CKPT_STEP) 4 ++ leBytes (s.fld R.RS_CKPT_NUMBER) 4)

/-- CKPT_COMMIT accepted (R477). With flash due, X stays held and HOLD set until F is staged (R479). -/
def State.ckptCommit (s : State) (k n : Nat) : State :=
  match s.res.opened with
  | none => s
  | some (k', _, layers) =>
    if k' ≠ k then s
    else
      let flash := bitOf layers 1
      let s := s.setFld R.RS_CKPT_STATE_PHASE 3
      let s := s.setRes { s.res with side := some s.newSide, fresh := [], opened := none, lostSince := [], done := [] }
      let s := (s.res.areas.filter (fun a => a.method == 1)).foldl (fun t a =>
        let r := t.copyImage 0 a.stack a.entry (t.copyOf a.stack a.entry n)
        r.2.resWrite 0 a.keep r.1) s
      let s := (s.res.areas.filter (fun a => a.method == 2)).foldl (fun t a => t.resZero a.acc (t.shardBytes a.stack a.entry)) s
      let s := if flash then s else s.applyHeld.setHolds 0
      let s := (s.setFld R.RS_CKPT_STEP n).setFld R.RS_CKPT_NUMBER k
      let s := (s.setFld R.RS_CKPT_STATE_OPEN_STEP 0).setFld R.RS_CKPT_STATE_PHASE 0
      let s := (s.setFld R.RS_CKPT_STATE_MIRROR_OK (b2n s.isMember)).setFld R.RS_CKPT_STATE_STRIPES_OK 1
      let s := (s.reMethod k).resCode true 0xA0 s.mySeat
      let s := s.setRes { s.res with flashDue := flash, storeDue := bitOf layers 2 }
      s.ckptCmds (fun c => decide (c.layers ≤ 1)) 0

/-- CKPT_ABANDON accepted (R477). -/
def State.ckptAbandon (s : State) (k : Nat) : State :=
  match s.res.opened with
  | none => s
  | some (k', _, _) =>
    if k' ≠ k then s
    else
      let s := s.setRes { s.res with opened := none, ready := [], readyEarly := [], done := [], failed := s.res.failed.filter (fun j => j != jobCkpt) }
      let s := s.applyHeld.setHolds 0
      let s := ((s.setFld R.RS_CKPT_STATE_OPEN_STEP 0).setFld R.RS_CKPT_STATE_PHASE 0).resCode false 0xA1 s.mySeat
      s.ckptCmds (fun _ => true) 0xA1

/-- CKPT_DONE at the cue master: all in, it floods commit; a failure floods abandon (R476). -/
def State.masterDone (s : State) : State :=
  match s.res.opened with
  | none => s
  | some (k, n, _) =>
    if !s.bit R.CU_STATUS_MASTER then s
    else if s.res.done.any Prod.snd then (s.sendC3 s.mates (.ckptAbandon k)).ckptAbandon k
    else if s.liveSeats.all (fun q => s.res.done.any (fun d => d.1 == q)) then (s.sendC3 s.mates (.ckptCommit k n)).ckptCommit k n
    else s

/-- The job record in an image (R463). -/
def FlashImage.record (f : FlashImage) : List Byte := recordBytes f.job f.step f.scene f.planId f.seed f.party f.bind

/-- Where an image's data start (R480). -/
def FlashImage.dataAt (f : FlashImage) : Nat := (0x1000 + 32 * f.shards.length + 0xFFFF) / 0x10000 * 0x10000

/-- LENGTH of an image: header and records, then the shards' data, the job record and the scene images (R480). -/
def FlashImage.size (f : FlashImage) : Nat := f.dataAt + (f.shards.map (fun h => h.data.length)).sum + recordSize + (f.images.map List.length).sum

/-- Bytes of a flash image: the header of Table 15.4 with its digest, records at 0x1000, data from the next 64 KiB boundary
(R480). The records' fields stand in the order R480 lists them; the data are the shards', then the job record, then the scene images
(DESIGN CHOICE: R480 places neither). -/
def FlashImage.toBytes (f : FlashImage) : List Byte :=
  let dataAt := f.dataAt
  let recs := (f.shards.foldl (fun (acc : Nat × List Byte) h =>
    (acc.1 + h.data.length, acc.2 ++ leBytes h.tensor 2 ++ leBytes (1024 * h.stack + h.entry) 2 ++ leBytes h.has 4
      ++ (List.range 4).flatMap (fun i => leBytes (h.fmts.getD i 0) 2) ++ leBytes h.data.length 8 ++ leBytes (dataAt + acc.1) 8))
    (0, [])).2
  let data := f.shards.flatMap (fun h => h.data.map Prod.fst) ++ f.record ++ f.images.flatten
  let gap := List.replicate (dataAt - 0x1000 - recs.length) 0
  let head := leBytes 0x4B504B4300000001 8 ++ leBytes f.job 4 ++ leBytes f.step 4 ++ leBytes f.number 4 ++ leBytes f.seat 2
    ++ leBytes f.shards.length 2 ++ leBytes f.planId 8 ++ leBytes (dataAt + data.length) 8 ++ List.replicate 24 0
  let rest := List.replicate (0x1000 - 0x80) 0 ++ recs ++ gap ++ data
  head ++ sha512 (head ++ List.replicate 64 0 ++ rest) ++ rest

/-- The image of version `n` staged into F: K for COPY shards, front XOR D XOR the held X for PARITY shards (R471, R479, R490). -/
def State.stageImage (s : State) : FlashImage × State :=
  let r := s.res.areas.foldl (fun (acc : List FlashShard × State) a =>
    let t := acc.2
    let n := t.shardBytes a.stack a.entry
    let v : List PByte × State :=
      if a.method = 1 then t.resRead 0 a.keep n
      else
        let f := t.copyImage 0 a.stack a.entry (t.frontCopy a.stack a.entry)
        let d := f.2.resRead 0 a.acc n
        let w := xorBytes f.1 d.1
        if t.res.heldX.contains (a.stack, a.entry) then
          let x := d.2.resRead 0 a.delta n
          (xorBytes w x.1, x.2)
        else (w, d.2)
    let v := (v.1, v.2.resWrite 0 a.stage v.1)
    let has := b2n (t.compHas a.stack a.entry .r) + 2 * b2n (t.compHas a.stack a.entry .m) + 4 * b2n (t.compHas a.stack a.entry .v)
    let fm := t.trigFmts a.stack a.entry
    (acc.1 ++ [⟨a.stack, a.entry, a.tensor, has, [fm.1, fm.2], v.1⟩], v.2)) ([], s)
  (⟨s.fld R.BT_JOB_JOB, s.fld R.RS_CKPT_STEP, s.fld R.RS_CKPT_NUMBER, s.mySeat, (s.reg R.BK_PLAN_ID).toNat, s.scene.id, s.scene.seed,
    s.job.party, s.bindings, r.1, s.scene.images, true⟩, r.2)

/-- FLASH_CHECKPOINT: after a commit whose layers have flash, F is staged, X applied, HOLD cleared and the write begun (R479). -/
def execFlashCheckpoint (s : State) : Out :=
  if !s.res.flashDue || s.res.flashWriting.isSome then .next s
  else
    let r := s.stageImage
    let s := r.2.applyHeld.setHolds 0
    .next ((s.setRes { s.res with flashDue := false, flashWriting := some r.1 }).setFld R.RS_CKPT_STATE_FLASH_WRITING 1)

/-- The slot that does not hold the newest durable image. -/
def State.olderSlot (s : State) : Nat :=
  if !s.bit (R.RS_FLASH_VALID 0) then 0
  else if !s.bit (R.RS_FLASH_VALID 1) then 1
  else if s.fld (R.RS_FLASH_STEP 0) ≤ s.fld (R.RS_FLASH_STEP 1) then 0 else 1

/-- The image being written is durable: its slot's commit record is written (R479). -/
def State.flashDurable (s : State) (f : FlashImage) : State :=
  let i := s.olderSlot
  let s := s.wrote f.size
  let s := s.setRes { s.res with flashWriting := none, flash := if i = 0 then (some f, s.res.flash.2) else (s.res.flash.1, some f) }
  let s := ((s.setFld R.RS_CKPT_STATE_FLASH_WRITING 0).setFld (R.RS_FLASH_VALID i) 1).setFld (R.RS_FLASH_STEP i) f.step
  (s.resCode true 0xA8 s.mySeat).ckptCmds (fun c => c.layers < 4) 0

/-- The flash write failed (R479). -/
def State.flashFail (s : State) : State :=
  let s := (s.setRes { s.res with flashWriting := none, storeDue := false }).setFld R.RS_CKPT_STATE_FLASH_WRITING 0
  (s.resCode false 0xA9 s.mySeat).ckptCmds (fun c => decide (2 ≤ c.layers)) 0xA9

/-- FLASH_IMAGE_COMPLETE: the write ended, well or not (R479); it waits while a NAND die is above 90 °C (R542). -/
def execFlashImageComplete (ok : Bool) (s : State) : Out :=
  match s.res.flashWriting with
  | none => .next s
  | some f =>
    .next (if 90 < s.fld (R.PW_THERM_TEMP 11) then s else if ok ∧ f.size ≤ 4064 * 2 ^ 30 then s.flashDurable f else s.flashFail)

/-- The store copy has failed (R481). -/
def State.storeFail (s : State) : State :=
  ((s.setRes { s.res with storing := false, storeDue := false }).resCode false 0xAB s.mySeat).ckptCmds (fun c => decide (4 ≤ c.layers)) 0xAB

/-- The newest durable flash image. -/
def State.newestImage (s : State) : Option FlashImage := if s.olderSlot = 0 then s.res.flash.2.or s.res.flash.1 else s.res.flash.1.or s.res.flash.2

/-- STORE_CHECKPOINT: the durable image goes to its key region; the last write carries STEP as its immediate (R416, R481). -/
def execStoreCheckpoint (s : State) : Out :=
  match s.host.stores.head?, s.newestImage with
  | some st, some f =>
    if !s.res.storeDue || s.res.storing || s.res.flashWriting.isSome || s.res.flashDue then .next s
    else
      let key := st.keys.getD (s.res.storeCount % max st.keys.length 1) ⟨0, 0, 0⟩
      let l := f.toBytes
      match s.qpList.find? (fun q => q.session == st.session && q.connected && !q.error) with
      | none => .next s.storeFail
      | some q =>
        if key.len < l.length then .next s.storeFail
        else
          let cut := l.length - min l.length q.mtu
          let w := fun (kind off : Nat) (d : List Byte) (imm : Nat) => (⟨0, kind, 0, d.length, key.va + off, key.rkey, imm, d⟩ : QpSent)
          let a := w 0 0 (l.take cut) 0
          let b := w 1 cut (l.drop cut) f.step
          let s := s.setRes { s.res with storing := true, storeDue := false }
          let s := s.qpRequest q a (fun p => ({ a with psn := p } : QpSent).msg) (a.psns q.mtu)
          .next (match s.qp? q.qpn with
            | some q => s.qpRequest q b (fun p => ({ b with psn := p } : QpSent).msg) (b.psns q.mtu)
            | none => s)
  | _, _ => if s.res.storeDue ∧ s.res.flashWriting.isNone ∧ !s.res.flashDue then .next s.storeFail else .next s

/-- STORE_COPY_COMPLETE: every write is acknowledged, or no QP can finish (R481). -/
def execStoreCopyComplete (s : State) : Out :=
  if !s.res.storing then .next s
  else
    match s.host.stores.head? with
    | none => .next s.storeFail
    | some st =>
      let qs := s.qpList.filter (fun q => q.session == st.session && q.requester)
      if qs.any (fun q => !q.error && !q.sent.isEmpty) then .next s
      else if qs.any (fun q => q.error && !q.sent.isEmpty) then .next s.storeFail
      else
        match s.newestImage with
        | none => .next s.storeFail
        | some f =>
          let r := s.res.storeCount % max st.keys.length 1
          let s := (s.wrote f.toBytes.length).setRes { (s.wrote f.toBytes.length).res with
            storing := false, storeCount := s.res.storeCount + 1,
            storeObjects := (f.step, r) :: s.res.storeObjects.filter (fun p => p.2 != r) }
          let s := ((s.setFld R.RS_STORE_STEP f.step).setFld R.RS_STORE_COUNT s.res.storeCount).resCode true 0xAA s.mySeat
          .next (s.ckptCmds (fun c => decide (4 ≤ c.layers)) 0)

/-- DESCRIPTOR_COMPLETE: a running descriptor completes (R265, R276); an optimizer's completion brings the PARITY_DELTA of R473
(or the measurement of R341), and a PARITY_DELTA done leaves X waiting for the verdict. -/
def execDescriptorComplete (k : Fin 8) (r : Fin 128) (s : State) : Out :=
  match s.completeDesc k r with
  | none => .next s
  | some (run, s) =>
    let p := (k.val, run.desc.shard)
    let s := if run.desc.op = teParity ∧ run.result.result = 0 then
        s.setRes { s.res with measured := (s.res.measured ++ [p]).dedup } else s
    let s := match s.area? p.1 p.2 with
      | none => s
      | some a =>
        if run.desc.isOpt ∧ run.result.result = 0 then
          if a.method = 2 then s.setRes { s.res with owed := (s.res.owed ++ [p]).dedup }
          else if s.res.probe.contains p && s.fld (R.TP_BQ_STATUS_FREE k) != 0 then
            (s.setRes { s.res with probe := s.res.probe.erase p }).postDelta a true
          else s
        else if run.desc.op = teParity ∧ run.source = 2 ∧ run.result.result = 0 then
          s.setRes { s.res with deltas := (s.res.deltas ++ [p]).dedup }
        else s
    .next s.postOwed

end Sys2Proof.Machine
end

