-- ==== Sys2Proof/Machine/Scalar.lean ====
section
/-!
DEFINITION. Machine/Scalar.lean: what the prompter's scalar instructions compute (R178-R182), as functions of operand
values; the performing of them, with the timing of Table 5.6, is in Machine/Prompter.lean.
-/
namespace Sys2Proof.Machine

def boolWord (b : Bool) : Word := if b then 1 else 0

/-- Signed division toward zero, saturating (R178). -/
def idivS (a b : Word) : Word :=
  if b = 0 then (if a.toInt < 0 then BitVec.intMin 64 else BitVec.intMax 64)
  else if a = BitVec.intMin 64 ∧ b = -1 then BitVec.intMax 64
  else BitVec.ofInt 64 (a.toInt.tdiv b.toInt)

def iremS (a b : Word) : Word :=
  if b = 0 then a else if a = BitVec.intMin 64 ∧ b = -1 then 0 else BitVec.ofInt 64 (a.toInt.tmod b.toInt)

/-- The integer operations of R178. -/
def intAlu (op : IntOp) (a b : Word) : Word :=
  match op with
  | .add => a + b
  | .sub => a - b
  | .and => a &&& b
  | .or => a ||| b
  | .xor => a ^^^ b
  | .shl => a <<< (b.toNat % 64)
  | .shr => a >>> (b.toNat % 64)
  | .sar => a.sshiftRight (b.toNat % 64)
  | .lt => boolWord (a.slt b)
  | .ltu => boolWord (a.ult b)
  | .min => if a.slt b then a else b
  | .max => if a.slt b then b else a
  | .minu => if a.ult b then a else b
  | .maxu => if a.ult b then b else a
  | .mul => a * b
  | .mulh => BitVec.ofInt 64 ((a.toInt * b.toInt) / 2 ^ 64)
  | .mulhu => BitVec.ofNat 64 (a.toNat * b.toNat / 2 ^ 64)
  | .div => idivS a b
  | .divu => if b = 0 then -1 else a / b
  | .rem => iremS a b
  | .remu => if b = 0 then a else a % b

/-- The immediate of format I: sign-extended for IADDK, ILTK and ILTUK, zero-extended for IANDK, IORK and IXORK; a shift
takes imm[5:0] (R177, R178). -/
def immWord (op : IntOp) (imm : BitVec 16) : Word :=
  match op with
  | .and | .or | .xor => imm.zeroExtend 64
  | .shl | .shr | .sar => BitVec.ofNat 64 (imm.toNat % 64)
  | _ => imm.signExtend 64

/-- Resource, occupancy and ready cycle of an integer operation (entries 0x20 to 0x22). -/
def intTiming (op : IntOp) : Nat × Nat × Nat :=
  match op with
  | .mul | .mulh | .mulhu => (resMul, 1, 3)
  | .div | .divu | .rem | .remu => (resDiv, 20, 20)
  | _ => (resAlu, 1, 1)

/-- IPUTH: one 16-bit quarter replaced (R177). -/
def putQuarter (old : Word) (h : Nat) (imm : BitVec 16) : Word :=
  BitVec.ofNat 64 (putBits old.toNat (16 * h + 15) (16 * h) imm.toNat)

/-- A branch's comparison (R179). -/
def brHolds (c : BrCond) (a b : Word) : Bool :=
  match c with
  | .eq => a == b
  | .ne => a != b
  | .lt => a.slt b
  | .ge => !a.slt b
  | .ltu => a.ult b
  | .geu => !a.ult b

/-- A branch target: the bundle index plus offset16, modulo 8192 (R179). -/
def brTarget (bundle : Nat) (off : BitVec 16) : Nat := (((bundle : Int) + off.toInt) % 8192).toNat

def ieeeFmt (dbl : Bool) : FFmt := if dbl then fB64 else fB32

/-- An arithmetic result that is a NaN: IEEE 754-2019 fixes neither its sign nor its payload. -/
def arithNan (r : Val × Nat) : Val × Nat := (if r.1.isNan then .anyNan else r.1, r.2)

/-- FADD to FMAX (R180): value and flags. -/
def fArith (op : FOp) (f : FFmt) (mode : RMode) (a b : Val) : Val × Nat :=
  match op with
  | .add => arithNan (fAdd f mode a b)
  | .sub => arithNan (fSub f mode a b)
  | .mul => arithNan (fMul f mode a b)
  | .div => arithNan (fDiv f mode a b)
  | .sqrt => arithNan (fSqrt f mode a)
  | .min => fMinMax false a b
  | .max => fMinMax true a b
  | _ => (a, 0)

/-- A fused multiply-add with its NaNs: 0 × ∞ gives the default NaN (R582), any other NaN result is left open. -/
def fusedVal (f : FFmt) (mode : RMode) (a b c : Val) : Val × Nat :=
  let r := fFma f mode a b c
  if decide ((mulExact a b).2 ≠ 0) && !(a.isNan || b.isNan) then r else arithNan r

/-- The fused kinds of R180. -/
def fmaVal (k : FmaKind) (f : FFmt) (mode : RMode) (a b c : Val) : Val × Nat :=
  match k with
  | .mac => fusedVal f mode a b c
  | .macn => fusedVal f mode a.neg b c
  | .macs => fusedVal f mode a b c.neg
  | .macns => fusedVal f mode a.neg b c.neg

/-- FABS, FNEG and FCPYS on bits of width w: no flag, payload unchanged (R180). -/
def fSignOp (op : FOp) (w a b : Nat) : Nat :=
  let mag := a % 2 ^ (w - 1)
  match op with
  | .abs => mag
  | .neg => mag + (1 - a / 2 ^ (w - 1) % 2) * 2 ^ (w - 1)
  | _ => mag + b / 2 ^ (w - 1) % 2 * 2 ^ (w - 1)

def fopIsSign : FOp → Bool
  | .abs => true | .neg => true | .cpys => true | _ => false

/-- Resource, occupancy and ready of format F (entries 0x27, 0x29 to 0x2B). -/
def fTiming (op : FOp) (dbl : Bool) : Nat × Nat × Nat :=
  match op with
  | .add | .sub | .mul => (resFpu, 1, 4)
  | .div | .sqrt => if dbl then (resDiv, 24, 24) else (resDiv, 14, 14)
  | _ => (resFpu, 1, 3)

/-- The compares and FKIND (R180): result and flags. FCEQ is quiet; FCLT and FCLE set INVALID on any NaN. -/
def fCompare (op : FMov) (f : FFmt) (a b : Val) : Nat × Nat :=
  match op with
  | .ceq => (b2n (a.eq b), nanFlags [a, b])
  | .clt => (b2n (a.lt b), if a.isNan || b.isNan then fInvalid else 0)
  | .cle => (b2n (a.le b), if a.isNan || b.isNan then fInvalid else 0)
  | _ => (fKind f a, 0)

/-- The source of a CVT as an exact value (R181). -/
def cvtSrc (st : CTy) (w : Word) : Val :=
  match st with
  | .b64 => decB64 w.toNat
  | .b32 => decB32 (w.toNat % 2 ^ 32)
  | .sk16 => decSK16 (w.toNat % 65536)
  | .i64 => .fin (decide (w.toInt < 0)) w.toInt.natAbs 0
  | _ => decElem st.fmt (w.toNat % 2 ^ st.fmt.bits)

/-- CVT (R181): the register value written and the status. A source of the destination's own type is copied (R94). -/
def cvtResult (dt st : CTy) (mode : RMode) (draw : Nat) (w : Word) : Word × CvtStat :=
  if dt = st then
    (match dt with
      | .b64 | .i64 => w
      | .b32 | .u32 => BitVec.ofNat 64 (w.toNat % 2 ^ 32)
      | .sk16 => BitVec.ofNat 64 (w.toNat % 65536)
      | .i32 => sextW 32 w.toNat | .i16 => sextW 16 w.toNat | .i8 => sextW 8 w.toNat, CvtStat.none)
  else
    let r := cvtScalar dt.fmt mode st.isInt draw (cvtSrc st w)
    (match dt with
      | .i32 => sextW 32 r.1 | .i16 => sextW 16 r.1 | .i8 => sextW 8 r.1
      | _ => BitVec.ofNat 64 r.1, r.2)

end Sys2Proof.Machine
end

