-- ==== Sys2Proof/Machine/Vector.lean ====
section
/-!
DEFINITION. Machine/Vector.lean: what the vector extension computes (R183-R187), element by element, as functions of vector
register values.
-/
namespace Sys2Proof.Machine

/-- A rounded vector element: bits and flags. `free` fills a NaN's open sign and payload. -/
def vEnc (ty : VTy) (free : Nat) (r : Val × Nat) : Nat × Nat :=
  (if ty = .b64 then encB64 free r.1 else encB32 free r.1, r.2)

def vDec (ty : VTy) (b : Nat) : Val := if ty = .b64 then decB64 b else decB32 b

def vFmt (ty : VTy) : FFmt := if ty = .b64 then fB64 else fB32

/-- All ones of width w, or zero. -/
def maskElem (w : Nat) (b : Bool) : Nat := if b then 2 ^ w - 1 else 0

/-- One element of an integer operation of R185; integer types are signed (Table 3.2 names them INT8 to INT32). -/
def vIntElem (op : VOp) (w a b : Nat) : Nat :=
  let sa := signedOf w a
  let sb := signedOf w b
  match op with
  | .add => (a + b) % 2 ^ w
  | .sub => (a + 2 ^ w - b) % 2 ^ w
  | .mul => (a * b) % 2 ^ w
  | .min => if sa < sb then a else b
  | .max => if sa < sb then b else a
  | .and => Nat.land a b
  | .or => Nat.lor a b
  | .xor => Nat.xor a b
  | .sll => (a <<< (b % w)) % 2 ^ w
  | .srl => a >>> (b % w)
  | .sra => wrapTo w (sa / 2 ^ (b % w))
  | .ceq => maskElem w (a == b)
  | .clt => maskElem w (decide (sa < sb))
  | .cle => maskElem w (decide (sa ≤ sb))
  | _ => 0

/-- One element of a floating-point operation of R185: bits and flags. `d` is the destination's old element. -/
def vFpElem (op : VOp) (ty : VTy) (mode : RMode) (free d a b : Nat) : Nat × Nat :=
  let f := vFmt ty
  let w := ty.width
  let x := vDec ty a
  let y := vDec ty b
  let z := vDec ty d
  match op with
  | .add => vEnc ty free (arithNan (fAdd f mode x y))
  | .sub => vEnc ty free (arithNan (fSub f mode x y))
  | .mul => vEnc ty free (arithNan (fMul f mode x y))
  | .min => vEnc ty free (fMinMax false x y)
  | .max => vEnc ty free (fMinMax true x y)
  | .ceq => (maskElem w (x.eq y), nanFlags [x, y])
  | .clt => (maskElem w (x.lt y), if x.isNan || y.isNan then fInvalid else 0)
  | .cle => (maskElem w (x.le y), if x.isNan || y.isNan then fInvalid else 0)
  | .fma => vEnc ty free (fusedVal f mode x y z)
  | .fms => vEnc ty free (fusedVal f mode x.neg y z)
  | .fnma => vEnc ty free (fusedVal f mode x.neg y z.neg)
  | _ => (0, 0)

/-- Does the operation round, and so take a mode from TA_PCTL.VRM (R176, R185)? -/
def vRounds (op : VOp) (ty : VTy) : Bool :=
  ty.isFp && (match op with
    | .add | .sub | .mul | .min | .max | .fma | .fms | .fnma | .redsum | .redmax => true
    | _ => false)

/-- A whole element-wise operation: destination bits, the mask of bits written, the flags. `free j` fills element j's NaN. -/
def vElementwise (op : VOp) (ty : VTy) (mode : RMode) (free : Nat → Nat) (vl d a b : Nat) : Nat × Nat × Nat :=
  let w := ty.width
  (List.range vl).foldl (fun (acc : Nat × Nat × Nat) j =>
    let r := if ty.isInt then (vIntElem op w (vElem a w j) (vElem b w j), 0)
      else vFpElem op ty mode (free j) (vElem d w j) (vElem a w j) (vElem b w j)
    (acc.1 + r.1 <<< (j * w), acc.2.1 + (2 ^ w - 1) <<< (j * w), Nat.lor acc.2.2 r.2)) (0, 0, 0)

/-- VREDSUM and VREDMAX (R185): in ascending order from element 0; +0 when VL = 0. -/
def vReduce (op : VOp) (ty : VTy) (mode : RMode) (free : Nat) (vl a : Nat) : Nat × Nat :=
  let w := ty.width
  match vl with
  | 0 => (0, 0)
  | n + 1 =>
    let r := (List.range n).foldl (fun (acc : Val × Nat) j =>
      let y := vDec ty (vElem a w (j + 1))
      let t := if op = .redmax then fMinMax true acc.1 y else arithNan (fAdd (vFmt ty) mode acc.1 y)
      (t.1, Nat.lor acc.2 t.2)) (vDec ty (vElem a w 0), 0)
    -- one element is passed as it stands
    if n = 0 then (vElem a w 0, 0) else vEnc ty free r

/-- VCVT (R181, R185): bits, mask, status. Draw j belongs to element j (R98). -/
def vConvert (st dt : VTy) (mode : RMode) (draw : Nat → Nat) (vl a : Nat) : Nat × Nat × CvtStat :=
  let ws := st.width
  let wd := dt.width
  (List.range vl).foldl (fun (acc : Nat × Nat × CvtStat) j =>
    let e := vElem a ws j
    let r := if st = dt then (e, CvtStat.none) else cvtScalar dt.fmt mode st.isInt (draw j) (decElem st.fmt e)
    (acc.1 + r.1 <<< (j * wd), acc.2.1 + (2 ^ wd - 1) <<< (j * wd), acc.2.2.join r.2)) (0, 0, CvtStat.none)

/-- VBCAST (R185). -/
def vBroadcast (w vl x : Nat) : Nat × Nat :=
  (List.range vl).foldl (fun (acc : Nat × Nat) j => (acc.1 + (x % 2 ^ w) <<< (j * w), acc.2 + (2 ^ w - 1) <<< (j * w))) (0, 0)

/-- One fused step of VCMUL: value bits and flags. -/
def cmulStep (ty : VTy) (mode : RMode) (free : Nat) (c : Nat × Nat) (a b : Val) : Nat × Nat :=
  let r := vEnc ty free (fusedVal (vFmt ty) mode a b (vDec ty c.1))
  (r.1, Nat.lor c.2 r.2)

/-- VCMUL (R186): bits, mask, flags; with an odd VL the last element is unchanged. -/
def vCmul (conj acc : Bool) (ty : VTy) (mode : RMode) (free : Nat → Nat) (vl d a b : Nat) : Nat × Nat × Nat :=
  let w := ty.width
  (List.range (vl / 2)).foldl (fun (o : Nat × Nat × Nat) i =>
    let el := fun (v j : Nat) => vDec ty (vElem v w j)
    let ar := el a (2 * i)
    let ai := if conj then (el a (2 * i + 1)).neg else el a (2 * i + 1)
    let br := el b (2 * i)
    let bi := el b (2 * i + 1)
    let re0 := if acc then vElem d w (2 * i) else 0
    let im0 := if acc then vElem d w (2 * i + 1) else 0
    let re := cmulStep ty mode (free (4 * i + 1)) (cmulStep ty mode (free (4 * i)) (re0, 0) ar br) ai.neg bi
    let im := cmulStep ty mode (free (4 * i + 3)) (cmulStep ty mode (free (4 * i + 2)) (im0, 0) ar bi) ai br
    (o.1 + re.1 <<< (2 * i * w) + im.1 <<< ((2 * i + 1) * w),
      o.2.1 + (2 ^ (2 * w) - 1) <<< (2 * i * w), Nat.lor o.2.2 (Nat.lor re.2 im.2))) (0, 0, 0)

/-- ceil(VL × w / 64): the beats of a vector operation (R144). -/
def vBeats (vl w : Nat) : Nat := (vl * w + 63) / 64

/-- Element j of an index register: an unsigned INT32 (R187). -/
def vIndex (v j : Nat) : Nat := vElem v 32 j

end Sys2Proof.Machine
end

