-- ==== Sys2Proof/Machine/Prompter.lean ====
section
/-!
DEFINITION. Machine/Prompter.lean: issuing a prompter instruction: the checks that halt a tile (Table 6.3, R149, R152), the
performing with the timing of Table 5.6, own-tile and global accesses (R173-R175), traps on their way (R190), gather and
scatter (R187, R188).
-/
namespace Sys2Proof.Machine

/-- Is the effective address in the global form (R173)? -/
def isGlobalAddr (a : Word) : Bool := a.getLsbD 63

/-- The address an instruction computes for its access: of a gather or scatter, that of its first element. -/
def State.pAddr (s : State) (t : Nat) (i : PInsn) : Option Word :=
  match i with
  | .load _ _ rs1 imm => some (s.effAddr t rs1 imm)
  | .store _ _ rs1 imm => some (s.effAddr t rs1 imm)
  | .vld _ rs1 _ => some (s.x t rs1)
  | .vst _ rs1 _ => some (s.x t rs1)
  | .vgather _ rs1 vs2 ty => some (s.x t rs1 + BitVec.ofNat 64 (vIndex (s.v t vs2) 0 * (ty.width / 8)))
  | .vscatter _ rs1 vs2 ty => some (s.x t rs1 + BitVec.ofNat 64 (vIndex (s.v t vs2) 0 * (ty.width / 8)))
  | _ => none

/-- The element width VL is held against (R184): the widest the instruction touches. DESIGN CHOICE: for a gather or scatter that
is never less than the 32 bits of its indices. -/
def vecWidth (i : PInsn) : Option Nat :=
  match i with
  | .vop _ ty _ _ _ => some ty.width
  | .vcvt _ _ st dt => some (max st.width dt.width)
  | .vbcast _ _ ty => some ty.width
  | .vcmul _ _ ty _ _ _ => some ty.width
  | .vld _ _ ty => some ty.width
  | .vst _ _ ty => some ty.width
  | .vgather _ _ _ ty => some (max ty.width 32)
  | .vscatter _ _ _ ty => some (max ty.width 32)
  | _ => none

/-- Resource, occupancy and ready cycle of an instruction issued with vector length `vl` (Table 5.6). -/
def pTiming (i : PInsn) (vl : Nat) : Nat × Nat × Nat :=
  let beats := fun (r : Nat × Nat × Nat) => if vl = 0 then (0, 0, 0) else r
  match i with
  | .nop => (0, 0, 0)
  | .intR op _ _ _ => intTiming op
  | .intI _ _ _ _ => (resAlu, 1, 1)
  | .iputh _ _ _ => (resAlu, 1, 1)
  | .load _ _ _ _ => (resLsu, 1, 4)
  | .store _ _ _ _ => (resLsu, 1, 1)
  | .branch _ _ _ _ => (resAlu, 1, 1)
  | .call _ _ => (0, 0, 1)
  | .jreg _ => (0, 0, 0)
  | .fop op dbl _ _ _ _ => fTiming op dbl
  | .fma _ _ _ _ _ _ _ => (resFpu, 1, 5)
  | .fmov _ _ _ _ _ => (resFpu, 1, 3)
  | .cvt _ _ _ _ _ => (resFpu, 1, 3)
  | .vlset _ _ _ => (resAlu, 1, 1)
  | .getcyc _ => (resAlu, 1, 1)
  | .getcue _ => (resAlu, 1, 1)
  | .holdpt => (0, 0, 1)
  | .tret => (0, 0, 0)
  | .tskip => (0, 0, 0)
  | .vop op ty _ _ _ =>
    let n := vBeats vl ty.width
    (match op with
      | .mul | .fma | .fms | .fnma => beats (resVec, n, n + 4)
      | .redsum | .redmax => if vl = 0 then (0, 0, 2) else (resVec, n, n + 2)
      | _ => beats (resVec, n, n + 2))
  | .vcvt _ _ st dt => let n := vBeats vl (max st.width dt.width); beats (resVec, n, n + 2)
  | .vbcast _ _ ty => let n := vBeats vl ty.width; beats (resVec, n, n + 2)
  | .vext _ _ _ _ => (resVec, 1, 3)
  | .vcmul _ _ ty _ _ _ => let n := vBeats vl ty.width; beats (resVec, 2 * n, 2 * n + 4)
  | .vld _ _ _ => beats (resLsu, 1, 4)
  | .vst _ _ _ => beats (resLsu, 1, 1)
  | .vgather _ _ _ _ => beats (resVmem, vl, vl + 4)
  | .vscatter _ _ _ _ => beats (resVmem, vl, vl)

/-- VL as an instruction takes it: of the elements its width has in a register, those below VL. In normal service no instruction halts for a
VL beyond its width, which the verifier keeps out (R184, Table 6.3; DESIGN CHOICE for a store to TA_PVL: the elements there are). -/
def State.vlOf (s : State) (t : Nat) (i : PInsn) : Nat :=
  match vecWidth i with
  | some w => min (s.vl t) (maxVl w)
  | none => s.vl t

/-- The trap-point distance of a trappable instruction (R190); none for the others and for the global form. -/
def State.trapDist (s : State) (t : Nat) (i : PInsn) : Option Nat :=
  let vl := s.vlOf t i
  match i with
  | .load _ _ rs1 imm =>
    let a := s.effAddr t rs1 imm
    if isGlobalAddr a then none
    else some (if decide (a.toNat / 2 ^ 20 = 0) && isPmem (tileBase t + a.toNat % 2 ^ 20) then 2 else 4)
  | .store _ _ rs1 imm => if isGlobalAddr (s.effAddr t rs1 imm) then none else some 1
  | .vld _ _ _ => some 4
  | .vst _ _ _ => some 1
  | .vgather _ _ _ _ => some (vl + 4)
  | .vscatter _ _ _ _ => some (vl + 4)
  | .holdpt => some 1
  | _ => none

/-- What halts the tile before anything of the issue is performed (Table 6.3, R149, R152). -/
def State.checkP (s : State) (t : Nat) (i : PInsn) : Option HaltReq :=
  let vl := s.vl t
  let w := encodeP i
  let at_ := (match s.pAddr t i with | some a => a.toNat | none => 0)
  let vlBad := match vecWidth i with | some wd => decide (maxVl wd < vl) | none => false
  let overlap := match i with | .vgather vd _ vs2 _ => vd == vs2 | _ => false
  let ret := match i with | .tret => true | .tskip => true | _ => false
  let global := match i with
    | .load _ _ rs1 imm => isGlobalAddr (s.effAddr t rs1 imm)
    | .store _ _ rs1 imm => isGlobalAddr (s.effAddr t rs1 imm)
    | _ => false
  if vlBad && s.unverifiedMode then some ⟨0x27, slotP, 0, 0, at_⟩
  else if overlap && s.unverifiedMode then some ⟨0x2A, slotP, 0, 0, at_⟩
  else if ret && !s.inHandler t then some ⟨0x29, slotP, 0, 0, 0⟩
  else if (s.trapDist t i).isSome && decide (s.active < (s.tile t).overlapUntil) && s.unverifiedMode then
    some ⟨0x2B, slotP, 0, 0, at_⟩
  else if global && decide (32 ≤ (s.tile t).globals.length) then some ⟨0x03, slotP, 0, 0, 0x10⟩
  else
    let tm := pTiming i (s.vlOf t i)
    match s.busyCheck t slotP tm.1 tm.2.1 with
    | some h => some h
    | none => if w = 0 ∧ i ≠ .nop then some ⟨0x01, slotP, 0, 0, 0⟩ else none

/-- The fault of an own-tile access, sent to its trap point `d` cycles from now. -/
def State.faultP (s : State) (t : Nat) (i : PInsn) (pt : IssuePt) (d cause elem : Nat) (a : Word) : State :=
  s.raiseTrap t ⟨s.active + d, cause, elem, a, encodeP i, pt,
    (match i with | .holdpt => false | _ => true), s.inHandler t⟩

/-- Issue an access outside the own tile (R152, R173): counted on WC15, performed when it completes. -/
def State.issueGlobal (s : State) (t : Nat) (a : Word) (ld : Option (LdKind × Nat)) (data : List Byte) : State :=
  let s := s.wcInc t 15
  let x := s.tile t
  s.setTile t { x with
    globals := x.globals ++ [⟨x.ordNext, a.toNat % 2 ^ 59, decide (a.toNat / 2 ^ 59 % 16 ≠ 0), ld, data, x.ordNext, false⟩]
    ordNext := x.ordNext + 1 }

/-- A scalar load (R173-R175, entries 0x23, 0x24, 0x26). -/
def State.doLoad (s : State) (t : Nat) (i : PInsn) (pt : IssuePt) (k : LdKind) (rd rs1 : Nat) (imm : BitVec 16) : State :=
  let a := s.effAddr t rs1 imm
  if isGlobalAddr a then s.issueGlobal t a (some (k, rd)) []
  else
    let d := (s.trapDist t i).getD 4
    match ownAddr t a (ldSize k) (ldSize k) with
    | .error c => s.faultP t i pt d c 0 a
    | .ok p =>
      if isPmem p then
        let s := (s.meetFlaws (tileMid t) p (ldSize k)).2
        if s.wordsPoisoned p (ldSize k) then s.faultP t i pt 2 0x23 0 a
        else
          let v := ldValue k (s.num p (ldSize k))
          if k.isF then s.schedF t 2 rd v (-1) else s.schedX t 2 rd v
      else s.sched t 1 (.load p k rd (encodeP i) pt (s.inHandler t) 3)

/-- The commits of a store to the own tile: a store of the tile, or its registers, each under its access codes. -/
def storeEffs (p : Nat) (data : List Byte) : List Eff :=
  if isTileReg p then
    (unitsOver .ring p data.length).map (fun w =>
      let lo := max p w
      let hi := min (p + data.length) (w + 8)
      .regStore lo (hi - lo) (ofLe ((data.drop (lo - p)).take (hi - lo))))
  else [.store p data]

/-- Bytes stored to the own tile at cycle 1. -/
def State.storeOwn (s : State) (t p : Nat) (data : List Byte) : State := (storeEffs p data).foldl (fun u e => u.sched t 1 e) s

/-- A scalar store (entries 0x25, 0x26). -/
def State.doStore (s : State) (t : Nat) (i : PInsn) (pt : IssuePt) (k : StKind) (rs2 rs1 : Nat) (imm : BitVec 16) : State :=
  let a := s.effAddr t rs1 imm
  let v := if k.isF then s.f t rs2 else s.x t rs2
  let data := leBytes v.toNat (stSize k)
  if isGlobalAddr a then s.issueGlobal t a none data
  else
    match ownAddr t a (stSize k) (stSize k) with
    | .error c => s.faultP t i pt 1 c 0 a
    | .ok p => if s.partPoisoned p (stSize k) then s.faultP t i pt 1 0x23 0 a else s.storeOwn t p data

/-- The first element of a vector access that no register of the tile holds; 0 for an address outside the window, or in no
reserved offset. -/
def gapElem (t : Nat) (a : Word) (size w : Nat) : Nat :=
  if a.toNat / 2 ^ 20 ≠ 0 then 0
  else
    let p := tileBase t + a.toNat
    match (unitsOver .ring p size).find? (fun u => isTileReg u && !tileRegMapped u) with
    | some u => (u - p) / (w / 8)
    | none => 0

/-- The first element of a vector store that lies in a poisoned word the store covers only in part. -/
def State.partElem (s : State) (p vl w : Nat) : Nat :=
  let size := vl * w / 8
  let whole := fun (u : Nat) => decide (p ≤ u) && decide (u + 8 ≤ p + size)
  ((List.range vl).find? (fun j => (unitsOver .ring (p + j * (w / 8)) (w / 8)).any (fun u => s.poisoned u && !whole u))).getD 0

/-- A vector load or store of the elements below VL (R174): 64-byte aligned. -/
def State.doVmem (s : State) (t : Nat) (i : PInsn) (pt : IssuePt) (isStore : Bool) (vd rs1 w : Nat) : State :=
  let vl := min (s.vl t) (maxVl w)
  let a := s.x t rs1
  let size := vl * w / 8
  if vl = 0 then s
  else
    match (if isGlobalAddr a then .error 0x21 else ownAddr t a size 64) with
    | .error c => s.faultP t i pt (if isStore then 1 else 4) c (if c = 0x21 then gapElem t a size w else 0) a
    | .ok p =>
      if isStore then
        if s.partPoisoned p size then s.faultP t i pt 1 0x23 (s.partElem p vl w) a else s.storeOwn t p (leBytes (s.v t vd) size)
      else s.sched t 1 (.vload p vl w vd (encodeP i) pt (s.inHandler t))

/-- Element `j` of a gather or scatter in its cycle (R187, R188). -/
def State.gatherStep (s : State) (t id j : Nat) : State :=
  match (s.tile t).gathers.find? (fun g => g.id == id) with
  | none => s
  | some g =>
    if g.faulted then s
    else
      let a := g.addrs.getD j 0
      let size := g.width / 8
      let bad := !g.scatter && (match ownAddr t a size size with
        | .ok p => !isTileReg p && (s.meetFlaws (tileMid t) p size).2.wordsPoisoned p size
        | .error _ => false)
      let s := match (if g.scatter || isGlobalAddr a then .error 0 else ownAddr t a size size) with
        | .ok p => if isTileReg p then s else (s.meetFlaws (tileMid t) p size).2
        | .error _ => s
      let put := fun (u : State) (h : GatherJob) =>
        u.setTile t { u.tile t with gathers := (u.tile t).gathers.map (fun y => if y.id = id then h else y) }
      let fail := fun (c : Nat) =>
        (put s { g with faulted := true }).raiseTrap t ⟨g.trapDue, c, j, a, g.insn, g.pt, true, g.inHandler⟩
      match (if isGlobalAddr a then .error 0x21 else ownAddr t a size size) with
      | .error c => fail c
      | .ok p =>
        if g.scatter then
          if s.partPoisoned p size then fail 0x23
          else (storeEffs p (leBytes (g.data.getD j 0) size)).foldl (fun u e => u.schedAt t 1 id e) s
        else if !isTileReg p && bad then fail 0x23
        else if isTileReg p then
          let r := s.regRead (p / 8 * 8) (p % 8) size
          put r.2 { g with got := g.got ++ [r.1] }
        else put s { g with got := g.got ++ [s.num p size] }

/-- Issue a gather or scatter: its addresses and data are read now; element j is handled in cycle j. -/
def State.startGather (s : State) (t : Nat) (i : PInsn) (pt : IssuePt) (scatter : Bool) (vd rs1 vs2 w : Nat) : State :=
  let vl := min (s.vl t) (maxVl w)
  if vl = 0 then s
  else
    let x := s.tile t
    let id := x.ordNext
    let base := s.x t rs1
    let idx := s.v t vs2
    let addrs := (List.range vl).map (fun j => base + BitVec.ofNat 64 (vIndex idx j * (w / 8)))
    let data := (List.range vl).map (fun j => vElem (s.v t vd) w j)
    let g : GatherJob := ⟨id, scatter, vd, w, addrs, data, [], false, encodeP i, pt, s.inHandler t, s.active + vl + 4⟩
    let s := s.setTile t { x with gathers := x.gathers ++ [g], ordNext := id + 1 }
    let s := s.gatherStep t id 0
    let s := (List.range (vl - 1)).foldl (fun u j => u.sched t (j + 1) (.gatherElem id (j + 1))) s
    s.sched t (vl + 4) (.gatherDone id)

/-- The vector rounding mode (R176): VRM, or RNE with MODE_FIX. -/
def State.vrm (s : State) (t : Nat) : RMode × Nat :=
  let m := ieeeMode (s.vrmCode t)
  (m.1, if m.2 then fModeFix else 0)

/-- FABS, FNEG and FCPYS round nothing and raise no flag (R180); DESIGN CHOICE: that holds with a reserved mode in RM or
TA_PCTL.FRM too, where R176 would set MODE_FIX for the formats F.

The effect of an instruction on the tile, issued now from a bundle of pitch `p` at `pt` (Table 6.2). Its resource is
held by `issueP`. -/
def State.performP (s : State) (t : Nat) (i : PInsn) (p : Nat) (pt : IssuePt) : State :=
  let vl := s.vlOf t i
  let ready := (pTiming i vl).2.2
  match i with
  | .nop => s
  | .intR op rd rs1 rs2 => s.schedX t ready rd (intAlu op (s.x t rs1) (s.x t rs2))
  | .intI op rd rs1 imm => s.schedX t ready rd (intAlu op (s.x t rs1) (immWord op imm))
  | .iputh rd h imm => s.schedX t ready rd (putQuarter (s.x t rd) h imm)
  | .load k rd rs1 imm => s.doLoad t i pt k rd rs1 imm
  | .store k rs2 rs1 imm => s.doStore t i pt k rs2 rs1 imm
  | .branch c rs1 rs2 off =>
    if brHolds c (s.x t rs1) (s.x t rs2) then s.takeBranch t (brTarget pt.bundle off) p else s
  | .call rd target => (s.schedX t ready rd (BitVec.ofNat 64 (pt.bundle + 1))).takeBranch t target.toNat p
  | .jreg rs1 => s.takeBranch t ((s.x t rs1).toNat % 8192) p
  | .fop op dbl fd fs1 fs2 rm =>
    if fopIsSign op then
      let w := if dbl then 64 else 32
      s.schedF t ready fd (BitVec.ofNat 64 (fSignOp op w ((s.f t fs1).toNat % 2 ^ w) ((s.f t fs2).toNat % 2 ^ w))) (-1)
    else
      let m := ieeeMode (s.rmCode t rm)
      let r := fArith op (ieeeFmt dbl) m.1 (fVal dbl (s.f t fs1)) (fVal dbl (s.f t fs2))
      let bits := if dbl then encB64 (s.freeAt 0) r.1 else encB32 (s.freeAt 0) r.1
      ((s.schedF t ready fd (BitVec.ofNat 64 bits) (-1)).schedStat t ready
        (.ofFlags (Nat.lor r.2 (if m.2 then fModeFix else 0)))).usedFree 1
  | .fma k dbl fd fs1 fs2 fs3 rm =>
    let m := ieeeMode (s.rmCode t rm)
    let r := fmaVal k (ieeeFmt dbl) m.1 (fVal dbl (s.f t fs1)) (fVal dbl (s.f t fs2)) (fVal dbl (s.f t fs3))
    let bits := if dbl then encB64 (s.freeAt 0) r.1 else encB32 (s.freeAt 0) r.1
    ((s.schedF t ready fd (BitVec.ofNat 64 bits) (-1)).schedStat t ready
      (.ofFlags (Nat.lor r.2 (if m.2 then fModeFix else 0)))).usedFree 1
  | .fmov op dbl rd rs1 rs2 =>
    match op with
    | .ftox => s.schedX t ready rd (if dbl then s.f t rs1 else BitVec.ofNat 64 ((s.f t rs1).toNat % 2 ^ 32))
    | .xtof => s.schedF t ready rd (if dbl then s.x t rs1 else BitVec.ofNat 64 ((s.x t rs1).toNat % 2 ^ 32)) (-1)
    | _ =>
      let r := fCompare op (ieeeFmt dbl) (fVal dbl (s.f t rs1)) (fVal dbl (s.f t rs2))
      (s.schedX t ready rd (BitVec.ofNat 64 r.1)).schedStat t ready (.ofFlags r.2)
  | .cvt dt st rd rs1 rm =>
    let m := effRound dt.fmt (s.rmCode t rm)
    let src := if st.isInt then s.x t rs1 else s.f t rs1
    let r := cvtResult dt st m.1 (s.tileDraw t unitPrompter 0) src
    let s := s.tileDrew t unitPrompter (if m.1 = .sr then 1 else 0)
    let s := if dt.isInt then s.schedX t ready rd r.1 else s.schedF t ready rd r.1 (-1)
    s.schedStat t ready { r.2 with flags := Nat.lor r.2.flags (if m.2 then fModeFix else 0) }
  | .vlset rd rs1 ty =>
    let n := BitVec.ofNat 64 (min (s.x t rs1).toNat (maxVl ty.width))
    (s.schedX t ready rd n).sched t ready (.commit (R.TA_PVL t) n 0xFF)
  | .getcyc rd => s.schedX t ready rd (BitVec.ofNat 64 s.cycle)
  | .getcue rd => s.schedX t ready rd (BitVec.ofNat 64 s.cue)
  | .holdpt => s.faultP t i pt 1 0x26 0 0
  | .tret =>
    let s := (s.setFld (R.TA_SEQ_RESUME t) (s.fld (R.TA_PTRAP2_RESUME t))).setFld (R.TA_SEQ_REPEAT_LEFT t)
      (s.fld (R.TA_PTRAP2_REPEAT_LEFT t))
    if s.bit (R.TA_PTRAP2_RESTART t) then
      s.setTile t { s.tile t with reexec := some (s.active + 2, s.fld (R.TA_PTRAP3_INSN t)) }
    else s.setTile t { s.tile t with resumeAt := some (s.active + 2), issueAt := s.active + 2 }
  | .tskip =>
    let s := (s.setFld (R.TA_SEQ_RESUME t) (s.fld (R.TA_PTRAP2_RESUME t))).setFld (R.TA_SEQ_REPEAT_LEFT t)
      (s.fld (R.TA_PTRAP2_REPEAT_LEFT t))
    s.setTile t { s.tile t with resumeAt := some (s.active + 2), issueAt := s.active + 2 }
  | .vop op ty vd vs1 vs2 =>
    let m := s.vrm t
    let fix := if vRounds op ty then m.2 else 0
    if op.unary then
      let r := vReduce op ty m.1 (s.freeAt 0) vl (s.v t vs1)
      ((s.schedV t ready vd r.1 (2 ^ ty.width - 1)).schedStat t ready (.ofFlags (Nat.lor r.2 fix))).usedFree 1
    else
      let r := vElementwise op ty m.1 s.freeAt vl (s.v t vd) (s.v t vs1) (s.v t vs2)
      ((s.schedV t ready vd r.1 r.2.1).schedStat t ready (.ofFlags (Nat.lor r.2.2 (if vl = 0 then 0 else fix)))).usedFree
        (if ty.isFp then vl else 0)
  | .vcvt vd vs1 st dt =>
    let m := effRound dt.fmt (s.vrmCode t)
    let r := vConvert st dt m.1 (s.tileDraw t unitPrompter) vl (s.v t vs1)
    let s := s.tileDrew t unitPrompter (if m.1 = .sr then vl else 0)
    (s.schedV t ready vd r.1 r.2.1).schedStat t ready
      { r.2.2 with flags := Nat.lor r.2.2.flags (if m.2 && decide (vl ≠ 0) then fModeFix else 0) }
  | .vbcast vd rs1 ty =>
    let src := if ty.isInt then s.x t rs1 else s.f t rs1
    let r := vBroadcast ty.width vl src.toNat
    s.schedV t ready vd r.1 r.2
  | .vext rd vs1 rs2 ty =>
    let w := ty.width
    let e := vElem (s.v t vs1) w ((s.x t rs2).toNat % maxVl w)
    if ty.isInt then s.schedX t ready rd (sextW w e) else s.schedF t ready rd (BitVec.ofNat 64 e) (-1)
  | .vcmul conj acc ty vd vs1 vs2 =>
    let m := s.vrm t
    let r := vCmul conj acc ty m.1 s.freeAt vl (s.v t vd) (s.v t vs1) (s.v t vs2)
    ((s.schedV t ready vd r.1 r.2.1).schedStat t ready (.ofFlags (Nat.lor r.2.2 (if vl = 0 then 0 else m.2)))).usedFree (4 * vl)
  | .vld vd rs1 ty => s.doVmem t i pt false vd rs1 ty.width
  | .vst vd rs1 ty => s.doVmem t i pt true vd rs1 ty.width
  | .vgather vd rs1 vs2 ty => s.startGather t i pt false vd rs1 vs2 ty.width
  | .vscatter vd rs1 vs2 ty => s.startGather t i pt true vd rs1 vs2 ty.width

/-- Issue an instruction: hold its resource, note the trap point of a trappable one, perform it. -/
def State.issueP (s : State) (t : Nat) (i : PInsn) (p : Nat) (pt : IssuePt) : State :=
  let tm := pTiming i (s.vlOf t i)
  let s := s.hold t tm.1 tm.2.1
  let s := match s.trapDist t i with
    | some d => s.setTile t { s.tile t with overlapUntil := s.active + d }
    | none => s
  s.performP t i p pt

/-- A prompter instruction issued alone. -/
def State.runP (s : State) (t : Nat) (i : PInsn) : State :=
  s.issueAlone t (fun u => u.checkP t i) (fun u => u.issueP t i 1 (u.issuePt t))

end Sys2Proof.Machine
end

