-- ==== Sys2Proof/Machine/TileIssue.lean ====
section
/-!
DEFINITION. Machine/TileIssue.lean: the issue of a whole bundle (R132-R134, R139-R143, R215, R217), and the D slot issued
alone.
-/
namespace Sys2Proof.Machine

/-- The four slots of a bundle, decoded; none where a slot is reserved (R139, R176). -/
structure Slots where
  m : Option MInsn
  d : Option DInsn
  p : Option PInsn
  s : Option SInsn
  deriving DecidableEq, Repr

def Bundle.slots (b : Bundle) : Slots := ⟨decodeM b.m, decodeD b.d, decodeP b.p, decodeS b.s⟩

/-- What one slot raises: a reserved word halts with its bits as DETAIL. -/
def slotHalt {α : Type} (slot w : Nat) (i : Option α) (check : α → Option HaltReq) : Option HaltReq :=
  match i with
  | none => some ⟨0x01, slot, 0, 0, w⟩
  | some i => check i

/-- The first reason an issue raises, in the order M, D, P, S (R215, R216). -/
def State.issueHalt (s : State) (t : Tile) (b : Bundle) : Option HaltReq :=
  let l := b.slots
  match slotHalt slotM b.m l.m (s.checkM t) with
  | some h => some h
  | none =>
    match slotHalt slotD b.d l.d (s.checkD t) with
    | some h => some h
    | none =>
      match slotHalt slotP b.p l.p (s.checkP t) with
      | some h => some h
      | none => slotHalt slotS b.s l.s (s.checkS t)

/-- The stream moves past an issue (R133, R586): the same bundle again, or the next. -/
def State.advance (s : State) (t i p : Nat) : State :=
  let left := s.fld (R.TA_SEQ_REPEAT_LEFT t)
  (if left = 0 then s.setResume t (i + 1) else s.setFld (R.TA_SEQ_REPEAT_LEFT t) (left - 1)).setIssueAt t (s.active + p)

/-- All slots of one issue, in the order M, D, P, S (R134). -/
def State.performBundle (s : State) (t : Tile) (b : Bundle) (pt : IssuePt) : State :=
  let l := b.slots
  let p := b.pitch
  let s := (s.noteIssue t).advance t pt.bundle p
  let s := match l.m with | some i => s.performM t i | none => s
  let s := match l.d with | some i => s.performD t i | none => s
  let s := match l.p with | some i => s.issueP t i p pt | none => s
  match l.s with | some i => s.performS t i | none => s

/-- Does the manual say what every slot of the issue does (R14)? -/
def State.definedBundle (s : State) (t : Nat) (b : Bundle) : Bool :=
  (match b.slots.m with | some i => s.definedM t i | none => true) && (match b.slots.d with | some i => s.definedD t i | none => true)

/-- Is the next issue of the tile's stream due in this cycle? -/
def State.issueDue (s : State) (t : Nat) : Bool :=
  s.canIssue t && decide ((s.tile t).issueAt ≤ s.active) && decide (s.fld (R.TA_SEQ_STATE t) ≠ seqIdle)

/-- The next issue of the tile's stream, if it is due in this cycle (R132-R134, R139, R140, R142, R215, R217).
`ecc` is what the fetch finds in the bundle's code. -/
def State.fetchBundle (s : State) (t : Tile) (ecc : EccFinding) : Out :=
  if !s.issueDue t then
    .next (match s.beforeHalt t with
      | some u =>
        let pt := u.issuePt t
        let a := tileBase t + 0x80000 + 0x20000 * pt.bank + 16 * pt.bundle
        let bad := match ecc.uncorrectable with | some x => decide (a ≤ x) && decide (x < a + 16) | none => false
        let b := u.bundleAt t pt.bank pt.bundle
        let waits := match b.slots.s with | some i => !u.guardHolds t i | none => false
        if u.issueDue t && pt.bundle != 8191 && bad then s.haltTile t 0x08 pt.bundle pt.rep 0 0 0 (16 * pt.bundle)
        else if u.issueDue t && pt.bundle != 8191 && !waits then (u.issueHalt t b).elim s (s.haltAt t pt) else s
      | none => s)
  else
    let pt := s.issuePt t
    if pt.bundle = 8191 then .next (s.haltTile t 0x05 8191 0 0 0 0 0)
    else
      let a := tileBase t + 0x80000 + 0x20000 * pt.bank + 16 * pt.bundle
      let here := fun (u : Nat) => decide (a ≤ u) && decide (u < a + 16)
      if (match ecc.uncorrectable with | some u => here u | none => false) then
        .next (s.haltTile t 0x08 pt.bundle pt.rep 0 0 0 (16 * pt.bundle))
      else
        let s := match ecc.corrected with
          | some c => if here c then s.eccCorrected (tileMid t) (.tbank t pt.bank) a else s
          | none => s
        let b := s.bundleAt t pt.bank pt.bundle
        if (match b.slots.s with | some i => !s.guardHolds t i | none => false) then
          .next (s.setFld (R.TA_SEQ_STATE t) seqHeld)
        else
          match s.issueHalt t b with
          | some h => .next (s.stopIssue t pt (some (s.num (tileBase t + 0x80000 + 0x20000 * pt.bank + 16 * pt.bundle) 16)) h)
          | none => if s.definedBundle t b then .next (s.performBundle t b pt) else .fault .undefinedFormat

/-- A D slot issued alone. -/
def State.runD (s : State) (t : Tile) (i : DInsn) : Out :=
  if s.canIssue t && (s.checkD t i).isNone && !s.definedD t i then .fault .undefinedFormat
  else .next (s.issueAlone t (fun u => u.checkD t i) (fun u => u.performD t i))

/-- DNOP: R136. -/
def execDnop (t : Tile) (s : State) : Out := s.runD t .nop

/-- COPY: R136, R150-R155. -/
def execCopy (t : Tile) (f : DSlot) (s : State) : Out := s.runD t (.op .copy f)

/-- CONVERT: R94, R136. -/
def execConvert (t : Tile) (f : DSlot) (s : State) : Out := s.runD t (.op .convert f)

/-- RWRITE: R136, R277. -/
def execRwrite (t : Tile) (f : DSlot) (s : State) : Out := s.runD t (.op .rwrite f)

/-- GATHER: R338. -/
def execGather (t : Tile) (f : DSlot) (s : State) : Out := s.runD t (.op .gather f)

/-- REGATHER: R339. -/
def execRegather (t : Tile) (f : DSlot) (s : State) : Out := s.runD t (.op .regather f)

/-- FILL: R136. -/
def execFill (t : Tile) (f : DSlot) (s : State) : Out := s.runD t (.op .fill f)

end Sys2Proof.Machine
end

