-- ==== Sys2Proof/Machine/Image.lean ====
section
/-!
DEFINITION. Machine/Image.lean: an image (R198-R200, Tables 7.1 and 7.2), the checks of the verifier that need no path
(R201-R203, R205, Table 7.3) and the rejection record (R206, Table 7.4).
-/
namespace Sys2Proof.Machine

/-- An entry of the annotation section (Table 7.2). -/
structure Annot where
  pb : Nat
  pr : Nat
  ps : Nat
  cb : Nat
  cr : Nat
  cs : Nat
  result : Bool
  dist : Nat
  deriving DecidableEq, Repr

/-- An image taken apart. -/
structure Image where
  unverified : Bool
  handler : Option Nat
  scene : Nat
  tiles : List Nat
  code : List Nat
  annots : List Annot
  jumps : List (Nat × Nat)
  digest : List Byte
  deriving DecidableEq, Repr

/-- What a rejection record names (Table 7.4); fields that do not apply stand as R206 says. -/
structure Reject where
  code : Nat
  bundle : Nat := 0x1FFF
  rep : Nat := 0
  slot : Nat := 0
  pbundle : Nat := 0x1FFF
  prep : Nat := 0
  pslot : Nat := 0
  vdist : Nat := 0xFFFFFFFF
  required : Nat := 0xFFFFFFFF
  detail : Nat := 0
  deriving DecidableEq, Repr

/-- The 32 bytes of a rejection record. -/
def Reject.toBytes (r : Reject) (image version : Nat) : List Byte :=
  leBytes (r.code + image * 2 ^ 16 + r.bundle * 2 ^ 32 + r.rep * 2 ^ 45 + r.slot * 2 ^ 58) 8
    ++ leBytes (version + r.pbundle * 2 ^ 32 + r.prep * 2 ^ 45 + r.pslot * 2 ^ 58) 8
    ++ leBytes (r.vdist + r.required * 2 ^ 32) 8 ++ leBytes r.detail 8

/-- `n` bytes of an image at an offset, as a number. -/
def imgNum (l : List Byte) (o n : Nat) : Nat := ofLe ((l.drop o).take n)

/-- Offset and length a section descriptor names. -/
def imgSec (l : List Byte) (o : Nat) : Nat × Nat := (imgNum l o 4, imgNum l (o + 4) 4)

/-- Does section [a, a + n) break R198 beside the sections already seen? A section of no bytes occupies none. -/
def secBad (len : Nat) (seen : List (Nat × Nat)) (p : Nat × Nat) : Bool :=
  p.2 != 0 && (p.1 % 16 != 0 || decide (len < p.1 + p.2) || seen.any (fun q => decide (p.1 < q.1 + q.2) && decide (q.1 < p.1 + p.2)))

/-- Entries of a section, each with its offset. -/
def secEntries (l : List Byte) (p : Nat × Nat) (size : Nat) : List (Nat × Nat) :=
  (List.range (p.2 / size)).map (fun i => (p.1 + size * i, imgNum l (p.1 + size * i) size))

def Annot.ofNat (w : Nat) : Annot :=
  ⟨bitsOf w 12 0, bitsOf w 25 13, bitsOf w 28 26, bitsOf w 44 32, bitsOf w 57 45, bitsOf w 60 58, bitOf w 63, bitsOf w 95 64⟩

/-- The pair an entry marks. -/
def Annot.pair (a : Annot) : List Nat := [a.pb, a.pr, a.ps, a.cb, a.cr, a.cs]

/-- An annotation word whose reserved bits or slot codes break Table 7.2. -/
def annotBad (w : Nat) : Bool :=
  let a := Annot.ofNat w
  bitsOf w 127 96 != 0 || bitsOf w 62 61 != 0 || bitsOf w 31 29 != 0 || a.ps == 0 || decide (4 < a.ps) || a.cs == 0 || decide (4 < a.cs)

/-- Offsets of entries that repeat an earlier key. -/
def repeats (l : List (Nat × List Nat)) : List Nat :=
  (l.foldl (fun (acc : List (List Nat) × List Nat) p => if acc.1.contains p.2 then (acc.1, acc.2 ++ [p.1]) else (p.2 :: acc.1, acc.2)) ([], [])).2

/-- Tile numbers ascend, each below 2048 (R199). -/
def tilesBad : List (Nat × Nat) → Option Nat → List Nat
  | [], _ => []
  | (o, t) :: r, prev =>
    (if 2048 ≤ t || (match prev with | some q => decide (t ≤ q) | none => false) then [o] else []) ++ tilesBad r (some t)

/-- Offsets at which an image breaks R198 to R200. -/
def imgBadAt (l : List Byte) : List Nat :=
  let n := imgNum l
  let flags := n 0x06 2
  let nb := n 0x0E 2
  let nt := n 0x12 2
  let ts := imgSec l 0x18
  let bs := imgSec l 0x20
  let as := imgSec l 0x28
  let js := imgSec l 0x30
  let head : List (Bool × Nat) :=
    ((List.range 4).map (fun i => (n i 1 != 0x314C5244 >>> (8 * i) % 256, i)))
    ++ [(n 4 1 != 1, 4), (n 5 1 != 0, 5), (decide (4 ≤ n 6 1), 6), (n 7 1 != 0, 7), (nb == 0 || decide (8191 < nb), 0x0E)]
    ++ (if bitOf flags 1 then [] else [(n 0x10 1 != 0, 0x10), (n 0x11 1 != 0, 0x11)])
    ++ [(nt == 0 || decide (2048 < nt), 0x12)]
    ++ (List.range 4).map (fun i => (n (0x14 + i) 1 != 0, 0x14 + i))
    ++ [(ts.2 != 2 * nt || secBad l.length [(0, 128)] ts, 0x18),
        (bs.2 != 16 * nb || secBad l.length [(0, 128), ts] bs, 0x20),
        (as.2 % 16 != 0 || secBad l.length [(0, 128), ts, bs] as, 0x28),
        (js.2 % 4 != 0 || secBad l.length [(0, 128), ts, bs, as] js, 0x30)]
    ++ (List.range 8).map (fun i => (n (0x38 + i) 1 != 0, 0x38 + i))
  let bad := (head.filter Prod.fst).map Prod.snd
  if !bad.isEmpty then bad
  else
    let ann := secEntries l as 16
    let jreg := fun (b : Nat) => match decodeP (Bundle.ofNat (n (bs.1 + 16 * b) 16)).p with | some (.jreg _) => decide (b < nb) | _ => false
    tilesBad (secEntries l ts 2) none
      ++ (ann.filter (fun p => annotBad p.2)).map Prod.fst
      ++ repeats (ann.map (fun p => (p.1, (Annot.ofNat p.2).pair)))
      ++ ((secEntries l js 4).filter (fun p => bitsOf p.2 15 13 != 0 || bitsOf p.2 31 29 != 0 || !jreg (bitsOf p.2 12 0))).map Prod.fst

/-- An image as its sections spell it. -/
def Image.ofBytes (l : List Byte) : Image :=
  let flags := imgNum l 0x06 2
  ⟨bitOf flags 0, if bitOf flags 1 then some (imgNum l 0x10 2) else none, imgNum l 0x0C 2,
    (secEntries l (imgSec l 0x18) 2).map Prod.snd, (secEntries l (imgSec l 0x20) 16).map Prod.snd,
    (secEntries l (imgSec l 0x28) 16).map (fun p => Annot.ofNat p.2),
    (secEntries l (imgSec l 0x30) 4).map (fun p => (bitsOf p.2 12 0, bitsOf p.2 28 16)), (l.drop 0x40).take 64⟩

/-- The digest of an image: SHA-512 with the field taken as zero. -/
def imgDigest (l : List Byte) : List Byte := sha512 (l.take 0x40 ++ List.replicate 64 0 ++ l.drop 0x80)

/-- The bundles of an image with their indices. -/
def Image.bundles (g : Image) : List (Nat × Bundle) := g.code.zipIdx.map (fun p => (p.2, Bundle.ofNat p.1))

/-- The first finding over the bundles, in ascending index (R202). -/
def Image.first (g : Image) (f : Nat → Bundle → Option Reject) : Option Reject := g.bundles.findSome? (fun p => f p.1 p.2)

/-- ENC_RESERVED: a slot that does not decode (R139, R176). For the S slot DETAIL has the slot in its high half and the header in its low half
(DESIGN CHOICE: R202 gives the two no order). -/
def encFinding (i : Nat) (b : Bundle) : Option Reject :=
  if (decodeM b.m).isNone then some { code := 0x14, bundle := i, slot := 1, detail := b.m }
  else if (decodeD b.d).isNone then some { code := 0x14, bundle := i, slot := 2, detail := b.d }
  else if (decodeP b.p).isNone then some { code := 0x14, bundle := i, slot := 3, detail := b.p }
  else if (decodeS b.s).isNone then some { code := 0x14, bundle := i, slot := 4, detail := b.s * 2 ^ 16 + b.cls * 2 ^ 13 + b.rep }
  else none

/-- Does the scene declare a seat set: does the set name any seat (R32, R391)? -/
def State.setDeclared (s : State) (n : Nat) : Bool :=
  bitsOf (s.reg (R.FB_SETPOS (n / 4))).toNat (16 * (n % 4) + 15) (16 * (n % 4)) != 0
    && (List.range 512).any (fun g => bitOf (bitsOf (s.reg (R.FB_GSET (g / 4))).toNat (16 * (g % 4) + 15) (16 * (g % 4))) n)

/-- A tile as its number. -/
def mkTile (n : Nat) : Tile := ⟨n % 2048, Nat.mod_lt _ (by decide)⟩

/-- BINDING (R137, R32). -/
def State.bindFinding (s : State) (g : Image) (i : Nat) (b : Bundle) : Option Reject :=
  let bad := fun (d : Nat) => some ({ code := 0x15, bundle := i, slot := 4, detail := d } : Reject)
  match decodeS b.s with
  | some (.notice ch _) => if g.tiles.all (fun t => s.tilePosts (mkTile t) ch.toNat) then none else bad ch.toNat
  | some (.take ch _) => if g.tiles.all (fun t => s.takeAllowed ch.toNat (tileMid t)) then none else bad ch.toNat
  | some (.fence (.f n)) => if s.setDeclared n.val then none else bad n.val
  | _ => none

/-- PLACEMENT (R21): `taken` are the tiles of the scene's other images, `plan` those of the scene's tile groups. -/
def Image.placeFinding (g : Image) (plan : Option (List Nat)) (taken : List Nat) : Option Reject :=
  match g.tiles.find? (fun t => taken.contains t || (match plan with | some l => !l.contains t | none => false)) with
  | some t => some { code := 0x16, detail := t }
  | none =>
    match g.handler with
    | some h => if g.code.length ≤ h then some { code := 0x16, detail := h } else none
    | none => none

/-- The parts of FLOW that one bundle shows: constant targets, JREG without targets, TRET and TSKIP, END and SWAP_BANK. A target of 8191
listed for a JREG is reported as a target (DETAIL 3), not as a range (DESIGN CHOICE: Table 7.3 fits both). -/
def Image.flowFinding (g : Image) (i : Nat) (b : Bundle) : Option Reject :=
  let bad := fun (slot d : Nat) => some ({ code := 0x17, bundle := i, slot := slot, detail := d } : Reject)
  let alone := b.rep == 0 && b.m == 0 && b.d == 0 && b.s == 0
  let p := match decodeP b.p with
    | some (.branch _ _ _ off) => if brTarget i off = 8191 then bad 3 3 else none
    | some (.call _ t) => if t.toNat = 8191 then bad 3 3 else none
    | some (.jreg _) =>
      let l := g.jumps.filter (fun j => j.1 == i)
      if l.isEmpty then bad 3 6 else if l.any (fun j => j.2 == 8191) then bad 3 3 else none
    | some .tret => if alone then none else bad 3 4
    | some .tskip => if alone then none else bad 3 4
    | _ => none
  match p with
  | some r => some r
  | none =>
    match decodeS b.s with
    | some .swapBank => if b.rep ≠ 0 then bad 4 2 else none
    | some .endOp => if b.rep ≠ 0 then bad 4 2 else none
    | _ => none

end Sys2Proof.Machine
end

