-- ==== Sys2Proof/Machine/VerifyConst.lean ====
section
/-!
DEFINITION. Machine/VerifyConst.lean: the constants of an image (Table 7.3: "set from a constant"): which prompter registers, TA_MFMT and
descriptor words hold a value known at every issue of a bundle, and FORMAT_USE over them (R74, R75, R104, R107, R121, R126, R130).
-/
namespace Sys2Proof.Machine

/-- What is known before an issue: x registers, tile registers by window offset, VL. -/
structure KEnv where
  xs : List (Option Word)
  cells : List (Nat × Word)
  vl : Option Nat
  deriving DecidableEq, Repr

/-- Nothing but x0 is known where an image is entered. -/
def KEnv.entry : KEnv := ⟨some 0 :: List.replicate 15 none, [], none⟩

def KEnv.x (k : KEnv) (r : XReg) : Option Word := k.xs.getD r none

def KEnv.cell (k : KEnv) (o : Nat) : Option Word := (k.cells.find? (fun c => c.1 == o)).map Prod.snd

def KEnv.setX (k : KEnv) (r : XReg) (v : Option Word) : KEnv := if r.val = 0 then k else { k with xs := k.xs.set r v }

def KEnv.drop (k : KEnv) (o : Nat) : KEnv := { k with cells := k.cells.filter (fun c => c.1 != o) }

def KEnv.setCell (k : KEnv) (o : Nat) (v : Word) : KEnv := { k.drop o with cells := (k.drop o).cells ++ [(o, v)] }

/-- What is known on both of two paths. -/
def KEnv.join (a b : KEnv) : KEnv :=
  ⟨(a.xs.zip b.xs).map (fun p => if p.1 = p.2 then p.1 else none), a.cells.filter (fun c => b.cells.contains c),
    if a.vl = b.vl then a.vl else none⟩

/-- x registers an instruction writes later than cycle 1, or with what no constant gives. -/
def PInsn.slowX (i : PInsn) : List Nat :=
  match i with
  | .intR op rd _ _ => if (intTiming op).2.2 = 1 then [] else [rd.val]
  | .load k rd _ _ => if k.isF then [] else [rd.val]
  | .fmov op _ rd _ _ => if op.xDest then [rd.val] else []
  | .cvt dt _ rd _ _ => if dt.isInt then [rd.val] else []
  | .vext rd _ _ ty => if ty.isInt then [rd.val] else []
  | .getcyc rd => [rd.val]
  | .getcue rd => [rd.val]
  | _ => []

/-- Registers of an image that never count as constants. -/
def Image.slowX (g : Image) : List Nat :=
  g.bundles.flatMap (fun p =>
    ((decodeP p.2.p).map PInsn.slowX).getD [] ++ (match decodeS p.2.s with | some (.take _ x) => [x.val] | _ => []))

/-- The own-tile offset of a scalar access, if its address is a constant of the own-tile form (R173). -/
def KEnv.offset (k : KEnv) (rs1 : XReg) (imm : BitVec 16) : Option Nat :=
  match k.x rs1 with
  | some a => let e := a + imm.signExtend 64; if e.toNat < 2 ^ 20 then some e.toNat else none
  | none => none

/-- Is the address a constant of the global form? -/
def KEnv.isGlobal (k : KEnv) (rs1 : XReg) (imm : BitVec 16) : Bool :=
  match k.x rs1 with
  | some a => (a + imm.signExtend 64).getLsbD 63
  | none => false

/-- A store of `n` bytes of a value at a window offset. -/
def KEnv.stored (k : KEnv) (o n : Nat) (v : Option Word) : KEnv :=
  let b := o / 8 * 8
  if o < offRegs then k
  else
    match v, (if n = 8 then some 0 else k.cell b) with
    | some v, some old => k.setCell b (BitVec.ofNat 64 (putBits old.toNat (8 * (o - b) + 8 * n - 1) (8 * (o - b)) v.toNat))
    | _, _ => k.drop b

/-- What a prompter instruction leaves known. -/
def KEnv.afterP (k : KEnv) (i : PInsn) (bundle : Nat) : KEnv :=
  match i with
  | .intR op rd a b => k.setX rd (match k.x a, k.x b with | some v, some w => some (intAlu op v w) | _, _ => none)
  | .intI op rd a imm => k.setX rd ((k.x a).map (fun v => intAlu op v (immWord op imm)))
  | .iputh rd h imm => k.setX rd ((k.x rd).map (fun v => putQuarter v h imm))
  | .call rd _ => k.setX rd (some (BitVec.ofNat 64 (bundle + 1)))
  | .vlset rd a ty =>
    let n := (k.x a).map (fun v => min v.toNat (maxVl ty.width))
    { k.setX rd (n.map (BitVec.ofNat 64)) with vl := n }
  | .store st rs2 rs1 imm =>
    if k.isGlobal rs1 imm then k
    else
      match k.offset rs1 imm with
      | some o => k.stored o (stSize st) (if st.isF then none else k.x (mkX rs2))
      | none => { k with cells := [] }
  | .vst _ rs1 _ =>
    (match k.offset rs1 0 with
    | some o => if o + 64 ≤ offRegs then k else { k with cells := [] }
    | none => { k with cells := [] })
  | .vscatter _ _ _ _ => { k with cells := [] }
  | _ => i.slowX.foldl (fun e r => e.setX (mkX r) none) k

/-- What an issue leaves known. -/
def KEnv.after (k : KEnv) (slow : List Nat) (bundle : Nat) (b : Bundle) : KEnv :=
  let e := match decodeP b.p with | some i => k.afterP i bundle | none => k
  let e := match decodeD b.d with
    | some (.op .gather f) => e.drop (0xF8400 + 32 * f.desc + 24)
    | some (.op .regather f) => e.drop (0xF8400 + 32 * f.desc + 24)
    | _ => e
  slow.foldl (fun e r => e.setX (mkX r) none) e

/-- Where an issue of bundle `i` may take a branch or jump to (R141, R179, R203). -/
def Image.targets (g : Image) (i : Nat) (b : Bundle) : List Nat :=
  match decodeP b.p with
  | some (.branch _ _ _ off) => [brTarget i off]
  | some (.call _ t) => [t.toNat]
  | some (.jreg _) => (g.jumps.filter (fun j => j.1 == i)).map Prod.snd
  | _ => []

/-- Does the stream never go on to the next bundle by itself from this issue? -/
def Bundle.leaves (b : Bundle) : Bool :=
  match decodeP b.p with
  | some (.call _ _) => true
  | some (.jreg _) => true
  | _ => false

/-- Does a path end at this issue: END, SWAP_BANK, TRET, TSKIP? -/
def Bundle.ends (b : Bundle) : Bool :=
  (match decodeS b.s with | some .endOp => true | some .swapBank => true | _ => false)
    || (match decodeP b.p with | some .tret => true | some .tskip => true | _ => false)

/-- Bundles that may follow bundle `i`, itself among them where it repeats. -/
def Image.succs (g : Image) (i : Nat) (b : Bundle) : List Nat :=
  if b.ends then []
  else g.targets i b ++ (if b.leaves then [] else [i + 1]) ++ (if b.rep = 0 || b.leaves then [] else [i])

/-- An environment joins what is known before bundle `t`. -/
def joinAt (m : List (Option KEnv)) (t : Nat) (k : KEnv) : List (Option KEnv) :=
  match m.getD t none with
  | none => m.set t (some k)
  | some e => m.set t (some (e.join k))

/-- One round over all bundles. -/
def Image.constRound (g : Image) (slow : List Nat) (m : List (Option KEnv)) : List (Option KEnv) :=
  g.bundles.foldl (fun m p =>
    match m.getD p.1 none with
    | none => m
    | some k => (g.succs p.1 p.2).foldl (fun m t => joinAt m t (k.after slow p.1 p.2)) m) m

/-- Rounds until nothing changes. -/
def Image.constFix (g : Image) (slow : List Nat) : Nat → List (Option KEnv) → List (Option KEnv)
  | 0, m => m
  | n + 1, m =>
    let r := g.constRound slow m
    if r = m then m else g.constFix slow n r

/-- What is known before each bundle of an image, entered at 0 and at its handler. -/
def Image.consts (g : Image) : List (Option KEnv) :=
  let m := joinAt (List.replicate g.code.length none) 0 KEnv.entry
  let m := match g.handler with | some h => joinAt m h KEnv.entry | none => m
  g.constFix g.slowX (64 * (g.code.length + 1)) m

/-- Format word `n` of TA_MFMT, if known (R131). -/
def KEnv.mfmt (k : KEnv) (n : Nat) : Option Nat := (k.cell 0xF8240).map (fun v => bitsOf v.toNat (16 * n + 15) (16 * n))

/-- Word `w` of descriptor set `n`, if known (R166). -/
def KEnv.desc (k : KEnv) (n w : Nat) : Option Nat := (k.cell (0xF8400 + 32 * n + 8 * w)).map BitVec.toNat

/-- A destination word that breaks R74 or R75. -/
def dstWordBad (w : Nat) : Bool :=
  !fmtWordLegal w || (match FmtWord.ofWord w with | some f => !roundAllowed f.fmt f.round | none => true)

/-- The format word of an MM that breaks a rule, if any (R74-R76, R104, R107, R112, R126). -/
def mmWordBad (f : MMSlot) (a b : Nat) : Option Nat :=
  match FmtWord.ofWord a, FmtWord.ofWord b with
  | some fa, some fb =>
    if !fmtWordLegal a then some a
    else if !fmtWordLegal b then some b
    else
      match mmFmt fa.fmt fb.fmt with
      | none => some a
      | some nf =>
        if (f.ta && fa.fmt.isSkb) || (f.cplx && !cplxAllowed nf) || ((nf == .b32 || nf == .b64) && !roundAllowed fa.fmt fa.round) then some a
        else if f.tb && fb.fmt.isSkb then some b else none
  | none, _ => some a
  | _, none => some b

/-- FORMAT_USE at one issue: the slot and DETAIL. For a CVT whose RM no destination word holds, DETAIL is the instruction word (DESIGN
CHOICE: Table 7.3 names none). -/
def KEnv.formatUse (k : KEnv) (b : Bundle) : Option (Nat × Nat) :=
  let m := match decodeM b.m with
    | some (.mm f) => (match k.mfmt f.fsa, k.mfmt f.fsb with | some a, some c => mmWordBad f a c | _, _ => none)
    | some (.drain f) =>
      (match k.mfmt f.fsd, drainShape f.atype f.shape with
      | some w, some d =>
        if dstWordBad w || (match FmtWord.ofWord w with | some x => x.fmt.isSkb && decide (16 < x.block) && decide (d.rowLen < x.block) | none => false) then some w
        else none
      | _, _ => none)
    | _ => none
  let d := match decodeD b.d with
    | some (.op .convert f) =>
      (match k.desc f.desc 2 with
      | some v =>
        if !fmtWordLegal (bitsOf v 47 32) then some (bitsOf v 47 32) else if dstWordBad (bitsOf v 63 48) then some (bitsOf v 63 48) else none
      | none => none)
    | some (.op .rwrite f) =>
      (match k.desc f.desc 2 with
      | some v => if fmtWordLegal (bitsOf v 63 48) && ((FmtWord.ofWord (bitsOf v 63 48)).any (fun w => reduceFmt w.fmt)) then none else some (bitsOf v 63 48)
      | none => none)
    | _ => none
  let p := match decodeP b.p with
    | some (.store st rs2 rs1 imm) =>
      (match k.offset rs1 imm, (if st.isF then none else k.x (mkX rs2)) with
      | some o, some v =>
        if 0xF8200 ≤ o && decide (o < 0xF8240) && o % 8 == 0 && v.toNat % 128 != 0 then some v.toNat else none
      | _, _ => none)
    | some (.cvt dt _ _ _ rm) => if rmCOk dt rm then none else some b.p
    | _ => none
  match m, d, p with
  | some w, _, _ => some (1, w)
  | none, some w, _ => some (2, w)
  | none, none, some w => some (3, w)
  | none, none, none => none

end Sys2Proof.Machine
end

