-- ==== Sys2Proof/Machine/VerifyPath.lean ====
section
/-!
DEFINITION. Machine/VerifyPath.lean: the checks of the verifier that follow paths (R120, R123, R141, R152, R153, R161-R163,
R184, R189, R190, R193, R202-R204), counted against the latency table held in TA_LAT0 onward (R167, R201).
-/
namespace Sys2Proof.Machine

/-- An operation as the verifier times it: entry, resource, occupancy, read cycle, ready cycle (none where a wait counter counts it)
and trap-point distance (Table 5.6, R190). -/
structure VTime where
  entry : Nat
  res : Nat
  occ : Nat
  read : Nat
  ready : Option Nat
  trap : Option Nat
  deriving DecidableEq, Repr

/-- The word of TA_LAT0 to TA_LAT63 that names an entry (R167). -/
def latWord (lat : Nat → Nat) (e : Nat) : Nat :=
  match (List.range 64).find? (fun i => bitsOf (lat i) 63 56 == e) with
  | some i => lat i
  | none => 0

/-- An entry read with its parameters u, vector beats and VL (Table 5.12). -/
def latTime (lat : Nat → Nat) (e u beats vl : Nat) (trap : Option Nat) : VTime :=
  let w := latWord lat e
  let n := match bitsOf w 35 32 with | 1 => u | 2 => beats | 3 => vl | _ => 0
  let ready := bitsOf w 23 16 + bitsOf w 31 24 * n
  let rd := bitsOf w 44 40
  ⟨e, bitsOf w 39 36, bitsOf w 7 0 + bitsOf w 15 8 * n, if rd = 0x1F then ready - 1 else rd, if bitOf w 45 then none else some ready, trap⟩

/-- The entry of an MM by format and mode. -/
def mmEntry (f : NFmt) (cplx : Bool) : Nat :=
  match f with
  | .skb4 => 0 | .skb8 => 1 | .sk16 => 2
  | .b32 => if cplx then 6 else 3
  | .b32x2 => if cplx then 7 else 4
  | .b64 => if cplx then 8 else 5
  | .int _ _ => 0

/-- The accumulator type and size of an MM, in the codes of ATYPE (R120, R135). -/
def mmType (f : NFmt) (cplx : Bool) : Nat :=
  match f with
  | .b32 => if cplx then 3 else 0
  | .b32x2 => if cplx then 4 else 1
  | .b64 => if cplx then 5 else 2
  | _ => 6

/-- Units of a type code (Table 4.4). -/
def typeUnits (ty : Nat) : Nat := ((drainShape ty false).map DrainShape.units).getD 1

/-- Are two type codes the same accumulator type: ATYPE 0 and 6 are both B32 (R120)? -/
def sameAccType (a b : Nat) : Bool := a == b || ((a == 0 || a == 6) && (b == 0 || b == 6))

/-- The format of an MM, where its format words are constants. -/
def KEnv.mmFmtOf (k : KEnv) (f : MMSlot) : Option NFmt :=
  match (k.mfmt f.fsa).bind FmtWord.ofWord, (k.mfmt f.fsb).bind FmtWord.ofWord with
  | some a, some b => mmFmt a.fmt b.fmt
  | _, _ => none

/-- Where a load or store goes, if its address is a constant: prompter memory, another place of the own tile, outside. -/
inductive VPlace where
  | pmem | own | outside
  deriving DecidableEq, Repr

/-- The place of an access; where the address is no constant the verifier's entry names it. -/
def KEnv.place (k : KEnv) (rs1 : XReg) (imm : BitVec 16) (bundle : Nat) : VPlace :=
  match k.x rs1 with
  | some a =>
    let e := a + imm.signExtend 64
    if e.getLsbD 63 then .outside else if decide (e.toNat / 2 ^ 20 = 0) && isPmem (tileBase 0 + e.toNat % 2 ^ 20) then .pmem else .own
  | none => if Config.verifierEntry bundle 3 = 0x26 then .outside else if Config.verifierEntry bundle 3 = 0x23 then .pmem else .own

/-- The element width and the entry of a vector instruction. -/
def vecEntry (i : PInsn) : Option (Nat × Nat) :=
  match i with
  | .vop op ty _ _ _ => some (ty.width, match op with | .mul | .fma | .fms | .fnma => 0x31 | _ => 0x30)
  | .vcvt _ _ st dt => some (max st.width dt.width, 0x30)
  | .vbcast _ _ ty => some (ty.width, 0x30)
  | .vcmul _ _ ty _ _ _ => some (ty.width, 0x32)
  | .vld _ _ ty => some (ty.width, 0x24)
  | .vst _ _ ty => some (ty.width, 0x25)
  | .vgather _ _ _ ty => some (ty.width, 0x33)
  | .vscatter _ _ _ ty => some (ty.width, 0x34)
  | _ => none

/-- The entry of an integer operation. -/
def intEntry : IntOp → Nat
  | .mul | .mulh | .mulhu => 0x21
  | .div | .divu | .rem | .remu => 0x22
  | _ => 0x20

/-- The entry of a scalar floating-point operation. -/
def fopEntry (op : FOp) (dbl : Bool) : Nat :=
  match op with
  | .div | .sqrt => if dbl then 0x2B else 0x2A
  | .add | .sub | .mul => 0x27
  | _ => 0x29

/-- A load by its place. -/
def timeLoad (lat : Nat → Nat) (p : VPlace) : VTime :=
  match p with
  | .pmem => latTime lat 0x23 0 0 0 (latTime lat 0x23 0 0 0 none).ready
  | .own => latTime lat 0x24 0 0 0 (latTime lat 0x24 0 0 0 none).ready
  | .outside => latTime lat 0x26 0 0 0 none

/-- A store by its place. -/
def timeStore (lat : Nat → Nat) (p : VPlace) : VTime :=
  match p with
  | .outside => latTime lat 0x26 0 0 0 none
  | _ => latTime lat 0x25 0 0 0 (some 1)

/-- The timing of a scalar P slot; none where it names no entry. -/
def KEnv.timeScalar (k : KEnv) (lat : Nat → Nat) (bundle : Nat) (i : PInsn) : Option VTime :=
  match i with
  | .nop => none
  | .intR op _ _ _ => some (latTime lat (intEntry op) 0 0 0 none)
  | .intI _ _ _ _ => some (latTime lat 0x20 0 0 0 none)
  | .iputh _ _ _ => some (latTime lat 0x20 0 0 0 none)
  | .load _ _ rs1 imm => some (timeLoad lat (k.place rs1 imm bundle))
  | .store _ _ rs1 imm => some (timeStore lat (k.place rs1 imm bundle))
  | .branch _ _ _ _ => some { latTime lat 0x20 0 0 0 none with ready := some 0 }
  | .call _ _ => some { latTime lat 0x2C 0 0 0 none with ready := some 1 }
  | .jreg _ => some { latTime lat 0x2C 0 0 0 none with ready := some 0 }
  | .fop op dbl _ _ _ _ => some (latTime lat (fopEntry op dbl) 0 0 0 none)
  | .fma _ _ _ _ _ _ _ => some (latTime lat 0x28 0 0 0 none)
  | .fmov _ _ _ _ _ => some (latTime lat 0x29 0 0 0 none)
  | .cvt _ _ _ _ _ => some (latTime lat 0x29 0 0 0 none)
  | .vlset _ _ _ => some (latTime lat 0x20 0 0 0 none)
  | .getcyc _ => some (latTime lat 0x20 0 0 0 none)
  | .getcue _ => some (latTime lat 0x20 0 0 0 none)
  | .holdpt => some ⟨0, 0, 0, 0, some 0, some 1⟩
  | .vext _ _ _ _ => some (latTime lat 0x30 0 1 0 none)
  | _ => none

/-- The timing of a vector instruction of element width `w` and entry `e`. -/
def KEnv.timeVec (k : KEnv) (lat : Nat → Nat) (w e : Nat) : VTime :=
  let vl := min (k.vl.getD (maxVl w)) (maxVl w)
  let trap := match e with | 0x24 => some 4 | 0x25 => some 1 | 0x33 => some (vl + 4) | 0x34 => some (vl + 4) | _ => none
  if k.vl = some 0 then { latTime lat e 0 0 0 trap with res := 0, occ := 0 } else latTime lat e 0 (vBeats vl w) vl trap

/-- The timing of a P slot. -/
def KEnv.timeP (k : KEnv) (lat : Nat → Nat) (bundle : Nat) (i : PInsn) : Option VTime :=
  match vecEntry i with
  | some p => some (k.timeVec lat p.1 p.2)
  | none => k.timeScalar lat bundle i

/-- The timing of an M slot. -/
def KEnv.timeM (k : KEnv) (lat : Nat → Nat) (bundle : Nat) (i : MInsn) : Option VTime :=
  match i with
  | .nop => none
  | .mm f =>
    (match k.mmFmtOf f with
    | some nf => some (latTime lat (mmEntry nf f.cplx) 0 0 0 none)
    | none => some (latTime lat (Config.verifierEntry bundle 1 % 9) 0 0 0 none))
  | .shd f => some (latTime lat 0x10 (shdUnits f) 0 0 none)
  | .drain f => some (latTime lat (if f.mask then 0x12 else 0x11) (typeUnits f.atype) 0 0 none)

/-- The timing of an S slot. -/
def timeS (lat : Nat → Nat) (i : SInsn) : Option VTime :=
  match i with
  | .nop => none
  | .wait _ _ => some (latTime lat 0x50 0 0 0 none)
  | .fence _ => some (latTime lat 0x50 0 0 0 none)
  | .take _ _ => some (latTime lat 0x51 0 0 0 none)
  | .notice _ _ => some (latTime lat 0x52 0 0 0 none)
  | .swapBank => some (latTime lat 0x53 0 0 0 none)
  | .endOp => some (latTime lat 0x54 0 0 0 none)

/-- The timing of the slot coded 1 to 4 of a bundle. -/
def KEnv.timeOf (k : KEnv) (lat : Nat → Nat) (bundle : Nat) (b : Bundle) (slot : Nat) : Option VTime :=
  match slot with
  | 1 => (decodeM b.m).bind (k.timeM lat bundle)
  | 2 => (match decodeD b.d with | some (.op _ _) => some (latTime lat 0x40 0 0 0 none) | _ => none)
  | 3 => (decodeP b.p).bind (k.timeP lat bundle)
  | 4 => (decodeS b.s).bind (timeS lat)
  | _ => none

/-- What an operation in flight does to accumulator and shadow units. -/
inductive AccUse where
  | none
  | mm (tag units ty : Nat) (add : Bool)
  | drain (tag units ty : Nat)
  | shd (sunit units : Nat)
  deriving DecidableEq, Repr

/-- An operation in flight on a path: where it was issued, and its age in cycles. -/
structure VFly where
  bundle : Nat
  rep : Nat
  slot : Nat
  time : VTime
  use : AccUse
  age : Nat
  deriving DecidableEq, Repr

/-- The age at which nothing of the operation is left to count. -/
def VFly.life (f : VFly) : Nat := max (max f.time.occ (f.time.read + 1)) (max (f.time.ready.getD 0) (f.time.trap.getD 0))

/-- A path state: bundle, repetition, in handler or not, what is in flight; and beside it the type each accumulator unit was last
written in, the bounds of R152 and R153, transfers that read shadow units, and the VL width (R184). -/
structure VPath where
  bundle : Nat
  rep : Nat
  handler : Bool
  fly : List VFly
  types : List (Nat × Nat)
  dm : List Nat
  pend : List (Nat × Nat × Nat)
  vlw : Nat
  deriving DecidableEq, Repr

/-- The path state of R204. -/
def VPath.key (v : VPath) : Nat × Nat × List VFly := (v.bundle, v.rep, v.fly)

/-- What a walk has found, and the path states at its trap points, two cycles on (R191, R193). -/
structure VFound where
  bad : List Reject
  traps : List VPath
  deriving DecidableEq, Repr

def VFound.empty : VFound := ⟨[], []⟩

def VFound.add (a b : VFound) : VFound := ⟨a.bad ++ b.bad, a.traps ++ b.traps⟩

/-- The first unit of [tag, tag + n) last written in another type than `ok` accepts. -/
def typeClash (types : List (Nat × Nat)) (tag n : Nat) (ok : Nat → Bool) : Option Nat :=
  (List.range' tag n).find? (fun u => types.any (fun p => p.1 == u && !ok p.2))

/-- What a finding of an operation in flight says. -/
def VFly.bad (f : VFly) (code detail : Nat) : Reject := { code := code, bundle := f.bundle, rep := f.rep, slot := f.slot, detail := detail }

/-- An operation reaches the age it now has: ACC_USE (R120, R123, R135). -/
def VPath.ageFinding (v : VPath) (f : VFly) : List Reject :=
  match f.use with
  | .mm tag n ty true =>
    if f.age = f.time.read then ((typeClash v.types tag n (sameAccType ty)).map (f.bad 0x19)).toList else []
  | .drain tag n ty => if f.age = f.time.read then ((typeClash v.types tag n (· == ty)).map (f.bad 0x19)).toList else []
  | .shd sunit n =>
    if some f.age = f.time.ready then
      ((List.range' sunit n).find? (fun u => v.pend.any (fun p => decide (p.2.1 ≤ u) && decide (u < p.2.2)))).toList.map (f.bad 0x19)
    else []
  | _ => []

/-- The units an MM writes take its type at its ready cycle. -/
def commitTypes (types : List (Nat × Nat)) (f : VFly) : List (Nat × Nat) :=
  match f.use with
  | .mm tag n ty _ =>
    if some f.age = f.time.ready then
      types.filter (fun p => decide (p.1 < tag) || decide (tag + n ≤ p.1)) ++ (List.range' tag n).map (fun u => (u, ty))
    else types
  | _ => types

/-- One cycle passes; commits of a cycle are seen by its reads (R145). -/
def VPath.tick (v : VPath) : VPath × List Reject :=
  let fly := v.fly.map (fun f => { f with age := f.age + 1 })
  let v : VPath := { v with fly := fly, types := (fly.foldl commitTypes v.types) }
  (v, fly.flatMap v.ageFinding)

/-- Operations of which nothing is left are taken out. -/
def VPath.settle (v : VPath) : VPath :=
  { v with
    fly := v.fly.filter (fun f => decide (f.age < f.life))
    types := v.types.mergeSort (fun a b => decide (a.1 < b.1) || (a.1 == b.1 && decide (a.2 ≤ b.2))) }

/-- Two cycles on, at the handler's first issue. -/
def VPath.enterHandler (v : VPath) : VPath :=
  let v : VPath := { v with fly := v.fly.map (fun f => { f with time := { f.time with trap := none } }) }
  v.tick.1.tick.1.settle

/-- Cycles pass until the next issue; trap points among them are collected. -/
def VPath.pass : Nat → VPath → VFound → VPath × VFound
  | 0, v, a => (v.settle, a)
  | n + 1, v, a =>
    let r := v.tick
    let traps := if r.1.fly.any (fun f => f.time.trap == some f.age) then [r.1.enterHandler] else []
    r.1.pass n (a.add ⟨r.2, traps⟩)

/-- Shadow units [first, last) that a D operation reads, where its descriptor is a constant (R123). -/
def Image.shadowRead (g : Image) (k : KEnv) (f : DSlot) : Option (Nat × Nat) :=
  match k.desc f.desc 0, k.desc f.desc 2 with
  | some src, some w2 =>
    let a := src % 2 ^ 44
    let n := bitsOf w2 31 0
    (g.tiles.find? (fun t => decide (tileBase t + offShadow ≤ a) && decide (a < tileBase t + offShadow + 0x10000))).bind (fun t =>
      if n = 0 then none else some ((a - tileBase t - offShadow) / 512, (a - tileBase t - offShadow + n + 511) / 512))
  | _, _ => none

/-- An operation at its issue. -/
def KEnv.flyOf (k : KEnv) (lat : Nat → Nat) (i r : Nat) (b : Bundle) (slot : Nat) : Option VFly :=
  (k.timeOf lat i b slot).map (fun t =>
    let use := match slot, decodeM b.m with
      | 1, some (.mm f) =>
        (match k.mmFmtOf f with
        | some nf => let ty := mmType nf f.cplx; AccUse.mm (f.tag / typeUnits ty * typeUnits ty) (typeUnits ty) ty f.add
        | none => .none)
      | 1, some (.shd f) => .shd (f.sunit.val / shdUnits f * shdUnits f) (shdUnits f)
      | 1, some (.drain f) => .drain (f.tag / typeUnits f.atype * typeUnits f.atype) (typeUnits f.atype) f.atype
      | _, _ => .none
    ⟨i, r, slot, t, use, 0⟩)

/-- A TAG or shadow unit that is misaligned (R118). -/
def KEnv.misaligned (k : KEnv) (b : Bundle) : Option Nat :=
  match decodeM b.m with
  | some (.mm f) => (k.mmFmtOf f).bind (fun nf => if f.tag % typeUnits (mmType nf f.cplx) = 0 then none else some f.tag.val)
  | some (.shd f) => if f.tag % shdUnits f ≠ 0 then some f.tag.val else if f.sunit.val % shdUnits f ≠ 0 then some f.sunit.val else none
  | some (.drain f) => if f.tag % typeUnits f.atype = 0 then none else some f.tag.val
  | _ => none

/-- What the guard of an issue settles: a WAIT sets the bound of its counter, a WAIT for zero ends the transfers it counts. -/
def VPath.guard (v : VPath) (b : Bundle) : VPath :=
  match decodeS b.s with
  | some (.wait c t) =>
    { v with
      dm := v.dm.set c t.toNat
      pend := if t.toNat = 0 then v.pend.filter (fun p => p.1 != c.val) else v.pend }
  | _ => v

/-- Findings of an issue: PROMPTER_USE, DM_BOUND, STRUCT_CONFLICT, and the misaligned forms of ACC_USE. `v` is the path state before
the issue, `ops` its operations, `dm` the bounds after it. -/
def VPath.issueFindings (v : VPath) (k : KEnv) (b : Bundle) (ops : List VFly) (dm : List Nat) : List Reject :=
  let bad := fun (code slot detail : Nat) => ({ code := code, bundle := v.bundle, rep := v.rep, slot := slot, detail := detail } : Reject)
  let p := (decodeP b.p).getD .nop
  let wide := match vecWidth p with | some w => decide (v.vlw < w) | none => false
  let overlapV := match p with | .vgather vd _ vs2 _ => vd == vs2 | _ => false
  let trapping := ops.any (fun o => o.time.trap.isSome) && v.fly.any (fun f => match f.time.trap with | some d => decide (f.age < d) | none => false)
  let dBad := match decodeD b.d with
    | some (.op _ f) =>
      if f.wc.val = 15 then [bad 0x1B 2 15]
      else if 255 < dm.getD f.wc 0 then [bad 0x1B 2 f.wc]
      else if 16 < (dm.take 15).sum then [bad 0x1B 2 (dm.take 15).sum]
      else []
    | _ => []
  let gBad := if ops.any (fun o => o.time.entry == 0x26) && decide (32 < dm.getD 15 0) then [bad 0x1B 3 15] else []
  let busy := ops.filterMap (fun o =>
    if o.time.res ≠ 0 && v.fly.any (fun f => f.time.res == o.time.res && decide (f.age < f.time.occ)) then some (bad 0x1C o.slot o.time.res) else none)
  (if wide || overlapV || trapping then [bad 0x1A 3 b.p] else []) ++ ((k.misaligned b).map (bad 0x19 1)).toList ++ dBad ++ gBad ++ busy

/-- The path state after an issue, in its own cycle. A prompter store to TA_PVL sets VL but names no width: the width of R184 is
followed through VLSET only (DESIGN CHOICE). -/
def VPath.issued (v : VPath) (g : Image) (k : KEnv) (b : Bundle) (ops : List VFly) : VPath :=
  let add := fun (dm : List Nat) (n : Nat) => dm.set n (min 256 (dm.getD n 0 + 1))
  let dm := match decodeD b.d with | some (.op _ f) => add v.dm f.wc | _ => v.dm
  let dm := if ops.any (fun o => o.time.entry == 0x26) then add dm 15 else dm
  let pend := match decodeD b.d with
    | some (.op o f) =>
      if o = .fill then v.pend
      else (match g.shadowRead k f with
        | some r => if v.pend.contains (f.wc.val, r.1, r.2) then v.pend else v.pend ++ [(f.wc.val, r.1, r.2)]
        | none => v.pend)
    | _ => v.pend
  { v with
    fly := v.fly ++ ops
    dm := dm
    pend := pend
    vlw := (match decodeP b.p with | some (.vlset _ _ ty) => ty.width | _ => v.vlw) }

/-- Where an issue leads: target, repetition, cycles to it (R133, R141), and the slot that leads there. -/
def Image.exits (g : Image) (lat : Nat → Nat) (i r : Nat) (b : Bundle) : List (Nat × Nat × Nat × Nat) :=
  if b.ends then []
  else
    (g.targets i b).map (fun t => (t, 0, max b.pitch (bitsOf (latWord lat 0x2C) 23 16), 3))
      ++ (if b.leaves then [] else if r < b.rep then [(i, r + 1, b.pitch, 0)] else [(i + 1, 0, b.pitch, 0)])

/-- One issue: the path states it leads to, and what it shows. -/
def Image.follow (g : Image) (lat : Nat → Nat) (env : List (Option KEnv)) (v : VPath) : List VPath × VFound :=
  match g.code[v.bundle]? with
  | none => ([], .empty)
  | some w =>
    let b := Bundle.ofNat w
    let k := (env.getD v.bundle none).getD KEnv.entry
    let v := v.guard b
    let ops := [1, 2, 3, 4].filterMap (k.flyOf lat v.bundle v.rep b)
    let u := v.issued g k b ops
    let ends := match decodeS b.s with | some .endOp => true | some .swapBank => true | _ => false
    let flow : List Reject := if v.handler && ends then [{ code := 0x17, bundle := v.bundle, rep := v.rep, slot := 4, detail := 5 }] else []
    let here : VFound := ⟨flow ++ v.issueFindings k b ops u.dm, []⟩
    let outs := g.exits lat v.bundle v.rep b
    let last := if outs.isEmpty then (u.pass (u.fly.foldl (fun n f => max n (f.life - f.age)) 0) .empty).2 else .empty
    let walked := outs.map (fun e =>
      let r := u.pass e.2.2.1 .empty
      if g.code.length ≤ e.1 then
        (([] : List VPath), r.2.add ⟨[{ code := 0x17, bundle := v.bundle, rep := v.rep, slot := e.2.2.2, detail := 1 }], []⟩)
      else ([{ r.1 with bundle := e.1, rep := e.2.1 }], r.2))
    (walked.flatMap Prod.fst, (walked.map Prod.snd).foldl VFound.add (here.add last))

/-- Path states the verifier follows (R204). -/
def pathLimit : Nat := 2 ^ 20

/-- The walk over path states still to follow, those seen, and their keys. Where more than `pathLimit` are needed it ends with FLOW,
DETAIL 7 (R204). -/
def Image.walkPaths (g : Image) (lat : Nat → Nat) (env : List (Option KEnv)) :
    Nat → List VPath → List VPath → List (Nat × Nat × List VFly) → VFound → VFound × List (Nat × Nat × List VFly)
  | 0, _, _, keys, a => (a, keys)
  | _ + 1, [], _, keys, a => (a, keys)
  | n + 1, v :: r, seen, keys, a =>
    if seen.contains v then g.walkPaths lat env n r seen keys a
    else
      let keys := if keys.contains v.key then keys else v.key :: keys
      if pathLimit < keys.length then (a.add ⟨[{ code := 0x17, detail := 7 }], []⟩, keys)
      else
        let x := g.follow lat env v
        g.walkPaths lat env n (x.1 ++ r) (v :: seen) keys (a.add x.2)

/-- A bound on the steps of a walk. -/
def walkFuel : Nat := 2 ^ 64

/-- The first issue of a scene: nothing in flight, VL = 0, which no width exceeds. -/
def VPath.start : VPath := ⟨0, 0, false, [], [], List.replicate 16 0, [], 64⟩

/-- The handler's entry: the union of the sets at every trap point (R193). -/
def VPath.handlerStart (h : Nat) (l : List VPath) : VPath :=
  let u := l.foldl (fun (a : VPath) v =>
    { a with
      fly := a.fly ++ v.fly.filter (fun f => !a.fly.contains f)
      types := a.types ++ v.types.filter (fun p => !a.types.contains p)
      dm := List.zipWith max a.dm v.dm
      pend := a.pend ++ v.pend.filter (fun p => !a.pend.contains p)
      vlw := min a.vlw v.vlw }) VPath.start
  { u with bundle := h, handler := true }

/-- The walks from index 0 and from the handler: the path states of both count against the one limit of the image (R204). -/
def Image.walkAll (g : Image) (lat : Nat → Nat) (env : List (Option KEnv)) : VFound :=
  let m := g.walkPaths lat env walkFuel [VPath.start] [] [] .empty
  match g.handler with
  | none => m.1
  | some h => m.1.add (g.walkPaths lat env walkFuel [VPath.handlerStart h m.1.traps] [] m.2 .empty).1

-- Distances of marked pairs (R161-R163, R200).

/-- Exits of bundle `i` entered at repetition `from`: target, and the least and greatest cycles from that repetition's issue, over
the issues before repetition `stop`. -/
def Image.hops (g : Image) (lat : Nat → Nat) (i first stop : Nat) : List (Nat × Nat × Nat) :=
  match g.code[i]? with
  | none => []
  | some w =>
    let b := Bundle.ofNat w
    let last := min (if b.leaves then first else b.rep) (stop - 1)
    if b.ends || decide (stop ≤ first) || decide (b.rep < first) then []
    else
      let jump := max b.pitch (bitsOf (latWord lat 0x2C) 23 16)
      (g.targets i b).map (fun t => (t, jump, (last - first) * b.pitch + jump))
        ++ (if b.leaves || decide (stop ≤ b.rep) then [] else [(i + 1, (b.rep - first + 1) * b.pitch, (b.rep - first + 1) * b.pitch)])

/-- Least (or greatest) distances to the entry of each bundle. -/
abbrev DistMap := List (Option Nat)

def DistMap.relax (far : Bool) (m : DistMap) (t d : Nat) : DistMap :=
  match m.getD t none with
  | none => m.set t (some d)
  | some e => m.set t (some (if far then max e d else min e d))

/-- The repetition of bundle `i` at which a walk that reaches it stops: its first repetition among `stops`. -/
def stopRep (stops : List (Nat × Nat)) (i : Nat) : Nat := ((stops.filter (fun p => p.1 == i)).map Prod.snd).foldl min (2 ^ 13)

/-- One round over the bundles reached. -/
def Image.distRound (g : Image) (lat : Nat → Nat) (far : Bool) (stops : List (Nat × Nat)) (m : DistMap) : DistMap :=
  (List.range g.code.length).foldl (fun m i =>
    match m.getD i none with
    | none => m
    | some d => (g.hops lat i 0 (stopRep stops i)).foldl (fun m h => m.relax far h.1 (d + (if far then h.2.2 else h.2.1))) m) m

def Image.distRounds (g : Image) (lat : Nat → Nat) (far : Bool) (stops : List (Nat × Nat)) : Nat → DistMap → DistMap
  | 0, m => m
  | n + 1, m =>
    let r := g.distRound lat far stops m
    if r = m then m else g.distRounds lat far stops n r

/-- A distance: none where no path leads there, unbounded where loops between let it grow. -/
inductive VDist where
  | none
  | of (n : Nat)
  | unbounded
  deriving DecidableEq, Repr

def VDist.far (d : VDist) (n : Nat) : Bool := match d with | .none => false | .of k => decide (n ≤ k) | .unbounded => true

def VDist.reach (d : VDist) : Bool := match d with | .none => false | _ => true

/-- The distance from the issue `a` to the next issue `c`: paths end at the issues of `stops`. -/
def Image.dist (g : Image) (lat : Nat → Nat) (far : Bool) (stops : List (Nat × Nat)) (a c : Nat × Nat) : VDist :=
  let pitch := fun (i : Nat) => ((g.code[i]?).map (fun w => (Bundle.ofNat w).pitch)).getD 1
  let leaves := fun (i : Nat) => ((g.code[i]?).map (fun w => (Bundle.ofNat w).leaves || (Bundle.ofNat w).ends)).getD true
  let stops := c :: stops
  if a.1 = c.1 ∧ a.2 < c.2 then (if leaves a.1 then .none else .of ((c.2 - a.2) * pitch a.1))
  else
    let n := g.code.length
    let stopA := (stops.filter (fun p => p.1 == a.1 && decide (a.2 < p.2))).map Prod.snd |>.foldl min (2 ^ 13)
    let m := (g.hops lat a.1 a.2 stopA).foldl (fun m h => DistMap.relax far m h.1 (if far then h.2.2 else h.2.1)) (List.replicate n none)
    let m1 := g.distRounds lat far stops (n + 1) m
    let m2 := g.distRounds lat far stops (n + 1) m1
    let first := stopRep (stops.filter (fun p => p != c)) c.1
    if (c.2 ≠ 0 ∧ leaves c.1) ∨ first < c.2 then .none
    else
      match m1.getD c.1 none, m2.getD c.1 none with
      | some d, some e => if d = e then .of (d + c.2 * pitch c.1) else .unbounded
      | _, _ => .none

/-- What a producer's result is, for the cycle in which a consumer reads it (R144). -/
inductive VResult where
  | preg | treg | acc | store
  deriving DecidableEq, Repr

def KEnv.result (k : KEnv) (b : Bundle) (slot : Nat) : VResult :=
  match slot with
  | 1 => (match decodeM b.m with | some (.mm _) => .acc | _ => .store)
  | 3 =>
    (match decodeP b.p with
    | some (.store _ _ rs1 imm) => (match k.offset rs1 imm with | some o => if offRegs ≤ o then .treg else .store | none => .store)
    | some (.vst _ _ _) => .store
    | some (.vscatter _ _ _ _) => .store
    | _ => .preg)
  | 4 => .preg
  | _ => .store

/-- The cycle, from its issue, in which the consumer reads (Table 5.6): its first read where it needs the result, its last where it
needs the prior value. -/
def readCycle (t : VTime) (slot : Nat) (r : VResult) (kind : Bool) : Nat :=
  if slot = 1 && decide (t.entry ≤ 8) then
    (match r with | .acc => t.read | .store => if kind then 0 else t.occ - 1 | _ => 0)
  else match r with | .preg => 0 | .treg => if slot = 3 then t.read else 0 | _ => t.read

/-- Does the S slot guard its own issue (R142)? -/
def Bundle.guards (b : Bundle) : Bool := match decodeS b.s with | some (.wait _ _) => true | some (.take _ _) => true | _ => false

def Bundle.fences (b : Bundle) : Bool := match decodeS b.s with | some (.fence _) => true | _ => false

/-- The paths shorter than `d` cycles that lead on from these points: each point they reach, with its distance. -/
def Image.near (g : Image) (lat : Nat → Nat) (d : Nat) : Nat → List (Nat × Nat × Nat) → List (Nat × Nat × Nat) → List (Nat × Nat × Nat)
  | 0, _, seen => seen
  | n + 1, now, seen =>
    let next := (now.flatMap (fun p =>
      match g.code[p.1]? with
      | none => []
      | some w => ((g.exits lat p.1 p.2.1 (Bundle.ofNat w)).map (fun e => (e.1, e.2.1, p.2.2 + e.2.2.1))).filter (fun q => decide (q.2.2 < d)))).dedup
    let new := next.filter (fun q => !seen.contains q)
    if new.isEmpty then seen else g.near lat d n new (seen ++ new)

/-- The lengths below `d` of the paths from issue `p` to issue `a`, loops among them. -/
def Image.pathsUnder (g : Image) (lat : Nat → Nat) (d : Nat) (p a : Nat × Nat) : List Nat :=
  ((g.near lat d d [(p.1, p.2, 0)] []).filter (fun q => q.1 == a.1 && q.2.1 == a.2)).map (fun q => q.2.2)

/-- Can a hold lie between issue `a` and the read at issue `c` (R162, R193)? -/
def Image.holds (g : Image) (lat : Nat → Nat) (env : List (Option KEnv)) (a c : Nat × Nat) : Bool :=
  let reach := fun (p q : Nat × Nat) => (g.dist lat false (a :: [c]) p q).reach
  g.bundles.any (fun e =>
    let trap := (((env.getD e.1 none).getD KEnv.entry).timeOf lat e.1 e.2 3).bind VTime.trap
    if !(e.2.guards || e.2.fences || trap.isSome) then false
    else (List.range (e.2.rep + 1)).any (fun r =>
      let p := (e.1, r)
      (e.2.guards && ((p == c && (g.dist lat false [a] a c).reach) || (p != a && p != c && reach a p && reach p c)))
        || (e.2.fences && ((p == a && (g.dist lat false [a] a c).reach) || (p != a && p != c && reach a p && reach p c)))
        || (match trap with
          | some d =>
            ((p == a || (p != c && reach a p)) && (g.dist lat true [a] p c).far d)
              || (g.pathsUnder lat d p a).any (fun n => (g.dist lat true [a] a c).far (d - n))
          | none => false)))

/-- What is known, for the earliest cycle in which a producer's result can be ready (R161): a vector length that no constant gives is taken as
one element, which is the least that makes an instruction commit, and as none for a reduction, which commits with VL = 0 too (R184, R185). -/
def KEnv.least (k : KEnv) (b : Bundle) : KEnv :=
  let n := match decodeP b.p with
    | some (.vop .redsum _ _ _ _) => 0
    | some (.vop .redmax _ _ _ _) => 0
    | _ => 1
  { k with vl := some (k.vl.getD n) }

/-- The timing of a producer, for the earliest cycle in which its result can be ready: a reduction of no elements commits at cycle 2
(R185). -/
def KEnv.leastTime (k : KEnv) (lat : Nat → Nat) (i : Nat) (b : Bundle) (slot : Nat) : Option VTime :=
  let q := k.least b
  (q.timeOf lat i b slot).map (fun t =>
    match slot, decodeP b.p with
    | 3, some (.vop .redsum _ _ _ _) => if q.vl = some 0 then { t with ready := some (latTime lat 0x30 0 0 0 none |>.ready |>.getD 2) } else t
    | 3, some (.vop .redmax _ _ _ _) => if q.vl = some 0 then { t with ready := some (latTime lat 0x30 0 0 0 none |>.ready |>.getD 2) } else t
    | _, _ => t)

/-- The findings of one annotation: READ_EARLY, READ_LATE, DIST_MISMATCH. A pair that no path connects has no distance to compare; an
entry that names a bundle index at or past BUNDLES, or a repetition past its bundle's REPEAT, is such a pair (DESIGN CHOICE: R200
does not say what the verifier does with one). -/
def Image.pairFindings (g : Image) (lat : Nat → Nat) (env : List (Option KEnv)) (n : Annot) : List Reject :=
  match g.code[n.pb]?, g.code[n.cb]? with
  | some pw, some cw =>
    let pb := Bundle.ofNat pw
    let cb := Bundle.ofNat cw
    let kp := (env.getD n.pb none).getD KEnv.entry
    let kc := (env.getD n.cb none).getD KEnv.entry
    let pt := if n.result then kp.timeOf lat n.pb pb n.ps else kp.leastTime lat n.pb pb n.ps
    let entry := (pt.map VTime.entry).getD 0
    let rd := ((kc.timeOf lat n.cb cb n.cs).map (fun t => readCycle t n.cs (kp.result pb n.ps) n.result)).getD 0
    let need := (pt.bind VTime.ready).map (fun r => r - rd)
    let a := (n.pb, n.pr)
    let c := (n.cb, n.cr)
    let d := g.dist lat (!n.result) [a] a c
    let bad := fun (code v req : Nat) => ({
      code := code, bundle := n.cb, rep := n.cr, slot := n.cs, pbundle := n.pb, prep := n.pr, pslot := n.ps
      vdist := v, required := req, detail := entry } : Reject)
    (match d with
    | .none => []
    | .of v =>
      (match need with
        | some q =>
          if n.result then (if v < q then [bad 0x1D v q] else [])
          else if q ≤ v || g.holds lat env a c then [bad 0x1E v (q - 1)] else []
        | none => if !n.result && g.holds lat env a c then [bad 0x1E v 0xFFFFFFFF] else [])
        ++ (if v = n.dist then [] else [bad 0x1F v n.dist])
    | .unbounded => if n.result then [] else [bad 0x1E 0xFFFFFFFF ((need.map (· - 1)).getD 0xFFFFFFFF)])
  | _, _ => []

/-- FORMAT_USE over the bundles that a path reaches. -/
def Image.formatFindings (g : Image) (env : List (Option KEnv)) : List Reject :=
  g.bundles.filterMap (fun p => (env.getD p.1 none).bind (fun k =>
    (k.formatUse p.2).map (fun f => { code := 0x18, bundle := p.1, slot := f.1, detail := f.2 })))

/-- Findings of the checks that follow paths. -/
def Image.pathFindings (lat : Nat → Nat) (g : Image) : List Reject :=
  let env := g.consts
  (g.walkAll lat env).bad ++ g.formatFindings env ++ g.annots.flatMap (g.pairFindings lat env)

end Sys2Proof.Machine
end

