-- ==== Sys2Proof/Machine/Loader.lean ====
section
/-!
DEFINITION. Machine/Loader.lean: the verifier's verdict on a scene (R201, R202, R205), the loader (R207-R214), the booth's
writes to banks and TA_BANKCTL (R156, R208, R209, R219), the revocation of a halted tile's holdings (R486), M5 (R554).
-/
namespace Sys2Proof.Machine

/-- A measurement as bytes (R568). -/
def State.meas (s : State) (i : Nat) : List Byte := (List.range 8).flatMap (fun w => leBytes (s.reg (R.SC_MEAS i w)).toNat 8)

def State.setMeas (s : State) (i : Nat) (l : List Byte) : State :=
  (List.range 8).foldl (fun t w => t.setReg (R.SC_MEAS i w) (BitVec.ofNat 64 (ofLe ((l.drop (8 * w)).take 8)))) s

/-- An extension of a measurement (R554). -/
def State.measExtend (s : State) (i : Nat) (d : List Byte) : State := s.setMeas i (sha512 (s.meas i ++ d))

/-- The order of R202 on findings: check, bundle, repetition, slot. -/
def Reject.before (a b : Reject) : Bool :=
  decide (a.code < b.code) || (a.code == b.code && (decide (a.bundle < b.bundle) || (a.bundle == b.bundle && (decide (a.rep < b.rep)
    || (a.rep == b.rep && decide (a.slot < b.slot))))))

/-- The finding that is reported. -/
def firstReject (l : List Reject) : Option Reject :=
  l.foldl (fun b r => match b with | none => some r | some q => some (if r.before q then r else q)) none

/-- One image (R202, R205): the first check that fails. `plan` are the tiles of the scene's tile groups where a plan names them, `others`
the tiles of the scene's other images. -/
def State.verifyImage (s : State) (plan : Option (List Nat)) (l : List Byte) (others : List Nat) : Option Reject :=
  if l.length < 128 then some { code := 0x11, detail := l.length }
  else
    match (imgBadAt l).min? with
    | some o => some { code := 0x11, detail := o }
    | none =>
      let g := Image.ofBytes l
      if imgDigest l ≠ g.digest then some { code := 0x12 }
      else if g.unverified && !s.unverifiedMode then some { code := 0x13 }
      else if g.unverified then none
      else
        match g.first encFinding with
        | some r => some r
        | none =>
          match g.first (s.bindFinding g) with
          | some r => some r
          | none =>
            match g.placeFinding plan others with
            | some r => some r
            | none => firstReject ((g.first g.flowFinding).toList ++ g.pathFindings (fun i => (s.reg (R.TA_LAT i)).toNat))

/-- The tiles of a seat's tile groups in a plan. -/
def Plan.groupTiles (p : Plan) (seat : Nat) : List Nat :=
  ((p.seats.find? (fun q => q.seat == seat)).map (fun q => q.groups.flatMap GroupPlan.tiles)).getD []

/-- The tiles of a seat's tile groups in the applied plan; none where no plan was applied (R21). -/
def State.tilesOf (s : State) (seat : Nat) : Option (List Nat) := s.job.applied.map (fun p => p.groupTiles seat)

/-- Tiles an image lists; none where it cannot be read. -/
def imgTiles (l : List Byte) : List Nat := if l.length < 128 || !(imgBadAt l).isEmpty then [] else (Image.ofBytes l).tiles

/-- A scene (R202): the first image rejected, with its index. -/
def State.verifyScene (s : State) (plan : Option (List Nat)) (images : List (List Byte)) : Option (Nat × Reject) :=
  let tiles := images.map imgTiles
  images.zipIdx.findSome? (fun p =>
    (s.verifyImage plan p.1 ((tiles.zipIdx.filter (fun q => q.2 != p.2)).flatMap Prod.fst)).map (fun r => (p.2, r)))

/-- The tiles a scene uses. -/
def sceneTiles (images : List (List Byte)) : List Nat := images.flatMap (fun l => (Image.ofBytes l).tiles)

/-- The commit word of an image (Table 7.5). -/
def commitWordOf (l : List Byte) : List Byte :=
  let g := Image.ofBytes l
  leBytes (1 + 2 * b2n g.unverified + g.code.length * 2 ^ 16 + g.scene * 2 ^ 48) 8 ++ g.digest.take 8

/-- Before a mark is written: once cue K + 40 has come, the curtain takes it as it stood then (R211). -/
def State.keepMark (s : State) (t : Nat) : State :=
  match s.curtain.announced with
  | none => s
  | some k =>
    if s.curtain.applied || decide (s.cue < k + 40) || s.curtain.lateMarks.any (fun p => p.1 == t) then s
    else { s with curtain := { s.curtain with lateMarks := (t, s.bit (R.TA_BANKCTL_MARK t)) :: s.curtain.lateMarks } }

/-- The bundles of an image as its bytes. -/
def imgCode (l : List Byte) : List Byte := (l.drop (imgSec l 0x20).1).take (imgSec l 0x20).2

/-- Code of an image in one tile (R214): bundles, commit, mark. -/
def State.loadBank (s : State) (l code : List Byte) (mark : Bool) (t : Nat) : State :=
  let b := 1 - s.fld (R.TA_SEQ_BANK t)
  let s := s.bankWrite t b (tileBase t + 0x80000 + 0x20000 * b) code
  let s := s.bankWrite t b (commitAddr t b) (commitWordOf l)
  if mark then (s.keepMark t).setFld (R.TA_BANKCTL_MARK t) 1 else s

/-- The image in one tile. -/
def State.loadTile (s : State) (l : List Byte) (mark : Bool) (t : Nat) : State := s.loadBank l (imgCode l) mark t

/-- Every image of a scene into its tiles. -/
def State.loadImages (s : State) (images : List (List Byte)) (mark : Bool) : State :=
  images.foldl (fun u l => (Image.ofBytes l).tiles.foldl (fun v t => v.loadTile l mark t) u) s

/-- The tile whose commit word, of either bank, holds the byte at a device address. -/
def commitTile (a : Nat) : Option Nat :=
  if 0x11000000000 ≤ a ∧ a < 0x11080000000 ∧ (0x9FFF0 ≤ a % 0x100000 ∧ a % 0x100000 < 0xA0000 ∨ 0xBFFF0 ≤ a % 0x100000 ∧ a % 0x100000 < 0xC0000) then
    some ((a - 0x11000000000) / 0x100000)
  else none

/-- The tile whose TA_BANKCTL lies at an address. -/
def bankctlTile (a : Nat) : Option Nat :=
  if 0x11000000000 ≤ a ∧ a < 0x11080000000 ∧ a % 0x100000 = 0xF8330 then some ((a - 0x11000000000) / 0x100000) else none

/-- A tile outside every group of the scene holds no program: neither bank is committed, none is marked (R21). -/
def State.clearOutside (s : State) (tiles : List Nat) : State :=
  let outside := fun (x : Option Nat) => match x with | some t => !tiles.contains t | none => false
  let s : State := { s with mem := s.mem.filter (fun p => !outside (commitTile p.1)) }
  ((s.regs.map Prod.fst).filter (fun a => outside (bankctlTile a))).foldl (fun t a =>
    t.setFld (R.TA_BANKCTL_MARK ((a - 0x11000000000) / 0x100000)) 0) s

/-- The tiles of a scene on one die, in its order. -/
def sceneTilesOn (images : List (List Byte)) (die : Nat) : List Nat := (sceneTiles images).filter (fun t => t / 256 == die)

/-- Where a staged scene's area holds the bank image of tile `t` (R60): a bank's 128 KiB for each tile of the die. -/
def StagedScene.bankAt (x : StagedScene) (t : Nat) : Nat :=
  x.low.getD (t / 256) 0 + 0x20000 * (sceneTilesOn x.images (t / 256)).idxOf t

/-- Where it holds the bytes initially at `a` of a tile's data SRAM: 512 KiB for each tile, after the bank images. -/
def StagedScene.dataAt (x : StagedScene) (a : Nat) : Nat :=
  let t := (a - 0x11000000000) / 0x100000
  let l := sceneTilesOn x.images (t / 256)
  x.low.getD (t / 256) 0 + 0x20000 * l.length + 0x80000 * l.idxOf t + (a - tileBase t)

/-- Is [a, a + n) inside the data SRAM of a tile of the scene? -/
def StagedScene.ownsData (x : StagedScene) (a n : Nat) : Bool :=
  let t := (a - 0x11000000000) / 0x100000
  decide (0x11000000000 ≤ a) && (sceneTiles x.images).contains t && decide (a - tileBase t + n ≤ 0x80000)

/-- Bytes of a die's wings that a scene's bank images and data take. -/
def sceneAreaBytes (images : List (List Byte)) (die : Nat) : Nat := roundUp (0xA0000 * (sceneTilesOn images die).length) (2 ^ 21)

/-- Bytes written into a staged scene's area: whole units lose their poison. -/
def State.stageBytes (s : State) (a : Nat) (l : List Byte) : State :=
  (unitsOver (regionOf s.cacheN a) a l.length).foldl (fun t u => t.setPoison u false) (s.setBytes a l)

/-- A staged scene's bank images and initial data in the wings (R60). -/
def State.stageScene (s : State) (x : StagedScene) (data : List (Nat × List Byte)) : State :=
  let s := x.images.foldl (fun u l => (Image.ofBytes l).tiles.foldl (fun v t => v.stageBytes (x.bankAt t) (imgCode l)) u) s
  data.foldl (fun u p => if x.ownsData p.1 p.2.length then u.stageBytes (x.dataAt p.1) p.2 else u) s

/-- The incoming scene as its area holds it: every bank image into its tile, and the initial data (R60, R64). -/
def State.loadStaged (s : State) (x : StagedScene) : State :=
  let s := x.images.foldl (fun u l =>
    (Image.ofBytes l).tiles.foldl (fun v t => v.loadBank l (v.bytes (x.bankAt t) (imgCode l).length) true t) u) s
  x.data.foldl (fun u p => if x.ownsData p.1 p.2 then u.stageBytes p.1 (u.bytes (x.dataAt p.1) p.2) else u) (s.clearOutside (sceneTiles x.images))

/-- M5 at acceptance (R554). -/
def State.measImages (s : State) (images : List (List Byte)) : State :=
  images.foldl (fun t l => t.measExtend 5 ((l.drop 0x40).take 64)) s

/-- Has the curtain that was announced reached K + 64 with its verdict applied (R52)? -/
def State.curtainOver (s : State) : Bool :=
  match s.curtain.announced with
  | some k => s.curtain.applied && decide (k + 64 ≤ s.cue)
  | none => false

/-- Is a curtain announced and not ended (R59)? -/
def State.inCurtain (s : State) : Bool := s.curtain.announced.isSome && !s.curtainOver

-- Parameters of LOAD_SCENE and STAGE_SCENE (Table 14.4).
def CmdRec.sceneId (c : CmdRec) : Nat := c.par 0 2
def CmdRec.imageCount (c : CmdRec) : Nat := c.par 2 2
def CmdRec.sceneMark (c : CmdRec) : Nat := c.par 4 1
def CmdRec.sceneSeed (c : CmdRec) : Nat := c.par 8 8
def CmdRec.imageAt (c : CmdRec) (i : Nat) : Nat × Nat := (c.par (16 + 16 * i) 8, c.par (24 + 16 * i) 8)

/-- The images a command names, as booth core 0 reads them. -/
def State.readImages (s : State) (c : CmdRec) : List (List Byte) × State :=
  (List.range c.imageCount).foldl (fun acc i =>
    let p := c.imageAt i
    let r := acc.2.moverRead 1 p.1 p.2 0 false noEcc
    (acc.1 ++ [r.1.1.map SrcByte.val], r.2)) ([], s)

/-- VERIFY_FAILED with the rejection record. -/
def State.verifyFailed (s : State) (c : CmdRec) (p : Nat × Reject) : State :=
  s.cmdDone { c with done := 0, total := c.imageCount } 0x8A (p.2.toBytes p.1 (s.fld R.TA_LAT_VER_VERSION))

/-- A booth write into a bank: the bus answer carries BANK_ACTIVE where the bank is in use (R209). -/
def State.boothBank (s : State) (core : Fin 2) (t : Tile) (bank : Fin 2) (off : Nat) (data : List Byte) : State :=
  let a := tileBase t + 0x80000 + 0x20000 * bank + off
  let e := s.access ⟨1 + core, a, data.length, some data, 0, false, noEcc, none⟩
  e.2.send (.bus (1 + core) a e.1.cause [])

/-- BANK_WRITE: bytes of a bank written by a booth core (R156, R208, R209); bytes past the bank are not part of it. -/
def execBankWrite (core : Fin 2) (t : Tile) (bank : Fin 2) (off : Fin 0x20000) (data : List Byte) (s : State) : Out :=
  .next (s.boothBank core t bank off (data.take (0x20000 - off)))

/-- BANK_COMMIT: a whole commit word with SET = 1 (R208). -/
def execBankCommit (core : Fin 2) (t : Tile) (bank : Fin 2) (w : BitVec 128) (s : State) : Out :=
  .next (s.boothBank core t bank 0x1FFF0 (leBytes (w ||| 1#128).toNat 16))

/-- A booth write of TA_BANKCTL (R211, R219). One that halts a tile which has issued in this cycle is accepted in the next, since the
cycle of a halt has no issue (R215). -/
def State.bankctlWrite (s : State) (t off len v : Nat) : State :=
  let f := s.formed (R.TA_BANKCTL t) off len v
  if bitOf f 1 && s.now.issued.any (fun n => n.tile == t) then
    { s with now := { s.now with halting := s.now.halting ++ [⟨t, off, len, v⟩] } }
  else
  let s := if off = 0 then s.keepMark t else s
  let s := s.regWrite (R.TA_BANKCTL t) off len v
  if bitOf f 1 then
    let pt := s.issuePt t
    s.haltTile t 0x07 pt.bundle pt.rep 0 0 0 (bitsOf f 63 32)
  else s

/-- BANKCTL_MARK: R211, R219. -/
def execBankctlMark (t : Tile) (mark : Bool) (s : State) : Out := .next (s.bankctlWrite t 0 4 (b2n mark))

/-- BOOTH_HALT: R219, R216. -/
def execBoothHalt (t : Tile) (detail : BitVec 32) (mark : Bool) (s : State) : Out :=
  .next (s.bankctlWrite t 0 8 (detail.toNat * 2 ^ 32 + 2 + b2n mark))

/-- SR_SEED_WRITE: R98, R101. -/
def execSrSeedWrite (t : Tile) (v : Word) (s : State) : Out := .next (s.seedWrite t 0 8 v.toNat)

/-- The booth takes back what a tile holds (R486): locks, notices queued for it, transfers not yet sent. -/
def State.revoke (s : State) (t : Nat) : State :=
  let mid := tileMid t
  let s := (List.range 256).foldl (fun u n => if u.fld (R.CB_LOCK_HOLDER n) = mid then u.setFld (R.CB_LOCK_HOLDER n) 0 else u) s
  let s := (List.range 256).foldl (fun u n =>
    if u.chanKind n != .unbound && u.fld (R.CB_BIND_RECEIVER_MID n) == mid then u.refillChan n [] else u) s
  ((s.tile t).xfers.filter (fun x => x.phase == .queued)).foldl (fun u x => u.finishXfer t { x with op := .copy, vers := [] }) s

/-- TILE_REVOKE: R486, for a tile that has halted. -/
def execTileRevoke (t : Tile) (s : State) : Out :=
  if s.fld (R.TA_SEQ_STATE t) = seqHalted then .next (s.revoke t) else .next s

end Sys2Proof.Machine
end

