-- ==== Sys2Proof/Machine/Curtain.lean ====
section
/-!
DEFINITION. Machine/Curtain.lean: the curtain (R50-R59): step-complete, announcement, drain, verdict, publish and discard, and
the first issue of the next step.
-/
namespace Sys2Proof.Machine

def State.setCurtain (s : State) (c : CurtainState) : State := { s with curtain := c }

/-- The seats whose reports the curtain waits for: the live seats of the job; a job without a plan is this seat alone. -/
def State.jobSeats (s : State) : List Nat := if s.job.seats.isEmpty then [s.mySeat] else s.liveSeats

/-- Tiles of the running scene. -/
def State.tilesOfScene (s : State) : List Nat := sceneTiles s.scene.images

/-- Every descriptor of the step has finished (R50, R273): nothing queued or running on any source, and every trigger fired. -/
def State.descsDone (s : State) : Bool :=
  (List.range 8).all (fun k =>
    let x := s.teStack k
    x.trigQ.isEmpty && x.boothQ.isEmpty && x.resilQ.isEmpty && x.running.isEmpty
      && (s.validShards k).all (fun i => s.fld (R.TP_SHARD_W12_EXPECT k i) == 0 || s.bit (R.TP_SHARD_W0_FIRED k i))) && s.res.owed.isEmpty

/-- No FENCE.F of a tile waits. -/
def State.noFenceF (s : State) : Bool :=
  s.tiles.all (fun p =>
    let isF := fun (f : Option (FenceKind × Nat)) => match f with | some (.f _, _) => true | _ => false
    !isF p.2.fence && !isF p.2.fenceH)

/-- Every reduce-write of the step is acknowledged; what is sent for a checkpoint or a re-shard is none of it (R344, R475). -/
def State.reducesDone (s : State) : Bool :=
  s.fab.reqs.all (fun r => (r.op != opRwAdd && r.op != opRwXor) || r.owner.apart) && s.tiles.all (fun p => p.2.xfers.all (fun x => x.op != .rwrite))

/-- The four conditions of R50. -/
def State.stepDone (s : State) : Bool :=
  s.tilesOfScene.all (fun t => s.fld (R.TA_SEQ_STATE t) == seqEnded) && s.descsDone && s.noFenceF && s.reducesDone

/-- The announcement is accepted (R51, R54). -/
def State.announceIn (s : State) (k step : Nat) : State :=
  if !s.curtain.running || s.curtain.announced.isSome || step != s.fld R.CU_STEP_STEP then s
  else
    let late := decide (k ≤ s.cue)
    let s := s.setCurtain { s.curtain with announced := some k, drain := if late then some 0 else none, verdict := none, applied := false, lateMarks := [] }
    (s.setReg R.CU_CURTAIN (BitVec.ofNat 64 k)).setFld R.CU_STATUS_CURTAIN_PHASE (if late then 2 else 1)

/-- The cue master accepts a step-complete; the last one gives K (R51). -/
def State.completeIn (s : State) (sender step : Nat) (discard : Bool) : State :=
  if !s.bit R.CU_STATUS_MASTER || s.curtain.announced.isSome || step != s.fld R.CU_STEP_STEP
      || !s.jobSeats.contains sender || s.curtain.completes.any (fun c => c.1 == sender) then s
  else
    let s := s.setCurtain { s.curtain with completes := s.curtain.completes ++ [(sender, s.cue, discard)] }
    if s.jobSeats.all (fun q => s.curtain.completes.any (fun c => c.1 == q)) then
      let k := s.cue + max 8 (s.fld R.CU_CTL_MARGIN)
      (s.flood (.announce k step)).announceIn k step
    else s

/-- A report of this seat goes to the cue master, or is taken at once where this seat is the master. -/
def State.masterSeat (s : State) : Nat :=
  if s.bit R.CU_STATUS_MASTER then s.mySeat
  else if s.bit R.CU_STATUS_FAILOVER then s.cueX.followed.getD (s.fld R.CU_CTL_MASTER_SEAT) else s.fld R.CU_CTL_MASTER_SEAT

/-- Step-complete leaves (R50). -/
def State.sendComplete (s : State) : State :=
  let step := s.fld R.CU_STEP_STEP
  let s := s.setCurtain { s.curtain with sent := true }
  if s.bit R.CU_STATUS_MASTER then s.completeIn s.mySeat step s.discardFlag
  else s.ctlRouted s.masterSeat (.stepComplete s.masterSeat s.mySeat step s.discardFlag)

/-- Has a scene change or restore begun, its cue come? -/
def State.changing (s : State) : Bool := s.scene.change.any (fun c => c.begun)

/-- Does a step run here whose step-complete is still due? -/
def State.stepOpen (s : State) : Bool :=
  s.curtain.running && !s.curtain.sent && s.curtain.firstIssue.isSome && !s.scene.rollout && !s.changing && !s.res.recovering

/-- STEP_COMPLETE: R50. -/
def execStepComplete (s : State) : Out :=
  if s.stepOpen && s.stepDone then .next (s.setCurtain { s.curtain with late := 0 }).sendComplete else .next s

/-- STEP_COMPLETE_ACCEPTED: a seat's step-complete reaches the cue master (R46, R51). -/
def execStepCompleteAccepted (sender : BitVec 15) (step : BitVec 32) (discard : Bool) (s : State) : Out :=
  .next (s.completeIn sender.toNat step.toNat discard)

/-- ANNOUNCE: the announcement arrives by port `p` and floods on (R39, R54). -/
def execAnnounce (p : Fin 16) (k : Word) (step : BitVec 32) (s : State) : Out :=
  .next ((s.floodFrom p (.announce k.toNat step.toNat)).announceIn k.toNat step.toNat)

/-- CURTAIN_DRAIN_START: R52. -/
def execCurtainDrainStart (s : State) : Out :=
  match s.curtain.announced, s.curtain.drain with
  | some k, none =>
    if k ≤ s.cue ∧ !s.curtain.applied then
      .next ((s.setCurtain { s.curtain with drain := some 0 }).setFld R.CU_STATUS_CURTAIN_PHASE 2)
    else .next s
  | _, _ => .next s

/-- The drain of C0 is a FENCE.D of every master: what the tiles and the trap engines have issued is performed, and every reduce-write held
for a buffer is added; then, with C1, the tiles' loads (R35). What the resilience engine runs is no part of it (R58). -/
def State.performed (s : State) (c : Nat) : Bool :=
  match c with
  | 0 => s.tiles.all (fun p => p.2.writtenBefore p.2.ordNext) && (List.range 8).all (fun k => (s.teStack k).running.all (fun r => r.source == 2) && (s.teStack k).heldRw.isEmpty)
  | 1 => s.tiles.all (fun p => p.2.globals.all (fun g => g.bad))
  | _ => true

/-- Is class `c` drained on this seat (R35, R53)? -/
def State.classDrained (s : State) (c : Nat) : Bool :=
  let mine := fun (k : Pkt) => k.cls == c
  s.fab.inject.all (fun k => !mine k) && s.fab.inbox.all (fun k => !mine k)
    && s.fab.ports.all (fun p => p.2.outq.all (fun o => !mine o.pkt) && p.2.going.all (fun g => !mine g.out.pkt) && p.2.arrived.all (fun a => !mine a.2)
      && p.2.part.all (fun f => f.vc / 2 != c)
      && p.2.retry.all (fun f => match f.1.body with | .cls _ => f.1.vc / 2 != c | .ctl _ => true))
    && s.fab.reqs.all (fun r => (if r.op = opReadReq then 1 else if r.op = opCollCtrl then 2 else 0) != c)
    && (c != 3 || s.cbOut.isEmpty) && s.rig.bufs.all (fun b => b.2.all (fun f => f.cls.val != c))
    && s.rig.ends.all (fun b => b.2.all (fun f => f.cls.val != c)) && s.performed c

/-- A drained report is accepted at the cue master, before K + 32 (R52, R55). -/
def State.drainedIn (s : State) (sender k : Nat) (discard : Bool) : State :=
  if s.bit R.CU_STATUS_MASTER && s.curtain.announced == some k && !s.curtain.set && decide (s.cue < k + 32)
      && !s.curtain.reports.any (fun r => r.1 == sender) then
    s.setCurtain { s.curtain with reports := s.curtain.reports ++ [(sender, discard)] }
  else s

/-- DRAINED: R52. -/
def execDrained (sender : BitVec 15) (k : Word) (discard : Bool) (s : State) : Out := .next (s.drainedIn sender.toNat k.toNat discard)

/-- A verdict is accepted (R52, R55); from K + 48 on none is. -/
def State.verdictIn (s : State) (k : Nat) (publish : Bool) : State :=
  if s.curtain.announced == some k && s.curtain.verdict.isNone && !s.curtain.applied && !s.bit R.CU_STATUS_CUT_OFF
      && decide (s.cue < k + 48) then
    (s.setCurtain { s.curtain with verdict := some publish }).setFld R.CU_STATUS_CURTAIN_PHASE 4
  else s

/-- The straggler count at a PUBLISH verdict (R498). -/
def State.straggle (s : State) : State :=
  let l := s.curtain.completes.reverse
  match l with
  | a :: b :: _ =>
    if s.ruling R.RS_LIMIT_STRAGGLE_CUES < a.2.1 - b.2.1 then
      let n := match s.curtain.straggle with | some (q, n) => if q = a.1 then n + 1 else 1 | none => 1
      if s.ruling R.RS_CFG_STRAGGLE_STEPS ≤ n then
        ((s.setCurtain { s.curtain with straggle := none }).sendC3 s.mates (.straggler a.1)).resCode true 0xA3 a.1
      else s.setCurtain { s.curtain with straggle := some (a.1, n) }
    else s.setCurtain { s.curtain with straggle := none }
  | _ => s.setCurtain { s.curtain with straggle := none }

/-- VERDICT_SET: R55, R498. -/
def execVerdictSet (s : State) : Out :=
  match s.curtain.announced with
  | none => .next s
  | some k =>
    if !s.bit R.CU_STATUS_MASTER || s.curtain.set || decide (s.cue < k + 32) then .next s
    else
      let missing := s.jobSeats.filter (fun q => !s.curtain.reports.any (fun r => r.1 == q))
      let publish := missing.isEmpty && s.curtain.reports.all (fun r => !r.2)
      let s := s.setCurtain { s.curtain with set := true }
      let s := if publish then s.straggle else s
      let s := (s.flood (.verdict k publish)).verdictIn k publish
      .next (missing.foldl (fun t q => t.loseSeat q) s)

/-- VERDICT: the verdict arrives by port `p` (R52, R55). -/
def execVerdict (p : Fin 16) (k : Word) (publish : Bool) (s : State) : Out :=
  .next ((s.floodFrom p (.verdict k.toNat publish)).verdictIn k.toNat publish)

/-- CURTAIN_CUT_OFF: no verdict by K + 48 (R55). -/
def execCurtainCutOff (s : State) : Out :=
  match s.curtain.announced with
  | none => .next s
  | some k =>
    if s.curtain.verdict.isSome || s.bit R.CU_STATUS_CUT_OFF || decide (s.cue < k + 48) then .next s
    else .next ((s.raiseFld R.CU_STATUS_CUT_OFF).loseSeat s.mySeat)

/-- Every ticket pool at its declared budget: `peer` gives, per port, what the peer grants (R56, R368). -/
def State.refill (s : State) (peer : List (List Nat)) : State :=
  (List.range 16).foldl (fun t p =>
    if t.portUp p then
      (t.setPort p { t.port p with tk := (List.range 8).map (fun v => (peer.getD p []).getD v 0), ret := List.replicate 8 0 }).showTickets p
    else t) s

/-- Every rigging and fabric queue is emptied (R56; DESIGN CHOICE: control flits that wait at a port, and what retry buffers and the callboard's
queue of notice packets hold, are none of them). -/
def State.emptyQueues (s : State) : State :=
  let s : State := { s with fab := { s.fab with inject := [], inbox := [], ceQ0 := [], ceQ1 := [], early := [] },
                            rig := { s.rig with bufs := [], ends := [] } }
  ((List.range 16).foldl (fun t p => t.setPort p { t.port p with outq := [], arrived := [], part := [], going := none }) s).ceFree

/-- A reduce-write held for a buffer when its step is discarded is not added, and its writer is answered (DESIGN CHOICE: R57 and R271
do not speak of it). -/
def State.dropHeld (s : State) (k : Nat) : State :=
  let x := s.teStack k
  x.heldRw.foldl (fun t h => t.reduceAck h.owner h.addr 0 0) (s.setTe k { x with heldRw := [] })

/-- Every channel whose receiver is a tile is emptied, uncounted (R56). -/
def State.emptyTileChannels (s : State) : State :=
  (List.range 256).foldl (fun t n =>
    if t.chanKind n != .unbound && decide (0x800 ≤ t.fld (R.CB_BIND_RECEIVER_MID n)) then t.refillChan n [] else t) s

/-- What a curtain does to tickets, queues and the tiles' channels (R56). -/
def State.refreshQueues (s : State) (peer : List (List Nat)) : State := (s.emptyQueues.refill peer).emptyTileChannels

/-- What a curtain clears in the norm and clipping registers of the stacks (Table 9.8). -/
def State.clearNorms (s : State) : State :=
  (List.range 8).foldl (fun t k =>
    (((t.setReg (R.TP_NORM_LOCAL k) 0).setFld (R.TP_CLIP_STATUS_PENDING k) 0).setFld (R.TP_CLIP_STATUS_DONE k) 0).setReg
      (R.TP_CLIP_FACTOR k) 0x3FF0000000000000#64) s

/-- The flags of an entry that either outcome clears. -/
def State.clearShard (s : State) (k i : Nat) : State :=
  (((s.setFld (R.TP_SHARD_W0_WRITTEN k i) 0).setFld (R.TP_SHARD_W0_FIRED k i) 0).setFld (R.TP_SHARD_W0_SPEC k i) 0).setReg
    (R.TP_SHARD_W14 k i) 0

/-- Each valid entry under PUBLISH (R270). -/
def State.publishShard (s : State) (n k i : Nat) : State :=
  let s := if s.bit (R.TP_SHARD_W0_WRITTEN k i) then
      (s.setFld (R.TP_SHARD_W0_FRONT k i) (s.backCopy k i)).setFld (R.TP_SHARD_W1_VERSION k i) n else s
  (s.clearShard k i).setFld (R.TP_SHARD_W13_ARRIVED k i) 0

/-- Each valid entry under DISCARD (R271): a gradient buffer that received data is to be zeroed. -/
def State.discardShard (s : State) (k i : Nat) : State :=
  let hit := decide (s.fld (R.TP_SHARD_W13_ARRIVED k i) ≠ 0)
  let s := (s.clearShard k i).setFld (R.TP_SHARD_W13_ARRIVED k i) 0
  if hit then
    let x := s.teStack k
    s.setTe k { x with zeroing := x.zeroing ++ [i] }
  else s

/-- Every valid entry of every stack. -/
def State.eachShard (s : State) (f : State → Nat → Nat → State) : State :=
  (List.range 8).foldl (fun t k => (t.validShards k).foldl (fun u i => f u k i) t) s

/-- A swap of a marked tile at a scene start or curtain (R56, R212): it clears the mark, and the banks swap when this cycle ends, if the test
then holds (R210). -/
def State.swapMarked (s : State) (t : Nat) : State :=
  if s.bit (R.TA_BANKCTL_MARK t) then (s.setFld (R.TA_BANKCTL_MARK t) 0).noteSwap t .mark else s

/-- A swap of a marked tile at a curtain: the mark as it stood at K + 40 (R211). A mark written since stays, for the curtain that
follows. -/
def State.swapCurtain (s : State) (t : Nat) : State :=
  match s.curtain.lateMarks.find? (fun p => p.1 == t) with
  | none => s.swapMarked t
  | some p => if p.2 then s.noteSwap t .mark else s

/-- The curtain report of JOB_START (Table 14.4). -/
def State.curtainReport (s : State) (code k step : Nat) : State :=
  match s.host.cmds.find? (fun c => c.opcode == opcJobStart && c.started) with
  | some c => s.cmdStatus c 2 code (leBytes k 8 ++ leBytes step 4)
  | none => s

/-- Layers of checkpoint `k` (R468): 1 partner, 2 flash, 4 store; `asked` are those of CHECKPOINT_NOW. -/
def State.layersOf (s : State) (k asked : Nat) : Nat :=
  let b := s.fld R.RS_RISK_JOB_BAND
  let fe := s.fld (R.RS_BAND_FLASH_EVERY b)
  let se := s.fld (R.RS_BAND_STORE_EVERY b)
  let store := bitOf asked 2 || (decide (se ≠ 0) && k % se == 0)
  let flash := store || bitOf asked 1 || (decide (fe ≠ 0) && k % fe == 0)
  1 + 2 * b2n flash + 4 * b2n store

/-- The checkpoint that the cue master orders at the PUBLISH verdict of step `n` for the curtain at `cue` (R467): `asked` and `flash` are
what other seats have pending. -/
def State.orderCkpt (s : State) (cue n asked : Nat) (flash : Bool) : State :=
  let all := Nat.lor asked s.res.asked
  let due := decide (s.fld (R.RS_BAND_INTERVAL (s.fld R.RS_RISK_JOB_BAND)) ≤ n - s.fld R.RS_CKPT_STEP) || decide (all ≠ 0) || s.res.live.isSome
  if !s.bit R.CU_STATUS_MASTER || !due || s.res.opened.isSome || s.res.order.isSome || s.res.recovering || flash || s.res.flashWriting.isSome
      || s.res.flashDue then s
  else
    let k := max s.res.lastK (s.fld R.RS_CKPT_NUMBER) + 1
    s.setRes { s.res with asked := 0, order := some ⟨k, n, s.layersOf k all, all, cue + 56⟩ }

/-- The X of this step's PARITY shards: applied, or held while a checkpoint is open (R473, R474). -/
def State.keepDeltas (s : State) : State :=
  let l := s.res.deltas
  let s := s.setRes { s.res with deltas := [] }
  if s.res.opened.isSome || s.res.flashDue then (s.setRes { s.res with heldX := (s.res.heldX ++ l).dedup })
  else (l.foldl (fun t p => match t.area? p.1 p.2 with | some a => t.applyX a | none => t) s).postOwed

/-- PUBLISH of step n (R56, R58, R210, R211, R270, R467, R473, R475). -/
def State.publish (s : State) (k : Nat) (peer : List (List Nat)) (asked : Nat) (flash : Bool) : State :=
  let n := s.fld R.CU_STEP_STEP
  let s := (s.eachShard (fun t a i => t.publishShard n a i)).clearNorms
  let s := (s.setFld R.CU_STEP_STEP (n + 1)).setFld R.CU_STATUS_LAST_VERDICT 1
  let s := (List.range 2048).foldl (fun t i => t.swapCurtain i) s
  let s := s.refreshQueues peer
  let s := s.setCurtain { s.curtain with applied := true, late := 0, left := s.curtain.left.map (fun x => x - 1) }
  let s : State := { (s.setFld R.CU_STATUS_CURTAIN_PHASE 5).curtainReport 0x91 k n with discardFlag := false }
  let s := if s.res.opened.isSome then s.setHolds 1 else s
  (s.keepDeltas.orderCkpt k n asked flash).settle

/-- What DISCARD does to the step's work (R35, R57, R271, R473). -/
def State.discardWork (s : State) : State :=
  let s := (List.range 8).foldl (fun t k => if (t.teStack k).heldRw.isEmpty then t else t.dropHeld k) s
  let s := (s.eachShard (fun t a i => t.discardShard a i)).clearNorms
  let s := (s.addFld R.CU_STEP_DISCARDS 1).setFld R.CU_STATUS_LAST_VERDICT 0
  let s : State := { s with discardFlag := false }
  (s.setRes { s.res with deltas := [] }).postOwed

/-- What DISCARD does beside the report. -/
def State.discardStep (s : State) (peer : List (List Nat)) : State := s.discardWork.refreshQueues peer

/-- DISCARD of the curtain at `k`. -/
def State.discard (s : State) (k : Nat) (peer : List (List Nat)) : State :=
  let s := s.discardStep peer
  let s := s.setCurtain { s.curtain with applied := true }
  let s := (s.setFld R.CU_STATUS_CURTAIN_PHASE 5).curtainReport 0x92 k (s.fld R.CU_STEP_STEP)
  (if s.res.opened.isSome then s.setHolds 1 else s).settle

/-- A list of budgets as numbers. -/
def peerTickets (l : List (List (BitVec 16))) : List (List Nat) := l.map (fun q => q.map BitVec.toNat)

/-- PUBLISH: R56. `peer` are the budgets of the peers, `asked` the checkpoint layers other seats ask for (8: one is pending), `flash` whether one of
them is writing a flash image. -/
def execPublish (peer : List (List (BitVec 16))) (asked : Fin 16) (flash : Bool) (s : State) : Out :=
  match s.curtain.announced with
  | none => .next s
  | some k =>
    if s.curtain.verdict == some true && !s.curtain.applied && decide (k + 40 ≤ s.cue) then .next (s.publish k (peerTickets peer) asked flash)
    else .next s

/-- DISCARD: R57. -/
def execDiscard (peer : List (List (BitVec 16))) (s : State) : Out :=
  match s.curtain.announced with
  | none => .next s
  | some k =>
    if s.curtain.verdict == some false && !s.curtain.applied && decide (k + 40 ≤ s.cue) then .next (s.discard k (peerTickets peer))
    else .next s

/-- The first issue of a tile: index 0 of the bank in use (R140). A tile at rest waits for a start grant (R531). -/
def State.armTile (s : State) (t : Nat) : State :=
  let x := s.tile t
  let rest := x.lastIssue == 0 || decide (x.lastIssue + 1024 ≤ s.active)
  let s := s.setTile t { x with endIssued := false, endH := false, issueAt := s.active, waitGrant := rest }
  (s.setResume t 0).setFld (R.TA_SEQ_STATE t) seqIssuing

/-- A scene start on one tile (R98, R101, R183, R212, R216, R261, R300): halt records, memory causes, VL and the trap record go,
the generators start from the scene's seed, a marked tile swaps, and the tile issues from index 0. -/
def State.startTile (s : State) (t : Nat) (swap : Bool) : State :=
  let s := (((s.setReg (R.TA_HALT0 t) 0).setReg (R.TA_HALT1 t) 0).setReg (R.TA_HALT2 t) 0).setFld (R.TA_SEQ_HALT_REASON t) 0
  let s := ((s.setReg (R.TA_MFAULT0 t) 0).setReg (R.TA_MFAULT1 t) 0).setReg (R.TA_MFAULT2 t) 0
  let s := ((s.setReg (R.TA_PTRAP0 t) 0).setFld (R.TA_PVL_VL t) 0).setFld (R.TA_SEQ_STATE t) seqIdle
  let s := s.setReg (R.TA_SR_SEED t) (BitVec.ofNat 64 s.scene.seed)
  let s := s.setTile t { s.tile t with fence := none, fenceH := none, cutF := false, cutH := false, trap := none, reexec := none, resumeAt := none, swapAt := none,
                                       sr := [], samplerDraws := 0 }
  let s := if swap then s.swapMarked t else s
  if s.fld (R.TA_SEQ_STATE t) = seqHalted then s else s.armTile t

/-- The generators of every trap engine start again at a scene start, from the scene's seed (R101, R262, R294). -/
def State.reseedEngines (s : State) : State :=
  (List.range 8).foldl (fun t k =>
    (List.range 16).foldl (fun u e => u.setReg (R.TP_SR_SEED k e) (BitVec.ofNat 64 u.scene.seed)) (t.setTe k { t.teStack k with sr := [] })) s

/-- SCENE_START: the first issue of a job's scene (R21, R98, R212, R262). -/
def execSceneStart (s : State) : Out :=
  if !s.curtain.starting then .next s
  else
    let s := s.setCurtain { s.curtain with starting := false, running := true, firstIssue := some s.cue }
    .next (s.tilesOfScene.foldl (fun t i => t.startTile i true) (s.reseedEngines.clearOutside s.tilesOfScene))

/-- Work that comes before the next step's first issue (R59): images that are to be loaded, a scene change or restore whose cue has come, a
rollout that runs, a plan that is ready, or an open permute. -/
def State.gapWork (s : State) : Bool :=
  (s.runningCmd opcLoadScene).isSome || (s.runningCmd opcStageScene).isSome || s.scene.rollout
    || s.scene.change.any (fun c => c.begun || decide (c.c ≤ s.cue))
    || s.job.plan.any (fun p => p.permuting || ((s.fld R.BK_STATUS_STATE == 3 || s.fld R.BK_STATUS_STATE == 4) && (p.reshard || !s.res.recovering)))

/-- Between curtains: what the last one left is cleared. -/
def CurtainState.next (c : CurtainState) (cue : Nat) : CurtainState :=
  { c with
    firstIssue := some cue, resumeAt := none, sent := false, announced := none, drain := none, verdict := none, applied := false,
    completes := [], reports := [], set := false, kept := none }

/-- The steps stop (JOB_STOP, or the last curtain of JOB_START). -/
def State.stopSteps (s : State) : State :=
  let s := s.setCurtain { (s.curtain.next s.cue) with running := false, firstIssue := none, left := none, stopAsked := false }
  (s.endCmds opcJobStart (fun _ => true) 0 []).endCmds opcJobStop (fun _ => true) 0 []

/-- STEP_START: at K + 64, or at the cue RESUME gave, the tiles of the scene make the first issue of the next step (R52, R59, R140);
tiles halted in a discarded step restart by scene start from their bank in use (R483). -/
def execStepStart (s : State) : Out :=
  let resumed := match s.curtain.resumeAt with | some c => decide (c ≤ s.cue) | none => false
  if !s.curtain.running || !(s.curtainOver || resumed) || s.gapWork then .next s
  else
    let s := s.setFld R.CU_STATUS_CURTAIN_PHASE 0
    if !resumed && (s.curtain.stopAsked || s.curtain.left == some 0) then .next s.stopSteps
    else
      let again := resumed || s.curtain.verdict == some false
      let s := s.setCurtain (s.curtain.next s.cue)
      .next (s.tilesOfScene.foldl (fun t i =>
        if t.fld (R.TA_SEQ_STATE i) = seqHalted ∨ t.fld (R.TA_SEQ_STATE i) = seqStopped then (if again then t.startTile i false else t) else t.armTile i) s)

end Sys2Proof.Machine
end

