-- ==== Sys2Proof/Machine/StoreRead.lean ====
section
/-!
DEFINITION. Machine/StoreRead.lean: a store object read back by RDMA READs of the STORE session (R400, R416, R480, R495): its header, its
records, then its data, the shards' into the flash staging area. The object has the layout of a flash image (R481).
-/
namespace Sys2Proof.Machine

/-- READs of a QP whose data has not all come. -/
def Qp.reads (q : Qp) : Nat := (q.sent.filter (fun r => r.kind == 2)).length

/-- `d` laid over a list at `o`. -/
def splice (l : List Byte) (o : Nat) (d : List Byte) : List Byte := l.take o ++ d ++ l.drop (o + d.length)

def State.setFetch (s : State) (f : Option StoreFetch) : State := s.setRes { s.res with fetch := f }

/-- QPs of a STORE session on which the part may ask. -/
def State.storeQp (s : State) (n : Nat) (q : Qp) : Bool := q.session == n && q.requester && q.connected && !q.error

/-- READs for what is still to be asked for, at most 16 outstanding on a QP (Table 13.2). -/
def State.fetchPump (s : State) : State :=
  match s.res.fetch with
  | none => s
  | some f => f.todo.foldl (fun t p =>
      match t.qpList.find? (fun q => t.storeQp f.session q && decide (q.reads < 16)) with
      | none => t
      | some q =>
        let r : QpSent := ⟨0, 2, p.2.2.1, p.2.1, f.va + p.1, f.rkey, p.2.2.2, []⟩
        (t.setFetch (t.res.fetch.map (fun g => { g with todo := g.todo.erase p }))).qpRequest q r
          (fun n => ({ r with psn := n } : QpSent).msg) (r.psns q.mtu)) s

/-- Data of a READ: to device memory, or to the engine's own buffer. -/
def State.readLands (s : State) (r : QpSent) (off : Nat) (data : List Byte) : State :=
  if r.addr = 0 then s.setFetch (s.res.fetch.map (fun f => { f with buf := splice f.buf (r.imm + off) data }))
  else s.resWrite jobRebuild (r.addr + off) (data.map (fun b => (b, false)))

/-- RDMA_READ_RESPONSE: a response packet of a READ the part sent: the resilience engine writes it, and asks for more (R416). -/
def execRdmaReadResponse (k : RocePkt) (data : List Byte) (last : Bool) (s : State) : Out :=
  match s.roceIn k with
  | (none, s) => .next s
  | (some q, s) =>
    match q.sent.find? (fun r => r.kind == 2 && decide (sub24 k.psn.toNat r.psn < r.psns q.mtu)) with
    | none => .next s
    | some r =>
      let s := s.readLands r (sub24 k.psn.toNat r.psn * q.mtu) data
      .next (if last then (s.setQp { q with sent := q.sent.erase r, retries := 0, ackAt := s.timeNs }).fetchPump else s)

/-- A range of the object in pieces of at most 1 MiB, each with where it goes: from device address `addr` on, or (0) from place `at'` of the
buffer. The size of a READ is the model's (DESIGN CHOICE). -/
def readPieces (off len addr at' : Nat) : List (Nat × Nat × Nat × Nat) :=
  (List.range ((len + (2 ^ 20 - 1)) / 2 ^ 20)).map (fun i =>
    let o := i * 2 ^ 20
    (off + o, min (2 ^ 20) (len - o), if addr = 0 then 0 else addr + o, at' + o))

/-- A number of the buffer. -/
def StoreFetch.num (f : StoreFetch) (o n : Nat) : Nat := ofLe ((f.buf.drop o).take n)

/-- Where the data starts: the next 64 KiB boundary after the records (R480). -/
def StoreFetch.dataAt (f : StoreFetch) : Nat := (0x1000 + 32 * f.num 0x16 2 + 0xFFFF) / 0x10000 * 0x10000

/-- A shard record (R480): the shard without its data, its bytes and its data offset. -/
def StoreFetch.record (f : StoreFetch) (i : Nat) : FlashShard × Nat × Nat :=
  let o := 0x1000 + 32 * i
  let e := f.num (o + 2) 2
  (⟨e / 1024, e % 1024, f.num o 2, f.num (o + 4) 4, [f.num (o + 8) 2, f.num (o + 10) 2], []⟩, f.num (o + 16) 8, f.num (o + 24) 8)

def StoreFetch.records (f : StoreFetch) : List (FlashShard × Nat × Nat) := (List.range (f.num 0x16 2)).map f.record

/-- What follows the shards' data: the job record and the scene images. -/
def StoreFetch.recordAt (f : StoreFetch) : Nat := f.dataAt + (f.records.map (fun r => r.2.1)).sum

/-- Scene images that lie back to back, each ending with its last section (DESIGN CHOICE: R480 names no length of theirs). -/
def splitImages : Nat → List Byte → List (List Byte)
  | 0, _ => []
  | f + 1, l =>
    if l.length < 128 then []
    else
      let n := ([0x18, 0x20, 0x28, 0x30].map (fun o => (imgSec l o).1 + (imgSec l o).2)).foldl max 128
      l.take n :: splitImages f (l.drop n)

/-- What the next step of reading an object gives: it waits, no region holds STEP, or the image. -/
inductive FetchStep where
  | waits (s : State)
  | absent (s : State)
  | image (f : FlashImage) (s : State)

/-- The key regions in the order they are looked at: one known to hold STEP first (DESIGN CHOICE: the manual names no order). -/
def State.regionOrder (s : State) (st : StoreSess) (step : Nat) : List Nat :=
  let known := (s.res.storeObjects.filter (fun p => p.1 == step)).map Prod.snd
  (known ++ (List.range st.keys.length).filter (fun r => !known.contains r)).filter (fun r => decide (0x80 ≤ (st.keys.getD r ⟨0, 0, 0⟩).len))

/-- The header of the `i`-th region is asked for. -/
def State.fetchAt (s : State) (st : StoreSess) (cmd step i : Nat) : FetchStep :=
  match (s.regionOrder st step)[i]? with
  | none => .absent (s.setFetch none)
  | some r =>
    let k := st.keys.getD r ⟨0, 0, 0⟩
    .waits (s.setFetch (some ⟨cmd, st.session, step, i, k.va, k.len, k.rkey, 0, [(0, 0x80, 0, 0)], List.replicate 0x80 0⟩)).fetchPump

/-- A command begins to read its object back. -/
def State.fetchStart (s : State) (c : CmdRec) (step : Nat) : FetchStep :=
  match s.host.stores.head? with
  | none => .absent s
  | some st =>
    let s := s.setRes { s.res with failed := s.res.failed.filter (fun j => j != jobRebuild) }
    (s.putCmd { c with word := 2 }).fetchAt st c.id step 0

/-- The header is in: if it is one of STEP, what precedes the data is asked for. -/
def State.fetchHeader (s : State) (st : StoreSess) (f : StoreFetch) : FetchStep :=
  let len := f.num 0x20 8
  if f.num 0 8 = 0x4B504B4300000001 ∧ f.num 0xC 4 = f.step ∧ f.dataAt ≤ len ∧ len ≤ f.len then
    .waits (s.setFetch (some { f with phase := 1, todo := readPieces 0 f.dataAt 0 0, buf := List.replicate f.dataAt 0 })).fetchPump
  else s.fetchAt st f.cmd f.step (f.region + 1)

/-- The records are in: the shards of this seat go to F, the job record and the images to the buffer. -/
def State.fetchRecords (s : State) (st : StoreSess) (f : StoreFetch) : FetchStep :=
  let len := f.num 0x20 8
  let laid := f.records.foldl (fun (acc : Option Nat) r => acc.bind (fun at' =>
    match s.area? r.1.stack r.1.entry with
    | none => none
    | some _ => if r.2.2 = at' ∧ r.2.1 = s.shardBytes r.1.stack r.1.entry then some (at' + r.2.1) else none)) (some f.dataAt)
  if laid = some f.recordAt ∧ f.recordAt + recordSize ≤ len then
    let shards := f.records.flatMap (fun r => match s.area? r.1.stack r.1.entry with | some a => readPieces r.2.2 r.2.1 a.stage 0 | none => [])
    .waits (s.setFetch (some { f with
      phase := 2, todo := shards ++ readPieces f.recordAt (len - f.recordAt) 0 f.dataAt, buf := f.buf ++ List.replicate (len - f.recordAt) 0 })).fetchPump
  else s.fetchAt st f.cmd f.step (f.region + 1)

/-- All is in: the object is whole if its DIGEST says so. -/
def State.fetchData (s : State) (st : StoreSess) (f : StoreFetch) : FetchStep :=
  let r := f.records.foldl (fun (acc : List FlashShard × State) x =>
    match acc.2.area? x.1.stack x.1.entry with
    | none => acc
    | some a => let v := acc.2.resRead jobRebuild a.stage x.2.1; (acc.1 ++ [{ x.1 with data := v.1 }], v.2)) ([], s)
  let whole := f.buf.take f.dataAt ++ r.1.flatMap (fun h => h.data.map Prod.fst) ++ f.buf.drop f.dataAt
  if !r.2.res.failed.contains jobRebuild && sha512 (splice whole 0x40 (List.replicate 64 0)) == (whole.drop 0x40).take 64 then
    let o := f.dataAt
    .image ⟨f.num 8 4, f.num 0xC 4, f.num 0x10 4, f.num 0x14 2, f.num 0x18 8, f.num (o + 8) 2, f.num (o + 18) 8,
      (List.range 3).map (fun i => f.num (o + 26 + 2 * i) 2), (List.range 256).map (fun i => BitVec.ofNat 64 (f.num (o + 32 + 8 * i) 8)),
      r.1, splitImages 256 (f.buf.drop (o + recordSize)), true⟩ (r.2.setFetch none)
  else r.2.fetchAt st f.cmd f.step (f.region + 1)

/-- The reading goes on: it waits for READs outstanding, ends without a QP left, or takes the next part. -/
def State.fetchNext (s : State) : FetchStep :=
  match s.res.fetch, s.host.stores.head? with
  | some f, some st =>
    let qs := s.qpList.filter (s.storeQp f.session)
    if qs.isEmpty then .absent (s.setFetch none)
    else if !f.todo.isEmpty || qs.any (fun q => decide (q.reads ≠ 0)) then .waits s.fetchPump
    else if f.phase = 0 then s.fetchHeader st f
    else if f.phase = 1 then s.fetchRecords st f
    else s.fetchData st f
  | _, _ => .absent (s.setFetch none)

end Sys2Proof.Machine
end

