-- ==== Sys2Proof/Machine/Recover.lean ====
section
/-!
DEFINITION. Machine/Recover.lean: lost seats, recovery and promotion (R482-R497): deadlines, SEAT_LOST, the choice of the target,
rollback and rebuild, RESUME, the booth watchdog, and the resilience commands.
-/
namespace Sys2Proof.Machine

/-- HEALTH_DECAY: the score falls by one every DECAY cues (R464). -/
def execHealthDecay (s : State) : Out :=
  if s.cue < s.res.decayAt + s.ruling R.RS_CFG_DECAY then .next s
  else
    let s := s.setRes { s.res with decayAt := s.cue }
    .next (s.setFld R.RS_RISK_INTERNAL (s.fld R.RS_RISK_INTERNAL - 1)).reRisk

/-- RISK_REPORT: a seat's estimate reaches the cue master (R466). -/
def execRiskReport (seat : BitVec 15) (estimate : BitVec 8) (s : State) : Out :=
  if s.bit R.CU_STATUS_MASTER then .next ({ s with jobRisks := smapSet 0 s.jobRisks seat.toNat estimate.toNat } : State).jobRisk
  else .next s

/-- A stop of a tile whose step is over: nothing of it is in flight any more (R482, R486). -/
def State.stopTile (s : State) (t : Nat) : State :=
  let st := s.fld (R.TA_SEQ_STATE t)
  let s := (s.tile t).xfers.foldl (fun u x => u.finishXfer t { x with op := .copy, vers := [], cause := none }) s
  let x := s.tile t
  let s := (s.dcAbandon t).setTile t { x with
    globals := [], fence := none, fenceH := none, trap := none, reexec := none, resumeAt := none, swapAt := none, chain := none }
  if st = seqIssuing ∨ st = seqHeld then s.setFld (R.TA_SEQ_STATE t) seqStopped else s

/-- The running step ends as a DISCARD curtain does (R482). -/
def State.quitStep (s : State) : State :=
  let s := (s.tilesOfScene.foldl (fun t i => t.stopTile i) s).discardWork
  let s := s.setCurtain { s.curtain.next s.cue with firstIssue := none }
  s.setFld R.CU_STATUS_CURTAIN_PHASE 0

/-- The step ends, tickets are refilled and queues emptied (R489). -/
def State.endStep (s : State) (peer : List (List Nat)) : State := s.quitStep.refreshQueues peer

/-- Halts of every tile by the booth (R485, R489). -/
def State.haltAll (s : State) (detail : Nat) : State :=
  s.tilesOfScene.foldl (fun t i => t.bankctlWrite i 0 8 (detail * 2 ^ 32 + 2)) s

/-- This seat leaves the job (R485). -/
def State.leaveJob (s : State) : State :=
  let s := s.haltAll 0
  let s := s.setCurtain { s.curtain with running := false }
  (s.setRes { s.res with left := true }).resCode false 0xAF s.mySeat

/-- The newest commit this seat has accepted. -/
def State.lastCommit (s : State) : Nat × Nat := (s.fld R.RS_CKPT_NUMBER, s.fld R.RS_CKPT_STEP)

/-- Two lost seats of one company, understudies counted (R488). -/
def twoOfCompany (l : List Nat) : Option Nat := l.find? (fun q => l.any (fun r => r != q && r / 16 == q / 16))

/-- The understudy of a lost seat: position 8 of its company, standing by, and free; automatic, or named by PROMOTE (R488, R496). -/
def State.understudyOf (s : State) (lost : Nat) : Option Nat :=
  let u := 16 * (lost / 16) + 8
  let free := s.job.understudies.contains u && !s.res.lost.contains u && !s.isLost u && !s.promoted.any (fun p => p.2 == u)
  if free && (s.ruling R.RS_CFG_AUTO_PROMOTE == 1 || s.res.chosen.contains (lost, u)) then some u else none

/-- Where a seat stands in the job: at its own position, or at the one it was promoted into. -/
def State.placeOf (s : State) (q : Nat) : Nat := ((s.promoted.find? (fun p => p.2 == q)).map Prod.fst).getD q

/-- Members of the job that are lost and not replaced. -/
def State.holes (s : State) : List Nat := s.res.lost.filter (fun q => s.job.seats.contains q)

/-- The promotions a recovery would make (lost seat, understudy). -/
def State.pairing (s : State) : List (Nat × Option Nat) := s.holes.map (fun q => (q, s.understudyOf q))

/-- Does this seat follow the promotion of `lost` with its aliases: an understudy does every one, a member those its bindings name (R453)? -/
def State.aliasNamed (s : State) (lost : Nat) : Bool :=
  decide (8 ≤ s.ownPos) || (List.range 256).any (fun n => s.bit (R.CB_BIND_VALID n) && s.fld (R.CB_BIND_PEER_SEAT n) == lost
    && (s.bit (R.CB_BIND_REMOTE_OUT n) || s.bit (R.CB_BIND_REMOTE_IN n)))

/-- The valid entry whose TO_SEAT is a seat, and the first entry in no use. -/
def State.aliasTo (s : State) (lost : Nat) : Option Nat :=
  (List.range 256).find? (fun k => s.bit (R.CB_ALIAS_VALID k) && s.fld (R.CB_ALIAS_TO_SEAT k) == lost)

def State.aliasFree (s : State) : Option Nat := (List.range 256).find? (fun k => !s.bit (R.CB_ALIAS_VALID k))

/-- The aliases a seat writes for a promotion (R453, R491). -/
def State.addAlias (s : State) (lost u : Nat) : State :=
  match s.aliasTo lost with
  | some k => s.setFld (R.CB_ALIAS_TO_SEAT k) u
  | none =>
    if !s.aliasNamed lost then s
    else
      match s.aliasFree with
      | none => s
      | some k => ((s.setFld (R.CB_ALIAS_FROM_SEAT k) lost).setFld (R.CB_ALIAS_TO_SEAT k) u).setFld (R.CB_ALIAS_VALID k) 1

/-- Do the aliases of these promotions fit? A seat whose 256 entries are all valid and that needs a new one refuses (R453). -/
def State.aliasRoom (s : State) (pairs : List (Nat × Nat)) : Bool :=
  (pairs.foldl (fun (acc : Bool × State) p =>
    (acc.1 && ((acc.2.aliasTo p.1).isSome || !acc.2.aliasNamed p.1 || acc.2.aliasFree.isSome), acc.2.addAlias p.1 p.2)) (true, s)).1

/-- A promotion that a seat refuses is not made: NO_UNDERSTUDY for each lost seat, which is left to a re-shard (R453). -/
def State.promotionRefused (s : State) (pairs : List (Nat × Nat)) : State :=
  let back := fun (p : Nat × Nat) => (p.1, ((pairs.find? (fun q => q.2 == p.2)).map Prod.fst).getD p.2)
  let s : State := { s with promoted := (s.promoted.map back).filter (fun p => p.1 != p.2) }
  pairs.foldl (fun t p => t.resCode true 0xA6 p.1) (s.setRes { s.res with target := none, pairs := [], restored := [], restoring := false })

/-- An entry as a rollback leaves it, its gradient buffer zeroed (R490). -/
def State.settleShard (s : State) (target k i : Nat) : State :=
  let s := ((s.setFld (R.TP_SHARD_W1_VERSION k i) target).setFld (R.TP_SHARD_W0_FRONT k i) 0).clearShard k i
  let s := s.setFld (R.TP_SHARD_W13_ARRIVED k i) 0
  let g := s.gradRange k i
  s.resZero g.1 g.2

/-- The areas D and X of a shard and the bitmap of X are zeroed (R490). -/
def State.zeroDeltas (s : State) (a : ShardArea) : State :=
  let n := s.shardBytes a.stack a.entry
  let s := if a.method = 2 then s.resZero a.acc n else s
  (s.resZero a.delta n).resZero a.bitmap (((n + 31) / 32 + 7) / 8)

/-- A shard is rolled back to the version its checkpoint holds (R490). -/
def State.rollShard (s : State) (target : Nat) (a : ShardArea) : State :=
  let n := s.shardBytes a.stack a.entry
  let v : List PByte × State :=
    if a.method = 1 then s.resRead jobRebuild a.keep n
    else
      let f := s.copyImage jobRebuild a.stack a.entry (s.frontCopy a.stack a.entry)
      let d := f.2.resRead jobRebuild a.acc n
      let w := xorBytes f.1 d.1
      if s.res.heldX.contains (a.stack, a.entry) then
        let x := d.2.resRead jobRebuild a.delta n
        (xorBytes w x.1, x.2)
      else (w, d.2)
  let s := v.2.writeImage jobRebuild a.stack a.entry 0 v.1
  (s.settleShard target a.stack a.entry).zeroDeltas a

/-- R490 on every shard of this seat. -/
def State.rollback (s : State) (target : Nat) : State :=
  let s := s.res.areas.foldl (fun t a => t.rollShard target a) s
  (s.setRes { s.res with heldX := [], owed := [], deltas := [] }).setHolds 0

/-- Pieces of a list laid over ranges of memory: bytes [lo, hi) of an image whose parts lie at the pieces. -/
def spread : List (Nat × Nat) → Nat → Nat → List (Nat × Nat × Nat)
  | [], _, _ => []
  | (a, n) :: r, lo, hi =>
    let h := min hi n
    (if lo < h then [(a + lo, lo, h - lo)] else []) ++ spread r (lo - n) (hi - n)

/-- XOR reduce-writes of a segment into a promoted understudy's copy 0 (R491). -/
def State.sendSegment (s : State) (dst g i : Nat) (pieces : List (Nat × Nat)) (l : List PByte) : State :=
  (spread pieces (i * g) ((i + 1) * g)).foldl (fun (acc : State × Nat) q =>
    let part := (l.drop acc.2).take q.2.2
    (((sectors part).filter (fun p => sectorSet p.2)).foldl (fun t p => t.resSend jobRebuild opRwXor dst (q.1 + p.1) p.2) acc.1,
      acc.2 + q.2.2)) (s, 0) |>.1

/-- What a survivor sends to an understudy that stands at position `j` of its company (R491): the COPY shards from the committed slot
where this seat is the partner, its committed stripe buffer, and its rolled-back segments. -/
def State.rebuildSend (s : State) (u j : Nat) : State :=
  let m := s.standsAt
  let b := s.res.side.getD 0
  let s := if (j + 1) % 8 = m then
      s.res.slotMap.foldl (fun t p =>
        let base := if b = 0 then t.res.ownSlots.1 else t.res.ownSlots.2.1
        let r := t.resRead jobRebuild (base + p.1) p.2.2
        r.2.resSend jobRebuild opWrite u p.2.1 r.1) s
    else s
  s.res.stripes.foldl (fun t st =>
    let pieces := st.images.getD j []
    let h := st.holders.getD m (0, 0)
    let q := t.resRead jobRebuild (if b = 0 then h.1 else h.2) st.g
    let own := (m + 7 - j) % 8
    let t := if own < 7 then q.2.sendSegment u st.g own pieces q.1 else q.2
    (List.range 7).foldl (fun t i =>
      let stripe := (j + 1 + i) % 8
      if stripe = m then t
      else
        (t.res.areas.filter (fun a => a.tensor == st.tensor && a.method == 2)).foldl (fun v a =>
          let r := v.segment st a stripe true
          r.2.sendSegment u st.g i pieces r.1) t) t) s

/-- Images loaded and taken into use while no tile issues (R214, R495). -/
def State.takeImages (s : State) (images : List (List Byte)) : State :=
  let s := (s.loadImages images true).clearOutside (sceneTiles images)
  let s := (sceneTiles images).foldl (fun t i => t.swapMarked i) s
  { s with scene := { s.scene with images := images } }

/-- Entries written from a job record stay invalid until RESUME: what other seats send into their copies is not refused (R268,
R491; DESIGN CHOICE). -/
def State.holdEntry (s : State) (k i : Nat) : State :=
  if s.bit (R.TP_SHARD_W0_VALID k i) then
    (s.setFld (R.TP_SHARD_W0_VALID k i) 0).setRes { s.res with unset := s.res.unset.filter (fun p => decide (p ≠ (k, i))) ++ [(k, i)] }
  else s

/-- The entries held become valid. -/
def State.releaseEntries (s : State) : State :=
  s.res.unset.foldl (fun t p => t.setFld (R.TP_SHARD_W0_VALID p.1 p.2) 1) (s.setRes { s.res with unset := [] })

/-- The tiles of this seat's tile groups: those of the seat in whose place it stands. -/
def State.ownTiles (s : State) : Option (List Nat) := s.tilesOf (s.placeOf s.mySeat)

/-- This seat, an understudy, is rebuilt into the place of a lost seat (R491). Its PARITY images in copy 0 start zeroed. -/
def State.rebuildSelf (s : State) (target : Nat) (b : Rebuild) : State :=
  if (s.verifyScene s.ownTiles b.images).isSome then s.resFail jobRebuild
  else
    let s := b.bind.zipIdx.foldl (fun t p => if p.2 < 256 then t.setReg (R.CB_BIND p.2) p.1 else t) s
    let s := (s.setRes { s.res with bound := true }).rebuiltMore (b.images.map List.length).sum
    let s := b.table.foldl (fun t e =>
      (e.2.2.zipIdx.foldl (fun u w => u.setReg (shardBase e.1 e.2.1 + 8 * w.2) w.1) t).holdEntry e.1 e.2.1) s
    let s := s.takeImages b.images
    let s : State := { s with scene := { s.scene with id := b.scene, seed := b.seed }, job := { s.job with party := b.party } }
    let s := s.setRes { s.res with areas := b.areas, stripes := b.stripes, side := some b.side.val, measured := [] }
    let s := b.areas.foldl (fun t a =>
      let n := t.shardBytes a.stack a.entry
      let t := if a.method = 2 then t.writeImage jobRebuild a.stack a.entry 0 (List.replicate n (0, false)) else t
      (t.settleShard target a.stack a.entry).zeroDeltas a) s
    s.setCurtain { s.curtain with running := true }

/-- A recovery is over on this seat when what it sends is acknowledged: it reports restored, with the bytes it brought an understudy (R488). -/
def State.restoredIn (s : State) (seat bytes : Nat) : State :=
  if !s.bit R.CU_STATUS_MASTER || !s.res.recovering || s.res.restored.contains seat then s
  else s.setRes { s.res with restored := s.res.restored ++ [seat], rebuilt := s.res.rebuilt + bytes }

/-- Report restored once nothing is outstanding. -/
def State.rebuildSettle (s : State) : State :=
  if !s.res.restoring || s.resWait jobRebuild != 0 || s.res.failed.contains jobRebuild then s
  else
    let s := s.setRes { s.res with restoring := false }
    if s.bit R.CU_STATUS_MASTER then s.restoredIn s.mySeat s.res.rebuild else s.toMaster (.restored s.res.rebuild)

/-- The answers that came are taken, by checkpoint and recovery alike. -/
def State.resSettle (s : State) : State := s.settle.rebuildSettle

/-- RECOVER accepted (R453, R474, R488-R491): the commit of the target is taken if it was not; then rollback or rebuild. -/
def State.recover (s : State) (target : Nat) (pairs : List (Nat × Nat)) (b : Option Rebuild) : State :=
  let s := match s.res.opened with
    | some (k, n, _) => if n = target ∧ s.fld R.RS_CKPT_STEP ≠ target then s.ckptCommit k n else s.ckptAbandon k
    | none => s
  let mine := pairs.filter (fun p => p.1 / 16 == s.ownGroup)
  let places := mine.map (fun p => s.posAt (s.placeOf p.1))
  let s : State := { s with promoted := s.promoted.filter (fun p => !pairs.any (fun q => q.1 == p.2)) ++ pairs.map (fun p => (s.placeOf p.1, p.2)) }
  let s := s.setRes { s.res with
    target := some target, pairs := pairs, rebuild := 0, rebuilt := 0, fresh := (s.res.fresh ++ places).dedup, restoring := true, recovering := true,
    failed := s.res.failed.filter (fun j => j != jobRebuild) }
  let s := s.setFld R.RS_CKPT_STATE_PHASE 4
  let last := pairs.getLastD (s.fld R.RS_RECOVERY_LOST_SEAT, 0)
  let s := ((s.setFld R.RS_RECOVERY_LOST_SEAT last.1).setFld R.RS_RECOVERY_UNDERSTUDY last.2).setFld R.RS_RECOVERY_TARGET target
  let s := (pairs.foldl (fun t p => t.addAlias p.1 p.2) s).reroute
  if pairs.any (fun p => p.2 == s.mySeat) then
    (match b with | some b => s.rebuildSelf target b | none => s.resFail jobRebuild).rebuildSettle
  else
    let s := s.rollback target
    let s := if s.isMember then mine.foldl (fun t p => t.rebuildSend p.2 (t.posAt (t.placeOf p.2))) s else s
    s.rebuildSettle

/-- The commands that a recovery was to end fail where it cannot (Table 15.6). -/
def State.unrecoverableCmds (s : State) : State :=
  (s.endCmds opcPromote (fun _ => true) 0xA7 []).endCmds opcRestoreCheckpoint (fun c => c.word == 1) 0xA7 []

/-- The cue master, when every survivor has reported (R488). -/
def State.chooseTarget (s : State) : State :=
  if !s.bit R.CU_STATUS_MASTER || !s.res.recovering || s.res.target.isSome then s
  else if !s.liveSeats.all (fun q => s.res.reports.any (fun r => r.1 == q)) then s
  else
    let target := s.res.reports.foldl (fun m r => max m r.2.2) 0
    match twoOfCompany s.res.lostSince with
    | some q => ((s.sendC3 s.mates (.unrecoverable q)).resCode false 0xA7 q).unrecoverableCmds
    | none =>
      let ps := s.pairing
      match ps.filter (fun p => p.2.isNone) with
      | p :: rest => (p :: rest).foldl (fun t q => t.resCode true 0xA6 q.1) s
      | [] =>
        let pairs := ps.filterMap (fun p => p.2.map (fun u => (p.1, u)))
        if !s.aliasRoom pairs then s.promotionRefused pairs
        else (s.sendC3 s.mates (.recover target (pairs.map Prod.fst) (pairs.map Prod.snd))).recover target pairs none

/-- A survivor's report at the cue master. -/
def State.recoveryIn (s : State) (seat k n : Nat) : State :=
  if !s.bit R.CU_STATUS_MASTER then s
  else (s.setRes { s.res with reports := s.res.reports.filter (fun r => r.1 != seat) ++ [(seat, k, n)] }).chooseTarget

/-- A permute that runs stops, and its new copies are released (R346; DESIGN CHOICE: the command ends with CANCELLED). -/
def State.stopPermute (s : State) : State :=
  match s.job.plan with
  | none => s
  | some pp =>
    if !pp.permuting then s
    else
      let s : State := { s with job := { s.job with plan := none, planIds := [], incoming := [] } }
      let s := s.setRes { s.res with wait := s.res.wait.filter (fun w => w.1 != jobPermute) }
      ((s.setFld R.BK_PERMUTE_BYTES_LEFT 0).setFld R.BK_STATUS_STATE 0).endCmds opcReshard (fun _ => true) 0x8D []

/-- The classes are drained: tickets refilled, queues emptied, and this seat reports to the cue master (R488). -/
def State.reportDrained (s : State) : State :=
  let s := s.refreshQueues s.res.budgets
  let s := s.setRes { s.res with reported := true, budgets := [] }
  let c := s.lastCommit
  if s.bit R.CU_STATUS_MASTER then s.recoveryIn s.mySeat c.1 c.2 else s.toMaster (.recovery c.1 c.2)

/-- Recovery starts, or starts again with the enlarged set: the step is discarded and C0 to C3 are to drain (R346, R488, R493). -/
def State.startRecovery (s : State) (peer : List (List Nat)) : State :=
  let s := s.stopPermute.quitStep
  let s := s.setCurtain { s.curtain with drain := some 0 }
  s.setRes { s.res with recovering := true, target := none, restored := [], restoring := false, reported := false, budgets := peer,
                        readyEarly := [], wait := s.res.wait.filter (fun w => w.1 != jobRebuild) }

/-- CLASS_DRAINED: the class being drained is drained; after C3 the drained report leaves (R53), in a recovery with the last commit that this
seat has accepted (R488). -/
def execClassDrained (s : State) : Out :=
  match s.curtain.drain with
  | none => .next s
  | some c =>
    if 4 ≤ c ∨ !s.classDrained c then .next s
    else
      match s.curtain.announced with
      | some k =>
        let s := s.setCurtain { s.curtain with drain := some (c + 1) }
        if c = 3 then
          let s := s.setFld R.CU_STATUS_CURTAIN_PHASE 3
          .next (if s.bit R.CU_STATUS_MASTER then s.drainedIn s.mySeat k s.discardFlag
            else s.ctlRouted s.masterSeat (.drained s.masterSeat s.mySeat k s.discardFlag))
        else .next s
      | none =>
        if !s.res.recovering then .next s
        else
          let t := s.setCurtain { s.curtain with drain := if c = 3 then none else some (c + 1) }
          .next (if c = 3 then t.reportDrained.resSettle else t)

/-- No seat directs recovery (R489). -/
def State.masterGone (s : State) (seat : Nat) (peer : List (List Nat)) : State :=
  let s := (s.endStep peer).haltAll 0
  let s := s.setCurtain { s.curtain with running := false }
  ((s.setRes { s.res with noMaster := true }).resCode false 0xA7 seat).unrecoverableCmds

/-- A seat of the job is lost while a checkpoint is open: the cue master that ordered it floods its abandonment (R476). A backup master that
takes over leaves it to the recovery, whose target may be that checkpoint (R488; DEDUCED). -/
def State.abandonFor (s : State) (seat : Nat) : State :=
  match s.res.opened with
  | some (k, _, _) =>
    if s.bit R.CU_STATUS_MASTER && decide (seat ≠ s.fld R.CU_CTL_MASTER_SEAT) then (s.sendC3 s.mates (.ckptAbandon k)).ckptAbandon k else s
  | none => s

/-- A lost seat is accepted; one of the job counts for the health of this part (R464, Table 15.2; R476, R482, R485, R489, R493, R494). -/
def State.acceptLost (s : State) (seat : Nat) (peer : List (List Nat)) : State :=
  if s.res.lost.contains seat then s
  else
    let s := s.setRes { s.res with lost := s.res.lost ++ [seat], lostSince := s.res.lostSince ++ [seat] }
    if !(s.job.seats.contains seat || s.job.understudies.contains seat) && seat != s.mySeat then s
    else
    let s := s.health 64
    let s := if seat = s.mySeat then s else s.abandonFor seat
    if seat = s.mySeat then s.leaveJob
    else if seat = s.fld R.CU_CTL_MASTER_SEAT ∧ !s.bit R.CU_CTL_BACKUP_EN then s.masterGone seat peer
    else if s.scene.change.isSome ∨ s.scene.rollout then s.setRes { s.res with deferred := s.res.deferred ++ [seat] }
    else if s.res.left ∨ s.res.noMaster then s
    else s.startRecovery peer

/-- SEAT_LOST: a flood heard from port `p` for a seat, or (none) the next one this seat's booth has itself reported (R379, R482).
`peer` are the budgets of the peers. -/
def execSeatLost (p : Option (Fin 16)) (seat : BitVec 15) (stamp : BitVec 32) (peer : List (List (BitVec 16))) (s : State) : Out :=
  let peer := peerTickets peer
  match p with
  | some q =>
    if s.isLost seat.toNat ∧ s.res.lost.contains seat.toNat then .next s
    else
      let s := s.floodFrom q (.seatLost seat.toNat stamp.toNat)
      let s := if s.isLost seat.toNat then s else (s.noteLost seat.toNat).fbEvent 0x65 seat.toNat
      .next ((s.seatGone seat.toNat).acceptLost seat.toNat peer).resSettle
  | none =>
    match s.fab.lostSeats.find? (fun q => !s.res.lost.contains q) with
    | some q => .next ((s.seatGone q).acceptLost q peer).resSettle
    | none => .next s

/-- RECOVERY_REPORT: R488. -/
def execRecoveryReport (seat : BitVec 15) (k n : BitVec 32) (s : State) : Out := .next (s.recoveryIn seat.toNat k.toNat n.toNat)

/-- RECOVER: R488, R490, R491; `b` is what this seat, promoted, rebuilds itself from. A seat without room for the aliases refuses (R453). -/
def execRecover (target : BitVec 32) (lost us : List (BitVec 15)) (b : Option Rebuild) (s : State) : Out :=
  let pairs := (lost.map BitVec.toNat).zip (us.map BitVec.toNat)
  if s.res.left ∨ s.res.noMaster then .next s
  else .next (if s.aliasRoom pairs then s.recover target.toNat pairs b else s.toMaster .refused)

/-- What RESUME leaves on a seat (R488, R491, R492, Table 15.6). -/
def State.resume (s : State) (cue step : Nat) : State :=
  let pairs := s.res.pairs
  let s := s.releaseEntries.setFld R.CU_STEP_STEP step
  let s : State := { s with job := { s.job with
    seats := s.job.seats.map (fun q => ((pairs.find? (fun p => p.1 == q)).map Prod.snd).getD q),
    understudies := s.job.understudies.filter (fun q => !pairs.any (fun p => p.2 == q)) } }
  let s := pairs.foldl (fun t p => t.resCode true 0xA5 p.2) s
  let mine := pairs.filter (fun p => p.2 / 16 == s.ownGroup)
  let me := pairs.any (fun p => p.2 == s.mySeat)
  let s := if me then (s.res.areas.filter (fun a => a.method == 1)).foldl (fun t a =>
      let r := t.copyImage 0 a.stack a.entry 0
      r.2.resWrite 0 a.keep r.1) s else s
  let s := if mine.isEmpty then s else s.setFld R.RS_CKPT_STATE_STRIPES_OK 0
  let s := if mine.any (fun p => (s.standsAt + 1) % 8 == s.posAt (s.placeOf p.2)) then s.setFld R.RS_CKPT_STATE_MIRROR_OK 0 else s
  let s := mine.foldl (fun t p =>
    if p.2 ≠ t.mySeat ∧ (t.standsAt + 1) % 8 = t.posAt (t.placeOf p.2) then t.resCode true 0xA4 t.mySeat else t) s
  let s := s.setRes { s.res with
    recovering := false, restoring := false, reported := false, target := none, restored := [], reports := [], pairs := [],
    chosen := [], deferred := [] }
  let s := s.setFld R.RS_CKPT_STATE_PHASE 0
  let s := s.setCurtain { s.curtain with resumeAt := some cue, announced := none, applied := false }
  let done := leBytes (step - 1) 4
  (s.endCmdsOf opcPromote (fun _ => true) 0 (mib s.res.rebuilt) done).endCmdsOf opcRestoreCheckpoint (fun c => c.word == 1) 0 s.mibWritten done

/-- RESTORED: with every live seat in, the cue master floods RESUME at its count + 64 (R488); a refusal ends the promotion (R453). -/
def execRestored (m : RestoredMsg) (s : State) : Out :=
  if m.refused then .next (if s.bit R.CU_STATUS_MASTER && s.res.recovering && s.res.target.isSome then s.promotionRefused s.res.pairs else s)
  else
  let s := s.restoredIn m.seat.toNat m.bytes.toNat
  match s.res.target with
  | none => .next s
  | some target =>
    let all := (s.liveSeats ++ s.res.pairs.map Prod.snd).dedup
    if s.bit R.CU_STATUS_MASTER && s.res.recovering && all.all (fun q => s.res.restored.contains q) then
      let c := s.cue + 64
      .next ((s.sendC3 s.mates (.resume c (target + 1))).resume c (target + 1))
    else .next s

/-- RESUME: R488. -/
def execResume (cue : Word) (step : BitVec 32) (s : State) : Out :=
  if s.res.left ∨ s.res.noMaster then .next s else .next (s.resume cue.toNat step.toNat)

/-- A live seat that PROMOTE named is lost when its checkpoint commits (R496). -/
def State.afterCommit (s : State) : State :=
  match s.res.live with
  | some p => if s.bit R.CU_STATUS_MASTER then (s.setRes { s.res with live := none }).loseSeat p.1 else s
  | none => s

/-- CKPT_DONE: R476. -/
def execCkptDone (seat : BitVec 15) (k : BitVec 32) (failed : Bool) (s : State) : Out :=
  match s.res.opened with
  | none => .next s
  | some (k', _, _) =>
    if k' ≠ k.toNat ∨ !s.bit R.CU_STATUS_MASTER ∨ s.res.done.any (fun d => d.1 == seat.toNat) then .next s
    else
      let t := (s.setRes { s.res with done := s.res.done ++ [(seat.toNat, failed)] }).masterDone
      .next (if t.fld R.RS_CKPT_NUMBER = k' ∧ t.res.opened.isNone then t.afterCommit else t)

/-- CKPT_COMMIT: R477. -/
def execCkptCommit (k n : BitVec 32) (s : State) : Out := .next (s.ckptCommit k.toNat n.toNat)

/-- CKPT_ABANDON: R477. -/
def execCkptAbandon (k : BitVec 32) (s : State) : Out := .next (s.ckptAbandon k.toNat)

/-- STEP_DEADLINE: R483, R485, R464. -/
def execStepDeadline (s : State) : Out :=
  match s.curtain.firstIssue with
  | none => .next s
  | some f =>
    if !s.stepOpen || s.stepDone || decide (s.cue < f + s.ruling R.RS_LIMIT_STEP_LIMIT) then .next s
    else
      let late := s.tilesOfScene.filter (fun t => s.fld (R.TA_SEQ_STATE t) != seqEnded)
      let s := late.foldl (fun t i => (t.bankctlWrite i 0 8 (0xA2 * 2 ^ 32 + 2)).revoke i) s
      let s : State := { s with discardFlag := true }
      let s := ((s.sendComplete).resCode false 0xA2 s.mySeat).health 32
      let s := s.setCurtain { s.curtain with late := s.curtain.late + 1 }
      .next (if s.ruling R.RS_CFG_RETRY_MAX ≤ s.curtain.late then s.loseSeat s.mySeat else s)

/-- STEP_COMPLETE_DEADLINE: R484. -/
def execStepCompleteDeadline (s : State) : Out :=
  match s.curtain.firstIssue with
  | none => .next s
  | some f =>
    if !s.bit R.CU_STATUS_MASTER || !s.curtain.running || s.curtain.announced.isSome || s.scene.rollout || s.changing
        || s.res.recovering || decide (s.cue < f + s.ruling R.RS_LIMIT_STEP_LIMIT + 1024) then .next s
    else
      let missing := s.jobSeats.filter (fun q => !s.curtain.completes.any (fun c => c.1 == q))
      .next (missing.foldl (fun t q => t.loseSeat q) s)

/-- WATCHDOG_REFRESH: R487. -/
def execWatchdogRefresh (s : State) : Out := .next (s.setRes { s.res with watchedAt := s.cycle })

/-- BOOTH_WATCHDOG: 50 ms (of 1.5 × 10⁶ stage cycles each) without a refresh (R487); the firmware, restarted, names its own seat. -/
def execBoothWatchdog (s : State) : Out :=
  if s.cycle < s.res.watchedAt + 75000000 then .next s
  else
    let s := s.setRes { s.res with watchedAt := s.cycle }
    let s := (List.range 256).foldl (fun t n =>
      if t.fld (R.CB_LOCK_HOLDER n) = 1 ∨ t.fld (R.CB_LOCK_HOLDER n) = 2 then t.setFld (R.CB_LOCK_HOLDER n) 0 else t) s
    let s := [0, 1].foldl (fun (t : State) n => t.setCore n { BoothCore.init with sram := (t.core n).sram }) s
    .next ((s.resCode false 0xAE s.mySeat).loseSeat s.mySeat)

/-- CHECKPOINT_NOW: the layers asked for by every command that no checkpoint serves yet (R467); of those that one serves, the MiB written so
far (R497). -/
def execCheckpointNow (s : State) : Out :=
  let own := s.host.cmds.filter (fun c => c.opcode == opcCheckpointNow && c.started)
  let s := s.setRes { s.res with asked := Nat.lor s.res.asked s.ckptAsks }
  .next ((own.filter (fun c => c.word != 0)).foldl (fun t c => t.cmdUnits c s.mibWritten s.mibWritten) s)

/-- PROMOTE: R496. -/
def execPromote (s : State) : Out :=
  match s.host.cmds.find? (fun c => c.opcode == opcPromote && c.started && c.word == 0) with
  | none => .next s
  | some c =>
    let lost := c.par 0 2
    let u := c.par 2 2
    let s := s.putCmd { c with word := 1 }
    let s := s.setRes { s.res with chosen := (s.res.chosen ++ [(lost, u)]).dedup }
    if s.res.lost.contains lost then .next s.chooseTarget
    else .next (s.setRes { s.res with live := some (lost, u), asked := Nat.lor s.res.asked 1 })

/-- Is now a step gap: no step runs, or the curtain has ended (R59)? In a recovery, and until the first issue after it, none runs (R319). -/
def State.stepGap (s : State) : Bool := !s.curtain.running || s.curtainOver || s.res.recovering || s.curtain.resumeAt.isSome

/-- The flash image a restore finds here (R495). -/
def State.heldImage (s : State) (step : Nat) : Option FlashImage :=
  let ok := fun (f : Option FlashImage) => match f with | some g => if g.good ∧ g.step = step then some g else none | none => none
  (ok s.res.flash.1).or (ok s.res.flash.2)

/-- One shard written from an image (R495). -/
def State.imageShard (s : State) (step : Nat) (h : FlashShard) : State :=
  let s := (s.writeImage 0 h.stack h.entry 0 h.data).settleShard step h.stack h.entry
  match s.area? h.stack h.entry with
  | none => s
  | some a => (s.zeroDeltas a).resWrite 0 (if a.method = 1 then a.keep else a.acc) h.data

/-- Bytes that no checkpoint captures: a tile's data, accumulators and shadow set, and the wings below the staged scenes (R463). -/
def State.uncaptured (s : State) (a : Nat) : Bool :=
  match regionOf s.cacheN a with
  | .tdata _ | .tacc _ | .tshadow _ => true
  | .wings d off => decide (off < s.sceneTop none d)
  | _ => false

/-- What a restore leaves zeroed or empty beside the gradient buffers: activations, accumulators, wings contents and queued work (R463). -/
def State.emptied (s : State) : State :=
  let t : State := { s with mem := s.mem.filter (fun c => !s.uncaptured c.1), poison := s.poison.filter (fun c => !s.uncaptured c.1) }
  t.emptyQueues.emptyTileChannels

/-- The restore on this seat (R495): the scene, party indices and images of the job record, shards, K, D; mirror slots and stripe buffers zeroed, none committed. -/
def State.restoreImage (s : State) (f : FlashImage) : State :=
  let s := f.shards.foldl (fun t h => t.imageShard f.step h) s
  let s := s.takeImages f.images
  let s : State := { s with scene := { s.scene with id := f.scene, seed := f.seed }, job := { s.job with party := f.party } }
  let z := s.res.ownSlots
  let s := (s.resZero z.1 z.2.2).resZero z.2.1 z.2.2
  let j := s.standsAt
  let s := s.res.stripes.foldl (fun t st => let h := st.holders.getD j (0, 0); (t.resZero h.1 st.g).resZero h.2 st.g) s
  let s := s.setRes { s.res with side := none, fresh := [], heldX := [], owed := [], deltas := [], opened := none }
  let s := s.setHolds 0
  let s := (s.setFld R.RS_CKPT_STATE_MIRROR_OK 0).setFld R.RS_CKPT_STATE_STRIPES_OK 0
  (s.setFld R.RS_CKPT_STEP f.step).setFld R.RS_CKPT_NUMBER f.number

/-- A restore goes on as a recovery from its target (R495, Table 15.6). -/
def State.restoring (s : State) (c : CmdRec) (step : Nat) : State :=
  let s := s.emptied.putCmd { c with word := 1 }
  let s := s.setRes { s.res with recovering := true, restoring := true, target := some step, pairs := [], rebuild := 0, rebuilt := 0,
                                 failed := s.res.failed.filter (fun j => j != jobRebuild) }
  let s := s.setCurtain { s.curtain.next s.cue with firstIssue := none, running := true }
  (s.setFld R.RS_CKPT_STATE_PHASE 5).rebuildSettle

/-- An image is restored, its scene verified before anything is written (R201, R205; DESIGN CHOICE: R495 does not say when). -/
def State.restoreFrom (s : State) (c : CmdRec) (f : FlashImage) : State :=
  match s.verifyScene s.ownTiles f.images with
  | some p => s.verifyFailed c p
  | none => ((s.setRes { s.res with written := f.size }).restoreImage f).restoring c f.step

/-- RESTORE_CHECKPOINT ends with NOT_HELD. -/
def State.notHeld (s : State) (c : CmdRec) : State :=
  ((s.setRes { s.res with fetch := none }).resCode false 0xAC s.mySeat).cmdDone c 0xAC []

/-- RESTORE_CHECKPOINT: R495; `others` says whether every other seat holds an image of STEP, `checks`
whether the DIGESTs of the objects the others read back from the store check. SOURCE 0 is the partner layer's own commit
(R490); with SOURCE 2 the object is read from the store first, the command's word being 2 while it is, and what other seats hold counts
once it is read. -/
def execRestoreCheckpoint (others checks : Bool) (s : State) : Out :=
  match s.runningCmd opcRestoreCheckpoint with
  | none => .next s
  | some c =>
    let step := c.par 0 4
    if c.word = 1 then .next (s.cmdUnits c s.mibWritten s.mibWritten)
    else if !s.stepGap then .next s
    else if c.par 4 1 = 2 then
      (match if c.word = 2 then s.fetchNext else s.fetchStart c step with
      | .waits t => .next t
      | .absent t => .next (t.notHeld c)
      | .image f t => .next (if others && checks then t.restoreFrom c f else t.notHeld c))
    else if !others then .next (s.notHeld c)
    else if c.par 4 1 = 0 then
      (if s.fld R.RS_CKPT_STEP = step ∧ s.res.side.isSome then .next ((s.rollback step).restoring c step) else .next (s.notHeld c))
    else
      match s.heldImage step with
      | none => .next (s.notHeld c)
      | some f => .next (s.restoreFrom c f)

end Sys2Proof.Machine
end

