-- ==== Sys2Proof/Machine/Scenes.lean ====
section
/-!
DEFINITION. Machine/Scenes.lean: scene changes and restores (R60-R68, R194, R274, R438, R454, R494): the change cue, stop waves, the
save, the swap, start waves.
-/
namespace Sys2Proof.Machine

def State.setScene (s : State) (x : SceneState) : State := { s with scene := x }

/-- The tile window's alias of a record: tile `t`'s record in the scene-save area (R62). -/
def saveBase (t : Nat) : Nat := 0x10000000000 + t / 256 * 0x200000000 + 0x1F0000000 + t % 256 * 0x100000

/-- Offset of a device address in the windows of all tiles. -/
def tileSpace (a : Nat) : Option (Nat × Nat) :=
  if 0x11000000000 ≤ a ∧ a < 0x11080000000 then some ((a - 0x11000000000) / 0x100000, a % 0x100000) else none

/-- The tile and offset of an address in a scene-save area. -/
def saveSpace (a : Nat) : Option (Nat × Nat) :=
  if 0x10000000000 ≤ a ∧ a < 0x11000000000 ∧ 0x1F0000000 ≤ (a - 0x10000000000) % 0x200000000 then
    let d := (a - 0x10000000000) / 0x200000000
    let o := (a - 0x10000000000) % 0x200000000 - 0x1F0000000
    if d < 8 then some (256 * d + o / 0x100000, o % 0x100000) else none
  else none

/-- The change cue (R61): what the command asks for, its stamp plus 16, K + 64. -/
def State.changeCue (s : State) (c : CmdRec) : Nat :=
  let k := match s.curtain.announced with | some k => if s.curtainOver then 0 else k + 64 | none => 0
  max c.reqCue (max (c.taken + 16) k)

/-- A change that is asked for next: no change is in progress and the command has not been acted on (R67). -/
def State.nextChange (s : State) (o : Nat) : Option CmdRec :=
  if s.scene.change.isSome then none else s.host.cmds.find? (fun c => c.opcode == o && c.started && c.word == 0)

/-- Is a scene staged (R60)? -/
def State.staged? (s : State) (n : Nat) : Option StagedScene := s.scene.staged.find? (fun x => x.id == n)

/-- SCENE_CHANGE: R60, R61, R67. -/
def execSceneChange (s : State) : Out :=
  match s.nextChange opcSceneChange with
  | none => .next s
  | some c =>
    let n := c.par 0 2
    if (s.staged? n).isNone then .next (s.cmdDone c 0x88 [])
    else
      let k := s.changeCue c
      let s := (s.putCmd { c with word := 1 }).sendC3 s.mates (.sceneChange k n false)
      .next (s.setScene { s.scene with change := some ⟨k, some n, false, false, false, []⟩ })

/-- SCENE_RESTORE: R66, R67. -/
def execSceneRestore (s : State) : Out :=
  match s.nextChange opcSceneRestore with
  | none => .next s
  | some c =>
    if s.scene.saved.isNone then .next (s.cmdDone c 0x89 [])
    else
      let k := s.changeCue c
      let s := (s.putCmd { c with word := 1 }).sendC3 s.mates (.sceneChange k 0 true)
      .next (s.setScene { s.scene with change := some ⟨k, none, false, false, false, []⟩ })

/-- Commands that a scene change suspends (R438). -/
def suspends (o : Nat) : Bool := o == opcLoadScene || o == opcStageScene || o == opcPlace || o == opcReshard

/-- What begins at C on every seat (R63, R438, R531). -/
def State.beginChange (s : State) (ch : SceneChange) : State :=
  let s := s.setScene { s.scene with change := some { ch with begun := true } }
  let s := s.setFld R.CU_STATUS_SCENE_STATE 1
  let s : State := { s with host := { s.host with cmds := s.host.cmds.map (fun c =>
    if suspends c.opcode ∧ c.started then { c with suspended := true } else c) } }
  let s := (List.range 8).foldl (fun t k => t.setTe k { t.teStack k with suspended := true }) s
  { s with power := { s.power with govPtr := 0 } }

/-- SCENE_CHANGE_START: `heard` is the flooded C and scene (R61); without it, C has come and the change begins (R64). -/
def execSceneChangeStart (heard : Option (Word × BitVec 16)) (s : State) : Out :=
  match heard, s.scene.change with
  | some h, none => .next (s.setScene { s.scene with change := some ⟨h.1.toNat, some h.2.toNat, false, false, false, []⟩ })
  | some _, some _ => .next s
  | none, some ch => if ch.scene.isSome && !ch.begun && decide (ch.c ≤ s.cue) then .next (s.beginChange ch) else .next s
  | none, none => .next s

/-- Tiles of a scene on the two dies of wave `w`. -/
def waveTiles (w : Nat) (l : List Nat) : List Nat := l.filter (fun t => t / 256 == w || t / 256 == w + 4)

/-- STOP_WAVE: R63, R64, R301. -/
def execStopWave (w : Fin 4) (s : State) : Out :=
  match s.scene.change with
  | none => .next s
  | some ch =>
    if !ch.begun || ch.saved || ch.waves.length != w.val then .next s
    else
      let s := (waveTiles w s.tilesOfScene).foldl (fun t i =>
        let st := t.fld (R.TA_SEQ_STATE i)
        let t := t.dcAbandon i
        if st = seqIssuing ∨ st = seqHeld then t.setFld (R.TA_SEQ_STATE i) seqStopped else t) s
      .next (s.setScene { s.scene with change := some { ch with waves := ch.waves ++ [w.val] } })

/-- Nothing of a tile is under way: engines at their ready cycles, transfers and accesses complete (R63), no fault on its way to its trap point
(R194). -/
def TileX.quiet (x : TileX) : Bool := x.acts.isEmpty && x.xfers.isEmpty && x.globals.isEmpty && x.jobs.isEmpty && x.trap.isNone

/-- The resume header of Table 2.2. -/
def State.resumeHeader (s : State) (t : Nat) : Nat :=
  s.scene.id * 2 ^ 48 + 2 ^ 32 + s.fld (R.TA_SEQ_BANK t) * 2 ^ 31 + s.fld (R.TA_BANKCTL_MARK t) * 2 ^ 30
    + s.fld (R.TA_SEQ_REPEAT_LEFT t) * 2 ^ 13 + s.fld (R.TA_SEQ_RESUME t)

/-- The records of all tiles are written to the save areas (R62). -/
def State.writeRecords (s : State) (c : Nat) : State :=
  let cells := s.mem.filterMap (fun p => match tileSpace p.1 with
    | some q => if q.2 < offRegs then some (saveBase q.1 + q.2, p.2) else none
    | none => none)
  let regs := s.regs.filterMap (fun p => match tileSpace p.1 with | some q => some (saveBase q.1 + q.2, p.2) | none => none)
  let s : State := { s with mem := s.mem.filter (fun p => (saveSpace p.1).isNone), poison := s.poison.filter (fun p => (saveSpace p.1).isNone) }
  let s := cells.foldl (fun t p => t.setByte p.1 p.2) s
  let s := regs.foldl (fun t p => t.setNum p.1 8 p.2.toNat) s
  (List.range 2048).foldl (fun t i =>
    (t.setNum (saveBase i + offRegs) 8 (t.resumeHeader i)).setNum (saveBase i + offRegs + 8) 8 c) s

/-- Channels whose receiver is a tile. -/
def State.tileChannels (s : State) : List Nat :=
  (List.range 256).filter (fun n => s.chanKind n != .unbound && decide (0x800 ≤ s.fld (R.CB_BIND_RECEIVER_MID n)))

/-- Alarms of the running scene (R49). -/
def State.sceneAlarms (s : State) : List Nat := (List.range 32).filter (fun n => s.bit (R.CU_ALARM_CTL_SCENE n))

def State.clearAlarms (s : State) : State :=
  s.sceneAlarms.foldl (fun t n => (t.setReg (R.CU_ALARM_CTL n) 0).setReg (R.CU_ALARM_TGT n) 0) s

/-- What leaves with an outgoing scene: what the booth had queued for its trap engines, notices to its tiles, its alarms (R49, R63, R67,
R454). -/
def State.dropScene (s : State) : State := ((List.range 8).foldl (fun t k => t.setBoothQ k []) s).emptyTileChannels.clearAlarms

/-- The outgoing scene is saved (R62, R63, R49, R454). -/
def State.saveScene (s : State) (c : Nat) : State :=
  let sv : SavedScene := {
    id := s.scene.id, images := s.scene.images, seed := s.scene.seed, cue := c,
    tiles := s.tiles,
    notices := s.tileChannels.map (fun n => (n, s.chan n)),
    alarms := s.sceneAlarms.map (fun n => (n, s.reg (R.CU_ALARM_CTL n), s.reg (R.CU_ALARM_TGT n))),
    queues := (List.range 8).map (fun k => (k, (s.teStack k).boothQ)),
    gens := (List.range 8).map (fun k => (k, (s.teStack k).sr)),
    psn := (s.poison.map Prod.fst).filter (fun u => (tileSpace u).isSome) }
  let s := s.writeRecords c
  (s.setScene { s.scene with saved := some sv }).dropScene

/-- SCENE_SAVE: once this seat is quiet, and `quiet` says that every other is, the record of every tile is written; a rollout, left for
another scene or for the saved one, is discarded, its queues with it (R63, R64, R66, R67). -/
def execSceneSave (quiet : Bool) (s : State) : Out :=
  match s.scene.change with
  | none => .next s
  | some ch =>
    let drained := (List.range 4).all (fun c => s.classDrained c) && s.tilesOfScene.all (fun t => (s.tile t).quiet)
      && (List.range 8).all (fun k => (s.teStack k).running.isEmpty)
    if !quiet || !ch.begun || ch.saved || ch.waves.length != 4 || !drained then .next s
    else
      let s := s.sendC3 s.mates .quiet
      let s := if s.scene.rollout || ch.scene.isNone then s.dropScene else s.saveScene ch.c
      .next (s.setScene { s.scene with change := some { ch with saved := true, waves := [] } })

/-- SCENE_SWAP_IN: images and initial data of the staged scene, and the banks (R60, R64). -/
def execSceneSwapIn (s : State) : Out :=
  match s.scene.change with
  | none => .next s
  | some ch =>
    match ch.scene.bind s.staged? with
    | none => .next s
    | some st =>
      if !ch.saved || ch.loaded then .next s
      else
        let s := (sceneTiles st.images).foldl (fun t i => t.swapMarked i) (s.loadStaged st)
        .next (s.setScene { s.scene with id := st.id, images := st.images, seed := st.seed, rollout := true,
                                         change := some { ch with loaded := true } })

/-- The last start wave ends a change or restore: its command is done with its cue, and the next may start (R67). -/
def State.endChange (s : State) (ch : SceneChange) : State :=
  let s := s.setScene { s.scene with change := none }
  let s := s.setFld R.CU_STATUS_SCENE_STATE (if s.scene.saved.isSome then 2 else 0)
  s.endCmds (if ch.scene.isSome then opcSceneChange else opcSceneRestore) (fun c => c.word == 1) 0 (leBytes ch.c 8)

/-- START_WAVE: the wave is the start grant of its tiles (R64, R66, R531); a recovery that waited comes before a restored scene's
first issue (R494). -/
def execStartWave (w : Fin 4) (s : State) : Out :=
  match s.scene.change with
  | none => .next s
  | some ch =>
    if !ch.loaded || ch.waves.length != w.val then .next s
    else
      let s := if w = 0 ∧ ch.scene.isSome then s.reseedEngines else s
      let s := (waveTiles w s.tilesOfScene).foldl (fun t i =>
        if ch.scene.isSome then
          let t := t.startTile i false
          t.setTile i { t.tile i with waitGrant := false }
        else if t.fld (R.TA_SEQ_STATE i) = seqStopped ∧ !t.res.recovering then
          (t.setFld (R.TA_SEQ_STATE i) seqIssuing).setTile i { t.tile i with waitGrant := false, issueAt := t.active }
        else t) s
      let ch := { ch with waves := ch.waves ++ [w.val] }
      .next (if w = 3 then s.endChange ch else s.setScene { s.scene with change := some ch })

/-- The records of all tiles return to their windows and registers; RESUME, REPEAT_LEFT, BANK and the mark as the header has
them (R66, R586). -/
def State.readRecords (s : State) (sv : SavedScene) : State :=
  let cells := s.mem.filterMap (fun p => match saveSpace p.1 with
    | some q => if q.2 < offRegs then some (tileBase q.1 + q.2, p.2) else none
    | none => none)
  let regs := s.regs.filterMap (fun p => if (tileSpace p.1).isSome then some p.1 else none)
  let words := (s.mem.filterMap (fun p => match saveSpace p.1 with
    | some q => if offRegs + 16 ≤ q.2 then some (tileBase q.1 + q.2 / 8 * 8) else none
    | none => none)).dedup
  let s : State := { s with mem := s.mem.filter (fun p => (tileSpace p.1).isNone),
                            poison := s.poison.filter (fun p => (tileSpace p.1).isNone), tiles := sv.tiles }
  let s := cells.foldl (fun t p => t.setByte p.1 p.2) s
  let s := s.poisonAll sv.psn true
  let s := regs.foldl (fun t a => t.setReg a 0) s
  let s := words.foldl (fun t a =>
    t.setReg a (BitVec.ofNat 64 (t.num (saveBase ((a - 0x11000000000) / 0x100000) + a % 0x100000) 8))) s
  (List.range 2048).foldl (fun t i =>
    let h := t.num (saveBase i + offRegs) 8
    if !bitOf h 32 then t
    else
      (((t.setFld (R.TA_SEQ_BANK i) (bitsOf h 31 31)).setFld (R.TA_BANKCTL_MARK i) (bitsOf h 30 30)).setFld (R.TA_SEQ_REPEAT_LEFT i)
        (bitsOf h 25 13)).setFld (R.TA_SEQ_RESUME i) (bitsOf h 12 0)) s

/-- The saved scene returns (R49, R66, R438, R454). -/
def State.restoreScene (s : State) (ch : SceneChange) (sv : SavedScene) : State :=
  let s := s.readRecords sv
  let s := sv.notices.foldl (fun t p => t.refillChan p.1 p.2) s.emptyTileChannels
  let s := sv.alarms.foldl (fun t a =>
    (t.setReg (R.CU_ALARM_CTL a.1) a.2.1).setReg (R.CU_ALARM_TGT a.1) (a.2.2 + BitVec.ofNat 64 (ch.c - sv.cue))) s.clearAlarms
  let s := sv.queues.foldl (fun t p => (t.setTe p.1 { t.teStack p.1 with suspended := false }).setBoothQ p.1 p.2) s
  let s := sv.gens.foldl (fun t p => t.setTe p.1 { t.teStack p.1 with sr := p.2 }) s
  let s : State := { s with host := { s.host with cmds := s.host.cmds.map (fun c => { c with suspended := false }) } }
  s.setScene { s.scene with id := sv.id, images := sv.images, seed := sv.seed, saved := none, rollout := false,
                            change := some { ch with begun := true, saved := true, loaded := true, waves := [] } }

/-- What begins at a restore's start cue: the rollout stops in waves, as a scene does at C (R64, R66, R531). -/
def State.beginRestore (s : State) (ch : SceneChange) : State :=
  let s := (s.setScene { s.scene with change := some { ch with begun := true } }).setFld R.CU_STATUS_SCENE_STATE 3
  { s with power := { s.power with govPtr := 0 } }

/-- RESTORE_START: `heard` is the flooded start cue. Without it, at that cue the rollout begins to stop; once its tiles are quiet and it
is discarded, the records are loaded (R66), and a loss recorded meanwhile starts its recovery, with the peers' budgets (R494). -/
def execRestoreStart (heard : Option Word) (peer : List (List (BitVec 16))) (s : State) : Out :=
  match heard, s.scene.change with
  | some c, none => .next (s.setScene { s.scene with change := some ⟨c.toNat, none, false, false, false, []⟩ })
  | some _, some _ => .next s
  | none, none => .next s
  | none, some ch =>
    match s.scene.saved with
    | none => .next s
    | some sv =>
      if ch.scene.isSome || ch.loaded || decide (s.cue < ch.c) then .next s
      else if !ch.begun then .next (s.beginRestore ch)
      else if !ch.saved then .next s
      else
        let s := s.restoreScene ch sv
        .next (if s.res.deferred.isEmpty then s
          else ((s.setRes { s.res with deferred := [] }).startRecovery (peerTickets peer)).resSettle)

end Sys2Proof.Machine
end

