-- ==== Sys2Proof/Machine/Plan.lean ====
section
/-!
DEFINITION. Machine/Plan.lean: placement (R316-R350): PLACE, the exchange of PLAN_ID, applying a plan, re-sharding by permute, and the
staging of a rollout scene.
-/
namespace Sys2Proof.Machine

def State.setJob (s : State) (x : JobState) : State := { s with job := x }

/-- Sampling is enabled (R303, R313). -/
def State.sampling (s : State) : Bool := s.bit R.TA_DC_CTL_CHAIN_EN || s.bit R.TA_DC_CTL_CONVERT_EN

/-- What the blocking engine reads from the part (Table 11.1). -/
def State.partInputs (s : State) : PartInputs :=
  { lat := (List.range 64).map (fun i => s.reg (R.TA_LAT i))
    general := (List.range 8).map (s.sceneTop none)
    dress := if s.sampling then 2 ^ 23 else 0
    retired := s.retired
    up := (List.range 16).map s.portUp
    fast := s.fld R.BK_CFG_FAST
    rates := (s.res.areas.filter (fun a => s.res.measured.contains (a.stack, a.entry))).map (fun a => (a.tensor, s.rateOf a))
    stood := s.promoted.map (fun p => (p.2, p.1)) }

/-- A shard-table entry and its trigger descriptor (R334, Tables 9.2 and 9.5). -/
def State.writeEntry (s : State) (clip : Bool) (version : Nat) (p : PShard) : State :=
  let t := p.tensor
  let w := fun (i : Nat) => shardBase p.stack p.entry + 8 * i
  let bit := fun (b : Bool) (i : Nat) => if b then 2 ^ i else 0
  let names := [3] ++ (if t.hasR then [5] else []) ++ (if t.hasM then [7] else []) ++ (if t.hasV then [9] else [])
  let put := fun (u : State) (i v : Nat) => u.setReg (w i) (BitVec.ofNat 64 v)
  let s := put s 0 (2 ^ 63 + bit t.hasR 55 + bit t.hasM 54 + bit t.hasV 53 + t.gcode * 2 ^ 40)
  let s := put s 1 (version * 2 ^ 32 + p.elems)
  let s := put s 2 (tensorBytes t.fmtP p.elems)
  let s := (names.zip p.copies).foldl (fun u c => put (put u c.1 c.2.1) (c.1 + 1) c.2.2) s
  let s := put (put (put (put (put s 11 p.grad) 12 p.expect) 13 0) 14 0) 15 p.trig
  let d0 := (if t.adam then teAdamw else teSgdm) * 2 ^ 56 + t.hset * 2 ^ 52 + bit clip 32 + 2 ^ 31 + p.entry
  let d1 := t.fmtP * 2 ^ 48 + t.fmtR * 2 ^ 32 + t.fmtMV * 2 ^ 16 + t.gcode
  (s.resWrite 0 p.trig ((leBytes d0 8 ++ leBytes d1 8 ++ List.replicate 40 0 ++ leBytes (p.trig + 64) 8).map (fun b => (b, false))))

/-- Every valid entry is given up. -/
def State.clearEntries (s : State) : State :=
  s.eachShard (fun t k i => (List.range 16).foldl (fun u w => u.setReg (shardBase k i + 8 * w) 0) t)

/-- An entry of FB_RT takes its value; packets sent before a change are waited for (R374). -/
def State.putRoute (s : State) (g v : Nat) : State :=
  if (s.reg (R.FB_RT g)).toNat = v then s else (s.setReg (R.FB_RT g) (BitVec.ofNat 64 v)).holdRoute g

/-- The word of a route entry (Table 12.12). -/
def routeWord (port via : Nat) : Nat := 2 ^ 63 + port * 2 ^ 59 + via * 2 ^ 55

/-- Groups that a pool port of this seat leads to (R371): those of its peers, where either end is a pool seat. -/
def State.poolRoutes (s : State) (j : JobDesc) : List (Nat × Nat) :=
  ([14, 15].filter (fun p => s.portUp p)).filterMap (fun p =>
    let peer := s.fld (R.FB_PORT_STATUS_PEER_SEAT p)
    if j.seats.any (fun q => q.seat == peer) && (decide (9 ≤ peer % 16) || decide (9 ≤ s.ownPos)) && peer / 16 != s.ownGroup then some (peer / 16, p)
    else none)

/-- FB_PORT_CFG.DATELINE of the torus ports: the link from the largest coordinate back to 0, at its sending port (R373); taken downward that link
is sent on from coordinate 0 (DEDUCED). -/
def State.writeDatelines (s : State) (j : JobDesc) (me : SeatDesc) : State :=
  (List.range 3).foldl (fun t i =>
    let n := max 1 (j.dims.getD i 1)
    (t.setFld (R.FB_PORT_CFG_DATELINE (8 + 2 * i)) (b2n (decide (1 < n ∧ me.at i + 1 = n)))).setFld (R.FB_PORT_CFG_DATELINE (9 + 2 * i))
      (b2n (decide (1 < n ∧ me.at i = 0)))) s

/-- Routes of this seat to every other group of the job (R327, R371-R373), and what they cross; the entries of groups that are in it no more are
given up. -/
def State.writeRoutes (s : State) (j : JobDesc) : State :=
  match j.seats.find? (fun q => q.seat == s.mySeat) with
  | none => s
  | some me =>
    let pool := s.poolRoutes j
    let members := j.seats.filter (fun q => decide (q.seat % 16 < 9))
    let groups := ((members.map (fun q => q.seat / 16)).dedup).filter (fun g => g != s.ownGroup && !pool.any (fun r => r.1 == g))
    let ways := if 9 ≤ s.ownPos then [] else
      groups.filterMap (fun g => (members.find? (fun q => q.seat / 16 == g)).map (fun q => (g, j.way me q)))
    let old := (s.job.paths.map Prod.fst).filter (fun g => !ways.any (fun w => w.1 == g) && !pool.any (fun r => r.1 == g))
    let s := old.foldl (fun t g => t.putRoute g (15 * 2 ^ 55)) s
    let s := pool.foldl (fun t r => t.putRoute r.1 (routeWord r.2 15)) s
    let s := ways.foldl (fun t w =>
      let via := t.fld (R.FB_RT_VIA w.1)
      t.putRoute w.1 (routeWord w.2.2 (if 8 ≤ t.ownPos ∧ via = 15 then (t.standsAt + 1) % 8 else via))) s
    let s := if s.ownPos < 8 then s.writeDatelines j me else s
    (s.setJob { s.job with paths := ways.map (fun w => (w.1, w.2.1)) }).reroute

/-- Seat sets and the flood tree (R327, R391): groups in no set of this plan have no bit set. -/
def State.writeSets (s : State) (j : JobDesc) : State :=
  let sets := (List.range 16).map (fun n => j.setSeats s.mySeat n)
  let groups := ((sets.flatMap id).map (fun q => q / 16)).dedup
  let s : State := { s with regs := s.regs.filter (fun p => decide (p.1 < R.FB_GSET 0) || decide (R.FB_GSET 512 ≤ p.1)) }
  let s := groups.foldl (fun t g =>
    let m := sets.zipIdx.foldl (fun a p => if p.1.any (fun q => q / 16 == g) then a + 2 ^ p.2 else a) 0
    t.setFld ⟨R.FB_GSET (g / 4), 16 * (g % 4) + 15, 16 * (g % 4)⟩ m) s
  let s := sets.zipIdx.foldl (fun t p =>
    let m := ((p.1.map (fun q => q % 16)).dedup).foldl (fun a i => a + 2 ^ i) 0
    t.setFld ⟨R.FB_SETPOS (p.2 / 4), 16 * (p.2 % 4) + 15, 16 * (p.2 % 4)⟩ m) s
  { s with fab := { s.fab with tree := j.treePorts (s.fld R.CU_CTL_MASTER_SEAT) s.mySeat } }

/-- The dress-check areas as the plan has them (R303): with sampling enabled each die's lies lowest in its general area (R330); without,
no area is valid (DEDUCED: nothing is placed). -/
def State.placeDress (s : State) (mine : SeatPlan) : State :=
  (List.range 8).foldl (fun t d =>
    match mine.homes.find? (fun h => h.what == .dressCheck && h.die == d) with
    | some h => (t.setFld (R.TA_DC_AREA_BASE d) ((h.addr - (0x10000000000 + 0x200000000 * d)) / 2 ^ 23)).setFld (R.TA_DC_AREA_VALID d) 1
    | none => t.setFld (R.TA_DC_AREA_VALID d) 0) s

/-- The ticket budgets of a plan, declared port by port (R317). The spec gives no rule for them: firmware's values, free; one that breaks
the limits of R367 has no effect. -/
def State.writeBudgets (s : State) (id : Nat) : State :=
  (List.range 16).foldl (fun t i =>
    let v := (Config.planBudget id i).toNat
    if budgetOk v then t.setReg (R.FB_BUDGET i) (BitVec.ofNat 64 v) else t) s

/-- A plan is applied on this seat (R317, R319): `version` is what its entries hold. -/
def State.applyPlan (s : State) (pp : PendingPlan) (version : Nat) : State :=
  let j := pp.desc
  let p := pp.plan
  let g := s.ownGroup
  let own := p.seats.find? (fun q => q.seat == s.mySeat)
  let pos := j.posOf s.mySeat
  let mine := p.at g pos
  let before := p.at g ((pos + 7) % 8)
  let s := mine.foldl (fun t q => t.writeEntry j.clip version q) s.clearEntries
  let sb := slotBytes mine
  let nb := slotBytes before
  let s := s.setRes { s.res with
    areas := areasOf mine, stripes := p.stripes j g, recordAt := (sb - recordRoom, 2 * sb - recordRoom),
    ownSlots := (0, nb, nb),
    slotMap := (slotOffsets before 0).flatMap (fun q => (offsets q.1.pieces q.2)),
    side := none, fresh := [], deltas := [], heldX := [], owed := [], measured := [] }
  let s := s.res.areas.foldl (fun t a => if a.method = 1 then
      let r := t.copyImage 0 a.stack a.entry 0
      r.2.resWrite 0 a.keep r.1
    else
      let r := t.copyImage 0 a.stack a.entry 0
      r.2.resWrite 0 a.acc r.1) s
  let s : State := { s with promoted := [] }
  let s := s.setJob { s.job with
    seats := (j.members.map (fun q => q.seat)).filter (fun q => j.works q), understudies := j.understudies,
    party := [(j.party s.mySeat 1).1, j.stageOf g, (j.party s.mySeat 3).1], desc := some j, applied := some p, plan := none, ready := none,
    stand := (j.members.filter (fun q => q.seat % 16 != q.pos)).map (fun q => (q.seat, q.pos)),
    incoming := [], wings := (own.map SeatPlan.wings).getD [], planIds := [] }
  let s := match own with | some m => s.placeDress m | none => s
  let s := ((s.writeRoutes j).writeSets j).writeBudgets pp.id
  let s := (s.setReg R.BK_PLAN_ID (BitVec.ofNat 64 pp.id)).setFld R.BK_PERMUTE_BYTES_LEFT 0
  s.setFld R.BK_STATUS_STATE 0

/-- DETAIL of a placement: PLAN_ID, RESULT. -/
def planDetail (id result : Nat) : List Byte := leBytes id 8 ++ leBytes result 1

/-- The report is left in booth SRAM (R350). -/
def State.leaveReport (s : State) (l : List Byte) : State :=
  ({ s with host := { s.host with report := l } } : State).setFld R.BK_REPORT_LEN l.length

/-- RESULT of the last plan, in the register and in its report (R350, R351). -/
def State.planResult (s : State) (result : Nat) : State :=
  ({ s with host := { s.host with report := s.host.report.set 8 (BitVec.ofNat 8 result) } } : State).setFld R.BK_STATUS_RESULT result

/-- STATE when no request is worked on: plan ready while a first placement waits for its scene load. -/
def State.planIdle (s : State) : State := s.setFld R.BK_STATUS_STATE (if s.job.ready.isSome then 3 else 0)

/-- A placement command ends without a plan (R319, R350). -/
def State.planFailed (s : State) (c : CmdRec) (id result : Nat) : State :=
  let s := s.setJob { s.job with plan := none, planIds := [], incoming := [] }
  (((s.planResult result).setFld R.BK_PERMUTE_BYTES_LEFT 0).planIdle).cmdDone c 0x8B (planDetail id result)

/-- Byte ranges of elements [lo, hi) of a tensor of `n` elements stored as one row (R86): its planes. -/
def planeRanges (w n lo hi : Nat) : List (Nat × Nat) :=
  match FmtWord.ofWord w with
  | none => []
  | some f =>
    if !f.fmt.isSkb then [(lo * f.fmt.size, (hi - lo) * f.fmt.size)]
    else
      let b := f.block
      let blk := fun x => (x + b - 1) / b
      [(lo * f.fmt.bits / 8, (hi * f.fmt.bits + 7) / 8 - lo * f.fmt.bits / 8), (scalePlaneAt f 1 n + lo / b, blk hi - lo / b)]
        ++ (if f.esc then [(escPlaneAt f 1 n + 4 * (lo / b), 4 * (blk hi - lo / b))] else [])

/-- Moves between an old and a new shard of a tensor: component, offset in the old one, address in the new, length (R344). -/
def movesOf (old new : PShard) : List (Nat × Nat × Nat × Nat) :=
  let lo := max old.lo new.lo
  let hi := min old.hi new.hi
  if old.tensor.number ≠ new.tensor.number ∨ hi ≤ lo then []
  else
    (old.tensor.comps.zip new.copies).zipIdx.flatMap (fun c =>
      let a := planeRanges c.1.1 old.elems (lo - old.lo) (hi - old.lo)
      let b := planeRanges c.1.1 new.elems (lo - new.lo) (hi - new.lo)
      (a.zip b).map (fun r => (c.2, r.1.1, c.1.2.1 + r.2.1, r.1.2)))

/-- The front copy's address of a component of one of this seat's own shards. -/
def State.frontAt (s : State) (p : PShard) (comp : Nat) : Nat :=
  let c := p.copies.getD comp (0, 0)
  if s.frontCopy p.stack p.entry = 0 then c.1 else c.2

/-- C0 writes, and XOR reduce-writes, of the collective engine (R344); what stays on this seat it writes there itself. -/
def State.permSend (s : State) (op dst addr : Nat) (l : List PByte) : State :=
  if l.isEmpty then s
  else if dst = s.mySeat then (if op = opRwXor then s.resXor addr l else s.resWrite jobPermute addr l).permuteLess l.length
  else
    (cuts addr addr l.length).foldl (fun t k =>
      let q := (l.drop k.1).take k.2
      let t := t.setRes { t.res with wait := (jobPermute, t.resWait jobPermute + 1) :: t.res.wait.filter (fun w => w.1 != jobPermute) }
      t.sendReq .permute op 0x20 dst (addr + k.1) 0 0 (q.map Prod.fst) (q.map Prod.snd) k.2 0) s

/-- An item whose owner does not change: CONVERT with equal format words copies it unchanged (Table 3.11), within stack `k` by its engine 0. -/
def State.permConvert (s : State) (k src dst n : Nat) : State :=
  let mid := 0x100 + 16 * k
  let r := s.moverRead mid src n 1 false noEcc
  let w := r.2.moverWrite mid dst 1 false noEcc none (r.1.1.map (fun b => (b.val, b.psn)))
  (if r.1.2.1.any (fun c => resFails c.1) || w.1.any (fun c => resFails c.1) then w.2.resFail jobPermute else w.2).permuteLess n

/-- What this seat, `p`'s owner, sends of it to the new owners. -/
def State.sendOwn (s : State) (p : PShard) (new : Plan) : State :=
  new.seats.foldl (fun v n => n.shards.foldl (fun w x => (movesOf p x).foldl (fun u mv =>
    let src := u.frontAt p mv.1 + mv.2.1
    if n.seat = u.mySeat ∧ x.stack = p.stack then u.permConvert p.stack src mv.2.2.1 mv.2.2.2
    else
      let r := u.resRead jobPermute src mv.2.2.2
      r.2.permSend opWrite n.seat mv.2.2.1 r.1) w) v) s

/-- Pieces of a lost seat's image as they lie at a new owner; what that owner does not take lies at 0. -/
def lostPieces (old : PShard) (news : List PShard) : List (Nat × Nat) :=
  old.tensor.comps.zipIdx.flatMap (fun c =>
    let moves := sortBy (fun m => m.2.1) ((news.flatMap (fun n => movesOf old n)).filter (fun m => m.1 == c.2))
    let r := moves.foldl (fun (acc : List (Nat × Nat) × Nat) m => (acc.1 ++ [(0, m.2.1 - acc.2), (m.2.2.1, m.2.2.2)], m.2.1 + m.2.2.2)) ([], 0)
    r.1 ++ [(0, tensorBytes c.1 old.elems - r.2)])

/-- What this seat sends for an item of a lost seat: from the committed slot, or its share of the stripes, zeros where it has no shard (R344,
R470, R491). -/
def State.sendLost (s : State) (lost : Nat) (old : PShard) (dst : Nat) (news : List PShard) : State :=
  let m := s.standsAt
  let j := s.posAt (s.placeOf lost)
  let pieces := lostPieces old news
  let keep := fun (l : List (Nat × Nat × Nat)) => l.filter (fun q => decide (2 ^ 39 ≤ q.1))
  let b := s.res.side.getD 0
  if old.method = 1 then
    if (j + 1) % 8 ≠ m then s
    else
      match s.res.slotMap.find? (fun p => p.2.1 == (old.copies.headD (0, 0)).1) with
      | none => s
      | some p =>
        let base := if b = 0 then s.res.ownSlots.1 else s.res.ownSlots.2.1
        (keep (piecesIn pieces 0 old.bytes)).foldl (fun t q =>
          let r := t.resRead jobPermute (base + p.1 + q.2.1) q.2.2
          r.2.permSend opWrite dst q.1 r.1) s
  else
    match s.res.stripes.find? (fun st => st.tensor == old.tensor.number) with
    | none => s
    | some st =>
      (List.range 7).foldl (fun t i =>
        let stripe := (j + 1 + i) % 8
        let src : List PByte × State :=
          if stripe = m then
            let h := st.holders.getD m (0, 0)
            t.resRead jobPermute (if b = 0 then h.1 else h.2) st.g
          else
            (t.res.areas.filter (fun a => a.tensor == st.tensor && a.method == 2)).foldl (fun acc a =>
              let r := acc.2.segment st a stripe true
              (xorBytes acc.1 r.1, r.2)) (List.replicate st.g (0, false), t)
        (keep (piecesIn pieces (i * st.g) ((i + 1) * st.g))).foldl (fun u q =>
          u.permSend opRwXor dst q.1 ((src.1.drop (q.2.1 - i * st.g)).take q.2.2)) src.2) s

/-- A seat of a plan, or the live one promoted into its place. -/
def State.liveIn (s : State) (q : Nat) : Option Nat :=
  if !s.res.lost.contains q then some q else (s.promoted.find? (fun p => p.1 == q && !s.res.lost.contains p.2)).map Prod.snd

/-- How many requests bring each byte of a seat's shard to its new owner: a lost seat's PARITY items come as one share from every survivor of
its company (R344, R491). -/
def State.sharesOf (s : State) (old : Plan) (q : SeatPlan) (p : PShard) : Nat :=
  if (s.liveIn q.seat).isSome || p.method != 2 then 1 else (old.seats.filter (fun e => e.seat / 16 == q.seat / 16 && (s.liveIn e.seat).isSome)).length

/-- The re-shard's plan is made: this seat's new copies are placed, zeroed, and the bytes that come into them are awaited (R345, R346). -/
def State.placePermute (s : State) (pp : PendingPlan) : State :=
  let mine := ((pp.plan.seats.find? (fun q => q.seat == s.mySeat)).map SeatPlan.shards).getD []
  let ranges := mine.flatMap PShard.pieces
  let left := match s.job.applied with
    | none => 0
    | some old => (old.seats.flatMap (fun q => q.shards.map (fun p =>
        s.sharesOf old q p * (mine.flatMap (fun n => (movesOf p n).map (fun m => m.2.2.2))).sum))).sum
  let s := ranges.foldl (fun t r => t.resZero r.1 r.2) s
  (s.setJob { s.job with plan := some { pp with bytes := left }, incoming := ranges }).setFld R.BK_PERMUTE_BYTES_LEFT left

/-- The permute starts, from the state a recovery restores (R344): every shard is rolled back, then items move. -/
def State.startPermute (s : State) (pp : PendingPlan) : State :=
  let s := s.rollback (s.fld R.RS_CKPT_STEP)
  let s := match s.job.applied with
    | none => s
    | some old =>
      old.seats.foldl (fun (t : State) (q : SeatPlan) => match t.liveIn q.seat with
        | some l => if l = t.mySeat then q.shards.foldl (fun u p => u.sendOwn p pp.plan) t else t
        | none =>
          if q.seat / 16 ≠ t.ownGroup ∨ !t.isMember then t
          else q.shards.foldl (fun (u : State) p => pp.plan.seats.foldl (fun (v : State) (n : SeatPlan) =>
            if n.shards.any (fun x => !(movesOf p x).isEmpty) then v.sendLost q.seat p n.seat n.shards else v) u) t) s
  (s.setJob { s.job with plan := some { pp with permuting := true } }).setFld R.BK_STATUS_STATE 5

/-- A first placement waits for the scene load that follows it; its command is done (R319). -/
def State.keepPlan (s : State) (c : CmdRec) (pp : PendingPlan) : State :=
  ((s.setJob { s.job with plan := none, ready := some pp, planIds := [] }).setFld R.BK_STATUS_STATE 3).cmdDone { c with done := 3, total := 3 } 0
    (planDetail pp.id 0)

/-- Does what a plan needs in this seat's wings still lie below every region staged since (R330)? -/
def State.planFits (s : State) (p : Plan) : Bool :=
  match p.seats.find? (fun q => q.seat == s.mySeat) with
  | none => true
  | some m => (List.range 8).all (fun d => decide (m.wings.getD d 0 ≤ s.sceneTop none d))

/-- A plan that every seat made alike (R318): a first placement is kept for the scene load, any other is applied at a step gap, a re-placement not
before the end of a recovery (R319), where it still fits (R330). -/
def State.tryApply (s : State) (c : CmdRec) : State :=
  match s.job.plan with
  | none => s
  | some pp =>
    let others := (pp.desc.seats.map (fun q => q.seat)).filter (fun q => q != s.mySeat && !s.res.lost.contains q)
    if pp.permuting then s
    else if s.job.planIds.any (fun h => h.2 != pp.id) then s.planFailed c pp.id 7
    else if !others.all (fun q => s.job.planIds.any (fun h => h.1 == q)) then s
    else if !pp.reshard && s.job.applied.isNone then s.keepPlan c pp
    else if !s.stepGap || (s.res.recovering && !pp.reshard) then s.setFld R.BK_STATUS_STATE 3
    else if !s.planFits pp.plan then s.planFailed c pp.id 2
    else if pp.reshard then s.startPermute pp
    else if s.fld R.BK_STATUS_STATE ≠ 4 then s.setFld R.BK_STATUS_STATE 4
    else ((s.applyPlan pp 0).cmdDone { c with done := 4, total := 4 } 0 (planDetail pp.id 0))

/-- A plan is computed for a command (R316-R318): the report is left, and PLAN_ID, over the report with its own field zero (DESIGN CHOICE: R318
hashes a report that itself holds it), goes to the other seats. -/
def State.plan (s : State) (c : CmdRec) (reshard : Bool) (j : JobDesc) (est bubble : Nat) : State :=
  let j := if reshard then j.keeping s.job.desc else j
  let p := makePlan j s.partInputs s.job.applied reshard
  let body := p.report j est bubble
  let id := ofLe ((sha512 (List.replicate 8 0 ++ body)).take 8)
  let s := (s.leaveReport (leBytes id 8 ++ body)).setFld R.BK_STATUS_RESULT p.result
  if p.result ≠ 0 then s.planFailed c id p.result
  else
    let pp : PendingPlan := ⟨j, p, id, leBytes id 8 ++ body, reshard, false, 0⟩
    let s := if reshard then s.placePermute pp else s.setJob { s.job with plan := some pp }
    let s := (s.sendC3 (j.seats.map (fun q => q.seat)) (.planId id)).setFld R.BK_STATUS_STATE 2
    s.tryApply c

/-- The units of a placement that goes on (Table 14.4): BK_STATUS.STATE reached, the last being plan ready for a first placement and
applying for another; of a permute, MiB done and in all. -/
def State.planProgress (s : State) (id : Nat) : State :=
  match s.job.plan, s.host.cmds.find? (fun c => c.id == id) with
  | some pp, some c =>
    if pp.reshard then s.cmdUnits c (mib (pp.bytes - s.fld R.BK_PERMUTE_BYTES_LEFT)) (mib pp.bytes)
    else s.cmdUnits c (s.fld R.BK_STATUS_STATE) (if s.job.applied.isNone then 3 else 4)
  | _, _ => s

/-- A placement request is worked on: it is taken (placing), then its plan is made, compared and applied (R319, R351). -/
def State.placing (s : State) (c : CmdRec) (reshard : Bool) (j : JobDesc) (est bubble : Nat) : State :=
  if s.job.plan.isSome then (s.tryApply c).planProgress c.id
  else if s.fld R.BK_STATUS_STATE ≠ 1 then
    let s := s.setFld R.BK_STATUS_STATE 1
    if reshard then s else s.cmdUnits c 1 (if s.job.applied.isNone then 3 else 4)
  else s.plan c reshard j est bubble

/-- PLACE: R316-R342, R350; `j` is what DESC holds, `est` and `bubble` the firmware's estimates, made of the latency table (Table 11.1). -/
def execPlace (j : JobDesc) (est : BitVec 32) (bubble : BitVec 16) (s : State) : Out :=
  match s.runningCmd opcPlace with
  | none => .next s
  | some c => .next (s.placing c false j est.toNat bubble.toNat)

/-- RESHARD: R343-R345. -/
def execReshard (j : JobDesc) (est : BitVec 32) (bubble : BitVec 16) (s : State) : Out :=
  match s.runningCmd opcReshard with
  | none => .next s
  | some c => .next (s.placing c true j est.toNat bubble.toNat)

/-- PLAN_ID_EXCHANGE: R318. -/
def execPlanIdExchange (seat : BitVec 15) (id : Word) (s : State) : Out :=
  let s := s.setJob { s.job with planIds := s.job.planIds.filter (fun h => h.1 != seat.toNat) ++ [(seat.toNat, id.toNat)] }
  match s.job.plan with
  | none => .next s
  | some pp =>
    match s.runningCmd (if pp.reshard then opcReshard else opcPlace) with
    | none => .next s
    | some c => .next (s.tryApply c)

/-- PERMUTE_COMPLETE: this seat's incoming items are in, and `others` says the same of every other seat (R346); a re-shard that a scene change
suspends waits (R438). The next step is the one after the restored. -/
def execPermuteComplete (others : Bool) (s : State) : Out :=
  match s.job.plan with
  | none => .next s
  | some pp =>
    if !pp.permuting || !others || s.fld R.BK_PERMUTE_BYTES_LEFT != 0 || s.resWait jobPermute != 0
        || s.anyCmd opcReshard CmdRec.suspended then .next s
    else if s.fld R.BK_STATUS_STATE ≠ 4 then .next (s.setFld R.BK_STATUS_STATE 4)
    else
      let version := s.fld R.RS_CKPT_STEP
      let s := (s.applyPlan pp version).resume (s.cue + 64) (version + 1)
      match s.runningCmd opcReshard with
      | none => .next s
      | some c => .next (s.cmdDone { c with done := mib pp.bytes, total := mib pp.bytes } 0 (planDetail pp.id 0))

/-- The tiles that images of a scene loaded now may list (R21): those of the plan the load applies, or of the applied one; any where no
plan was made (DESIGN CHOICE). -/
def State.planTiles (s : State) : Option (List Nat) :=
  match s.job.ready, s.job.applied with
  | some pp, _ => some (pp.plan.groupTiles s.mySeat)
  | none, some p => some (p.groupTiles (s.placeOf s.mySeat))
  | none, none => none

/-- A first placement cannot be applied any more: a region staged since takes its space (R330; DESIGN CHOICE: the scene load ends with its failure,
nothing loaded). -/
def State.readyFails (s : State) (c : CmdRec) (pp : PendingPlan) : State :=
  (((s.setJob { s.job with ready := none }).planResult 2).planIdle).cmdDone c 0x8B (planDetail pp.id 2)

/-- LOAD_SCENE: R198-R208, R214, R319, R554; it waits for K + 64 while a curtain is announced (R59); a first placement that waits for it is seen
applying first (R351). -/
def execLoadScene (s : State) : Out :=
  match s.runningCmd opcLoadScene with
  | none => .next s
  | some c =>
    if s.inCurtain then .next s
    else if s.job.ready.any (fun pp => !s.planFits pp.plan) then
      .next (match s.job.ready with | some pp => s.readyFails c pp | none => s)
    else if s.job.ready.isSome && s.fld R.BK_STATUS_STATE != 4 then .next (s.setFld R.BK_STATUS_STATE 4)
    else
      let r := s.readImages c
      let s := r.2
      match s.verifyScene s.planTiles r.1 with
      | some p => .next (s.verifyFailed c p)
      | none =>
        let s := match s.job.ready with | some pp => s.applyPlan pp 0 | none => s
        let s := ((s.measImages r.1).loadImages r.1 (c.sceneMark != 0)).clearOutside (sceneTiles r.1)
        let s : State := { s with scene := { s.scene with id := c.sceneId, images := r.1, seed := c.sceneSeed } }
        .next (s.cmdDone { c with done := c.imageCount, total := c.imageCount } 0 [])

/-- Bytes per second of a fabric port: 200 GB/s at x4 (R352, R354). -/
def State.portRate (s : State) (p : Nat) : Nat := [0, 50000000000, 100000000000, 200000000000].getD (s.fld (R.FB_PORT_STATUS_WIDTH p)) 0

/-- Layers at each place of the walk through the dies, by bytes of weights (R323, R348). -/
def rolloutStages (sizes : List Nat) : List (List Nat) :=
  let stages := stageOfLayers sizes
  (List.range 8).map (fun i => (stages.zipIdx.filter (fun p => p.1 == i)).map Prod.snd)

/-- The rollout's region on each die (R347, R348), or the RESULT that fails it (R328): TILES where a die's layers need more groups than its quads,
WINGS where the region is taken, LINKS where this seat's planned C0 load on a port exceeds half its rate (R386; DESIGN CHOICE of RESULT). The
scene's own area lies below it (DESIGN CHOICE: R60 gives it no place). -/
def State.rolloutPlan (s : State) (r : RolloutDesc) (id : Nat) (images : List (List Byte)) : Nat × List Nat :=
  match layerSplit r.weights 8 with
  | none => (8, [])
  | some sizes =>
    let bytes := (rolloutStages sizes).map (fun l =>
      roundUp ((l.map (fun n => r.weights.getD n 0 + r.state.getD n 0)).sum) (2 ^ 21))
    let dieBytes := (List.range 8).map (fun d => bytes.getD ([0, 1, 2, 3, 7, 6, 5, 4].idxOf d) 0)
    if sizes.any (fun n => decide (64 < n)) then (1, dieBytes)
    else if (List.range 8).any (fun d => decide (s.sceneTop (some id) d < s.job.wings.getD d 0 + dieBytes.getD d 0 + sceneAreaBytes images d)) then (2, dieBytes)
    else if r.load.any (fun e => e.1 == s.mySeat && decide (s.portRate e.2.1 < 2 * e.2.2)) then (5, dieBytes)
    else if !r.seats.all (fun q => s.jobSeats.contains q) then (8, dieBytes)
    else (0, dieBytes)

/-- The report of a rollout plan (R350): no layer stages, no tensor records; FAIL_SEAT is this seat where it is one that failed. -/
def rolloutReport (result seats region seat : Nat) : List Byte :=
  let l := reportHead result 0 seats 0 region 0 0 0 0 (if result = 0 ∨ result = 8 then 0xFFFF else seat)
  (sha512 (List.replicate 8 0 ++ l)).take 8 ++ l

/-- The layers' homes and tile groups of a rollout whose regions start at `base` (R348). -/
def rolloutLayout (r : RolloutDesc) (base : List Nat) : List RolloutHome × List GroupPlan :=
  match layerSplit r.weights 8 with
  | none => ([], [])
  | some sizes =>
    let l := (rolloutStages sizes).zipIdx
    (l.flatMap (fun p => rolloutHomes r.weights r.state (walkDie (64 * p.2)) p.1 (base.getD (walkDie (64 * p.2)) 0)),
      l.flatMap (fun p => rolloutGroups r.weights p.2 p.1))

/-- STAGE_SCENE: R60, R347-R350, R198-R205, R554; `r` is what DESC holds. Every quad of every die goes to a group of the rollout (R328, R348), so
that no tile lies outside its groups. -/
def execStageScene (r : RolloutDesc) (s : State) : Out :=
  match s.runningCmd opcStageScene with
  | none => .next s
  | some c =>
    if s.inCurtain then .next s
    else
      let im := s.readImages c
      let s := im.2
      match s.verifyScene none im.1 with
      | some p => .next (s.verifyFailed c p)
      | none =>
        let res := s.rolloutPlan r c.sceneId im.1
        let rep := rolloutReport res.1 r.seats.length (res.2.foldl max 0) s.mySeat
        let s := (s.leaveReport rep).setFld R.BK_STATUS_RESULT res.1
        if res.1 ≠ 0 then .next (s.cmdDone c 0x8B (planDetail (ofLe (rep.take 8)) res.1))
        else
          let base := (List.range 8).map (fun d => 0x10000000000 + 0x200000000 * d + s.sceneTop (some c.sceneId) d - res.2.getD d 0)
          let low := base.zipIdx.map (fun p => p.1 - sceneAreaBytes im.1 p.2)
          let lay := rolloutLayout r base
          let st : StagedScene := ⟨c.sceneId, im.1, c.sceneSeed, r.data.map (fun p => (p.1, p.2.length)), low, lay.1, lay.2⟩
          let s := ((s.stageScene st r.data).measImages im.1).setScene { s.scene with staged := s.scene.staged.filter (fun x => x.id != st.id) ++ [st] }
          .next (s.cmdDone { c with done := c.imageCount, total := c.imageCount } 0 [])

end Sys2Proof.Machine
end

