-- ==== Sys2Proof/Machine/RegBus.lean ====
section
/-!
DEFINITION. Machine/RegBus.lean: accesses to registers and memories by any master (R10-R12, R25, R27, R583, R584): access
codes, what writing a register does beside storing its fields, and the refusals.
-/
namespace Sys2Proof.Machine

/-- Which copy of its family the register at `a` is. -/
def RegDef.copyI (r : RegDef) (a : Nat) : Nat := if r.s1 = 0 then 0 else (a - r.base) / r.s1

def RegDef.copyJ (r : RegDef) (a : Nat) : Nat :=
  if r.s2 = 0 then 0 else (if r.s1 = 0 then a - r.base else (a - r.base) % r.s1) / r.s2

/-- A field of a value about to be written. -/
def ofField (f : Fld) (v : Nat) : Nat := bitsOf v f.hi f.lo

/-- May this master write CB_BIND? After the boot lock booth firmware may on an understudy, until its first promotion has written them
(R446). -/
def State.bindOpen (s : State) (mid : Nat) : Bool := !s.locked || (s.ownPos == 8 && !s.res.bound && (mid == 1 || mid == 2))

/-- CU_CTL under R70: fields a job holds, and a PERIOD out of range, keep their values. -/
def State.cueCtlWrite (s : State) (off len v : Nat) : State :=
  let a := R.CU_CTL
  let p := s.fld R.CU_CTL_PERIOD
  let t := s.regWrite a off len v
  let new := t.fld R.CU_CTL_PERIOD
  let t := if new < 25 ∨ 1600 < new then t.setFld R.CU_CTL_PERIOD p else t
  if s.jobOpen then
    (((t.setFld R.CU_CTL_PERIOD p).setFld R.CU_CTL_MASTER_SEAT (s.fld R.CU_CTL_MASTER_SEAT)).setFld R.CU_CTL_BACKUP_SEAT
      (s.fld R.CU_CTL_BACKUP_SEAT)).setFld R.CU_CTL_BACKUP_EN (s.fld R.CU_CTL_BACKUP_EN)
  else t

/-- The limits of R468 on a value of RS_BANDb. -/
def bandOk (v : Nat) : Bool :=
  let se := bitsOf v 7 0
  let fe := bitsOf v 15 8
  bitsOf v 31 16 != 0 && (se == 0 || (fe != 0 && se % fe == 0))

/-- A fresh R_Key: bits [31:7] are random (R405). -/
def State.freshKey (s : State) (n w : Nat) : Nat × State := (s.freeAt 0 % 2 ^ 25 * 128 + n * 16 + w, s.usedFree 1)

/-- A window of a session (R405, R425). -/
def State.setWindow (s : State) (n w base pages access key : Nat) : State :=
  let s := (s.setFld (R.FH_WIN1_RKEY n w) key).setFld (R.FH_WIN1_PAGES n w) pages
  ((s.setFld (R.FH_WIN0_BASE n w) base).setFld (R.FH_WIN0_ACCESS n w) access).setFld (R.FH_WIN0_VALID n w) 1

def State.dropWindow (s : State) (n w : Nat) : State := (s.setReg (R.FH_WIN0 n w) 0).setReg (R.FH_WIN1 n w) 0

/-- What enabling a session brings, whoever sets VALID (R405, R408, R429): indices 0, no expected SEQ, window 0 over its ring region. -/
def State.sessionBegins (s : State) (n : Nat) : State :=
  let s := [offCmdPi, offStsCi, offCmdCi, offStsPi].foldl (fun t o => t.setRingIdx n o 0) s
  let s := (s.setFld (R.BT_CMDSEQ_SET n) 0).setFld (R.BT_CMDSEQ_EXPECT n) 0
  if s.bit (R.FH_WIN0_VALID n 0) then s
  else
    let k := s.freshKey n 0
    k.2.setWindow n 0 (ringBase n) 512 3 k.1

/-- What disabling a session brings, whoever clears VALID: its windows and waiting statuses go (R404, R435). -/
def State.sessionEnds (s : State) (n : Nat) : State :=
  let s := (List.range 16).foldl (fun t w => t.dropWindow n w) s
  { s with host := { s.host with
    waits := s.host.waits.filter (fun w => w.session != n), stores := s.host.stores.filter (fun x => x.session != n) } }

/-- FH_SESS_CFG under R424: VALID and KIND stand while QPs are connected; a write that sets or clears VALID enables or disables the
session (R404). -/
def State.sessCfgWrite (s : State) (n off len v : Nat) : State :=
  let t := s.regWrite (R.FH_SESS_CFG n) off len v
  if s.fld (R.FH_SESS_STATUS_QPS n) = 0 then
    (if s.bit (R.FH_SESS_CFG_VALID n) == t.bit (R.FH_SESS_CFG_VALID n) then t
    else if t.bit (R.FH_SESS_CFG_VALID n) then t.sessionBegins n
    else t.sessionEnds n)
  else (t.setFld (R.FH_SESS_CFG_VALID n) (s.fld (R.FH_SESS_CFG_VALID n))).setFld (R.FH_SESS_CFG_KIND n) (s.fld (R.FH_SESS_CFG_KIND n))

/-- The posting unit of a bus master. -/
def posterOf (mid : Nat) : Poster := if mid = 1 then .booth 0 else if mid = 2 then .booth 1 else .security

/-- A bus write of CB_POSTn (R447): the code it answers. -/
def State.busPost (s : State) (mid n v : Nat) : Nat × State :=
  let p := posterOf mid
  let ok := s.postAllowed n p
  let s := s.posts n [(p, BitVec.ofNat 64 v)]
  (if ok || mid == 3 then 0 else 0x90, s)

/-- A written saturation counter holds the written value plus what saturated in the write's cycle (R100). -/
def State.satAgain (s : State) (a : Nat) : State :=
  let f : Fld := ⟨a, 31, 0⟩
  s.addFld f (s.fldAdded f)

/-- RS_CFG and RS_LIMIT are about to be written while a step runs: the step keeps them as they were at its first issue (R501). -/
def State.keepLimits (s : State) : State :=
  if s.curtain.firstIssue.isSome && s.curtain.kept.isNone then
    { s with curtain := { s.curtain with kept := some (s.reg R.RS_CFG, s.reg R.RS_LIMIT) } }
  else s

/-- A write of `len` bytes at byte `off` of the register `r` at `a`, let through (R10, R583), with what the register's own rule
makes of it. Answers the code of a bus error, 0 for none. -/
def State.hookWrite (s : State) (mid : Nat) (r : RegDef) (a off len v : Nat) : Nat × State :=
  let i := r.copyI a
  let j := r.copyJ a
  let f := s.formed a off len v
  let plain := s.regWrite a off len v
  let b := r.base
  if b = R.TA_SR_SEED 0 then (0, s.seedWrite i off len v)
  else if b = R.TA_MFMT 0 ∨ b = R.TA_PCTL 0 ∨ (R.TP_HYPER_LR 0 0 ≤ b ∧ b ≤ R.TP_HYPER_LR 0 0 + 48) then (0, (s.keepForce a).regWrite a off len v)
  else if b = R.TA_SAT_COUNT 0 ∨ b = R.TP_SAT_COUNT 0 0 then (0, plain.satAgain a)
  else if b = R.TA_BANKCTL 0 then (0, s.bankctlWrite i off len v)
  else if b = R.TA_DC_CTL then (0, s.dcCtlWrite off len v)
  else if b = R.TA_DC_AREA 0 then (0, s.dcAreaWrite i off len v)
  else if b = R.WG_CACHE_CTL then (0, s.cacheResize f)
  else if b = R.TP_BQ_POST 0 then (0, if ofField (R.TP_BQ_POST_POST i) f = 1 then s.bqPost i else s)
  else if b = R.TP_CLIP_SUMSQ 0 then (0, s.clipResolve i f)
  else if b = R.TP_SHARD_W0 0 0 then (0, s.shardEntryWrite i j f)
  else if b = R.TP_SR_SEED 0 0 then
    (0, (s.keepForce a).regWrite a off len v |>.reseedSoon (4096 + 16 * i + j))
  else if b = R.FB_CE_POST then (0, s.cePost (ofField R.FB_CE_POST_QUEUE f))
  else if b = R.FB_PORT_CFG 0 then (0, s.portCfgWrite i f)
  else if b = R.FB_BUDGET 0 then (0, if budgetOk f then plain else s)
  else if b = R.FB_RT 0 then (0, plain.holdRoute i)
  else if b = R.FB_CPATH then (0, plain.holdRoute s.ownGroup)
  else if b = R.CB_POST 0 then s.busPost mid i f
  else if b = R.CB_FLUSH then (0, s.flushChan (ofField R.CB_FLUSH_CHANNEL f))
  else if b = R.CB_BIND 0 then
    (0, s.setReg a (BitVec.ofNat 64 (regAfter (!s.bindOpen mid) r.fields (s.reg a).toNat (v <<< (8 * off)) (coverMask off len))))
  else if b = R.CB_ALIAS 0 then (0, if mid = 1 ∨ mid = 2 then plain else s)
  else if b = R.CU_CTL then (0, s.cueCtlWrite off len v)
  else if b = R.CU_ALARM_CTL 0 then (0, s.alarmCtlWrite i off len v)
  else if b = R.PW_CAP then (0, if 1500 ≤ ofField R.PW_CAP_WATTS f ∧ ofField R.PW_CAP_WATTS f ≤ 3400 then plain else s)
  else if b = R.RS_CFG ∨ b = R.RS_LIMIT then (0, s.keepLimits.regWrite a off len v)
  else if b = R.RS_BAND 0 then (0, if bandOk f then plain else s)
  else if b = R.FH_SESS_CFG 0 then (0, s.sessCfgWrite i off len v)
  else if b = R.FH_PTP_CFG then (0, (plain.ptpMoved (s.fld R.FH_PTP_CFG_DOMAIN) (s.fld R.FH_PTP_CFG_TRANSPORT)).ptpSelect)
  else (0, plain)

/-- A refusal of a register access (R25, R27): logged with MID and address. -/
def State.busRefuse (s : State) (mid a code : Nat) : Nat × State := (code, s.memEntry mid code a)

/-- May a master reach the register at `a`? 0, or the cause of Table 8.9 (R25, R27, R583). -/
def State.busCheck (s : State) (mid a len : Nat) (write : Bool) : Nat :=
  let r := regionOf s.cacheN a
  let isReg := match r with | .breg _ => true | .tregs _ => tileRegMapped a | _ => false
  if !isReg || !regAligned a len then 0x40
  else if !allowed (masterOf mid) write false r a then 0x41
  else
    match r, masterOf mid with
    | .tregs t, .tile _ => if write && a / 8 * 8 == R.TA_BANKCTL t then 0x41 else 0
    | _, _ => 0

/-- The part of a bus write that no commit of the tile's own engines to the same register in this cycle beats (R172): all of it
or none. -/
def State.busLoses (s : State) (a : Nat) : Bool := (List.range 8).any (fun i => s.isWon (a / 8 * 8 + i) none)

/-- A register write on the bus: refused, or granted and performed. -/
def State.busWrite (s : State) (mid a len v : Nat) : Nat × State :=
  let c := s.busCheck mid a len true
  if c ≠ 0 then s.busRefuse mid a c
  else
    match regDefAt (a / 8 * 8) with
    | none => s.busRefuse mid a 0x40
    | some r =>
      let s := s.writerGranted mid a
      if s.busLoses a then (0, s) else s.hookWrite mid r (a / 8 * 8) (a % 8) len v

/-- What reading a register does beside the access codes (R450, R456): the value read, a bus-error code, the state after. -/
def State.hookRead (s : State) (mid : Nat) (r : RegDef) (a : Nat) : Nat × Nat × State :=
  let i := r.copyI a
  if r.base = R.CB_TAKE 0 then
    (if s.takeAllowed i mid then
      let t := s.takeNotice i
      (0, t.1.toNat, t.2)
    else if mid = 1 ∨ mid = 2 then (0x90, 0, s)
    else (0, 0, s.countFld (R.CB_DROP_REFUSED i) 1))
  else if r.base = R.CB_ACQ 0 then
    (let r := s.acqWin i [mid]
    (0, if r.1.isSome then 0 else s.fld (R.CB_LOCK_HOLDER i), r.2))
  else (0, s.regShown a, s)

/-- A register has been read in this cycle; a read of CB_ACQn is one of CB_LOCKn too (R458, R584). -/
def State.noteRead (s : State) (r : RegDef) (a : Nat) : State :=
  let s := s.readReg (a / 8 * 8)
  if r.base = R.CB_ACQ 0 then s.readReg (R.CB_LOCK (r.copyI (a / 8 * 8))) else s

/-- A register read on the bus: the code, the bytes, the state after (R10, R583). -/
def State.busRead (s : State) (mid a len : Nat) : Nat × Nat × State :=
  let c := s.busCheck mid a len false
  if c ≠ 0 then (c, 0, s.memEntry mid c a)
  else
    match regDefAt (a / 8 * 8) with
    | none => (0x40, 0, s.memEntry mid 0x40 a)
    | some r =>
      let s := s.noteRead r a
      let q := s.hookRead mid r (a / 8 * 8)
      (q.1, (q.2.1 >>> (8 * (a % 8))) % 2 ^ (8 * len), q.2.2.regReadEffect (a / 8 * 8) (a % 8) len)

/-- How far a MID stands behind a register's pointer (R584). -/
def writeTurn (ptr mid : Nat) : Nat := (mid + 4096 - ptr) % 4096

/-- One write is performed and answered. -/
def State.writeNow (s : State) (w : LateWrite) : State :=
  let e := s.busWrite w.mid w.addr w.data.length (ofLe w.data)
  e.2.send (.bus w.mid w.addr e.1 [])

/-- Writes to the register at `r` that are accepted in one cycle, in round-robin order of MID (R584). After a read of the
register they are not of this cycle any more, but of the next. -/
def State.writesIn (s : State) (r : Nat) (ws : List LateWrite) : State :=
  if s.now.reads.contains r then { s with now := { s.now with late := s.now.late ++ ws } }
  else (sortBy (fun w => writeTurn (smapGet 1 s.regPtr r) w.mid) ws).foldl State.writeNow s

/-- REGISTER_WRITE: the writes of one cycle to the register at `a`: MID, first byte, bytes (R10, R583, R584). -/
def execRegisterWrite (a : BitVec 44) (ws : List (BitVec 12 × Fin 8 × List Byte)) (s : State) : Out :=
  let r := a.toNat / 8 * 8
  .next (s.writesIn r (ws.map (fun w => ⟨w.1.toNat, r + w.2.1, w.2.2⟩)))

/-- The lock that a read of these bytes acquires, where it is let through (R456). -/
def State.acqOf (s : State) (mid a len : Nat) : Option Nat :=
  match regDefAt (a / 8 * 8) with
  | some r => if r.base = R.CB_ACQ 0 ∧ s.busCheck mid a len false = 0 then some (r.copyI (a / 8 * 8)) else none
  | none => none

/-- A read that acquires a lock: it waits for every other such read of its cycle, and they are answered together when the cycle ends, after
its writes (R458, R584). -/
def State.lateAcq (s : State) (mid a len : Nat) (core : Option CoreLoad) : Option LateAcq :=
  (s.acqOf mid a len).map (fun n => ⟨n, mid, a, len, core⟩)

/-- RC_READ: a read of `len` bytes of a register by a master (R10, R11, R583). -/
def execRcRead (mid : BitVec 12) (a : BitVec 44) (len : Fin 9) (s : State) : Out :=
  match s.lateAcq mid.toNat a.toNat len none with
  | some q => .next (s.putOff [q])
  | none =>
    let e := s.busRead mid.toNat a.toNat len
    .next (e.2.2.send (.bus mid.toNat a.toNat e.1 (leBytes e.2.1 len)))

/-- Hints count for tiles, trap engines and fabric ingress; the others use the default hint (R231). -/
def Master.hinted : Master → Bool
  | .tile _ => true | .engine _ => true | .ingress => true | _ => false

/-- A session reaches its own ring region only, with the access of Table 13.4 (R408). -/
def State.ringAccess (s : State) (n a len : Nat) (data : Option (List Byte)) : MemEnd × State :=
  let off := a - ringBase n
  let inside := decide (ringBase n ≤ a) && decide (off + len ≤ 0x200000)
  if !inside || !ringAllows data.isSome off len then
    (⟨0x41, List.replicate len 0, [], 0⟩, s.memEntry (0x10 + n) 0x41 a)
  else
    match data with
    | none => (⟨0, s.bytes a len, [], 0⟩, s)
    | some d =>
      let w := s.rdmaPerform n a d noEcc
      (⟨w.1.getD 0, [], [], 0⟩, w.2)

/-- Does an RDMA window of the session cover the range with this access (R27, R405)? -/
def State.windowFor (s : State) (n a len : Nat) (write : Bool) : Bool :=
  (List.range 15).any (fun w => s.bit (R.FH_WIN0_VALID n (w + 1)) && s.windowOk n (s.fld (R.FH_WIN1_RKEY n (w + 1))) a len write)

/-- One piece of a master's access inside a granule: a register, a session's ring, or a memory (R25, R27). -/
def State.anyAccess (s : State) (mid a len : Nat) (data : Option (List Byte)) (hint : Nat) (narrow : Bool) (ecc : EccFinding) :
    MemEnd × State :=
  match regionOf s.cacheN a with
  | .breg _ | .tregs _ =>
    (match data with
    | some d =>
      let e := s.busWrite mid a len (ofLe d)
      (⟨e.1, [], [], 0⟩, e.2)
    | none =>
      let e := s.busRead mid a len
      (⟨e.1, leBytes e.2.1 len, [], 0⟩, e.2.2))
  | .ring =>
    (match masterOf mid with
    | .session n => s.ringAccess n a len data
    | _ => s.access ⟨mid, a, len, data, 0, narrow, ecc, none⟩)
  | r =>
    (match masterOf mid with
    | .session n =>
      if r != .unmapped && !s.windowFor n a len data.isSome then
        (⟨0x41, List.replicate len 0, [], 0⟩, s.memEntry mid 0x41 a)
      else s.access ⟨mid, a, len, data, 0, narrow, ecc, none⟩
    | m => s.access ⟨mid, a, len, data, if m.hinted then hint else 0, narrow, ecc, none⟩)

/-- The pieces an access is performed in: a whole access to registers at once (R583), anything else granule by granule (R228). -/
def State.accessPieces (s : State) (a n : Nat) : List (Nat × Nat) :=
  match regionOf s.cacheN a with
  | .breg _ | .tregs _ => if n = 0 then [] else [(a, n)]
  | _ => granulesOver a n

/-- Is this a write of a register that has been read in this cycle (R584)? -/
def State.lateHere (s : State) (a n : Nat) (write : Bool) : Bool :=
  write && (match regionOf s.cacheN a with | .breg _ => true | .tregs _ => true | _ => false) && regAligned a n
    && s.now.reads.contains (a / 8 * 8)

/-- A piece of an access that has arrived at its home. -/
structure Arrival where
  scrub : Bool
  mid : Nat
  addr : Nat
  len : Nat
  data : Option (List Byte)
  hint : Nat
  narrow : Bool
  deriving DecidableEq, Repr

/-- The input of its home an arrival comes in at (R228). -/
def Arrival.input (p : Arrival) : HomeIn := if p.scrub then .scrub else if p.data.isSome then .c0 else .c1

/-- An arrival is performed; the answer goes to the master, and a read that meets poison answers a booth core MEM_POISON (R247). -/
def State.serve (s : State) (p : Arrival) : State :=
  if p.scrub then s.scrub p.addr noEcc
  else
    let e := s.anyAccess p.mid p.addr p.len p.data p.hint p.narrow noEcc
    let bad := e.1.cause == 0 && p.data.isNone && !e.1.poison.isEmpty && (p.mid == 1 || p.mid == 2)
    let t := if bad then e.2.memEntry p.mid 0x43 p.addr else e.2
    t.send (.bus p.mid p.addr (if bad then 0x43 else e.1.cause) (if bad then List.replicate p.len 0 else e.1.data))

/-- How many grants from its home's pointer on an arrival stands; none where no arbiter orders it (R228). -/
def State.turnAt (s : State) (p : Arrival) : Option (Nat × Nat) :=
  (arbiterOf (regionOf s.cacheN p.addr)).map (fun h => (h.1, (p.input.idx + h.2 - smapGet 0 s.arb h.1 % h.2) % h.2))

/-- Is the arrival granted before every other of these at its home? Those of one input keep their order. -/
def State.grantedFirst (s : State) (l : List Arrival) (p : Arrival) : Bool :=
  match s.turnAt p with
  | none => true
  | some h => l.all (fun q => match s.turnAt q with | some g => g.1 != h.1 || decide (h.2 ≤ g.2) | none => true)

/-- Arrivals of one cycle are performed in the order their homes grant them (R228). -/
def State.serveAll : Nat → List Arrival → State → State
  | 0, _, s => s
  | f + 1, l, s =>
    match l.find? (s.grantedFirst l) with
    | none => s
    | some p => State.serveAll f (l.erase p) (s.serve p)

/-- The pieces of an access, as they arrive. -/
def State.arrivals (s : State) (mid a n : Nat) (data : Option (List Byte)) (hint : Nat) (narrow : Bool) : List Arrival :=
  (s.accessPieces a n).map (fun p => ⟨false, mid, p.1, p.2, data.map (fun d => (d.drop (p.1 - a)).take p.2), hint, narrow⟩)

/-- What another arrival of the cycle brings; registers have an order of their own (R584). -/
def State.meets (s : State) (m : MemMeet) : List Arrival :=
  match regionOf s.cacheN m.addr.toNat with
  | .breg _ | .tregs _ => []
  | _ =>
    if m.scrub then [⟨true, 0, m.addr.toNat, 0, none, 0, false⟩]
    else s.arrivals m.mid.toNat m.addr.toNat (match m.data with | some d => d.length | none => m.len.toNat) m.data m.hint m.narrow

/-- MEMORY_ACCESS: a read of `len` bytes, or a write of `data`, granule by granule (R25, R27, R227-R247), with the accesses of `turn`
that arrive in its cycle (R228). -/
def execMemoryAccess (mid : BitVec 12) (a : BitVec 44) (len : BitVec 16) (data : Option (List Byte)) (hint : Fin 4) (narrow : Bool)
    (turn : MemTurn) (s : State) : Out :=
  let n := match data with | some d => d.length | none => len.toNat
  if s.lateHere a.toNat n data.isSome then .next (s.writesIn (a.toNat / 8 * 8) [⟨mid.toNat, a.toNat, data.getD []⟩])
  else if data.isNone ∧ (s.lateAcq mid.toNat a.toNat n none).isSome then .next (s.putOff (s.lateAcq mid.toNat a.toNat n none).toList)
  else
    let l := s.arrivals mid.toNat a.toNat n data hint narrow ++ turn.others.flatMap s.meets
    .next (State.serveAll l.length l (turn.others.foldl (fun t m => t.plant m.ecc) (s.plant turn.ecc)))

end Sys2Proof.Machine
end

