-- ==== Sys2Proof/Machine/CmdTake.lean ====
section
/-!
DEFINITION. Machine/CmdTake.lean: how the booth takes a command packet (R426-R429, R436-R439): its checks, its first status,
and when it starts.
-/
namespace Sys2Proof.Machine

/-- A packet as read from its slot (Table 14.1). -/
structure Packet where
  opcode : Nat
  flags : Nat
  seq : Nat
  plen : Nat
  pad : Nat
  job : Nat
  reqCue : Nat
  cookie : Nat
  zeros : Nat
  params : List Byte
  deriving DecidableEq, Repr

/-- The packet in the slot of index `i` of session `n`. -/
def State.packetAt (s : State) (n i : Nat) : Packet :=
  let a := ringBase n + i % 128 * 0x2000
  let w := fun (o l : Nat) => s.num (a + o) l
  ⟨w 0 2, w 2 2, w 4 4, w 8 2, w 0xA 2, w 0xC 4, w 0x10 8, w 0x18 8, w 0x20 32, s.bytes (a + 64) (min (w 8 2) 4096)⟩

def Packet.par (p : Packet) (o n : Nat) : Nat := ofLe ((p.params.drop o).take n)

/-- Length of the parameters of an opcode (Table 14.4); none for an opcode not listed. -/
def Packet.want (p : Packet) : Option Nat :=
  match p.opcode with
  | 0x01 => some 0
  | 0x02 => some (8 + 8 * p.par 0 4)
  | 0x03 => some (8 + 16 * p.par 0 4)
  | 0x04 => some 8
  | 0x05 => some 8
  | 0x06 => some 16
  | 0x07 => some 16
  | 0x10 => some 24
  | 0x11 => some 1
  | 0x12 => some 16
  | 0x13 => some 1
  | 0x14 => some (24 + 24 * p.par 3 1)
  | 0x20 => some 12
  | 0x21 => some 0
  | 0x22 => some (16 + 16 * p.par 2 2)
  | 0x23 => some (32 + 16 * p.par 2 2)
  | 0x24 => some 16
  | 0x25 => some 16
  | 0x26 => some 8
  | 0x27 => some 0
  | 0x28 => some 2
  | 0x29 => some 0
  | 0x30 => some 8
  | 0x31 => some 1
  | 0x32 => some 4
  | 0x33 => some 5
  | 0x34 => some 8
  | 0x35 => some 2
  | 0x40 => some 0
  | _ => none

/-- A value lies from `lo` to `hi`. -/
def within (v lo hi : Nat) : Bool := decide (lo ≤ v) && decide (v ≤ hi)

/-- Is the block of a register address BT_, CB_ or SC_ (R442)? -/
def guardedBlock (a : Nat) : Bool :=
  decide (0x12000000000 ≤ a) && decide (a < 0x12010000000) &&
    (let b := (a - 0x12000000000) / 0x1000000
     b == 0 || b == 1 || b == 6)

/-- A range for a window: trap or wings, whole (R405). -/
def windowRange (base pages : Nat) : Bool :=
  base % 4096 == 0 && pages != 0 &&
    (decide (base + 4096 * pages ≤ 2 ^ 40) || (decide (2 ^ 40 ≤ base) && decide (base + 4096 * pages ≤ 0x11000000000)))

/-- Parameters inside their stated ranges, pads zero (R427, Table 14.4); `u` is the position-8 seat PROMOTE must name (R496). -/
def State.paramsOk (s : State) (p : Packet) : Bool :=
  match p.opcode with
  | 0x02 => within (p.par 0 4) 1 4 && p.par 4 4 == 0
  | 0x03 => within (p.par 0 4) 1 4 && p.par 4 4 == 0 && (List.range (p.par 0 4)).all (fun i => !guardedBlock (p.par (8 + 16 * i) 8))
  | 0x10 => within (p.par 0 1) 1 7 && within (p.par 1 1) 0 1 && within (p.par 2 1) 0 1 && within (p.par 3 1) 0 128
      && within (p.par 4 2) 0 4096 && p.par 6 2 == 0
  | 0x11 => within (p.par 0 1) 1 7
  | 0x12 => windowRange (p.par 0 8) (p.par 8 4) && within (p.par 12 1) 1 3 && p.par 13 3 == 0
  | 0x13 => within (p.par 0 1) 1 15
  | 0x14 => within (p.par 0 1) 1 7 && within (p.par 1 1) 0 3 && within (p.par 2 1) 1 64 && within (p.par 3 1) 1 16 && p.par 4 4 == 0
      && (List.range (p.par 3 1)).all (fun i => p.par (24 + 24 * i + 20) 4 == 0)
  | 0x20 => p.par 0 4 != 0 && within (p.par 4 2) 25 1600 && within (p.par 7 1) 0 1 && decide (p.par 8 2 < 2 ^ 15)
      && decide (p.par 10 2 < 2 ^ 15)
  | 0x22 => within (p.par 2 2) 1 255 && within (p.par 4 1) 0 2 && p.par 5 3 == 0
  | 0x23 => within (p.par 2 2) 1 255 && p.par 4 1 == 0 && p.par 5 3 == 0
  | 0x30 => p.par 1 3 == 0
  | 0x31 => within (p.par 0 1) 0 7
  | 0x32 =>
    let l := p.par 0 2
    let u := p.par 2 2
    decide (l < 2 ^ 15) && u == 16 * (l / 16) + 8 && !s.promoted.any (fun q => q.2 == u)
  | 0x33 => within (p.par 4 1) 0 2
  | 0x34 => decide (p.par 0 8 < 2 ^ 40)
  | _ => true

/-- The ranges of device memory a packet names: address, length, whether it is written (R439). -/
def memParams (o : Nat) (par : Nat → Nat → Nat) : List (Nat × Nat × Bool) :=
  let images := fun (n : Nat) => (List.range n).map (fun i => (par (16 + 16 * i) 8, par (24 + 16 * i) 8, false))
  match o with
  | 0x04 => [(par 0 8, 520, true)]
  | 0x05 => [(par 0 8, 2048, true)]
  | 0x06 => [(par 0 8, 32 * par 12 4, true)]
  | 0x07 => [(par 0 8, par 8 8, true)]
  | 0x22 => images (par 2 2)
  | 0x23 => images (par 2 2) ++ [(par (16 + 16 * par 2 2) 8, par (24 + 16 * par 2 2) 8, false)]
  | 0x24 => [(par 0 8, par 8 8, false)]
  | 0x25 => [(par 0 8, par 8 8, false)]
  | _ => []

/-- Does window `w` of session `n` hold a range, with that access? Window 0 allows what Table 13.4 does (R405, R439). -/
def State.windowHolds (s : State) (n w a len : Nat) (write : Bool) : Bool :=
  let base := s.fld (R.FH_WIN0_BASE n w)
  s.bit (R.FH_WIN0_VALID n w) && decide (base ≤ a) && decide (a + len ≤ base + 4096 * s.fld (R.FH_WIN1_PAGES n w))
    && (if w = 0 then ringAllows write (a - base) len else bitOf (s.fld (R.FH_WIN0_ACCESS n w)) (b2n write))

/-- The groups of Table 14.3. -/
inductive CmdGroup where
  | a | o | j | s
  deriving DecidableEq, Repr

def groupOf (op : Nat) : CmdGroup :=
  if groupJ op then .j
  else if op = opcSessionOpen ∨ op = opcSessionClose ∨ op = opcStoreOpen ∨ op = opcWarmReset then .s
  else if op = opcRegWrite ∨ (0x31 ≤ op ∧ op ≤ 0x35) then .o
  else .a

/-- A J command that starts at once, or that does not hold the ones behind it (R437). -/
def freeJ (op : Nat) : Bool := op == opcSceneChange || op == opcSceneRestore || op == opcJobStop

/-- Does a command that was taken hold the J commands behind it? -/
def CmdRec.holdsGroup (c : CmdRec) : Bool := groupJ c.opcode && !freeJ c.opcode && !(c.opcode == opcJobStart && c.started)

/-- Would a J command start when taken? -/
def State.startsNow (s : State) (op : Nat) : Bool := !groupJ op || freeJ op || s.host.cmds.all (fun c => !c.holdsGroup)

/-- The rule of Table 14.3 that a packet breaks. -/
def State.groupFault (s : State) (n : Nat) (p : Packet) : Option Nat :=
  let owner := s.fld R.BT_JOB_OWNER == n
  match groupOf p.opcode with
  | .a => none
  | .o => if s.jobOpen && !owner then some 0x85 else none
  | .j => if !s.jobOpen || p.job != s.fld R.BT_JOB_JOB then some 0x86 else if !owner then some 0x85 else none
  | .s => if n = 0 then none else some 0x8F

/-- Why the booth rejects a packet (R427, R429, R436-R439, R60, R67), by the first check that fails; `none`: accepted. -/
def State.rejects (s : State) (n : Nat) (p : Packet) : Option Nat :=
  if 4096 < p.plen then some 0x82
  else
    match p.want with
    | none => some 0x81
    | some want =>
      if p.plen ≠ want then some 0x82
      else if 1 < p.flags ∨ p.pad ≠ 0 ∨ p.zeros ≠ 0 ∨ (groupJ p.opcode = false ∧ p.job ≠ 0) ∨ s.paramsOk p = false then some 0x84
      else if s.bit (R.BT_CMDSEQ_SET n) && p.seq != s.fld (R.BT_CMDSEQ_EXPECT n) then some 0x83
      else if s.modeCode = 0 ∧ p.opcode ≠ opcNop ∧ p.opcode ≠ opcRegRead ∧ p.opcode ≠ opcReadPromptbook then some 0x8C
      else
        match s.groupFault n p with
        | some c => some c
        | none =>
          if !s.startsNow p.opcode && decide (16 ≤ (s.host.cmds.filter (fun c => groupJ c.opcode && !c.started)).length) then some 0x94
          else if (memParams p.opcode p.par).any (fun m => !(List.range 16).any (fun w => s.windowHolds n w m.1 m.2.1 m.2.2)) then
            some 0x8E
          else if p.opcode = opcJobOpen ∧ s.jobOpen then some 0x87
          else if p.opcode = opcJobOpen ∧ s.res.left then some 0x8C
          else if p.opcode = opcSceneChange ∧ (s.staged? (p.par 0 2)).isNone then some 0x88
          else if p.opcode = opcSceneRestore ∧ s.scene.change.isNone ∧ s.scene.saved.isNone then some 0x89
          else none

/-- A session that may be served (R412, R428, R512). -/
def State.servable (s : State) (n : Nat) : Bool :=
  s.hostSess n && !s.warmAccepted && s.ringIdx n offCmdPi != s.ringIdx n offCmdCi && decide (16 ≤ s.stsFree n)

/-- The booth takes the next command of session `n`. -/
def State.takeFrom (s : State) (n : Nat) : State :=
  let i := s.ringIdx n offCmdCi
  let p := s.packetAt n i
  let bad := s.rejects n p
  let s := s.setRingIdx n offCmdCi (i + 1)
  let s := (s.setFld (R.BT_CMDSEQ_SET n) 1).setFld (R.BT_CMDSEQ_EXPECT n) (p.seq + 1)
  match bad with
  | some c => (s.countFld (R.BT_CMDSEQ_REJECTED n) 1).putStatus n s.host.nextId ⟨p.opcode, 4, c, p.seq, p.cookie, 0, 0, []⟩
  | none =>
    let c : CmdRec := ⟨s.host.nextId, n, p.opcode, p.flags == 1, p.seq, p.cookie, p.reqCue, s.cue, p.params, s.startsNow p.opcode, false,
      0, 0, none, 0, none⟩
    let s : State := { s with host := { s.host with cmds := s.host.cmds ++ [c], nextId := s.host.nextId + 1 } }
    let s := s.showJobs.cmdStatus c 1 0 []
    if p.opcode = opcWarmReset then s.acceptWarm n else s

/-- COMMAND_TAKE: round-robin over the sessions, one command per grant (R428). -/
def execCommandTake (s : State) : Out :=
  match roundRobin 8 s.host.rr s.servable with
  | none => .next s
  | some n => .next (({ s with host := { s.host with rr := (n + 1) % 8 } } : State).takeFrom n)

/-- J_COMMAND_START: the next J command starts when nothing before it holds the group (R437). -/
def execJCommandStart (s : State) : Out :=
  match s.host.cmds.find? (fun c => groupJ c.opcode && !c.started) with
  | none => .next s
  | some c =>
    if s.host.cmds.any (fun d => d.holdsGroup && decide (d.id < c.id)) then .next s
    else .next (s.putCmd { c with started := true }).showJobs

end Sys2Proof.Machine
end

