-- ==== Sys2Proof/Machine/Commands.lean ====
section
/-!
DEFINITION. Machine/Commands.lean: what the commands of Table 14.4 that no other file carries out do (R249-R252, R404, R405, R407,
R416, R436-R443, R512, R520). Each acts on the first command of its opcode that has started.
-/
namespace Sys2Proof.Machine

/-- Act on the running command of an opcode. -/
def State.onCmd (s : State) (o : Nat) (f : State → CmdRec → State) : Out :=
  match s.runningCmd o with
  | none => .next s
  | some c => .next (f s c)

/-- Booth core 0 writes bytes: a register at once (R583), memory granule by granule. -/
def State.boothWrite (s : State) (a : Nat) (l : List Byte) : State :=
  (s.accessPieces a l.length).foldl (fun t p => (t.anyAccess 1 p.1 p.2 (some ((l.drop (p.1 - a)).take p.2)) 0 false noEcc).2) s

/-- Booth core 0 reads 8 bytes (R442); a read refused returns zero. -/
def State.boothRead8 (s : State) (a : Nat) : Nat × State :=
  let e := s.anyAccess 1 a 8 none 0 false noEcc
  (if e.1.cause = 0 then ofLe e.1.data else 0, e.2)

/-- NOP: R441. -/
def execNop (s : State) : Out := s.onCmd opcNop (fun s c => s.cmdDone c 0 [])

/-- The values of a list of addresses. -/
def State.readAll (s : State) (l : List Nat) : List Byte × State :=
  l.foldl (fun (r : List Byte × State) a => let v := r.2.boothRead8 a; (r.1 ++ leBytes v.1 8, v.2)) ([], s)

/-- REG_READ: R442. -/
def execRegRead (s : State) : Out :=
  s.onCmd opcRegRead (fun s c =>
    let r := s.readAll ((List.range (c.par 0 4)).map (fun i => c.par (8 + 8 * i) 8))
    r.2.cmdDone c 0 r.1)

/-- REG_WRITE: R442. -/
def execRegWrite (s : State) : Out :=
  s.onCmd opcRegWrite (fun s c =>
    let l := (List.range (c.par 0 4)).map (fun i => (c.par (8 + 16 * i) 8, c.par (16 + 16 * i) 8))
    let s := l.foldl (fun t p => t.boothWrite p.1 (leBytes p.2 8)) s
    let r := s.readAll (l.map Prod.fst)
    r.2.cmdDone c 0 r.1)

/-- READ_LATENCY: TA_LAT_VER, then TA_LAT0 to TA_LAT63 (Table 14.4). -/
def execReadLatency (s : State) : Out :=
  s.onCmd opcReadLatency (fun s c =>
    let v := leBytes (s.reg R.TA_LAT_VER).toNat 8
    let l := (List.range 64).flatMap (fun i => leBytes (s.reg (R.TA_LAT i)).toNat 8)
    (s.boothWrite (c.par 0 8) (v ++ l)).cmdDone c 0 (v.take 4))

/-- READ_BINDING: CB_BIND0 to CB_BIND255. -/
def execReadBinding (s : State) : Out :=
  s.onCmd opcReadBinding (fun s c =>
    (s.boothWrite (c.par 0 8) ((List.range 256).flatMap (fun i => leBytes (s.reg (R.CB_BIND i)).toNat 8))).cmdDone c 0 [])

/-- The entries READ_PROMPTBOOK copies: the first SEQ and how many (R520). -/
def pbSpan (last oldest frm count : Nat) : Nat × Nat :=
  let start := if frm = 0 then some oldest
    else if 1 ≤ sub32 frm last ∧ sub32 frm last ≤ 2 ^ 31 - 1 then none
    else if sub32 last oldest ≤ sub32 last frm then some oldest
    else some frm
  match start with
  | none => (frm, 0)
  | some b => (b, if oldest = 0 then 0 else min count (sub32 last b + 1))

/-- READ_PROMPTBOOK: R520; the copy is whole, so the writer overwrites nothing during it. -/
def execReadPromptbook (s : State) : Out :=
  s.onCmd opcReadPromptbook (fun s c =>
    let frm := c.par 8 4
    let r := pbSpan (s.fld R.BT_PB_STATUS_LAST) (s.fld R.BT_PB_STATUS_OLDEST) frm (c.par 12 4)
    if r.2 = 0 then s.cmdDone c 0 (leBytes frm 4 ++ leBytes frm 4)
    else
      let l := (List.range r.2).flatMap (fun i => (smapGet PbRec.zero s.pb.ring ((r.1 + i) % 2 ^ 32 % 2 ^ 21)).toBytes)
      (s.boothWrite (c.par 0 8) l).cmdDone c 0 (leBytes r.1 4 ++ leBytes ((r.1 + r.2 - 1) % 2 ^ 32) 4))

/-- READ_REPORT: R350. -/
def execReadReport (s : State) : Out :=
  s.onCmd opcReadReport (fun s c =>
    let l := s.host.report.take (c.par 8 8)
    (s.boothWrite (c.par 0 8) l).cmdDone c 0 (leBytes l.length 8))

/-- A session is enabled (R404, R405, R408, R429): indices 0, no expected SEQ, window 0 over its ring region. -/
def State.enableSession (s : State) (n kind notify prefixLen qpMax peer : Nat) : State :=
  let s := ((s.setFld (R.FH_SESS_CFG_NOTIFY n) notify).setFld (R.FH_SESS_CFG_PREFIX n) prefixLen).setFld (R.FH_SESS_CFG_QP_MAX n) qpMax
  let s := (s.setReg (R.FH_SESS_PEER_HI n) (BitVec.ofNat 64 (peer / 2 ^ 64))).setReg (R.FH_SESS_PEER_LO n) (BitVec.ofNat 64 (peer % 2 ^ 64))
  if s.fld (R.FH_SESS_STATUS_QPS n) ≠ 0 then s
  else
    ((s.setFld (R.FH_SESS_CFG_VALID n) 1).setFld (R.FH_SESS_CFG_KIND n) kind).sessionBegins n

/-- SESSION_OPEN: R404. -/
def execSessionOpen (s : State) : Out :=
  s.onCmd opcSessionOpen (fun s c => (s.enableSession (c.par 0 1) (c.par 1 1) (c.par 2 1) (c.par 3 1) (c.par 4 2) (c.par 8 16)).cmdDone c 0 [])

/-- A session is disabled: its QPs enter the error state, its windows and waiting statuses go (R404, R435). -/
def State.disableSession (s : State) (n : Nat) : State :=
  let s := ((s.qpList.filter (fun q => q.session == n)).map Qp.qpn).foldl (fun t i => match t.qp? i with | some q => t.qpError q | none => t) s
  (s.sessionEnds n).setFld (R.FH_SESS_CFG_VALID n) 0

/-- SESSION_CLOSE: R404. -/
def execSessionClose (s : State) : Out := s.onCmd opcSessionClose (fun s c => (s.disableSession (c.par 0 1)).cmdDone c 0 [])

/-- WINDOW_ADD: the lowest free window of the issuing session (R405); with none free the command fails. -/
def execWindowAdd (s : State) : Out :=
  s.onCmd opcWindowAdd (fun s c =>
    match (List.range 15).find? (fun w => !s.bit (R.FH_WIN0_VALID c.session (w + 1))) with
    | none => s.cmdDone c 0x84 []
    | some w =>
      let k := s.freshKey c.session (w + 1)
      (k.2.setWindow c.session (w + 1) (c.par 0 8) (c.par 8 4) (c.par 12 1) k.1).cmdDone c 0 (leBytes (w + 1) 4 ++ leBytes k.1 4))

/-- WINDOW_REMOVE: it waits for every command that names memory of the window (R407, R439). -/
def execWindowRemove (s : State) : Out :=
  s.onCmd opcWindowRemove (fun s c =>
    let n := c.session
    let w := c.par 0 1
    let named := s.host.cmds.any (fun d => d.session == n &&
      (memParams d.opcode d.par).any (fun m => s.windowHolds n w m.1 m.2.1 m.2.2))
    if named then s else (s.dropWindow n w).cmdDone c 0 [])

/-- The first free QP. -/
def State.freeQp? (s : State) : Option Nat := (List.range 4096).find? s.qpFree

/-- One QP of a store session takes seat `i` and sends its REQ; its own number is free (R416). -/
def State.openQp (s : State) (n port ip i : Nat) : State :=
  let q := s.newQp i 0 port n false true 256 0 (0, 0)
  ((s.usedFree 1).setQp q).sendCm port (.cmReq q.qpn ip)

/-- The part's own QPs of a STORE session, each with a CM REQ sent (R401, R402, R416). -/
def State.openQps (s : State) (n port ip : Nat) : Nat → State
  | 0 => s
  | k + 1 => (s.freeQp?.elim s (s.openQp n port ip)).openQps n port ip k

/-- QPs of a session that are connected. -/
def State.connectedQps (s : State) (n : Nat) : Nat := (s.qpList.filter (fun q => q.session == n && q.connected && !q.error)).length

/-- The STORE_OPEN of session `n` is done when every QP is connected. -/
def State.storeReady (s : State) (n : Nat) (late : Bool) : State :=
  match s.host.cmds.find? (fun c => c.opcode == opcStoreOpen && c.started && c.word == 1 && c.par 0 1 == n) with
  | none => s
  | some c => if late || decide (c.par 2 1 ≤ s.connectedQps n) then s.cmdDone c 0 (leBytes (s.connectedQps n) 2) else s

/-- STORE_OPEN: the session opens and its QPs are asked for (R416); a second time, at the end of its 100 ms, it reports those that
have connected. -/
def execStoreOpen (s : State) : Out :=
  s.onCmd opcStoreOpen (fun s c =>
    let n := c.par 0 1
    if c.word = 1 then s.storeReady n true
    else
      let ip := c.par 8 16
      let port := c.par 1 1
      let keys := (List.range (c.par 3 1)).map (fun i => (⟨c.par (24 + 24 * i) 8, c.par (32 + 24 * i) 8, c.par (40 + 24 * i) 4⟩ : StoreKey))
      let s := (s.disableSession n).enableSession n 1 0 128 (c.par 2 1) ip
      let s : State := { s with host := { s.host with
        stores := s.host.stores.filter (fun x => x.session != n) ++ [⟨n, port, c.par 2 1, ip, keys⟩] } }
      ((s.putCmd { c with word := 1 }).openQps n port ip (c.par 2 1)))

/-- REP: a REQ of the part is answered: the QP is connected (R402, R416). -/
def execRep (k : RocePkt) (peerQpn psn : BitVec 24) (mtu : Fin 5) (s : State) : Out :=
  match s.qp? k.qpn.toNat with
  | none => .next s
  | some q =>
    if !s.bit (R.FH_PORT_STATUS_UP q.port) then .next s
    else
      let r := s.rxFrame q.port k.frame
      let s := r.2
      if !r.1 || !k.icrc || !q.requester || q.connected || q.error then .next s
      else
        let s := s.setQp { q with
          connected := true, peerQpn := peerQpn.toNat, epsn := psn.toNat, mtu := 256 * 2 ^ mtu.val }
        let s := s.setFld (R.FH_SESS_STATUS_QPS q.session) (s.fld (R.FH_SESS_STATUS_QPS q.session) + 1)
        .next (s.storeReady q.session false)

/-- JOB_OPEN: CU_CTL, then ownership (R43, R436). A part that has left a job takes no other before a reset (R487; DESIGN CHOICE: the code is
WRONG_MODE). -/
def execJobOpen (s : State) : Out :=
  s.onCmd opcJobOpen (fun s c =>
    if s.jobOpen then s.cmdDone c 0x87 []
    else if s.res.left then s.cmdDone c 0x8C []
    else
      let period := c.par 4 2
      let s := ((s.setFld R.CU_CTL_PERIOD period).setFld R.CU_CTL_MARGIN (c.par 6 1)).setFld R.CU_CTL_BACKUP_EN (c.par 7 1)
      let s := (s.setFld R.CU_CTL_MASTER_SEAT (c.par 8 2)).setFld R.CU_CTL_BACKUP_SEAT (c.par 10 2)
      let s := ((s.setFld R.BT_JOB_JOB (c.par 0 4)).setFld R.BT_JOB_OWNER c.session).setFld R.BT_JOB_OPEN 1
      let s := if c.par 8 2 = s.mySeat then (s.setFld R.CU_STATUS_MASTER 1).startCount else s.setFld R.CU_STATUS_MASTER 0
      let s : State := { s with cueX := s.cueX.fresh s.cue }
      (s.setFld R.CU_STATUS_LOCKED 0).cmdDone c 0 [])

/-- What a closed job leaves of the resilience engine: its areas, stripes and images, no recovery; a seat that has left stays out
(R485). -/
def ResState.closed (x : ResState) : ResState :=
  { ResState.init with
    areas := x.areas, stripes := x.stripes, recordAt := x.recordAt, ownSlots := x.ownSlots, slotMap := x.slotMap, side := x.side,
    flash := x.flash, storeCount := x.storeCount, storeObjects := x.storeObjects, watchedAt := x.watchedAt, decayAt := x.decayAt, left := x.left, bound := x.bound }

/-- The job is over (R440, R489). -/
def State.closeJob (s : State) : State :=
  let s : State := { s with
    curtain := CurtainState.init, cueX := s.cueX.fresh s.cue, jobRisks := [], res := s.res.closed,
    job := { s.job with desc := none, applied := none, ready := none } }
  let s := ((s.setFld R.BT_JOB_OPEN 0).setFld R.BT_JOB_JOB 0).setFld R.BT_JOB_OWNER 0
  (((s.setFld R.CU_STATUS_MASTER 0).setFld R.CU_STATUS_LOCKED 0).setFld R.CU_STATUS_HOLDOVER 0).setFld R.RS_CKPT_STATE_PHASE 0

/-- JOB_CLOSE: J commands that have not started end with CANCELLED (R440); while steps run, the close waits for the curtain. -/
def execJobClose (s : State) : Out :=
  s.onCmd opcJobClose (fun s c =>
    let s := (s.host.cmds.filter (fun d => groupJ d.opcode && !d.started)).foldl (fun t d => t.cmdDone d 0x8D []) s
    if s.curtain.running && !s.res.noMaster && !s.res.left then s.setCurtain { s.curtain with stopAsked := true }
    else (s.endCmds opcJobStart (fun _ => true) 0 []).closeJob.cmdDone c 0 [])

/-- JOB_START: the scene starts at the next first issue (Table 14.4); no step runs on a seat that has left its job (R485; DESIGN CHOICE: the
command ends with WRONG_MODE). -/
def execJobStart (s : State) : Out :=
  match s.host.cmds.find? (fun c => c.opcode == opcJobStart && c.started && c.word == 0) with
  | none => .next s
  | some c =>
    if s.curtain.running || s.curtain.starting then .next s
    else if s.res.left then .next (s.cmdDone c 0x8C [])
    else
      let n := c.par 4 4
      let s := (s.putCmd { c with word := 1 }).setFld R.CU_STEP_STEP (c.par 0 4)
      .next (s.setCurtain { s.curtain with starting := true, left := if n = 0 then none else some n })

/-- JOB_STOP: the steps stop after the next curtain. -/
def execJobStop (s : State) : Out :=
  s.onCmd opcJobStop (fun s c =>
    if s.curtain.running then s.setCurtain { s.curtain with stopAsked := true }
    else
      let s := s.setCurtain { s.curtain with starting := false, left := none }
      (s.endCmds opcJobStart (fun d => d.word == 1) 0 []).cmdDone c 0 [])

/-- SET_RISK_FLOOR: R443. -/
def execSetRiskFloor (s : State) : Out :=
  s.onCmd opcSetRiskFloor (fun s c =>
    let cues := c.par 4 4
    let v := if cues = 0 then (0, 0) else (c.par 0 1, c.taken + cues)
    (({ s with host := { s.host with floors := smapSet (0, 0) s.host.floors c.session v } } : State).reRisk).cmdDone c 0 [])

/-- RISK_FLOOR_EXPIRY: floors whose CUES have passed lapse (R443). -/
def execRiskFloorExpiry (s : State) : Out :=
  .next ({ s with host := { s.host with floors := s.host.floors.filter (fun f => decide (s.cue < f.2.2)) } } : State).reRisk

/-- RETIRE_PAGE: the page moves to the next spare of its stack (R249-R252). `bad` are sectors whose copy meets an uncorrectable error:
each becomes poison, counted and recorded as of any reader, and so are the other errors and the poison it meets (R242, R243, R260). The copy is an input of the home's arbiter (R228). The
event carries the address the command names (R257) and, like the copy's records, MID 0 (DESIGN CHOICE: the manual names none). -/
def execRetirePage (bad : List (BitVec 44)) (s : State) : Out :=
  s.onCmd opcRetirePage (fun s c =>
    let a := c.par 0 8
    let h := trapHome a
    let page := h.2 / 65536
    let spare := s.fld (R.TP_SPARES_USED h.1)
    if s.fld (R.TP_SPARES_TOTAL h.1) ≤ spare then s.cmdDone c 0x4B []
    else
      let inPage := fun (u : Nat) => let g := trapHome u; decide (u < 2 ^ 40) && g.1 == h.1 && g.2 / 65536 == page
      let s := s.homeGrant (.trap h.1 h.2) .retire
      let s := s.countFld (R.TP_ECC_POISON_READS h.1) ((s.poison.map Prod.fst).filter inPage).length
      let s := bad.foldl (fun t b => if inPage b.toNat then (t.setFlaw (b.toNat / 32 * 32) 0).stackUncorr 0 h.1 (b.toNat / 32 * 32) else t) s
      let s := ((s.flaws.map Prod.fst).filter (fun u => inPage u && !(s.line (u / 128)).valid)).foldl (fun t u => (t.meetFlaw 0 u).2) s
      let list := s.retired ++ [(h.1, page, spare)]
      let s : State := { s with retired := list, boot := { s.boot with retired := list } }
      let s := (s.setFld (R.TP_SPARES_USED h.1) (spare + 1)).memEvent 0 0x4A (s.mySeat * 2 ^ 44 + a)
      s.cmdDone c 0 (leBytes h.1 4 ++ leBytes page 4 ++ leBytes spare 4))

/-- LINK_RETRAIN: the named ports retrain (R364); a second time, when none of them trains, it reports FB_STATUS.UP. -/
def execLinkRetrain (s : State) : Out :=
  s.onCmd opcLinkRetrain (fun s c =>
    let ports := (List.range 16).filter (fun p => bitOf (c.par 0 2) p)
    if c.word = 0 then
      (ports.foldl (fun t p => t.portCfgWrite p (t.portCfg p (t.bit (R.FB_PORT_CFG_DISABLE p)) true)) (s.putCmd { c with word := 1 })).resSettle
    else if ports.any (fun p => s.fld (R.FB_PORT_STATUS_STATE p) == 1) then s
    else s.cmdDone c 0 (leBytes (s.fld R.FB_STATUS_UP) 2))

/-- WARM_RESET: nothing comes after ACCEPTED; the reset follows (R512). -/
def execWarmReset (s : State) : Out :=
  s.onCmd opcWarmReset (fun s c => s.acceptWarm c.session)

end Sys2Proof.Machine
end

