-- ==== Sys2Proof/Machine/Reset.lean ====
section
/-!
DEFINITION. Machine/Reset.lean: what every reset leaves (R511-R514) and the module's outputs (R574).
-/
namespace Sys2Proof.Machine

/-- What flash keeps of the resilience engine; the store's objects lie outside the part (R513, R514). -/
def ResState.kept (x : ResState) : ResState := { ResState.init with flash := x.flash, storeObjects := x.storeObjects }

/-- Erase a range of the NOR. -/
def SecX.norErase (x : SecX) (a n : Nat) : SecX :=
  { x with nor := x.nor.filter (fun p => decide (p.1 < a) || decide (a + n ≤ p.1)), norErased := x.norErased ++ [(a, n)] }

def norSlot : Nat := 0x7F00000
def norConfig (copy : Nat) : Nat := 0xFE00000 + 0x100000 * copy

/-- The manifest of a slot, or the header of a configuration copy, is erased: it no longer passes its checks (R566). -/
def SecX.spoil (x : SecX) (u : Update) : SecX :=
  if !u.got then x else if u.image then x.norErase (u.place * norSlot) 0xA00 else x.norErase (norConfig u.place) 64

/-- The security block after a reset (R554, R557, R558): fuses and NOR stay; a warm reset keeps an unlock that waits; what an
update under way has written fails verification (R566). -/
def SecX.restarted (x : SecX) (cold : Bool) (u : Option Update) : SecX :=
  let x := match u with | some u => x.spoil u | none => x
  { x with
    challenge := none, pend := if cold then none else x.pend, slot := none, copy := none, salt := [], pwhash := [] }

/-- The life cycle the fuses give (Table 18.2). -/
def SecX.lifecycle (x : SecX) : Nat :=
  if x.roots.all Option.isNone then 1
  else if x.owners.all Option.isNone then 2
  else if x.owners.zipIdx.any (fun p => p.1.isSome && !bitOf x.ownerRevoked p.2) then 3
  else 4

/-- What the fuses put into SC_STATUS and SC_SVN as a reset is released (R568). -/
def State.showFuses (s : State) : State := (s.setFld R.SC_STATUS_LIFECYCLE s.sec.lifecycle).setFld R.SC_SVN_FUSED s.sec.svn

/-- A reset of the part (R511-R514, R557, R560): only flash, NOR and fuses stay, and at a warm reset what the security block keeps
until a cold one. An update under way has failed (R566). -/
def State.restart (s : State) (kind mid : Nat) : State :=
  let cold := decide (kind ≤ 2)
  let held := if s.mgmt.update.isSome then [(⟨0, 0, pbEvent, 0xE9, (Config.openDetail 0xE9 0).toNat, false, false⟩ : PbIn)] else []
  let r : State := { State.reset with
    pending := s.pending, out := s.out, free := s.free, res := s.res.kept, sec := s.sec.restarted cold s.mgmt.update,
    boot := { BootX.init with stage := if cold then 0 else 1, retired := s.boot.retired, held := held },
    pb := { PbState.init with tail := s.pb.tail, tailBoots := s.pb.tailBoots, tailSum := s.pb.tailSum } }
  let r := ((r.setFld R.BT_RESET_KIND kind).setFld R.BT_RESET_MID mid).showFuses
  if cold then r
  else
    ((r.setFld R.SC_STATUS_FAILS (s.fld R.SC_STATUS_FAILS)).setFld R.SC_STATUS_SCOPE (s.fld R.SC_STATUS_SCOPE)).setFld
      R.SC_STATUS_PENDING (s.fld R.SC_STATUS_PENDING)

/-- Is the part powered and out of reset? -/
def State.alive (s : State) : Bool := s.power.phase != .off && !s.boot.rstLow

/-- WARM_RESET_EXECUTE: 100 µs after a warm request (R511, R512). -/
def execWarmResetExecute (s : State) : Out :=
  match s.host.warm with
  | none => .next s
  | some w => .next (if s.host.warmAt + 150000 ≤ s.cycle then s.restart w.1 w.2 else s)

/-- RESET_CONTACT: RST_L low for 10 µs: a cold reset, and the hub stays in reset while it is low (R511, R574). A part a hub trip
keeps off may start again (R541). -/
def execResetContact (s : State) : Out :=
  if s.power.phase = .off ∧ !s.power.latched then .next s
  else
    let r := s.restart 2 0
    .next { r with boot := { r.boot with rstLow := true } }

/-- RST_L_RISE: S0 starts (R574). -/
def execRstLRise (s : State) : Out := .next { s with boot := { s.boot with rstLow := false, since := s.cycle } }

/-- FAULT_L is driven low (R574): a part held in S1 is in recovery mode (R509). -/
def State.faultL (s : State) : Bool :=
  s.bit R.PW_HOLD_TRIP || s.modeCode == 3

/-- PG: every rail is in regulation once S0 has ended, until a power failure (R572). -/
def State.pg (s : State) : Bool := s.power.phase == .none && decide (1 ≤ s.boot.stage) && !s.boot.rstLow

end Sys2Proof.Machine
end

