-- ==== Sys2Proof/Machine/Rsa.lean ====
section
/-!
DEFINITION. Machine/Rsa.lean: RSASSA-PSS verification as R549 states it (PKCS #1 v2.2; SHA-512, MGF1 with SHA-512, a 64-byte salt,
a 4096-bit modulus).
-/
namespace Sys2Proof.Machine

/-- b to the power e, modulo n, over the low `k` bits of e. -/
def powMod (n : Nat) : Nat → Nat → Nat → Nat
  | 0, _, _ => 1 % n
  | k + 1, b, e =>
    let r := powMod n k (b * b % n) (e / 2)
    if e % 2 = 1 then r * b % n else r

/-- `k` blocks of MGF1. -/
def mgfBlocks (seed : List Byte) (k : Nat) : List Byte := (List.range k).flatMap (fun i => sha512 (seed ++ beBytes i 4))

def mgf1 (seed : List Byte) (n : Nat) : List Byte := (mgfBlocks seed (n / 64 + 1)).take n

/-- EMSA-PSS-VERIFY with an encoded message of 512 bytes and 4095 bits. -/
def emsaPss (m em : List Byte) : Bool :=
  let masked := em.take 447
  let h := (em.drop 447).take 64
  let db := (masked.zip (mgf1 h 447)).map (fun p => p.1 ^^^ p.2)
  let db := match db with | b :: r => (b &&& 0x7F) :: r | [] => []
  let salt := db.drop 383
  em.length == 512 && em.getD 511 0 == 0xBC && (masked.getD 0 0).toNat < 128
    && (db.take 382).all (fun b => b == 0) && db.getD 382 0 == 1
    && sha512 (List.replicate 8 0 ++ sha512 m ++ salt) == h

/-- The signature `sig` of `m` under a key (512 bytes of modulus, 4 of exponent, both big-endian). -/
def pssVerify (key m sig : List Byte) : Bool :=
  let n := ofBe (key.take 512)
  let e := ofBe ((key.drop 512).take 4)
  let v := ofBe sig
  key.length == 516 && sig.length == 512 && decide (v < n) && emsaPss m (beBytes (powMod n 32 v e) 512)

/-- A signature under the key whose digest a fused slot holds. -/
def signedBy (slot m sig : List Byte) : Bool :=
  let k := Config.keyOf slot
  sha512 k == slot && pssVerify k m sig

end Sys2Proof.Machine
end

