-- ==== Sys2Proof/Machine/Firmware.lean ====
section
/-!
DEFINITION. Machine/Firmware.lean: the firmware NOR (R548), the manifest and the checks of a slot (R549, R550), a configuration copy
and its checks (R552, R553).
-/
namespace Sys2Proof.Machine

def norActivation : Nat := 0x7EFF000

/-- A byte of the NOR as delivered (R580): slot A with activation count 1, slot B erased, configuration copy 0, copy 1 erased. -/
def norDelivered (a : Nat) : Byte :=
  if norActivation ≤ a ∧ a < norActivation + 4 then (if a = norActivation then 1 else 0)
  else if a < norSlot ∨ (norConfig 0 ≤ a ∧ a < norConfig 1) then Config.factoryNor a
  else 0xFF

/-- A byte of the NOR: what was written, else erased, else as delivered. -/
def SecX.norByte (x : SecX) (a : Nat) : Byte :=
  match smapGet none x.nor a with
  | some b => b
  | none => if x.norErased.any (fun r => decide (r.1 ≤ a) && decide (a < r.1 + r.2)) then 0xFF else norDelivered a

def SecX.norBytes (x : SecX) (a n : Nat) : List Byte := (List.range n).map (fun i => x.norByte (a + i))

/-- Write bytes. -/
def SecX.norWrite (x : SecX) (a : Nat) (l : List Byte) : SecX :=
  { x with nor := l.zipIdx.foldl (fun m p => smapSet none m (a + p.2) (some p.1)) x.nor }

/-- Activation count of a slot, one more than an erased word counts (R550). -/
def SecX.rank (x : SecX) (slot : Nat) : Nat :=
  let v := ofLe (x.norBytes (slot * norSlot + norActivation) 4)
  if v = 0xFFFFFFFF then 0 else v + 1

/-- The bytes of a slot's manifest (Table 18.4). -/
def SecX.manifest (x : SecX) (slot : Nat) : List Byte := x.norBytes (slot * norSlot) 0xA00

def lNum (l : List Byte) (o n : Nat) : Nat := ofLe ((l.drop o).take n)

/-- A component of a manifest: type, offset, length, digest. -/
structure Component where
  type : Nat
  offset : Nat
  length : Nat
  digest : List Byte
  deriving DecidableEq, Repr

def componentsOf (m : List Byte) : List Component :=
  (List.range (min 16 (lNum m 6 2))).map (fun i =>
    let o := 0x20 + 80 * i
    ⟨lNum m o 2, lNum m (o + 4) 4, lNum m (o + 8) 4, (m.drop (o + 16)).take 64⟩)

/-- Check 1 of R550: magic, format, counts, zero fields, bounds, the types present. -/
def manifestForm (m : List Byte) : Bool :=
  let n := lNum m 6 2
  let cs := componentsOf m
  lNum m 0 4 == 0x4D465253 && lNum m 4 2 == 1 && decide (1 ≤ n) && decide (n ≤ 16) && lNum m 0x10 4 / 32 == 0 && lNum m 0x14 12 == 0
    && (List.range 16).all (fun i =>
        if i < n then lNum m (0x20 + 80 * i + 2) 2 == 0 && lNum m (0x20 + 80 * i + 12) 4 == 0 else lNum m (0x20 + 80 * i) 80 == 0)
    && lNum m 0x724 220 == 0
    && cs.all (fun c => decide (0xA00 ≤ c.offset) && decide (c.offset + c.length ≤ norActivation))
    && decide ((cs.map (fun c => c.length)).sum ≤ 64 * 2 ^ 20)
    && [1, 2, 3, 4, 5].all (fun t => (cs.filter (fun c => c.type == t)).length == 1)

def manifestKey (m : List Byte) : List Byte := (m.drop 0x520).take 516

/-- The unrevoked ROOT slot a manifest's key belongs to. -/
def SecX.rootOf (x : SecX) (m : List Byte) : Option Nat :=
  let h := sha512 (manifestKey m)
  (List.range 4).find? (fun r => x.roots.getD r none == some h && !bitOf x.rootRevoked r)

/-- The first check of R550 a slot fails, 0 for none. -/
def SecX.slotCheck (x : SecX) (slot : Nat) : Nat :=
  let m := x.manifest slot
  if !manifestForm m then 1
  else if (x.rootOf m).isNone then 2
  else if !pssVerify (manifestKey m) (m.take 0x800) ((m.drop 0x800).take 512) then 3
  else if lNum m 0xC 4 < x.svn then 4
  else if !(componentsOf m).all (fun c => sha512 (x.norBytes (slot * norSlot + c.offset) c.length) == c.digest) then 5
  else 0

/-- The order in which the slots are tried (R550). -/
def SecX.slotOrder (x : SecX) : List Nat := if x.rank 0 < x.rank 1 then [1, 0] else [0, 1]

/-- The newest owner slot not revoked. -/
def SecX.newestOwner (x : SecX) : Option Nat :=
  (List.range 4).reverse.find? (fun r => (x.owners.getD r none).isSome && !bitOf x.ownerRevoked r)

def SecX.ownerHash (x : SecX) : Option (List Byte) := x.newestOwner.bind (fun r => x.owners.getD r none)

/-- A configuration (R552): sequence, test request, SALT, PWHASH, entries, everything before the signature, the signature. -/
structure ConfigCopy where
  seq : Nat
  test : Bool
  salt : List Byte
  pwhash : List Byte
  entries : List (Nat × Nat)
  body : List Byte
  sig : List Byte
  deriving DecidableEq, Repr

/-- A configuration's bytes taken apart; none where its header breaks R552. -/
def configOf (l : List Byte) : Option ConfigCopy :=
  let n := lNum l 8 4
  if lNum l 0 4 ≠ 0x47464E43 ∨ 4096 < n ∨ lNum l 16 48 ≠ 0 then none
  else
    let len := 144 + 16 * n
    some ⟨lNum l 4 4, bitOf (lNum l 12 4) 0, (l.drop 64).take 16, (l.drop 80).take 64,
      (List.range n).map (fun i => (lNum l (144 + 16 * i) 8, lNum l (152 + 16 * i) 8)), l.take len, (l.drop len).take 512⟩

/-- Does a register hold an RWL field, in the booth register space or a tile window (R553)? -/
def rwlAt (a : Nat) : Bool := a % 8 == 0 && (fieldsAt a).any (fun f => f.acc == .rwl)

/-- A copy passes its checks (R552): `owner` is the digest of the key that must have signed it. -/
def ConfigCopy.ok (c : ConfigCopy) (owner : Option (List Byte)) : Bool :=
  match owner with | none => true | some h => signedBy h c.body c.sig

/-- Every entry names a field of access RWL (R553). -/
def ConfigCopy.entriesOk (c : ConfigCopy) : Bool := c.entries.all (fun e => rwlAt e.1)

/-- Configuration copy `i` as the NOR holds it. -/
def SecX.config? (x : SecX) (i : Nat) : Option ConfigCopy :=
  let n := ofLe (x.norBytes (norConfig i + 8) 4)
  configOf (x.norBytes (norConfig i) (144 + 16 * min n 4096 + 512))

/-- The default configuration component of a slot. -/
def SecX.defaultConfig (x : SecX) (slot : Nat) : List Byte :=
  ((componentsOf (x.manifest slot)).find? (fun c => c.type == 5)).elim [] (fun c => x.norBytes (norSlot * slot + c.offset) c.length)

/-- A configuration copy, if it passes. -/
def SecX.goodConfig (x : SecX) (owner : Option (List Byte)) (i : Nat) : Option (Nat × ConfigCopy) :=
  (x.config? i).bind (fun c => if c.ok owner then some (i, c) else none)

/-- The copy with the larger CFG_SEQ of those that pass, copy 0 on a tie (R552). -/
def largerSeq : Option (Nat × ConfigCopy) → Option (Nat × ConfigCopy) → Option (Nat × ConfigCopy)
  | some a, some b => some (if a.2.seq < b.2.seq then b else a)
  | some a, none => some a
  | none, b => b

/-- The copy S6 takes (R552). -/
def SecX.bestConfig (x : SecX) (owner : Option (List Byte)) : Option (Nat × ConfigCopy) :=
  largerSeq (x.goodConfig owner 0) (x.goodConfig owner 1)

end Sys2Proof.Machine
end

