-- ==== Sys2Proof/Machine/Boot.lean ====
section
/-!
DEFINITION. Machine/Boot.lean: start-up stage by stage (R506-R510, R550-R554) and the promptbook writer (R515-R519, R521, R523).
-/
namespace Sys2Proof.Machine

def State.setBoot (s : State) (b : BootX) : State := { s with boot := b }

/-- A start-up entry (Table 16.7). -/
def bootEntry (code detail : Nat) : PbIn := ⟨0, 0, pbBoot, code, detail, false, false⟩

/-- An entry of start-up: handed to the writer, or held until the promptbook starts (R550). -/
def State.bootSay (s : State) (e : PbIn) : State :=
  if s.pb.started then s.pbHand [{ e with cue := s.cue }] else s.setBoot { s.boot with held := s.boot.held ++ [e] }

/-- A fault that sends the part to recovery at the boot lock (R504); the first one is the REASON. -/
def State.bootFault (s : State) (code : Nat) : State := s.setBoot { s.boot with fault := s.boot.fault.or (some code) }

/-- The entry of a stage's end (R506). -/
def stageEntry (stage us : Nat) : PbIn := bootEntry 0xF0 (stage * 2 ^ 56 + us % 2 ^ 32)

/-- A stage ends and the next starts. -/
def State.toStage (s : State) (n : Nat) : State :=
  let s := s.setBoot { s.boot with stage := n, since := s.cycle }
  s.setFld R.BT_MODE_STAGE (min n 6)

/-- POWER_STAGE: S0 ends after `us` µs; a bank charged holds 60 V, one not charged sends the part to recovery (R506, R528). -/
def execPowerStage (us : BitVec 32) (charged : Bool) (s : State) : Out :=
  if s.boot.stage ≠ 0 ∨ s.alive = false then .next s
  else
    let s := (s.setBoot { s.boot with s0 := us.toNat }).setFld R.PW_STATUS_BANK_OK (b2n charged)
    let s := if charged then s.setFld R.PW_STATUS_VBANK 6000 else s
    let s := if charged then s
      else (s.bootSay ⟨0, 0, pbEvent, 0xC4, (Config.openDetail 0xC4 0).toNat, false, false⟩).bootFault 0xC4
    .next (s.toStage 1)

/-- The revoke bits of a manifest, less the bit of the root that signed it. -/
def revokes (m : List Byte) (root : Nat) : Nat := putBits (bitsOf (lNum m 0x10 4) 4 1) root root 0

/-- A slot passes: it is booted (R550, R554, R568). -/
def State.bootSlot (s : State) (slot root : Nat) : State :=
  let m := s.sec.manifest slot
  let revoked := Nat.lor s.sec.rootRevoked (revokes m root)
  let s : State := { s with sec := { s.sec with slot := some slot, rootRevoked := revoked } }
  let s := (((s.setFld R.SC_STATUS_FW_VERSION (lNum m 8 4)).setFld R.SC_STATUS_ROOT_SLOT root).setFld R.SC_STATUS_SLOT slot).setFld
    R.SC_STATUS_REVOKED revoked
  let s := (s.setFld R.SC_SVN_MANIFEST (lNum m 0xC 4)).setFld R.SC_STATUS_OWNER_SLOT (s.sec.newestOwner.getD 15)
  let s := s.measExtend 0 (sha512 (Config.measBytes [s.fld R.SC_STATUS_LIFECYCLE, root, s.sec.svn, revoked]))
  let s := s.measExtend 1 (sha512 (m.take 0x800))
  (componentsOf m).foldl (fun t c => t.measExtend 2 c.digest) s

/-- The slots tried in order: entries of those that fail, and the first that passes. -/
def SecX.trySlots (x : SecX) : List Nat → List PbIn × Option Nat
  | [] => ([], none)
  | i :: r =>
    let c := x.slotCheck i
    if c = 0 then ([], some i)
    else
      let t := x.trySlots r
      (bootEntry (if c = 4 then 0xE1 else 0xE0) (i * 256 + c) :: t.1, t.2)

/-- ROOT_STAGE: S1, `us` µs long: a pending debug scope opens, then a slot is booted, or the part stays in S1, in recovery mode
(R509, R550, R558, R562). -/
def execRootStage (us : BitVec 32) (s : State) : Out :=
  if s.boot.stage ≠ 1 ∨ s.boot.fault.isSome ∧ s.modeCode = 3 ∨ s.alive = false then .next s
  else
    let s := match s.sec.pend with
      | some n =>
        let t : State := { s with sec := { s.sec with pend := none } }
        (t.setFld R.SC_STATUS_SCOPE n).setFld R.SC_STATUS_PENDING 0
      | none => s
    let r := s.sec.trySlots s.sec.slotOrder
    let s := r.1.foldl (fun t e => t.bootSay e) s
    match r.2 with
    | none =>
      let c := (r.1.map (fun e => e.code)).getLastD 0xE0
      .next (((s.bootFault c).setFld R.BT_MODE_MODE 3).setFld R.BT_MODE_REASON c)
    | some slot =>
      let s := s.bootSlot slot ((s.sec.rootOf (s.sec.manifest slot)).getD 0)
      let s := if s.mgmt.addressed then s else s.setFld R.MG_STATUS_BUS 1
      .next ((s.setBoot { s.boot with s1 := us.toNat }).toStage 2)

/-- The SEQ after `n` (R517). -/
def nextSeq (n : Nat) : Nat := if n = 2 ^ 32 - 1 then 1 else n + 1

/-- The writer writes a record: its SEQ, its slot, LAST and OLDEST (R517, R524). -/
def State.pbPut (s : State) (r : PbRec) : PbRec × State :=
  let q := s.pb.seq
  let r := { r with seq := q }
  let o := s.fld R.BT_PB_STATUS_OLDEST
  let o' := if o = 0 then q else if 2 ^ 21 ≤ sub32 q o then max 1 (sub32 q (2 ^ 21 - 1)) else o
  let s : State := { s with pb := { s.pb with seq := nextSeq q, ring := smapSet PbRec.zero s.pb.ring (q % 2 ^ 21) r } }
  (r, (s.setFld R.BT_PB_STATUS_LAST q).setFld R.BT_PB_STATUS_OLDEST o')

/-- An entry that the writer accepts (R515), sent to the status rings where it is an event for the host (R434). -/
def State.pbAccept (s : State) (e : PbIn) : State :=
  let w := s.pbPut ⟨e.cue, s.timeNs, e.source, s.pbCls e.kind, e.code, 0, e.detail % 2 ^ 64⟩
  if e.host then w.2.eventStatus e.code w.1.toBytes else w.2

/-- How far a SOURCE stands behind the writer's pointer (R518). -/
def pbTurn (ptr source : Nat) : Nat := (source + 4096 - ptr % 4096) % 4096

/-- The queued entry granted next: the first of the SOURCE whose turn it is. -/
def pbNext (ptr : Nat) : List PbIn → Option PbIn
  | [] => none
  | e :: r =>
    match pbNext ptr r with
    | some f => some (if pbTurn ptr f.source < pbTurn ptr e.source then f else e)
    | none => some e

/-- The queue without the entries of a grant: `e`, and its second half where it is a pair. -/
def pbTake (e : PbIn) : List PbIn → List PbIn × List PbIn
  | [] => ([], [])
  | x :: r =>
    if x = e then (if e.pair then (x :: r.take 1, r.drop 1) else ([x], r))
    else
      let t := pbTake e r
      (t.1, x :: t.2)

/-- PROMPTBOOK_WRITE: one grant; after drops a GAP entry precedes it (R517-R519). -/
def execPromptbookWrite (s : State) : Out :=
  match (if s.pb.started then pbNext s.pb.ptr s.pb.queue else none) with
  | none => .next s
  | some e =>
    let t := pbTake e s.pb.queue
    let n := s.pb.drops
    let s : State := { s with pb := { s.pb with queue := t.2, ptr := (e.source + 1) % 4096, drops := 0 } }
    let s := if n = 0 then s else s.pbAccept ⟨s.cue, 0, pbGap, 0xF8, n, false, false⟩
    .next (t.1.foldl (fun u x => u.pbAccept x) s)

/-- The tail in flash is copied into the new ring, or TAIL_BAD takes its place (R523). -/
def State.copyTail (s : State) (ok : Bool) : State :=
  match s.pb.tail with
  | none => s
  | some l =>
    if !ok || tailDigest l != s.pb.tailSum then s.pbAccept { bootEntry 0xF9 (Config.openDetail 0xF9 0).toNat with cue := s.cue }
    else
      let boots := s.pb.tailBoots + 1
      let s : State := { s with pb := { s.pb with tailBoots := boots } }
      let s := s.pbAccept ⟨s.cue, 0, pbTailStart, 0, boots % 2 ^ 16 * 2 ^ 32 + l.length, false, false⟩
      let s := l.foldl (fun t r => (t.pbPut { r with cls := Nat.lor r.cls 64 }).2) s
      ((s.setFld R.BT_PB_INFO_TAIL_COUNT l.length).setFld R.BT_PB_INFO_TAIL_BOOTS (min 255 boots)).setFld R.BT_PB_INFO_TAIL_VALID 1

/-- RS_FLASHi of a slot of the checkpoint flash (R500). -/
def State.showFlash (s : State) (i : Fin 2) : State :=
  match (if i.val = 0 then s.res.flash.1 else s.res.flash.2) with
  | none => s
  | some f => (s.setFld (R.RS_FLASH_VALID i) 1).setFld (R.RS_FLASH_STEP i) f.step

/-- HUB_STAGE: S2, `us` µs long: the time base and the count start at 0, the ring begins with the RESET entry and the tail, the flash
is read, the links begin to train with S3 (R506, R521-R523, R355). `tailOk`: the tail read passes its check. -/
def execHubStage (us : BitVec 32) (tailOk : Bool) (s : State) : Out :=
  if s.boot.stage ≠ 2 ∨ s.alive = false then .next s
  else
    let held := s.boot.held
    let s := s.setBoot { s.boot with held := [] }
    let s : State := { s with
      tbOff := -((s.cycle * 2 / 3 : Nat) : Int), pb := { PbState.init with started := true, tail := s.pb.tail, tailBoots := s.pb.tailBoots, tailSum := s.pb.tailSum } }
    let s : State := { s.setReg R.CU_COUNT 0 with cueX := { s.cueX.fresh 0 with start := s.cycle, len := s.cuePeriod } }
    let cold := decide (s.fld R.BT_RESET_KIND ≤ 2)
    let s := s.pbAccept ⟨0, s.fld R.BT_RESET_MID, pbReset, if cold then 0xF1 else 0xF2, (s.reg R.BT_RESET).toNat, false, false⟩
    let s := ((s.copyTail tailOk).showFlash 0).showFlash 1
    let s := held.foldl (fun t e => t.bootSay e) s
    let s := s.bootSay (stageEntry 2 us.toNat)
    let s := (List.range 16).foldl (fun t p => if t.bit (R.FB_PORT_CFG_DISABLE p) then t else t.portTo p 1) s
    let s := s.setBoot { s.boot with linksSince := s.cycle }
    .next (s.toStage 3)

/-- What S3 finds (Table 16.2): stacks and wings dies that fail, whether the retirement list was read, addresses of corrected
errors. -/
def State.memoryFaults (s : State) (details : List Nat) : State :=
  details.foldl (fun t d => (t.bootSay (bootEntry 0xF4 d)).bootFault 0xF4) s

/-- MEMORY_STAGE: S3, `us` µs long (R507, R251, Table 16.2). -/
def execMemoryStage (us : BitVec 32) (badStacks badWings : List (Fin 8)) (listOk : Bool) (corrected : List (BitVec 40)) (s : State) : Out :=
  if s.boot.stage ≠ 3 ∨ s.alive = false then .next s
  else
    let failed := badStacks.map (fun k => k.val) ++ badWings.map (fun d => 0x100 + d.val)
    let retired := if listOk then s.boot.retired else []
    let s : State := { s with
      mem := s.mem.filter (fun c => decide (0x11000000000 ≤ c.1)), poison := s.poison.filter (fun p => decide (0x11000000000 ≤ p.1)),
      cache := [], retired := retired, boot := { s.boot with failed := failed } }
    let s := (List.range 8).foldl (fun t k =>
      let up := b2n (!failed.contains k)
      ((t.setFld (R.TP_STATUS_TRAINED k) up).setFld (R.TP_STATUS_ONLINE k) up).setFld (R.TP_SPARES_USED k)
        (retired.filter (fun r => r.1 == k)).length) s
    let s := corrected.foldl (fun t a => let h := trapHome a.toNat; t.watchError 0 h.1 h.2 a.toNat) s
    let s := s.memoryFaults (failed ++ (if listOk then [] else [0xFFFF]))
    .next ((s.bootSay (stageEntry 3 us.toNat)).toStage 4)

/-- Registers of a tile window that S4 does not clear: those of the halt record (R508). -/
def keptHalt (t a : Nat) : Bool := [R.TA_SEQ t, R.TA_HALT0 t, R.TA_HALT1 t, R.TA_HALT2 t].contains a

/-- SELF_TEST_STAGE: S4, `us` µs long; tiles that fail: the step, and the offset of the first failing word (R508). -/
def execSelfTestStage (us : BitVec 32) (fails : List (Tile × BitVec 8 × BitVec 20)) (s : State) : Out :=
  if s.boot.stage ≠ 4 ∨ s.alive = false then .next s
  else
    let s : State := { s with
      mem := s.mem.filter (fun c => decide (c.1 < 0x11000000000 ∨ 0x11080000000 ≤ c.1)),
      poison := s.poison.filter (fun c => decide (c.1 < 0x11000000000 ∨ 0x11080000000 ≤ c.1)), tiles := [],
      regs := s.regs.filter (fun c => decide (c.1 < 0x11000000000 ∨ 0x11080000000 ≤ c.1)) }
    let s := fails.foldl (fun t f => (t.haltTile f.1 0x0A 0 0 0 0 0 (f.2.1.toNat + f.2.2.toNat * 2 ^ 32)).bootFault 0x0A) s
    let s : State := { s with tiles := [] }
    let s := (s.bootSay (stageEntry 4 us.toNat)).toStage 6
    .next (if s.boot.links || s.boot.linksLate then s else s.setFld R.BT_MODE_STAGE 5)

/-- S5 has ended or reached its bound: S6 starts if it waited for S5 alone (R506). -/
def State.linksOver (s : State) (b : BootX) : State :=
  let s := s.setBoot b
  if s.boot.stage = 6 ∧ s.fld R.BT_MODE_STAGE = 5 then (s.setBoot { s.boot with since := s.cycle }).setFld R.BT_MODE_STAGE 6 else s

/-- LINKS_STAGE: S5, which runs beside S3 and S4, ends after `us` µs when no fabric port trains any more (R506). -/
def execLinksStage (us : BitVec 32) (s : State) : Out :=
  if s.boot.stage < 3 ∨ s.boot.links = true ∨ s.alive = false ∨ (List.range 16).any (fun p => s.fld (R.FB_PORT_STATUS_STATE p) == 1) then .next s
  else .next ((s.bootSay (stageEntry 5 us.toNat)).linksOver { (s.bootSay (stageEntry 5 us.toNat)).boot with links := true })

/-- Session 0 opens as a HOST session with the peer prefix of the configuration (R404, R405, R408). -/
def State.openSession0 (s : State) (cfg : List Byte) : State :=
  let p := Config.sessPrefix cfg
  s.enableSession 0 0 (s.fld (R.FH_SESS_CFG_NOTIFY 0)) p.1.toNat (s.fld (R.FH_SESS_CFG_QP_MAX 0)) p.2.toNat

/-- A configuration is applied: its entries as writes by booth core 0, SALT and PWHASH, M3, session 0 (R552-R554). -/
def State.applyConfig (s : State) (c : Option ConfigCopy) (raw : List Byte) : State :=
  let s : State := match c with
    | none => s
    | some c =>
      let s : State := c.entries.foldl (fun (t : State) (e : Nat × Nat) => t.boothWrite e.1 (leBytes e.2 8)) s
      { s with sec := { s.sec with salt := c.salt, pwhash := c.pwhash } }
  ((s.measExtend 3 (sha512 raw)).openSession0 raw)

/-- R551 at the boot lock. -/
def State.raiseSvn (s : State) : State :=
  let m := s.sec.manifest (s.sec.slot.getD 0)
  let n := lNum m 0xC 4
  if bitOf (lNum m 0x10 4) 0 && decide (s.sec.svn < n) then
    let s : State := { s with sec := { s.sec with svn := n } }
    (s.setFld R.SC_SVN_FUSED n).event 0 0xEB (Config.openDetail 0xEB n).toNat
  else s

/-- The boot lock (R504, R510, R551, R554): the mode it sets. -/
def State.bootLock (s : State) (us : Nat) (test : Bool) : State :=
  let scope := s.fld R.SC_STATUS_SCOPE
  let mode := if s.boot.fault.isSome then 3 else if test && scope != 0 then 2 else 1
  let reason := s.boot.fault.getD 0
  let s := s.raiseSvn
  let s := if mode = 1 ∧ test then s.event 0 0xE6 (Config.openDetail 0xE6 0).toNat else s
  let s := s.measExtend 4 (sha512 (Config.measBytes [scope, mode]))
  let s := (s.setFld R.BT_MODE_MODE mode).setFld R.BT_MODE_REASON reason
  let s := (s.bootSay (stageEntry 6 us)).bootSay (bootEntry 0xF6 reason)
  let s := if s.bit R.MG_CTL_I2C_ONLY then s.setFld R.MG_STATUS_BUS 1 else s
  s.toStage 7

/-- CONFIGURATION_STAGE: S6, `us` µs long, once S4 has ended and S5 has ended or reached its bound; it ends in the boot lock (R506, R510,
R552, R553). A decommissioned part uses no copy (Table 18.2). A copy taken with an entry that fails gives way to the default. -/
def execConfigurationStage (us : BitVec 32) (s : State) : Out :=
  if s.boot.stage ≠ 6 ∨ (s.boot.links = false ∧ s.boot.linksLate = false) ∨ s.alive = false then .next s
  else
    let life := s.fld R.SC_STATUS_LIFECYCLE
    let best := if life = 4 then none else s.sec.bestConfig (if life = 3 then s.sec.ownerHash else none)
    match best.filter (fun p => p.2.entriesOk) with
    | some (i, c) =>
      let s : State := { s with sec := { s.sec with copy := some i } }
      .next ((s.applyConfig (some c) (c.body ++ c.sig)).bootLock us.toNat c.test)
    | none =>
      let raw := s.sec.defaultConfig (s.sec.slot.getD 0)
      let s := (s.bootSay (bootEntry 0xE3 (Config.openDetail 0xE3 0).toNat)).bootFault 0xE3
      let c := (configOf raw).filter (fun c => c.entriesOk)
      .next ((s.applyConfig c raw).bootLock us.toNat false)

/-- The bounds of Table 16.1 in stage cycles. -/
def stageBound (stage : Nat) : Nat := [50, 400, 20, 600, 300, 200, 30].getD stage 0 * 1500000

/-- The cycle a stage started in (R506). -/
def BootX.startOf (b : BootX) (stage : Nat) : Nat := if stage = 5 then b.linksSince else b.since

/-- STAGE_TIMEOUT: a stage that runs has reached its bound, once (R506): S0 and S1 stay where they are, S5 trains on, the others send the part
to recovery. -/
def execStageTimeout (stage : Fin 7) (s : State) : Out :=
  let runs := s.boot.stage == stage.val || (stage.val == 5 && decide (3 ≤ s.boot.stage) && decide (s.boot.stage ≤ 6) && !s.boot.links && !s.boot.linksLate)
  if !runs || !s.alive || s.boot.bounded.contains stage.val || decide (s.cycle < s.boot.startOf stage + stageBound stage) then .next s
  else
    let s := s.bootSay (bootEntry 0xF5 (Config.openDetail 0xF5 stage).toNat)
    let s := s.setBoot { s.boot with bounded := s.boot.bounded ++ [stage.val] }
    if stage.val = 0 then .next s
    else if stage.val = 1 then .next (((s.bootFault 0xF5).setFld R.BT_MODE_MODE 3).setFld R.BT_MODE_REASON 0xF5)
    else if stage.val = 5 then .next (s.linksOver { s.boot with linksLate := true })
    else .next (s.bootFault 0xF5)

end Sys2Proof.Machine
end

