-- ==== Sys2Proof/Machine/FabRows.lean ====
section
/-!
DEFINITION. Machine/FabRows.lean: the fabric rows after which the resilience engine may find its requests answered (R377, R476, R491),
and a flit as it arrives (R356, R359, R362, R363).
-/
namespace Sys2Proof.Machine

/-- After an outcome the resilience engine takes its answers. -/
def settleOut (o : Out) : Out :=
  match o with
  | .next s => .next s.resSettle
  | .fault f => .fault f
  | .refused r => .refused r

/-- READ_RESP: R375, R377. -/
def execReadResp (s : State) : Out := settleOut (readRespRow s)

/-- ACK: R375. -/
def execAck (p : Fin 16) (hi : Bool) (dst : BitVec 15) (recs : List AckRec) (s : State) : Out := settleOut (ackRow p hi dst recs s)

/-- RESP_TIMEOUT: R377. -/
def execRespTimeout (tag : BitVec 15) (s : State) : Out := settleOut (respTimeoutRow tag s)

/-- PORT_DISABLE: R355. -/
def execPortDisable (p : Fin 16) (s : State) : Out := settleOut (portDisableRow p s)

/-- RETRAIN: R364. -/
def execRetrain (p : Fin 16) (s : State) : Out := settleOut (retrainRow p s)

/-- RETRY: R363, R364. -/
def execRetry (p : Fin 16) (seq : BitVec 12) (s : State) : Out := settleOut (retryRow p seq s)

/-- LINK_IDLE_TIMEOUT: R364. -/
def execLinkIdleTimeout (p : Fin 16) (s : State) : Out := settleOut (linkIdleTimeoutRow p s)

/-- A seat of the set that has become unreachable while FENCE.F waits is reported lost, and the step will be discarded
(R32, R379). -/
def State.fenceLost (s : State) (t : Nat) (k : FenceKind) (ord : Nat) : State :=
  match k with
  | .f set =>
    if (s.fenceSeats t set.val ord).all (fun q => s.isLost q) then s
    else if (s.fenceGone set.val).isEmpty then s
    else { (s.fenceGone set.val).foldl (fun u q => u.loseSeat q) s with discardFlag := true }
  | _ => s

/-- FENCE_COMPLETE: R142. The fence that holds the tile's next issue completes if what it waits for has come about. -/
def execFenceComplete (t : Tile) (s : State) : Out :=
  let x := s.tile t
  match (if s.inHandler t then x.fenceH else x.fence) with
  | none => .next s
  | some (k, ord) =>
    if s.fenceDone t k ord then
      let s := s.fenceLost t k ord
      let x := s.tile t
      let s := s.setTile t (if s.inHandler t then { x with fenceH := none, cutH := false } else { x with fence := none, cutF := false })
      .next (if s.fld (R.TA_SEQ_STATE t) = seqHeld then s.setFld (R.TA_SEQ_STATE t) seqIssuing else s)
    else .next s

/-- A control message that port `p` has accepted at level `hi` acts (Table 12.4): a link message here, a routed one at its seat or on
its way, a flood one here and onward. `hop` and `peer` are as in CUE and SEAT_LOST. -/
def State.ctlAct (s : State) (p : Fin 16) (hi : Bool) (hop : Nat) (peer : List (List (BitVec 16))) (m : Ctl) : Out :=
  match m with
  | .cue n master delay retried => .next (s.cueIn (some p) n master delay hop retried)
  | .stepComplete dst sender step discard =>
    .next (if dst = s.mySeat then s.completeIn sender step discard else s.ctlForward p hi dst m)
  | .announce k step => .next ((s.floodFrom p m).announceIn k step)
  | .drained dst sender k discard => .next (if dst = s.mySeat then s.drainedIn sender k discard else s.ctlForward p hi dst m)
  | .verdict k publish => .next ((s.floodFrom p m).verdictIn k publish)
  | .ack dst recs => .next (s.ackIn p hi dst recs).resSettle
  | .tickets vcs lo hi' => .next (s.ticketsIn p vcs lo hi')
  | .retry n => .next (s.retryIn p (n % 4096)).resSettle
  | .idle => .next s
  | .probe => .next s
  | .seatLost seat stamp => execSeatLost (some p) (BitVec.ofNat 15 seat) (BitVec.ofNat 32 stamp) peer s

/-- Does a control message move one hop only (Table 12.4)? -/
def ctlIsLink : Ctl → Bool
  | .tickets _ _ _ => true | .retry _ => true | .idle => true | .probe => true
  | _ => false

/-- What a message has done, and its buffer at the port it came by: free, unless it waits to go on (R360). -/
def ctlSettled (p : Nat) (hi : Bool) (m : Ctl) (o : Out) : Out :=
  match o with
  | .next s => .next (if ctlIsLink m then s else s.ctlTaken p hi m)
  | .fault f => .fault f
  | .refused r => .refused r

/-- FLIT_RECEIVE: a flit arrives on port `p` after FEC (R356, R362, R363): counted, checked, and taken or discarded; a control message
it brings acts at once, a class flit joins its packet. -/
def execFlitReceive (p : Fin 16) (f : WireFlit) (fecCorr fecUncorr : Nat) (hi : Bool) (hop : BitVec 32) (peer : List (List (BitVec 16)))
    (s : State) : Out :=
  if !s.portUp p then .next s
  else
    let r := s.flitIn p (readFlit s.cueMaster f) fecCorr fecUncorr
    match r.2 with
    | none => .next r.1
    | some m => ctlSettled p hi m (r.1.ctlAct p hi hop.toNat peer m)

end Sys2Proof.Machine
end

