-- ==== Sys2Proof/Machine/Power.lean ====
section
/-!
DEFINITION. Machine/Power.lean: input thresholds, power failure, rails, the governor, capping, clocks and heat (R525-R544). Voltages
are in 10 mV.
-/
namespace Sys2Proof.Machine

def State.setPower (s : State) (x : PowerX) : State := { s with power := x }

/-- A power or thermal code: a promptbook entry, an EVENT entry, 32 points (R464, R544). DETAIL is the domain for CLK_UNLOCK (R539);
the places of the others' values are not given. -/
def State.powerEvent (s : State) (code about : Nat) : State :=
  (s.hostEvent 0 code (if code = 0xC6 then about else (Config.openDetail code about).toNat)).health 32

/-- The warning band of an input voltage (Table 17.1). -/
def vinBand (v : Nat) : Nat := if 4600 ≤ v ∧ v < 4800 then 1 else if 5400 < v ∧ v ≤ 5800 then 2 else 0

/-- VIN_BAND_CHANGE: R525; in the sequence of a power failure nothing is raised (R536). -/
def execVinBandChange (vin : BitVec 16) (s : State) : Out :=
  let s := s.setFld R.PW_STATUS_VIN vin.toNat
  let b := vinBand vin.toNat
  let old := s.power.band
  let s := s.setPower { s.power with band := b }
  .next (if b = old ∨ b = 0 ∨ s.power.phase ≠ .none then s else s.powerEvent (0xC0 + b) vin.toNat)

/-- POWER_FAIL: VIN has fallen through 40.0 V or risen above 60.0 V (R525, R536); with the rails off already, a fall ends what a
hub trip latched (R541). -/
def execPowerFail (vin vbank : BitVec 16) (s : State) : Out :=
  let v := vin.toNat
  if 4000 ≤ v ∧ v ≤ 6000 then .next s
  else
    match s.power.phase with
    | .none =>
      let s := (s.setFld R.PW_STATUS_VIN v).setFld R.PW_STATUS_VBANK vbank.toNat
      .next (s.setPower { s.power with phase := .crossed, failAt := s.cycle, failVin := v, failBank := vbank.toNat })
    | .off => .next (if v < 4000 then s.setPower { s.power with latched := false } else s)
    | _ => .next s

/-- Everything that moves by itself stops: issue, trap engines, data movers, collectives (R513, Table 17.3). -/
def State.stopEngines (s : State) : State :=
  let s := s.setFld R.PW_HOLD_DUTY 16
  let s := (List.range 8).foldl (fun t k => t.setTe k { t.teStack k with trigQ := [], boothQ := [], resilQ := [], running := [] }) s
  let s : State := { s with fab := { s.fab with runs := [], ceQ0 := [], ceQ1 := [] } }
  (s.tiles.map Prod.fst).foldl (fun t i => t.setTile i { t.tile i with xfers := [], globals := [] }) s

/-- Every fabric and front-of-house link drops. -/
def State.dropLinks (s : State) : State :=
  let s := (List.range 16).foldl (fun t p => if t.portUp p then (t.setFld (R.FB_PORT_STATUS_STATE p) 0).linkDrop p else t) s
  (List.range 4).foldl (fun t p => if t.bit (R.FH_PORT_STATUS_UP p) then t.fhDown p else t) s

/-- POWER_FAIL_STAGE_STOP: the 10 µs row of Table 17.3. -/
def execPowerFailStageStop (s : State) : Out :=
  if s.power.phase = .crossed then
    let s := s.stopEngines.dropLinks
    .next (s.setPower { s.power with phase := .stopped })
  else .next s

/-- Wings, trap and tile contents are lost; what lies in the hub stays (Table 17.3). -/
def State.loseStores (s : State) : State :=
  { s with
    mem := s.mem.filter (fun c => decide (0x12000000000 ≤ c.1)), poison := [], tiles := [], te := [], cache := [], dc := [], dcQueue := [],
    rig := RigState.init, passRanges := [], won := [] }

/-- POWER_FAIL_RAILS_OFF: the 100 µs row; before S2 has started the flash controller, or with RST_L low, hold-up writes nothing and
every rail goes off (R536, R537, R574). A store copy or scene change under way is abandoned. -/
def execPowerFailRailsOff (s : State) : Out :=
  if s.power.phase ≠ .stopped then .next s
  else
    let s := s.loseStores
    let s : State := { s with scene := { s.scene with change := none }, res := { s.res with storing := false, storeDue := false } }
    let quiet := !s.pb.started || s.boot.rstLow
    .next (s.setPower { s.power with phase := if quiet then .off else .writing })

/-- The tail hold-up writes: the newest 8192 entries, then POWER_FAIL with `us` (R522, R536). -/
def State.failTail (s : State) (us : Nat) : List PbRec :=
  let last := s.fld R.BT_PB_STATUS_LAST
  let oldest := s.fld R.BT_PB_STATUS_OLDEST
  let n := if oldest = 0 then 0 else min 8192 (sub32 last oldest + 1)
  let l := (List.range n).map (fun i => smapGet PbRec.zero s.pb.ring (sub32 (last + 1 + i) n % 2 ^ 21))
  l ++ [⟨s.cue, s.timeNs, 0, s.pbCls pbPowerFail, 0xC0, s.pb.seq,
    s.power.failVin * 2 ^ 48 + s.power.failBank * 2 ^ 32 + us % 2 ^ 32⟩]

/-- HOLDUP_WRITE_END: at 18 ms what is written whole is durable: the tail, if `tail` says so, its last entry written `us` after
the crossing; the commit record of an image whose data was durable, if `record` does; the rest is abandoned (R522, R536, R537). -/
def execHoldupWriteEnd (tail record : Bool) (us : BitVec 32) (s : State) : Out :=
  if s.power.phase ≠ .writing ∨ s.cycle < s.power.failAt + 27000000 then .next s
  else
    let s := match s.res.flashWriting with
      | some f => if record then s.flashDurable f else s.setRes { s.res with flashWriting := none }
      | none => s
    let s : State := if tail then { s with pb := { s.pb with tail := some (s.failTail us.toNat), tailBoots := 0, tailSum := tailDigest (s.failTail us.toNat) } } else s
    .next (s.setPower { s.power with phase := .written })

/-- HOLDUP_END, 20 ms after the crossing: every rail off; with VIN above 44.0 V the part starts cold, unless a hub trip keeps it off (R536, R541). -/
def execHoldupEnd (vin : BitVec 16) (s : State) : Out :=
  match s.power.phase with
  | .none | .crossed | .stopped | .writing => .next s
  | .written | .off =>
    if s.power.phase = .written ∧ s.cycle < s.power.failAt + 30000000 then .next s
    else if 4400 < vin.toNat ∧ s.power.latched = false then .next ((s.restart 1 0).setFld R.PW_STATUS_VIN vin.toNat)
    else .next (s.setPower { s.power with phase := .off })

/-- POWER_ON: VIN rises through 44.0 V with the rails off (R525, R511). -/
def execPowerOn (vin : BitVec 16) (s : State) : Out :=
  if s.power.phase = .off ∧ s.power.latched = false then .next ((s.restart 1 0).setFld R.PW_STATUS_VIN vin.toNat) else .next s

/-- A trip of the hub or an I/O die: Table 17.3 from its 10 µs row, then off (R541). -/
def State.tripHub (s : State) (die : Nat) : State :=
  let s := s.powerEvent 0xCA die
  if s.power.phase = .none then
    s.setPower { s.power with
      phase := .crossed, failAt := s.cycle, failVin := s.fld R.PW_STATUS_VIN, failBank := s.fld R.PW_STATUS_VBANK, latched := true }
  else s.setPower { s.power with latched := true }

/-- Every compute die trips. -/
def State.tripAll (s : State) : State := (List.range 8).foldl (fun t d => t.tripDie d) s

def railCode : Rail → Nat
  | .bank => 0 | .core d => 0x10 + d | .wing d => 0x20 + d | .stack k => 0x30 + k | .io i => 0x40 + i
  | .hub => 0x50 | .nand => 0x60 | .nor => 0x70

/-- RAIL_FAULT: handled as a trip of the die the rail feeds (R527); a wings die or a stack belongs to its compute die. Rails that feed
no die only raise the code. -/
def execRailFault (r : Rail) (s : State) : Out :=
  if !s.alive then .next s
  else
  let s := s.powerEvent 0xC5 (railCode r)
  match r with
  | .core d => .next (s.tripDie d)
  | .wing d => .next (s.tripDie d)
  | .stack k => .next (((s.setFld (R.TP_STATUS_STOPPED k) 1).setFld (R.TP_STATUS_ONLINE k) 0).tripDie k)
  | .io i => .next (s.tripHub (9 + i))
  | .hub => .next (s.tripHub 8)
  | .bank | .nand | .nor => .next s

/-- CLK_UNLOCK: R539; `ports` are the fabric or front-of-house ports of a lost domain 7 to 10. -/
def execClkUnlock (domain : Fin 19) (ports : BitVec 16) (s : State) : Out :=
  let n := domain.val
  if n = 0 ∨ s.alive = false then .next s
  else
    let s := s.powerEvent 0xC6 n
    if n ≤ 6 ∨ n = 16 then .next s.tripAll
    else if n ≤ 8 then
      .next ((List.range 16).foldl (fun t p => if bitOf ports.toNat p ∧ t.portUp p then t.portTo p 1 else t) s).resSettle
    else if n ≤ 10 then
      .next ((List.range 4).foldl (fun t p => if bitOf ports.toNat p ∧ t.bit (R.FH_PORT_STATUS_UP p) then t.fhDown p else t) s)
    else .next (s.restart 2 0)

/-- GOVERNOR_FILL: a die's measured draw, in 840ths of a W: above the held level it is the new level; below it fill runs on the die's
tiles, which then are not at rest (R530, R531). Fill touches no store, flag or counter. -/
def execGovernorFill (die : Fin 8) (draw : BitVec 32) (s : State) : Out :=
  let x := s.power
  let level := x.levels.getD die 0
  if level ≤ draw.toNat then
    .next (s.setPower { x with levels := x.levels.set die draw.toNat, rises := x.rises.set die s.cue })
  else
    .next ((List.range 256).foldl (fun t i =>
      let n := 256 * die.val + i
      t.setTile n { t.tile n with lastIssue := t.active }) s)

/-- FILL_DECAY: one µs of decay: 8 W over the dies whose level has not risen for FILL_HOLD cues (R530);
one a µs. -/
def execFillDecay (s : State) : Out :=
  let x := s.power
  if s.cycle < x.fillAt + 1500 then .next s
  else
  let down := (List.range 8).filter (fun d => x.levels.getD d 0 != 0 && decide (x.rises.getD d 0 + s.fld R.PW_GOV_FILL_HOLD ≤ s.cue))
  let each := 8 * 840 / max 1 down.length
  .next (s.setPower { x with fillAt := s.cycle, levels := x.levels.zipIdx.map (fun p => if down.contains p.2 then p.1 - each else p.1) })

/-- Tiles of a die pair that wait for a start grant, ascending. -/
def State.waitingOf (s : State) (pair : Nat) : List Nat :=
  ((List.range 256).map (fun i => 256 * pair + i) ++ (List.range 256).map (fun i => 256 * (pair + 4) + i)).filter
    (fun t => (s.tile t).waitGrant)

/-- START_GRANT: at most 512 first issues in each 50 µs, one die pair a grant, round-robin (R531). -/
def execStartGrant (s : State) : Out :=
  let x := s.power
  let fresh := match x.govAt with | none => true | some c => decide (c + 75000 ≤ s.cycle)
  let x := if fresh then { x with govAt := some s.cycle, granted := 0 } else x
  match roundRobin 4 x.govPtr (fun p => !(s.waitingOf p).isEmpty) with
  | none => .next (s.setPower x)
  | some p =>
    let l := (s.waitingOf p).take (512 - x.granted)
    if l.isEmpty then .next (s.setPower x)
    else
      let s := s.setPower { x with granted := x.granted + l.length, govPtr := (p + 1) % 4 }
      .next (l.foldl (fun t i => t.setTile i { t.tile i with waitGrant := false, issueAt := t.active }) s)

/-- The demand of the thermal steps (Table 17.5). -/
def State.thermDemand (s : State) : Nat := (List.range 11).foldl (fun m d => max m (4 * min 3 (s.fld (R.PW_THERM_STEP d)))) 0

/-- The largest demand of any source (R533). -/
def State.dutyDemand (s : State) : Nat :=
  if s.bit R.PW_HOLD_TRIP then 16 else max (max s.power.capDemand s.power.coolDemand) s.thermDemand

/-- PW_HOLD shows the sources that demand holds. -/
def State.showHold (s : State) : State :=
  ((s.setFld R.PW_HOLD_CAP (b2n (decide (s.power.capDemand ≠ 0)))).setFld R.PW_HOLD_COOLANT
    (b2n (decide (s.power.coolDemand ≠ 0)))).setFld R.PW_HOLD_THERM (b2n (decide (s.thermDemand ≠ 0)))

/-- DUTY_STEP: one step toward the largest demand, 10 µs after the last (R534). -/
def execDutyStep (s : State) : Out :=
  let d := s.fld R.PW_HOLD_DUTY
  let m := s.dutyDemand
  .next (if s.power.phase ≠ .none ∨ s.cycle < s.power.dutyAt + 15000 then s
    else (s.setPower { s.power with dutyAt := s.cycle }).setFld R.PW_HOLD_DUTY (if d < m then d + 1 else if m < d then d - 1 else d))

/-- The rule of R535 for a limit: the new demand. -/
def capRule (watts limit duty old : Nat) : Nat :=
  if limit < watts then min 16 (duty + 1) else if watts + 100 ≤ limit then min old (duty - 1) else old

/-- CAP_EVALUATE: the input power averaged over 1 ms, for the cap and for a standing coolant alarm (R535, R543). -/
def execCapEvaluate (watts : BitVec 16) (s : State) : Out :=
  let s := s.setFld R.PW_STATUS_POWER watts.toNat
  let d := s.fld R.PW_HOLD_DUTY
  let x := s.power
  let new := capRule watts.toNat (s.fld R.PW_CAP_WATTS) d x.capDemand
  let cool := if x.coolAlarm then capRule watts.toNat 2000 d x.coolDemand else 0
  let s := (s.setPower { x with capDemand := new, coolDemand := cool }).showHold
  .next (if x.capDemand = 0 ∧ new ≠ 0 then s.powerEvent 0xC3 watts.toNat else s)

/-- Entry temperatures of Table 17.5. -/
def dieEntry (hub : Bool) (step : Nat) : Nat := 90 + 5 * step + (if hub then 5 else 0)

/-- THERMAL_SAMPLE: R540-R542; die 0 to 7 compute, 8 the hub, 9 and 10 the I/O dies, 11 the hottest NAND die. -/
def execThermalSample (d : Fin 12) (temp : BitVec 8) (s : State) : Out :=
  let t := temp.toNat
  let s := s.setFld (R.PW_THERM_TEMP d) t
  if d.val = 11 then .next (s.setFld (R.PW_THERM_STEP 11) (if 90 < t then 2 else if 80 < t then 1 else 0))
  else
    let cur := s.fld (R.PW_THERM_STEP d)
    let new := nextStep (dieEntry (decide (8 ≤ d.val))) 4 cur t
    if new = cur then .next s
    else
      let s := ((s.setFld (R.PW_THERM_STEP d) new).showHold).powerEvent 0xC8 (d.val * 2 ^ 24 + cur * 2 ^ 16 + new * 2 ^ 8 + t)
      let s := if new = 3 ∧ cur < 3 then s.powerEvent 0xC9 d else s
      .next (if new = 4 then (if d.val < 8 then s.tripDie d else s.tripHub d) else s)

/-- COOLANT_SAMPLE: R543. A second is 1.5 × 10⁹ stage cycles. -/
def execCoolantSample (inlet outlet : BitVec 8) (s : State) : Out :=
  let i := inlet.toNat
  let o := outlet.toNat
  let s := (s.setFld R.PW_COOLANT_INLET i).setFld R.PW_COOLANT_OUTLET o
  let bad := decide (50 < i) || decide (i + 20 < o)
  let x := s.power
  let s :=
    if bad then
      let s := s.setPower { x with coolAlarm := true, coolAt := s.cycle }
      if x.coolAlarm then s else s.powerEvent 0xCB (o * 256 + i)
    else if x.coolAlarm && decide (x.coolAt + 1500000000 ≤ s.cycle) then
      (s.setPower { x with coolAlarm := false, coolDemand := 0 }).showHold
    else s
  .next (if 60 < i then s.tripAll else s)

end Sys2Proof.Machine
end

