-- ==== Sys2Proof/Machine/Security.lean ====
section
/-!
DEFINITION. Machine/Security.lean: the vendor messages of Table 18.8 (R554-R564): attestation, debug unlock, ownership, the management
reset. Each takes the bytes of the request after its command byte.
-/
namespace Sys2Proof.Machine

/-- Does a waiting message raise an in-band interrupt: an I3C target that holds an address (R562)? -/
def State.inBand (s : State) : Bool := !s.bit R.MG_STATUS_BUS && s.fld R.MG_STATUS_DYN_ADDR != 0

/-- A response of the management block. -/
def State.respond (s : State) (code : Nat) (body : List Byte) : Out := .next (s.send (.mgmt s.inBand code body))

/-- Does the management block run (R526, R564)? -/
def State.mgmtUp (s : State) : Bool := s.alive && decide (1 ≤ s.boot.stage)

/-- A vendor message with a request of a stated length: in S1 none is answered; a wrong length is completion 0x02 (R563, R564). -/
def State.vendor (s : State) (req : List Byte) (n : Nat) (f : State → Out) : Out :=
  if !s.mgmtUp || s.boot.stage == 1 then .next s
  else if req.length ≠ n then s.respond 0x02 []
  else f s

/-- An entry of a security code (R567). -/
def State.secEvent (s : State) (code about : Nat) : State :=
  s.bootSay ⟨0, 0, pbEvent, code, (Config.openDetail code about).toNat, false, false⟩

def State.life (s : State) : Nat := s.fld R.SC_STATUS_LIFECYCLE

/-- Bytes 0x000 to 0x27F of the report (Table 18.6). -/
def State.reportBody (s : State) (nonce : List Byte) : List Byte :=
  let owner := s.fld R.SC_STATUS_OWNER_SLOT
  [(0x41545352, 4), (1, 2), (0x0480, 2), ((s.reg R.SC_SERIAL).toNat, 8)].flatMap (fun p => leBytes p.1 p.2) ++ nonce
    ++ [(s.cue, 8), (s.life, 1), (s.modeCode, 1), (s.fld R.SC_STATUS_SCOPE, 1), (s.fld R.SC_STATUS_SLOT, 1),
      (s.fld R.SC_STATUS_ROOT_SLOT, 1), (if owner = 15 then 255 else owner, 1), (0, 2), (s.fld R.SC_STATUS_FW_VERSION, 4),
      (s.fld R.SC_SVN_MANIFEST, 4), (s.fld R.SC_SVN_FUSED, 4), (s.fld R.TA_LAT_VER_VERSION, 4), (0, 48)].flatMap
        (fun p => leBytes p.1 p.2)
    ++ (List.range 8).flatMap (fun i => s.meas i)

/-- GET_REPORT: R556; before S1 has ended it is refused (R564). -/
def execGetReport (nonce : List Byte) (s : State) : Out :=
  if !s.mgmtUp then .next s
  else if nonce.length ≠ 32 then s.respond 0x02 []
  else if s.boot.stage = 1 then s.respond 0x03 []
  else
    let b := s.reportBody nonce
    (s.usedFree 1).respond 0 (b ++ beBytes (Config.idSign s.free b).toNat 512)

/-- GET_CERT: the bytes asked for, as far as the chain goes (R555). -/
def execGetCert (req : List Byte) (s : State) : Out :=
  s.vendor req 4 (fun s => s.respond 0 ((Config.certChain.drop (lNum req 0 2)).take (lNum req 2 2)))

/-- A nonce of 32 random bytes. -/
def State.nonce32 (s : State) : List Byte := (Config.freeBytes s.free 32 ++ List.replicate 32 0).take 32

/-- May this scope be challenged in this life cycle (Table 18.7, R561)? -/
def scopeOpen (scope life : Nat) : Bool := (scope == 1 || scope == 2) && (life == 2 || life == 3)

/-- CHALLENGE: R558, R560. -/
def execChallenge (req : List Byte) (s : State) : Out :=
  s.vendor req 1 (fun s =>
    let scope := lNum req 0 1
    if s.fld R.SC_STATUS_FAILS = 8 then (s.secEvent 0xEC 0).respond 0x04 []
    else if scope ≠ 1 ∧ scope ≠ 2 then s.respond 0x01 []
    else if !scopeOpen scope s.life then s.respond 0x03 []
    else
      let n := s.nonce32
      let rec64 := (Config.challengeRecord [s.sec.serial, scope, s.life] n ++ List.replicate 64 0).take 64
      let s := s.usedFree 1
      ({ s with sec := { s.sec with challenge := some ⟨scope, n, rec64, s.cycle⟩ } } : State).respond 0 rec64)

/-- 60 s in stage cycles. -/
def challengeLife : Nat := 90000000000

def State.noChallenge (s : State) : State := { s with sec := { s.sec with challenge := none } }

/-- CHALLENGE_EXPIRY: R558. -/
def execChallengeExpiry (s : State) : Out :=
  match s.sec.challenge with
  | some c => .next (if c.made + challengeLife ≤ s.cycle then s.noChallenge else s)
  | none => .next s

/-- The challenge outstanding now. -/
def State.challenge? (s : State) : Option Challenge := s.sec.challenge.filter (fun c => decide (s.cycle < c.made + challengeLife))

/-- Does the newest owner's key verify a signature? -/
def SecX.ownerSigned (x : SecX) (m sig : List Byte) : Bool :=
  match x.ownerHash with
  | some h => signedBy h m sig
  | none => false

/-- Does an unrevoked ROOT key? -/
def SecX.rootSigned (x : SecX) (m sig : List Byte) : Bool :=
  (List.range 4).any (fun r => !bitOf x.rootRevoked r && (match x.roots.getD r none with | some h => signedBy h m sig | none => false))

/-- Do the signatures open a scope in a life cycle (Table 18.7)? -/
def SecX.opens (x : SecX) (scope life : Nat) (m : List Byte) (sigs : List (List Byte)) : Bool :=
  if scope = 1 then life == 3 && sigs.any (fun g => x.ownerSigned m g)
  else sigs.any (fun g => x.rootSigned m g) && (life == 2 || (life == 3 && sigs.any (fun g => x.ownerSigned m g)))

/-- An UNLOCK succeeds for a challenge (R558, R559): `data` follows the kind byte. -/
def SecX.unlocks (x : SecX) (life : Nat) (c : Challenge) (kind : Nat) (data : List Byte) : Bool :=
  if kind = 1 then
    c.scope == 1 && life == 3 && x.pwhash.any (fun b => b != 0) && data == sha512 (c.nonce ++ x.pwhash)
  else x.opens c.scope life (sha512 c.record) [data.take 512, data.drop 512]

/-- UNLOCK: R558-R561. -/
def execUnlock (req : List Byte) (s : State) : Out :=
  let kind := lNum req 0 1
  let len := req.length
  let ok := (kind == 1 && len == 65) || (kind == 0 && (len == 513 || len == 1025)) || (decide (2 ≤ kind) && len != 0)
  s.vendor req (if ok then len else len + 1) (fun s =>
    match s.challenge? with
    | none => s.respond 0x03 []
    | some c =>
      if s.life = 2 ∧ c.scope = 1 then s.respond 0x03 []
      else if 2 ≤ kind then s.respond 0x01 []
      else if s.sec.unlocks s.life c kind (req.drop 1) then
        let s : State := { s with sec := { s.sec with pend := some c.scope } }
        ((s.setFld R.SC_STATUS_PENDING 1).secEvent 0xE4 c.scope).respond 0 []
      else (((s.noChallenge).addFld R.SC_STATUS_FAILS (if s.fld R.SC_STATUS_FAILS < 8 then 1 else 0)).secEvent 0xE5 c.scope).respond 0x01 [])

/-- CLOSE: R558. -/
def execClose (req : List Byte) (s : State) : Out :=
  s.vendor req 0 (fun s =>
    let s : State := { s with sec := { s.sec with pend := none } }
    ((s.setFld R.SC_STATUS_SCOPE 0).setFld R.SC_STATUS_PENDING 0).respond 0 [])

/-- What a CLAIM, ROTATE or DECOMMISSION signs (R561). -/
def SecX.claimData (x : SecX) (c : Challenge) : List Byte := sha512 (leBytes x.serial 8 ++ c.nonce)

/-- An ownership message: it needs a life cycle and an OWNER challenge, which it consumes. -/
def State.owning (s : State) (life : Nat) (ok : Challenge → Bool) (f : State → State) : Out :=
  if s.life ≠ life then s.respond 0x03 []
  else
    match s.challenge? with
    | none => s.respond 0x03 []
    | some c =>
      if c.scope ≠ 1 then s.respond 0x03 []
      else if !ok c then s.noChallenge.respond 0x01 []
      else ((f s.noChallenge).secEvent 0xE7 0).respond 0 []

/-- CLAIM: R561. -/
def execClaim (req : List Byte) (s : State) : Out :=
  s.vendor req 1028 (fun s =>
    let key := req.take 516
    s.owning 2 (fun c => (s.sec.owners.getD 0 none).isNone && pssVerify key (s.sec.claimData c) (req.drop 516))
      (fun t => { t with sec := { t.sec with owners := t.sec.owners.set 0 (some (sha512 key)) } }))

/-- The next owner slot never programmed. -/
def SecX.freeOwner (x : SecX) : Option Nat := (List.range 4).find? (fun r => (x.owners.getD r none).isNone)

/-- ROTATE: R561. -/
def execRotate (req : List Byte) (s : State) : Out :=
  s.vendor req 1028 (fun s =>
    s.owning 3 (fun c => s.sec.freeOwner.isSome && s.sec.ownerSigned (s.sec.claimData c) (req.drop 516))
      (fun t =>
        let old := t.sec.newestOwner.getD 0
        { t with sec := { t.sec with
          owners := t.sec.owners.set (t.sec.freeOwner.getD 0) (some (sha512 (req.take 516))),
          ownerRevoked := putBits t.sec.ownerRevoked old old 1 } }))

/-- DECOMMISSION: every owner slot is revoked; both configuration copies and the checkpoint flash, its metadata with it, are erased
(R561). -/
def execDecommission (req : List Byte) (s : State) : Out :=
  s.vendor req 512 (fun s =>
    s.owning 3 (fun c => s.sec.ownerSigned (s.sec.claimData c) req)
      (fun t =>
        let t : State := { t with
          sec := { (t.sec.norErase (norConfig 0) 0x200000) with ownerRevoked := 15 },
          res := { t.res with flash := (none, none), flashWriting := none }, boot := { t.boot with retired := [] },
          pb := { t.pb with tail := none, tailBoots := 0, tailSum := [] } }
        (t.setReg (R.RS_FLASH 0) 0).setReg (R.RS_FLASH 1) 0))

/-- RESET: R564; a warm reset that waits already takes it in (R512). -/
def execReset (req : List Byte) (s : State) : Out :=
  s.vendor req 0 (fun s =>
    if !s.bit R.MG_CTL_RESET_EN then s.respond 0x01 []
    else (s.askWarm 4 4).respond 0 [])

end Sys2Proof.Machine
end

