-- ==== Sys2Proof/Machine/Mgmt.lean ====
section
/-!
DEFINITION. Machine/Mgmt.lean: the management bus, MCTP control, PLDM and the firmware update (R562-R566). What the manual leaves to
DSP0236, DSP0240, DSP0248 and DSP0267 is `Config.answer`.
-/
namespace Sys2Proof.Machine

def State.setMgmt (s : State) (x : MgmtX) : State := { s with mgmt := x }

/-- A message of types 0x00 and 0x01: answered from S1 on (R564). -/
def State.mctp (s : State) (f : State → Out) : Out := if s.mgmtUp then f s else .next s

/-- The I3C address is taken: the block is an I3C target (R562). -/
def State.takeAddr (s : State) (a : Nat) : State :=
  if s.bit R.MG_STATUS_BUS || s.bit R.MG_CTL_I2C_ONLY || s.fld R.MG_STATUS_DYN_ADDR != 0 then s
  else (s.setMgmt { s.mgmt with addressed := true }).setFld R.MG_STATUS_DYN_ADDR a

/-- ENTDAA: R562. -/
def execEntdaa (addr : BitVec 7) (s : State) : Out := s.mctp (fun s => .next (s.takeAddr addr.toNat))

/-- SETDASA: R562. -/
def execSetdasa (s : State) : Out := s.mctp (fun s => .next (s.takeAddr (s.fld R.MG_CTL_STATIC_ADDR)))

/-- SET_ENDPOINT_ID: EIDs 0x00 and 0xFF are no endpoint's. -/
def execSetEndpointId (eid : BitVec 8) (s : State) : Out :=
  s.mctp (fun s =>
    if eid.toNat = 0 ∨ eid.toNat = 255 then s.respond 0x02 []
    else (s.setFld R.MG_STATUS_EID eid.toNat).respond 0 (Config.answer 0x01 [eid.toNat]))

/-- GET_ENDPOINT_ID. -/
def execGetEndpointId (s : State) : Out := s.mctp (fun s => s.respond 0 (leBytes (s.fld R.MG_STATUS_EID) 1 ++ Config.answer 0x02 []))

/-- GET_ENDPOINT_UUID. -/
def execGetEndpointUuid (s : State) : Out := s.mctp (fun s => s.respond 0 (beBytes Config.uuid.toNat 16))

/-- GET_MCTP_VERSION_SUPPORT. -/
def execGetMctpVersionSupport (type : BitVec 8) (s : State) : Out := s.mctp (fun s => s.respond 0 (Config.answer 0x04 [type.toNat]))

/-- GET_MESSAGE_TYPE_SUPPORT: three types (R563). -/
def execGetMessageTypeSupport (s : State) : Out := s.mctp (fun s => s.respond 0 [3, 0x00, 0x01, 0x7F])

/-- GET_TID. -/
def execGetTid (s : State) : Out := s.mctp (fun s => s.respond 0 (leBytes s.mgmt.tid 1))

/-- SET_TID. -/
def execSetTid (tid : BitVec 8) (s : State) : Out := s.mctp (fun s => (s.setMgmt { s.mgmt with tid := tid.toNat }).respond 0 [])

/-- GET_PLDM_VERSION. -/
def execGetPldmVersion (type : BitVec 8) (s : State) : Out := s.mctp (fun s => s.respond 0 (Config.answer 0x13 [type.toNat]))

/-- GET_PLDM_TYPES: types 0, 2 and 5 (R565). -/
def execGetPldmTypes (s : State) : Out := s.mctp (fun s => s.respond 0 (leBytes (2 ^ 0 + 2 ^ 2 + 2 ^ 5) 8))

/-- GET_PLDM_COMMANDS. -/
def execGetPldmCommands (type : BitVec 8) (version : BitVec 32) (s : State) : Out :=
  s.mctp (fun s => s.respond 0 (Config.answer 0x15 [type.toNat, version.toNat]))

/-- GET_PDR. -/
def execGetPdr (record : BitVec 32) (s : State) : Out := s.mctp (fun s => s.respond 0 (Config.answer 0x51 [record.toNat]))

/-- The sensors of Table 18.9. -/
def sensorIds : List Nat :=
  [1, 2, 3] ++ (List.range 11).map (0x10 + ·) ++ (List.range 9).map (0x20 + ·) ++ [0x30, 0x31, 0x40, 0x41, 0x50, 0x51, 0x60, 0x61]

/-- What a sensor reads now (Table 18.9). -/
def State.sensor (s : State) (id : Nat) : Nat :=
  if id = 1 then s.fld R.PW_STATUS_VIN
  else if id = 2 then s.fld R.PW_STATUS_POWER
  else if id = 3 then s.fld R.PW_STATUS_VBANK
  else if id < 0x1B then s.fld (R.PW_THERM_TEMP (id - 0x10))
  else if id < 0x28 then s.fld (R.TP_STATUS_TEMP (id - 0x20))
  else if id = 0x28 then s.fld (R.PW_THERM_TEMP 11)
  else if id = 0x30 then s.fld R.PW_COOLANT_INLET
  else if id = 0x31 then s.fld R.PW_COOLANT_OUTLET
  else if id = 0x40 then s.fld R.PW_HOLD_DUTY
  else if id = 0x41 then s.fld R.RS_RISK_ESTIMATE
  else if id = 0x50 then s.boot.s0 / 1000
  else if id = 0x51 then s.boot.s1 / 1000
  else if id = 0x60 then s.modeCode
  else s.life

/-- Upper warning and critical thresholds of a die's sensor: entries of step 1 and of the trip step (R565). -/
def sensorLimits (id : Nat) : List Nat :=
  if 0x10 ≤ id ∧ id < 0x1B then [dieEntry (decide (0x18 ≤ id)) 1, dieEntry (decide (0x18 ≤ id)) 4]
  else if 0x20 ≤ id ∧ id < 0x28 then [stackEntry 1, stackEntry 5]
  else []

/-- Is a new reading an event: a threshold crossed, a state changed? -/
def sensorEvent (id : Nat) (old : Option Nat) (new : Nat) : Bool :=
  if 0x60 ≤ id then old.isSome && old != some new
  else (sensorLimits id).any (fun l => decide (l ≤ old.getD 0) != decide (l ≤ new))

/-- One sensor is sampled; its event goes to the receiver. -/
def State.sample (s : State) (id : Nat) : State :=
  let v := s.sensor id
  let old := smapGet none s.mgmt.samples id
  let s := s.setMgmt { s.mgmt with samples := smapSet none s.mgmt.samples id (some v) }
  match s.mgmt.receiver with
  | some r => if sensorEvent id old v then s.send (.platformEvent s.inBand r id v) else s
  | none => s

/-- SENSOR_SAMPLE: R565. -/
def execSensorSample (s : State) : Out := s.mctp (fun s => .next (sensorIds.foldl (fun t i => t.sample i) s))

/-- GET_SENSOR_READING: the latest sample. -/
def execGetSensorReading (id : BitVec 16) (s : State) : Out :=
  s.mctp (fun s =>
    if !sensorIds.contains id.toNat then s.respond 0x80 []
    else
      match smapGet none s.mgmt.samples id.toNat with
      | some v => s.respond 0 (leBytes v 4)
      | none => s.respond 0 (Config.answer 0x11 [id.toNat]))

/-- SET_EVENT_RECEIVER: none clears it. -/
def execSetEventReceiver (receiver : Option (BitVec 8)) (s : State) : Out :=
  s.mctp (fun s => (s.setMgmt { s.mgmt with receiver := receiver.map BitVec.toNat }).respond 0 [])

-- PLDM completion codes of DSP0267.
def pldmNotInUpdate : Nat := 0x80
def pldmAlreadyInUpdate : Nat := 0x81
def pldmBadState : Nat := 0x84

/-- REQUEST_UPDATE: a slot image goes to the slot not booted, a configuration to the copy not applied; where none is, to `place`
(R566). -/
def execRequestUpdate (image : Bool) (place : Fin 2) (s : State) : Out :=
  s.mctp (fun s =>
    match s.mgmt.update with
    | some _ => s.respond pldmAlreadyInUpdate []
    | none =>
      let used := if image then s.sec.slot else s.sec.copy
      let at' := match used with | some n => 1 - n | none => place.val
      (s.setMgmt { s.mgmt with update := some ⟨image, at', false, [], false, false⟩ }).respond 0 [])

/-- The update ends in failure (R566). -/
def State.updateFail (s : State) (u : Update) : State :=
  let s : State := { s with sec := s.sec.spoil u, mgmt := { s.mgmt with update := none } }
  s.secEvent 0xE9 u.place

/-- UPDATE_COMPONENT: `data` at an offset of the slot or copy. The manifest is erased before anything is written, and written after
everything else, with the `last` piece (R566). -/
def execUpdateComponent (off : BitVec 28) (data : List Byte) (last : Bool) (s : State) : Out :=
  s.mctp (fun s =>
    match s.mgmt.update with
    | none => s.respond pldmNotInUpdate []
    | some u =>
      let o := off.toNat
      let base := if u.image then u.place * norSlot else norConfig u.place
      let room := if u.image then norActivation else 0x100000
      if u.whole then s.respond pldmBadState []
      else if room < o + data.length then (s.updateFail u).respond 0x01 []
      else
        let x := if u.got then s.sec else if u.image then s.sec.norErase base 0xA00 else s.sec.norErase base 0x100000
        let head := if u.image then 0xA00 - o else 0
        let m := u.manifest ++ (data.take head).zipIdx.map (fun p => (o + p.2, p.1))
        let x := x.norWrite (base + o + min head data.length) (data.drop head)
        let x := if last then m.foldl (fun y p => y.norWrite (base + p.1) [p.2]) x else x
        let s : State := { s with sec := x }
        (s.setMgmt { s.mgmt with update := some ⟨u.image, u.place, true, m, last, false⟩ }).respond 0 [])

/-- What was written passes the checks of R550 or R552. -/
def State.updateOk (s : State) (u : Update) : Bool :=
  if u.image then s.sec.slotCheck u.place == 0
  else match s.sec.config? u.place with
    | some c => c.ok (if s.life = 3 then s.sec.ownerHash else none)
    | none => false

/-- VERIFY_COMPLETE: R566. -/
def execVerifyComplete (s : State) : Out :=
  s.mctp (fun s =>
    match s.mgmt.update with
    | none => s.respond pldmNotInUpdate []
    | some u =>
      if !u.whole then s.respond pldmBadState []
      else if s.updateOk u then (s.setMgmt { s.mgmt with update := some { u with verified := true } }).respond 0 []
      else (s.updateFail u).respond 0x01 [])

/-- The activation count of a slot, an erased word taken as 0. -/
def SecX.count (x : SecX) (slot : Nat) : Nat := x.rank slot - 1

/-- ACTIVATE_FIRMWARE: R566; a configuration needs no activation word. -/
def execActivateFirmware (s : State) : Out :=
  s.mctp (fun s =>
    match s.mgmt.update with
    | none => s.respond pldmNotInUpdate []
    | some u =>
      if !u.verified then s.respond pldmBadState []
      else
        let x := if u.image then s.sec.norWrite (u.place * norSlot + norActivation) (leBytes (s.sec.count (1 - u.place) + 1) 4) else s.sec
        let s : State := { s with sec := x, mgmt := { s.mgmt with update := none } }
        (s.secEvent 0xE8 u.place).respond 0 [])

/-- CANCEL_UPDATE: R566. -/
def execCancelUpdate (s : State) : Out :=
  s.mctp (fun s =>
    match s.mgmt.update with
    | none => s.respond pldmNotInUpdate []
    | some u => (s.updateFail u).respond 0 [])

end Sys2Proof.Machine
end

