-- ==== Sys2Proof/Machine/Booth.lean ====
section
/-!
DEFINITION. Machine/Booth.lean: the booth cores (R197): the instructions of Table 6.2 as a plain stream of words, without bundles,
latencies or VL, with predicates.
-/
namespace Sys2Proof.Machine

/-- The bits of the first `n` elements of width `w` that the predicate enables. -/
def laneMask (w n pred : Nat) : Nat :=
  (List.range n).foldl (fun a j => if bitOf pred j then a + (2 ^ w - 1) <<< (j * w) else a) 0

/-- The enabled elements of a vector, put side by side in ascending order, and their number. -/
def packLanes (w n pred v : Nat) : Nat × Nat :=
  (List.range n).foldl (fun (a : Nat × Nat) j => if bitOf pred j then (a.1 + (vElem v w j) <<< (a.2 * w), a.2 + 1) else a) (0, 0)

/-- A compare writes a predicate: bit j of an enabled element := its comparison, bits at and above `n` := 0, the rest kept. -/
def lanesToPred (w n pred old r : Nat) : Nat :=
  (List.range n).foldl (fun a j => a + (if bitOf pred j then b2n (vElem r w j != 0) else b2n (bitOf old j)) <<< j) 0

/-- Is the operation one of the three compares? -/
def vopIsCmp : VOp → Bool
  | .ceq => true | .clt => true | .cle => true | _ => false

/-- A mode code: as encoded, or for 0b111 a value of its own, since the manual gives a booth core no FRM (R176). -/
def boothRm (rm : Rm) (free : Nat) : Nat := if rm.val = 7 then free % 8 else rm.val

/-- VCMUL with predicates (R186, R197): a part whose partner is disabled has operands that are not read, so its value is open. -/
def vCmulLanes (conj acc : Bool) (ty : VTy) (mode : RMode) (free : Nat → Nat) (n pred d a b : Nat) : Nat :=
  let w := ty.width
  let r := (vCmul conj acc ty mode free n d a b).1
  (List.range n).foldl (fun o j =>
    o + (if bitOf pred (Nat.xor j 1) then vElem r w j else free (4 * n + j) % 2 ^ w) <<< (j * w)) 0

/-- What an instruction that makes no access does to the core: its new registers, the index of the next instruction, and how many
free values it used (R178-R186, R197). -/
def BoothCore.run (c : BoothCore) (free : Nat → Nat) (cycle cue pred pd : Nat) (i : PInsn) : BoothCore × Nat :=
  let q := c.pr pred
  match i with
  | .intR op rd rs1 rs2 => ((c.setX rd (intAlu op (c.xr rs1) (c.xr rs2))).step, 0)
  | .intI op rd rs1 imm => ((c.setX rd (intAlu op (c.xr rs1) (immWord op imm))).step, 0)
  | .iputh rd h imm => ((c.setX rd (putQuarter (c.xr rd) h imm)).step, 0)
  | .branch k rs1 rs2 off => (if brHolds k (c.xr rs1) (c.xr rs2) then { c with pc := brTarget c.pc off } else c.step, 0)
  | .call rd target => ({ c.setX rd (BitVec.ofNat 64 (c.pc + 1)) with pc := target.toNat }, 0)
  | .jreg rs1 => ({ c with pc := (c.xr rs1).toNat % 8192 }, 0)
  | .fop op dbl fd fs1 fs2 rm =>
    if fopIsSign op then
      let w := if dbl then 64 else 32
      ((c.setF fd (BitVec.ofNat 64 (fSignOp op w ((c.fr fs1).toNat % 2 ^ w) ((c.fr fs2).toNat % 2 ^ w)))).step, 0)
    else
      let v := (fArith op (ieeeFmt dbl) (ieeeMode (boothRm rm (free 0))).1 (fVal dbl (c.fr fs1)) (fVal dbl (c.fr fs2))).1
      ((c.setF fd (BitVec.ofNat 64 (if dbl then encB64 (free 1) v else encB32 (free 1) v))).step, 2)
  | .fma k dbl fd fs1 fs2 fs3 rm =>
    let v := (fmaVal k (ieeeFmt dbl) (ieeeMode (boothRm rm (free 0))).1 (fVal dbl (c.fr fs1)) (fVal dbl (c.fr fs2)) (fVal dbl (c.fr fs3))).1
    ((c.setF fd (BitVec.ofNat 64 (if dbl then encB64 (free 1) v else encB32 (free 1) v))).step, 2)
  | .fmov op dbl rd rs1 rs2 =>
    (match op with
    | .ftox => ((c.setX rd (if dbl then c.fr rs1 else BitVec.ofNat 64 ((c.fr rs1).toNat % 2 ^ 32))).step, 0)
    | .xtof => ((c.setF rd (if dbl then c.xr rs1 else BitVec.ofNat 64 ((c.xr rs1).toNat % 2 ^ 32))).step, 0)
    | _ => ((c.setX rd (BitVec.ofNat 64 (fCompare op (ieeeFmt dbl) (fVal dbl (c.fr rs1)) (fVal dbl (c.fr rs2))).1)).step, 0))
  | .cvt dt st rd rs1 rm =>
    let r := (cvtResult dt st (effRound dt.fmt (boothRm rm (free 0))).1 (free 1 % 65536) (if st.isInt then c.xr rs1 else c.fr rs1)).1
    ((if dt.isInt then c.setX rd r else c.setF rd r).step, 2)
  | .getcyc rd => ((c.setX rd (BitVec.ofNat 64 cycle)).step, 0)
  | .getcue rd => ((c.setX rd (BitVec.ofNat 64 cue)).step, 0)
  | .vop op ty vd vs1 vs2 =>
    let w := ty.width
    let n := maxVl w
    let mode := (ieeeMode (free 0 % 8)).1
    if op.unary then
      let l := packLanes w n q (c.vr vs1)
      ((c.setV vd (vReduce op ty mode (free 1) l.2 l.1).1 (laneMask w 1 q)).step, 2)
    else
      let r := (vElementwise op ty mode (fun j => free (1 + j)) n (c.vr vd) (c.vr vs1) (c.vr vs2)).1
      if vopIsCmp op then ((c.setP pd (lanesToPred w n q (c.pr pd) r)).step, 1 + n)
      else ((c.setV vd r (laneMask w n q)).step, 1 + n)
  | .vcvt vd vs1 st dt =>
    let n := maxVl (max st.width dt.width)
    let r := vConvert st dt (effRound dt.fmt (free 0 % 8)).1 (fun j => free (1 + j) % 65536) n (c.vr vs1)
    ((c.setV vd r.1 (laneMask dt.width n q)).step, 1 + n)
  | .vbcast vd rs1 ty =>
    let n := maxVl ty.width
    ((c.setV vd (vBroadcast ty.width n (if ty.isInt then c.xr rs1 else c.fr rs1).toNat).1 (laneMask ty.width n q)).step, 0)
  | .vext rd vs1 rs2 ty =>
    let j := (c.xr rs2).toNat % maxVl ty.width
    let e := vElem (c.vr vs1) ty.width j
    ((if bitOf q j then (if ty.isInt then c.setX rd (sextW ty.width e) else c.setF rd (BitVec.ofNat 64 e)) else c).step, 0)
  | .vcmul conj acc ty vd vs1 vs2 =>
    let n := maxVl ty.width
    let r := vCmulLanes conj acc ty (ieeeMode (free 0 % 8)).1 (fun j => free (1 + j)) n q (c.vr vd) (c.vr vs1) (c.vr vs2)
    ((c.setV vd r (laneMask ty.width n q)).step, 1 + 5 * n)
  | _ => (c.step, 0)

/-- A scalar access with bit 63 set (R173): on this part as the core's MID, with the errors of R247, or at its seat. A load that acquires
a lock waits for the end of its cycle (R458). -/
def State.coreGlobal (s : State) (n : Nat) (a : Word) (len : Nat) (ld : Option (LdKind × Nat)) (data : List Byte) : State :=
  let g := a.toNat % 2 ^ 59
  let mid := n + 1
  let d := if ld.isSome then none else some data
  if a.toNat / 2 ^ 59 % 16 ≠ 0 then (s.memEntry mid 0x40 g).coreDone n ld 0 0x40
  else if s.isLocal g then
    match (if d.isNone then s.lateAcq mid (gDev g) len (ld.map (fun l => ⟨n, l.1, l.2⟩)) else none) with
    | some q => (s.setCore n { s.core n with waiting := true }).putOff [q]
    | none =>
    let e := (s.accessPieces (gDev g) len).foldl (fun (r : List Byte × Nat × State) p =>
      let e := r.2.2.anyAccess mid p.1 p.2 (d.map (fun l => (l.drop (p.1 - gDev g)).take p.2)) 0 false noEcc
      let bad := e.1.cause == 0 && d.isNone && !e.1.poison.isEmpty
      let code := if bad then 0x43 else e.1.cause
      (r.1 ++ e.1.data, if r.2.1 = 0 then code else r.2.1, if bad then e.2.memEntry mid 0x43 p.1 else e.2)) ([], 0, s)
    e.2.2.coreDone n ld (ofLe e.1) e.2.1
  else if s.isLost (gSeat g) then s.coreDone n ld 0 0x65
  else
    (s.setCore n { s.core n with waiting := true }).sendReq (.core n ld) (if ld.isSome then opReadReq else opWrite) mid (gSeat g) (gDev g)
      0 0 data (data.map (fun _ => false)) len 0

/-- One element of a booth core's gather or scatter after another (R187, R188, R197): the core, what was gathered, the cause that
stopped it. -/
def BoothCore.indexed (c : BoothCore) (scatter : Bool) (w : Nat) (lanes : List Nat) (base : Word) (idx data : Nat) :
    BoothCore × Nat × Nat :=
  lanes.foldl (fun (r : BoothCore × Nat × Nat) j =>
    if r.2.2 ≠ 0 then r
    else
      match sramAddr (base + BitVec.ofNat 64 (vIndex idx j * (w / 8))) (w / 8) with
      | .error e => (r.1, r.2.1, e)
      | .ok p => if scatter then (r.1.st p (leBytes (vElem data w j) (w / 8)), r.2.1, 0)
        else (r.1, r.2.1 + (r.1.ld p (w / 8)) <<< (j * w), 0)) (c, 0, 0)

/-- The elements below `n` that the predicate enables. -/
def lanesOf (n pred : Nat) : List Nat := (List.range n).filter (fun j => bitOf pred j)

/-- VLD and VST of a booth core (R174, R197): its enabled elements, at a 64-byte aligned place of its SRAM. -/
def State.coreVmem (s : State) (n : Nat) (store : Bool) (vd rs1 w pred : Nat) : State :=
  let c := s.core n
  match sramAddr (c.xr rs1) 64 with
  | .error e => if (lanesOf (maxVl w) pred).isEmpty then s.setCore n c.step else s.coreVector n c e
  | .ok p =>
    if store then
      s.setCore n ((lanesOf (maxVl w) pred).foldl (fun (d : BoothCore) j => d.st (p + j * (w / 8)) (leBytes (vElem (c.vr vd) w j) (w / 8))) c).step
    else s.setCore n (c.setV vd (c.ld p 64) (laneMask w (maxVl w) pred)).step

/-- One instruction of a booth core (R197). -/
def State.coreDo (s : State) (n pred pd : Nat) (i : PInsn) : State :=
  let c := s.core n
  let q := c.pr pred
  match i with
  | .load k rd rs1 imm =>
    let a := c.xr rs1 + imm.signExtend 64
    if isGlobalAddr a then s.coreGlobal n a (ldSize k) (some (k, rd)) []
    else
      match sramAddr a (ldSize k) with
      | .error e => s.coreVector n c e
      | .ok p => s.setCore n (c.loaded k rd (c.ld p (ldSize k))).step
  | .store k rs2 rs1 imm =>
    let a := c.xr rs1 + imm.signExtend 64
    let data := leBytes (if k.isF then c.fr rs2 else c.xr rs2).toNat (stSize k)
    if isGlobalAddr a then s.coreGlobal n a (stSize k) none data
    else
      match sramAddr a (stSize k) with
      | .error e => s.coreVector n c e
      | .ok p => s.setCore n (c.st p data).step
  | .vld vd rs1 ty => s.coreVmem n false vd rs1 ty.width q
  | .vst vd rs1 ty => s.coreVmem n true vd rs1 ty.width q
  | .vgather vd rs1 vs2 ty =>
    let w := ty.width
    let m := maxVl (max w 32)
    let r := c.indexed false w (lanesOf m q) (c.xr rs1) (c.vr vs2) 0
    if r.2.2 ≠ 0 then s.coreVector n c r.2.2 else s.setCore n (c.setV vd r.2.1 (laneMask w m q)).step
  | .vscatter vd rs1 vs2 ty =>
    let w := ty.width
    let m := maxVl (max w 32)
    let r := c.indexed true w (lanesOf m q) (c.xr rs1) (c.vr vs2) (c.vr vd)
    if r.2.2 ≠ 0 then s.coreVector n r.1 r.2.2 else s.setCore n r.1.step
  | .holdpt => s.coreVector n c 0
  | .tret => s.coreVector n c 0
  | .tskip => s.coreVector n c 0
  | _ =>
    let r := c.run s.freeAt s.cycle s.cue pred pd i
    (s.setCore n r.1).usedFree r.2

/-- Does Table 6.2 admit the instruction on a booth core? VLSET is reserved there (R197). -/
def boothAdmits (i : PInsn) : Bool :=
  match i with
  | .vlset _ _ _ => false
  | i => i.wf

/-- A booth core performs an instruction of its stream, if it runs. -/
def State.runCore (s : State) (n pred pd : Nat) (i : PInsn) : Out :=
  if !s.coreRuns n then .next s
  else if boothAdmits i then .next (s.coreDo n pred pd i) else .fault .reservedInstruction

/-- A booth core fetches the word at its index from its SRAM, decodes and performs it (R197). -/
def State.fetchCore (s : State) (n : Nat) : Out :=
  if !s.coreRuns n then .next s
  else
    match decodeBooth ((s.core n).ld (4 * (s.core n).pc) 4) with
    | some w => .next (s.coreDo n w.2.1 w.2.2 w.1)
    | none => .fault .reservedInstruction

end Sys2Proof.Machine
end

