-- ==== Sys2Proof/Machine/PrompterCmds.lean ====
section
/-!
DEFINITION. Machine/PrompterCmds.lean: the instructions of Table 6.2, one definition each. On a tile the instruction
issues in this stage cycle, alone in its issue, at the bundle RESUME names (Machine/TileOps.lean, issueAlone); on a booth core it
is the next of the core's stream (Machine/Booth.lean).
-/
namespace Sys2Proof.Machine

/-- The instruction is encodable: its fields are ones Table 6.1 and Table 6.2 admit. A command that spells a reserved word
halts the tile as the word itself would (R139, R176). -/
def State.runChecked (s : State) (t : Nat) (i : PInsn) : State :=
  if i.wf then s.runP t i
  else s.issueAlone t (fun _ => some ⟨0x01, slotP, 0, 0, encodeP i⟩) id

/-- An instruction of Table 6.2 on the tile or booth core that runs it (R177, R197). -/
def State.runOn (s : State) (r : Runner) (i : PInsn) : Out :=
  match r with
  | .tile t => .next (s.runChecked t i)
  | .booth n pred pd => s.runCore n pred pd i

/-- BUNDLE_FETCH: a tile's next bundle (R132), or the next word of a booth core's stream (R197). -/
def execBundleFetch (r : Fetcher) (ecc : EccFinding) (s : State) : Out :=
  match r with
  | .tile t => s.fetchBundle t ecc
  | .booth n => s.fetchCore n

/-- IADD: R178. -/
def execIadd (r : Runner) (rd rs1 rs2 : XReg) (s : State) : Out := s.runOn r (.intR .add rd rs1 rs2)

/-- ISUB: R178. -/
def execIsub (r : Runner) (rd rs1 rs2 : XReg) (s : State) : Out := s.runOn r (.intR .sub rd rs1 rs2)

/-- IAND: R178. -/
def execIand (r : Runner) (rd rs1 rs2 : XReg) (s : State) : Out := s.runOn r (.intR .and rd rs1 rs2)

/-- IOR: R178. -/
def execIor (r : Runner) (rd rs1 rs2 : XReg) (s : State) : Out := s.runOn r (.intR .or rd rs1 rs2)

/-- IXOR: R178. -/
def execIxor (r : Runner) (rd rs1 rs2 : XReg) (s : State) : Out := s.runOn r (.intR .xor rd rs1 rs2)

/-- ISHL: R178. -/
def execIshl (r : Runner) (rd rs1 rs2 : XReg) (s : State) : Out := s.runOn r (.intR .shl rd rs1 rs2)

/-- ISHR: R178. -/
def execIshr (r : Runner) (rd rs1 rs2 : XReg) (s : State) : Out := s.runOn r (.intR .shr rd rs1 rs2)

/-- ISAR: R178. -/
def execIsar (r : Runner) (rd rs1 rs2 : XReg) (s : State) : Out := s.runOn r (.intR .sar rd rs1 rs2)

/-- ILT: R178. -/
def execIlt (r : Runner) (rd rs1 rs2 : XReg) (s : State) : Out := s.runOn r (.intR .lt rd rs1 rs2)

/-- ILTU: R178. -/
def execIltu (r : Runner) (rd rs1 rs2 : XReg) (s : State) : Out := s.runOn r (.intR .ltu rd rs1 rs2)

/-- IMIN: R178. -/
def execImin (r : Runner) (rd rs1 rs2 : XReg) (s : State) : Out := s.runOn r (.intR .min rd rs1 rs2)

/-- IMAX: R178. -/
def execImax (r : Runner) (rd rs1 rs2 : XReg) (s : State) : Out := s.runOn r (.intR .max rd rs1 rs2)

/-- IMINU: R178. -/
def execIminu (r : Runner) (rd rs1 rs2 : XReg) (s : State) : Out := s.runOn r (.intR .minu rd rs1 rs2)

/-- IMAXU: R178. -/
def execImaxu (r : Runner) (rd rs1 rs2 : XReg) (s : State) : Out := s.runOn r (.intR .maxu rd rs1 rs2)

/-- IMUL: R178. -/
def execImul (r : Runner) (rd rs1 rs2 : XReg) (s : State) : Out := s.runOn r (.intR .mul rd rs1 rs2)

/-- IMULH: R178. -/
def execImulh (r : Runner) (rd rs1 rs2 : XReg) (s : State) : Out := s.runOn r (.intR .mulh rd rs1 rs2)

/-- IMULHU: R178. -/
def execImulhu (r : Runner) (rd rs1 rs2 : XReg) (s : State) : Out := s.runOn r (.intR .mulhu rd rs1 rs2)

/-- IDIV: R178. -/
def execIdiv (r : Runner) (rd rs1 rs2 : XReg) (s : State) : Out := s.runOn r (.intR .div rd rs1 rs2)

/-- IDIVU: R178. -/
def execIdivu (r : Runner) (rd rs1 rs2 : XReg) (s : State) : Out := s.runOn r (.intR .divu rd rs1 rs2)

/-- IREM: R178. -/
def execIrem (r : Runner) (rd rs1 rs2 : XReg) (s : State) : Out := s.runOn r (.intR .rem rd rs1 rs2)

/-- IREMU: R178. -/
def execIremu (r : Runner) (rd rs1 rs2 : XReg) (s : State) : Out := s.runOn r (.intR .remu rd rs1 rs2)

/-- IADDK: R178. -/
def execIaddk (r : Runner) (rd rs1 : XReg) (imm : BitVec 16) (s : State) : Out := s.runOn r (.intI .add rd rs1 imm)

/-- IANDK: R178. -/
def execIandk (r : Runner) (rd rs1 : XReg) (imm : BitVec 16) (s : State) : Out := s.runOn r (.intI .and rd rs1 imm)

/-- IORK: R178. -/
def execIork (r : Runner) (rd rs1 : XReg) (imm : BitVec 16) (s : State) : Out := s.runOn r (.intI .or rd rs1 imm)

/-- IXORK: R178. -/
def execIxork (r : Runner) (rd rs1 : XReg) (imm : BitVec 16) (s : State) : Out := s.runOn r (.intI .xor rd rs1 imm)

/-- ILTK: R178. -/
def execIltk (r : Runner) (rd rs1 : XReg) (imm : BitVec 16) (s : State) : Out := s.runOn r (.intI .lt rd rs1 imm)

/-- ILTUK: R178. -/
def execIltuk (r : Runner) (rd rs1 : XReg) (imm : BitVec 16) (s : State) : Out := s.runOn r (.intI .ltu rd rs1 imm)

/-- ISHLK: R178: shift by imm[5:0]. -/
def execIshlk (r : Runner) (rd rs1 : XReg) (sh : Fin 64) (s : State) : Out := s.runOn r (.intI .shl rd rs1 (BitVec.ofNat 16 sh))

/-- ISHRK: R178: shift by imm[5:0]. -/
def execIshrk (r : Runner) (rd rs1 : XReg) (sh : Fin 64) (s : State) : Out := s.runOn r (.intI .shr rd rs1 (BitVec.ofNat 16 sh))

/-- ISARK: R178: shift by imm[5:0]. -/
def execIsark (r : Runner) (rd rs1 : XReg) (sh : Fin 64) (s : State) : Out := s.runOn r (.intI .sar rd rs1 (BitVec.ofNat 16 sh))

/-- IPUTH: R177. -/
def execIputh (r : Runner) (rd : XReg) (h : Fin 4) (imm : BitVec 16) (s : State) : Out := s.runOn r (.iputh rd h imm)

/-- LDB: R173, R175, R178. -/
def execLdb (r : Runner) (rd rs1 : XReg) (imm : BitVec 16) (s : State) : Out := s.runOn r (.load .b (mkF rd) rs1 imm)

/-- LDH: R173, R175, R178. -/
def execLdh (r : Runner) (rd rs1 : XReg) (imm : BitVec 16) (s : State) : Out := s.runOn r (.load .h (mkF rd) rs1 imm)

/-- LDW: R173, R175, R178. -/
def execLdw (r : Runner) (rd rs1 : XReg) (imm : BitVec 16) (s : State) : Out := s.runOn r (.load .w (mkF rd) rs1 imm)

/-- LDD: R173, R175, R178. -/
def execLdd (r : Runner) (rd rs1 : XReg) (imm : BitVec 16) (s : State) : Out := s.runOn r (.load .d (mkF rd) rs1 imm)

/-- LDBU: R173, R175, R178. -/
def execLdbu (r : Runner) (rd rs1 : XReg) (imm : BitVec 16) (s : State) : Out := s.runOn r (.load .bu (mkF rd) rs1 imm)

/-- LDHU: R173, R175, R178. -/
def execLdhu (r : Runner) (rd rs1 : XReg) (imm : BitVec 16) (s : State) : Out := s.runOn r (.load .hu (mkF rd) rs1 imm)

/-- LDWU: R173, R175, R178. -/
def execLdwu (r : Runner) (rd rs1 : XReg) (imm : BitVec 16) (s : State) : Out := s.runOn r (.load .wu (mkF rd) rs1 imm)

/-- FLDW: R170, R173, R175. -/
def execFldw (r : Runner) (fd : FReg) (rs1 : XReg) (imm : BitVec 16) (s : State) : Out := s.runOn r (.load .fw fd rs1 imm)

/-- FLDD: R170, R173, R175. -/
def execFldd (r : Runner) (fd : FReg) (rs1 : XReg) (imm : BitVec 16) (s : State) : Out := s.runOn r (.load .fd fd rs1 imm)

/-- STB: R174, R175. -/
def execStb (r : Runner) (rs2 rs1 : XReg) (imm : BitVec 16) (s : State) : Out := s.runOn r (.store .b (mkF rs2) rs1 imm)

/-- STH: R174, R175. -/
def execSth (r : Runner) (rs2 rs1 : XReg) (imm : BitVec 16) (s : State) : Out := s.runOn r (.store .h (mkF rs2) rs1 imm)

/-- STW: R174, R175. -/
def execStw (r : Runner) (rs2 rs1 : XReg) (imm : BitVec 16) (s : State) : Out := s.runOn r (.store .w (mkF rs2) rs1 imm)

/-- STD: R174, R175. -/
def execStd (r : Runner) (rs2 rs1 : XReg) (imm : BitVec 16) (s : State) : Out := s.runOn r (.store .d (mkF rs2) rs1 imm)

/-- FSTW: R170, R174, R175. -/
def execFstw (r : Runner) (fs2 : FReg) (rs1 : XReg) (imm : BitVec 16) (s : State) : Out := s.runOn r (.store .fw fs2 rs1 imm)

/-- FSTD: R170, R174, R175. -/
def execFstd (r : Runner) (fs2 : FReg) (rs1 : XReg) (imm : BitVec 16) (s : State) : Out := s.runOn r (.store .fd fs2 rs1 imm)

/-- CBEQ: R141, R179. -/
def execCbeq (r : Runner) (rs1 rs2 : XReg) (off : BitVec 16) (s : State) : Out := s.runOn r (.branch .eq rs1 rs2 off)

/-- CBNE: R141, R179. -/
def execCbne (r : Runner) (rs1 rs2 : XReg) (off : BitVec 16) (s : State) : Out := s.runOn r (.branch .ne rs1 rs2 off)

/-- CBLT: R141, R179. -/
def execCblt (r : Runner) (rs1 rs2 : XReg) (off : BitVec 16) (s : State) : Out := s.runOn r (.branch .lt rs1 rs2 off)

/-- CBGE: R141, R179. -/
def execCbge (r : Runner) (rs1 rs2 : XReg) (off : BitVec 16) (s : State) : Out := s.runOn r (.branch .ge rs1 rs2 off)

/-- CBLTU: R141, R179. -/
def execCbltu (r : Runner) (rs1 rs2 : XReg) (off : BitVec 16) (s : State) : Out := s.runOn r (.branch .ltu rs1 rs2 off)

/-- CBGEU: R141, R179. -/
def execCbgeu (r : Runner) (rs1 rs2 : XReg) (off : BitVec 16) (s : State) : Out := s.runOn r (.branch .geu rs1 rs2 off)

/-- CALL: R141, R179. -/
def execCall (r : Runner) (rd : XReg) (target : BitVec 13) (s : State) : Out := s.runOn r (.call rd target)

/-- JREG: R141, R179. -/
def execJreg (r : Runner) (rs1 : XReg) (s : State) : Out := s.runOn r (.jreg rs1)

/-- FADD: R180. -/
def execFadd (r : Runner) (dbl : Bool) (fd fs1 fs2 : FReg) (rm : Rm) (s : State) : Out := s.runOn r (.fop .add dbl fd fs1 fs2 rm)

/-- FSUB: R180. -/
def execFsub (r : Runner) (dbl : Bool) (fd fs1 fs2 : FReg) (rm : Rm) (s : State) : Out := s.runOn r (.fop .sub dbl fd fs1 fs2 rm)

/-- FMUL: R180. -/
def execFmul (r : Runner) (dbl : Bool) (fd fs1 fs2 : FReg) (rm : Rm) (s : State) : Out := s.runOn r (.fop .mul dbl fd fs1 fs2 rm)

/-- FDIV: R180. -/
def execFdiv (r : Runner) (dbl : Bool) (fd fs1 fs2 : FReg) (rm : Rm) (s : State) : Out := s.runOn r (.fop .div dbl fd fs1 fs2 rm)

/-- FMIN: R180. -/
def execFmin (r : Runner) (dbl : Bool) (fd fs1 fs2 : FReg) (rm : Rm) (s : State) : Out := s.runOn r (.fop .min dbl fd fs1 fs2 rm)

/-- FMAX: R180. -/
def execFmax (r : Runner) (dbl : Bool) (fd fs1 fs2 : FReg) (rm : Rm) (s : State) : Out := s.runOn r (.fop .max dbl fd fs1 fs2 rm)

/-- FCPYS: R180. -/
def execFcpys (r : Runner) (dbl : Bool) (fd fs1 fs2 : FReg) (rm : Rm) (s : State) : Out := s.runOn r (.fop .cpys dbl fd fs1 fs2 rm)

/-- FSQRT: R180. -/
def execFsqrt (r : Runner) (dbl : Bool) (fd fs1 : FReg) (rm : Rm) (s : State) : Out := s.runOn r (.fop .sqrt dbl fd fs1 0 rm)

/-- FABS: R180. -/
def execFabs (r : Runner) (dbl : Bool) (fd fs1 : FReg) (rm : Rm) (s : State) : Out := s.runOn r (.fop .abs dbl fd fs1 0 rm)

/-- FNEG: R180. -/
def execFneg (r : Runner) (dbl : Bool) (fd fs1 : FReg) (rm : Rm) (s : State) : Out := s.runOn r (.fop .neg dbl fd fs1 0 rm)

/-- FMAC: R180, R582. -/
def execFmac (r : Runner) (dbl : Bool) (fd fs1 fs2 fs3 : FReg) (rm : Rm) (s : State) : Out := s.runOn r (.fma .mac dbl fd fs1 fs2 fs3 rm)

/-- FMACN: R180, R582. -/
def execFmacn (r : Runner) (dbl : Bool) (fd fs1 fs2 fs3 : FReg) (rm : Rm) (s : State) : Out := s.runOn r (.fma .macn dbl fd fs1 fs2 fs3 rm)

/-- FMACS: R180, R582. -/
def execFmacs (r : Runner) (dbl : Bool) (fd fs1 fs2 fs3 : FReg) (rm : Rm) (s : State) : Out := s.runOn r (.fma .macs dbl fd fs1 fs2 fs3 rm)

/-- FMACNS: R180, R582. -/
def execFmacns (r : Runner) (dbl : Bool) (fd fs1 fs2 fs3 : FReg) (rm : Rm) (s : State) : Out := s.runOn r (.fma .macns dbl fd fs1 fs2 fs3 rm)

/-- CVT: R181. -/
def execCvt (r : Runner) (dt st : CTy) (rd rs1 : FReg) (rm : Rm) (s : State) : Out := s.runOn r (.cvt dt st rd rs1 rm)

/-- FTOX: R180. -/
def execFtox (r : Runner) (dbl : Bool) (rd : XReg) (fs1 : FReg) (s : State) : Out := s.runOn r (.fmov .ftox dbl (mkF rd) fs1 0)

/-- XTOF: R180. -/
def execXtof (r : Runner) (dbl : Bool) (fd : FReg) (rs1 : XReg) (s : State) : Out := s.runOn r (.fmov .xtof dbl fd (mkF rs1) 0)

/-- FCEQ: R180. -/
def execFceq (r : Runner) (dbl : Bool) (rd : XReg) (fs1 fs2 : FReg) (s : State) : Out := s.runOn r (.fmov .ceq dbl (mkF rd) fs1 fs2)

/-- FCLT: R180. -/
def execFclt (r : Runner) (dbl : Bool) (rd : XReg) (fs1 fs2 : FReg) (s : State) : Out := s.runOn r (.fmov .clt dbl (mkF rd) fs1 fs2)

/-- FCLE: R180. -/
def execFcle (r : Runner) (dbl : Bool) (rd : XReg) (fs1 fs2 : FReg) (s : State) : Out := s.runOn r (.fmov .cle dbl (mkF rd) fs1 fs2)

/-- FKIND: R180. -/
def execFkind (r : Runner) (dbl : Bool) (rd : XReg) (fs1 : FReg) (s : State) : Out := s.runOn r (.fmov .kind dbl (mkF rd) fs1 0)

/-- VLSET: R183. -/
def execVlset (r : Runner) (rd rs1 : XReg) (ty : VTy) (s : State) : Out := s.runOn r (.vlset rd rs1 ty)

/-- GETCYC: R182. -/
def execGetcyc (r : Runner) (rd : XReg) (s : State) : Out := s.runOn r (.getcyc rd)

/-- GETCUE: R182. -/
def execGetcue (r : Runner) (rd : XReg) (s : State) : Out := s.runOn r (.getcue rd)

/-- HOLDPT: R190. -/
def execHoldpt (r : Runner) (s : State) : Out := s.runOn r (.holdpt)

/-- TRET: R192. -/
def execTret (r : Runner) (s : State) : Out := s.runOn r (.tret)

/-- TSKIP: R192. -/
def execTskip (r : Runner) (s : State) : Out := s.runOn r (.tskip)

/-- PROMPTER_NOP: R134, R176. -/
def execPrompterNop (r : Runner) (s : State) : Out := s.runOn r (.nop)

/-- VADD: R185. -/
def execVadd (r : Runner) (ty : VTy) (vd vs1 vs2 : VReg) (s : State) : Out := s.runOn r (.vop .add ty vd vs1 vs2)

/-- VSUB: R185. -/
def execVsub (r : Runner) (ty : VTy) (vd vs1 vs2 : VReg) (s : State) : Out := s.runOn r (.vop .sub ty vd vs1 vs2)

/-- VMUL: R185. -/
def execVmul (r : Runner) (ty : VTy) (vd vs1 vs2 : VReg) (s : State) : Out := s.runOn r (.vop .mul ty vd vs1 vs2)

/-- VMIN: R185. -/
def execVmin (r : Runner) (ty : VTy) (vd vs1 vs2 : VReg) (s : State) : Out := s.runOn r (.vop .min ty vd vs1 vs2)

/-- VMAX: R185. -/
def execVmax (r : Runner) (ty : VTy) (vd vs1 vs2 : VReg) (s : State) : Out := s.runOn r (.vop .max ty vd vs1 vs2)

/-- VAND: R185. -/
def execVand (r : Runner) (ty : VTy) (vd vs1 vs2 : VReg) (s : State) : Out := s.runOn r (.vop .and ty vd vs1 vs2)

/-- VOR: R185. -/
def execVor (r : Runner) (ty : VTy) (vd vs1 vs2 : VReg) (s : State) : Out := s.runOn r (.vop .or ty vd vs1 vs2)

/-- VXOR: R185. -/
def execVxor (r : Runner) (ty : VTy) (vd vs1 vs2 : VReg) (s : State) : Out := s.runOn r (.vop .xor ty vd vs1 vs2)

/-- VSLL: R185. -/
def execVsll (r : Runner) (ty : VTy) (vd vs1 vs2 : VReg) (s : State) : Out := s.runOn r (.vop .sll ty vd vs1 vs2)

/-- VSRL: R185. -/
def execVsrl (r : Runner) (ty : VTy) (vd vs1 vs2 : VReg) (s : State) : Out := s.runOn r (.vop .srl ty vd vs1 vs2)

/-- VSRA: R185. -/
def execVsra (r : Runner) (ty : VTy) (vd vs1 vs2 : VReg) (s : State) : Out := s.runOn r (.vop .sra ty vd vs1 vs2)

/-- VCEQ: R185. -/
def execVceq (r : Runner) (ty : VTy) (vd vs1 vs2 : VReg) (s : State) : Out := s.runOn r (.vop .ceq ty vd vs1 vs2)

/-- VCLT: R185. -/
def execVclt (r : Runner) (ty : VTy) (vd vs1 vs2 : VReg) (s : State) : Out := s.runOn r (.vop .clt ty vd vs1 vs2)

/-- VCLE: R185. -/
def execVcle (r : Runner) (ty : VTy) (vd vs1 vs2 : VReg) (s : State) : Out := s.runOn r (.vop .cle ty vd vs1 vs2)

/-- VFMA: R185. -/
def execVfma (r : Runner) (ty : VTy) (vd vs1 vs2 : VReg) (s : State) : Out := s.runOn r (.vop .fma ty vd vs1 vs2)

/-- VFMS: R185. -/
def execVfms (r : Runner) (ty : VTy) (vd vs1 vs2 : VReg) (s : State) : Out := s.runOn r (.vop .fms ty vd vs1 vs2)

/-- VFNMA: R185. -/
def execVfnma (r : Runner) (ty : VTy) (vd vs1 vs2 : VReg) (s : State) : Out := s.runOn r (.vop .fnma ty vd vs1 vs2)

/-- VREDSUM: R185. -/
def execVredsum (r : Runner) (ty : VTy) (vd vs1 : VReg) (s : State) : Out := s.runOn r (.vop .redsum ty vd vs1 0)

/-- VREDMAX: R185. -/
def execVredmax (r : Runner) (ty : VTy) (vd vs1 : VReg) (s : State) : Out := s.runOn r (.vop .redmax ty vd vs1 0)

/-- VCVT: R181, R185. -/
def execVcvt (r : Runner) (vd vs1 : VReg) (st dt : VTy) (s : State) : Out := s.runOn r (.vcvt vd vs1 st dt)

/-- VBCAST: R185. -/
def execVbcast (r : Runner) (vd : VReg) (rs1 : FReg) (ty : VTy) (s : State) : Out := s.runOn r (.vbcast vd rs1 ty)

/-- VEXT: R185. -/
def execVext (r : Runner) (rd : FReg) (vs1 : VReg) (rs2 : XReg) (ty : VTy) (s : State) : Out := s.runOn r (.vext rd vs1 rs2 ty)

/-- VCMUL: R186. -/
def execVcmul (r : Runner) (conj acc : Bool) (ty : VTy) (vd vs1 vs2 : VReg) (s : State) : Out := s.runOn r (.vcmul conj acc ty vd vs1 vs2)

/-- VLD: R174. -/
def execVld (r : Runner) (vd : VReg) (rs1 : XReg) (ty : VTy) (s : State) : Out := s.runOn r (.vld vd rs1 ty)

/-- VST: R174. -/
def execVst (r : Runner) (vd : VReg) (rs1 : XReg) (ty : VTy) (s : State) : Out := s.runOn r (.vst vd rs1 ty)

/-- VGATHER: R187, R188. -/
def execVgather (r : Runner) (vd : VReg) (rs1 : XReg) (vs2 : VReg) (ty : VTy) (s : State) : Out := s.runOn r (.vgather vd rs1 vs2 ty)

/-- VSCATTER: R187, R188. -/
def execVscatter (r : Runner) (vd : VReg) (rs1 : XReg) (vs2 : VReg) (ty : VTy) (s : State) : Out := s.runOn r (.vscatter vd rs1 vs2 ty)

end Sys2Proof.Machine
end

