-- ==== Sys2Proof/Machine/Rigging.lean ====
section
/-!
DEFINITION. Machine/Rigging.lean: the routers of the package mesh (R15-R18, R20, R222).
-/
namespace Sys2Proof.Machine

/-- Package row and column of a tile (R15, R18); tile 256 d + 16 r + c lies at row r, column c of die d. -/
def pkgRow (t : Nat) : Nat := 16 * (t / 256 / 4) + t % 256 / 16
def pkgCol (t : Nat) : Nat := 16 * (t / 256 % 4) + t % 16

/-- The tile at a package row and column. -/
def tileAt (row col : Nat) : Nat := 256 * (4 * (row / 16) + col / 16) + 16 * (row % 16) + col % 16

def rigNum : RigPort → Nat
  | .north => 0 | .east => 1 | .south => 2 | .west => 3 | .tile => 4

/-- The vertical port of a die's wings that serves an offset (R222). -/
def wingsPort (off : Nat) : Nat := off / 1024 % 64

/-- Router and port where a flit leaves the mesh. A flit to an I/O die leaves in the row it is in. -/
def rigExit (row : Nat) : RigDst → Nat × Nat × RigPort
  | .tile t => (pkgRow t, pkgCol t, .tile)
  | .wings d off => (16 * (d / 4) + 2 * (wingsPort off.toNat / 8), 16 * (d % 4) + 2 * (wingsPort off.toNat % 8), .tile)
  | .stack k c => if k.val < 4 then (0, 16 * (k % 4) + c, .north) else (31, 16 * (k % 4) + c, .south)
  | .io i => if i.val = 0 then (row, 0, .west) else (row, 63, .east)
  | .hub => (row, 0, .west)

/-- The output a router gives a flit: along the row, then along the column, then off the mesh (R18). -/
def rigRoute (t : Nat) (d : RigDst) : RigPort :=
  let e := rigExit (pkgRow t) d
  if pkgCol t < e.2.1 then .east
  else if e.2.1 < pkgCol t then .west
  else if pkgRow t < e.1 then .south
  else if e.1 < pkgRow t then .north
  else e.2.2

/-- The router and input port that an output of router `t` leads to; none where it leads off the mesh or into the tile. -/
def rigNext (t : Nat) (p : RigPort) : Option (Nat × RigPort) :=
  let row := pkgRow t
  let col := pkgCol t
  match p with
  | .north => if row = 0 then none else some (tileAt (row - 1) col, .south)
  | .south => if row = 31 then none else some (tileAt (row + 1) col, .north)
  | .east => if col = 63 then none else some (tileAt row (col + 1), .west)
  | .west => if col = 0 then none else some (tileAt row (col - 1), .east)
  | .tile => none

def rigKey (t : Nat) (p : RigPort) (cls : Nat) : Nat := (t * 5 + rigNum p) * 4 + cls

def State.rigBuf (s : State) (t : Nat) (p : RigPort) (cls : Nat) : List RigFlit := smapGet [] s.rig.bufs (rigKey t p cls)

def State.setRigBuf (s : State) (t : Nat) (p : RigPort) (cls : Nat) (l : List RigFlit) : State :=
  { s with rig := { s.rig with bufs := smapSet [] s.rig.bufs (rigKey t p cls) l } }

/-- Flit buffers a class may use at an input port: two of C0's own beside what the manual leaves open (R20). -/
def rigSpace (cls : Nat) : Nat := if cls = 0 then 2 + Config.rigRoom 0 else Config.rigRoom cls

/-- A flit comes into an input port, if there is room for its class. -/
def State.rigPut (s : State) (t : Nat) (p : RigPort) (f : RigFlit) : State :=
  let l := s.rigBuf t p f.cls
  if l.length < rigSpace f.cls then s.setRigBuf t p f.cls (l ++ [f]) else s

def rigPorts : List RigPort := [.north, .east, .south, .west, .tile]

/-- The far end of the attachment at an edge output of a router (Table 1.2). -/
def rigEnd (t : Nat) (o : RigPort) : Nat :=
  match o with
  | .north => pkgCol t | .south => 64 + pkgCol t | .west => 128 + pkgRow t | .east => 160 + pkgRow t | .tile => 0

/-- The hub end of the link of I/O die 0's hub port, and that port's end for what the hub sends. -/
def hubEnd : Nat := 192
def hubPort : Nat := 193

/-- Every attachment carries the four classes in separate buffers (R16, R20). -/
def State.rigEndBuf (s : State) (e cls : Nat) : List RigFlit := smapGet [] s.rig.ends (e * 4 + cls)

def State.setRigEnd (s : State) (e cls : Nat) (l : List RigFlit) : State :=
  { s with rig := { s.rig with ends := smapSet [] s.rig.ends (e * 4 + cls) l } }

/-- May a flit leave router `t` by output `o`: the next input or the attachment's far end has room, or the tile takes it. -/
def State.rigFree (s : State) (t : Nat) (o : RigPort) (f : RigFlit) : Bool :=
  match rigNext t o with
  | none => o == .tile || decide ((s.rigEndBuf (rigEnd t o) f.cls).length < rigSpace f.cls)
  | some n => decide ((s.rigBuf n.1 n.2 f.cls).length < rigSpace f.cls)

/-- The flit input `p` offers to output `o`: the head of its lowest class that goes there and can leave. -/
def State.rigOffer (s : State) (t : Nat) (o p : RigPort) : Option RigFlit :=
  (List.range 4).findSome? (fun c => match (s.rigBuf t p c).head? with
    | some f => if rigRoute t f.dst = o ∧ s.rigFree t o f then some f else none
    | none => none)

/-- A flit reaches its endpoint. -/
def State.rigHand (s : State) (t : Nat) (f : RigFlit) : State := { s with rig := { s.rig with handed := s.rig.handed ++ [(t, f)] } }

/-- Output `o` of router `t` grants one input, round-robin from the one after the last grant (R20). -/
def State.rigGrant (s : State) (t : Nat) (o : RigPort) : State :=
  let k := t * 5 + rigNum o
  let ptr := smapGet 0 s.rig.ptrs k
  let order := rigPorts.drop ptr ++ rigPorts.take ptr
  match order.findSome? (fun p => (s.rigOffer t o p).map (fun f => (p, f))) with
  | none => s
  | some (p, f) =>
    let s := s.setRigBuf t p f.cls (s.rigBuf t p f.cls).tail
    let s : State := { s with rig := { s.rig with ptrs := smapSet 0 s.rig.ptrs k ((rigNum p + 1) % 5) } }
    match rigNext t o with
    | some n => s.rigPut n.1 n.2 f
    | none =>
      if o = .tile then s.rigHand t f
      else s.setRigEnd (rigEnd t o) f.cls (s.rigEndBuf (rigEnd t o) f.cls ++ [f])

/-- Does I/O die 0 pass the flit on over its hub port? -/
def rigToHub (f : RigFlit) : Bool := f.dst == .hub

/-- The endpoint at the far end `e` takes the oldest flit of a class, which router `t` sent; what is bound for the hub stays for the hub
port. -/
def State.rigTake (s : State) (t e cls : Nat) : State :=
  match (s.rigEndBuf e cls).find? (fun f => !rigToHub f || e == hubEnd) with
  | some f => (s.setRigEnd e cls ((s.rigEndBuf e cls).erase f)).rigHand t f
  | none => s

/-- The hub port of I/O die 0 grants one of the rows' flits for the hub, round-robin from the row after its last grant. -/
def State.hubGrant (s : State) : State :=
  let rows := (List.range 32).map (fun i => (s.rig.hubPtr + i) % 32)
  let offer := fun (row : Nat) => (List.range 4).findSome? (fun c =>
    if (s.rigEndBuf hubEnd c).length < rigSpace c then ((s.rigEndBuf (128 + row) c).find? rigToHub).map (fun f => (row, c, f)) else none)
  match rows.findSome? offer with
  | none => s
  | some (row, c, f) =>
    let s := s.setRigEnd (128 + row) c ((s.rigEndBuf (128 + row) c).erase f)
    let s := s.setRigEnd hubEnd c (s.rigEndBuf hubEnd c ++ [f])
    { s with rig := { s.rig with hubPtr := (row + 1) % 32 } }

/-- What the far ends take: a flit of C0 always, which they consume without emitting traffic of any class; one of the other classes
where `take` says that the endpoint takes it (R20). -/
def State.rigEnds (s : State) (t : Nat) (o : RigPort) (take : Bool) : State :=
  let cls := if take then List.range 4 else [0]
  let s := if o != .tile && (rigNext t o).isNone then cls.foldl (fun u c => u.rigTake t (rigEnd t o) c) s else s
  cls.foldl (fun u c => u.rigTake 2048 hubEnd c) s.hubGrant

/-- The hub sends a flit over its link: it waits in its class's buffer at I/O die 0's hub port, if there is room (R16, R20). -/
def State.hubSends (s : State) (f : RigFlit) : State :=
  if (s.rigEndBuf hubPort f.cls).length < rigSpace f.cls then s.setRigEnd hubPort f.cls (s.rigEndBuf hubPort f.cls ++ [f]) else s

/-- I/O die 0 passes on what waits at its hub port, lowest class first, into the west input of a router at the package's west edge that
has room (DESIGN CHOICE: the row of the router that is served, one flit at a time). -/
def State.hubFeeds (s : State) (t : Nat) : State :=
  if pkgCol t ≠ 0 then s
  else
    match (List.range 4).findSome? (fun c => (s.rigEndBuf hubPort c).head?.filter (fun _ => decide ((s.rigBuf t .west c).length < rigSpace c))) with
    | none => s
    | some f => (s.setRigEnd hubPort f.cls (s.rigEndBuf hubPort f.cls).tail).rigPut t .west f

/-- Is an input port fed from outside the mesh: by its tile, a stack or an I/O die (Table 1.2)? -/
def rigEdge (t : Nat) (p : RigPort) : Bool :=
  match p with
  | .tile => true
  | _ => (rigNext t p).isNone

/-- RIGGING_FLIT: the flits that endpoints send into router `t` and those the hub sends enter, then its output `o.port` forwards one, and the far ends of the
attachments take theirs (R16-R18, R20). -/
def execRiggingFlit (t : Tile) (ins : List (RigPort × RigFlit)) (o : RigTurn) (s : State) : Out :=
  let s := (ins.filter (fun i => rigEdge t i.1)).foldl (fun u i => u.rigPut t i.1 i.2) s
  let s := (o.hub.foldl State.hubSends s).hubFeeds t
  .next ((s.rigGrant t o.port).rigEnds t o.port o.take)

end Sys2Proof.Machine
end

