-- ==== Sys2Proof/Machine/TileTick.lean ====
section
/-!
DEFINITION. Machine/TileTick.lean: one stage cycle of the tiles (R144-R147, R532, R533): results commit at their ready
cycles, reads and accesses fall in theirs, the handler's returns take effect.
-/
namespace Sys2Proof.Machine

/-- Words of a tile's store that these bytes cover whole lose their poison (R246). -/
def State.cleanWords (s : State) (a n : Nat) : State :=
  ((unitsOver .ring a n).filter (fun u => decide (a ≤ u) && decide (u + 8 ≤ a + n))).foldl (fun t u => t.setPoison u false) s

/-- A commit of a tile's operation to bytes of its own stores: whole words lose poison and errors, an MM that reads its panels
may meet the bytes (R108), and another master's write of this cycle loses (R116). -/
def State.commitBytes (s : State) (t ord a : Nat) (l : List Byte) : State :=
  ((((s.setBytes a l).noteWrites a l).cleanWords a l.length).cleanFlaws a l.length).win t ord a l.length

/-- A masked write by a DRAIN: a part of a poisoned word is not written, and is reported (R246). -/
def State.maskedWrite (s : State) (t ord : Nat) (l : List (Nat × Byte)) : State :=
  let words := (l.map (fun p => p.1 / 8 * 8)).dedup
  let whole := fun (w : Nat) => (List.range 8).all (fun i => l.any (fun p => p.1 == w + i))
  let bad := words.filter (fun w => s.poisoned w && !whole w)
  let s := l.foldl (fun u p => if bad.contains (p.1 / 8 * 8) then u else ((u.setByte p.1 p.2).noteWrites p.1 [p.2]).win t ord p.1 1) s
  let s := (words.filter whole).foldl (fun u w => (u.setPoison w false).cleanFlaws w 8) s
  match bad with
  | [] => s
  | w :: _ => s.tileCause t 2 0 0x43 (w - tileBase t)

/-- The banks swap (R158). -/
def State.swapBanks (s : State) (t : Nat) : State :=
  ((s.setFld (R.TA_SEQ_BANK t) (1 - s.fld (R.TA_SEQ_BANK t))).setFld (R.TA_BANKCTL_MARK t) 0).setResume t 0

/-- An issue of this cycle has not been made after all: what it put into the tile goes (R157, R215). -/
def State.unissue (s : State) (n : IssueNote) : State :=
  let y := s.tile n.tile
  let old := fun (o : Nat) => decide (o < n.x.ordNext)
  let s := (y.xfers.filter (fun q => !old q.ord)).foldl (fun u q => u.wcDec n.tile q.slot.wc) s
  let s := (y.globals.filter (fun g => !old g.ord)).foldl (fun u _ => u.wcDec n.tile 15) s
  let s := s.setTile n.tile { n.x with
    acts := y.acts.filter (fun a => old a.ord), jobs := y.jobs.filter (fun j => old j.id), gathers := y.gathers.filter (fun g => old g.id),
    xfers := y.xfers.filter (fun q => old q.ord), globals := y.globals.filter (fun g => old g.ord) }
  { s.setReg (R.TA_SEQ n.tile) n.seq with dc := smapSet DcLive.init s.dc (n.tile / 256) n.dc }

/-- The halt of a swap whose test fails (R157, R210, R213). -/
def State.swapHalt (s : State) (t : Nat) (pt : IssuePt) (slot c : Nat) : State :=
  s.haltTile t c pt.bundle pt.rep slot 0 0 (s.commitWord t (1 - s.fld (R.TA_SEQ_BANK t)) % 2 ^ 64)

/-- A SWAP_BANK of this cycle at the cycle's end (R157): with the standby commit word set, what was held back is performed; without it,
nothing of the issue is, and the tile halts. -/
def State.settleSlot (s : State) (t : Nat) (bundle : Option Nat) (performed : Bool) : State :=
  match s.now.issued.find? (fun n => n.tile == t) with
  | none => s
  | some n =>
    match s.swapBar t (1 - s.fld (R.TA_SEQ_BANK t)), performed with
    | none, true => s
    | some c, true => (s.unissue n).swapHalt t n.pt slotS c
    | some c, false => s.swapHalt t n.pt slotS c
    | none, false =>
      let i : Tile := ⟨t % 2048, Nat.mod_lt _ (by decide)⟩
      match bundle with
      | some w => s.performBundle i (Bundle.ofNat w) n.pt
      | none => s.performS i .swapBank

/-- A marked tile at the end of the cycle in which its curtain or scene start swaps it (R210-R213); a swap that does not take place
leaves its mark. -/
def State.settleMark (s : State) (t : Nat) : State :=
  match s.swapBar t (1 - s.fld (R.TA_SEQ_BANK t)) with
  | some c => (s.setFld (R.TA_BANKCTL_MARK t) 1).swapHalt t (s.issuePt t) 0 c
  | none => (s.setFld (R.TA_SEQ_BANK t) (1 - s.fld (R.TA_SEQ_BANK t))).setResume t 0

/-- The end of a stage cycle: the swaps asked for in it are tested, with every loader write of it. -/
def State.settleSwaps (s : State) : State :=
  s.now.swaps.foldl (fun u q => match q.how with
    | .mark => u.settleMark q.tile
    | .slot b done => u.settleSlot q.tile b done) s

/-- A vector gather that read all its elements commits its destination (R187). -/
def State.gatherCommit (s : State) (t ord id : Nat) : State :=
  match (s.tile t).gathers.find? (fun g => g.id == id) with
  | none => s
  | some g =>
    let s := s.setTile t { s.tile t with gathers := (s.tile t).gathers.filter (fun y => decide (y.id ≠ id)) }
    if g.scatter || g.faulted then s
    else
      let bits := g.got.zipIdx.foldl (fun a p => a + (p.1 % 2 ^ g.width) <<< (p.2 * g.width)) 0
      (vCommits t g.vd bits (2 ^ (g.width * g.got.length) - 1)).foldl (fun u e => match e with
        | .commit a v m => u.commitReg t ord a v m
        | _ => u) s

/-- What falls in this cycle as a commit, of the operation at place `ord` in issue order (R146). -/
def State.commitEff (s : State) (t ord : Nat) (e : Eff) : State :=
  match e with
  | .commit a v mask => s.commitReg t ord a v mask
  | .bytes a l => s.commitBytes t ord a l
  | .store a l => (s.dcWindowWrite t a l.length).commitBytes t ord a l
  | .masked l => s.maskedWrite t ord l
  | .poison ws => s.poisonAll ws true
  | .regStore a n v => (s.tileRegStore t a n v).win t ord (a / 8 * 8) 8
  | .stat c => s.tileStat t c
  | .bankSwap => s.swapBanks t
  | .gatherDone id => s.gatherCommit t ord id
  | _ => s

/-- The read of a scalar load in its cycle (R145, R175): its value on the way to its register, or its fault to its trap
point. -/
def State.loadNow (s : State) (t ord a : Nat) (k : LdKind) (rd insn : Nat) (pt : IssuePt) (h : Bool) (late : Nat) : State :=
  let n := ldSize k
  let fin := fun (u : State) (v : Nat) =>
    if k.isF then u.schedAt t late ord (.commit (R.TA_PF t rd) (ldValue k v) (-1))
    else if rd = 0 then u else u.schedAt t late ord (.commit (R.TA_PXN t (rd - 1)) (ldValue k v) (-1))
  if isTileReg a then
    let r := s.regRead (a / 8 * 8) (a % 8) n
    fin r.2 r.1
  else
    let s := (s.meetFlaws (tileMid t) a n).2
    if s.wordsPoisoned a n then s.raiseTrap t ⟨s.active + late, 0x23, 0, BitVec.ofNat 64 (a - tileBase t), insn, pt, true, h⟩
    else fin s (s.num a n)

/-- The first element of a vector access at `a` that lies in a poisoned word. -/
def State.poisonElem (s : State) (a vl w : Nat) : Nat :=
  ((List.range vl).find? (fun j => s.wordsPoisoned (a + j * (w / 8)) (w / 8))).getD 0

/-- The read of a VLD in its cycle. -/
def State.vloadNow (s : State) (t ord a vl w vd insn : Nat) (pt : IssuePt) (h : Bool) : State :=
  let n := vl * w / 8
  let fin := fun (u : State) (l : List Byte) =>
    (vCommits t vd (ofLe l) (2 ^ (vl * w) - 1)).foldl (fun v e => v.schedAt t 3 ord e) u
  if isTileReg a then
    let r := (unitsOver .ring a n).foldl (fun (acc : List Byte × State) u =>
      let q := acc.2.regRead u 0 8
      (acc.1 ++ leBytes q.1 8, q.2)) ([], s)
    fin r.2 (r.1.take n)
  else
    let s := (s.meetFlaws (tileMid t) a n).2
    if s.wordsPoisoned a n then
      s.raiseTrap t ⟨s.active + 3, 0x23, s.poisonElem a vl w, BitVec.ofNat 64 (a - tileBase t), insn, pt, true, h⟩
    else fin s (s.bytes a n)

/-- What falls in this cycle as a read of what the cycle's commits leave (R145). -/
def State.readEff (s : State) (t ord : Nat) (e : Eff) : State :=
  match e with
  | .load a k rd insn pt h late => s.loadNow t ord a k rd insn pt h late
  | .vload a vl w vd insn pt h => s.vloadNow t ord a vl w vd insn pt h
  | .mmAdd id => s.mmFinish t id
  | .shdRead tag sunit u => s.shdReadNow t ord tag sunit u
  | .drainRead d => s.drainReadNow t ord d
  | .drainConv d => s.drainConvNow t ord d
  | .gatherElem id j => s.gatherStep t id j
  | _ => s

/-- The end of an MM's panel reads: in the cycle after its occupancy, before that cycle's commits (R108). -/
def State.panelEff (s : State) (t : Nat) (e : Eff) : State :=
  match e with
  | .mmPanels id => s.mmPanelsDone t id
  | _ => s

/-- The handler has been left: a stream whose fence still holds its next issue is held again (R142, R164). -/
def State.leaveHandler (s : State) (t : Nat) : State :=
  let s := s.setFld (R.TA_PTRAP0_ACTIVE t) 0
  if (s.tile t).fence.isSome && s.fld (R.TA_SEQ_STATE t) == seqIssuing then s.setFld (R.TA_SEQ_STATE t) seqHeld else s

/-- TRET takes effect: the faulting instruction issues again, alone, or the stream resumes (R192). A load or store whose address
is now global has no trap point; it issues alone all the same, and the stream resumes in the cycle after it (a store's distance
in R190; for a load DESIGN CHOICE, the manual gives none). -/
def State.tileReturn (s : State) (t : Nat) : State :=
  let x := s.tile t
  match x.reexec, x.resumeAt with
  | some (c, w), _ =>
    if s.active < c then s
    else
      let pt : IssuePt := ⟨s.fld (R.TA_PTRAP0_FBANK t), s.fld (R.TA_PTRAP0_FBUNDLE t), s.fld (R.TA_PTRAP0_FREPEAT t)⟩
      let s := (s.setTile t { x with reexec := none }).leaveHandler t
      (match decodeP w with
      | none => s.haltAt t pt ⟨0x01, slotP, 0, 0, w⟩
      | some i =>
        match s.checkP t i with
        | some h => s.haltAt t pt h
        | none =>
          let d := (s.trapDist t i).getD 1
          (s.issueP t i 1 pt).setIssueAt t (s.active + d))
  | none, some c =>
    if s.active < c then s
    else (s.setTile t { x with resumeAt := none }).leaveHandler t
  | none, none => s

/-- One stage cycle of a tile: what falls in it, in issue order (R146). -/
def State.tileCycle (s : State) (t : Nat) : State :=
  let x := s.tile t
  let due := sortBy Act.ord (x.acts.filter (fun a => decide (a.due ≤ s.active)))
  let s := s.setTile t { x with acts := x.acts.filter (fun a => decide (s.active < a.due)) }
  let s := due.foldl (fun u a => u.panelEff t a.eff) s
  let s := due.foldl (fun u a => u.commitEff t a.ord a.eff) s
  let s := due.foldl (fun u a => u.readEff t a.ord a.eff) s
  s.tileReturn t

/-- A count reaches the live counters of a tile, or, numbered from 2048 on, of a trap engine (R296). -/
def State.addEnc (s : State) (k : Nat) (c : EncCnt) : State :=
  if k < 2048 then s.setTile k { s.tile k with enc := ((s.tile k).enc.add c).sat }
  else
    let x := s.teStack ((k - 2048) / 16)
    let e := (k - 2048) % 16
    s.setTe ((k - 2048) / 16) { x with enc := smapSet EncCnt.zero x.enc e ((smapGet EncCnt.zero x.enc e).add c).sat }

/-- The stage cycle that begins ends all that lasted for the one before: what was counted in that one falls after a snapshot of it (R298), and
the generators whose seed was written in that one
start again (R101). -/
def State.newCycle (s : State) : State :=
  let s := s.now.reseeds.foldl (fun u t =>
    if t < 4096 then u.reseedNext t
    else
      let x := u.teStack ((t - 4096) / 16)
      u.setTe ((t - 4096) / 16) { x with sr := x.sr.filter (fun p => decide (p.1 ≠ (t - 4096) % 16)) }) s
  let s := s.now.counted.foldl (fun u p => u.addEnc p.1 p.2) s
  { s with cycle := s.cycle + 1, won := [], now := CycleX.init }

/-- One stage cycle of the tiles (R532, R533), after what the one before has left to be tested (R157, R210): in a held cycle nothing of them moves. -/
def State.tileTick (s : State) : State :=
  let held := s.held
  let s := s.settleSwaps.newCycle
  if held then s
  else
    let s : State := { s with active := s.active + 1 }
    (s.tiles.map Prod.fst).foldl (fun u t => u.tileCycle t) s

end Sys2Proof.Machine
end

