-- ==== Sys2Proof/Machine/Dispatch.lean ====
section
/-!
DEFINITION. Machine/Dispatch.lean: one arm per command; each arm is one call of that command's meaning.
-/
namespace Sys2Proof.Machine

def exec (i : Instr) (s : State) : Host.Outcome State Fault Refusal :=
  match i with
  | .registerWrite a ws => Sys2Proof.Machine.execRegisterWrite a ws s
  | .rcRead mid a len => Sys2Proof.Machine.execRcRead mid a len s
  | .memoryAccess mid a len data hint narrow turn => Sys2Proof.Machine.execMemoryAccess mid a len data hint narrow turn s
  | .riggingFlit t ins o => Sys2Proof.Machine.execRiggingFlit t ins o s
  | .cueIncrement => Sys2Proof.Machine.execCueIncrement s
  | .cue p count master delay retried hop => Sys2Proof.Machine.execCue p count master delay retried hop s
  | .holdover => Sys2Proof.Machine.execHoldover s
  | .cutOff => Sys2Proof.Machine.execCutOff s
  | .backupMasterTakeover => Sys2Proof.Machine.execBackupMasterTakeover s
  | .alarmArm n v => Sys2Proof.Machine.execAlarmArm n v s
  | .alarmFire n => Sys2Proof.Machine.execAlarmFire n s
  | .stepComplete => Sys2Proof.Machine.execStepComplete s
  | .stepCompleteAccepted sender step discard => Sys2Proof.Machine.execStepCompleteAccepted sender step discard s
  | .announce p k step => Sys2Proof.Machine.execAnnounce p k step s
  | .curtainDrainStart => Sys2Proof.Machine.execCurtainDrainStart s
  | .classDrained => Sys2Proof.Machine.execClassDrained s
  | .drained sender k discard => Sys2Proof.Machine.execDrained sender k discard s
  | .verdictSet => Sys2Proof.Machine.execVerdictSet s
  | .verdict p k publish => Sys2Proof.Machine.execVerdict p k publish s
  | .curtainCutOff => Sys2Proof.Machine.execCurtainCutOff s
  | .publish peer asked flash => Sys2Proof.Machine.execPublish peer asked flash s
  | .discard peer => Sys2Proof.Machine.execDiscard peer s
  | .stepStart => Sys2Proof.Machine.execStepStart s
  | .sceneStart => Sys2Proof.Machine.execSceneStart s
  | .sceneChangeStart heard => Sys2Proof.Machine.execSceneChangeStart heard s
  | .stopWave w => Sys2Proof.Machine.execStopWave w s
  | .sceneSave quiet => Sys2Proof.Machine.execSceneSave quiet s
  | .sceneSwapIn => Sys2Proof.Machine.execSceneSwapIn s
  | .startWave w => Sys2Proof.Machine.execStartWave w s
  | .restoreStart heard peer => Sys2Proof.Machine.execRestoreStart heard peer s
  | .matrixNop t => Sys2Proof.Machine.execMatrixNop t s
  | .mm t f => Sys2Proof.Machine.execMm t f s
  | .shd t f => Sys2Proof.Machine.execShd t f s
  | .drain t f => Sys2Proof.Machine.execDrain t f s
  | .bundleFetch t ecc => Sys2Proof.Machine.execBundleFetch t ecc s
  | .dnop t => Sys2Proof.Machine.execDnop t s
  | .copy t f => Sys2Proof.Machine.execCopy t f s
  | .convert t f => Sys2Proof.Machine.execConvert t f s
  | .rwrite t f => Sys2Proof.Machine.execRwrite t f s
  | .gather t f => Sys2Proof.Machine.execGather t f s
  | .regather t f => Sys2Proof.Machine.execRegather t f s
  | .fill t f => Sys2Proof.Machine.execFill t f s
  | .transferComplete t k ecc => Sys2Proof.Machine.execTransferComplete t k ecc s
  | .snop t => Sys2Proof.Machine.execSnop t s
  | .wait t wc thr => Sys2Proof.Machine.execWait t wc thr s
  | .fenceL t => Sys2Proof.Machine.execFenceL t s
  | .fenceD t => Sys2Proof.Machine.execFenceD t s
  | .fenceF t set => Sys2Proof.Machine.execFenceF t set s
  | .fenceComplete t => Sys2Proof.Machine.execFenceComplete t s
  | .notice t ch x => Sys2Proof.Machine.execNotice t ch x s
  | .take t ch x => Sys2Proof.Machine.execTake t ch x s
  | .swapBank t => Sys2Proof.Machine.execSwapBank t s
  | .endOp t => Sys2Proof.Machine.execEndOp t s
  | .tileEnded t => Sys2Proof.Machine.execTileEnded t s
  | .prompterNop t => Sys2Proof.Machine.execPrompterNop t s
  | .iadd t rd rs1 rs2 => Sys2Proof.Machine.execIadd t rd rs1 rs2 s
  | .isub t rd rs1 rs2 => Sys2Proof.Machine.execIsub t rd rs1 rs2 s
  | .iand t rd rs1 rs2 => Sys2Proof.Machine.execIand t rd rs1 rs2 s
  | .ior t rd rs1 rs2 => Sys2Proof.Machine.execIor t rd rs1 rs2 s
  | .ixor t rd rs1 rs2 => Sys2Proof.Machine.execIxor t rd rs1 rs2 s
  | .ishl t rd rs1 rs2 => Sys2Proof.Machine.execIshl t rd rs1 rs2 s
  | .ishr t rd rs1 rs2 => Sys2Proof.Machine.execIshr t rd rs1 rs2 s
  | .isar t rd rs1 rs2 => Sys2Proof.Machine.execIsar t rd rs1 rs2 s
  | .ilt t rd rs1 rs2 => Sys2Proof.Machine.execIlt t rd rs1 rs2 s
  | .iltu t rd rs1 rs2 => Sys2Proof.Machine.execIltu t rd rs1 rs2 s
  | .imin t rd rs1 rs2 => Sys2Proof.Machine.execImin t rd rs1 rs2 s
  | .imax t rd rs1 rs2 => Sys2Proof.Machine.execImax t rd rs1 rs2 s
  | .iminu t rd rs1 rs2 => Sys2Proof.Machine.execIminu t rd rs1 rs2 s
  | .imaxu t rd rs1 rs2 => Sys2Proof.Machine.execImaxu t rd rs1 rs2 s
  | .iaddk t rd rs1 imm => Sys2Proof.Machine.execIaddk t rd rs1 imm s
  | .iandk t rd rs1 imm => Sys2Proof.Machine.execIandk t rd rs1 imm s
  | .iork t rd rs1 imm => Sys2Proof.Machine.execIork t rd rs1 imm s
  | .ixork t rd rs1 imm => Sys2Proof.Machine.execIxork t rd rs1 imm s
  | .iltk t rd rs1 imm => Sys2Proof.Machine.execIltk t rd rs1 imm s
  | .iltuk t rd rs1 imm => Sys2Proof.Machine.execIltuk t rd rs1 imm s
  | .ishlk t rd rs1 sh => Sys2Proof.Machine.execIshlk t rd rs1 sh s
  | .ishrk t rd rs1 sh => Sys2Proof.Machine.execIshrk t rd rs1 sh s
  | .isark t rd rs1 sh => Sys2Proof.Machine.execIsark t rd rs1 sh s
  | .iputh t rd h imm => Sys2Proof.Machine.execIputh t rd h imm s
  | .imul t rd rs1 rs2 => Sys2Proof.Machine.execImul t rd rs1 rs2 s
  | .imulh t rd rs1 rs2 => Sys2Proof.Machine.execImulh t rd rs1 rs2 s
  | .imulhu t rd rs1 rs2 => Sys2Proof.Machine.execImulhu t rd rs1 rs2 s
  | .idiv t rd rs1 rs2 => Sys2Proof.Machine.execIdiv t rd rs1 rs2 s
  | .idivu t rd rs1 rs2 => Sys2Proof.Machine.execIdivu t rd rs1 rs2 s
  | .irem t rd rs1 rs2 => Sys2Proof.Machine.execIrem t rd rs1 rs2 s
  | .iremu t rd rs1 rs2 => Sys2Proof.Machine.execIremu t rd rs1 rs2 s
  | .ldb t rd rs1 imm => Sys2Proof.Machine.execLdb t rd rs1 imm s
  | .ldh t rd rs1 imm => Sys2Proof.Machine.execLdh t rd rs1 imm s
  | .ldw t rd rs1 imm => Sys2Proof.Machine.execLdw t rd rs1 imm s
  | .ldd t rd rs1 imm => Sys2Proof.Machine.execLdd t rd rs1 imm s
  | .ldbu t rd rs1 imm => Sys2Proof.Machine.execLdbu t rd rs1 imm s
  | .ldhu t rd rs1 imm => Sys2Proof.Machine.execLdhu t rd rs1 imm s
  | .ldwu t rd rs1 imm => Sys2Proof.Machine.execLdwu t rd rs1 imm s
  | .fldw t fd rs1 imm => Sys2Proof.Machine.execFldw t fd rs1 imm s
  | .fldd t fd rs1 imm => Sys2Proof.Machine.execFldd t fd rs1 imm s
  | .stb t rs2 rs1 imm => Sys2Proof.Machine.execStb t rs2 rs1 imm s
  | .sth t rs2 rs1 imm => Sys2Proof.Machine.execSth t rs2 rs1 imm s
  | .stw t rs2 rs1 imm => Sys2Proof.Machine.execStw t rs2 rs1 imm s
  | .std t rs2 rs1 imm => Sys2Proof.Machine.execStd t rs2 rs1 imm s
  | .fstw t fs2 rs1 imm => Sys2Proof.Machine.execFstw t fs2 rs1 imm s
  | .fstd t fs2 rs1 imm => Sys2Proof.Machine.execFstd t fs2 rs1 imm s
  | .globalAccessComplete t k ecc => Sys2Proof.Machine.execGlobalAccessComplete t k ecc s
  | .cbeq t rs1 rs2 off => Sys2Proof.Machine.execCbeq t rs1 rs2 off s
  | .cbne t rs1 rs2 off => Sys2Proof.Machine.execCbne t rs1 rs2 off s
  | .cblt t rs1 rs2 off => Sys2Proof.Machine.execCblt t rs1 rs2 off s
  | .cbge t rs1 rs2 off => Sys2Proof.Machine.execCbge t rs1 rs2 off s
  | .cbltu t rs1 rs2 off => Sys2Proof.Machine.execCbltu t rs1 rs2 off s
  | .cbgeu t rs1 rs2 off => Sys2Proof.Machine.execCbgeu t rs1 rs2 off s
  | .call t rd target => Sys2Proof.Machine.execCall t rd target s
  | .jreg t rs1 => Sys2Proof.Machine.execJreg t rs1 s
  | .fadd t dbl fd fs1 fs2 rm => Sys2Proof.Machine.execFadd t dbl fd fs1 fs2 rm s
  | .fsub t dbl fd fs1 fs2 rm => Sys2Proof.Machine.execFsub t dbl fd fs1 fs2 rm s
  | .fmul t dbl fd fs1 fs2 rm => Sys2Proof.Machine.execFmul t dbl fd fs1 fs2 rm s
  | .fdiv t dbl fd fs1 fs2 rm => Sys2Proof.Machine.execFdiv t dbl fd fs1 fs2 rm s
  | .fsqrt t dbl fd fs1 rm => Sys2Proof.Machine.execFsqrt t dbl fd fs1 rm s
  | .fmin t dbl fd fs1 fs2 rm => Sys2Proof.Machine.execFmin t dbl fd fs1 fs2 rm s
  | .fmax t dbl fd fs1 fs2 rm => Sys2Proof.Machine.execFmax t dbl fd fs1 fs2 rm s
  | .fabs t dbl fd fs1 rm => Sys2Proof.Machine.execFabs t dbl fd fs1 rm s
  | .fneg t dbl fd fs1 rm => Sys2Proof.Machine.execFneg t dbl fd fs1 rm s
  | .fcpys t dbl fd fs1 fs2 rm => Sys2Proof.Machine.execFcpys t dbl fd fs1 fs2 rm s
  | .fmac t dbl fd fs1 fs2 fs3 rm => Sys2Proof.Machine.execFmac t dbl fd fs1 fs2 fs3 rm s
  | .fmacn t dbl fd fs1 fs2 fs3 rm => Sys2Proof.Machine.execFmacn t dbl fd fs1 fs2 fs3 rm s
  | .fmacs t dbl fd fs1 fs2 fs3 rm => Sys2Proof.Machine.execFmacs t dbl fd fs1 fs2 fs3 rm s
  | .fmacns t dbl fd fs1 fs2 fs3 rm => Sys2Proof.Machine.execFmacns t dbl fd fs1 fs2 fs3 rm s
  | .cvt t dt st rd rs1 rm => Sys2Proof.Machine.execCvt t dt st rd rs1 rm s
  | .ftox t dbl rd fs1 => Sys2Proof.Machine.execFtox t dbl rd fs1 s
  | .xtof t dbl fd rs1 => Sys2Proof.Machine.execXtof t dbl fd rs1 s
  | .fceq t dbl rd fs1 fs2 => Sys2Proof.Machine.execFceq t dbl rd fs1 fs2 s
  | .fclt t dbl rd fs1 fs2 => Sys2Proof.Machine.execFclt t dbl rd fs1 fs2 s
  | .fcle t dbl rd fs1 fs2 => Sys2Proof.Machine.execFcle t dbl rd fs1 fs2 s
  | .fkind t dbl rd fs1 => Sys2Proof.Machine.execFkind t dbl rd fs1 s
  | .vlset t rd rs1 ty => Sys2Proof.Machine.execVlset t rd rs1 ty s
  | .getcyc t rd => Sys2Proof.Machine.execGetcyc t rd s
  | .getcue t rd => Sys2Proof.Machine.execGetcue t rd s
  | .holdpt t => Sys2Proof.Machine.execHoldpt t s
  | .tret t => Sys2Proof.Machine.execTret t s
  | .tskip t => Sys2Proof.Machine.execTskip t s
  | .trapEntry t => Sys2Proof.Machine.execTrapEntry t s
  | .vadd t ty vd vs1 vs2 => Sys2Proof.Machine.execVadd t ty vd vs1 vs2 s
  | .vsub t ty vd vs1 vs2 => Sys2Proof.Machine.execVsub t ty vd vs1 vs2 s
  | .vmul t ty vd vs1 vs2 => Sys2Proof.Machine.execVmul t ty vd vs1 vs2 s
  | .vmin t ty vd vs1 vs2 => Sys2Proof.Machine.execVmin t ty vd vs1 vs2 s
  | .vmax t ty vd vs1 vs2 => Sys2Proof.Machine.execVmax t ty vd vs1 vs2 s
  | .vand t ty vd vs1 vs2 => Sys2Proof.Machine.execVand t ty vd vs1 vs2 s
  | .vor t ty vd vs1 vs2 => Sys2Proof.Machine.execVor t ty vd vs1 vs2 s
  | .vxor t ty vd vs1 vs2 => Sys2Proof.Machine.execVxor t ty vd vs1 vs2 s
  | .vsll t ty vd vs1 vs2 => Sys2Proof.Machine.execVsll t ty vd vs1 vs2 s
  | .vsrl t ty vd vs1 vs2 => Sys2Proof.Machine.execVsrl t ty vd vs1 vs2 s
  | .vsra t ty vd vs1 vs2 => Sys2Proof.Machine.execVsra t ty vd vs1 vs2 s
  | .vceq t ty vd vs1 vs2 => Sys2Proof.Machine.execVceq t ty vd vs1 vs2 s
  | .vclt t ty vd vs1 vs2 => Sys2Proof.Machine.execVclt t ty vd vs1 vs2 s
  | .vcle t ty vd vs1 vs2 => Sys2Proof.Machine.execVcle t ty vd vs1 vs2 s
  | .vredsum t ty vd vs1 => Sys2Proof.Machine.execVredsum t ty vd vs1 s
  | .vredmax t ty vd vs1 => Sys2Proof.Machine.execVredmax t ty vd vs1 s
  | .vcvt t vd vs1 st dt => Sys2Proof.Machine.execVcvt t vd vs1 st dt s
  | .vbcast t vd rs1 ty => Sys2Proof.Machine.execVbcast t vd rs1 ty s
  | .vext t rd vs1 rs2 ty => Sys2Proof.Machine.execVext t rd vs1 rs2 ty s
  | .vfma t ty vd vs1 vs2 => Sys2Proof.Machine.execVfma t ty vd vs1 vs2 s
  | .vfms t ty vd vs1 vs2 => Sys2Proof.Machine.execVfms t ty vd vs1 vs2 s
  | .vfnma t ty vd vs1 vs2 => Sys2Proof.Machine.execVfnma t ty vd vs1 vs2 s
  | .vcmul t conj acc ty vd vs1 vs2 => Sys2Proof.Machine.execVcmul t conj acc ty vd vs1 vs2 s
  | .vld t vd rs1 ty => Sys2Proof.Machine.execVld t vd rs1 ty s
  | .vst t vd rs1 ty => Sys2Proof.Machine.execVst t vd rs1 ty s
  | .vgather t vd rs1 vs2 ty => Sys2Proof.Machine.execVgather t vd rs1 vs2 ty s
  | .vscatter t vd rs1 vs2 ty => Sys2Proof.Machine.execVscatter t vd rs1 vs2 ty s
  | .srSeedWrite t v => Sys2Proof.Machine.execSrSeedWrite t v s
  | .loadScene => Sys2Proof.Machine.execLoadScene s
  | .bankWrite core t bank off data => Sys2Proof.Machine.execBankWrite core t bank off data s
  | .bankCommit core t bank w => Sys2Proof.Machine.execBankCommit core t bank w s
  | .bankctlMark t mark => Sys2Proof.Machine.execBankctlMark t mark s
  | .boothHalt t detail mark => Sys2Proof.Machine.execBoothHalt t detail mark s
  | .tileRevoke t => Sys2Proof.Machine.execTileRevoke t s
  | .cacheResize v => Sys2Proof.Machine.execCacheResize v s
  | .cacheResizeDone => Sys2Proof.Machine.execCacheResizeDone s
  | .reduceWrite mid addr xor fmt data psn ecc => Sys2Proof.Machine.execReduceWrite mid addr xor fmt data psn ecc s
  | .heldReduceWrite k req => Sys2Proof.Machine.execHeldReduceWrite k req s
  | .scrub addr ecc => Sys2Proof.Machine.execScrub addr ecc s
  | .stackTempSample k temp => Sys2Proof.Machine.execStackTempSample k temp s
  | .retirePage bad => Sys2Proof.Machine.execRetirePage bad s
  | .shardEntryWrite k idx v => Sys2Proof.Machine.execShardEntryWrite k idx v s
  | .bqPost k => Sys2Proof.Machine.execBqPost k s
  | .descriptorDispatch k => Sys2Proof.Machine.execDescriptorDispatch k s
  | .sgdm k r ecc => Sys2Proof.Machine.execSgdm k r ecc s
  | .adamw k r ecc => Sys2Proof.Machine.execAdamw k r ecc s
  | .teConvert k r ecc => Sys2Proof.Machine.execTeConvert k r ecc s
  | .teFill k r ecc => Sys2Proof.Machine.execTeFill k r ecc s
  | .axpy k r ecc => Sys2Proof.Machine.execAxpy k r ecc s
  | .norm k r ecc => Sys2Proof.Machine.execNorm k r ecc s
  | .parityDelta k r ecc => Sys2Proof.Machine.execParityDelta k r ecc s
  | .descriptorComplete k r => Sys2Proof.Machine.execDescriptorComplete k r s
  | .clipResolve k v => Sys2Proof.Machine.execClipResolve k v s
  | .clipDone k => Sys2Proof.Machine.execClipDone k s
  | .dcSnapshot => Sys2Proof.Machine.execDcSnapshot s
  | .dressCheckRecompute die => Sys2Proof.Machine.execDressCheckRecompute die s
  | .dcEvaluate => Sys2Proof.Machine.execDcEvaluate s
  | .dcSeedWrite v => Sys2Proof.Machine.execDcSeedWrite v s
  | .place j est bubble => Sys2Proof.Machine.execPlace j est bubble s
  | .planIdExchange seat id => Sys2Proof.Machine.execPlanIdExchange seat id s
  | .reshard j est bubble => Sys2Proof.Machine.execReshard j est bubble s
  | .permuteComplete others => Sys2Proof.Machine.execPermuteComplete others s
  | .stageScene r => Sys2Proof.Machine.execStageScene r s
  | .linkTraining p lanes delay peerSeat peerPort peerNormal => Sys2Proof.Machine.execLinkTraining p lanes delay peerSeat peerPort peerNormal s
  | .portDisable p => Sys2Proof.Machine.execPortDisable p s
  | .portEnable p => Sys2Proof.Machine.execPortEnable p s
  | .retrain p => Sys2Proof.Machine.execRetrain p s
  | .flitReceive p f fecCorr fecUncorr hi hop peer => Sys2Proof.Machine.execFlitReceive p f fecCorr fecUncorr hi hop peer s
  | .retry p seq => Sys2Proof.Machine.execRetry p seq s
  | .retryTimeout p => Sys2Proof.Machine.execRetryTimeout p s
  | .linkIdleTimeout p => Sys2Proof.Machine.execLinkIdleTimeout p s
  | .tickets p vcs lo hi => Sys2Proof.Machine.execTickets p vcs lo hi s
  | .ticketReturn p => Sys2Proof.Machine.execTicketReturn p s
  | .packetGrant p => Sys2Proof.Machine.execPacketGrant p s
  | .packetRoute input => Sys2Proof.Machine.execPacketRoute input s
  | .write ecc => Sys2Proof.Machine.execWrite ecc s
  | .rwriteAdd ecc => Sys2Proof.Machine.execRwriteAdd ecc s
  | .rwriteXor ecc => Sys2Proof.Machine.execRwriteXor ecc s
  | .readReq rdst ecc => Sys2Proof.Machine.execReadReq rdst ecc s
  | .readResp => Sys2Proof.Machine.execReadResp s
  | .ack p hi dst recs => Sys2Proof.Machine.execAck p hi dst recs s
  | .respTimeout tag => Sys2Proof.Machine.execRespTimeout tag s
  | .seatLost p seat stamp peer => Sys2Proof.Machine.execSeatLost p seat stamp peer s
  | .idle p => Sys2Proof.Machine.execIdle p s
  | .cePost q => Sys2Proof.Machine.execCePost q s
  | .collectiveStart h => Sys2Proof.Machine.execCollectiveStart h s
  | .allReduce r => Sys2Proof.Machine.execAllReduce r s
  | .reduceScatter r => Sys2Proof.Machine.execReduceScatter r s
  | .allGather r => Sys2Proof.Machine.execAllGather r s
  | .broadcast r => Sys2Proof.Machine.execBroadcast r s
  | .permute r => Sys2Proof.Machine.execPermute r s
  | .barrier r => Sys2Proof.Machine.execBarrier r s
  | .scalarSum r => Sys2Proof.Machine.execScalarSum r s
  | .collData m ecc => Sys2Proof.Machine.execCollData m ecc s
  | .collCtrl set num => Sys2Proof.Machine.execCollCtrl set num s
  | .collectiveComplete r => Sys2Proof.Machine.execCollectiveComplete r s
  | .fhLinkUp p mode => Sys2Proof.Machine.execFhLinkUp p mode s
  | .fhLinkDown p => Sys2Proof.Machine.execFhLinkDown p s
  | .arpRequest p m => Sys2Proof.Machine.execArpRequest p m s
  | .neighborSolicitation p m => Sys2Proof.Machine.execNeighborSolicitation p m s
  | .icmpEcho p v6 ip data => Sys2Proof.Machine.execIcmpEcho p v6 ip data s
  | .frameDrop f => Sys2Proof.Machine.execFrameDrop f s
  | .pfcFrame p quanta => Sys2Proof.Machine.execPfcFrame p quanta s
  | .pfcRefresh p drain => Sys2Proof.Machine.execPfcRefresh p drain s
  | .pfcWatchdog p => Sys2Proof.Machine.execPfcWatchdog p s
  | .send k => Sys2Proof.Machine.execSend k s
  | .rdmaWrite k reth last data ecc => Sys2Proof.Machine.execRdmaWrite k reth last data ecc s
  | .rdmaWriteImm k reth data imm ecc => Sys2Proof.Machine.execRdmaWriteImm k reth data imm ecc s
  | .rdmaRead k reth ecc => Sys2Proof.Machine.execRdmaRead k reth ecc s
  | .atomic k => Sys2Proof.Machine.execAtomic k s
  | .rdmaReadResponse k data last => Sys2Proof.Machine.execRdmaReadResponse k data last s
  | .rcAck k syndrome => Sys2Proof.Machine.execRcAck k syndrome s
  | .rcTimeout qpn => Sys2Proof.Machine.execRcTimeout qpn s
  | .cnp k => Sys2Proof.Machine.execCnp k s
  | .rateIncrease qpn => Sys2Proof.Machine.execRateIncrease qpn s
  | .req port cm peerQpn psn session dbImm mtu qpn => Sys2Proof.Machine.execReq port cm peerQpn psn session dbImm mtu qpn s
  | .rep k peerQpn psn mtu => Sys2Proof.Machine.execRep k peerQpn psn mtu s
  | .doorbell n v => Sys2Proof.Machine.execDoorbell n v s
  | .statusConsumed n v => Sys2Proof.Machine.execStatusConsumed n v s
  | .ptpSync p h seq origin slew => Sys2Proof.Machine.execPtpSync p h seq origin slew s
  | .ptpFollowUp p h seq origin slew => Sys2Proof.Machine.execPtpFollowUp p h seq origin slew s
  | .ptpDelayReq p => Sys2Proof.Machine.execPtpDelayReq p s
  | .ptpDelayResp p h seq t4 => Sys2Proof.Machine.execPtpDelayResp p h seq t4 s
  | .ptpAnnounce p h identity vector => Sys2Proof.Machine.execPtpAnnounce p h identity vector s
  | .ptpAnnounceTimeout p => Sys2Proof.Machine.execPtpAnnounceTimeout p s
  | .commandTake => Sys2Proof.Machine.execCommandTake s
  | .jCommandStart => Sys2Proof.Machine.execJCommandStart s
  | .nop => Sys2Proof.Machine.execNop s
  | .regRead => Sys2Proof.Machine.execRegRead s
  | .regWrite => Sys2Proof.Machine.execRegWrite s
  | .readLatency => Sys2Proof.Machine.execReadLatency s
  | .readBinding => Sys2Proof.Machine.execReadBinding s
  | .readPromptbook => Sys2Proof.Machine.execReadPromptbook s
  | .readReport => Sys2Proof.Machine.execReadReport s
  | .sessionOpen => Sys2Proof.Machine.execSessionOpen s
  | .sessionClose => Sys2Proof.Machine.execSessionClose s
  | .windowAdd => Sys2Proof.Machine.execWindowAdd s
  | .windowRemove => Sys2Proof.Machine.execWindowRemove s
  | .storeOpen => Sys2Proof.Machine.execStoreOpen s
  | .jobOpen => Sys2Proof.Machine.execJobOpen s
  | .jobClose => Sys2Proof.Machine.execJobClose s
  | .jobStart => Sys2Proof.Machine.execJobStart s
  | .jobStop => Sys2Proof.Machine.execJobStop s
  | .sceneChange => Sys2Proof.Machine.execSceneChange s
  | .sceneRestore => Sys2Proof.Machine.execSceneRestore s
  | .setRiskFloor => Sys2Proof.Machine.execSetRiskFloor s
  | .riskFloorExpiry => Sys2Proof.Machine.execRiskFloorExpiry s
  | .checkpointNow => Sys2Proof.Machine.execCheckpointNow s
  | .promote => Sys2Proof.Machine.execPromote s
  | .restoreCheckpoint others checks => Sys2Proof.Machine.execRestoreCheckpoint others checks s
  | .linkRetrain => Sys2Proof.Machine.execLinkRetrain s
  | .warmReset => Sys2Proof.Machine.execWarmReset s
  | .warmResetExecute => Sys2Proof.Machine.execWarmResetExecute s
  | .cbPost ch posts => Sys2Proof.Machine.execCbPost ch posts s
  | .cbTake core ch => Sys2Proof.Machine.execCbTake core ch s
  | .cbFlush ch => Sys2Proof.Machine.execCbFlush ch s
  | .cbLock n w => Sys2Proof.Machine.execCbLock n w s
  | .cbAcq n readers => Sys2Proof.Machine.execCbAcq n readers s
  | .remoteNotice src ch notice => Sys2Proof.Machine.execRemoteNotice src ch notice s
  | .healthDecay => Sys2Proof.Machine.execHealthDecay s
  | .riskReport seat estimate => Sys2Proof.Machine.execRiskReport seat estimate s
  | .checkpointOrder k n layers => Sys2Proof.Machine.execCheckpointOrder k n layers s
  | .parityReady stripe => Sys2Proof.Machine.execParityReady stripe s
  | .ckptDone seat k failed => Sys2Proof.Machine.execCkptDone seat k failed s
  | .ckptCommit k n => Sys2Proof.Machine.execCkptCommit k n s
  | .ckptAbandon k => Sys2Proof.Machine.execCkptAbandon k s
  | .flashCheckpoint => Sys2Proof.Machine.execFlashCheckpoint s
  | .flashImageComplete ok => Sys2Proof.Machine.execFlashImageComplete ok s
  | .storeCheckpoint => Sys2Proof.Machine.execStoreCheckpoint s
  | .storeCopyComplete => Sys2Proof.Machine.execStoreCopyComplete s
  | .stepDeadline => Sys2Proof.Machine.execStepDeadline s
  | .stepCompleteDeadline => Sys2Proof.Machine.execStepCompleteDeadline s
  | .watchdogRefresh => Sys2Proof.Machine.execWatchdogRefresh s
  | .boothWatchdog => Sys2Proof.Machine.execBoothWatchdog s
  | .recoveryReport seat k n => Sys2Proof.Machine.execRecoveryReport seat k n s
  | .recover target lost us b => Sys2Proof.Machine.execRecover target lost us b s
  | .restored seat => Sys2Proof.Machine.execRestored seat s
  | .resume cue step => Sys2Proof.Machine.execResume cue step s
  | .powerOn vin => Sys2Proof.Machine.execPowerOn vin s
  | .resetContact => Sys2Proof.Machine.execResetContact s
  | .powerStage us charged => Sys2Proof.Machine.execPowerStage us charged s
  | .rootStage us => Sys2Proof.Machine.execRootStage us s
  | .hubStage us tailOk => Sys2Proof.Machine.execHubStage us tailOk s
  | .memoryStage us badStacks badWings listOk corrected => Sys2Proof.Machine.execMemoryStage us badStacks badWings listOk corrected s
  | .selfTestStage us fails => Sys2Proof.Machine.execSelfTestStage us fails s
  | .linksStage us => Sys2Proof.Machine.execLinksStage us s
  | .configurationStage us => Sys2Proof.Machine.execConfigurationStage us s
  | .stageTimeout stage => Sys2Proof.Machine.execStageTimeout stage s
  | .promptbookWrite => Sys2Proof.Machine.execPromptbookWrite s
  | .vinBandChange vin => Sys2Proof.Machine.execVinBandChange vin s
  | .powerFail vin vbank => Sys2Proof.Machine.execPowerFail vin vbank s
  | .powerFailStageStop => Sys2Proof.Machine.execPowerFailStageStop s
  | .powerFailRailsOff => Sys2Proof.Machine.execPowerFailRailsOff s
  | .holdupWriteEnd tail written us => Sys2Proof.Machine.execHoldupWriteEnd tail written us s
  | .holdupEnd vin => Sys2Proof.Machine.execHoldupEnd vin s
  | .railFault r => Sys2Proof.Machine.execRailFault r s
  | .clkUnlock domain ports => Sys2Proof.Machine.execClkUnlock domain ports s
  | .governorFill die draw => Sys2Proof.Machine.execGovernorFill die draw s
  | .fillDecay => Sys2Proof.Machine.execFillDecay s
  | .startGrant => Sys2Proof.Machine.execStartGrant s
  | .dutyStep => Sys2Proof.Machine.execDutyStep s
  | .capEvaluate watts => Sys2Proof.Machine.execCapEvaluate watts s
  | .thermalSample d temp => Sys2Proof.Machine.execThermalSample d temp s
  | .coolantSample inlet outlet => Sys2Proof.Machine.execCoolantSample inlet outlet s
  | .getReport nonce => Sys2Proof.Machine.execGetReport nonce s
  | .getCert req => Sys2Proof.Machine.execGetCert req s
  | .challenge req => Sys2Proof.Machine.execChallenge req s
  | .challengeExpiry => Sys2Proof.Machine.execChallengeExpiry s
  | .unlock req => Sys2Proof.Machine.execUnlock req s
  | .close req => Sys2Proof.Machine.execClose req s
  | .claim req => Sys2Proof.Machine.execClaim req s
  | .rotate req => Sys2Proof.Machine.execRotate req s
  | .decommission req => Sys2Proof.Machine.execDecommission req s
  | .reset req => Sys2Proof.Machine.execReset req s
  | .entdaa addr => Sys2Proof.Machine.execEntdaa addr s
  | .setdasa => Sys2Proof.Machine.execSetdasa s
  | .setEndpointId eid => Sys2Proof.Machine.execSetEndpointId eid s
  | .getEndpointId => Sys2Proof.Machine.execGetEndpointId s
  | .getEndpointUuid => Sys2Proof.Machine.execGetEndpointUuid s
  | .getMctpVersionSupport type => Sys2Proof.Machine.execGetMctpVersionSupport type s
  | .getMessageTypeSupport => Sys2Proof.Machine.execGetMessageTypeSupport s
  | .getTid => Sys2Proof.Machine.execGetTid s
  | .setTid tid => Sys2Proof.Machine.execSetTid tid s
  | .getPldmVersion type => Sys2Proof.Machine.execGetPldmVersion type s
  | .getPldmTypes => Sys2Proof.Machine.execGetPldmTypes s
  | .getPldmCommands type version => Sys2Proof.Machine.execGetPldmCommands type version s
  | .getPdr id => Sys2Proof.Machine.execGetPdr id s
  | .getSensorReading id => Sys2Proof.Machine.execGetSensorReading id s
  | .setEventReceiver receiver => Sys2Proof.Machine.execSetEventReceiver receiver s
  | .sensorSample => Sys2Proof.Machine.execSensorSample s
  | .requestUpdate image place => Sys2Proof.Machine.execRequestUpdate image place s
  | .updateComponent off data last => Sys2Proof.Machine.execUpdateComponent off data last s
  | .verifyComplete => Sys2Proof.Machine.execVerifyComplete s
  | .activateFirmware => Sys2Proof.Machine.execActivateFirmware s
  | .cancelUpdate => Sys2Proof.Machine.execCancelUpdate s
  | .rstLRise => Sys2Proof.Machine.execRstLRise s
  | .pfcStormEnd p => Sys2Proof.Machine.execPfcStormEnd p s

end Sys2Proof.Machine
end

