-- ==== Sys2Proof/Machine/Tick.lean ====
section
/-!
DEFINITION. Machine/Tick.lean: one stage cycle of the part (R145, R532, R584): the tiles move, and the register writes that the last
cycle put off are accepted.
-/
namespace Sys2Proof.Machine

/-- The acquires of one lock that wait: one of them wins, and each is answered (R456, R458). -/
def State.acqsOf (s : State) (l : List LateAcq) (n : Nat) : State :=
  let l := l.filter (fun q => q.lock == n)
  let r := (s.readReg (R.CB_LOCK n)).acqWin n (l.map LateAcq.mid)
  l.foldl (fun u q =>
    let v := if some q.mid = r.1 then 0 else r.2.fld (R.CB_LOCK_HOLDER n)
    let v := (v >>> (8 * (q.addr % 8))) % 2 ^ (8 * q.len)
    match q.core with
    | some c => u.coreDone c.core (some (c.kind, c.rd)) v 0
    | none => u.send (.bus q.mid q.addr 0 (leBytes v q.len))) r.2

/-- Every acquire put off, lock by lock (R458). -/
def State.acqsNow (s : State) (l : List LateAcq) : State := (l.map LateAcq.lock).dedup.foldl (fun t n => t.acqsOf l n) s

/-- A halt put off to this cycle (R215). -/
def State.haltLate (s : State) (h : LateHalt) : State := s.bankctlWrite h.tile h.off h.len h.v

/-- One stage cycle. The halts and writes put off are the first that their registers accept in it, and the acquires put off follow them (R458,
R584). Each front-of-house port grants a packet
(R403; DESIGN CHOICE: one in a stage cycle, since packet times are not modelled). -/
def State.tick (s : State) : State :=
  (List.range 4).foldl State.transmit ((s.now.late.foldl State.writeNow (s.now.halting.foldl State.haltLate s.tileTick)).acqsNow s.now.acqs)

end Sys2Proof.Machine
end

