-- ==== Sys2Proof/Safety.lean ====
section
/-!
DEFINITION. Safety.lean: what counts as a safe state and a safe run, in the terms claims use.
-/
namespace Sys2Proof.Machine

/-- The outcome is a next state. -/
def Goes (o : Host.Outcome State Fault Refusal) : Prop := ∃ t, o = .next t

/-- The registers, the memory and the poison marks are in their one canonical form, so that equal contents are equal data. -/
def State.canonical (s : State) : Bool :=
  smapWf regReset s.regs && Memory.wf s.mem && smapWf (fun _ => false) s.poison

/-- A safe state: canonical stores, and no tile halted. -/
def State.safe (s : State) : Bool :=
  s.canonical && (List.range 2048).all (fun t => s.fld (R.TA_SEQ_STATE t) != seqHalted)

/-- A safe step: it answers a next state, and the next state is safe. -/
def SafeStep (s : State) : Prop := ∃ t, step s = .next t ∧ t.safe = true

end Sys2Proof.Machine
end

