-- ==== Sys2Proof/WellFormed.lean ====
section
/-!
DEFINITION. WellFormed.lean: what the manual admits of a command's operands beyond their types: the encodings of the slots (R139, R176),
lengths and places of bus accesses (R27, R583), ports and stages, the shapes of packets (R387) and of management messages (R558).
-/
namespace Sys2Proof

/-- The P-slot instruction a row stands for. -/
def Instr.pInsn : Instr → Option Machine.PInsn
  | .fadd _ d fd a b rm => some (.fop .add d fd a b rm)
  | .fsub _ d fd a b rm => some (.fop .sub d fd a b rm)
  | .fmul _ d fd a b rm => some (.fop .mul d fd a b rm)
  | .fdiv _ d fd a b rm => some (.fop .div d fd a b rm)
  | .fsqrt _ d fd a rm => some (.fop .sqrt d fd a 0 rm)
  | .fmin _ d fd a b rm => some (.fop .min d fd a b rm)
  | .fmax _ d fd a b rm => some (.fop .max d fd a b rm)
  | .fabs _ d fd a rm => some (.fop .abs d fd a 0 rm)
  | .fneg _ d fd a rm => some (.fop .neg d fd a 0 rm)
  | .fcpys _ d fd a b rm => some (.fop .cpys d fd a b rm)
  | .fmac _ d fd a b c rm => some (.fma .mac d fd a b c rm)
  | .fmacn _ d fd a b c rm => some (.fma .macn d fd a b c rm)
  | .fmacs _ d fd a b c rm => some (.fma .macs d fd a b c rm)
  | .fmacns _ d fd a b c rm => some (.fma .macns d fd a b c rm)
  | .cvt _ dt st rd rs1 rm => some (.cvt dt st rd rs1 rm)
  | .vadd _ ty vd a b => some (.vop .add ty vd a b)
  | .vsub _ ty vd a b => some (.vop .sub ty vd a b)
  | .vmul _ ty vd a b => some (.vop .mul ty vd a b)
  | .vmin _ ty vd a b => some (.vop .min ty vd a b)
  | .vmax _ ty vd a b => some (.vop .max ty vd a b)
  | .vand _ ty vd a b => some (.vop .and ty vd a b)
  | .vor _ ty vd a b => some (.vop .or ty vd a b)
  | .vxor _ ty vd a b => some (.vop .xor ty vd a b)
  | .vsll _ ty vd a b => some (.vop .sll ty vd a b)
  | .vsrl _ ty vd a b => some (.vop .srl ty vd a b)
  | .vsra _ ty vd a b => some (.vop .sra ty vd a b)
  | .vceq _ ty vd a b => some (.vop .ceq ty vd a b)
  | .vclt _ ty vd a b => some (.vop .clt ty vd a b)
  | .vcle _ ty vd a b => some (.vop .cle ty vd a b)
  | .vredsum _ ty vd a => some (.vop .redsum ty vd a 0)
  | .vredmax _ ty vd a => some (.vop .redmax ty vd a 0)
  | .vfma _ ty vd a b => some (.vop .fma ty vd a b)
  | .vfms _ ty vd a b => some (.vop .fms ty vd a b)
  | .vfnma _ ty vd a b => some (.vop .fnma ty vd a b)
  | .vbcast _ vd rs1 ty => some (.vbcast vd rs1 ty)
  | .vext _ rd a r ty => some (.vext rd a r ty)
  | .vcmul _ cj ac ty vd a b => some (.vcmul cj ac ty vd a b)
  | _ => none

/-- Bytes of an access: at least one, and as many as its length says. -/
def accessOk (len : Nat) (data : Option (List Byte)) : Bool :=
  decide (0 < len) && (match data with | some l => l.length == len | none => true)

/-- A part of a register write lies in its register. -/
def partOk (p : BitVec 12 × Fin 8 × List Byte) : Bool := decide (0 < p.2.2.length) && decide (p.2.1.val + p.2.2.length ≤ 8)

/-- Is it a booth core that runs the instruction (R197)? -/
def Runner.isBooth : Runner → Bool
  | .tile _ => false
  | .booth _ _ _ => true

/-- Is the command one the manual admits? -/
def Instr.wf (i : Instr) : Bool :=
  match i.pInsn with
  | some p => p.wf
  | none =>
    match i with
    | .registerWrite _ ws => !ws.isEmpty && ws.all partOk
    | .rcRead _ _ len => decide (0 < len.val)
    | .memoryAccess _ _ len data _ _ _ => accessOk len.toNat data
    | .drain _ f => (Machine.MInsn.drain f).wf
    | .copy _ f => f.wc.val != 15
    | .convert _ f => f.wc.val != 15
    | .rwrite _ f => f.wc.val != 15
    | .gather _ f => f.wc.val != 15
    | .regather _ f => f.wc.val != 15
    | .fill _ f => f.wc.val != 15
    | .vgather r vd _ vs2 _ => vd != vs2 || r.isBooth
    | .vlset r _ _ _ => !r.isBooth
    | .bankWrite _ _ _ off data => decide (0 < data.length) && decide (off.val + data.length ≤ 0x20000)
    | .reduceWrite _ _ _ _ data psn _ => decide (0 < data.length) && psn.length == data.length
    | .stageTimeout n => decide (n.val ≤ 6)
    | .collCtrl s n => decide (s.val ≤ 15) && decide (n < 2 ^ 32)
    | _ => true

end Sys2Proof
end

