-- ==== Sys2Proof/Certificates/Slice0/Obligations.lean ====
section
/-!
DEFINITION. Certificates/Slice0/Obligations.lean: the statements about the model, and the few predicates they are written in.
-/
namespace Sys2Proof.Claim
open Sys2Proof.Machine

/-- The command answers a next state, and `P` holds of it. -/
def Completes (c : Instr) (s : State) (P : State → Prop) : Prop := ∃ u, exec c s = .next u ∧ P u

/-- No earlier operation of the tile holds the resource, or the part is in normal service, where the verifier has excluded the
conflict (R148, R149). -/
def Free (s : State) (t r : Nat) : Prop := s.unverifiedMode = false ∨ (s.tile t).freeAt r ≤ s.active

/-- What one slot issued on tile `t` leaves alone: every register but TA_SEQ of that tile, every byte of memory, every poison mark,
every other tile, the booth cores, the promptbook, the fabric, and what is sent. -/
structure TileFrame (t : Nat) (s u : State) : Prop where
  regs : ∀ a, a ≠ R.TA_SEQ t → u.reg a = s.reg a
  bytes : ∀ a, u.byte a = s.byte a
  poison : ∀ a, u.poisoned a = s.poisoned a
  tiles : ∀ k, k ≠ t → u.tile k = s.tile k
  booth : u.booth = s.booth
  pb : u.pb = s.pb
  fab : u.fab = s.fab
  out : u.out = s.out

/-- The results on their way are those of `F`, and nothing else changes but the tile's own sequencing. -/
def Issues (t : Nat) (F : State → State) (s u : State) : Prop :=
  (u.tile t).acts = ((F s).tile t).acts ∧ TileFrame t s u

/-- x[r] takes `v` after `n` cycles; a write of x0 is discarded (R145, R168). -/
def WritesX (t n : Nat) (r : XReg) (v : Word) (s u : State) : Prop :=
  (u.tile t).acts = (s.tile t).acts
      ++ (if r.val = 0 then [] else [⟨s.active + n, (s.tile t).ordNext, .commit (R.TA_PXN t (r.val - 1)) v (-1)⟩])
    ∧ TileFrame t s u

/-- Nothing is scheduled: the slot changes nothing. -/
def Nothing (t : Nat) (s u : State) : Prop := (u.tile t).acts = (s.tile t).acts ∧ TileFrame t s u

/-- Of the registers only those of `P` may change; memory, poison and the tiles' sequencing stay. -/
structure Only (P : Nat → Prop) (s u : State) : Prop where
  regs : ∀ a, ¬ P a → u.reg a = s.reg a
  bytes : ∀ a, u.byte a = s.byte a
  poison : ∀ a, u.poisoned a = s.poisoned a
  tiles : ∀ t, u.tile t = s.tile t

/-- The resilience engine waits for no answer: no checkpoint open, no rebuild, nothing come for it. -/
def ResQuiet (s : State) : Prop := s.fab.resilDone = [] ∧ s.res.opened = none ∧ s.res.restoring = false

/-- The registers a bus write of which does more than their fields' access codes, or at another time (the first of each family). -/
def OwnRule (b : Nat) : Bool :=
  [R.TA_SR_SEED 0, R.TA_MFMT 0, R.TA_PCTL 0, R.TA_SAT_COUNT 0, R.TA_BANKCTL 0, R.TA_DC_CTL, R.TA_DC_AREA 0, R.WG_CACHE_CTL, R.TP_BQ_POST 0,
    R.TP_CLIP_SUMSQ 0, R.TP_SHARD_W0 0 0, R.TP_SR_SEED 0 0, R.TP_SAT_COUNT 0 0, R.FB_CE_POST, R.FB_PORT_CFG 0, R.FB_BUDGET 0, R.FB_RT 0,
    R.FB_CPATH, R.CB_POST 0, R.CB_FLUSH, R.CB_BIND 0, R.CB_ALIAS 0, R.CU_CTL, R.CU_ALARM_CTL 0, R.PW_CAP, R.RS_BAND 0, R.FH_SESS_CFG 0, R.FH_PTP_CFG].contains b
  || (decide (R.TP_HYPER_LR 0 0 ≤ b) && decide (b ≤ R.TP_HYPER_LR 0 0 + 48))

/-- No byte, poison mark, tile or register of `s` changes. -/
def Keeps (s u : State) : Prop := Only (fun _ => False) s u

/-- The part with a packet of QP `q` in its port's receive buffer (R397). -/
def Came (s : State) (k : RocePkt) (q : Qp) : State := (s.rxFrame q.port k.frame).2

/-- A RoCEv2 packet arrives for the connected QP `q` of its QPN, unmarked, its buffer has room and no PFC leaves: nothing but its verb happens. -/
structure Arrives (s : State) (k : RocePkt) (q : Qp) : Prop where
  named : s.qp? k.qpn.toNat = some q
  own : q.qpn = k.qpn.toNat
  intact : k.icrc = true
  open_ : q.connected = true ∧ q.error = false ∧ s.bit (R.FH_PORT_STATUS_UP q.port) = true
  calm : k.ce = false ∧ (s.rxFrame q.port k.frame).1 = true ∧ (Came s k q).out = s.out

/-- Bytes [a, a + n) lie in the wings of `die`, which passed its test, and no unit of memory is poisoned or holds an error. -/
structure InWings (s : State) (die a n : Nat) : Prop where
  place : ∀ j, j < n → ∃ off, regionOf s.cacheN (a + j) = .wings die off
  tested : s.boot.failed.contains (0x100 + die) = false
  clean : ∀ p, s.poisoned p = false
  sound : s.flaws = []

/-- Bytes [a, a + |l|) are `l`, and no other byte has changed. -/
def Stored (a : Nat) (l : List Byte) (s u : State) : Prop :=
  u.bytes a l.length = l ∧ ∀ c, c < a ∨ a + l.length ≤ c → u.byte c = s.byte c

/-- What waits to leave front-of-house port `p` is what waits there in `t`; nothing leaves the part at once (R403). -/
def Waits (p : Nat) (t s u : State) : Prop := (u.fhPort p).txq = (t.fhPort p).txq ∧ u.out = s.out

/-- QP `q`, a responder, answers PSN `n` with syndrome `y` and enters the error state. -/
def Nakked (q : Qp) (n y : Nat) (s u : State) : Prop :=
  Waits q.port ((s.sendRoce q (.ack n y)).unsend q) s u ∧ u.qp? q.qpn = some { q with error := true, connected := false, writing := none, sent := [] }
    ∧ ∀ a, u.byte a = s.byte a

/-- The status ring of HOST session `n` takes an entry at once (R412). -/
structure Room (s : State) (n : Nat) : Prop where
  session : n < 8 ∧ s.hostSess n = true
  cold : s.host.warmCmd = false
  space : s.stsFree n ≠ 0
  first : ∀ w ∈ s.host.waits, w.session ≠ n

/-- The next entry of the status ring of session `n` is `e` (R412, R430). -/
def Said (n : Nat) (e : StEntry) (s u : State) : Prop :=
  u.bytes (ringBase n + 0x100000 + s.ringIdx n offStsPi % 1024 * 64) 64 = e.toBytes s.cue
    ∧ u.ringIdx n offStsPi = (s.ringIdx n offStsPi + 1) % 2 ^ 32

/-- Command `c` is done: it leaves, and its session reads DONE with the code and DETAIL (R431). -/
def Done (c : CmdRec) (code : Nat) (detail : List Byte) (s u : State) : Prop :=
  u.host.cmds = s.host.cmds.filter (fun d => d.id != c.id)
    ∧ Said c.session ⟨c.opcode, 3, code, c.seq, c.cookie, c.done % 2 ^ 32, c.total % 2 ^ 32, detail⟩ s u

end Sys2Proof.Claim

open Sys2Proof Sys2Proof.Machine Sys2Proof.Claim

/-- Integer register instructions write the values of R178. On a tile that can issue, with the resource free, each of the twenty-one
register forms completes: x[rd] takes the stated value at its ready cycle (1, 3 or 20), writes of x0 are discarded, and nothing else
changes. -/
def Obligations.IntegerRegisterResults : Prop :=
  ∀ (s : State) (t : Tile) (rd r1 r2 : XReg) (a b : Word), s.canIssue t = true → a = s.x t r1 → b = s.x t r2 →
    (Free s t resAlu →
      Completes (.iadd (.tile t) rd r1 r2) s (WritesX t 1 rd (a + b) s)
      ∧ Completes (.isub (.tile t) rd r1 r2) s (WritesX t 1 rd (a - b) s)
      ∧ Completes (.iand (.tile t) rd r1 r2) s (WritesX t 1 rd (a &&& b) s)
      ∧ Completes (.ior (.tile t) rd r1 r2) s (WritesX t 1 rd (a ||| b) s)
      ∧ Completes (.ixor (.tile t) rd r1 r2) s (WritesX t 1 rd (a ^^^ b) s)
      ∧ Completes (.ishl (.tile t) rd r1 r2) s (WritesX t 1 rd (a <<< (b.toNat % 64)) s)
      ∧ Completes (.ishr (.tile t) rd r1 r2) s (WritesX t 1 rd (a >>> (b.toNat % 64)) s)
      ∧ Completes (.isar (.tile t) rd r1 r2) s (WritesX t 1 rd (a.sshiftRight (b.toNat % 64)) s)
      ∧ Completes (.ilt (.tile t) rd r1 r2) s (WritesX t 1 rd (if a.toInt < b.toInt then 1 else 0) s)
      ∧ Completes (.iltu (.tile t) rd r1 r2) s (WritesX t 1 rd (if a.toNat < b.toNat then 1 else 0) s)
      ∧ Completes (.imin (.tile t) rd r1 r2) s (WritesX t 1 rd (if a.toInt < b.toInt then a else b) s)
      ∧ Completes (.imax (.tile t) rd r1 r2) s (WritesX t 1 rd (if a.toInt < b.toInt then b else a) s)
      ∧ Completes (.iminu (.tile t) rd r1 r2) s (WritesX t 1 rd (if a.toNat < b.toNat then a else b) s)
      ∧ Completes (.imaxu (.tile t) rd r1 r2) s (WritesX t 1 rd (if a.toNat < b.toNat then b else a) s))
    ∧ (Free s t resMul →
      Completes (.imul (.tile t) rd r1 r2) s (WritesX t 3 rd (BitVec.ofInt 64 (a.toInt * b.toInt)) s)
      ∧ Completes (.imulh (.tile t) rd r1 r2) s (WritesX t 3 rd (BitVec.ofInt 64 (a.toInt * b.toInt / 2 ^ 64)) s)
      ∧ Completes (.imulhu (.tile t) rd r1 r2) s (WritesX t 3 rd (BitVec.ofNat 64 (a.toNat * b.toNat / 2 ^ 64)) s))
    ∧ (Free s t resDiv →
      Completes (.idiv (.tile t) rd r1 r2) s (WritesX t 20 rd
        (if b.toInt = 0 then (if a.toInt < 0 then BitVec.ofInt 64 (-2 ^ 63) else BitVec.ofInt 64 (2 ^ 63 - 1))
         else if a.toInt = -2 ^ 63 ∧ b.toInt = -1 then BitVec.ofInt 64 (2 ^ 63 - 1) else BitVec.ofInt 64 (a.toInt.tdiv b.toInt)) s)
      ∧ Completes (.irem (.tile t) rd r1 r2) s (WritesX t 20 rd
        (if b.toInt = 0 then a else if a.toInt = -2 ^ 63 ∧ b.toInt = -1 then 0 else BitVec.ofInt 64 (a.toInt.tmod b.toInt)) s)
      ∧ Completes (.idivu (.tile t) rd r1 r2) s (WritesX t 20 rd
        (if b.toNat = 0 then BitVec.ofNat 64 (2 ^ 64 - 1) else BitVec.ofNat 64 (a.toNat / b.toNat)) s)
      ∧ Completes (.iremu (.tile t) rd r1 r2) s (WritesX t 20 rd (if b.toNat = 0 then a else BitVec.ofNat 64 (a.toNat % b.toNat)) s))

/-- Integer immediates, IPUTH, GETCYC and GETCUE. IADDK, ILTK and ILTUK sign-extend the immediate, IANDK, IORK and IXORK zero-extend
it, shifts take six bits, IPUTH replaces one 16-bit quarter, GETCYC gives the stage-cycle count and GETCUE the cue count; the result
commits at cycle 1 and nothing else changes. -/
def Obligations.IntegerImmediateResults : Prop :=
  ∀ (s : State) (t : Tile) (rd r1 : XReg) (imm : BitVec 16) (sh : Fin 64) (h : Fin 4) (a : Word),
    s.canIssue t = true → Free s t resAlu → a = s.x t r1 →
      Completes (.iaddk (.tile t) rd r1 imm) s (WritesX t 1 rd (a + imm.signExtend 64) s)
      ∧ Completes (.iandk (.tile t) rd r1 imm) s (WritesX t 1 rd (a &&& imm.zeroExtend 64) s)
      ∧ Completes (.iork (.tile t) rd r1 imm) s (WritesX t 1 rd (a ||| imm.zeroExtend 64) s)
      ∧ Completes (.ixork (.tile t) rd r1 imm) s (WritesX t 1 rd (a ^^^ imm.zeroExtend 64) s)
      ∧ Completes (.iltk (.tile t) rd r1 imm) s (WritesX t 1 rd (if a.toInt < imm.toInt then 1 else 0) s)
      ∧ Completes (.iltuk (.tile t) rd r1 imm) s (WritesX t 1 rd (if a.toNat < (imm.signExtend 64).toNat then 1 else 0) s)
      ∧ Completes (.ishlk (.tile t) rd r1 sh) s (WritesX t 1 rd (a <<< sh.val) s)
      ∧ Completes (.ishrk (.tile t) rd r1 sh) s (WritesX t 1 rd (a >>> sh.val) s)
      ∧ Completes (.isark (.tile t) rd r1 sh) s (WritesX t 1 rd (a.sshiftRight sh.val) s)
      ∧ Completes (.iputh (.tile t) rd h imm) s (WritesX t 1 rd
          ((s.x t rd &&& ~~~((0xFFFF : Word) <<< (16 * h.val))) ||| (imm.zeroExtend 64 <<< (16 * h.val))) s)
      ∧ Completes (.getcyc (.tile t) rd) s (WritesX t 1 rd (BitVec.ofNat 64 s.cycle) s)
      ∧ Completes (.getcue (.tile t) rd) s (WritesX t 1 rd (s.reg R.CU_COUNT) s)

/-- No-operations, VLSET, HOLDPT and the handler returns complete. The no-operations change nothing. MATRIX_NOP, DNOP, SNOP and PROMPTER_NOP complete on a tile that can issue and schedule nothing. VLSET, HOLDPT, TRET and TSKIP. VLSET sets VL and rd to the lesser of x[rs1] and 512 / W at cycle 1; HOLDPT puts a trap without a
restart one cycle on; in a handler TRET and TSKIP restore RESUME and REPEAT_LEFT from TA_PTRAP2, and two cycles on TRET with RESTART
issues the word of TA_PTRAP3 again, while the others resume the stream. -/
def Obligations.NoOperationsVlAndReturns : Prop :=
  (∀ (s : State) (t : Tile), s.canIssue t = true →
     Completes (.matrixNop t) s (Nothing t s) ∧ Completes (.dnop t) s (Nothing t s)
     ∧ Completes (.snop t) s (Nothing t s) ∧ Completes (.prompterNop (.tile t)) s (Nothing t s))
  ∧ (∀ (s : State) (t : Tile) (rd r1 : XReg) (ty : VTy), s.canIssue t = true → Free s t resAlu →
     Completes (.vlset (.tile t) rd r1 ty) s (
       let n : Word := BitVec.ofNat 64 (min (s.x t r1).toNat (512 / ty.width))
       Issues t (fun v => (v.schedX t 1 rd n).sched t 1 (.commit (R.TA_PVL t) n 0xFF)) s)
     ∧ ((s.tile t).trap = none → (s.unverifiedMode = false ∨ (s.tile t).overlapUntil ≤ s.active) →
       Completes (.holdpt (.tile t)) s (fun u => Nothing t s u
         ∧ ∃ r, (u.tile t).trap = some r ∧ r.due = s.active + 1 ∧ r.cause = 0x26 ∧ r.restart = false ∧ r.pt = s.issuePt t))
     ∧ (s.inHandler t = true →
       ∀ c ∈ [Instr.tret (.tile t), Instr.tskip (.tile t)], Completes c s (fun u =>
         u.fld (R.TA_SEQ_RESUME t) = s.fld (R.TA_PTRAP2_RESUME t) ∧ u.fld (R.TA_SEQ_REPEAT_LEFT t) = s.fld (R.TA_PTRAP2_REPEAT_LEFT t)
         ∧ (if c = Instr.tret (.tile t) ∧ s.bit (R.TA_PTRAP2_RESTART t) = true then (u.tile t).reexec = some (s.active + 2, s.fld (R.TA_PTRAP3_INSN t))
            else (u.tile t).resumeAt = some (s.active + 2))
         ∧ Nothing t s u)))

/-- Scalar loads and stores of the own tile complete as Table 6.4 says. Scalar loads from prompter memory and from the other stores of the own tile. A naturally aligned load whose words hold no poison
completes: from prompter memory, in a word without an error, the value reaches its register two cycles after issue, sign- or zero-extended, and from any other
place of the tile a read is made one cycle after issue whose value commits three cycles later. Scalar stores to the own tile. An aligned store that leaves no poisoned word half written completes, and its bytes, the low ones of
the register in little-endian order, are performed one cycle after issue at the address x[rs1] plus the sign-extended immediate; no
byte changes at the issue itself. -/
def Obligations.OwnTileLoadsAndStores : Prop :=
  (∀ (s : State) (t : Tile) (rd : XReg) (fd : FReg) (r1 : XReg) (imm : BitVec 16) (p : Nat),
     s.canIssue t = true → Free s t resLsu → (s.unverifiedMode = false ∨ (s.tile t).overlapUntil ≤ s.active) →
     (s.effAddr t r1 imm).toNat < 2 ^ 20 → p = tileBase t + (s.effAddr t r1 imm).toNat →
     let later := fun (k : LdKind) (r : Nat) (i : PInsn) (v : State) => v.sched t 1 (.load p k r (encodeP i) (s.issuePt t) (s.inHandler t) 3)
     let ok := fun (n : Nat) => ownAddr t (s.effAddr t r1 imm) n n = .ok p
     (isPmem p = true → s.wordsPoisoned p 8 = false → smapGet 0 s.flaws (p / 8 * 8) = 0 →
       (ok 1 → Completes (.ldb (.tile t) rd r1 imm) s (WritesX t 2 rd ((BitVec.ofNat 8 (s.num p 1)).signExtend 64) s)
         ∧ Completes (.ldbu (.tile t) rd r1 imm) s (WritesX t 2 rd (BitVec.ofNat 64 (s.num p 1)) s))
       ∧ (ok 2 → Completes (.ldh (.tile t) rd r1 imm) s (WritesX t 2 rd ((BitVec.ofNat 16 (s.num p 2)).signExtend 64) s)
         ∧ Completes (.ldhu (.tile t) rd r1 imm) s (WritesX t 2 rd (BitVec.ofNat 64 (s.num p 2)) s))
       ∧ (ok 4 → Completes (.ldw (.tile t) rd r1 imm) s (WritesX t 2 rd ((BitVec.ofNat 32 (s.num p 4)).signExtend 64) s)
         ∧ Completes (.ldwu (.tile t) rd r1 imm) s (WritesX t 2 rd (BitVec.ofNat 64 (s.num p 4)) s)
         ∧ Completes (.fldw (.tile t) fd r1 imm) s (Issues t (fun v => v.schedF t 2 fd (BitVec.ofNat 64 (s.num p 4)) (-1)) s))
       ∧ (ok 8 → Completes (.ldd (.tile t) rd r1 imm) s (WritesX t 2 rd (BitVec.ofNat 64 (s.num p 8)) s)
         ∧ Completes (.fldd (.tile t) fd r1 imm) s (Issues t (fun v => v.schedF t 2 fd (BitVec.ofNat 64 (s.num p 8)) (-1)) s)))
     ∧ (isPmem p = false →
       (ok 1 → Completes (.ldb (.tile t) rd r1 imm) s (Issues t (later .b rd (.load .b (mkF rd) r1 imm)) s)
         ∧ Completes (.ldbu (.tile t) rd r1 imm) s (Issues t (later .bu rd (.load .bu (mkF rd) r1 imm)) s))
       ∧ (ok 2 → Completes (.ldh (.tile t) rd r1 imm) s (Issues t (later .h rd (.load .h (mkF rd) r1 imm)) s)
         ∧ Completes (.ldhu (.tile t) rd r1 imm) s (Issues t (later .hu rd (.load .hu (mkF rd) r1 imm)) s))
       ∧ (ok 4 → Completes (.ldw (.tile t) rd r1 imm) s (Issues t (later .w rd (.load .w (mkF rd) r1 imm)) s)
         ∧ Completes (.ldwu (.tile t) rd r1 imm) s (Issues t (later .wu rd (.load .wu (mkF rd) r1 imm)) s)
         ∧ Completes (.fldw (.tile t) fd r1 imm) s (Issues t (later .fw fd (.load .fw fd r1 imm)) s))
       ∧ (ok 8 → Completes (.ldd (.tile t) rd r1 imm) s (Issues t (later .d rd (.load .d (mkF rd) r1 imm)) s)
         ∧ Completes (.fldd (.tile t) fd r1 imm) s (Issues t (later .fd fd (.load .fd fd r1 imm)) s))))
  ∧ (∀ (s : State) (t : Tile) (r2 : XReg) (f2 : FReg) (r1 : XReg) (imm : BitVec 16) (p : Nat),
     s.canIssue t = true → Free s t resLsu → (s.unverifiedMode = false ∨ (s.tile t).overlapUntil ≤ s.active) →
     (s.effAddr t r1 imm).toNat < 2 ^ 20 → p = tileBase t + (s.effAddr t r1 imm).toNat →
     let ok := fun (n : Nat) => ownAddr t (s.effAddr t r1 imm) n n = .ok p ∧ s.partPoisoned p n = false
     let put := fun (w : Word) (n : Nat) => Issues t (fun v => v.storeOwn t p (leBytes w.toNat n)) s
     (ok 1 → Completes (.stb (.tile t) r2 r1 imm) s (put (s.x t r2) 1))
     ∧ (ok 2 → Completes (.sth (.tile t) r2 r1 imm) s (put (s.x t r2) 2))
     ∧ (ok 4 → Completes (.stw (.tile t) r2 r1 imm) s (put (s.x t r2) 4) ∧ Completes (.fstw (.tile t) f2 r1 imm) s (put (s.f t f2) 4))
     ∧ (ok 8 → Completes (.std (.tile t) r2 r1 imm) s (put (s.x t r2) 8) ∧ Completes (.fstd (.tile t) f2 r1 imm) s (put (s.f t f2) 8)))

/-- Prompter accesses that fault or leave the tile. An own-tile access that R175 refuses loads and stores nothing. LDD, LDB, STD and STB to an address that is out of range, misaligned or
in an instruction bank schedule no result, and a fault with that cause and address is on its way to the trap point. A prompter access outside its tile is counted by WC15 and completes it. LDD and STD to a global address add one to WC15 and queue the
access; a format word for which the manual leaves the exclusion to the verifier and gives no behaviour stops its issue by name: an MM whose words
R104 does not pair, and a DRAIN or CONVERT whose word names no format, answer the fault undefinedFormat. GLOBAL_ACCESS_COMPLETE of an access whose address bits [62:59] are not zero takes it out, lowers WC15, and, for a load of
x[rd] and with no other commit in the cycle, writes zero there; the access is not performed, so no byte of memory changes. -/
def Obligations.AccessesThatFaultOrLeaveTheTile : Prop :=
  (∀ (s : State) (t : Tile) (rd r1 : XReg) (imm : BitVec 16) (cause : Nat),
      s.canIssue t = true → Free s t resLsu → (s.unverifiedMode = false ∨ (s.tile t).overlapUntil ≤ s.active) →
      (s.tile t).trap = none → (s.effAddr t r1 imm).getLsbD 63 = false →
      let hit := fun (d : Nat) (u : State) => (u.tile t).acts = (s.tile t).acts ∧ TileFrame t s u
        ∧ ∃ r, (u.tile t).trap = some r ∧ r.due = s.active + d ∧ r.cause = cause ∧ r.addr = s.effAddr t r1 imm ∧ r.restart = true
      let a := (s.effAddr t r1 imm).toNat
      let d := if a < 2 ^ 20 ∧ isPmem (tileBase t + a) = true then 2 else 4
      (ownAddr t (s.effAddr t r1 imm) 8 8 = .error cause → Completes (.ldd (.tile t) rd r1 imm) s (hit d) ∧ Completes (.std (.tile t) rd r1 imm) s (hit 1))
      ∧ (ownAddr t (s.effAddr t r1 imm) 1 1 = .error cause → Completes (.ldb (.tile t) rd r1 imm) s (hit d) ∧ Completes (.stb (.tile t) rd r1 imm) s (hit 1))
      ∧ (2 ^ 20 ≤ a → ownAddr t (s.effAddr t r1 imm) 8 8 = .error 0x21)
      ∧ (a < 2 ^ 20 → a % 8 ≠ 0 → ownAddr t (s.effAddr t r1 imm) 8 8 = .error 0x22)
      ∧ (0x80000 ≤ a → a < 0xC0000 → a % 8 = 0 → ownAddr t (s.effAddr t r1 imm) 8 8 = .error 0x24))
  ∧ ((∀ (s : State) (t : Tile) (rd r1 : XReg) (imm : BitVec 16), s.canIssue t = true → Free s t resLsu →
      (s.effAddr t r1 imm).getLsbD 63 = true → (s.tile t).globals.length < 32 →
      Completes (.ldd (.tile t) rd r1 imm) s (fun u => u.wc t 15 = (s.wc t 15 + 1) % 256 ∧ (∀ a, u.byte a = s.byte a) ∧ u.out = s.out
        ∧ ∃ g, (u.tile t).globals = (s.tile t).globals ++ [g] ∧ g.addr = (s.effAddr t r1 imm).toNat % 2 ^ 59 ∧ g.load = some (.d, rd.val))
      ∧ Completes (.std (.tile t) rd r1 imm) s (fun u => u.wc t 15 = (s.wc t 15 + 1) % 256 ∧ (∀ a, u.byte a = s.byte a) ∧ u.out = s.out
        ∧ ∃ g, (u.tile t).globals = (s.tile t).globals ++ [g] ∧ g.addr = (s.effAddr t r1 imm).toNat % 2 ^ 59 ∧ g.load = none
          ∧ g.bytes = leBytes (s.x t rd).toNat 8))
    ∧ (∀ (s : State) (t : Tile) (k : Fin 32) (ecc : EccFinding) (g : GlobAcc) (rd : Nat), (s.tile t).globals[k.val]? = some g → g.bad = true →
      g.load = some (.d, rd) → 0 < rd → rd < 16 → 0 < s.wc t 15 → s.won = [] →
      Completes (.globalAccessComplete t k ecc) s (fun u => u.x t rd = 0 ∧ u.wc t 15 = s.wc t 15 - 1 ∧ u.discardFlag = true
        ∧ (u.tile t).globals = (s.tile t).globals.filter (fun y => decide (y.id ≠ g.id)) ∧ ∀ a, u.byte a = s.byte a)))
  ∧ (∀ (s : State) (t : Tile), s.canIssue t = true →
     (∀ f, s.mmArgs t f = none → exec (.mm t f) s = .fault .undefinedFormat)
     ∧ (∀ f, (Instr.drain t f).wf = true → s.checkM t (.drain f) = none → FmtWord.ofWord (s.mfmt t f.fsd) = none →
         exec (.drain t f) s = .fault .undefinedFormat)
     ∧ (∀ f, s.checkD t (.op .convert f) = none → FmtWord.ofWord (s.fld ⟨R.TA_DMD_W2 t f.desc, 63, 48⟩) = none →
         exec (.convert t f) s = .fault .undefinedFormat))

/-- Branches and jumps. A branch whose comparison holds makes the bundle at its index plus offset16, modulo 8192, the next to issue, two
cycles on; one whose comparison fails leaves the flow. CALL jumps to its target and writes the index after its own bundle to rd at
cycle 1. JREG jumps to x[rs1][12:0]. -/
def Obligations.BranchesAndJumps : Prop :=
  ∀ (s : State) (t : Tile) (r1 r2 rd : XReg) (off : BitVec 16) (target : BitVec 13), s.canIssue t = true → Free s t resAlu →
    let a := s.x t r1
    let b := s.x t r2
    let here := (s.issuePt t).bundle
    let flow := fun (held : Prop) [Decidable held] (u : State) =>
      (if held then u.fld (R.TA_SEQ_RESUME t) = (((here : Int) + off.toInt) % 8192).toNat ∧ (u.tile t).issueAt = s.active + 2
       else u.fld (R.TA_SEQ_RESUME t) = s.fld (R.TA_SEQ_RESUME t) ∧ (u.tile t).issueAt = (s.tile t).issueAt)
      ∧ (u.tile t).acts = (s.tile t).acts ∧ TileFrame t s u
    Completes (.cbeq (.tile t) r1 r2 off) s (flow (a = b)) ∧ Completes (.cbne (.tile t) r1 r2 off) s (flow (a ≠ b))
    ∧ Completes (.cblt (.tile t) r1 r2 off) s (flow (a.toInt < b.toInt)) ∧ Completes (.cbge (.tile t) r1 r2 off) s (flow (b.toInt ≤ a.toInt))
    ∧ Completes (.cbltu (.tile t) r1 r2 off) s (flow (a.toNat < b.toNat)) ∧ Completes (.cbgeu (.tile t) r1 r2 off) s (flow (b.toNat ≤ a.toNat))
    ∧ Completes (.call (.tile t) rd target) s (fun u => WritesX t 1 rd (BitVec.ofNat 64 (here + 1)) s u
        ∧ u.fld (R.TA_SEQ_RESUME t) = target.toNat ∧ (u.tile t).issueAt = s.active + 2)
    ∧ Completes (.jreg (.tile t) r1) s (fun u => Nothing t s u ∧ u.fld (R.TA_SEQ_RESUME t) = a.toNat % 8192 ∧ (u.tile t).issueAt = s.active + 2)

/-- Scalar floating point. Each of FADD to FCPYS and the four fused kinds completes with one rounding in the mode RM or TA_PCTL.FRM names;
the sign operations work on bits; compares, FKIND and moves write their stated value; results commit at the cycle Table 5.6 gives,
with the status flags beside them. The sign and payload of a NaN that arithmetic makes are a free value. -/
def Obligations.FloatingPointResults : Prop :=
  ∀ (s : State) (t : Tile) (d : Bool) (fd f1 f2 f3 : FReg) (rd r1 : XReg) (rm : Rm),
    s.canIssue t = true → Free s t resFpu → Free s t resDiv → rmFOk rm = true →
    let v := fun (r : FReg) => if d then decB64 (s.f t r).toNat else decB32 ((s.f t r).toNat % 2 ^ 32)
    let fmt := if d then fB64 else fB32
    let m := ieeeMode (s.rmCode t rm)
    let w := if d then 64 else 32
    let low := fun (r : FReg) => (s.f t r).toNat % 2 ^ w
    let put := fun (n : Nat) (r : Val × Nat) => Issues t (fun x => ((x.schedF t n fd (BitVec.ofNat 64
      (if d then encB64 (s.freeAt 0) r.1 else encB32 (s.freeAt 0) r.1)) (-1)).schedStat t n
        (.ofFlags (Nat.lor r.2 (if m.2 then fModeFix else 0))))) s
    let bits := fun (n : Nat) => Issues t (fun x => x.schedF t 3 fd (BitVec.ofNat 64 n) (-1)) s
    let cmp := fun (r : Nat × Nat) => Issues t (fun x => (x.schedX t 3 rd (BitVec.ofNat 64 r.1)).schedStat t 3 (.ofFlags r.2)) s
    let long := if d then 24 else 14
    let inv := if (v f1).isNan || (v f2).isNan then fInvalid else 0
    Completes (.fadd (.tile t) d fd f1 f2 rm) s (put 4 (arithNan (fAdd fmt m.1 (v f1) (v f2))))
    ∧ Completes (.fsub (.tile t) d fd f1 f2 rm) s (put 4 (arithNan (fSub fmt m.1 (v f1) (v f2))))
    ∧ Completes (.fmul (.tile t) d fd f1 f2 rm) s (put 4 (arithNan (fMul fmt m.1 (v f1) (v f2))))
    ∧ Completes (.fdiv (.tile t) d fd f1 f2 rm) s (put long (arithNan (fDiv fmt m.1 (v f1) (v f2))))
    ∧ Completes (.fsqrt (.tile t) d fd f1 rm) s (put long (arithNan (fSqrt fmt m.1 (v f1))))
    ∧ Completes (.fmin (.tile t) d fd f1 f2 rm) s (put 3 (fMinMax false (v f1) (v f2)))
    ∧ Completes (.fmax (.tile t) d fd f1 f2 rm) s (put 3 (fMinMax true (v f1) (v f2)))
    ∧ Completes (.fabs (.tile t) d fd f1 rm) s (bits (low f1 % 2 ^ (w - 1)))
    ∧ Completes (.fneg (.tile t) d fd f1 rm) s (bits ((low f1 + 2 ^ (w - 1)) % 2 ^ w))
    ∧ Completes (.fcpys (.tile t) d fd f1 f2 rm) s (bits (low f1 % 2 ^ (w - 1) + low f2 / 2 ^ (w - 1) * 2 ^ (w - 1)))
    ∧ Completes (.fmac (.tile t) d fd f1 f2 f3 rm) s (put 5 (fusedVal fmt m.1 (v f1) (v f2) (v f3)))
    ∧ Completes (.fmacn (.tile t) d fd f1 f2 f3 rm) s (put 5 (fusedVal fmt m.1 (v f1).neg (v f2) (v f3)))
    ∧ Completes (.fmacs (.tile t) d fd f1 f2 f3 rm) s (put 5 (fusedVal fmt m.1 (v f1) (v f2) (v f3).neg))
    ∧ Completes (.fmacns (.tile t) d fd f1 f2 f3 rm) s (put 5 (fusedVal fmt m.1 (v f1).neg (v f2) (v f3).neg))
    ∧ Completes (.fceq (.tile t) d rd f1 f2) s (cmp (b2n ((v f1).eq (v f2)), nanFlags [v f1, v f2]))
    ∧ Completes (.fclt (.tile t) d rd f1 f2) s (cmp (b2n ((v f1).lt (v f2)), inv))
    ∧ Completes (.fcle (.tile t) d rd f1 f2) s (cmp (b2n ((v f1).le (v f2)), inv))
    ∧ Completes (.fkind (.tile t) d rd f1) s (cmp (fKind fmt (v f1), 0))
    ∧ Completes (.ftox (.tile t) d rd f1) s (WritesX t 3 rd (BitVec.ofNat 64 (low f1)) s)
    ∧ Completes (.xtof (.tile t) d fd r1) s (bits ((s.x t r1).toNat % 2 ^ w))

/-- CVT and VCVT are converting units. With an encodable pair of types and rounding code, CVT writes the converted scalar at cycle 3, into
an x register for an integer type and an f register otherwise, with its status; VCVT does so for each element below VL. -/
def Obligations.Conversions : Prop :=
  (∀ (s : State) (t : Tile) (dt st : CTy) (rd r1 : FReg) (rm : Rm), s.canIssue t = true → Free s t resFpu →
    (Instr.cvt (.tile t) dt st rd r1 rm).wf = true →
    let m := effRound dt.fmt (s.rmCode t rm)
    let r := cvtResult dt st m.1 (s.tileDraw t unitPrompter 0) (if st.isInt then s.x t r1 else s.f t r1)
    Completes (.cvt (.tile t) dt st rd r1 rm) s (Issues t (fun v =>
      (if dt.isInt then v.schedX t 3 rd r.1 else v.schedF t 3 rd r.1 (-1)).schedStat t 3
        { r.2 with flags := Nat.lor r.2.flags (if m.2 then fModeFix else 0) }) s))
  ∧ (∀ (s : State) (t : Tile) (vd vs1 : VReg) (st dt : VTy), s.canIssue t = true → Free s t resVec →
    s.vl t ≤ maxVl (max st.width dt.width) → 0 < s.vl t →
    let m := effRound dt.fmt (s.vrmCode t)
    let r := vConvert st dt m.1 (s.tileDraw t unitPrompter) (s.vl t) (s.v t vs1)
    let n := vBeats (s.vl t) (max st.width dt.width) + 2
    Completes (.vcvt (.tile t) vd vs1 st dt) s (Issues t (fun v => (v.schedV t n vd r.1 r.2.1).schedStat t n
      { r.2.2 with flags := Nat.lor r.2.2.flags (if m.2 then fModeFix else 0) }) s))

/-- Vector arithmetic acts on the elements below VL, in the cycles of its table. Vector arithmetic. With VL in range for the element width, every elementwise operation, reduction, broadcast, extraction and complex
multiply completes: its bits reach the destination n + 2, n + 4 or 2n + 4 cycles on, where n is the number of 64-bit beats. An elementwise vector operation acts on elements below VL and on no other bit. Its mask covers exactly the low VL elements, and each
integer element is the stated function of the same elements of the sources, wrapped to the width. -/
def Obligations.VectorArithmeticBelowVl : Prop :=
  (∀ (s : State) (t : Tile) (ty : VTy) (vd v1 v2 : VReg) (conj acc : Bool) (rf : FReg) (r2 : XReg),
     s.canIssue t = true → Free s t resVec → s.vl t ≤ maxVl ty.width → 0 < s.vl t →
     let vl := s.vl t
     let n := vBeats vl ty.width
     let m := s.vrm t
     let each := fun (op : VOp) (k : Nat) =>
       let r := vElementwise op ty m.1 s.freeAt vl (s.v t vd) (s.v t v1) (s.v t v2)
       Issues t (fun x => (x.schedV t (n + k) vd r.1 r.2.1).schedStat t (n + k) (.ofFlags (Nat.lor r.2.2 (if vRounds op ty then m.2 else 0)))) s
     let red := fun (op : VOp) =>
       let r := vReduce op ty m.1 (s.freeAt 0) vl (s.v t v1)
       Issues t (fun x => (x.schedV t (n + 2) vd r.1 (2 ^ ty.width - 1)).schedStat t (n + 2) (.ofFlags (Nat.lor r.2 (if vRounds op ty then m.2 else 0)))) s
     (ty ≠ .sk16 →
       Completes (.vadd (.tile t) ty vd v1 v2) s (each .add 2) ∧ Completes (.vsub (.tile t) ty vd v1 v2) s (each .sub 2)
       ∧ Completes (.vmul (.tile t) ty vd v1 v2) s (each .mul 4) ∧ Completes (.vmin (.tile t) ty vd v1 v2) s (each .min 2)
       ∧ Completes (.vmax (.tile t) ty vd v1 v2) s (each .max 2) ∧ Completes (.vceq (.tile t) ty vd v1 v2) s (each .ceq 2)
       ∧ Completes (.vclt (.tile t) ty vd v1 v2) s (each .clt 2) ∧ Completes (.vcle (.tile t) ty vd v1 v2) s (each .cle 2))
     ∧ (ty.isInt = true →
       Completes (.vand (.tile t) ty vd v1 v2) s (each .and 2) ∧ Completes (.vor (.tile t) ty vd v1 v2) s (each .or 2)
       ∧ Completes (.vxor (.tile t) ty vd v1 v2) s (each .xor 2) ∧ Completes (.vsll (.tile t) ty vd v1 v2) s (each .sll 2)
       ∧ Completes (.vsrl (.tile t) ty vd v1 v2) s (each .srl 2) ∧ Completes (.vsra (.tile t) ty vd v1 v2) s (each .sra 2))
     ∧ (ty.isFp = true →
       Completes (.vfma (.tile t) ty vd v1 v2) s (each .fma 4) ∧ Completes (.vfms (.tile t) ty vd v1 v2) s (each .fms 4)
       ∧ Completes (.vfnma (.tile t) ty vd v1 v2) s (each .fnma 4)
       ∧ Completes (.vredsum (.tile t) ty vd v1) s (red .redsum) ∧ Completes (.vredmax (.tile t) ty vd v1) s (red .redmax)
       ∧ Completes (.vcmul (.tile t) conj acc ty vd v1 v2) s (
           let r := vCmul conj acc ty m.1 s.freeAt vl (s.v t vd) (s.v t v1) (s.v t v2)
           Issues t (fun x => (x.schedV t (2 * n + 4) vd r.1 r.2.1).schedStat t (2 * n + 4) (.ofFlags (Nat.lor r.2.2 m.2))) s))
     ∧ ((ty.isInt = true → rf.val < 16) → Completes (.vbcast (.tile t) vd rf ty) s (
           let r := vBroadcast ty.width vl (if ty.isInt then s.x t rf else s.f t rf).toNat
           Issues t (fun x => x.schedV t (n + 2) vd r.1 r.2) s)
         ∧ Completes (.vext (.tile t) rf v1 r2 ty) s (
           let e := vElem (s.v t v1) ty.width ((s.x t r2).toNat % maxVl ty.width)
           Issues t (fun x => if ty.isInt then x.schedX t 3 rf (sextW ty.width e) else x.schedF t 3 rf (BitVec.ofNat 64 e) (-1)) s)))
  ∧ (∀ (ty : VTy) (mode : RMode) (free : Nat → Nat) (vl d a b : Nat), vl ≤ maxVl ty.width →
     (∀ op, ty.isInt = true → (vElementwise op ty mode free vl d a b).2.1 = 2 ^ (vl * ty.width) - 1)
     ∧ (∀ j, j < vl → ty.isInt = true →
       vElem (vElementwise .add ty mode free vl d a b).1 ty.width j = (vElem a ty.width j + vElem b ty.width j) % 2 ^ ty.width
       ∧ vElem (vElementwise .mul ty mode free vl d a b).1 ty.width j = (vElem a ty.width j * vElem b ty.width j) % 2 ^ ty.width
       ∧ vElem (vElementwise .and ty mode free vl d a b).1 ty.width j = Nat.land (vElem a ty.width j) (vElem b ty.width j)
       ∧ vElem (vElementwise .ceq ty mode free vl d a b).1 ty.width j =
           (if vElem a ty.width j = vElem b ty.width j then 2 ^ ty.width - 1 else 0))
     ∧ (∀ j, j < vl → vElem (vBroadcast ty.width vl d).1 ty.width j = d % 2 ^ ty.width))

/-- Vector loads, stores, gathers and scatters of the own tile. With a 64-byte aligned base, no half-written poison and 0 < VL in range,
VLD reads one cycle after issue and VST performs its bytes at cycle 1; VGATHER and VSCATTER take the address of element j as
x[vs1] plus index j times the element size, modulo 2⁶⁴, and complete VL + 4 cycles on. -/
def Obligations.VectorMemory : Prop :=
  ∀ (s : State) (t : Tile) (vd v2 : VReg) (r1 : XReg) (ty : VTy) (p : Nat),
    s.canIssue t = true → (s.unverifiedMode = false ∨ (s.tile t).overlapUntil ≤ s.active) → 0 < s.vl t → s.vl t ≤ maxVl ty.width →
    let vl := s.vl t
    let size := vl * ty.width / 8
    (Free s t resLsu → (s.x t r1).getLsbD 63 = false → ownAddr t (s.x t r1) size 64 = .ok p →
      Completes (.vld (.tile t) vd r1 ty) s (Issues t (fun v => v.sched t 1
        (.vload p vl ty.width vd (encodeP (.vld vd r1 ty)) (s.issuePt t) (s.inHandler t))) s)
      ∧ (s.partPoisoned p size = false → Completes (.vst (.tile t) vd r1 ty) s (Issues t (fun v => v.storeOwn t p (leBytes (s.v t vd) size)) s)))
    ∧ (Free s t resVmem → vl ≤ maxVl 32 → vd ≠ v2 →
      (∀ c ∈ [Instr.vgather (.tile t) vd r1 v2 ty, Instr.vscatter (.tile t) vd r1 v2 ty],
        Completes c s (fun u => ∃ g, g ∈ (u.tile t).gathers ∧ g.id = (s.tile t).ordNext
          ∧ g.scatter = (c == Instr.vscatter (.tile t) vd r1 v2 ty)
          ∧ g.addrs = (List.range vl).map (fun j => s.x t r1 + BitVec.ofNat 64 (vElem (s.v t v2) 32 j * (ty.width / 8)))
          ∧ (∃ o, (⟨s.active + (vl + 4), o, .gatherDone g.id⟩ : Act) ∈ (u.tile t).acts)
          ∧ ∀ a, u.byte a = s.byte a)))

/-- Booth cores run the instructions of Table 6.2 as a plain stream. On a core that runs and waits for nothing: integer instructions write
the values they have on a tile at once and go on to the next instruction; branch targets count instructions; a scalar floating
instruction rounds in the mode RM names (a free mode for 0b111, log entry 30); HOLDPT, TRET and TSKIP keep every register and go to a
place that is free (log entry 30); VLSET, or a form no table admits, stops with reservedInstruction; BUNDLE_FETCH performs the word at the
core's index. Nothing outside the core changes. -/
def Obligations.BoothCoresRunTheSameInstructions : Prop :=
  ∀ (s : State) (n : Fin 2) (pred pd : Fin 8), s.coreRuns n = true →
    let c := s.core n
    let q := Runner.booth n pred pd
    let free := s.freeAt
    let goes := fun (i : Instr) (d : BoothCore) (k : Nat) => exec i s = .next ((s.setCore n d).usedFree k)
    (∀ (rd r1 r2 : XReg), ∀ p ∈ [(Instr.iadd q rd r1 r2, IntOp.add), (.isub q rd r1 r2, .sub), (.iand q rd r1 r2, .and), (.ior q rd r1 r2, .or),
        (.ixor q rd r1 r2, .xor), (.ishl q rd r1 r2, .shl), (.ishr q rd r1 r2, .shr), (.isar q rd r1 r2, .sar), (.ilt q rd r1 r2, .lt),
        (.iltu q rd r1 r2, .ltu), (.imin q rd r1 r2, .min), (.imax q rd r1 r2, .max), (.iminu q rd r1 r2, .minu), (.imaxu q rd r1 r2, .maxu),
        (.imul q rd r1 r2, .mul), (.imulh q rd r1 r2, .mulh), (.imulhu q rd r1 r2, .mulhu), (.idiv q rd r1 r2, .div),
        (.idivu q rd r1 r2, .divu), (.irem q rd r1 r2, .rem), (.iremu q rd r1 r2, .remu)],
      goes p.1 (c.setX rd (intAlu p.2 (c.xr r1) (c.xr r2))).step 0)
    ∧ (∀ (rd r1 : XReg) (imm : BitVec 16) (sh : Fin 64) (h : Fin 4),
        (∀ p ∈ [(Instr.iaddk q rd r1 imm, c.xr r1 + imm.signExtend 64), (.iandk q rd r1 imm, c.xr r1 &&& imm.zeroExtend 64),
          (.iork q rd r1 imm, c.xr r1 ||| imm.zeroExtend 64), (.ixork q rd r1 imm, c.xr r1 ^^^ imm.zeroExtend 64),
          (.iltk q rd r1 imm, intAlu .lt (c.xr r1) (imm.signExtend 64)), (.iltuk q rd r1 imm, intAlu .ltu (c.xr r1) (imm.signExtend 64)),
          (.ishlk q rd r1 sh, c.xr r1 <<< sh.val), (.ishrk q rd r1 sh, c.xr r1 >>> sh.val), (.isark q rd r1 sh, (c.xr r1).sshiftRight sh.val),
          (.iputh q rd h imm, putQuarter (c.xr rd) h imm), (.getcyc q rd, BitVec.ofNat 64 s.cycle), (.getcue q rd, s.reg R.CU_COUNT)],
          goes p.1 (c.setX rd p.2).step 0)
        ∧ goes (.prompterNop q) c.step 0)
    ∧ (∀ (r1 r2 rd : XReg) (off : BitVec 16) (target : BitVec 13),
        (∀ p ∈ [(Instr.cbeq q r1 r2 off, BrCond.eq), (.cbne q r1 r2 off, .ne), (.cblt q r1 r2 off, .lt), (.cbge q r1 r2 off, .ge),
          (.cbltu q r1 r2 off, .ltu), (.cbgeu q r1 r2 off, .geu)],
          goes p.1 (if brHolds p.2 (c.xr r1) (c.xr r2) then { c with pc := (((c.pc : Int) + off.toInt) % 8192).toNat } else c.step) 0)
        ∧ goes (.call q rd target) { c.setX rd (BitVec.ofNat 64 (c.pc + 1)) with pc := target.toNat } 0
        ∧ goes (.jreg q r1) { c with pc := (c.xr r1).toNat % 8192 } 0)
    ∧ (∀ (d : Bool) (fd f1 f2 f3 : FReg) (rm : Rm), rmFOk rm = true →
        let m := (ieeeMode (boothRm rm (free 0))).1
        let put := fun (v : Val × Nat) => (c.setF fd (BitVec.ofNat 64 (if d then encB64 (free 1) v.1 else encB32 (free 1) v.1))).step
        let v := fun (f : FReg) => fVal d (c.fr f)
        let w := if d then 64 else 32
        let sign := fun (op : FOp) (b : Nat) => (c.setF fd (BitVec.ofNat 64 (fSignOp op w ((c.fr f1).toNat % 2 ^ w) (b % 2 ^ w)))).step
        (∀ p ∈ [(Instr.fadd q d fd f1 f2 rm, FOp.add), (.fsub q d fd f1 f2 rm, .sub), (.fmul q d fd f1 f2 rm, .mul),
          (.fdiv q d fd f1 f2 rm, .div), (.fmin q d fd f1 f2 rm, .min), (.fmax q d fd f1 f2 rm, .max)],
          goes p.1 (put (fArith p.2 (ieeeFmt d) m (v f1) (v f2))) 2)
        ∧ goes (.fsqrt q d fd f1 rm) (put (arithNan (fSqrt (ieeeFmt d) m (v f1)))) 2
        ∧ (∀ p ∈ [(Instr.fmac q d fd f1 f2 f3 rm, FmaKind.mac), (.fmacn q d fd f1 f2 f3 rm, .macn), (.fmacs q d fd f1 f2 f3 rm, .macs),
          (.fmacns q d fd f1 f2 f3 rm, .macns)], goes p.1 (put (fmaVal p.2 (ieeeFmt d) m (v f1) (v f2) (v f3))) 2)
        ∧ goes (.fabs q d fd f1 rm) (sign .abs (c.fr 0).toNat) 0 ∧ goes (.fneg q d fd f1 rm) (sign .neg (c.fr 0).toNat) 0
        ∧ goes (.fcpys q d fd f1 f2 rm) (sign .cpys (c.fr f2).toNat) 0)
    ∧ (∀ (d : Bool) (xd x1 : XReg) (fd f1 f2 : FReg),
        let low := fun (w : Word) => if d then w else BitVec.ofNat 64 (w.toNat % 2 ^ 32)
        let cmp := fun (op : FMov) => (c.setX xd (BitVec.ofNat 64 (fCompare op (ieeeFmt d) (fVal d (c.fr f1)) (fVal d (c.fr f2))).1)).step
        goes (.ftox q d xd f1) (c.setX xd (low (c.fr f1))).step 0 ∧ goes (.xtof q d fd x1) (c.setF fd (low (c.xr x1))).step 0
        ∧ goes (.fceq q d xd f1 f2) (cmp .ceq) 0 ∧ goes (.fclt q d xd f1 f2) (cmp .clt) 0 ∧ goes (.fcle q d xd f1 f2) (cmp .cle) 0
        ∧ goes (.fkind q d xd f1) (c.setX xd (BitVec.ofNat 64 (fKind (ieeeFmt d) (fVal d (c.fr f1))))).step 0)
    ∧ (∀ i ∈ [Instr.holdpt q, .tret q, .tskip q], ∃ u, exec i s = .next u ∧ u = (s.setCore n (u.core n)).usedFree 1
        ∧ (u.core n).x = c.x ∧ (u.core n).f = c.f ∧ (u.core n).p = c.p ∧ (u.core n).sram = c.sram)
    ∧ (∀ (rd r1 : XReg) (ty : VTy), exec (.vlset q rd r1 ty) s = .fault .reservedInstruction)
    ∧ (∀ (ecc : EccFinding) (w : PInsn × Fin 8 × Fin 8) (rd r1 r2 : XReg),
        decodeBooth (c.ld (4 * c.pc) 4) = some w →
        (w.1 = .intR .add rd r1 r2 → goes (.bundleFetch (.booth n) ecc) (c.setX rd (c.xr r1 + c.xr r2)).step 0)
        ∧ (w.1 = .vop .add .i8 (mkV rd) (mkV r1) (mkV r2) →
          exec (.bundleFetch (.booth n) ecc) s = exec (.vadd (.booth n w.2.1 w.2.2) .i8 (mkV rd) (mkV r1) (mkV r2)) s))

/-- Predicates and the SRAM of booth cores. A vector instruction on a booth core spans 512 / w elements, and an element whose predicate
bit is 0 keeps its contents; a vector compare writes a predicate and no vector register; CVT and VCVT convert. An aligned access with address bits [63:20] zero reads or
writes the core's own SRAM (log entry 30) and nothing else; one that is misaligned or beyond leaves registers and SRAM alone and goes to a
place that is free; a gather that meets a fault leaves its destination alone. -/
def Obligations.BoothCoresUsePredicatesAndTheirOwnSram : Prop :=
  ∀ (s : State) (n : Fin 2) (pred pd : Fin 8), s.coreRuns n = true →
    let c := s.core n
    let q := Runner.booth n pred pd
    let keepsLanes := fun (w m : Nat) (vd : VReg) (u : State) => ∀ j, j < 512 / w → (m ≤ j ∨ bitOf (c.pr pred) j = false) →
      vElem ((u.core n).vr vd) w j = vElem (c.vr vd) w j
    let alone := fun (u : State) => ∃ k, u = (s.setCore n (u.core n)).usedFree k
    let fails := fun (i : Instr) (code : Nat) => Completes i s (fun u => alone u ∧ (u.core n).x = c.x ∧ (u.core n).f = c.f
      ∧ (u.core n).p = c.p ∧ (u.core n).sram = c.sram ∧ (u.core n).err = code)
    (∀ (ty : VTy) (vd v1 v2 : VReg),
        (∀ p ∈ [(Instr.vadd q ty vd v1 v2, VOp.add), (.vsub q ty vd v1 v2, .sub), (.vmul q ty vd v1 v2, .mul), (.vmin q ty vd v1 v2, .min),
          (.vmax q ty vd v1 v2, .max), (.vand q ty vd v1 v2, .and), (.vor q ty vd v1 v2, .or), (.vxor q ty vd v1 v2, .xor),
          (.vsll q ty vd v1 v2, .sll), (.vsrl q ty vd v1 v2, .srl), (.vsra q ty vd v1 v2, .sra), (.vfma q ty vd v1 v2, .fma),
          (.vfms q ty vd v1 v2, .fms), (.vfnma q ty vd v1 v2, .fnma)], VOp.typeOk p.2 ty = true →
          Completes p.1 s (fun u => alone u ∧ keepsLanes ty.width (512 / ty.width) vd u ∧ (u.core n).p = c.p ∧ (u.core n).x = c.x
            ∧ (ty.isInt = true → ∀ j, j < 512 / ty.width → bitOf (c.pr pred) j = true →
              vElem ((u.core n).vr vd) ty.width j
                = vIntElem p.2 ty.width (vElem (c.vr v1) ty.width j) (vElem (c.vr v2) ty.width j) % 2 ^ ty.width)))
        ∧ (∀ p ∈ [(Instr.vceq q ty vd v1 v2, VOp.ceq), (.vclt q ty vd v1 v2, .clt), (.vcle q ty vd v1 v2, .cle)], VOp.typeOk p.2 ty = true →
          Completes p.1 s (fun u => alone u ∧ (u.core n).f = c.f ∧ (u.core n).x = c.x
            ∧ (ty.isInt = true → pd.val ≠ 0 → ∀ j, bitOf ((u.core n).pr pd) j
              = if 512 / ty.width ≤ j then false
                else if bitOf (c.pr pred) j then vIntElem p.2 ty.width (vElem (c.vr v1) ty.width j) (vElem (c.vr v2) ty.width j) != 0
                else bitOf (c.pr pd) j)))
        ∧ (ty.isFp = true →
          Completes (.vredsum q ty vd v1) s (fun u => alone u ∧ keepsLanes ty.width 1 vd u)
          ∧ Completes (.vredmax q ty vd v1) s (fun u => alone u ∧ keepsLanes ty.width 1 vd u)
          ∧ (∀ cj ac, Completes (.vcmul q cj ac ty vd v1 v2) s (fun u => alone u ∧ keepsLanes ty.width (512 / ty.width) vd u))))
    ∧ (∀ (st dt : VTy) (vd v1 : VReg),
        Completes (.vcvt q vd v1 st dt) s (fun u => alone u ∧ keepsLanes dt.width (512 / max st.width dt.width) vd u))
    ∧ (∀ (dt st : CTy) (rd r1 : FReg) (rm : Rm), (Instr.cvt q dt st rd r1 rm).wf = true →
        let r := (cvtResult dt st (effRound dt.fmt (boothRm rm (s.freeAt 0))).1 (s.freeAt 1 % 65536) (if st.isInt then c.xr r1 else c.fr r1)).1
        exec (.cvt q dt st rd r1 rm) s = .next ((s.setCore n (if dt.isInt then c.setX rd r else c.setF rd r).step).usedFree 2))
    ∧ (∀ (ty : VTy) (vd v1 : VReg) (rd rs : FReg) (r2 : XReg), (ty.isInt = true → rs.val < 16 ∧ rd.val < 16) →
        Completes (.vbcast q vd rs ty) s (fun u => alone u ∧ keepsLanes ty.width (512 / ty.width) vd u)
        ∧ Completes (.vext q rd v1 r2 ty) s (fun u => alone u ∧ (bitOf (c.pr pred) ((c.xr r2).toNat % (512 / ty.width)) = false → u = s.setCore n c.step)))
    ∧ (∀ (k : LdKind) (rd : XReg) (fd : FReg) (r1 : XReg) (imm : BitVec 16) (a : Nat), a = (c.xr r1 + imm.signExtend 64).toNat → a < 2 ^ 63 →
        let i := match k with
          | .b => Instr.ldb q rd r1 imm | .h => .ldh q rd r1 imm | .w => .ldw q rd r1 imm | .d => .ldd q rd r1 imm
          | .bu => .ldbu q rd r1 imm | .hu => .ldhu q rd r1 imm | .wu => .ldwu q rd r1 imm
          | .fw => .fldw q fd r1 imm | .fd => .fldd q fd r1 imm
        let v := ldValue k (c.ld a (ldSize k))
        (a < 2 ^ 20 → a % ldSize k = 0 → exec i s = .next (s.setCore n (if k.isF then c.setF fd v else c.setX rd v).step))
        ∧ (2 ^ 20 ≤ a → fails i 0x21) ∧ (a < 2 ^ 20 → a % ldSize k ≠ 0 → fails i 0x22))
    ∧ (∀ (k : StKind) (r2 : XReg) (f2 : FReg) (r1 : XReg) (imm : BitVec 16) (a : Nat), a = (c.xr r1 + imm.signExtend 64).toNat → a < 2 ^ 63 →
        let i := match k with
          | .b => Instr.stb q r2 r1 imm | .h => .sth q r2 r1 imm | .w => .stw q r2 r1 imm | .d => .std q r2 r1 imm
          | .fw => .fstw q f2 r1 imm | .fd => .fstd q f2 r1 imm
        let w := if k.isF then c.fr f2 else c.xr r2
        (a < 2 ^ 20 → a % stSize k = 0 → Completes i s (fun u => alone u ∧ (u.core n).x = c.x ∧ (u.core n).f = c.f ∧ (u.core n).p = c.p
          ∧ (u.core n).ld a (stSize k) = w.toNat % 2 ^ (8 * stSize k)
          ∧ ∀ b, b < a ∨ a + stSize k ≤ b → (u.core n).ld b 1 = c.ld b 1))
        ∧ (2 ^ 20 ≤ a → fails i 0x21) ∧ (a < 2 ^ 20 → a % stSize k ≠ 0 → fails i 0x22))
    ∧ (∀ (ty : VTy) (vd : VReg) (r1 : XReg), (c.xr r1).toNat < 2 ^ 20 → (c.xr r1).toNat % 64 = 0 →
        Completes (.vld q vd r1 ty) s (fun u => alone u ∧ (u.core n).sram = c.sram ∧ keepsLanes ty.width (512 / ty.width) vd u
          ∧ ∀ j, j < 512 / ty.width → bitOf (c.pr pred) j = true →
            vElem ((u.core n).vr vd) ty.width j = c.ld ((c.xr r1).toNat + j * (ty.width / 8)) (ty.width / 8))
        ∧ Completes (.vst q vd r1 ty) s (fun u => alone u ∧ (u.core n).f = c.f
          ∧ ∀ j, j < 512 / ty.width → (u.core n).ld ((c.xr r1).toNat + j * (ty.width / 8)) (ty.width / 8)
            = if bitOf (c.pr pred) j then vElem (c.vr vd) ty.width j else c.ld ((c.xr r1).toNat + j * (ty.width / 8)) (ty.width / 8)))
    ∧ (∀ (ty : VTy) (vd v2 : VReg) (r1 : XReg), Completes (.vgather q vd r1 v2 ty) s (fun u => alone u ∧ (u.core n).sram = c.sram
          ∧ keepsLanes ty.width (512 / max ty.width 32) vd u ∧ ((u.core n).pc ≠ (c.pc + 1) % 8192 → (u.core n).f = c.f))
        ∧ Completes (.vscatter q vd r1 v2 ty) s (fun u => alone u ∧ (u.core n).f = c.f ∧ (u.core n).x = c.x))

/-- A fault at its trap point enters the handler. With TA_PTVEC.EN set and the tile outside its handler, TRAP_ENTRY fills TA_PTRAP0 to
TA_PTRAP3, sets ACTIVE, and makes bundle TA_PTVEC.INDEX the next issue, two cycles on; with EN clear the tile halts with the cause. -/
def Obligations.TrapEntryFillsTheRecord : Prop :=
  ∀ (s : State) (t : Tile) (r : TrapRec), (s.tile t).trap = some r → r.due ≤ s.active → s.fld (R.TA_SEQ_STATE t) ≤ seqHeld →
    r.inHandler = false →
    (s.bit (R.TA_PTVEC_EN t) = true → r.cause < 256 → r.elem < 64 → r.pt.rep < 8192 → r.pt.bundle < 8192 → r.pt.bank < 2 →
      Completes (.trapEntry t) s (fun u => u.inHandler t = true ∧ u.fld (R.TA_PTRAP0_CAUSE t) = r.cause
        ∧ u.fld (R.TA_PTRAP0_FBUNDLE t) = r.pt.bundle ∧ u.reg (R.TA_PTRAP1 t) = r.addr
        ∧ u.fld (R.TA_PTRAP2_RESUME t) = s.fld (R.TA_SEQ_RESUME t) ∧ u.bit (R.TA_PTRAP2_RESTART t) = r.restart
        ∧ u.fld (R.TA_SEQ_RESUME t) = s.fld (R.TA_PTVEC_INDEX t) ∧ (u.tile t).issueAt = s.active + 2
        ∧ u.fld (R.TA_SEQ_STATE t) = seqIssuing ∧ ∀ a, u.byte a = s.byte a))
    ∧ (s.bit (R.TA_PTVEC_EN t) = false → r.cause < 256 →
      Completes (.trapEntry t) s (fun u => u.fld (R.TA_SEQ_STATE t) = seqHalted ∧ u.fld (R.TA_SEQ_HALT_REASON t) = r.cause
        ∧ (u.tile t).trap = none ∧ ∀ a, u.byte a = s.byte a))

/-- MM, SHD and DRAIN complete, hold their resources and read in cycle 1. On a tile that can issue, with the resource free, each answers a next
state. MM with formats that R104 pairs holds ARRAY for the occupancy of Table 4.3 and takes its accumulator values in the cycle
before its ready cycle, on the units its TAG aligned downward names; SHD holds DRAINP for u cycles and DRAIN for 2u (one more with
MASK), and both read the units in cycle 1; no byte of memory and no register but the tile's TA_SEQ changes at the issue (of an MM where no word
holds an error that its read meets). -/
def Obligations.MatrixSlotsReadAndHold : Prop :=
  ∀ (s : State) (t : Tile), s.canIssue t = true →
     (∀ (f : MMSlot) (g : MMArgs) (nf : NFmt) (sh : MMShape), Free s t resArray → s.mmArgs t f = some (g, nf, sh) →
       Completes (.mm t f) s (fun u => (u.tile t).freeAt resArray = s.active + sh.occ
         ∧ (∃ j, j ∈ (u.tile t).jobs ∧ j.tag = f.tag.val / sh.units g.cplx * sh.units g.cplx ∧ j.args = g
           ∧ j.baseA = s.fld (R.TA_OA_BASE t f.oaa) / 128 * 128 ∧ j.baseB = s.fld (R.TA_OA_BASE t f.oab) / 128 * 128
           ∧ ∃ o, (⟨s.active + (sh.ready - 1), o, .mmAdd j.id⟩ : Act) ∈ (u.tile t).acts)
         ∧ (s.flaws = [] → TileFrame t s u)))
     ∧ (∀ (f : ShdSlot), Free s t resDrainp →
       Completes (.shd t f) s (fun u => (u.tile t).freeAt resDrainp = s.active + 2 ^ f.size.val
         ∧ Issues t (fun v => v.sched t 1
             (.shdRead (f.tag.val / 2 ^ f.size.val * 2 ^ f.size.val) (f.sunit.val / 2 ^ f.size.val * 2 ^ f.size.val) (2 ^ f.size.val))) s u))
     ∧ (∀ (f : DrainSlot) (d : DrainShape) (w : FmtWord), Free s t resDrainp → drainShape f.atype f.shape = some d →
       FmtWord.ofWord (s.mfmt t f.fsd) = some w →
       Completes (.drain t f) s (fun u => (u.tile t).freeAt resDrainp = s.active + (2 * d.units + b2n f.mask)
         ∧ Issues t (fun v => v.sched t 1 (.drainRead ⟨d, w, f.mask, f.tag.val / d.units * d.units,
             s.fld (R.TA_OA_BASE t f.oad) / 128 * 128, 2 * d.units + 8 + b2n f.mask⟩)) s u))

/-- Transfers of the data mover start and complete. The D operations start a transfer. COPY, CONVERT between formats, RWRITE, GATHER, REGATHER and FILL raise their counter by one, hold DMQ,
and put one transfer with the descriptor's SRC, DST and LEN as they stand now at the end of the mover's queue; no byte of memory
changes at the issue. A transfer with nothing outstanding completes. TRANSFER_COMPLETE takes it out of the queue and lowers its counter by one; with a
recorded cause the step also carries the discard flag and the tile's fault record is valid. -/
def Obligations.TransfersStartAndComplete : Prop :=
  (∀ (s : State) (t : Tile) (f : DSlot) (c : Instr) (o : DOp),
      (c, o) ∈ [(Instr.copy t f, DOp.copy), (.convert t f, .convert), (.rwrite t f, .rwrite), (.gather t f, .gather),
        (.regather t f, .regather), (.fill t f, .fill)] →
      s.canIssue t = true → Free s t resDmq → f.wc.val ≠ 15 → (s.tile t).xfers.length < 16 → s.wc t f.wc < 255 →
      (o = .convert → s.definedD t (.op .convert f) = true) →
      Completes c s (fun u => u.wc t f.wc = s.wc t f.wc + 1 ∧ (u.tile t).freeAt resDmq = s.active + 1
        ∧ (∃ x, (u.tile t).xfers = (s.tile t).xfers ++ [x] ∧ x.op = o ∧ x.slot = f ∧ x.src = s.fld (R.TA_DMD_W0_SRC t f.desc)
          ∧ x.dst = s.fld (R.TA_DMD_W1_DST t f.desc) ∧ x.len = s.fld ⟨R.TA_DMD_W2 t f.desc, 31, 0⟩)
        ∧ (∀ a, u.byte a = s.byte a) ∧ ∀ a, a ≠ R.TA_SEQ t → a ≠ R.TA_WC_LO t → a ≠ R.TA_WC_HI t → u.reg a = s.reg a))
  ∧ (∀ (s : State) (t : Tile) (k : Fin 16) (ecc : EccFinding) (x : Xfer), (s.tile t).xfers[k.val]? = some x → x.phase = .done →
      x.op = .copy → x.sample = none → 0 < s.wc t x.slot.wc →
      Completes (.transferComplete t k ecc) s (fun u =>
        (u.tile t).xfers = (s.tile t).xfers.filter (fun y => decide (y.id ≠ x.id)) ∧ u.wc t x.slot.wc = s.wc t x.slot.wc - 1
        ∧ (x.cause.isSome = true → u.discardFlag = true ∧ u.bit (R.TA_MFAULT0_VALID t) = true)
        ∧ (x.cause = none → x.more = [] → u.discardFlag = s.discardFlag)
        ∧ ∀ a, u.byte a = s.byte a))

/-- Guards hold their issue and fences hold the next. A WAIT whose counter is above its threshold, and a TAKE of an empty channel, leave the
tile held and perform nothing; a WAIT at or below its threshold performs; FENCE.L, FENCE.D and FENCE.F set the fence before the next
issue; FENCE_COMPLETE lifts a fence whose condition holds. -/
def Obligations.GuardsAndFences : Prop :=
  ∀ (s : State) (t : Tile), s.canIssue t = true →
    (∀ (k : Fin 16) (thr : BitVec 8),
      Completes (.wait t k thr) s (fun u => (if s.wc t k ≤ thr.toNat then True else u.fld (R.TA_SEQ_STATE t) = seqHeld) ∧ Nothing t s u))
    ∧ (∀ (ch : BitVec 8) (x : XReg), s.takeAllowed ch.toNat (tileMid t) = true → (s.chan ch.toNat).length ≤ s.posted ch.toNat →
      Completes (.take t ch x) s (fun u => u.fld (R.TA_SEQ_STATE t) = seqHeld ∧ Nothing t s u))
    ∧ (∀ (c : Instr) (k : FenceKind) (n : Fin 16), (c, k) ∈ [(Instr.fenceL t, FenceKind.l), (.fenceD t, .d), (.fenceF t n, .f n)] →
      Completes c s (fun u => (if s.inHandler t then (u.tile t).fenceH else (u.tile t).fence) = some (k, (s.tile t).ordNext)
        ∧ u.fld (R.TA_SEQ_STATE t) = seqHeld ∧ u.canIssue t = false ∧ Nothing t s u))

/-- Completing fences, notices, swaps and ends. FENCE_COMPLETE of a FENCE.D whose earlier accesses are done lifts it; TAKE of a channel with
notices, nothing posted to it in the cycle, takes the oldest into its register at cycle 1; NOTICE to a channel with room and no other post in the cycle queues the register's value; SWAP_BANK with a
committed standby bank swaps one cycle on and issues again two cycles on; END ends the issue, and TILE_ENDED ends the tile once
nothing is left. -/
def Obligations.FencesTakesSwapsAndEnds : Prop :=
  ∀ (s : State) (t : Tile),
    (∀ n, s.inHandler t = false → (s.tile t).fence = some (.d, n) → s.fenceDone t .d n = true →
      Completes (.fenceComplete t) s (fun u => (u.tile t).fence = none ∧ u.fld (R.TA_SEQ_STATE t) ≠ seqHeld ∧ ∀ a, u.byte a = s.byte a))
    ∧ (s.canIssue t = true →
      (∀ (ch : BitVec 8) (x : XReg) (v : Word) (r : List Word), Free s t resSync → s.takeAllowed ch.toNat (tileMid t) = true →
        s.chan ch.toNat = v :: r → s.turn? ch.toNat = none →
        Completes (.take t ch x) s (fun u => u.chan ch.toNat = r
          ∧ (u.tile t).acts = ((s.schedX t 1 x v).tile t).acts ∧ ∀ a, u.byte a = s.byte a))
      ∧ (∀ (ch : BitVec 8) (x : XReg), Free s t resSync → s.tilePosts t ch.toNat = true → s.chanKind ch.toNat = .localCh →
        s.turn? ch.toNat = none → (s.chan ch.toNat).length < 16 →
        Completes (.notice t ch x) s (fun u => u.chan ch.toNat = s.chan ch.toNat ++ [deliveredNotice (s.x t x)] ∧ ∀ a, u.byte a = s.byte a))
      ∧ (s.swapBar t (1 - s.fld (R.TA_SEQ_BANK t)) = none →
        Completes (.swapBank t) s (fun u => Issues t (fun v => v.sched t 1 .bankSwap) s u ∧ (u.tile t).issueAt = s.active + 2))
      ∧ Completes (.endOp t) s (fun u => Nothing t s u ∧ (if s.inHandler t then (u.tile t).endH else (u.tile t).endIssued) = true
          ∧ u.canIssue t = false))
    ∧ (s.hasEnded t = true → s.fld (R.TA_SEQ_STATE t) ≤ seqHeld →
      Completes (.tileEnded t) s (fun u => u.fld (R.TA_SEQ_STATE t) = seqEnded ∧ u.tile t = s.tile t ∧ TileFrame t s u))

/-- BUNDLE_FETCH issues the bundle at RESUME. When the issue is due and nothing holds or halts it, all four slots are performed in the
order M, D, P, S; an all-zero bundle body only moves the stream on: by one repetition while some are left, else to the next bundle, at
the bundle's pitch. A stream that reaches index 8191 halts with FETCH_END. -/
def Obligations.BundleFetchIssuesInOrder : Prop :=
  ∀ (s : State) (t : Tile), s.issueDue t = true →
    let pt := s.issuePt t
    let b := s.bundleAt t pt.bank pt.bundle
    (pt.bundle ≠ 8191 → s.definedBundle t b = true → s.issueHalt t b = none →
      (∀ i, decodeS b.s = some i → s.guardHolds t i = true) →
      exec (.bundleFetch (.tile t) noEcc) s = .next (s.performBundle t b pt))
    ∧ (pt.bundle ≠ 8191 → b.m = 0 → b.d = 0 → b.p = 0 → b.s = 0 →
      Completes (.bundleFetch (.tile t) noEcc) s (fun u => Nothing t s u ∧ (u.tile t).issueAt = s.active + 2 ^ b.cls
        ∧ (if s.fld (R.TA_SEQ_REPEAT_LEFT t) = 0 then u.fld (R.TA_SEQ_RESUME t) = (s.fld (R.TA_SEQ_RESUME t) + 1) % 8192
           else u.fld (R.TA_SEQ_RESUME t) = s.fld (R.TA_SEQ_RESUME t)
             ∧ u.fld (R.TA_SEQ_REPEAT_LEFT t) = s.fld (R.TA_SEQ_REPEAT_LEFT t) - 1)))
    ∧ (pt.bundle = 8191 →
      Completes (.bundleFetch (.tile t) noEcc) s (fun u => u.fld (R.TA_SEQ_STATE t) = seqHalted ∧ u.fld (R.TA_SEQ_HALT_REASON t) = 5))

/-- Results commit at their ready cycle. On an empty queue a step is one stage cycle; where the cycle before has left nothing to it and the one tile with anything in flight has one
register result due in that cycle, the register holds it afterwards, under its mask, and where the result is due later it still waits
and the register is unchanged. -/
def Obligations.ResultsCommitAtTheirReadyCycle : Prop :=
  ∀ (s : State) (t : Tile) (x : TileX) (a due o : Nat) (v mask : Word),
    s.pending = [] → s.held = false → s.tiles = [(t.val, x)] → x.acts = [⟨due, o, .commit a v mask⟩] → x.reexec = none → x.resumeAt = none →
    s.now = CycleX.init → (∀ p, p < 4 → a ≠ R.FH_PORT_STATUS p) →
    ∃ u, step s = .next u ∧ u.cycle = s.cycle + 1 ∧ u.active = s.active + 1
      ∧ (due ≤ s.active + 1 → u.reg a = ((s.reg a &&& ~~~mask) ||| (v &&& mask)) ∧ (u.tile t).acts = [])
      ∧ (s.active + 1 < due → u.reg a = s.reg a ∧ (u.tile t).acts = x.acts)


/-- A register write follows the access codes of the fields it covers. What a write makes of each bit of a register. For fields that do not overlap, after a write of `w` whose covered bits are `cov`, a bit of
an RW field is the written one where covered, of an RWL field likewise while unlocked, of a W1C field it is cleared where a covered one
was written, of every other field and of reserved bits it stays. The writes of a REGISTER_WRITE are performed in the order of their turn after the register's pointer, each answered to its
master; after a read of the register in this cycle they are put off. One write that the bus lets through moves the pointer past its master
and, unless a commit of the tile's own engines to the register stands over it, acts as its register's rule says; the rule of a register outside
`OwnRule` is its fields' access codes alone, changing no other register, byte or tile. A refused one is answered with its cause and changes
no register but the count of dropped entries. -/
def Obligations.RegisterWritesFollowAccessCodes : Prop :=
  (∀ (locked : Bool) (fs : List Field) (old w cov b : Nat),
     fs.Pairwise (fun f g => f.hi < g.lo ∨ g.hi < f.lo) → (∀ f ∈ fs, f.lo ≤ f.hi) →
     let new := (regAfter locked fs old w cov).testBit b
     (∀ f ∈ fs, f.lo ≤ b → b ≤ f.hi → new =
       match f.acc with
       | .rw => if cov.testBit b then w.testBit b else old.testBit b
       | .rwl => if cov.testBit b && !locked then w.testBit b else old.testBit b
       | .w1c => old.testBit b && !(w.testBit b && cov.testBit b)
       | .ro => old.testBit b
       | .wo => old.testBit b
       | .rc => old.testBit b)
     ∧ ((∀ f ∈ fs, b < f.lo ∨ f.hi < b) → new = old.testBit b))
  ∧ (∀ (s : State) (a : BitVec 44) (ws : List (BitVec 12 × Fin 8 × List Byte)),
     let base := a.toNat / 8 * 8
     let l := ws.map (fun w => (⟨w.1.toNat, base + w.2.1.val, w.2.2⟩ : LateWrite))
     (s.now.reads.contains base = true → Completes (.registerWrite a ws) s (fun u => u.now.late = s.now.late ++ l ∧ u.out = s.out ∧ Keeps s u))
     ∧ (s.now.reads.contains base = false → ∃ o : List LateWrite, o.Perm l
         ∧ o.Pairwise (fun v w => writeTurn (smapGet 1 s.regPtr base) v.mid ≤ writeTurn (smapGet 1 s.regPtr base) w.mid)
         ∧ exec (.registerWrite a ws) s = .next (o.foldl (fun t w =>
             let e := t.busWrite w.mid w.addr w.data.length (ofLe w.data)
             e.2.send (.bus w.mid w.addr e.1 [])) s)))
  ∧ (∀ (s : State) (mid : BitVec 12) (a : BitVec 44) (off : Fin 8) (data : List Byte) (r : RegDef),
     let base := a.toNat / 8 * 8
     let at' := base + off.val
     let c := s.busCheck mid.toNat at' data.length true
     regDefAt base = some r → s.now.reads.contains base = false →
     (c = 0 → Completes (.registerWrite a [(mid, off, data)]) s (fun u =>
       let g : State := { s with regPtr := smapSet 1 s.regPtr base ((mid.toNat + 1) % 4096) }
       let e := if s.busLoses at' then (0, g) else g.hookWrite mid.toNat r base off data.length (ofLe data)
       u = e.2.send (.bus mid.toNat at' e.1 [])))
     ∧ (c = 0 → s.busLoses at' = false → s.now.evts = [] → OwnRule r.base = false →
         Completes (.registerWrite a [(mid, off, data)]) s (fun u =>
           u.reg base = BitVec.ofNat 64 (regAfter s.locked r.fields (s.reg base).toNat (ofLe data <<< (8 * off.val)) (coverMask off data.length))
           ∧ Only (fun x => x = base) s u ∧ u.out = s.out ++ [.bus mid.toNat at' 0 []]))
     ∧ (c ≠ 0 → Completes (.registerWrite a [(mid, off, data)]) s (fun u =>
         u.out = s.out ++ [.bus mid.toNat at' c []] ∧ Only (fun x => x = R.BT_PB_INFO) s u)))

/-- Register reads on the bus. RC_READ answers the little-endian bytes of the register as shown and leaves in every RC field one of whose bytes was
read what hardware has added to it in this cycle, and changes no other bit; a read of CB_TAKEn takes the oldest notice where it is let through, else a
booth core is answered 0x90 and another master zeros, the refusal counted; a read of CB_ACQn waits for the other acquires of its cycle, and when they are arbitrated the free lock goes to the first of them in turn after its
pointer, who reads 0, while the others, and all of them where it was held, read the holder; a refused read answers zeros with its cause. -/
def Obligations.RegisterReadsOnTheBus : Prop :=
  (∀ (s : State) (mid : BitVec 12) (a : BitVec 44) (len : Fin 9) (r : RegDef),
    let base := a.toNat / 8 * 8
    let off := a.toNat % 8
    let c := s.busCheck mid.toNat a.toNat len false
    let cut := fun (v : Nat) => leBytes ((v >>> (8 * off)) % 2 ^ (8 * len.val)) len
    let i := r.copyI base
    regDefAt base = some r →
    (c = 0 → r.base ≠ R.CB_TAKE 0 → r.base ≠ R.CB_ACQ 0 → Completes (.rcRead mid a len) s (fun u =>
        u.out = s.out ++ [.bus mid.toNat a.toNat 0 (cut (s.regShown base))]
        ∧ (∀ f ∈ r.fields, f.acc = .rc → Nat.land (maskOf f.hi f.lo) (coverMask off len) ≠ 0 → f.lo ≤ f.hi → f.hi < 64 →
            r.fields.Pairwise (fun f g => f.hi < g.lo ∨ g.hi < f.lo) →
            u.fld ⟨base, f.hi, f.lo⟩ = min (2 ^ (f.hi + 1 - f.lo) - 1) (s.fldAdded ⟨base, f.hi, f.lo⟩))
        ∧ ((∀ f ∈ r.fields, f.acc ≠ .rc) → u.reg base = s.reg base)
        ∧ Only (fun x => x = base) s u))
    ∧ (c = 0 → r.base = R.CB_TAKE 0 → Completes (.rcRead mid a len) s (fun u =>
        (s.takeAllowed i mid.toNat = true → s.turn? i = none → u.chan i = (s.chan i).tail
          ∧ u.out = s.out ++ [.bus mid.toNat a.toNat 0 (cut ((s.chan i).headD 0).toNat)])
        ∧ (s.takeAllowed i mid.toNat = false → u.cb = s.cb
          ∧ u.out = s.out ++ [.bus mid.toNat a.toNat (if mid.toNat = 1 ∨ mid.toNat = 2 then 0x90 else 0) (cut 0)]
          ∧ (¬ (mid.toNat = 1 ∨ mid.toNat = 2) → u.fld (R.CB_DROP_REFUSED i) = min (2 ^ ((R.CB_DROP_REFUSED i).hi + 1 - (R.CB_DROP_REFUSED i).lo) - 1)
              (s.fld (R.CB_DROP_REFUSED i) + 1)))
        ∧ Only (fun x => x = base ∨ x = R.CB_DROP i) s u))
    ∧ (c = 0 → r.base = R.CB_ACQ 0 → Completes (.rcRead mid a len) s (fun u =>
        u.now.acqs = s.now.acqs ++ [⟨i, mid.toNat, a.toNat, len, none⟩] ∧ u.out = s.out ∧ Keeps s u))
    ∧ (c ≠ 0 → Completes (.rcRead mid a len) s (fun u =>
        u.out = s.out ++ [.bus mid.toNat a.toNat c (leBytes 0 len)] ∧ Only (fun x => x = R.BT_PB_INFO) s u)))
  ∧ (∀ (s : State) (n : Fin 256) (l : List LateAcq), l ≠ [] → (∀ q ∈ l, q.lock = n.val ∧ q.mid < 4096 ∧ q.core = none) →
    let h := s.fld (R.CB_LOCK_HOLDER n)
    let u := s.acqsNow l
    let answer := fun (v : Nat) (q : LateAcq) => OutMsg.bus q.mid q.addr 0 (leBytes ((v >>> (8 * (q.addr % 8))) % 2 ^ (8 * q.len)) q.len)
    (h ≠ 0 → u.fld (R.CB_LOCK_HOLDER n) = h ∧ u.out = s.out ++ l.map (answer h))
    ∧ (h = 0 → ∃ w ∈ l, (∀ q ∈ l, lockTurn (smapGet 1 s.lockPtr n) w.mid ≤ lockTurn (smapGet 1 s.lockPtr n) q.mid)
        ∧ u.fld (R.CB_LOCK_HOLDER n) = w.mid ∧ u.out = s.out ++ l.map (fun q => answer (if q.mid = w.mid then 0 else w.mid) q)))

/-- MEMORY_ACCESS. In the wings, a write inside one granule that the maps, and for a session a window, let through, meeting no poison, error or name range,
stores its bytes at its address and changes no other byte and no register; a read answers the bytes there with code 0 and changes no byte; an access to an
address where nothing lies is answered MEM_UNMAPPED (0x40) with zeros and performs nothing. On registers it is the register's write or read. Whatever it
meets, an access of some bytes that is not put off and comes alone is answered to its master. -/
def Obligations.MemoryAccesses : Prop :=
  (∀ (s : State) (mid : BitVec 12) (a : BitVec 44) (len : BitVec 16) (data : List Byte) (hint : Fin 4) (narrow : Bool) (die off : Nat),
    let m := masterOf mid.toNat
    let through := fun (l : Nat) (w : Bool) => allowed m w false (.wings die off) a.toNat = true
      ∧ (m.named = true → s.nameHit a.toNat l w = .none) ∧ (∀ n, m = .session n → s.windowFor n a.toNat l w = true)
    (∀ l, regionOf s.cacheN a.toNat = .wings die off → ((s.boot.failed.contains (0x100 + die)) = false) → (∀ p, s.poisoned p = false) → s.flaws = [] →
      0 < l → a.toNat % 128 + l ≤ 128 →
      (l = data.length → through l true →
        Completes (.memoryAccess mid a len (some data) hint narrow ⟨noEcc, []⟩) s (fun u =>
          u.bytes a.toNat l = data ∧ (∀ c, c < a.toNat ∨ a.toNat + l ≤ c → u.byte c = s.byte c) ∧ u.regs = s.regs ∧ u.tiles = s.tiles
          ∧ u.out = s.out ++ [.bus mid.toNat a.toNat 0 []]))
      ∧ (l = len.toNat → through l false →
        Completes (.memoryAccess mid a len none hint narrow ⟨noEcc, []⟩) s (fun u => (∀ c, u.byte c = s.byte c) ∧ u.regs = s.regs
          ∧ u.out = s.out ++ [.bus mid.toNat a.toNat 0 (s.bytes a.toNat l)])))
    ∧ (regionOf s.cacheN a.toNat = .unmapped → 0 < len.toNat → a.toNat % 128 + len.toNat ≤ 128 →
        Completes (.memoryAccess mid a len none hint narrow ⟨noEcc, []⟩) s (fun u => (∀ c, u.byte c = s.byte c)
          ∧ u.out = s.out ++ [.bus mid.toNat a.toNat 0x40 (List.replicate len.toNat 0)])))
  ∧ (∀ (s : State) (mid : BitVec 12) (a : BitVec 44) (len : BitVec 16) (data : List Byte) (hint : Fin 4) (narrow : Bool) (ecc : EccFinding),
    let regs := (match regionOf s.cacheN a.toNat with | .breg _ => true | .tregs _ => true | _ => false) = true
    (regs → data ≠ [] → s.now.reads.contains (a.toNat / 8 * 8) = false → exec (.memoryAccess mid a len (some data) hint narrow ⟨noEcc, []⟩) s
        = exec (.registerWrite a [(mid, ⟨a.toNat % 8, Nat.mod_lt _ (by decide)⟩, data)]) s)
    ∧ (∀ n : Fin 9, regs → 0 < n.val → len.toNat = n.val →
        exec (.memoryAccess mid a len none hint narrow ⟨noEcc, []⟩) s = exec (.rcRead mid a n) s)
    ∧ (data ≠ [] → s.lateHere a.toNat data.length true = false → Completes (.memoryAccess mid a len (some data) hint narrow ⟨ecc, []⟩) s
        (fun u => ∃ p c d, u.out.getLast? = some (.bus mid.toNat p c d)))
    ∧ (0 < len.toNat → s.lateAcq mid.toNat a.toNat len.toNat none = none → Completes (.memoryAccess mid a len none hint narrow ⟨ecc, []⟩) s
        (fun u => ∃ p c d, u.out.getLast? = some (.bus mid.toNat p c d))))

/-- RIGGING_FLIT moves one flit by the mesh's fixed route. A flit that its tile sends into an empty router leaves by the output R18 gives it,
east or west until its column is reached, and then stands at the end of the next router's input of its class, is handed to the tile, or comes to the far
end of the attachment at the edge, which takes it at once if it is of class C0 and otherwise when the endpoint does, the hub's by way of the hub port.
A flit that the hub sends waits at the hub port and enters the west input of a router at the west edge.
Whatever the flits and the output, no register, byte or tile changes. -/
def Obligations.RiggingForwardsAlongTheRowFirst : Prop :=
  (∀ (s : State) (t : Tile) (f : RigFlit) (o : RigPort) (take : Bool), (∀ p (c : Fin 4), s.rigBuf t p c = []) →
    (∀ e c, s.rigEndBuf e c = []) → 0 < rigSpace f.cls → o = rigRoute t f.dst →
    let taken := f.cls.val = 0 ∨ take = true
    let runs := Completes (.riggingFlit t [(.tile, f)] ⟨o, take, []⟩) s
    (∀ n, rigNext t o = some n → (s.rigBuf n.1 n.2 f.cls).length < rigSpace f.cls →
      runs (fun u => u.rigBuf n.1 n.2 f.cls = s.rigBuf n.1 n.2 f.cls ++ [f] ∧ u.rigBuf t .tile f.cls = [] ∧ u.rig.handed = s.rig.handed))
    ∧ (o = .tile → runs (fun u => u.rig.handed = s.rig.handed ++ [(t.val, f)] ∧ u.rigBuf t .tile f.cls = []))
    ∧ (rigNext t o = none → o ≠ .tile → f.dst ≠ .hub → runs (fun u => u.rigBuf t .tile f.cls = []
        ∧ (taken → u.rig.handed = s.rig.handed ++ [(t.val, f)] ∧ u.rigEndBuf (rigEnd t o) f.cls = [])
        ∧ (¬ taken → u.rig.handed = s.rig.handed ∧ u.rigEndBuf (rigEnd t o) f.cls = [f])))
    ∧ (rigNext t o = none → f.dst = .hub → runs (fun u => u.rigBuf t .tile f.cls = []
        ∧ (taken → u.rig.handed = s.rig.handed ++ [(2048, f)] ∧ u.rigEndBuf hubEnd f.cls = [])
        ∧ (¬ taken → u.rig.handed = s.rig.handed ∧ u.rigEndBuf hubEnd f.cls = [f])))
    ∧ (pkgCol t < (rigExit (pkgRow t) f.dst).2.1 → o = .east) ∧ ((rigExit (pkgRow t) f.dst).2.1 < pkgCol t → o = .west))
  ∧ (∀ (s : State) (t : Tile) (f : RigFlit) (o : RigPort) (take : Bool), (∀ p (c : Fin 4), s.rigBuf t p c = []) →
    (∀ e c, s.rigEndBuf e c = []) → 0 < rigSpace f.cls →
    (pkgCol t ≠ 0 → Completes (.riggingFlit t [] ⟨o, take, [f]⟩) s (fun u => u.rigEndBuf hubPort f.cls = [f] ∧ u.rig.handed = s.rig.handed))
    ∧ (pkgCol t = 0 → o ≠ rigRoute t f.dst → Completes (.riggingFlit t [] ⟨o, take, [f]⟩) s (fun u => u.rigBuf t .west f.cls = [f]
        ∧ u.rigEndBuf hubPort f.cls = [] ∧ u.rig.handed = s.rig.handed)))
  ∧ (∀ (s : State) (t : Tile) (ins : List (RigPort × RigFlit)) (o : RigTurn), Completes (.riggingFlit t ins o) s (fun u => Keeps s u ∧ u.out = s.out))

/-- CUE_INCREMENT advances the count by one at the end of the cue period, and not before. The next period begins there, of the length PERIOD gives now,
moved by what is still to be slewed; at a multiple of 1024 the count and the time are latched into CU_MAP_CUE and CU_MAP_NS, otherwise those stay;
stacks at throttle step 2 or 3 count the cue; the master floods a cue flit at every sixteenth count; a risk report withheld by the limit of R466
leaves when the limit ends, and where none is withheld the fabric is left alone; no other register but CU_STATUS, no byte of memory
and no tile changes. -/
def Obligations.CueTimerCounts : Prop :=
  ∀ (s : State),
    (s.cycle < s.cueX.start + s.cueX.len → exec .cueIncrement s = .next s)
    ∧ (s.cue + 1 < 2 ^ 64 → s.cueX.start + s.cueX.len ≤ s.cycle → Completes .cueIncrement s (fun u => u.cue = s.cue + 1
      ∧ ((s.cue + 1) % 1024 = 0 → u.reg R.CU_MAP_CUE = BitVec.ofNat 64 (s.cue + 1)
          ∧ u.reg R.CU_MAP_NS = BitVec.ofNat 64 (s.nsAt (s.cueX.start + s.cueX.len)))
      ∧ ((s.cue + 1) % 1024 ≠ 0 → u.reg R.CU_MAP_CUE = s.reg R.CU_MAP_CUE ∧ u.reg R.CU_MAP_NS = s.reg R.CU_MAP_NS)
      ∧ u.cueX = { s.cueX with
          start := s.cueX.start + s.cueX.len, len := (15 * s.fld R.CU_CTL_PERIOD + max (-15) (min 15 s.cueX.slew)).toNat,
          slew := s.cueX.slew - max (-15) (min 15 s.cueX.slew) }
      ∧ (∀ k, k < 8 → u.fld (R.TP_THROTTLE_CUES k) = if s.fld (R.TP_STATUS_STEP k) < 2 then s.fld (R.TP_THROTTLE_CUES k)
          else min (2 ^ ((R.TP_THROTTLE_CUES k).hi + 1 - (R.TP_THROTTLE_CUES k).lo) - 1) (s.fld (R.TP_THROTTLE_CUES k) + 1))
      ∧ u.memSeen = [] ∧ u.out = s.out
      ∧ ((s.bit R.CU_STATUS_MASTER = false ∨ (s.cue + 1) % 16 ≠ 0) → (∃ c, s.riskSent = some (s.fld R.RS_RISK_ESTIMATE, c)) → u.fab = s.fab)
      ∧ (∀ v c, s.riskSent = some (v, c) → 16 ≤ v - s.fld R.RS_RISK_ESTIMATE ∨ 16 ≤ s.fld R.RS_RISK_ESTIMATE - v →
          (c + 1024 ≤ s.cue + 1 → u.riskSent = some (s.fld R.RS_RISK_ESTIMATE, s.cue + 1)
            ∧ (s.bit R.CU_STATUS_MASTER = false → u.fab.inject
                = s.fab.inject ++ ([s.cueMaster].filter (fun q => q != s.mySeat && !s.fab.lostSeats.contains q)).map (s.mgmtPkt (.risk (s.fld R.RS_RISK_ESTIMATE)))))
          ∧ (s.cue + 1 < c + 1024 → u.riskSent = s.riskSent))
      ∧ (s.bit R.CU_STATUS_MASTER = true → (s.cue + 1) % 16 = 0 → ∀ p, p ∈ s.fab.tree → s.portUp p = true →
          (1, Ctl.cue (s.cue + 1) s.mySeat 0 false) ∈ (u.port p).ctlq)
      ∧ Only (fun a => a ∈ [R.CU_COUNT, R.CU_MAP_CUE, R.CU_MAP_NS, R.CU_STATUS] ∨ ∃ k, k < 8 ∧ a = R.TP_THROTTLE k) s u))

/-- Cue flits, holdover, cut-off and takeover. A cue flit is flooded on with the port's delay and the hop added. A flit the seat does not follow changes
nothing else; its first followed one sets a count behind it, with the phase unless it was resent, and one that was resent sets the count alone; the others
leave the count, and one not resent says by how much the edges are to move, ending holdover and locking the seat where that is within 30 cycles; 64 cues without one set HOLDOVER with the entry of
R585 (for a seat that has followed nobody the entry names the configured master: the choice of execHoldover); 1024 cues in holdover cut the seat off; the enabled
backup becomes master after 64 cues without the named one, and starts the count where it has followed nobody. -/
def Obligations.CueFlitsAlignFollowers : Prop :=
  (∀ (s : State) (p : Fin 16) (count : Word) (master : BitVec 15) (delay hop : BitVec 32) (retried : Bool),
    let d := delay.toNat + s.fld (R.FB_PORT_DELAY_PS p) + hop.toNat
    let cyc := psCycles d
    let per := max 1 s.cuePeriod
    let n := count.toNat + cyc / per
    let off : Int := (s.cycle : Int) - cyc - s.edgeOf count.toNat
    let takes := (s.cueX.followed = none ∨ retried = true) ∧ s.cue < n
    Completes (.cue p count master delay retried hop) s (fun u =>
      (∀ q, q ∈ s.fab.tree → q ≠ p.val → s.portUp q = true → (1, Ctl.cue count.toNat master.toNat (d % 2 ^ 32) retried) ∈ (u.port q).ctlq)
      ∧ (s.follows master.toNat = false → u.regs = s.regs ∧ u.cueX = s.cueX)
      ∧ (s.follows master.toNat = true → n < 2 ^ 64 →
        u.bit R.CU_STATUS_MASTER = false ∧ u.cueX.followed = some master.toNat ∧ u.cueX.lastFlit = u.cue
        ∧ u.cueX.lastNamed = (if master.toNat = s.fld R.CU_CTL_MASTER_SEAT then u.cue else s.cueX.lastNamed)
        ∧ (takes → u.cue = n ∧ (n % 1024 = 0 → u.reg R.CU_MAP_CUE = BitVec.ofNat 64 n)) ∧ (¬ takes → u.cue = s.cue)
        ∧ (master.toNat ≠ s.fld R.CU_CTL_MASTER_SEAT → u.bit R.CU_STATUS_FAILOVER = true)
        ∧ (retried = true → u.cueX.slew = s.cueX.slew ∧ u.bit R.CU_STATUS_HOLDOVER = s.bit R.CU_STATUS_HOLDOVER
            ∧ u.bit R.CU_STATUS_LOCKED = s.bit R.CU_STATUS_LOCKED)
        ∧ (retried = false → ¬ takes → u.cueX.slew = off ∧ u.cueX.start = s.cueX.start ∧ u.cueX.len = s.cueX.len
            ∧ u.bit R.CU_STATUS_LOCKED = decide (off.natAbs ≤ 30)
            ∧ u.bit R.CU_STATUS_HOLDOVER = (s.bit R.CU_STATUS_HOLDOVER && !decide (off.natAbs ≤ 30)))
        ∧ (retried = false → takes → 0 < s.cuePeriod → cyc % per ≤ s.cycle → u.cueX.start = s.cycle - cyc % per ∧ u.cueX.len = per
            ∧ u.cueX.slew = 0 ∧ u.bit R.CU_STATUS_LOCKED = true ∧ u.bit R.CU_STATUS_HOLDOVER = false))
      ∧ Only (fun a => a ∈ [R.CU_COUNT, R.CU_MAP_CUE, R.CU_MAP_NS, R.CU_STATUS]) s u))
  ∧ (∀ (s : State),
    ((s.bit R.CU_STATUS_MASTER = true ∨ s.bit R.CU_STATUS_HOLDOVER = true ∨ s.jobOpen = false ∨ s.cue < s.cueX.lastFlit + 64) →
      exec .holdover s = .next s)
    ∧ (s.bit R.CU_STATUS_MASTER = false → s.jobOpen = true → s.bit R.CU_STATUS_HOLDOVER = false → s.cueX.lastFlit + 64 ≤ s.cue →
      Completes .holdover s (fun u => u.bit R.CU_STATUS_HOLDOVER = true ∧ u.bit R.CU_STATUS_LOCKED = false
        ∧ u.cueX = { s.cueX with heldAt := s.cue, slew := 0 }
        ∧ Only (fun a => a = R.CU_STATUS ∨ a = R.BT_PB_INFO) s u
        ∧ (s.pb.started = true → s.pb.queue.length < 512 → u.pb.queue = s.pb.queue ++ [⟨s.cue, 1, pbEvent, 0,
            2 ^ 56 + (s.cueX.followed.getD (s.fld R.CU_CTL_MASTER_SEAT) * 2 ^ 32 + s.cue % 2 ^ 32), false, false⟩])))
    ∧ (s.bit R.CU_STATUS_HOLDOVER = true → s.bit R.CU_STATUS_CUT_OFF = false → s.res.noMaster = false → s.cueX.heldAt + 1024 ≤ s.cue →
        exec .cutOff s = .next ((s.raiseFld R.CU_STATUS_CUT_OFF).loseSeat s.mySeat) ∧ (s.raiseFld R.CU_STATUS_CUT_OFF).bit R.CU_STATUS_CUT_OFF = true)
    ∧ ((s.bit R.CU_STATUS_HOLDOVER = false ∨ s.bit R.CU_STATUS_CUT_OFF = true ∨ s.res.noMaster = true ∨ s.cue < s.cueX.heldAt + 1024) →
        exec .cutOff s = .next s)
    ∧ (s.bit R.CU_STATUS_MASTER = false → s.jobOpen = true → s.bit R.CU_CTL_BACKUP_EN = true → s.fld R.CU_CTL_BACKUP_SEAT = s.mySeat →
      s.cueX.lastNamed + 64 ≤ s.cue →
      Completes .backupMasterTakeover s (fun u => u.bit R.CU_STATUS_MASTER = true ∧ u.bit R.CU_STATUS_FAILOVER = true
        ∧ u.bit R.CU_STATUS_HOLDOVER = false ∧ u.bit R.CU_STATUS_LOCKED = false ∧ u.cueX = s.cueX
        ∧ (s.cueX.followed ≠ none → u.cue = s.cue)
        ∧ (s.cueX.followed = none → u.reg R.CU_COUNT
            = BitVec.ofNat 64 (if s.bit R.FH_PTP_STATUS_LOCKED then s.timeNs / (s.fld R.CU_CTL_PERIOD * 10) else 0))
        ∧ Only (fun a => a ∈ [R.CU_COUNT, R.CU_MAP_CUE, R.CU_MAP_NS, R.CU_STATUS]) s u))
    ∧ ((s.bit R.CU_STATUS_MASTER = true ∨ s.jobOpen = false ∨ s.bit R.CU_CTL_BACKUP_EN = false ∨ s.fld R.CU_CTL_BACKUP_SEAT ≠ s.mySeat
        ∨ s.cue < s.cueX.lastNamed + 64) → exec .backupMasterTakeover s = .next s))

/-- Alarms. ALARM_ARM writes the alarm's control register by its access codes, what hardware sets in the cycle standing; an armed alarm, not armed in this very cycle, whose target the
count has reached clears ARM, sets FIRED, is late only past its target, and takes its ACTION: an event to the booth, a notice on its channel, or, for a
reserved ACTION, the promptbook entry of R585 alone; below its target, not armed, or armed in this cycle, nothing changes. -/
def Obligations.AlarmsFireAtTheirTarget : Prop :=
  ∀ (s : State) (n : Fin 32),
    let target := (s.reg (R.CU_ALARM_TGT n)).toNat
    let act := s.fld (R.CU_ALARM_CTL_ACTION n)
    let t := (s.setFld (R.CU_ALARM_CTL_ARM n) 0).raiseFld (R.CU_ALARM_CTL_FIRED n)
    let l := if target < s.cue then (t.raiseFld (R.CU_ALARM_CTL_LATE n)).raiseFld R.CU_STATUS_LATE_ALARM else t
    (∀ v : Word,
      let w := s.setReg (R.CU_ALARM_CTL n) (BitVec.ofNat 64
        (regAfter s.locked (fieldsAt (R.CU_ALARM_CTL n)) (s.reg (R.CU_ALARM_CTL n)).toNat
          (v.toNat - Nat.land v.toNat (s.setHeld (R.CU_ALARM_CTL n))) (2 ^ 64 - 1)))
      exec (.alarmArm n v) s = .next (if w.bit (R.CU_ALARM_CTL_ARM n) then { w with now := { w.now with armed := n.val :: w.now.armed } } else w))
    ∧ ((s.bit (R.CU_ALARM_CTL_ARM n) = false ∨ n.val ∈ s.now.armed ∨ s.cue < target) → exec (.alarmFire n) s = .next s)
    ∧ (s.bit (R.CU_ALARM_CTL_ARM n) = true → n.val ∉ s.now.armed → target ≤ s.cue →
      l.bit (R.CU_ALARM_CTL_ARM n) = false ∧ l.bit (R.CU_ALARM_CTL_FIRED n) = true
      ∧ (target < s.cue → l.bit (R.CU_ALARM_CTL_LATE n) = true ∧ l.bit R.CU_STATUS_LATE_ALARM = true)
      ∧ (target = s.cue → l.bit (R.CU_ALARM_CTL_LATE n) = s.bit (R.CU_ALARM_CTL_LATE n) ∧ l.bit R.CU_STATUS_LATE_ALARM = s.bit R.CU_STATUS_LATE_ALARM)
      ∧ Only (fun a => a = R.CU_ALARM_CTL n ∨ a = R.CU_STATUS) s l
      ∧ (act = 0 → Completes (.alarmFire n) s (fun u => u = l.send (.booth 1 n.val)))
      ∧ (act = 1 → Completes (.alarmFire n) s (fun u => u = l.post (s.fld (R.CU_ALARM_CTL_CHANNEL n)) .cueTimer
          (BitVec.ofNat 64 (s.fld (R.CU_ALARM_CTL_TAG n) * 2 ^ 56 + R.CU_ALARM_CTL n))))
      ∧ (2 ≤ act → Completes (.alarmFire n) s (fun u => u = l.event 1 0 (2 * 2 ^ 56 + (n.val * 2 ^ 48 + act * 2 ^ 40 + target % 2 ^ 32)))))

/-- The curtain cue. At the cue master STEP_COMPLETE_ACCEPTED of the last seat gives K as the count plus MARGIN, a MARGIN below 8 acting as 8;
the announcement with that K goes at once to every up port of the flood tree, and CU_CURTAIN shows K. -/
def Obligations.CurtainCueIsLastAcceptancePlusMargin : Prop :=
  ∀ (s : State) (sender : BitVec 15) (step : BitVec 32) (discard : Bool),
    s.bit R.CU_STATUS_MASTER = true → s.curtain.announced = none → s.curtain.running = true → step.toNat = s.fld R.CU_STEP_STEP →
    s.jobSeats.contains sender.toNat = true → s.curtain.completes.any (fun c => c.1 == sender.toNat) = false →
    (s.jobSeats.all (fun q => q == sender.toNat || s.curtain.completes.any (fun c => c.1 == q)) = true) →
    let k := s.cue + (if s.fld R.CU_CTL_MARGIN < 8 then 8 else s.fld R.CU_CTL_MARGIN)
    Completes (.stepCompleteAccepted sender step discard) s (fun u =>
      u.curtain.announced = some k ∧ u.reg R.CU_CURTAIN = BitVec.ofNat 64 k ∧ u.fld R.CU_STATUS_CURTAIN_PHASE = 1 ∧ u.cue = s.cue
      ∧ ((sender.toNat, s.cue, discard) ∈ u.curtain.completes)
      ∧ (∀ p, p ∈ s.fab.tree → s.portUp p = true → (1, Ctl.announce k step.toNat) ∈ (u.port p).ctlq)
      ∧ Only (fun a => a = R.CU_CURTAIN ∨ a = R.CU_STATUS) s u)

/-- A step ends in its step-complete and the curtain interval. Step-complete. On a seat that is not master, once a running step's tiles have ended, its descriptors finished, no FENCE.F waits and its
reduce-writes are acknowledged, STEP_COMPLETE sends the report, with the step and the discard flag, to the cue master and is not sent again;
the master takes its own; while a condition fails nothing changes; the master keeps a first report and ignores a second one of the same seat. The curtain interval. An announcement of this step heard before K waits for K, one heard at K or later starts the drain at once; at K the
drain starts with C0; a class that is drained gives way to the next; reports reach the master only below K + 32; at K + 32 the verdict is
PUBLISH exactly when every seat reported without the discard flag; a first verdict is accepted below K + 48; without one K + 48 cuts the seat off. -/
def Obligations.StepsEndInTheCurtain : Prop :=
  (∀ (s : State),
     (s.stepOpen = true → s.stepDone = true → s.bit R.CU_STATUS_MASTER = false →
       Completes .stepComplete s (fun u => u.curtain = { s.curtain with late := 0, sent := true } ∧ u.stepOpen = false
         ∧ u.fab = (s.ctlRouted s.masterSeat (.stepComplete s.masterSeat s.mySeat (s.fld R.CU_STEP_STEP) s.discardFlag)).fab
         ∧ Only (fun _ => False) s u))
     ∧ (s.stepOpen = true → s.stepDone = true → s.bit R.CU_STATUS_MASTER = true → exec .stepComplete s
         = exec (.stepCompleteAccepted (BitVec.ofNat 15 s.mySeat) (BitVec.ofNat 32 (s.fld R.CU_STEP_STEP)) s.discardFlag)
             { s with curtain := { s.curtain with late := 0, sent := true } })
     ∧ (s.stepDone = false ∨ s.stepOpen = false → exec .stepComplete s = .next s)
     ∧ (∀ (sender : BitVec 15) (step : BitVec 32) (discard : Bool), s.bit R.CU_STATUS_MASTER = true → s.curtain.announced = none →
       s.jobSeats.contains sender.toNat = true → step.toNat = s.fld R.CU_STEP_STEP →
       (s.curtain.completes.any (fun c => c.1 == sender.toNat) = true → exec (.stepCompleteAccepted sender step discard) s = .next s)
       ∧ (s.curtain.completes.any (fun c => c.1 == sender.toNat) = false →
           (∃ q, q ∈ s.jobSeats ∧ q ≠ sender.toNat ∧ s.curtain.completes.any (fun c => c.1 == q) = false) →
         exec (.stepCompleteAccepted sender step discard) s
           = .next { s with curtain := { s.curtain with completes := s.curtain.completes ++ [(sender.toNat, s.cue, discard)] } })))
  ∧ ((∀ (s : State) (p : Fin 16) (k : Word) (step : BitVec 32), s.curtain.running = true → s.curtain.announced = none →
     step.toNat = s.fld R.CU_STEP_STEP →
     Completes (.announce p k step) s (fun u => u.curtain.announced = some k.toNat ∧ u.reg R.CU_CURTAIN = k
       ∧ u.curtain.drain = (if k.toNat ≤ s.cue then some 0 else none) ∧ u.fld R.CU_STATUS_CURTAIN_PHASE = (if k.toNat ≤ s.cue then 2 else 1)
       ∧ u.curtain.verdict = none ∧ u.curtain.applied = false
       ∧ (∀ q, q ∈ s.fab.tree → q ≠ p.val → s.portUp q = true → (1, Ctl.announce k.toNat step.toNat) ∈ (u.port q).ctlq)
       ∧ Only (fun a => a = R.CU_CURTAIN ∨ a = R.CU_STATUS) s u))
   ∧ (∀ (s : State) (p : Fin 16) (k : Word) (step : BitVec 32),
     (s.curtain.running = false ∨ s.curtain.announced ≠ none ∨ step.toNat ≠ s.fld R.CU_STEP_STEP) →
     Completes (.announce p k step) s (fun u => u.curtain = s.curtain ∧ u.regs = s.regs
       ∧ (∀ q, q ∈ s.fab.tree → q ≠ p.val → s.portUp q = true → (1, Ctl.announce k.toNat step.toNat) ∈ (u.port q).ctlq)))
   ∧ (∀ (s : State) (k : Nat), s.curtain.announced = some k →
     (s.curtain.drain = none → s.curtain.applied = false →
       (k ≤ s.cue → Completes .curtainDrainStart s (fun u => u.curtain = { s.curtain with drain := some 0 }
         ∧ u.fld R.CU_STATUS_CURTAIN_PHASE = 2 ∧ Only (fun a => a = R.CU_STATUS) s u))
       ∧ (s.cue < k → exec .curtainDrainStart s = .next s))
     ∧ (s.curtain.drain ≠ none ∨ s.curtain.applied = true → exec .curtainDrainStart s = .next s)
     ∧ (∀ c, s.curtain.drain = some c → 4 ≤ c ∨ s.classDrained c = false → exec .classDrained s = .next s)
     ∧ (∀ c, s.curtain.drain = some c → c < 3 → s.classDrained c = true →
       exec .classDrained s = .next { s with curtain := { s.curtain with drain := some (c + 1) } })
     ∧ (s.curtain.drain = some 3 → s.classDrained 3 = true → s.bit R.CU_STATUS_MASTER = false →
       Completes .classDrained s (fun u => u.curtain = { s.curtain with drain := some 4 } ∧ u.fld R.CU_STATUS_CURTAIN_PHASE = 3
         ∧ u.fab = (s.ctlRouted s.masterSeat (.drained s.masterSeat s.mySeat k s.discardFlag)).fab ∧ Only (fun a => a = R.CU_STATUS) s u))
     ∧ (s.curtain.drain = some 3 → s.classDrained 3 = true → s.bit R.CU_STATUS_MASTER = true →
       Completes .classDrained s (fun u => u.fld R.CU_STATUS_CURTAIN_PHASE = 3 ∧ u.curtain = { s.curtain with
           drain := some 4, reports := (if s.cue < k + 32 && !s.curtain.set && !s.curtain.reports.any (fun r => r.1 == s.mySeat) then
             s.curtain.reports ++ [(s.mySeat, s.discardFlag)] else s.curtain.reports) }
         ∧ u.fab = s.fab ∧ Only (fun a => a = R.CU_STATUS) s u))
     ∧ (∀ (sender : BitVec 15) (w : Word) (d : Bool), w.toNat = k → s.bit R.CU_STATUS_MASTER = true → s.curtain.set = false →
       s.curtain.reports.any (fun r => r.1 == sender.toNat) = false →
       (s.cue < k + 32 → exec (.drained sender w d) s
         = .next { s with curtain := { s.curtain with reports := s.curtain.reports ++ [(sender.toNat, d)] } })
       ∧ (k + 32 ≤ s.cue → exec (.drained sender w d) s = .next s))
     ∧ (s.bit R.CU_STATUS_MASTER = true → s.curtain.set = false → s.curtain.verdict = none → s.curtain.applied = false →
       s.bit R.CU_STATUS_CUT_OFF = false → s.curtain.completes.length < 2 →
       (s.jobSeats.all (fun q => s.curtain.reports.any (fun r => r.1 == q)) = true) → k + 32 ≤ s.cue → s.cue < k + 48 →
       Completes .verdictSet s (fun u => u.curtain.set = true ∧ u.curtain.verdict = some (s.curtain.reports.all (fun r => !r.2))
         ∧ (∀ p, p ∈ s.fab.tree → s.portUp p = true → (1, Ctl.verdict k (s.curtain.reports.all (fun r => !r.2))) ∈ (u.port p).ctlq)
         ∧ u.fld R.CU_STATUS_CURTAIN_PHASE = 4 ∧ Only (fun a => a = R.CU_STATUS) s u))
     ∧ ((s.bit R.CU_STATUS_MASTER = false ∨ s.curtain.set = true ∨ s.cue < k + 32) → exec .verdictSet s = .next s)
     ∧ (∀ (p : Fin 16) (w : Word) (publish : Bool), w.toNat = k → s.curtain.verdict = none → s.curtain.applied = false →
       s.bit R.CU_STATUS_CUT_OFF = false →
       (s.cue < k + 48 → Completes (.verdict p w publish) s (fun u => u.curtain = { s.curtain with verdict := some publish }
         ∧ u.fld R.CU_STATUS_CURTAIN_PHASE = 4 ∧ Only (fun a => a = R.CU_STATUS) s u))
       ∧ (k + 48 ≤ s.cue → Completes (.verdict p w publish) s (fun u => u.curtain = s.curtain ∧ u.regs = s.regs)))
     ∧ (s.curtain.verdict = none → s.bit R.CU_STATUS_CUT_OFF = false → k + 48 ≤ s.cue →
         exec .curtainCutOff s = .next ((s.raiseFld R.CU_STATUS_CUT_OFF).loseSeat s.mySeat))
     ∧ ((s.curtain.verdict ≠ none ∨ s.bit R.CU_STATUS_CUT_OFF = true ∨ s.cue < k + 48) → exec .curtainCutOff s = .next s)))

/-- The two outcomes of a curtain. From K + 40, on a follower without checkpoint work, PUBLISH makes each written shard's back copy its front
copy with the closing step's version, advances STEP modulo 2³² and clears the discard flag; DISCARD leaves STEP, versions and front copies and
counts itself. Both empty the rigging and fabric queues and every channel a tile receives, and mark the verdict applied. -/
def Obligations.PublishAndDiscard : Prop :=
  ∀ (s : State) (k : Nat) (peer : List (List (BitVec 16))) (asked : Fin 16) (flash : Bool),
    s.canonical = true → s.curtain.announced = some k → s.curtain.applied = false → k + 40 ≤ s.cue → s.bit R.CU_STATUS_MASTER = false →
    s.res.opened = none → s.res.flashDue = false → s.res.deltas = [] → s.res.owed = [] → s.fab.resilDone = [] →
    let n := s.fld R.CU_STEP_STEP
    let emptied := fun (u : State) => u.fab.inject = [] ∧ u.fab.inbox = [] ∧ u.fab.ceQ0 = [] ∧ u.fab.ceQ1 = [] ∧ u.fab.early = []
      ∧ u.rig.bufs = [] ∧ u.rig.ends = [] ∧ u.discardFlag = false
      ∧ u.curtain.applied = true ∧ u.fld R.CU_STATUS_CURTAIN_PHASE = 5
      ∧ ∀ c, c < 256 → s.chanKind c ≠ .unbound → 0x800 ≤ s.fld (R.CB_BIND_RECEIVER_MID c) → u.chan c = []
    let shard := fun (st i : Nat) => st < 8 ∧ i < 1024 ∧ s.bit (R.TP_SHARD_W0_VALID st i) = true
    (s.curtain.verdict = some true → Completes (.publish peer asked flash) s (fun u =>
      emptied u ∧ u.fld R.CU_STEP_STEP = (n + 1) % 2 ^ 32 ∧ u.bit R.CU_STATUS_LAST_VERDICT = true
      ∧ ∀ st i, shard st i → u.bit (R.TP_SHARD_W0_WRITTEN st i) = false
        ∧ (s.bit (R.TP_SHARD_W0_WRITTEN st i) = true → u.fld (R.TP_SHARD_W1_VERSION st i) = n
            ∧ u.frontCopy st i = s.backCopy st i)
        ∧ (s.bit (R.TP_SHARD_W0_WRITTEN st i) = false → u.fld (R.TP_SHARD_W1_VERSION st i) = s.fld (R.TP_SHARD_W1_VERSION st i)
            ∧ u.frontCopy st i = s.frontCopy st i)))
    ∧ (s.curtain.verdict = some false → Completes (.discard peer) s (fun u =>
      emptied u ∧ u.fld R.CU_STEP_STEP = n ∧ u.bit R.CU_STATUS_LAST_VERDICT = false
      ∧ u.fld R.CU_STEP_DISCARDS = satAdd (2 ^ (R.CU_STEP_DISCARDS.hi + 1 - R.CU_STEP_DISCARDS.lo) - 1) (s.fld R.CU_STEP_DISCARDS) 1
      ∧ ∀ st i, shard st i → u.fld (R.TP_SHARD_W1_VERSION st i) = s.fld (R.TP_SHARD_W1_VERSION st i)
        ∧ u.frontCopy st i = s.frontCopy st i ∧ u.bit (R.TP_SHARD_W0_WRITTEN st i) = false))

/-- Scene changes. A change or restore taken with nothing in progress starts at the largest of the cue asked for, its stamp plus 16 and K + 64,
sent to the other seats of the job; one whose scene is not staged, or a restore with none saved, ends with 0x88 or 0x89; a heard cue is kept; at C, and not before, the
change begins; each stop wave stops its dies' tiles, for a change and for a restore; each start wave issues a new scene's tiles from index 0 and a restored
one's where they stopped, and the last one ends the change. -/
def Obligations.SceneChangesAtTheirCue : Prop :=
  (∀ (s : State) (c : CmdRec),
    let k := max c.reqCue (max (c.taken + 16) (match s.curtain.announced with | some k => if s.curtainOver then 0 else k + 64 | none => 0))
    (s.nextChange opcSceneChange = some c →
      ((∃ x, s.staged? (c.par 0 2) = some x) → Completes .sceneChange s (fun u =>
        u.scene = { s.scene with change := some ⟨k, some (c.par 0 2), false, false, false, []⟩ }
        ∧ u.fab = (s.sendC3 s.mates (.sceneChange k (c.par 0 2) false)).fab ∧ u.out = s.out ∧ u.regs = s.regs ∧ u.mem = s.mem ∧ u.tiles = s.tiles))
      ∧ (s.staged? (c.par 0 2) = none → exec .sceneChange s = .next (s.cmdDone c 0x88 [])))
    ∧ (s.nextChange opcSceneRestore = some c →
      (s.scene.saved.isSome = true → Completes .sceneRestore s (fun u =>
        u.scene = { s.scene with change := some ⟨k, none, false, false, false, []⟩ }
        ∧ u.fab = (s.sendC3 s.mates (.sceneChange k 0 true)).fab ∧ u.out = s.out ∧ u.regs = s.regs ∧ u.mem = s.mem ∧ u.tiles = s.tiles))
      ∧ (s.scene.saved = none → exec .sceneRestore s = .next (s.cmdDone c 0x89 []))))
  ∧ (∀ (s : State), (s.scene.change.isSome = true → exec .sceneChange s = .next s ∧ exec .sceneRestore s = .next s)
    ∧ ∀ h : Word × BitVec 16,
      (s.scene.change = none → exec (.sceneChangeStart (some h)) s
        = .next { s with scene := { s.scene with change := some ⟨h.1.toNat, some h.2.toNat, false, false, false, []⟩ } })
      ∧ (s.scene.change ≠ none → exec (.sceneChangeStart (some h)) s = .next s))
  ∧ (∀ (s : State) (ch : SceneChange), s.scene.change = some ch →
    (ch.scene.isSome = true → ch.begun = false →
      (ch.c ≤ s.cue → Completes (.sceneChangeStart none) s (fun u => u.scene.change = some { ch with begun := true }
          ∧ u.fld R.CU_STATUS_SCENE_STATE = 1 ∧ (∀ k, k < 8 → (u.teStack k).suspended = true) ∧ Only (fun a => a = R.CU_STATUS) s u))
      ∧ (s.cue < ch.c → exec (.sceneChangeStart none) s = .next s))
    ∧ (∀ w : Fin 4, ch.begun = true → ch.saved = false → ch.waves.length = w.val →
      Completes (.stopWave w) s (fun u => u.scene.change = some { ch with waves := ch.waves ++ [w.val] } ∧ u.mem = s.mem
        ∧ ∀ t, t < 2048 → u.fld (R.TA_SEQ_STATE t) = (if t ∈ s.tilesOfScene ∧ (t / 256 = w.val ∨ t / 256 = w.val + 4)
              ∧ (s.fld (R.TA_SEQ_STATE t) = seqIssuing ∨ s.fld (R.TA_SEQ_STATE t) = seqHeld) then seqStopped
            else s.fld (R.TA_SEQ_STATE t))))
    ∧ (∀ w : Fin 4, (ch.begun = false ∨ ch.saved = true ∨ ch.waves.length ≠ w.val) → exec (.stopWave w) s = .next s)
    ∧ (∀ w : Fin 4, ch.loaded = true → ch.waves.length = w.val →
      Completes (.startWave w) s (fun u =>
        (ch.scene.isSome = true → ∀ t, t < 2048 → t ∈ s.tilesOfScene → (t / 256 = w.val ∨ t / 256 = w.val + 4) →
          u.fld (R.TA_SEQ_STATE t) = seqIssuing ∧ u.fld (R.TA_SEQ_RESUME t) = 0 ∧ u.fld (R.TA_PVL_VL t) = 0 ∧ u.reg (R.TA_HALT0 t) = 0
            ∧ (u.tile t).waitGrant = false)
        ∧ (ch.scene = none → s.res.recovering = false → ∀ t, t < 2048 → u.fld (R.TA_SEQ_RESUME t) = s.fld (R.TA_SEQ_RESUME t)
          ∧ u.fld (R.TA_SEQ_STATE t) = (if t ∈ s.tilesOfScene ∧ (t / 256 = w.val ∨ t / 256 = w.val + 4)
              ∧ s.fld (R.TA_SEQ_STATE t) = seqStopped then seqIssuing else s.fld (R.TA_SEQ_STATE t)))
        ∧ (if w = 3 then u.scene.change = none else u.scene.change = some { ch with waves := ch.waves ++ [w.val] })))
    ∧ (∀ w : Fin 4, (ch.loaded = false ∨ ch.waves.length ≠ w.val) → exec (.startWave w) s = .next s))

/-- Records of a scene. SCENE_SAVE on a quiet part writes every tile's stores byte for byte into its record of the save area, keeps the tiles'
sequencing and empties their channels and the booth's queues; of a rollout it discards the queues and saves nothing; on a part that is not quiet it
changes nothing. SCENE_SWAP_IN makes the staged scene the running rollout. At its cue RESTORE_START begins the stop, and once the rollout is gone it brings
every tile's stores and sequencing back and leaves no scene saved; a heard restore cue is kept. -/
def Obligations.SceneRecordsMoveToAndFrom : Prop :=
  (∀ (s : State) (ch : SceneChange), s.canonical = true → s.scene.change = some ch →
    (∀ p ∈ s.regs, ∀ q, tileSpace p.1 = some q → offRegs + 16 ≤ q.2 ∧ q.2 + 8 ≤ 0x100000) →
    let quiet := (∀ c, c < 4 → s.classDrained c = true) ∧ (∀ t ∈ s.tilesOfScene, (s.tile t).quiet = true) ∧ (∀ k, k < 8 → (s.teStack k).running = [])
    let due := ch.begun = true ∧ ch.saved = false ∧ ch.waves.length = 4
    let gone := fun (u : State) => (∀ n, n ∈ s.tileChannels → u.chan n = []) ∧ (∀ k, k < 8 → (u.teStack k).boothQ = [])
    (quiet → due → ch.scene.isSome = true → s.scene.rollout = false →
      Completes (.sceneSave true) s (fun u =>
        (∀ t o, t < 2048 → o < offRegs → u.byte (saveBase t + o) = s.byte (tileBase t + o) ∧ u.byte (tileBase t + o) = s.byte (tileBase t + o))
        ∧ (∃ sv, u.scene.saved = some sv ∧ sv.id = s.scene.id ∧ sv.tiles = s.tiles ∧ sv.cue = ch.c ∧ sv.seed = s.scene.seed
            ∧ sv.queues = (List.range 8).map (fun k => (k, (s.teStack k).boothQ)))
        ∧ gone u ∧ u.tiles = s.tiles ∧ u.scene.change = some { ch with saved := true, waves := [] }))
    ∧ (quiet → due → (ch.scene = none ∨ s.scene.rollout = true) → Completes (.sceneSave true) s (fun u => gone u ∧ u.mem = s.mem ∧ u.tiles = s.tiles
        ∧ u.scene = { s.scene with change := some { ch with saved := true, waves := [] } }))
    ∧ (exec (.sceneSave false) s = .next s) ∧ (¬ quiet ∨ ¬ due → exec (.sceneSave true) s = .next s)
    ∧ (∀ n st, ch.scene = some n → s.staged? n = some st → ch.saved = true → ch.loaded = false →
      Completes .sceneSwapIn s (fun u => u.scene = { s.scene with
        id := st.id, images := st.images, seed := st.seed, rollout := true, change := some { ch with loaded := true } }))
    ∧ ((ch.scene = none ∨ ch.saved = false ∨ ch.loaded = true) → exec .sceneSwapIn s = .next s)
    ∧ (∀ (peer : List (List (BitVec 16))) (sv : SavedScene), s.scene.saved = some sv → ch.scene = none → ch.c ≤ s.cue → ch.loaded = false →
      (ch.begun = false → Completes (.restoreStart none peer) s (fun u => u.scene = { s.scene with change := some { ch with begun := true } }
        ∧ u.fld R.CU_STATUS_SCENE_STATE = 3 ∧ Only (fun a => a = R.CU_STATUS) s u))
      ∧ (ch.begun = true → ch.saved = false → exec (.restoreStart none peer) s = .next s)
      ∧ (ch.begun = true → ch.saved = true → s.res.deferred = [] →
        Completes (.restoreStart none peer) s (fun u =>
          (∀ t o, t < 2048 → o < offRegs → u.byte (tileBase t + o) = s.byte (saveBase t + o)) ∧ u.tiles = sv.tiles
          ∧ u.scene.saved = none ∧ u.scene.id = sv.id ∧ u.scene.rollout = false
          ∧ u.scene.change = some { ch with begun := true, saved := true, loaded := true, waves := [] })))
    ∧ (∀ peer : List (List (BitVec 16)), s.cue < ch.c → exec (.restoreStart none peer) s = .next s))
  ∧ (∀ (s : State) (c : Word) (peer : List (List (BitVec 16))), s.scene.change = none →
      exec (.restoreStart (some c) peer) s
        = .next { s with scene := { s.scene with change := some ⟨c.toNat, none, false, false, false, []⟩ } })

/-- First issues. SCENE_START arms every tile of the scene from index 0 with VL zero, its halt record empty and its generators, like the trap engines',
reseeded from the scene's seed, and leaves the tiles outside the scene no committed bank and no mark; STEP_START at K + 64, and not before, nor while
loads, changes, a rollout or a ready plan are to come first, clears the curtain and arms the tiles that are neither halted nor stopped, after a discard
those too; JOB_STOP's last curtain stops the steps instead. -/
def Obligations.FirstIssuesOfStepAndScene : Prop :=
  ∀ (s : State),
    (s.curtain.starting = true → (∀ t, t ∈ s.tilesOfScene → t < 2048 ∧ s.bit (R.TA_BANKCTL_MARK t) = false) →
      Completes .sceneStart s (fun u => u.curtain = { s.curtain with starting := false, running := true, firstIssue := some s.cue }
        ∧ (∀ k, k < 8 → (u.teStack k).sr = [] ∧ ∀ e, e < 16 → u.reg (R.TP_SR_SEED k e) = BitVec.ofNat 64 s.scene.seed)
        ∧ (∀ t, t < 2048 → t ∉ s.tilesOfScene → u.commitSet t 0 = false ∧ u.commitSet t 1 = false ∧ u.bit (R.TA_BANKCTL_MARK t) = false)
        ∧ ∀ t, t ∈ s.tilesOfScene → u.fld (R.TA_SEQ_STATE t) = seqIssuing ∧ u.fld (R.TA_SEQ_RESUME t) = 0 ∧ u.fld (R.TA_PVL_VL t) = 0
          ∧ u.reg (R.TA_HALT0 t) = 0 ∧ u.reg (R.TA_SR_SEED t) = BitVec.ofNat 64 s.scene.seed ∧ (u.tile t).sr = []))
    ∧ (s.curtain.starting = false → exec .sceneStart s = .next s)
    ∧ (∀ k, s.curtain.running = true → s.curtain.announced = some k → s.curtain.applied = true → s.curtain.resumeAt = none →
      (s.cue < k + 64 ∨ s.gapWork = true → exec .stepStart s = .next s)
      ∧ (k + 64 ≤ s.cue → s.gapWork = false → s.curtain.stopAsked = true ∨ s.curtain.left = some 0 → Completes .stepStart s (fun u => u.curtain.running = false
          ∧ u.curtain.firstIssue = none ∧ u.curtain.announced = none ∧ u.fld R.CU_STATUS_CURTAIN_PHASE = 0 ∧ u.tiles = s.tiles))
      ∧ (k + 64 ≤ s.cue → s.gapWork = false → s.curtain.stopAsked = false → s.curtain.left ≠ some 0 → s.curtain.verdict ≠ none →
        Completes .stepStart s (fun u => u.curtain.announced = none ∧ u.curtain.sent = false
          ∧ u.curtain.firstIssue = some s.cue ∧ u.fld R.CU_STATUS_CURTAIN_PHASE = 0 ∧ u.mem = s.mem
          ∧ ∀ t, t < 2048 → if t ∈ s.tilesOfScene ∧ (s.curtain.verdict = some false
                ∨ s.fld (R.TA_SEQ_STATE t) ≠ seqHalted ∧ s.fld (R.TA_SEQ_STATE t) ≠ seqStopped) then
              u.fld (R.TA_SEQ_STATE t) = seqIssuing ∧ u.fld (R.TA_SEQ_RESUME t) = 0
            else u.fld (R.TA_SEQ_STATE t) = s.fld (R.TA_SEQ_STATE t))))
    ∧ (s.curtain.running = false → exec .stepStart s = .next s)

/-- The loader and the booth's bank writes. Once the images are read, LOAD_SCENE of images of which one is rejected changes no byte of any tile window and ends with
VERIFY_FAILED; an accepted image's standby bank gets its commit word, the scene is loaded, tiles outside it hold no committed bank and no mark, and a
plan that waits for the load shows STATE 4 first and is then applied, or fails the load where its space is taken; a booth write to
a standby bank stores its bytes and clears the commit word, one that ends in a whole commit word with SET, or a commit, sets it, and neither touches the
bank in use, which answers BANK_ACTIVE. -/
def Obligations.LoaderCommitsWhatVerifies : Prop :=
  (∀ (s : State), (s.runningCmd opcLoadScene = none ∨ s.inCurtain = true → exec .loadScene s = .next s)
    ∧ ∀ (c : CmdRec), s.runningCmd opcLoadScene = some c → s.inCurtain = false →
    let r := s.readImages c
    let ready := ∀ pp, s.job.ready = some pp → s.planFits pp.plan = true ∧ s.fld R.BK_STATUS_STATE = 4
    let loaded := fun (u : State) => u.scene.images = r.1 ∧ u.scene.id = c.sceneId ∧ u.scene.seed = c.sceneSeed
    (∀ pp, s.job.ready = some pp → (s.planFits pp.plan = false → exec .loadScene s = .next (s.readyFails c pp))
      ∧ (s.planFits pp.plan = true → s.fld R.BK_STATUS_STATE ≠ 4 → exec .loadScene s = .next (s.setFld R.BK_STATUS_STATE 4)))
    ∧ (∀ p, ready → r.2.verifyScene r.2.planTiles r.1 = some p → Completes .loadScene s (fun u => u = r.2.verifyFailed c p ∧ u.scene = s.scene
        ∧ ∀ a, 0x11000000000 ≤ a → a < 0x11080000000 → u.byte a = r.2.byte a))
    ∧ (∀ l t, s.job.ready = none → r.1 = [l] → r.2.verifyScene r.2.planTiles r.1 = none → (Image.ofBytes l).tiles = [t] → t < 2048 →
      s.fld (R.TA_SEQ_BANK t) < 2 →
      Completes .loadScene s (fun u => u.commitSet t (1 - s.fld (R.TA_SEQ_BANK t)) = true ∧ loaded u
        ∧ (c.sceneMark ≠ 0 → u.bit (R.TA_BANKCTL_MARK t) = true)))
    ∧ (ready → r.2.verifyScene r.2.planTiles r.1 = none → Completes .loadScene s (fun u => loaded u
        ∧ (∀ t, t < 2048 → t ∉ sceneTiles r.1 → u.commitSet t 0 = false ∧ u.commitSet t 1 = false ∧ u.bit (R.TA_BANKCTL_MARK t) = false)
        ∧ ∀ pp, s.job.ready = some pp → u.job.ready = none ∧ u.job.applied = some pp.plan)))
  ∧ (∀ (s : State) (core : Fin 2) (t : Tile) (bank : Fin 2) (off : Fin 0x20000) (data : List Byte) (w : BitVec 128),
    let a := tileBase t + 0x80000 + 0x20000 * bank.val + off.val
    (s.bankInUse t ≠ bank.val → 0 < data.length → off.val + data.length ≤ 0x1FFF0 →
      Completes (.bankWrite core t bank off data) s (fun u => u.bytes a data.length = data ∧ u.commitSet t bank = false
        ∧ (∀ x, (x < a ∨ a + data.length ≤ x) → (x < commitAddr t bank ∨ commitAddr t bank + 16 ≤ x) → u.byte x = s.byte x)
        ∧ u.regs = s.regs ∧ u.out = s.out ++ [.bus (1 + core.val) a 0 []]))
    ∧ (s.bankInUse t ≠ bank.val → off.val ≤ 0x1FFF0 → off.val + data.length = 0x20000 → ((data.drop (0x1FFF0 - off.val)).headD 0).toNat % 2 = 1 →
      Completes (.bankWrite core t bank off data) s (fun u => u.bytes a data.length = data ∧ u.commitSet t bank = true
        ∧ (∀ x, (x < a ∨ a + data.length ≤ x) → u.byte x = s.byte x) ∧ u.regs = s.regs ∧ u.out = s.out ++ [.bus (1 + core.val) a 0 []]))
    ∧ (s.bankInUse t ≠ bank.val →
      Completes (.bankCommit core t bank w) s (fun u => u.commitSet t bank = true
        ∧ (∀ x, (x < commitAddr t bank ∨ commitAddr t bank + 16 ≤ x) → u.byte x = s.byte x) ∧ u.regs = s.regs))
    ∧ (s.bankInUse t = bank.val →
      Completes (.bankWrite core t bank off data) s (fun u => (∀ x, u.byte x = s.byte x) ∧ u.out = s.out ++ [.bus (1 + core.val) a 0x10 []])
      ∧ Completes (.bankCommit core t bank w) s (fun u => ∀ x, u.byte x = s.byte x)))

/-- The booth over tiles. BANKCTL_MARK sets or clears MARK alone; BOOTH_HALT waits for the next cycle where the tile has issued in this one; else it halts
a tile, if no trap was entered in the cycle, with reason 0x07 and the
written detail and leaves a halted tile's record alone; SR_SEED_WRITE stores the seed, the tile's generators restarting in the next cycle and this one's draws
going on from the old; TILE_REVOKE frees a halted tile's locks and empties the channels it receives, and does nothing for any other tile. -/
def Obligations.BoothControlsTiles : Prop :=
  ∀ (s : State) (t : Tile),
    (∀ m : Bool, Completes (.bankctlMark t m) s (fun u => u.bit (R.TA_BANKCTL_MARK t) = m ∧ Only (fun a => a = R.TA_BANKCTL t) s u))
    ∧ (∀ (d : BitVec 32) (m : Bool), s.fld (R.TA_SEQ_STATE t) ≠ seqHalted → s.bit (R.TA_HALT0_VALID t) = false →
      (s.issuePt t).rep < 2 ^ 13 → (∀ p ∈ s.now.entered, p.1 ≠ t.val) → (∀ n ∈ s.now.issued, n.tile ≠ t.val) →
      Completes (.boothHalt t d m) s (fun u => u.fld (R.TA_SEQ_STATE t) = seqHalted ∧ u.fld (R.TA_SEQ_HALT_REASON t) = 0x07
        ∧ u.reg (R.TA_HALT2 t) = d.zeroExtend 64 ∧ u.bit (R.TA_HALT0_VALID t) = true ∧ u.bit (R.TA_BANKCTL_MARK t) = m
        ∧ (∀ a, u.byte a = s.byte a) ∧ ∀ k, k ≠ t.val → u.tile k = s.tile k))
    ∧ (∀ (d : BitVec 32) (m : Bool), (∃ n ∈ s.now.issued, n.tile = t.val) → Completes (.boothHalt t d m) s (fun u => Keeps s u
        ∧ u.now.halting = s.now.halting ++ [⟨t, 0, 8, d.toNat * 2 ^ 32 + 2 + b2n m⟩]))
    ∧ (∀ (d : BitVec 32) (m : Bool), s.fld (R.TA_SEQ_STATE t) = seqHalted → (∀ n ∈ s.now.issued, n.tile ≠ t.val) →
      Completes (.boothHalt t d m) s (fun u => u.bit (R.TA_BANKCTL_MARK t) = m ∧ Only (fun a => a = R.TA_BANKCTL t) s u))
    ∧ (∀ v : Word, Completes (.srSeedWrite t v) s (fun u => u.reg (R.TA_SR_SEED t) = v ∧ t.val ∈ u.now.reseeds
        ∧ u.regInForce (R.TA_SR_SEED t) = s.regInForce (R.TA_SR_SEED t) ∧ Only (fun a => a = R.TA_SR_SEED t) s u))
    ∧ (s.fld (R.TA_SEQ_STATE t) = seqHalted → Completes (.tileRevoke t) s (fun u =>
        (∀ n, n < 256 → u.fld (R.CB_LOCK_HOLDER n) = (if s.fld (R.CB_LOCK_HOLDER n) = tileMid t then 0 else s.fld (R.CB_LOCK_HOLDER n)))
        ∧ ((s.tile t).xfers = [] → (∀ n, n < 256 → s.chanKind n ≠ .unbound → s.fld (R.CB_BIND_RECEIVER_MID n) = tileMid t → u.chan n = [])
          ∧ u.mem = s.mem ∧ u.tiles = s.tiles)))
    ∧ (s.fld (R.TA_SEQ_STATE t) ≠ seqHalted → exec (.tileRevoke t) s = .next s)

/-- Upkeep of stacks and caches. A new SIZE outside a job sets BUSY and leaves no valid line, and takes effect when BUSY clears; the scrubber,
an input of its home's arbiter, counts what it corrects and the poison it reads and poisons an uncorrectable unit, in stacks, wings and cache slices; a temperature sample
sets TEMP and the step of Table 8.8, step 5 stopping the stack; RETIRE_PAGE takes the next spare, or ends without one. -/
def Obligations.StackAndCacheUpkeep : Prop :=
  ∀ (s : State),
    (∀ v : Word, s.jobOpen = false → v.toNat % 16 ≤ 8 → v.toNat % 16 ≠ s.fld R.WG_CACHE_CTL_SIZE →
      Completes (.cacheResize v) s (fun u => u.fld R.WG_CACHE_CTL_SIZE = v.toNat % 16 ∧ u.bit R.WG_CACHE_CTL_BUSY = true
        ∧ (∀ g, (u.line g).valid = false) ∧ u.cacheN = s.cacheN))
    ∧ (∀ v : Word, (s.jobOpen = true ∨ 8 < v.toNat % 16 ∨ v.toNat % 16 = s.fld R.WG_CACHE_CTL_SIZE) → exec (.cacheResize v) s = .next s)
    ∧ (s.bit R.WG_CACHE_CTL_BUSY = true → Completes .cacheResizeDone s (fun u => u.cacheN = s.fld R.WG_CACHE_CTL_SIZE
        ∧ u.bit R.WG_CACHE_CTL_BUSY = false ∧ Only (fun a => a = R.WG_CACHE_CTL) s u))
    ∧ (s.bit R.WG_CACHE_CTL_BUSY = false → exec .cacheResizeDone s = .next s)
    ∧ (∀ (a : BitVec 44) (x : Nat),
      let r := regionOf s.cacheN a.toNat
      let u0 := unitBase r a.toNat
      let g := s.homeGrant r .scrub
      (u0 ≤ x → x < u0 + unitSize r → s.flaws = [] →
        (∀ die off, r = .wings die off → exec (.scrub a noEcc) s = .next g
          ∧ exec (.scrub a ⟨some x, none⟩) s = .next (g.countFld (R.WG_ECC_CORRECTED die) 1)
          ∧ exec (.scrub a ⟨none, some x⟩) s = .next ((g.setPoison u0 true).countFld (R.WG_ECC_UNCORR die) 1))
        ∧ (∀ k loc, r = .trap k loc → s.bit (R.TP_STATUS_ONLINE k) = true →
          (s.poisoned u0 = false → exec (.scrub a noEcc) s = .next g ∧ exec (.scrub a ⟨some x, none⟩) s = .next (g.watchError 0 k loc u0))
          ∧ (s.poisoned u0 = true → exec (.scrub a noEcc) s = .next (g.countFld (R.TP_ECC_POISON_READS k) 1))
          ∧ Completes (.scrub a ⟨none, some x⟩) s (fun u => u.poisoned u0 = true ∧ (∀ c, u.byte c = s.byte c)
              ∧ u.fld (R.TP_ECC_UNCORR k) = min (2 ^ ((R.TP_ECC_UNCORR k).hi + 1 - (R.TP_ECC_UNCORR k).lo) - 1) (s.fld (R.TP_ECC_UNCORR k) + 1))))
      ∧ (∀ k loc, r = .trap k loc → s.bit (R.TP_STATUS_ONLINE k) = false → ∀ ecc, exec (.scrub a ecc) s = .next s)
      ∧ (∀ d, r = .unmapped → sliceDie s.cacheN a.toNat = some d → Completes (.scrub a noEcc) s (fun u => Keeps s u ∧ u.cache = s.cache))
      ∧ ((∀ k loc, r ≠ .trap k loc) → (∀ d off, r ≠ .wings d off) → sliceDie s.cacheN a.toNat = none → ∀ ecc, exec (.scrub a ecc) s = .next s))
    ∧ (∀ (k : Fin 8) (temp : BitVec 8), s.fld (R.TP_STATUS_STEP k) ≤ 5 →
      let cur := s.fld (R.TP_STATUS_STEP k)
      let reached := ([85, 95, 100, 105, 110].filter (fun n => decide (n ≤ temp.toNat))).length
      let new := if cur < reached then reached else if cur ≠ 0 ∧ temp.toNat + 3 ≤ [0, 85, 95, 100, 105, 110].getD cur 0 then cur - 1 else cur
      Completes (.stackTempSample k temp) s (fun u => u.fld (R.TP_STATUS_TEMP k) = temp.toNat ∧ u.fld (R.TP_STATUS_STEP k) = new
        ∧ (new < 5 ∨ cur = 5 → u.bit (R.TP_STATUS_ONLINE k) = s.bit (R.TP_STATUS_ONLINE k))
        ∧ (new = 5 → cur < 5 → u.bit (R.TP_STATUS_STOPPED k) = true ∧ u.bit (R.TP_STATUS_ONLINE k) = false)))
    ∧ (∀ (c : CmdRec) (bad : List (BitVec 44)), s.runningCmd opcRetirePage = some c →
      let h := trapHome (c.par 0 8)
      let spare := s.fld (R.TP_SPARES_USED h.1)
      (s.fld (R.TP_SPARES_TOTAL h.1) ≤ spare → exec (.retirePage bad) s = .next (s.cmdDone c 0x4B []))
      ∧ (spare < s.fld (R.TP_SPARES_TOTAL h.1) → spare < 0xFFFF → Completes (.retirePage bad) s (fun u =>
          u.retired = s.retired ++ [(h.1, h.2 / 65536, spare)] ∧ u.fld (R.TP_SPARES_USED h.1) = spare + 1
          ∧ (∀ b ∈ bad, b.toNat < 2 ^ 40 → (trapHome b.toNat).1 = h.1 → (trapHome b.toNat).2 / 65536 = h.2 / 65536 →
              u.poisoned (b.toNat / 32 * 32) = true)
          ∧ (∀ d ∈ u.host.cmds, d.id ≠ c.id))))
    ∧ (∀ bad, s.runningCmd opcRetirePage = none → exec (.retirePage bad) s = .next s)

/-- Reduce-writes. A reduce-write into the wings, let through and meeting no poison and no error, replaces the bytes it names by the element-by-element sum
of what stood there and what it brings, or, from the resilience engine, by their exclusive or, and changes no other byte; one into a gradient buffer being
zeroed is counted in ARRIVED and held; the end of the zeroing leaves the buffer all zero, and anything with nothing being zeroed changes nothing. -/
def Obligations.ReduceWritesAddAtTheirHome : Prop :=
  (∀ (s : State) (mid : BitVec 12) (a : BitVec 44) (xor : Bool) (fmt : BitVec 16) (f : FmtWord) (data : List Byte) (die off : Nat),
    regionOf s.cacheN a.toNat = .wings die off → s.boot.failed.contains (0x100 + die) = false → (∀ p, s.poisoned p = false) → s.flaws = [] →
    0 < data.length →
    (if xor then mid.toNat = 5 else allowed (masterOf mid.toNat) true true (.wings die off) a.toNat = true
      ∧ ((masterOf mid.toNat).named = true → s.nameHit a.toNat data.length true = .none) ∧ FmtWord.ofWord fmt.toNat = some f ∧ reduceFmt f.fmt = true) →
    Completes (.reduceWrite mid a xor fmt data (List.replicate data.length false) noEcc) s (fun u =>
      u.bytes a.toNat data.length = (if xor then (List.zip (s.bytes a.toNat data.length) data).map (fun p => p.1 ^^^ p.2) else
        (reduceBytes false f (s.teDraw die (s.takeEngine die).1) s.freeAt (fun _ => true) (s.bytes a.toNat data.length) data).1)
      ∧ (∀ c, c < a.toNat ∨ a.toNat + data.length ≤ c → u.byte c = s.byte c)
      ∧ u.out = s.out ++ [.bus mid.toNat a.toNat 0 []]))
  ∧ (∀ (s : State) (k : Fin 8) (idx : Fin 1024) (mid : BitVec 12) (a : BitVec 44) (fmt : BitVec 16) (f : FmtWord) (data : List Byte)
      (psn : List Bool) (stack loc n : Nat),
    regionOf s.cacheN a.toNat = .trap stack loc → allowed (masterOf mid.toNat) true true (.trap stack loc) a.toNat = true →
    ((masterOf mid.toNat).named = true → s.nameHit a.toNat data.length true = .none) →
    FmtWord.ofWord fmt.toNat = some f → reduceFmt f.fmt = true →
    s.gradEntries a.toNat data.length = [(k.val, idx.val, n)] → idx.val ∈ (s.teStack k).zeroing → s.bit (R.TP_SHARD_W0_FIRED k idx) = false →
    s.fld (R.TP_SHARD_W12_EXPECT k idx) = 0 → s.fld (R.TP_SHARD_W13_ARRIVED k idx) + n < 2 ^ 48 →
    Completes (.reduceWrite mid a false fmt data psn noEcc) s (fun u =>
      u.fld (R.TP_SHARD_W13_ARRIVED k idx) = s.fld (R.TP_SHARD_W13_ARRIVED k idx) + n
      ∧ (u.teStack k).heldRw = (s.teStack k).heldRw ++ [⟨idx.val, mid.toNat, a.toNat, fmt.toNat, false, data, psn, .nobody mid.toNat⟩]
      ∧ u.mem = s.mem ∧ u.out = s.out))
  ∧ (∀ (s : State) (k : Fin 8) (idx : Fin 1024),
    let g := s.gradRange k idx
    (idx.val ∈ (s.teStack k).zeroing → (∀ h ∈ (s.teStack k).heldRw, h.entry ≠ idx.val) →
      Completes (.heldReduceWrite k idx) s (fun u => idx.val ∉ (u.teStack k).zeroing ∧ u.out = s.out
        ∧ ((∀ j, j < g.2 → pinnedStack (g.1 + j) = some k.val) → s.bit (R.TP_STATUS_ONLINE k) = true → s.cache = [] → (∀ p, s.poisoned p = false) → s.flaws = [] →
            (∀ j, j < g.2 → u.byte (g.1 + j) = 0) ∧ ∀ c, c < g.1 ∨ g.1 + g.2 ≤ c → u.byte c = s.byte c)))
    ∧ (idx.val ∉ (s.teStack k).zeroing → exec (.heldReduceWrite k idx) s = .next s))

/-- Descriptors. A valid entry whose bases lie outside the stack's pinned range is refused with BAD_ENTRY, one whose bases lie inside is kept; a booth
post is queued whole, or sets OVERRUN when no place is free; the dispatcher takes the next startable descriptor of the round-robin out of its queue and
starts it; a descriptor with no unit left leaves the running list, and one with units left stays; a clipping sum sets PENDING and its factor once, a sum
that is not finite NONFINITE and the discard flag, and DONE follows the last rerun. -/
def Obligations.DescriptorsQueueStartAndComplete : Prop :=
  ∀ (s : State) (k : Fin 8),
    (∀ (idx : Fin 1024) (v : Word), v.getLsbD 63 = true →
      (pinnedStack (s.fld (R.TP_SHARD_W11_BASE_G k idx)) ≠ some k.val →
        Completes (.shardEntryWrite k idx v) s (fun u => u.bit (R.TP_SHARD_W0_VALID k idx) = false ∧ u.bit (R.TP_TE_STATUS_BAD_ENTRY k) = true
          ∧ Only (fun a => a = R.TP_SHARD_W0 k idx ∨ a = R.TP_TE_STATUS k) s u))
      ∧ (pinnedStack (s.fld (R.TP_SHARD_W11_BASE_G k idx)) = some k.val → (∀ c copy, pinnedStack (s.compBase k idx c copy) = some k.val) →
        Completes (.shardEntryWrite k idx v) s (fun u => u.bit (R.TP_SHARD_W0_VALID k idx) = true ∧ Only (fun a => a = R.TP_SHARD_W0 k idx) s u)))
    ∧ (∀ (idx : Fin 1024) (v : Word), v.getLsbD 63 = false →
      Completes (.shardEntryWrite k idx v) s (fun u => u.bit (R.TP_SHARD_W0_VALID k idx) = false ∧ Only (fun a => a = R.TP_SHARD_W0 k idx) s u))
    ∧ (0 < s.fld (R.TP_BQ_STATUS_FREE k) → Completes (.bqPost k) s (fun u =>
        (u.teStack k).boothQ = (s.teStack k).boothQ ++ [(List.range 8).map (fun j => (s.reg (R.TP_BQ_DESC k j)).toNat)]
        ∧ u.fld (R.TP_BQ_STATUS_FREE k) = 64 - ((s.teStack k).boothQ.length + 1) ∧ Only (fun a => a = R.TP_BQ_STATUS k) s u))
    ∧ (s.fld (R.TP_BQ_STATUS_FREE k) = 0 → exec (.bqPost k) s = .next (s.raiseFld (R.TP_BQ_STATUS_OVERRUN k)))
    ∧ (∀ src d, roundRobin 3 (s.teStack k).srcPtr (fun i => (s.startable k i).isSome) = some src → s.startable k src = some d →
      Completes (.descriptorDispatch k) s (fun u => (u.teStack k).srcPtr = (src + 1) % 3
        ∧ (u.teStack k).queue src = ((s.teStack k).queue src).erase d ∧ (u.teStack k).running.length = (s.teStack k).running.length + 1
        ∧ ∃ run, (u.teStack k).running[(s.teStack k).running.length]? = some run ∧ run.desc = d ∧ run.source = src ∧ run.unit = 0
          ∧ (s.malformed k d = false → run.units = (s.teCount k d + 4095) / 4096 ∧ run.result.result = 0)
          ∧ (s.malformed k d = true → run.units = 0 ∧ run.result.result = 3)))
    ∧ (roundRobin 3 (s.teStack k).srcPtr (fun i => (s.startable k i).isSome) = none → exec (.descriptorDispatch k) s = .next s)
    ∧ (∀ (r : Fin 128) (run : TeRun), (s.teStack k).running[r.val]? = some run →
      (run.units ≤ run.unit → Completes (.descriptorComplete k r) s (fun u => (u.teStack k).running = (s.teStack k).running.eraseIdx r
        ∧ (run.result.result = 0 → u.discardFlag = s.discardFlag)
        ∧ (run.result.result ≠ 0 → run.source ≠ 2 → u.discardFlag = true)
        ∧ (run.desc.isOpt = true → run.result.result ≠ 3 → u.bit (R.TP_SHARD_W0_WRITTEN k run.desc.shard) = true)
        ∧ (run.desc.notify = 2 → u.out = s.out ++ [.booth 0 run.desc.rec])))
      ∧ (run.unit < run.units → exec (.descriptorComplete k r) s = .next s))
    ∧ (∀ v : Word, s.bit (R.TP_CLIP_STATUS_PENDING k) = false →
      ((∀ idx, idx < 1024 → s.bit (R.TP_SHARD_W0_SPEC k idx) = false) → (decB64 v.toNat).isNan = false → (decB64 v.toNat).isInf = false →
        Completes (.clipResolve k v) s (fun u => u.bit (R.TP_CLIP_STATUS_PENDING k) = true ∧ u.reg (R.TP_CLIP_SUMSQ k) = v
          ∧ u.reg (R.TP_CLIP_FACTOR k) = BitVec.ofNat 64 (clipFactor (s.freeAt 0) (s.reg (R.TP_CLIP_MAX k)).toNat v.toNat)
          ∧ (∀ x, u.byte x = s.byte x)))
      ∧ ((decB64 v.toNat).isNan = true ∨ (decB64 v.toNat).isInf = true →
        Completes (.clipResolve k v) s (fun u => u.bit (R.TP_CLIP_STATUS_PENDING k) = true ∧ u.reg (R.TP_CLIP_SUMSQ k) = v
          ∧ u.bit (R.TP_CLIP_STATUS_NONFINITE k) = true ∧ u.discardFlag = true ∧ (∀ x, u.byte x = s.byte x))))
    ∧ (s.bit (R.TP_CLIP_STATUS_PENDING k) = true → ∀ v, exec (.clipResolve k v) s = .next s)
    ∧ (s.bit (R.TP_CLIP_STATUS_PENDING k) = true → (s.teStack k).clipReruns = [] →
        exec (.clipDone k) s = .next (s.setFld (R.TP_CLIP_STATUS_DONE k) 1))
    ∧ ((s.bit (R.TP_CLIP_STATUS_PENDING k) = false ∨ (s.teStack k).clipReruns ≠ []) → exec (.clipDone k) s = .next s)

/-- Work units of the trap engines. Each of SGDM, ADAMW, TE_CONVERT, TE_FILL, AXPY, NORM and PARITY_DELTA performs the next unit of 4096
elements of a running descriptor of its operation that is in flight: the unit count rises by one, the elements done by the unit's size, a first failure
stands, and no other descriptor moves; FILL leaves zeros in its range of the wings and NORM writes no byte; a descriptor of another operation, or with
no unit in flight, is untouched. -/
def Obligations.TrapEngineWorkUnits : Prop :=
  ∀ (s : State) (k : Fin 8) (r : Fin 128) (ecc : EccFinding) (run : TeRun) (c : Instr) (op : Nat),
    (c, op) ∈ [(Instr.sgdm k r ecc, teSgdm), (.adamw k r ecc, teAdamw), (.teConvert k r ecc, teConvert), (.teFill k r ecc, teFill),
      (.axpy k r ecc, teAxpy), (.norm k r ecc, teNorm), (.parityDelta k r ecc, teParity)] →
    (s.teStack k).running[r.val]? = some run →
    let lo := run.unit * 4096
    let hi := min (lo + 4096) (s.teCount k run.desc)
    let still := fun (x : TeRun) => { x with flight := [] }
    (∀ w rest, run.desc.op = op → run.flight = w :: rest →
      Completes c s (fun u =>
        (∃ n, (u.teStack k).running[r.val]? = some n ∧ n.unit = run.unit + 1 ∧ n.units = run.units ∧ n.desc = run.desc ∧ n.last = w.engine
          ∧ n.result.done = run.result.done + (hi - lo) ∧ (run.result.result ≠ 0 → n.result.result = run.result.result)
          ∧ (u.teStack k).running.map still = ((s.teStack k).running.map still).set r (still n))
        ∧ (op = teNorm → s.cacheN = 0 → ecc = noEcc → u.mem = s.mem)
        ∧ (op = teFill → w.engine < 16 → (∀ j, lo ≤ j → j < hi → ∃ off, regionOf s.cacheN (run.desc.addrB + j) = .wings k off) →
            s.boot.failed.contains (0x100 + k.val) = false → (∀ p, s.poisoned p = false) →
            ∀ j, lo ≤ j → j < hi → u.byte (run.desc.addrB + j) = 0)))
    ∧ (run.desc.op ≠ op ∨ run.flight = [] → exec c s = .next s)

/-- Dress checks. At a snapshot point of R298, in the stage cycle in which its cue begins, DC_SNAPSHOT copies each die's live counts into its snapshot registers, clears them and
counts a missed interval, and elsewhere changes nothing; DRESS_CHECK_RECOMPUTE counts one sample of its die's oldest record and frees its slot;
DC_EVALUATE lets a dress-check report that waited leave when 10 ms have passed, ends the wait, changes no snapshot register and, with nothing to report,
does nothing without one; DC_SEED_WRITE stores the control word and restarts every sampler. -/
def Obligations.DressChecksCountAndSnapshot : Prop :=
  ∀ (s : State),
    let point := (∃ k, s.curtain.announced = some k ∧ s.cue = k + 40) ∨ (∃ ch, s.scene.change = some ch ∧ ch.c = s.cue)
      ∨ (s.scene.rollout = true ∧ s.cue % 1024 = 0)
    (point → s.now.cueNew = true → (s.reg R.TA_DC_SNAP).toNat ≠ s.cue → Completes .dcSnapshot s (fun u =>
      u.dcWaiting = true ∧ u.dcMissed = s.dcMissed + (if s.dcWaiting then 1 else 0)
      ∧ u.reg R.TA_DC_SNAP = s.reg R.CU_COUNT ∧ u.mem = s.mem
      ∧ ∀ d, d < 8 → u.fld (R.TA_DC_COUNT0_DONE d) = (smapGet DcLive.init s.dc d).done % 2 ^ 32
        ∧ smapGet DcLive.init u.dc d = { DcLive.init with slots := (smapGet DcLive.init s.dc d).slots }))
    ∧ ((¬ point ∨ s.now.cueNew = false ∨ (s.reg R.TA_DC_SNAP).toNat = s.cue) → exec .dcSnapshot s = .next s)
    ∧ (∀ (die : Fin 8) (r : DcRec), s.dcQueue.find? (fun q => q.die == die.val) = some r →
      Completes (.dressCheckRecompute die) s (fun u => u.dcQueue = s.dcQueue.erase r ∧ u.regs = s.regs ∧ u.mem = s.mem
        ∧ (smapGet DcLive.init u.dc die).done = min 0xFFFFFFFF ((smapGet DcLive.init s.dc die).done + 1)
        ∧ r.slot ∉ (smapGet DcLive.init u.dc die).slots
        ∧ ∀ d, d ≠ die.val → smapGet DcLive.init u.dc d = smapGet DcLive.init s.dc d))
    ∧ (∀ die : Fin 8, s.dcQueue.find? (fun q => q.die == die.val) = none → exec (.dressCheckRecompute die) s = .next s)
    ∧ (s.dcWaiting = true → Completes .dcEvaluate s (fun u => u.dcWaiting = false ∧ u.dcMissed = 0
        ∧ (s.host.cmds = [] → Only (fun a => a = R.BT_PB_INFO) s u)))
    ∧ (s.dcWaiting = false → (∀ c ∈ s.host.cmds, c.owed = none) → exec .dcEvaluate s = .next s)
    ∧ (∀ c w, s.host.cmds.find? (fun c => c.opcode == opcJobStart && c.started) = some c → c.owed = some w → s.dcWaiting = false →
        (∀ t, c.told = some t → t + 10000000 ≤ s.timeNs) → Room s c.session →
        Completes .dcEvaluate s (fun u => Said c.session ⟨c.opcode, 2, 0x93, c.seq, c.cookie, 0, 0, leBytes w 8⟩ s u))
    ∧ (∀ v : Word, Completes (.dcSeedWrite v) s (fun u =>
        u.reg R.TA_DC_CTL = BitVec.ofNat 64 (regAfter s.locked (fieldsAt R.TA_DC_CTL) (s.reg R.TA_DC_CTL).toNat v.toNat (2 ^ 64 - 1))
        ∧ (∀ t, (u.tile t).samplerDraws = 0) ∧ (∀ a, a ≠ R.TA_DC_CTL → u.reg a = s.reg a) ∧ u.mem = s.mem))

/-- Plans. PLACE and RESHARD with no plan waiting are seen placing (BK_STATUS.STATE 1) and then compute the plan of their description, a re-shard's cuts and
formats being those of the applied plan; one that fails ends the command and leaves the placement, the scene and the tiles as they were; one that succeeds
waits, its PLAN_ID sent to every seat, while another seat is still to be heard. Once all made it alike, a first placement is kept for the scene load; another,
where it still fits, is seen applying (STATE 4) at a step gap and then applied; a re-shard starts its permute there. A PLAN_ID heard is kept, a
differing one ends the plan; PERMUTE_COMPLETE applies the plan once every seat has all, seen applying first, and goes on from the checkpoint's step;
STAGE_SCENE leaves a report and keeps a verified scene beside the running one, its bank images in the wings. -/
def Obligations.PlansAreExchangedBeforeTheyApply : Prop :=
  (∀ (s : State) (j : JobDesc) (est : BitVec 32) (bubble : BitVec 16) (cmd : Instr) (op : Nat) (again : Bool),
    (cmd, op, again) ∈ [(Instr.place j est bubble, opcPlace, false), (.reshard j est bubble, opcReshard, true)] →
    (s.runningCmd op = none → exec cmd s = .next s)
    ∧ (∀ (c : CmdRec), s.runningCmd op = some c → s.job.plan = none → s.fld R.BK_STATUS_STATE ≠ 1 →
      Completes cmd s (fun u => u.fld R.BK_STATUS_STATE = 1 ∧ u.job = s.job ∧ u.scene = s.scene ∧ u.tiles = s.tiles))
    ∧ (∀ (c : CmdRec), s.runningCmd op = some c → s.job.plan = none → s.fld R.BK_STATUS_STATE = 1 →
      let d := if again then j.keeping s.job.desc else j
      let p := makePlan d s.partInputs s.job.applied again
      let body := p.report d est.toNat bubble.toNat
      let id := ofLe ((sha512 (List.replicate 8 0 ++ body)).take 8)
      let pp := fun (permuting : Bool) (n : Nat) => (⟨d, p, id, leBytes id 8 ++ body, again, permuting, n⟩ : PendingPlan)
      let others := (d.seats.map (fun q => q.seat)).filter (fun q => q != s.mySeat && !s.res.lost.contains q)
      let alike := p.result = 0 ∧ (∀ h ∈ s.job.planIds, h.2 = id) ∧ ∀ q ∈ others, ∃ h ∈ s.job.planIds, h.1 = q
      (p.result ≠ 0 → Completes cmd s (fun u => u.job = { s.job with plan := none, planIds := [], incoming := [] } ∧ u.scene = s.scene ∧ u.tiles = s.tiles
          ∧ u.fld R.BK_STATUS_STATE = (if s.job.ready.isSome then 3 else 0) ∧ ∀ e ∈ u.host.cmds, e.id ≠ c.id))
      ∧ (p.result = 0 → again = false → (∀ h ∈ s.job.planIds, h.2 = id) → (∃ q ∈ others, ∀ h ∈ s.job.planIds, h.1 ≠ q) →
        Completes cmd s (fun u => u.fld R.BK_STATUS_STATE = 2 ∧ u.mem = s.mem ∧ u.tiles = s.tiles ∧ u.scene = s.scene
          ∧ u.fab = (s.sendC3 (d.seats.map (fun q => q.seat)) (.planId id)).fab ∧ u.host.report = leBytes id 8 ++ body ∧ u.job = { s.job with plan := some (pp false 0) }))
      ∧ (p.result = 0 → again = true → (∀ h ∈ s.job.planIds, h.2 = id) → (∃ q ∈ others, ∀ h ∈ s.job.planIds, h.1 ≠ q) →
        Completes cmd s (fun u => u.fld R.BK_STATUS_STATE = 2 ∧ u.job.applied = s.job.applied ∧ ∃ n, u.job.plan = some (pp false n)))
      ∧ (alike → again = false → s.job.applied = none → Completes cmd s (fun u => u.fld R.BK_STATUS_STATE = 3 ∧ u.job.applied = none
          ∧ u.job.plan = none ∧ u.job.ready = some (pp false 0) ∧ ∀ e ∈ u.host.cmds, e.id ≠ c.id))
      ∧ (alike → again = false → s.job.applied ≠ none → (s.stepGap = false ∨ s.res.recovering = true) → Completes cmd s (fun u =>
          u.fld R.BK_STATUS_STATE = 3 ∧ u.job = { s.job with plan := some (pp false 0) }))
      ∧ (alike → again = false → s.job.applied ≠ none → s.stepGap = true → s.res.recovering = false →
          (s.planFits p = true → Completes cmd s (fun u => u.fld R.BK_STATUS_STATE = 4 ∧ u.job = { s.job with plan := some (pp false 0) }))
          ∧ (s.planFits p = false → Completes cmd s (fun u => u.job = { s.job with plan := none, planIds := [], incoming := [] }
              ∧ ∀ e ∈ u.host.cmds, e.id ≠ c.id)))))
  ∧ (∀ (s : State) (j : JobDesc) (est : BitVec 32) (bubble : BitVec 16) (c : CmdRec) (pp : PendingPlan), s.job.plan = some pp → pp.permuting = false →
    (∀ h ∈ s.job.planIds, h.2 = pp.id) →
    (∀ q ∈ (pp.desc.seats.map (fun q => q.seat)).filter (fun q => q != s.mySeat && !s.res.lost.contains q), ∃ h ∈ s.job.planIds, h.1 = q) →
    s.stepGap = true → s.planFits pp.plan = true →
    (s.runningCmd opcPlace = some c → pp.reshard = false → s.job.applied ≠ none → s.res.recovering = false → s.fld R.BK_STATUS_STATE = 4 →
      Completes (.place j est bubble) s (fun u => u.job.applied = some pp.plan ∧ u.job.plan = none ∧ u.job.desc = some pp.desc
        ∧ ∀ e ∈ u.host.cmds, e.id ≠ c.id))
    ∧ (s.runningCmd opcReshard = some c → pp.reshard = true →
      Completes (.reshard j est bubble) s (fun u => u.fld R.BK_STATUS_STATE = 5 ∧ u.job.applied = s.job.applied
        ∧ u.job.plan = some { pp with permuting := true })))
  ∧ (∀ (s : State) (seat : BitVec 15) (id : Word),
    let ids := s.job.planIds.filter (fun h => h.1 != seat.toNat) ++ [(seat.toNat, id.toNat)]
    (s.job.plan = none → exec (.planIdExchange seat id) s = .next { s with job := { s.job with planIds := ids } })
    ∧ (∀ pp, s.job.plan = some pp →
      (s.runningCmd (if pp.reshard then opcReshard else opcPlace) = none ∨ pp.permuting = true →
        exec (.planIdExchange seat id) s = .next { s with job := { s.job with planIds := ids } })
      ∧ (∀ c, s.runningCmd (if pp.reshard then opcReshard else opcPlace) = some c → pp.permuting = false →
        let others := (pp.desc.seats.map (fun q => q.seat)).filter (fun q => q != s.mySeat && !s.res.lost.contains q)
        (pp.id ≠ id.toNat → Completes (.planIdExchange seat id) s (fun u => u.job = { s.job with plan := none, planIds := [], incoming := [] } ∧ u.scene = s.scene
          ∧ ∀ d ∈ u.host.cmds, d.id ≠ c.id))
        ∧ ((∀ h ∈ ids, h.2 = pp.id) → (∃ q ∈ others, ∀ h ∈ ids, h.1 ≠ q) →
          exec (.planIdExchange seat id) s = .next { s with job := { s.job with planIds := ids } })
        ∧ ((∀ h ∈ ids, h.2 = pp.id) → (∀ q ∈ others, ∃ h ∈ ids, h.1 = q) → pp.reshard = false → s.job.applied = none →
          Completes (.planIdExchange seat id) s (fun u => u.job = { s.job with plan := none, ready := some pp, planIds := [] }
            ∧ ∀ d ∈ u.host.cmds, d.id ≠ c.id)))))
  ∧ (∀ (s : State) (pp : PendingPlan), s.job.plan = some pp →
    (pp.permuting = true → s.fld R.BK_PERMUTE_BYTES_LEFT = 0 → s.resWait jobPermute = 0 → s.anyCmd opcReshard CmdRec.suspended = false →
      (s.fld R.BK_STATUS_STATE ≠ 4 → exec (.permuteComplete true) s = .next (s.setFld R.BK_STATUS_STATE 4))
      ∧ (s.fld R.BK_STATUS_STATE = 4 → Completes (.permuteComplete true) s (fun u => u.job.applied = some pp.plan ∧ u.job.plan = none
        ∧ u.job.desc = some pp.desc ∧ u.fld R.CU_STEP_STEP = (s.fld R.RS_CKPT_STEP + 1) % 2 ^ 32)))
    ∧ ((pp.permuting = false ∨ s.anyCmd opcReshard CmdRec.suspended = true ∨ s.fld R.BK_PERMUTE_BYTES_LEFT ≠ 0 ∨ s.resWait jobPermute ≠ 0) → exec (.permuteComplete true) s = .next s)
    ∧ exec (.permuteComplete false) s = .next s)
  ∧ (∀ (s : State) (r : RolloutDesc), (s.runningCmd opcStageScene = none ∨ s.inCurtain = true → exec (.stageScene r) s = .next s)
    ∧ ∀ (c : CmdRec), s.runningCmd opcStageScene = some c → s.inCurtain = false →
    let im := s.readImages c
    let fits := (im.2.rolloutPlan r c.sceneId im.1).1 = 0
    (∀ p, im.2.verifyScene none im.1 = some p → Completes (.stageScene r) s (fun u => u = im.2.verifyFailed c p ∧ u.scene = s.scene ∧ u.tiles = s.tiles))
    ∧ (im.2.verifyScene none im.1 = none → fits → Completes (.stageScene r) s (fun u => u.tiles = s.tiles
        ∧ u.fld R.BK_STATUS_RESULT = 0
        ∧ ∃ st : StagedScene, u.scene = { s.scene with staged := s.scene.staged.filter (fun x => x.id != c.sceneId) ++ [st] }
          ∧ st.id = c.sceneId ∧ st.images = im.1 ∧ st.seed = c.sceneSeed ∧ st.data = r.data.map (fun p => (p.1, p.2.length))
          ∧ ∀ l t, im.1 = [l] → (Image.ofBytes l).tiles = [t] → t < 2048 → r.data = [] → u.bytes (st.bankAt t) (imgCode l).length = imgCode l))
    ∧ (im.2.verifyScene none im.1 = none → ¬ fits → Completes (.stageScene r) s (fun u => u.scene = s.scene ∧ u.tiles = s.tiles
        ∧ ∃ n region, u.host.report = rolloutReport (im.2.rolloutPlan r c.sceneId im.1).1 n region s.mySeat)))

/-- Links. A training attempt whose lanes pass in time sets STATE 2 with the peer, the delay and fresh ports; a third failing attempt sets STATE
0, and a port not training stays; PORT_DISABLE, RETRAIN and 10 µs without a valid flit take an up link down and empty its port; PORT_ENABLE starts training; tickets
add to those held, what is owed leaves in one TICKETS flit, IDLE counts as heard, and 2 µs after a RETRY it is repeated. A link that comes up
grants its budget less the flits of packets that still stand in its buffers. -/
def Obligations.LinksTrainAndGoDown : Prop :=
  ∀ (s : State) (p : Fin 16),
    let x := s.port p
    (∀ (lanes : BitVec 4) (delay : BitVec 32) (seat : BitVec 15) (pp : Fin 16) (normal : Bool), s.fld (R.FB_PORT_STATUS_STATE p) = 1 →
      ((laneChoice lanes.toNat).1 ≠ 0 → delay.toNat ≤ 5000000 → normal = decide (s.modeCode = 1) →
        Completes (.linkTraining p lanes delay seat pp normal) s (fun u => u.fld (R.FB_PORT_STATUS_STATE p) = 2
          ∧ u.fld (R.FB_PORT_STATUS_PEER_SEAT p) = seat.toNat ∧ u.fld (R.FB_PORT_STATUS_PEER_PORT p) = pp.val
          ∧ u.fld (R.FB_PORT_DELAY_PS p) = delay.toNat ∧ (u.port p).txSeq = 0 ∧ (u.port p).rxSeq = 0 ∧ (u.port p).retry = []
          ∧ (u.port p).tk = List.replicate 8 0 ∧ (u.port p).ret = (List.range 8).map (fun v => s.budget p v - s.heldFlits p v) ∧ (u.port p).heardAt = s.cycle))
      ∧ ((laneChoice lanes.toNat).1 = 0 ∨ 5000000 < delay.toNat ∨ normal ≠ decide (s.modeCode = 1) →
        Completes (.linkTraining p lanes delay seat pp normal) s (fun u =>
          (if x.attempts < 2 then u.fld (R.FB_PORT_STATUS_STATE p) = 1 ∧ (u.port p).attempts = x.attempts + 1
           else u.fld (R.FB_PORT_STATUS_STATE p) = 0 ∧ (u.port p).attempts = 0)
          ∧ (delay.toNat ≤ 5000000 → ∀ a, u.byte a = s.byte a))))
    ∧ (∀ (lanes : BitVec 4) (delay : BitVec 32) (seat : BitVec 15) (pp : Fin 16) (normal : Bool), s.fld (R.FB_PORT_STATUS_STATE p) ≠ 1 →
        exec (.linkTraining p lanes delay seat pp normal) s = .next s)
    ∧ (s.portUp p = true → s.fab.reqs = [] → s.fab.ctls = [] → s.job.seats = [] → ResQuiet s →
      ∀ c ∈ [Instr.portDisable p, .retrain p, .linkIdleTimeout p],
        (c = .portDisable p → s.bit (R.FB_PORT_CFG_DISABLE p) = false) → (c = .retrain p → s.bit (R.FB_PORT_CFG_DISABLE p) = false) →
        (c = .linkIdleTimeout p → x.heardAt + 15000 ≤ s.cycle) →
        Completes c s (fun u => u.fld (R.FB_PORT_STATUS_STATE p) = (if c = .portDisable p then 3 else 1) ∧ u.reg (R.FB_TICKETS p) = 0
          ∧ (u.port p).arrived = x.arrived ∧ (u.port p).rr = x.rr ∧ (u.port p).outq = [] ∧ (u.port p).going = none ∧ (u.port p).retry = []
          ∧ (u.port p).part = [] ∧ (u.port p).ctlq = [] ∧ (u.port p).tk = List.replicate 8 0 ∧ u.bit (R.FB_PORT_CFG_DISABLE p) = (if c = .portDisable p then true else s.bit (R.FB_PORT_CFG_DISABLE p))))
    ∧ (ResQuiet s → s.cycle < x.heardAt + 15000 → exec (.linkIdleTimeout p) s = .next s)
    ∧ (s.portUp p = false → s.bit (R.FB_PORT_CFG_DISABLE p) = true → Completes (.portEnable p) s (fun u =>
        u.fld (R.FB_PORT_STATUS_STATE p) = 1 ∧ u.bit (R.FB_PORT_CFG_DISABLE p) = false
        ∧ Only (fun a => a = R.FB_PORT_STATUS p ∨ a = R.FB_PORT_CFG p) s u))
    ∧ (s.portUp p = true → ∀ (vcs : List (BitVec 16)) (lo hi : BitVec 8),
      Completes (.tickets p vcs lo hi) s (fun u => (u.port p).ctlTk = (x.ctlTk.1 + lo.toNat, x.ctlTk.2 + hi.toNat)
        ∧ (∀ v, v < 8 → (u.port p).tk.getD v 0 = x.tk.getD v 0 + ((vcs.map BitVec.toNat).getD v 0)) ∧ Only (fun a => a = R.FB_TICKETS p) s u)
      ∧ ((x.ret.all (fun n => n == 0) && x.ctlRet == (0, 0)) = false → exec (.ticketReturn p) s = .next (s.setPort p { x with
            ret := List.replicate 8 0, ctlRet := (0, 0), ctlq := x.ctlq ++ [(0, .tickets x.ret x.ctlRet.1 x.ctlRet.2)] }))
      ∧ exec (.idle p) s = .next (s.setPort p { x with heardAt := s.cycle })
      ∧ (x.asked = true → x.askedAt + 3000 ≤ s.cycle → Completes (.retryTimeout p) s (fun u => (u.port p).ctlq = x.ctlq ++ [(0, .retry x.rxSeq)]
          ∧ (u.port p).askedAt = s.cycle ∧ Only (fun a => a = R.FB_PORT_ERR1 p) s u))
      ∧ (s.cycle < x.askedAt + 3000 → exec (.retryTimeout p) s = .next s))

/-- Flits and packets. A good flit in sequence is taken and moves the expected SEQ on; a bad or out-of-sequence one is discarded and asks for one
RETRY of the expected SEQ; a RETRY below the limit resends every flit from its SEQ in order; a grant sends one flit: a waiting
link control flit, else the next of the packet the port is sending, else the first of a ready packet, for as many tickets as that has flits, and none while 1024 wait for
acknowledgement; the router hands packets for this seat to it and queues the others at their port. -/
def Obligations.FlitsArriveInOrderOrAreRetried : Prop :=
  ∀ (s : State) (p : Fin 16), s.portUp p = true →
    let x := s.port p
    (∀ (w : WireFlit) (hi : Bool) (hop : BitVec 32) (peer : List (List (BitVec 16))) (bs : List Byte),
      let f := readFlit s.cueMaster w
      (f.good = true → f.seq = x.rxSeq → f.body = .cls bs → f.sop = true → f.eop = true →
        Completes (.flitReceive p w 0 0 hi hop peer) s (fun u => (u.port p).rxSeq = (x.rxSeq + 1) % 4096
          ∧ (u.port p).arrived = x.arrived ++ [(f.vc, Pkt.ofBytes bs)] ∧ (u.port p).retry = x.retry.filter (fun q => !ackedBy f.ack q.1.seq)
          ∧ (u.port p).asked = false ∧ ∀ a, u.byte a = s.byte a))
      ∧ ((f.good = false ∨ f.seq ≠ x.rxSeq) → x.asked = false →
        Completes (.flitReceive p w 0 0 hi hop peer) s (fun u => (u.port p).rxSeq = x.rxSeq ∧ (u.port p).arrived = x.arrived
          ∧ (u.port p).part = x.part ∧ (u.port p).ctlq = x.ctlq ++ [(0, .retry x.rxSeq)] ∧ (u.port p).asked = true
          ∧ ∀ a, u.byte a = s.byte a)))
    ∧ (∀ seq : BitVec 12, ResQuiet s → (if x.retrySeq = some seq.toNat then x.retryRun + 1 else 1) < s.fld R.FB_CTL_RETRY_MAX →
      let again := (x.retry.filter (fun q => !ackedBy ((seq.toNat + 4095) % 4096) q.1.seq)).map (fun q => resentFlit q.1 x.ackNow)
      Completes (.retry p seq) s (fun u => u.out = s.out ++ again.map (fun f => .flit p (flitBytes f)) ∧ Keeps s u ∧ (u.port p).txSeq = x.txSeq))
    ∧ (∀ c : Ctl, x.ctlq.find? (fun q => q.1 == 0) = some (0, c) → Completes (.packetGrant p) s (fun u =>
        u.out = s.out ++ [.flit p (flitBytes ⟨x.txSeq, x.ackNow, 0, false, false, true, .ctl c⟩)] ∧ (u.port p).txSeq = (x.txSeq + 1) % 4096
        ∧ (u.port p).ctlq = x.ctlq.erase (0, c) ∧ (u.port p).tk = x.tk ∧ Keeps s u))
    ∧ (∀ (o : OutPkt) b l, x.nextCtl = none → x.retry.length < 1024 → flitBodies 18 o.pkt.toBytes = b :: l →
      (x.going = none → s.grant p = some o → o.input = 16 → o.vc < x.tk.length → Completes (.packetGrant p) s (fun u =>
        (u.port p).outq = x.outq.erase o ∧ (u.port p).tk.getD o.vc 0 = x.tk.getD o.vc 0 - o.pkt.flits ∧ u.cbOut = s.cbOut
        ∧ (u.port p).going = (if l.isEmpty then none else some ⟨o, l, false⟩)
        ∧ u.out = s.out ++ [.flit p (flitBytes ⟨x.txSeq, x.ackNow, o.vc, true, l.isEmpty, true, .cls b⟩)]
        ∧ Only (fun a => a = R.FB_TICKETS p) s u))
      ∧ (x.going = some ⟨o, b :: l, false⟩ → Completes (.packetGrant p) s (fun u =>
        (u.port p).outq = x.outq ∧ (u.port p).tk = x.tk ∧ (u.port p).going = (if l.isEmpty then none else some ⟨o, l, false⟩)
        ∧ u.out = s.out ++ [.flit p (flitBytes ⟨x.txSeq, x.ackNow, o.vc, false, l.isEmpty, true, .cls b⟩)] ∧ Keeps s u)))
    ∧ (1024 ≤ x.retry.length → x.nextCtl = none → exec (.packetGrant p) s = .next s)
    ∧ (∀ vc k rest, x.arrived = (vc, k) :: rest → s.routeHeld k.dst = false → k.dst = s.mySeat → k.op ≠ opMgmt →
      Completes (.packetRoute p.castSucc) s (fun u => u.fab.inbox = (if s.res.left then s.fab.inbox else s.fab.inbox ++ [k]) ∧ (u.port p).arrived = rest
        ∧ (u.port p).ret.getD vc 0 = (if vc < x.ret.length then x.ret.getD vc 0 + k.flits else 0) ∧ Keeps s u))
    ∧ (∀ k q l rel, s.fab.inject.find? (fun k => !s.routeHeld k.dst) = some k → k.dst ≠ s.mySeat → s.route k.dst 16 0 = some (q, l, rel) →
        s.portUp q = true → s.poolBars q k = false →
      Completes (.packetRoute 16) s (fun u => u.fab.inject = s.fab.inject.erase k
        ∧ (u.port q).outq = (s.port q).outq ++ [⟨16, 0, 2 * k.cls + l, { k with relayed := k.relayed || rel }⟩] ∧ Keeps s u))

/-- Packets at their seat. A WRITE into the wings stores its payload and no other byte, and is acknowledged toward its sender; a reduce-write adds or
XORs there; a READ_REQ is answered with the bytes read and changes none; an answer that names no request counts as STRAY; one that names
a request ends it; RESP_TIMEOUT ends a request after its cues and not before; a seat heard lost is remembered. -/
def Obligations.PacketsArePerformedAndAnswered : Prop :=
  (∀ (s : State) (k : Pkt) (die : Nat), (∀ p, s.poisoned p = false) → s.boot.failed.contains (0x100 + die) = false → s.job.incoming = [] →
    k.pmask = 0 → s.flaws = [] →
    let n := if k.op = opReadReq then k.lenm1 + 1 else k.data.length
    0 < n → (∀ j, j < n → ∃ off, regionOf s.cacheN (k.addr + j) = .wings die off) →
    let took := { s with fab := { s.fab with inbox := s.fab.inbox.erase k } }
    (s.firstIn opWrite = some k → Completes (.write noEcc) s (fun u => u.bytes k.addr n = k.data ∧ u.fab.inbox = s.fab.inbox.erase k
        ∧ (∀ c, c < k.addr ∨ k.addr + n ≤ c → u.byte c = s.byte c) ∧ u.fab.ports = (took.ackTo k.src k.mid k.tag n 0).fab.ports))
    ∧ (∀ f, FmtWord.ofWord k.fmt = some f → reduceFmt f.fmt = true → s.firstIn opRwAdd = some k → Completes (.rwriteAdd noEcc) s (fun u =>
        u.bytes k.addr n = (reduceBytes false f (s.teDraw die (s.takeEngine die).1) s.freeAt (fun _ => true) (s.bytes k.addr n) k.data).1
        ∧ (∀ c, c < k.addr ∨ k.addr + n ≤ c → u.byte c = s.byte c) ∧ u.fab.inbox = s.fab.inbox.erase k))
    ∧ (s.firstIn opRwXor = some k → Completes (.rwriteXor noEcc) s (fun u =>
        u.bytes k.addr n = (s.bytes k.addr n).zipWith (fun a b => a ^^^ b) k.data
        ∧ (∀ c, c < k.addr ∨ k.addr + n ≤ c → u.byte c = s.byte c) ∧ u.fab.inbox = s.fab.inbox.erase k))
    ∧ (∀ rdst : BitVec 44, k.op = opReadReq → s.firstIn opReadReq = some k → Completes (.readReq rdst noEcc) s (fun u =>
        u.fab.inject = s.fab.inject ++ [⟨opReadResp, k.src, rdst.toNat, s.mySeat, k.mid, false, 0, 0, k.tag, 0, 0, 0, k.lenm1, s.bytes k.addr n⟩]
        ∧ (∀ c, u.byte c = s.byte c) ∧ u.regs = s.regs ∧ u.fab.inbox = s.fab.inbox.erase k)))
  ∧ (∀ (s : State), ResQuiet s →
    (∀ k, s.firstIn opReadResp = some k → (∀ r ∈ s.fab.reqs, r.tag ≠ k.tag % 2 ^ 15) → Completes .readResp s (fun u =>
        u.fld R.FB_STATUS_STRAY = min 0xFFFF (s.fld R.FB_STATUS_STRAY + 1) ∧ u.fab.inbox = s.fab.inbox.erase k
        ∧ Only (fun a => a = R.FB_STATUS) s u))
    ∧ (∀ k r t id, s.firstIn opReadResp = some k → s.fab.reqs.find? (fun r => r.tag == k.tag % 2 ^ 15 && r.op == opReadReq) = some r →
        r.owner = .glob t id → Completes .readResp s (fun u => u.fab.reqs = s.fab.reqs.filter (fun q => q.tag != r.tag)))
    ∧ (∀ (p : Fin 16) (hi : Bool) (dst : BitVec 15) (a : AckRec), dst.toNat = s.mySeat →
      (s.fab.reqs = [] → Completes (.ack p hi dst [a]) s (fun u => u.fld R.FB_STATUS_STRAY = min 0xFFFF (s.fld R.FB_STATUS_STRAY + 1)
          ∧ Only (fun x => x = R.FB_STATUS) s u))
      ∧ (∀ r t id, s.fab.reqs.find? (fun q => q.tag == a.tag % 2 ^ 15 && q.op != opReadReq) = some r → a.srcSeat = s.mySeat →
          r.owner = .glob t id → Completes (.ack p hi dst [a]) s (fun u => u.fab.reqs = s.fab.reqs.filter (fun q => q.tag != r.tag))))
    ∧ (∀ (tag : BitVec 15) r t id, s.fab.reqs.find? (fun r => r.tag == tag.toNat) = some r → r.owner = .glob t id →
      (r.sent + s.fld R.FB_CTL_RESP_TIMEOUT ≤ s.cue → Completes (.respTimeout tag) s (fun u =>
          u.fab.reqs = s.fab.reqs.filter (fun q => q.tag != r.tag) ∧ u.discardFlag = true))
      ∧ (s.cue < r.sent + s.fld R.FB_CTL_RESP_TIMEOUT → Completes (.respTimeout tag) s (fun u => Keeps s u ∧ u.fab.reqs = s.fab.reqs)))
    ∧ (∀ (p : Fin 16) (seat : BitVec 15) (stamp : BitVec 32) (peer : List (List (BitVec 16))),
      (s.isLost seat.toNat = true → s.res.lost.contains seat.toNat = true → exec (.seatLost (some p) seat stamp peer) s = .next s)
      ∧ ((∀ q ∈ s.fab.lostSeats, s.res.lost.contains q = true) → exec (.seatLost none seat stamp peer) s = .next s)
      ∧ Completes (.seatLost (some p) seat stamp peer) s (fun u => (∀ r ∈ s.fab.reqs, r.dst ≠ seat.toNat) →
          s.job.seats.contains seat.toNat = false → s.job.understudies.contains seat.toNat = false → seat.toNat ≠ s.mySeat →
          u.isLost seat.toNat = true ∧ u.res.lost.contains seat.toNat = true)))

/-- Collectives. CE_POST queues the descriptor with its number on its set, or sets OVERRUN when sixteen wait; a half starts its oldest descriptor at
its start cue, at most four at a time; each collective command begins a started run of its own operation once and no other; a barrier
sends one coordination packet to every other party; what is heard or comes early is kept; told of a failure, a run stops, now or when it starts; a finished run
leaves. -/
def Obligations.CollectivesRunByTheirQueues : Prop :=
  ∀ (s : State),
    let posted := (List.range 8).map (fun j => (s.reg (R.FB_CE_DESC j)).toNat)
    (∀ q : Fin 2, let l := if q.val = 0 then s.fab.ceQ0 else s.fab.ceQ1
      (l.length < 16 → Completes (.cePost q) s (fun u => (if q.val = 0 then u.fab.ceQ0 else u.fab.ceQ1)
            = l ++ [posted ++ [smapGet 0 s.fab.setCount (ceSet posted)]]
          ∧ smapGet 0 u.fab.setCount (ceSet posted) = smapGet 0 s.fab.setCount (ceSet posted) + 1 ∧ Only (fun a => a = R.FB_CE_STATUS) s u))
      ∧ (16 ≤ l.length → exec (.cePost q) s = .next (s.raiseFld R.FB_CE_STATUS_OVERRUN)))
    ∧ (∀ (h : Fin 2) d rest, (if h.val = 0 then s.fab.ceQ0 else s.fab.ceQ1) = d :: rest →
      ((s.fab.runs.filter (fun r => r.half == h.val)).length < 4 → ceStart d ≤ s.cue → Completes (.collectiveStart h) s (fun u =>
          (if h.val = 0 then u.fab.ceQ0 else u.fab.ceQ1) = rest ∧ Only (fun a => a = R.FB_CE_STATUS) s u
          ∧ ∃ run, u.fab.runs = s.fab.runs ++ [run] ∧ run.half = h.val ∧ run.desc = d.take 8 ∧ run.set = ceSet d ∧ run.begun = false
            ∧ run.parties = s.setParties (ceSet d) ∧ run.malformed = ceMalformed (d.take 8) (run.parties.contains s.mySeat)))
      ∧ (s.cue < ceStart d → exec (.collectiveStart h) s = .next s))
    ∧ (∀ (r : Fin 8) (run : CollRun) (c : Instr) (op : Nat), (c, op) ∈ [(Instr.allReduce r, ceAllReduce), (.reduceScatter r, ceReduceScatter),
        (.allGather r, ceAllGather), (.broadcast r, ceBroadcast), (.permute r, cePermute), (.barrier r, ceBarrier), (.scalarSum r, ceScalarSum)] →
      s.fab.runs[r.val]? = some run →
      (run.begun = false → run.malformed = false → run.lost = none → ceOp run.desc = op →
        s.fab.runs.Pairwise (fun x y => ¬(x.set = y.set ∧ x.num = y.num)) →
        Completes c s (fun u => ∃ n, u.fab.runs[r.val]? = some n ∧ n.begun = true ∧ n.desc = run.desc ∧ n.set = run.set ∧ n.num = run.num
          ∧ u.fab.runs.length = s.fab.runs.length ∧ (∀ i, i ≠ r.val → u.fab.runs[i]? = s.fab.runs[i]?)))
      ∧ (run.begun = true ∨ ceOp run.desc ≠ op → exec c s = .next s))
    ∧ (∀ (r : Fin 8) (run : CollRun), s.fab.runs[r.val]? = some run → run.begun = false → run.malformed = false → run.lost = none →
        ceOp run.desc = ceBarrier → s.fab.early = [] →
      Completes (.barrier r) s (fun u => Keeps s u ∧ u.fab.inject = s.fab.inject ++ (run.others (run.me s.mySeat)).zipIdx.map (fun q =>
        ⟨opCollCtrl, run.parties.getD q.1 0, 0, s.mySeat, 0x20, false, 0, 0, (s.fab.tagNext + q.2) % 2 ^ 15, 0, 0, 0, 0, [0]⟩)))
    ∧ (∀ (set : Fin 16) (num : Nat) k, s.firstIn opCollCtrl = some k →
      (k.data.headD 0 ≠ 1 → s.run? set num = none → Completes (.collCtrl set num) s (fun u => u.fab.ceHeard = s.fab.ceHeard ++ [(set.val, num, k.src)]
          ∧ u.fab.inbox = s.fab.inbox.erase k ∧ Keeps s u))
      ∧ (∀ run, k.data.headD 0 ≠ 1 → s.run? set num = some run → Completes (.collCtrl set num) s (fun u =>
          (∃ n ∈ u.fab.runs, n.set = set.val ∧ n.num = num ∧ k.src ∈ n.heard) ∧ u.fab.inbox = s.fab.inbox.erase k ∧ Keeps s u))
      ∧ (k.data.headD 0 = 1 → s.run? set num = none → Completes (.collCtrl set num) s (fun u => u.fab.ceStopped = s.fab.ceStopped ++ [(set.val, num)]
          ∧ u.fab.inbox = s.fab.inbox.erase k ∧ Keeps s u))
      ∧ (∀ run, k.data.headD 0 = 1 → s.run? set num = some run → Completes (.collCtrl set num) s (fun u =>
          (∃ n ∈ u.fab.runs, n.set = set.val ∧ n.num = num ∧ n.lost.isSome = true) ∧ u.discardFlag = true ∧ Keeps s u)))
    ∧ (∀ (m : CollPiece) (ecc : EccFinding) k, s.firstIn opCollData = some k → s.run? m.set m.num = none →
      Completes (.collData m ecc) s (fun u => u.fab.early = s.fab.early ++ [(m, k)] ∧ u.fab.inbox = s.fab.inbox.erase k))
    ∧ (∀ (r : Fin 8) (run : CollRun), s.fab.runs[r.val]? = some run → run.malformed = false → run.lost = none →
      (run.done (run.me s.mySeat) = true → Completes (.collectiveComplete r) s (fun u => u.fab.runs = s.fab.runs.eraseIdx r.val
          ∧ u.discardFlag = s.discardFlag))
      ∧ (run.done (run.me s.mySeat) = false → exec (.collectiveComplete r) s = .next s))

/-- Front-of-house ports. A link comes up in a mode MODES allows, on its lanes, and goes down to MODE 0; ARP, neighbour solicitation and echo for the port's own
address are answered, its gateway's answers taken; options, fragments, frames above 9216 bytes or without room, and all that no service consumes,
are dropped and counted; PFC sets and clears pauses of 512 bit times a quantum, is sent, repeated or ended by the ROCE_PRIO buffer, and a storm is ignored for a second; PTP keeps the best master of each port, steps above 1 µs, slews by at most 100 ppm and locks. -/
def Obligations.FrontOfHousePortsAnswerPauseAndKeepTime : Prop :=
  ∀ (s : State) (p : Fin 4),
    let x := s.fhPort p
    let roce := s.fld (R.FH_PORT_CFG_ROCE_PRIO p)
    let dropped := s.countFld (R.FH_PORT_DROP_COUNT p) 1
    let up := s.bit (R.FH_PORT_STATUS_UP p)
    let act := fun (a : Nat) => a = R.FH_PORT_STATUS p ∨ a = R.FH_PTP_STATUS ∨ a = R.FH_PTP_GM
    let servoed := fun (t1 t2 : Int) (u : State) =>
      let off := t2 - t1 - s.ptp.path
      u.reg R.FH_PTP_OFFSET = BitVec.ofInt 64 off
      ∧ (1000 < off.natAbs → u.tbOff = s.tbOff - off ∧ u.bit R.FH_PTP_STATUS_STEPPED = true ∧ u.bit R.FH_PTP_STATUS_LOCKED = false
          ∧ u.ptp.good = 0)
      ∧ (off.natAbs ≤ 1000 → (u.tbOff - s.tbOff).natAbs * 10000 ≤ (match s.ptp.lastSync with | some t => (t2 - t).toNat | none => 0)
          ∧ u.ptp.good = (if off.natAbs < 100 then s.ptp.good + 1 else 0)
          ∧ u.bit R.FH_PTP_STATUS_LOCKED = (decide (16 ≤ u.ptp.good) || s.bit R.FH_PTP_STATUS_LOCKED))
      ∧ Only (fun a => a = R.FH_PTP_STATUS ∨ a = R.FH_PTP_OFFSET) s u
    (∀ mode : Fin 4,
      (mode.val ≠ 0 → up = false → bitOf (s.fld (R.FH_PORT_CFG_MODES p)) (mode.val - 1) = true → Completes (.fhLinkUp p mode) s (fun u =>
          u.bit (R.FH_PORT_STATUS_UP p) = true ∧ u.fld (R.FH_PORT_STATUS_MODE p) = mode.val
          ∧ (u.fhPort p).lanes = List.range (if mode.val = 1 then 1 else if mode.val = 2 then 2 else 4) ∧ Only act s u))
      ∧ ((mode.val = 0 ∨ up = true ∨ bitOf (s.fld (R.FH_PORT_CFG_MODES p)) (mode.val - 1) = false) → exec (.fhLinkUp p mode) s = .next s))
    ∧ (up = true → (∀ q ∈ s.qpList, q.port ≠ p.val) → Completes (.fhLinkDown p) s (fun u => u.bit (R.FH_PORT_STATUS_UP p) = false
        ∧ u.fld (R.FH_PORT_STATUS_MODE p) = 0 ∧ u.bit (R.FH_PORT_STATUS_PAUSED p) = false ∧ u.fhPort p = FhPort.init ∧ Only act s u))
    ∧ (up = false → exec (.fhLinkDown p) s = .next s)
    ∧ (∀ f : FrameIn, f.port = p →
      let roceBuf := rxPrio f.frame = roce
      let occ := (if roceBuf then x.roceOcc else x.restOcc) - f.frame.drain
      let room := f.frame.len ≤ 9216 ∧ occ + f.frame.len ≤ (if roceBuf then 2 ^ 23 else 2 ^ 18)
      (up = false → exec (.frameDrop f) s = .next s)
      ∧ (up = true → (f.options = true ∨ f.fragment = true ∨ f.served = false) → exec (.frameDrop f) s = .next dropped)
      ∧ (up = true → f.options = false → f.fragment = false → f.served = true → Completes (.frameDrop f) s (fun u =>
          (if roceBuf then (u.fhPort p).roceOcc else (u.fhPort p).restOcc) = (if room then occ + f.frame.len else occ)
          ∧ (u.fhPort p).txq = x.txq ∧ (room → Keeps s u)
          ∧ (¬room → u.fld (R.FH_PORT_DROP_COUNT p) = dropped.fld (R.FH_PORT_DROP_COUNT p)))))
    ∧ (∀ ip : BitVec 32, exec (.arpRequest p (.request ip)) s = .next (if ip.toNat = s.fld (R.FH_PORT_IP4_ADDR p) then
        { s with out := s.out ++ [.frame p (.arpReply ip.toNat (Config.macAddr p).toNat)] } else dropped))
    ∧ (∀ (ip : BitVec 32) (mac : BitVec 48), exec (.arpRequest p (.reply ip mac)) s = .next (if ip.toNat = s.fld (R.FH_PORT_IP4_GATEWAY p) then
        s.setFhPort p { x with gw4 := some mac.toNat } else dropped))
    ∧ (∀ ip : BitVec 128, exec (.neighborSolicitation p (.solicit ip)) s = .next (if ip = s.reg (R.FH_PORT_IP6A p) ++ s.reg (R.FH_PORT_IP6B p) then
        { s with out := s.out ++ [.frame p (.neighborAdvert ip.toNat (Config.macAddr p).toNat)] } else dropped))
    ∧ (∀ (ip : BitVec 128) (mac : BitVec 48), exec (.neighborSolicitation p (.advert ip mac)) s = .next (if ip.toNat = s.gateway6 p then
        s.setFhPort p { x with gw6 := some mac.toNat } else dropped))
    ∧ (∀ (v6 : Bool) (ip : BitVec 128) (data : List Byte), exec (.icmpEcho p v6 ip data) s =
        .next (if ip.toNat = (if v6 then s.ip6 p else s.fld (R.FH_PORT_IP4_ADDR p)) then { s with out := s.out ++ [.frame p (.echoReply v6 data)] }
          else dropped))
    ∧ (∀ quanta : List (Option (BitVec 16)), if s.bit (R.FH_PORT_CFG_PFC_EN p) = false then exec (.pfcFrame p quanta) s = .next s else
        Completes (.pfcFrame p quanta) s (fun u =>
          (∀ i, i < 8 → (u.fhPort p).paused.getD i 0 = (match quanta.getD i none with
            | some q => if i = roce ∧ (∃ t, x.ignoreUntil = some t ∧ s.timeNs < t) then x.paused.getD i 0
                else if q = 0 then 0 else s.timeNs + bitNs (512 * q.toNat) (s.lineRate p)
            | none => x.paused.getD i 0))
          ∧ u.bit (R.FH_PORT_STATUS_PAUSED p) = decide (s.timeNs < (u.fhPort p).paused.getD roce 0)
          ∧ Only (fun a => a = R.FH_PORT_STATUS p) s u))
    ∧ (∀ drain : Nat,
      let occ := x.roceOcc - drain
      let gap := bitNs (512 * 0x8000) (s.lineRate p)
      let starts := s.bit (R.FH_PORT_CFG_PFC_EN p) = true ∧ s.fld (R.FH_PORT_PFC_XOFF p) ≤ occ
      (x.xoffSent = false → ¬starts → exec (.pfcRefresh p drain) s = .next (s.setFhPort p { x with roceOcc := occ }))
      ∧ (x.xoffSent = false → starts → 0 < gap → Completes (.pfcRefresh p drain) s (fun u => Keeps s u
          ∧ u.out = s.out ++ [.frame p (.pfc roce 0xFFFF)] ∧ (u.fhPort p).xoffSent = true))
      ∧ (x.xoffSent = true → Completes (.pfcRefresh p drain) s (fun u => Keeps s u
          ∧ u.out = s.out ++ (if occ ≤ s.fld (R.FH_PORT_PFC_XON p) then [.frame p (.pfc roce 0)]
              else if x.pfcAt + gap ≤ s.timeNs then [.frame p (.pfc roce 0xFFFF)] else [])
          ∧ (u.fhPort p).xoffSent = decide (s.fld (R.FH_PORT_PFC_XON p) < occ))))
    ∧ (let due := s.timeNs < x.paused.getD roce 0 ∧ s.fld (R.FH_PORT_CFG_PFC_WD p) ≠ 0
          ∧ x.pausedAt + 1000000 * s.fld (R.FH_PORT_CFG_PFC_WD p) ≤ s.timeNs
      (due → Completes (.pfcWatchdog p) s (fun u => u.bit (R.FH_PORT_STATUS_PFC_STORM p) = true ∧ u.bit (R.FH_PORT_STATUS_PAUSED p) = false
          ∧ (u.fhPort p).paused.getD roce 0 = 0 ∧ (u.fhPort p).ignoreUntil = some (s.timeNs + 1000000000)))
      ∧ (¬due → exec (.pfcWatchdog p) s = .next s))
    ∧ (∀ t, x.ignoreUntil = some t → Completes (.pfcStormEnd p) s (fun u => Keeps s u
        ∧ u.fhPort p = (if t ≤ s.timeNs then { x with ignoreUntil := none } else x)))
    ∧ (∀ (h : PtpHead) (id : Word) (vec : Nat),
      let takes := s.bit R.FH_PTP_CFG_ENABLE = true ∧ h.domain.toNat = s.fld R.FH_PTP_CFG_DOMAIN ∧ h.transport.val = s.fld R.FH_PTP_CFG_TRANSPORT
      let new := (id.toNat, vec, h.source.toNat)
      (¬takes → exec (.ptpAnnounce p h id vec) s = .next s)
      ∧ (takes → Completes (.ptpAnnounce p h id vec) s (fun u =>
          smapGet (0, 0, 0) u.ptp.heard p.val = (match s.ptp.heard.find? (fun e => e.1 == p.val) with
            | some e => if e.2.2.2 = h.source.toNat ∨ vec < e.2.2.1
                ∨ (vec = e.2.2.1 ∧ (id.toNat < e.2.1 ∨ (id.toNat = e.2.1 ∧ h.source.toNat < e.2.2.2))) then new else e.2
            | none => new)
          ∧ Only (fun a => a = R.FH_PTP_STATUS ∨ a = R.FH_PTP_GM) s u)))
    ∧ Completes (.ptpAnnounceTimeout p) s (fun u => (∀ h ∈ u.ptp.heard, h.1 ≠ p.val)
        ∧ (p.val = s.fld R.FH_PTP_STATUS_ACTIVE → u.bit R.FH_PTP_STATUS_LOCKED = false)
        ∧ Only (fun a => a = R.FH_PTP_STATUS ∨ a = R.FH_PTP_GM) s u)
    ∧ (∀ (dom : PtpHead) (n : BitVec 16) (slew : Int),
      (s.ptpHere p dom = false → ∀ o, exec (.ptpSync p dom n o slew) s = .next s)
      ∧ (s.ptpHere p dom = true →
        (∀ t1, Completes (.ptpSync p dom n (some t1) slew) s (servoed t1.toNat s.timeNs))
        ∧ Completes (.ptpSync p dom n none slew) s (fun u => u.ptp = { s.ptp with sync := some (n.toNat, (s.timeNs : Int)) } ∧ Keeps s u)
        ∧ (∀ (t1 : BitVec 64) (t2 : Int), (s.ptp.sync = some (n.toNat, t2) → Completes (.ptpFollowUp p dom n t1 slew) s (servoed t1.toNat t2))
          ∧ (s.ptp.sync = none → exec (.ptpFollowUp p dom n t1 slew) s = .next s))
        ∧ (∀ (t4 : BitVec 64) (t1 t2 t3 : Int), s.ptp.delay = some (n.toNat, t3) → s.ptp.t12 = some (t1, t2) →
          Completes (.ptpDelayResp p dom n t4) s (fun u => u.ptp.path = ((t2 - t1) + ((t4.toNat : Int) - t3)) / 2 ∧ Keeps s u))))
    ∧ (s.bit R.FH_PTP_CFG_ENABLE = true → p.val = s.fld R.FH_PTP_STATUS_ACTIVE → up = true → Completes (.ptpDelayReq p) s (fun u =>
        u.out = s.out ++ [.frame p (.delayReq (s.fld R.FH_PTP_CFG_TRANSPORT) s.ptp.delaySeq)] ∧ u.ptp.delay = some (s.ptp.delaySeq, (s.timeNs : Int)) ∧ Keeps s u))

/-- Requests on QPs. A packet for no open QP does nothing; SEND and ATOMIC, and anything on a STORE session, are refused 0x61; a gap in PSN is answered
0x60 and a repeat acknowledged again; a WRITE or READ outside its window is refused 0x62 and nothing is performed; inside, a WRITE stores its
payload and no other byte, and a READ answers the bytes in packets of the MTU; doorbells and STS_CI move an index or count as BAD_DB. -/
def Obligations.RdmaIsPerformedUnderItsWindow : Prop :=
  (∀ (s : State) (k : RocePkt) (r : Option Reth) (e : Reth) (last : Bool) (data : List Byte) (imm : BitVec 32) (ecc : EccFinding),
    ∀ c ∈ [Instr.send k, .atomic k, .rdmaWrite k r last data ecc, .rdmaWriteImm k r data imm ecc, .rdmaRead k e ecc],
      (s.qp? k.qpn.toNat = none → exec c s = .next s)
      ∧ (∀ q, s.qp? k.qpn.toNat = some q → k.icrc = false →
        exec c s = .next (if s.bit (R.FH_PORT_STATUS_UP q.port) then Came s k q else s))
      ∧ (∀ q, Arrives s k q → q.requester = true → Completes c s (fun u => (∀ a, u.byte a = s.byte a)
          ∧ (∃ m ∈ (u.fhPort q.port).txq, m.qpn = q.qpn ∧ m.msg = .ack k.psn.toNat 0x61) ∧ u.out = s.out
          ∧ (q.sent = [] → u.qp? q.qpn = some { q with error := true, connected := false, writing := none })))
      ∧ (∀ q, Arrives s k q → q.requester = false →
        ((c = .send k ∨ c = .atomic k) → k.psn.toNat = q.epsn → Completes c s (Nakked q k.psn.toNat 0x61 s))
        ∧ (0 < sub24 k.psn.toNat q.epsn → sub24 k.psn.toNat q.epsn < 2 ^ 23 → exec c s = .next ((Came s k q).sendRoce q (.ack q.epsn 0x60)))
        ∧ (2 ^ 23 ≤ sub24 k.psn.toNat q.epsn → exec c s = .next ((Came s k q).sendRoce q (.ack (sub24 q.epsn 1) 0)))))
  ∧ (∀ (s : State) (k : RocePkt) (q : Qp) (r : Reth) (last : Bool) (data : List Byte) (imm : BitVec 32),
    Arrives s k q → q.requester = false → k.psn.toNat = q.epsn →
    let va := r.va.toNat
    let ok := fun (n : Nat) (w : Bool) => s.windowOk q.session r.rkey.toNat va n w
    let free := q.reading.length < 16
    (ok data.length true = false → Completes (.rdmaWrite k (some r) last data noEcc) s (Nakked q k.psn.toNat 0x62 s))
    ∧ (free → ok r.len.toNat false = false → Completes (.rdmaRead k r noEcc) s (Nakked q k.psn.toNat 0x62 s))
    ∧ (¬free → Completes (.rdmaRead k r noEcc) s (Nakked q k.psn.toNat 0x61 s))
    ∧ (q.writing = none → Completes (.rdmaWrite k none last data noEcc) s (Nakked q k.psn.toNat 0x61 s))
    ∧ (∀ die, ok data.length true = true → 0 < data.length → InWings s die va data.length → q.session < 8 →
      Completes (.rdmaWrite k (some r) last data noEcc) s (fun u => Stored va data s u
        ∧ u.qp? q.qpn = some { q with epsn := (q.epsn + 1) % 2 ^ 24, writing := if last then none else some (va + data.length, r.rkey.toNat) }
        ∧ Waits q.port (if last then s.sendRoce q (.ack k.psn.toNat 0) else s) s u)
      ∧ (q.dbImm = false → Completes (.rdmaWriteImm k (some r) data imm noEcc) s (fun u => Stored va data s u
        ∧ Waits q.port (s.sendRoce q (.ack k.psn.toNat 0)) s u))
      ∧ (q.dbImm = true → sub32 imm.toNat (s.ringIdx q.session offCmdCi) ≤ 128 → sub32 imm.toNat (s.ringIdx q.session offCmdPi) ≤ 128 →
        Completes (.rdmaWriteImm k (some r) data imm noEcc) s (fun u => u.bytes va data.length = data
          ∧ u.ringIdx q.session offCmdPi = imm.toNat)))
    ∧ (∀ die, free → ok r.len.toNat false = true → 0 < q.mtu → InWings s die va r.len.toNat → q.session < 8 →
      Completes (.rdmaRead k r noEcc) s (fun u => (∀ a, u.byte a = s.byte a)
        ∧ u.out = s.out
        ∧ (u.fhPort q.port).txq = (s.fhPort q.port).txq
          ++ (if r.len.toNat = 0 then [0] else List.range ((r.len.toNat + q.mtu - 1) / q.mtu)).map (fun i =>
            TxMsg.mk q.qpn 1 ⟨s.fld (R.FH_PORT_CFG_VLAN_ID q.port), s.fld (R.FH_PORT_CFG_ROCE_PRIO q.port),
                s.fld (R.FH_PORT_CFG_ROCE_DSCP q.port), s.bit (R.FH_PORT_CFG_ECN_EN q.port)⟩
              (.readResp ((k.psn.toNat + i) % 2 ^ 24) (s.bytes (va + i * q.mtu) (min q.mtu (r.len.toNat - i * q.mtu)))))
        ∧ u.qp? q.qpn = some { q with
          epsn := (q.epsn + max 1 ((r.len.toNat + q.mtu - 1) / q.mtu)) % 2 ^ 24,
          reading := q.reading ++ [(k.psn.toNat + max 1 ((r.len.toNat + q.mtu - 1) / q.mtu) - 1) % 2 ^ 24] })))
  ∧ (∀ (s : State) (n : Fin 8) (v : BitVec 32),
    (s.hostSess n = false → exec (.doorbell n v) s = .next s ∧ exec (.statusConsumed n v) s = .next s)
    ∧ (s.hostSess n = true →
      (if sub32 v.toNat (s.ringIdx n offCmdCi) ≤ 128 ∧ sub32 v.toNat (s.ringIdx n offCmdPi) ≤ 128 then
        Completes (.doorbell n v) s (fun u => u.ringIdx n offCmdPi = v.toNat ∧ u.regs = s.regs
          ∧ ∀ c, c < ringBase n + offCmdPi ∨ ringBase n + offCmdPi + 8 ≤ c → u.byte c = s.byte c)
      else exec (.doorbell n v) s = .next (s.countFld (R.FH_SESS_STATUS_BAD_DB n) 1))
      ∧ (if sub32 (s.ringIdx n offStsPi) v.toNat ≤ 1024 ∧ sub32 v.toNat (s.ringIdx n offStsCi) ≤ 1024 then
        Completes (.statusConsumed n v) s (fun u => u.ringIdx n offStsCi = v.toNat
          ∧ (s.host.waits = [] → u.regs = s.regs ∧ ∀ c, c < ringBase n + offStsCi ∨ ringBase n + offStsCi + 8 ≤ c → u.byte c = s.byte c))
      else exec (.statusConsumed n v) s = .next (s.countFld (R.FH_SESS_STATUS_BAD_DB n) 1))))

/-- QPs. A REQ for a session that will not have it is rejected; else the QP is made with its MTU and PSN and counted, and answered (the QPN free from the operand on); a REP connects
a requester. An ACK frees what it acknowledges, a NAK of sequence resends the rest, RNR is retried seven times and then mutes notification, any
other NAK ends the QP; a timeout resends, the eighth ends it; a CNP cuts the rate at most every 50 µs; 55 µs without one raise it.
A port's transmit arbiter takes the QPs round-robin from after the last grant, one packet a grant, answers before requests of their QP; a
QP's next packet waits for the time its payload takes at the QP's rate, the model's choice (headers uncounted), and pauses lapse. -/
def Obligations.QueuePairsConnectRetryAndPace : Prop :=
  (∀ (s : State) (port : Fin 4) (cm : CmPkt) (pq psn : BitVec 24) (sess : BitVec 16) (db : Bool) (mtu : Fin 5) (qpn : Fin 4096),
    let c := Instr.req port cm pq psn sess db mtu qpn
    let n := sess.toNat
    let t := (s.rxFrame port cm.frame).2
    let up := s.bit (R.FH_PORT_STATUS_UP port) = true ∧ (s.rxFrame port cm.frame).1 = true ∧ cm.icrc = true
    (s.bit (R.FH_PORT_STATUS_UP port) = false → exec c s = .next s)
    ∧ (s.bit (R.FH_PORT_STATUS_UP port) = true → ((s.rxFrame port cm.frame).1 = false ∨ cm.icrc = false) → exec c s = .next t)
    ∧ (up → (8 ≤ n ∨ s.hostSess n = false ∨ s.peerOk n cm.ip.toNat = false
        ∨ s.fld (R.FH_SESS_CFG_QP_MAX n) ≤ (s.sessQps n).length ∨ s.freeQpFrom qpn = none) →
      exec c s = .next (t.sendCm port (.cmRej pq.toNat 1)))
    ∧ (∀ i, up → t.out = s.out → n < 8 → s.hostSess n = true → s.peerOk n cm.ip.toNat = true →
        (s.sessQps n).length < s.fld (R.FH_SESS_CFG_QP_MAX n) → s.freeQpFrom qpn = some i →
      (∀ q, s.qp? (0x100 + i) = some q → q.error = true) ∧ (s.qp? (0x100 + qpn.val) = none → i = qpn.val)
      ∧ Completes c s (fun u => (∃ q, u.qp? (0x100 + i) = some q ∧ q.peerQpn = pq.toNat ∧ q.session = n ∧ q.port = port.val ∧ q.dbImm = db
            ∧ q.requester = false ∧ q.connected = true ∧ q.mtu = 256 * 2 ^ mtu.val ∧ q.epsn = psn.toNat ∧ q.rate = s.lineRate port
            ∧ q.hostTimer = (cm.ackTo.toNat, cm.retries.val))
        ∧ u.fld (R.FH_SESS_STATUS_QPS n) = (s.fld (R.FH_SESS_STATUS_QPS n) + 1) % 2 ^ 13
        ∧ Waits port (s.sendCm port (.cmRep (0x100 + i) pq.toNat (s.fld (R.FH_WIN1_RKEY n 0)) (ringBase n))) s u
        ∧ Only (fun a => a = R.FH_SESS_STATUS n) s u)))
  ∧ (∀ (s : State) (k : RocePkt) (pq psn : BitVec 24) (mtu : Fin 5) (q : Qp), s.qp? k.qpn.toNat = some q → q.qpn = k.qpn.toNat →
      k.icrc = true → s.bit (R.FH_PORT_STATUS_UP q.port) = true → (s.rxFrame q.port k.frame).1 = true →
      q.requester = true → q.connected = false → q.error = false → s.host.cmds = [] →
    Completes (.rep k pq psn mtu) s (fun u => u.qp? q.qpn = some { q with
        connected := true, peerQpn := pq.toNat, epsn := psn.toNat, mtu := 256 * 2 ^ mtu.val }
      ∧ Only (fun a => a = R.FH_SESS_STATUS q.session) s u))
  ∧ (∀ (s : State) (k : RocePkt) (q : Qp) (y : BitVec 8), Arrives s k q →
    (y.toNat < 0x20 → exec (.rcAck k y) s = .next ((Came s k q).setQp { q.acked k.psn.toNat s.timeNs with rnr := false }))
    ∧ (y.toNat = 0x60 → Completes (.rcAck k y) s (fun u => u.qp? q.qpn = some (q.acked (sub24 k.psn.toNat 1) s.timeNs)
        ∧ Waits q.port (s.resend (q.acked (sub24 k.psn.toNat 1) s.timeNs)) s u ∧ Keeps s u))
    ∧ (0x20 ≤ y.toNat → y.toNat < 0x40 → q.retries < 7 → Completes (.rcAck k y) s (fun u => u.qp? q.qpn = some { q with rnr := true, retries := q.retries + 1, ackAt := s.timeNs }
        ∧ Waits q.port (s.resend q) s u ∧ Keeps s u))
    ∧ (0x20 ≤ y.toNat → y.toNat < 0x40 → 7 ≤ q.retries → Completes (.rcAck k y) s (fun u => u.host.mute.contains q.session = true ∧ Keeps s u))
    ∧ (0x40 ≤ y.toNat → y.toNat ≠ 0x60 → q.requester = false → Completes (.rcAck k y) s (fun u =>
        u.qp? q.qpn = some { q with error := true, connected := false, writing := none, sent := [] }
        ∧ Only (fun a => a = R.FH_SESS_STATUS q.session) s u))
    ∧ (∀ (r : QpSent) (die : Nat) (data : List Byte) (last : Bool),
      let at' := sub24 k.psn.toNat r.psn * q.mtu
      q.sent.find? (fun r => r.kind == 2 && decide (sub24 k.psn.toNat r.psn < r.psns q.mtu)) = some r → 0 < data.length →
      (r.addr ≠ 0 → s.res.fetch = none → InWings s die (r.addr + at') data.length → Completes (.rdmaReadResponse k data last) s (fun u =>
        Stored (r.addr + at') data s u
        ∧ u.qp? q.qpn = some (if last then { q with sent := q.sent.erase r, retries := 0, ackAt := s.timeNs } else q)))
      ∧ (∀ f, r.addr = 0 → s.res.fetch = some f → f.todo = [] → Completes (.rdmaReadResponse k data last) s (fun u => Keeps s u
        ∧ u.res.fetch = some { f with buf := f.buf.take (r.imm + at') ++ data ++ f.buf.drop (r.imm + at' + data.length) }
        ∧ u.qp? q.qpn = some (if last then { q with sent := q.sent.erase r, retries := 0, ackAt := s.timeNs } else q)))))
  ∧ (∀ (s : State) (qpn : BitVec 24) (q : Qp), s.qp? qpn.toNat = some q → q.qpn = qpn.toNat →
    let due := q.ackAt + 4096 * 2 ^ s.fld R.FH_RC_ACK_TO ≤ s.timeNs
    (q.sent = [] ∨ ¬due → exec (.rcTimeout qpn) s = .next s)
    ∧ (q.sent ≠ [] → q.error = false → q.connected = true → due →
      (q.retries < 7 → Completes (.rcTimeout qpn) s (fun u => u.qp? q.qpn = some { q with retries := q.retries + 1, ackAt := s.timeNs }
          ∧ Waits q.port (s.resend q) s u ∧ Keeps s u))
      ∧ (7 ≤ q.retries → q.requester = false → Completes (.rcTimeout qpn) s (fun u =>
          u.qp? q.qpn = some { q with error := true, connected := false, writing := none, sent := [] })))
    ∧ (∀ k : RocePkt, k.qpn = qpn → Arrives s k q →
      let cut := match q.lastCut with | none => true | some c => decide (c + 50000 ≤ s.timeNs)
      Completes (.cnp k) s (fun u => u.qp? q.qpn = some (if cut then { q with
            timer := s.timeNs, rate := max (q.rate * (256 - s.fld R.FH_RC_MD) / 256) (256 * s.fld R.FH_RC_RMIN), lastCut := some s.timeNs, cuts := 0 }
          else { q with timer := s.timeNs })
        ∧ u.fld (R.FH_PORT_STATUS_CNP_RX q.port) = min (2 ^ 24 - 1) (s.fld (R.FH_PORT_STATUS_CNP_RX q.port) + 1)
        ∧ Only (fun a => a = R.FH_PORT_STATUS q.port) s u))
    ∧ (if s.timeNs < q.timer + 55000 then exec (.rateIncrease qpn) s = .next s else
        exec (.rateIncrease qpn) s = .next (s.setQp { q with
          cuts := q.cuts + 1, rate := min (s.lineRate q.port) (q.rate + 256 * s.fld R.FH_RC_AI * (q.cuts + 1)), timer := s.timeNs })))
  ∧ (∀ (s : State) (p : Nat) (k : TxMsg), s.bit (R.FH_PORT_STATUS_UP p) = true → (s.fhPort p).txNext s.timeNs s.paced = some k →
    let x := s.fhPort p
    let ready := fun (o : TxMsg) => o ∈ x.txq ∧ x.paused.getD o.tag.pcp 0 ≤ s.timeNs ∧ ∀ q, s.qp? o.qpn = some q → q.nextAt ≤ s.timeNs
    ready k
    ∧ (∀ o, ready o → (x.txPtr ≤ k.qpn ∧ (x.txPtr ≤ o.qpn → k.qpn ≤ o.qpn)) ∨ (k.qpn < x.txPtr ∧ o.qpn < x.txPtr ∧ k.qpn ≤ o.qpn))
    ∧ (k.msg.isAnswer = false → ∀ o, ready o → o.qpn = k.qpn → o.msg.isAnswer = false)
    ∧ ((s.transmit p).fhPort p).txPtr = k.qpn + 1
    ∧ (k.left ≤ 1 → (s.transmit p).out = s.out ++ [.roce p k.qpn k.tag k.msg] ∧ ((s.transmit p).fhPort p).txq = x.txq.erase k)
    ∧ (1 < k.left → (s.transmit p).out = s.out ∧ ((s.transmit p).fhPort p).txq = x.txq.replace k { k with left := k.left - 1 })
    ∧ (∀ q, s.qp? k.qpn = some q → q.qpn = k.qpn → 0 < q.rate →
      let n := min q.mtu (k.msg.payload - (k.msg.packets q.mtu - k.left) * q.mtu)
      0 < n → (s.transmit p).qp? k.qpn = some { q with
        nextAt := s.timeNs + bitNs (8 * n) q.rate, reading := match k.msg with | .readResp p _ => q.reading.erase p | _ => q.reading }))
  ∧ (∀ (s : State) (p : Fin 4), (s.fhPort p).paused.getD (s.fld (R.FH_PORT_CFG_ROCE_PRIO p)) 0 ≤ s.timeNs →
    (s.transmit p).bit (R.FH_PORT_STATUS_PAUSED p) = false)
  ∧ (∀ s u : State, s.pending = [] → step s = .next u → u = (List.range 4).foldl State.transmit
      ((s.now.late.foldl State.writeNow (s.now.halting.foldl State.haltLate s.tileTick)).acqsNow s.now.acqs))

/-- Commands. One command is taken per grant in index order; rejected it is counted and answered with its code, else it is kept and accepted;
either way CMD_CI and the expected SEQ move on. A waiting J command starts when nothing before it holds the group. NOP, the register commands,
READ_LATENCY, READ_BINDING, READ_PROMPTBOOK, READ_REPORT, LINK_RETRAIN and WARM_RESET act as Table 14.4 says; without a command none acts. -/
def Obligations.CommandsAreTakenInTurnAndAnswered : Prop :=
  ∀ (s : State),
    (∀ p ∈ [(Instr.nop, opcNop), (.regRead, opcRegRead), (.regWrite, opcRegWrite), (.readLatency, opcReadLatency), (.readBinding, opcReadBinding),
        (.readPromptbook, opcReadPromptbook), (.readReport, opcReadReport), (.sessionOpen, opcSessionOpen), (.sessionClose, opcSessionClose),
        (.windowAdd, opcWindowAdd), (.windowRemove, opcWindowRemove), (.storeOpen, opcStoreOpen), (.jobOpen, opcJobOpen),
        (.jobClose, opcJobClose), (.jobStop, opcJobStop), (.setRiskFloor, opcSetRiskFloor), (.linkRetrain, opcLinkRetrain),
        (.warmReset, opcWarmReset)], s.runningCmd p.2 = none → exec p.1 s = .next s)
    ∧ (roundRobin 8 s.host.rr s.servable = none → exec .commandTake s = .next s)
    ∧ (∀ n, roundRobin 8 s.host.rr s.servable = some n → n < 8 → (∀ w ∈ s.host.waits, w.session ≠ n) →
      let p := s.packetAt n (s.ringIdx n offCmdCi)
      let taken := fun (u : State) => u.ringIdx n offCmdCi = (s.ringIdx n offCmdCi + 1) % 2 ^ 32 ∧ u.host.rr = (n + 1) % 8
        ∧ u.fld (R.BT_CMDSEQ_EXPECT n) = (p.seq + 1) % 2 ^ 32 ∧ u.bit (R.BT_CMDSEQ_SET n) = true
      (∀ code, s.rejects n p = some code → Completes .commandTake s (fun u => taken u ∧ u.host.cmds = s.host.cmds
          ∧ u.fld (R.BT_CMDSEQ_REJECTED n) = min 0xFFFF (s.fld (R.BT_CMDSEQ_REJECTED n) + 1)
          ∧ Said n ⟨p.opcode, 4, code, p.seq, p.cookie, 0, 0, []⟩ s u))
      ∧ (s.rejects n p = none → Completes .commandTake s (fun u => taken u
          ∧ (∃ c, u.host.cmds = s.host.cmds ++ [c] ∧ c.id = s.host.nextId ∧ c.session = n ∧ c.opcode = p.opcode ∧ c.seq = p.seq ∧ c.cookie = p.cookie
            ∧ c.params = p.params ∧ c.taken = s.cue ∧ c.started = s.startsNow p.opcode)
          ∧ Said n ⟨p.opcode, 1, 0, p.seq, p.cookie, 0, 0, []⟩ s u)))
    ∧ (∀ c, s.host.cmds.find? (fun c => groupJ c.opcode && !c.started) = some c →
      let held := s.host.cmds.any (fun d => d.holdsGroup && decide (d.id < c.id))
      (held = true → exec .jCommandStart s = .next s)
      ∧ (held = false → Completes .jCommandStart s (fun u => u.host.cmds = s.host.cmds.map (fun d => if d.id = c.id then { c with started := true } else d)
          ∧ Only (fun a => a = R.BT_JOB ∨ a = R.BK_STATUS) s u)))
    ∧ (∀ c, s.runningCmd opcNop = some c → Room s c.session → Completes .nop s (Done c 0 [] s))
    ∧ (∀ c, s.runningCmd opcRegRead = some c →
      let r := s.readAll ((List.range (c.par 0 4)).map (fun i => c.par (8 + 8 * i) 8))
      exec .regRead s = .next (r.2.cmdDone c 0 r.1))
    ∧ (∀ c, s.runningCmd opcRegWrite = some c →
      let l := (List.range (c.par 0 4)).map (fun i => (c.par (8 + 16 * i) 8, c.par (16 + 16 * i) 8))
      let r := (l.foldl (fun t p => t.boothWrite p.1 (leBytes p.2 8)) s).readAll (l.map Prod.fst)
      exec .regWrite s = .next (r.2.cmdDone c 0 r.1))
    ∧ (∀ c die, s.runningCmd opcReadLatency = some c → Room s c.session → InWings s die (c.par 0 8) 520 → Completes .readLatency s (fun u =>
        u.bytes (c.par 0 8) 520 = leBytes (s.reg R.TA_LAT_VER).toNat 8 ++ (List.range 64).flatMap (fun i => leBytes (s.reg (R.TA_LAT i)).toNat 8)
        ∧ Done c 0 (leBytes (s.reg R.TA_LAT_VER).toNat 4) s u))
    ∧ (∀ c die, s.runningCmd opcReadBinding = some c → Room s c.session → InWings s die (c.par 0 8) 2048 → Completes .readBinding s (fun u =>
        u.bytes (c.par 0 8) 2048 = (List.range 256).flatMap (fun i => leBytes (s.reg (R.CB_BIND i)).toNat 8) ∧ Done c 0 [] s u))
    ∧ (∀ c die, s.runningCmd opcReadPromptbook = some c → Room s c.session →
      let r := pbSpan (s.fld R.BT_PB_STATUS_LAST) (s.fld R.BT_PB_STATUS_OLDEST) (c.par 8 4) (c.par 12 4)
      (r.2 = 0 → Completes .readPromptbook s (Done c 0 (leBytes (c.par 8 4) 4 ++ leBytes (c.par 8 4) 4) s))
      ∧ (r.2 ≠ 0 → InWings s die (c.par 0 8) (32 * r.2) → Completes .readPromptbook s (fun u =>
          u.bytes (c.par 0 8) (32 * r.2)
            = (List.range r.2).flatMap (fun i => (smapGet PbRec.zero s.pb.ring ((r.1 + i) % 2 ^ 32 % 2 ^ 21)).toBytes)
          ∧ Done c 0 (leBytes r.1 4 ++ leBytes ((r.1 + r.2 - 1) % 2 ^ 32) 4) s u)))
    ∧ (∀ c die, s.runningCmd opcReadReport = some c → Room s c.session →
      let l := s.host.report.take (c.par 8 8)
      InWings s die (c.par 0 8) l.length → Completes .readReport s (fun u => u.bytes (c.par 0 8) l.length = l ∧ Done c 0 (leBytes l.length 8) s u))
    ∧ (∀ c, s.runningCmd opcLinkRetrain = some c →
      (c.word = 0 → s.fab.reqs = [] → s.job.seats = [] → ResQuiet s → Completes .linkRetrain s (fun u =>
          ∀ p, p < 16 → bitOf (c.par 0 2) p = true → s.bit (R.FB_PORT_CFG_DISABLE p) = false → u.fld (R.FB_PORT_STATUS_STATE p) = 1))
      ∧ (c.word ≠ 0 → (∃ p, p < 16 ∧ bitOf (c.par 0 2) p = true ∧ s.fld (R.FB_PORT_STATUS_STATE p) = 1) → exec .linkRetrain s = .next s)
      ∧ (c.word ≠ 0 → (∀ p, p < 16 → bitOf (c.par 0 2) p = true → s.fld (R.FB_PORT_STATUS_STATE p) ≠ 1) → Room s c.session →
          Completes .linkRetrain s (Done c 0 (leBytes (s.fld R.FB_STATUS_UP) 2) s)))
    ∧ (∀ c, s.runningCmd opcWarmReset = some c → Completes .warmReset s (fun u => u.host.warm = s.host.warm.or (some (3, 0x10 + c.session)) ∧ u.host.warmCmd = true ∧ Keeps s u
        ∧ u.out = s.out))

/-- Sessions, windows, jobs and risk floors. SESSION_OPEN and STORE_OPEN enable a session with fresh indices and its ring window, SESSION_CLOSE
disables it; WINDOW_ADD fills the lowest free window under a key that names it, WINDOW_REMOVE waits for the commands that use it; JOB_OPEN takes
ownership and CU_CTL, JOB_START, JOB_STOP and JOB_CLOSE start and end the steps; the risk estimate is never below the largest floor in force. -/
def Obligations.SessionsWindowsJobsAndFloorsFollowTheirCommands : Prop :=
  ∀ (s : State),
    let level := fun (u : State) => u.fld R.RS_RISK_FLOOR = u.riskFloor % 256 ∧ u.fld R.RS_RISK_BAND = u.fld R.RS_RISK_ESTIMATE / 64
      ∧ u.fld R.RS_RISK_ESTIMATE = max (s.fld R.RS_RISK_INTERNAL) u.riskFloor % 256
    Completes .riskFloorExpiry s (fun u => level u ∧ u.host.floors = s.host.floors.filter (fun f => decide (s.cue < f.2.2)))
    ∧ ∀ (c : CmdRec), (∀ d ∈ s.host.cmds, d.id = c.id → d = c) → c ∈ s.host.cmds →
    let n := c.par 0 1
    let unused := n < 8 ∧ n ≠ c.session ∧ (∀ q ∈ s.qpList, q.session ≠ n) ∧ s.fld (R.FH_SESS_STATUS_QPS n) = 0
    let opened := fun (kind : Nat) (u : State) => u.bit (R.FH_SESS_CFG_VALID n) = true ∧ u.fld (R.FH_SESS_CFG_KIND n) = kind
      ∧ u.ringIdx n offCmdPi = 0 ∧ u.ringIdx n offCmdCi = 0 ∧ u.ringIdx n offStsPi = 0 ∧ u.ringIdx n offStsCi = 0
      ∧ u.bit (R.BT_CMDSEQ_SET n) = false
    let ringWindow := fun (u : State) => u.bit (R.FH_WIN0_VALID n 0) = true ∧ u.fld (R.FH_WIN0_BASE n 0) = ringBase n
      ∧ u.fld (R.FH_WIN1_PAGES n 0) = 512 ∧ u.fld (R.FH_WIN0_ACCESS n 0) = 3 ∧ u.fld (R.FH_WIN1_RKEY n 0) % 128 = n * 16
    (s.runningCmd opcSessionOpen = some c → unused → c.par 1 1 ≤ 1 → Room s c.session → Completes .sessionOpen s (fun u =>
        opened (c.par 1 1) u ∧ (s.bit (R.FH_WIN0_VALID n 0) = false → ringWindow u) ∧ Done c 0 [] s u))
    ∧ (s.runningCmd opcSessionClose = some c → unused → Room s c.session → Completes .sessionClose s (fun u =>
        u.bit (R.FH_SESS_CFG_VALID n) = false ∧ (∀ w, w < 16 → u.reg (R.FH_WIN0 n w) = 0 ∧ u.reg (R.FH_WIN1 n w) = 0)
        ∧ (∀ w ∈ u.host.waits, w.session ≠ n) ∧ Done c 0 [] s u))
    ∧ (s.runningCmd opcWindowAdd = some c → Room s c.session →
      (∀ w, w < 15 → s.bit (R.FH_WIN0_VALID c.session (w + 1)) = false → (∀ v, v < w → s.bit (R.FH_WIN0_VALID c.session (v + 1)) = true) →
        c.par 0 8 < 2 ^ 44 → c.par 8 4 < 2 ^ 32 → c.par 12 1 < 4 → Completes .windowAdd s (fun u =>
          u.bit (R.FH_WIN0_VALID c.session (w + 1)) = true ∧ u.fld (R.FH_WIN0_BASE c.session (w + 1)) = c.par 0 8
          ∧ u.fld (R.FH_WIN1_PAGES c.session (w + 1)) = c.par 8 4 ∧ u.fld (R.FH_WIN0_ACCESS c.session (w + 1)) = c.par 12 1
          ∧ u.fld (R.FH_WIN1_RKEY c.session (w + 1)) % 128 = c.session * 16 + w + 1
          ∧ Done c 0 (leBytes (w + 1) 4 ++ leBytes (u.fld (R.FH_WIN1_RKEY c.session (w + 1))) 4) s u))
      ∧ ((∀ v, v < 15 → s.bit (R.FH_WIN0_VALID c.session (v + 1)) = true) → Completes .windowAdd s (Done c 0x84 [] s)))
    ∧ (s.runningCmd opcWindowRemove = some c →
      let named := s.host.cmds.any (fun d => d.session == c.session && (memParams d.opcode d.par).any (fun m => s.windowHolds c.session n m.1 m.2.1 m.2.2))
      (named = true → exec .windowRemove s = .next s)
      ∧ (named = false → Room s c.session → n < 16 → Completes .windowRemove s (fun u =>
          u.reg (R.FH_WIN0 c.session n) = 0 ∧ u.reg (R.FH_WIN1 c.session n) = 0 ∧ Done c 0 [] s u)))
    ∧ (s.runningCmd opcStoreOpen = some c →
      (c.word = 0 → unused → Completes .storeOpen s (fun u => opened 1 u ∧ ringWindow u ∧ (∃ x ∈ u.host.stores, x.session = n ∧ x.qps = c.par 2 1)
          ∧ ∃ d ∈ u.host.cmds, d = { c with word := 1 }))
      ∧ (c.word = 1 → Room s c.session → (∀ d ∈ s.host.cmds, d.opcode = opcStoreOpen → d = c) →
          Completes .storeOpen s (Done c 0 (leBytes (s.connectedQps n) 2) s)))
    ∧ (s.runningCmd opcJobOpen = some c → Room s c.session → c.session < 8 →
      (s.jobOpen = true → Completes .jobOpen s (Done c 0x87 [] s))
      ∧ (s.jobOpen = false → s.res.left = true → Completes .jobOpen s (Done c 0x8C [] s))
      ∧ (s.jobOpen = false → s.res.left = false → c.par 4 2 < 2048 → c.par 7 1 < 2 → c.par 8 2 < 2 ^ 15 → c.par 10 2 < 2 ^ 15 → Completes .jobOpen s (fun u =>
          u.jobOpen = true ∧ u.fld R.BT_JOB_JOB = c.par 0 4 ∧ u.fld R.BT_JOB_OWNER = c.session ∧ u.fld R.CU_CTL_PERIOD = c.par 4 2
          ∧ u.fld R.CU_CTL_MARGIN = c.par 6 1 ∧ u.fld R.CU_CTL_BACKUP_EN = c.par 7 1 ∧ u.fld R.CU_CTL_MASTER_SEAT = c.par 8 2
          ∧ u.fld R.CU_CTL_BACKUP_SEAT = c.par 10 2 ∧ u.bit R.CU_STATUS_MASTER = decide (c.par 8 2 = s.mySeat) ∧ u.bit R.CU_STATUS_LOCKED = false)))
    ∧ (s.host.cmds.find? (fun d => d.opcode == opcJobStart && d.started && d.word == 0) = some c →
      (s.curtain.running = true ∨ s.curtain.starting = true → exec .jobStart s = .next s)
      ∧ (s.curtain.running = false → s.curtain.starting = false → s.res.left = true → Room s c.session → Completes .jobStart s (Done c 0x8C [] s))
      ∧ (s.curtain.running = false → s.curtain.starting = false → s.res.left = false → Completes .jobStart s (fun u => u.curtain.starting = true
          ∧ u.curtain.left = (if c.par 4 4 = 0 then none else some (c.par 4 4)) ∧ u.fld R.CU_STEP_STEP = c.par 0 4
          ∧ { c with word := 1 } ∈ u.host.cmds ∧ Only (fun a => a = R.CU_STEP) s u)))
    ∧ (s.runningCmd opcJobStop = some c →
      (s.curtain.running = true → exec .jobStop s = .next (s.setCurtain { s.curtain with stopAsked := true }))
      ∧ (s.curtain.running = false → s.host.cmds = [c] → Room s c.session → Completes .jobStop s (fun u =>
          u.curtain.starting = false ∧ u.curtain.left = none ∧ Done c 0 [] s u)))
    ∧ (s.runningCmd opcJobClose = some c → s.host.cmds = [c] →
      (s.curtain.running = true → s.res.noMaster = false → s.res.left = false →
        exec .jobClose s = .next (s.setCurtain { s.curtain with stopAsked := true }))
      ∧ (s.curtain.running = false → Room s c.session → Completes .jobClose s (fun u => u.jobOpen = false ∧ u.fld R.BT_JOB_JOB = 0
          ∧ u.bit R.CU_STATUS_MASTER = false ∧ u.curtain = CurtainState.init ∧ u.host.cmds = [])))
    ∧ (s.runningCmd opcSetRiskFloor = some c → Completes .setRiskFloor s (fun u => level u
        ∧ smapGet (0, 0) u.host.floors c.session = (if c.par 4 4 = 0 then (0, 0) else (n, c.taken + c.par 4 4))
        ∧ u.host.cmds = s.host.cmds.filter (fun d => d.id != c.id)))

/-- Callboard. A flush empties the channel and counts nothing; a take hands over the oldest notice or zero, neither reaching a notice posted in the same cycle, whose posts
are granted round-robin into the room left; a take not allowed is a bus error; a post is queued as bit 44 and body, dropped and counted when
sixteen wait, or put in the queue of 64 outgoing packets; a post not allowed is refused to its sender or counted; a lock takes any HOLDER written, after
a read of the cycle in the next one, and of the reads of a free lock one wins and reads 0. -/
def Obligations.ChannelsQueueFlushAndLock : Prop :=
  ∀ (s : State) (n : Fin 256),
    let q := s.chan n
    let busErr := fun (mid reg : Nat) => OutMsg.bus mid reg 0x90 []
    let mine := fun (x : ChanTurn) (base : List Word) => base ++ ((grantOrder x.ptr x.posts).take (16 - base.length)).map (fun p => deliveredNotice p.2)
    (s.turn? n = none → Completes (.cbFlush n) s (fun u => u.chan n = [] ∧ u.fld (R.CB_DROP_DROPPED n) = s.fld (R.CB_DROP_DROPPED n)
        ∧ u.fld (R.CB_DROP_REFUSED n) = s.fld (R.CB_DROP_REFUSED n) ∧ (∀ m, m ≠ n.val → u.chan m = s.chan m) ∧ u.out = s.out
        ∧ Only (fun a => a = R.CB_DROP n) s u))
    ∧ (∀ x, s.turn? n = some x → s.chanKind n ≠ .outgoing → Completes (.cbFlush n) s (fun u => u.chan n = mine x []
        ∧ (∀ m, m ≠ n.val → u.chan m = s.chan m) ∧ u.out = s.out ∧ Only (fun a => a = R.CB_DROP n) s u))
    ∧ (∀ core : Fin 2,
      let said := fun (v : Word) (u : State) => u.out = s.out ++ [.bus (1 + core.val) (R.CB_TAKE n) 0 (leBytes v.toNat 8)]
      (s.takeAllowed n (1 + core.val) = true → s.turn? n = none → Completes (.cbTake core n) s (fun u =>
          said (q.headD 0) u ∧ u.chan n = q.tail ∧ Only (fun a => a = R.CB_DROP n) s u))
      ∧ (∀ x, s.takeAllowed n (1 + core.val) = true → s.turn? n = some x →
        (s.posted n < q.length → Completes (.cbTake core n) s (fun u => said (q.headD 0) u ∧ u.chan n = mine x x.base.tail
            ∧ Only (fun a => a = R.CB_DROP n) s u))
        ∧ (q.length ≤ s.posted n → Completes (.cbTake core n) s (fun u => said 0 u ∧ u.chan n = q ∧ Keeps s u)))
      ∧ (s.takeAllowed n (1 + core.val) = false →
          exec (.cbTake core n) s = .next { s with out := s.out ++ [busErr (1 + core.val) (R.CB_TAKE n)] }))
    ∧ (∀ w : LockWrite,
      (lockMaster w.mid = true → s.now.reads.contains (R.CB_LOCK n) = true → Completes (.cbLock n w) s (fun u => Keeps s u ∧ u.out = s.out
        ∧ u.now.late = s.now.late ++ [⟨w.mid.toNat, R.CB_LOCK n, leBytes w.holder.toNat 8⟩]))
      ∧ (lockMaster w.mid = true → s.now.reads.contains (R.CB_LOCK n) = false → Completes (.cbLock n w) s (fun u =>
        u.fld (R.CB_LOCK_HOLDER n) = w.holder.toNat ∧ u.out = s.out ++ [.bus w.mid.toNat (R.CB_LOCK n) 0 []] ∧ Only (fun a => a = R.CB_LOCK n) s u))
      ∧ (lockMaster w.mid = false → Completes (.cbLock n w) s (fun u => u.out = s.out ++ [.bus w.mid.toNat (R.CB_LOCK n) 0x41 []] ∧ Keeps s u)))
    ∧ (∀ m : BitVec 12, lockMaster m = true →
      let h := s.fld (R.CB_LOCK_HOLDER n)
      (s.acqLate n = false → Completes (.cbAcq n [m]) s (fun u => u.fld (R.CB_LOCK_HOLDER n) = (if h = 0 then m.toNat else h)
        ∧ u.out = s.out ++ [.bus m.toNat (R.CB_ACQ n) 0 (leBytes h 8)] ∧ u.now.reads.contains (R.CB_LOCK n) = true ∧ Only (fun a => a = R.CB_LOCK n) s u))
      ∧ (s.acqLate n = true → Completes (.cbAcq n [m]) s (fun u => u.now.acqs = s.now.acqs ++ [⟨n, m.toNat, R.CB_ACQ n, 8, none⟩] ∧ u.out = s.out
        ∧ Keeps s u)))
    ∧ (∀ l : List (BitVec 12), (∃ m ∈ l, lockMaster m = true) → s.acqLate n = false → s.fld (R.CB_LOCK_HOLDER n) = 0 → Completes (.cbAcq n l) s (fun u =>
        ∃ w ∈ l, lockMaster w = true ∧ u.fld (R.CB_LOCK_HOLDER n) = w.toNat
          ∧ u.out = s.out ++ ((l.filter lockMaster).map (fun m => OutMsg.bus m.toNat (R.CB_ACQ n) 0 (leBytes (if m = w then 0 else w.toNat) 8)))))
    ∧ exec (.cbPost n []) s = .next s
    ∧ (∀ l : List (Poster × Word), Completes (.cbPost n l) s (fun u => ∀ m, m ≠ n.val → u.chan m = s.chan m))
    ∧ (∀ (p : Poster) (v : Word),
      (s.postAllowed n p = true → s.chanKind n ≠ .outgoing → s.turn? n = none →
        (q.length < 16 → Completes (.cbPost n [(p, v)]) s (fun u => u.chan n = q ++ [deliveredNotice v] ∧ u.out = s.out ∧ u.posted n = s.posted n + 1
            ∧ Only (fun a => a = R.CB_DROP n) s u))
        ∧ (16 ≤ q.length → Completes (.cbPost n [(p, v)]) s (fun u => u.chan n = q
            ∧ u.fld (R.CB_DROP_DROPPED n) = min (2 ^ ((R.CB_DROP_DROPPED n).hi + 1 - (R.CB_DROP_DROPPED n).lo) - 1) (s.fld (R.CB_DROP_DROPPED n) + 1)
            ∧ u.out = s.out ∧ Only (fun a => a = R.CB_DROP n) s u)))
      ∧ (∀ x, s.postAllowed n p = true → s.chanKind n ≠ .outgoing → s.turn? n = some x → Completes (.cbPost n [(p, v)]) s (fun u =>
          u.chan n = mine { x with posts := x.posts ++ [(p, v)] } x.base ∧ u.out = s.out ∧ Only (fun a => a = R.CB_DROP n) s u))
      ∧ (s.postAllowed n p = true → s.chanKind n = .outgoing → s.turn? n = none →
        (s.cbOut.length < 64 → Completes (.cbPost n [(p, v)]) s (fun u =>
          u.cbOut = s.cbOut ++ [(s.peerOf n, s.fld (R.CB_BIND_PEER_CHANNEL n), v)] ∧ Keeps s u))
        ∧ (64 ≤ s.cbOut.length → Completes (.cbPost n [(p, v)]) s (fun u => u.cbOut = s.cbOut
            ∧ u.fld (R.CB_DROP_DROPPED n) = min (2 ^ ((R.CB_DROP_DROPPED n).hi + 1 - (R.CB_DROP_DROPPED n).lo) - 1) (s.fld (R.CB_DROP_DROPPED n) + 1)
            ∧ Only (fun a => a = R.CB_DROP n) s u)))
      ∧ (∀ c : Fin 2, p = .booth c → s.postAllowed n p = false →
          exec (.cbPost n [(p, v)]) s = .next { s with out := s.out ++ [busErr (1 + c.val) (R.CB_POST n)] }))
    ∧ (∀ (src : BitVec 15) (v : Word),
      (s.postAllowed n (.ingress src) = false → Completes (.remoteNotice src n v) s (fun u => u.chan n = q
          ∧ u.fld (R.CB_DROP_REFUSED n) = min (2 ^ ((R.CB_DROP_REFUSED n).hi + 1 - (R.CB_DROP_REFUSED n).lo) - 1) (s.fld (R.CB_DROP_REFUSED n) + 1)
          ∧ Only (fun a => a = R.CB_DROP n) s u))
      ∧ (s.postAllowed n (.ingress src) = true → s.turn? n = none → q.length < 16 → Completes (.remoteNotice src n v) s (fun u =>
          u.chan n = q ++ [deliveredNotice v] ∧ Only (fun a => a = R.CB_DROP n) s u)))
    ∧ (∀ v : Word, (deliveredNotice v).extractLsb 55 44 = 1 ∧ (deliveredNotice v).extractLsb 43 0 = v.extractLsb 43 0
        ∧ (deliveredNotice v).extractLsb 63 56 = v.extractLsb 63 56)

/-- Checkpoints and risk. The score falls by one every DECAY cues; a report raises the job's estimate at its master; an order opens one checkpoint, the master's own when it is due;
the seat's drains and the seats' reports are collected; a commit makes step and number the committed ones, an abandon leaves them; with flash due
an image is staged, written into the older slot or given up; the store copy is started, counted or given up. Nothing due, nothing changes. -/
def Obligations.CheckpointsAreOrderedCommittedAndKept : Prop :=
  ∀ (s : State),
    (if s.cue < s.res.decayAt + s.ruling R.RS_CFG_DECAY then exec .healthDecay s = .next s else
      Completes .healthDecay s (fun u => u.fld R.RS_RISK_INTERNAL = s.fld R.RS_RISK_INTERNAL - 1 ∧ u.res.decayAt = s.cue
        ∧ u.fld R.RS_RISK_ESTIMATE = max (s.fld R.RS_RISK_INTERNAL - 1) s.riskFloor % 256))
    ∧ (∀ (seat : BitVec 15) (e : BitVec 8), if s.bit R.CU_STATUS_MASTER = false then exec (.riskReport seat e) s = .next s else
      Completes (.riskReport seat e) s (fun u => e.toNat ≤ u.fld R.RS_RISK_JOB ∨ 256 ≤ u.jobRisks.foldl (fun a p => max a p.2) 0)
      ∧ Completes (.riskReport seat e) s (fun u => smapGet 0 u.jobRisks seat.toNat = e.toNat ∧ Only (fun a => a = R.RS_RISK) s u))
    ∧ (∀ (k n : BitVec 32) (layers : Fin 8),
      (s.orderDue = none → s.res.opened.isSome = true ∨ s.outOfJob = true → exec (.checkpointOrder k n layers) s = .next s.settle)
      ∧ (∀ o, s.orderDue = some o →
        (s.cue < o.due → exec (.checkpointOrder k n layers) s = .next s)
        ∧ (o.due ≤ s.cue → s.res.opened.isSome = true ∨ s.res.recovering = true ∨ s.outOfJob = true → exec (.checkpointOrder k n layers) s =
            .next (s.setRes { s.res with order := none, asked := Nat.lor s.res.asked o.asked }).settle)
        ∧ (o.due ≤ s.cue → s.res.opened = none → s.res.recovering = false → s.outOfJob = false → Completes (.checkpointOrder k n layers) s (fun u =>
            u.res.order = none ∧ u.res.opened = some (o.k, o.n, o.layers))))
      ∧ (s.orderDue = none → s.res.opened = none → s.outOfJob = false → Completes (.checkpointOrder k n layers) s (fun u => u.res.opened = some (k.toNat, n.toNat, layers.val)
          ∧ (s.res.areas = [] → s.isMember = false → u.fld R.RS_CKPT_STATE_OPEN_STEP = n.toNat)))
      ∧ (∀ a b c, s.res.opened = some (a, b, c) → a ≠ k.toNat →
          exec (.ckptCommit k n) s = .next s ∧ exec (.ckptAbandon k) s = .next s)
      ∧ (∀ b c, s.res.opened = some (k.toNat, b, c) →
        Completes (.ckptCommit k n) s (fun u => u.res.opened = none ∧ u.fld R.RS_CKPT_STEP = n.toNat ∧ u.fld R.RS_CKPT_NUMBER = k.toNat
          ∧ u.fld R.RS_CKPT_STATE_PHASE = 0 ∧ u.fld R.RS_CKPT_STATE_OPEN_STEP = 0 ∧ u.bit R.RS_CKPT_STATE_MIRROR_OK = s.isMember
          ∧ u.bit R.RS_CKPT_STATE_STRIPES_OK = true ∧ u.res.side = some s.newSide ∧ u.res.flashDue = bitOf c 1 ∧ u.res.storeDue = bitOf c 2)
        ∧ Completes (.ckptAbandon k) s (fun u => u.res.opened = none ∧ u.fld R.RS_CKPT_STATE_PHASE = 0 ∧ u.fld R.RS_CKPT_STATE_OPEN_STEP = 0
          ∧ u.res.side = s.res.side))
      ∧ (s.res.opened = none → exec (.ckptCommit k n) s = .next s ∧ exec (.ckptAbandon k) s = .next s))
    ∧ (∀ stripe : Fin 8,
      (s.outOfJob = true ∨ (s.res.opened.isSome = true ∧ s.res.ready.contains stripe.val = false) → exec (.parityReady stripe) s = .next s)
      ∧ (s.outOfJob = false → s.res.opened = none → exec (.parityReady stripe) s =
          .next (s.setRes { s.res with readyEarly := (s.res.readyEarly ++ [stripe.val]).dedup }))
      ∧ (s.res.opened.isSome = true → s.res.ready.contains stripe.val = true → s.outOfJob = false → s.res.stripes = [] → Completes (.parityReady stripe) s (fun u =>
          u.res.ready = s.res.ready.erase stripe.val)))
    ∧ (∀ (seat : BitVec 15) (k : BitVec 32) (bad : Bool),
      (s.res.opened = none ∨ s.bit R.CU_STATUS_MASTER = false → exec (.ckptDone seat k bad) s = .next s)
      ∧ (∀ n c, s.res.opened = some (k.toNat, n, c) → s.bit R.CU_STATUS_MASTER = true → (∀ d ∈ s.res.done, d.1 ≠ seat.toNat ∧ d.2 = false) →
        (bad = true → Completes (.ckptDone seat k bad) s (fun u => u.res.opened = none
            ∧ ((∀ a ∈ s.res.areas, a.stack < 8 ∧ a.entry < 1024) → u.fld R.RS_CKPT_STEP = s.fld R.RS_CKPT_STEP)))
        ∧ (bad = false → (∃ q ∈ s.liveSeats, q ≠ seat.toNat ∧ ∀ d ∈ s.res.done, d.1 ≠ q) → exec (.ckptDone seat k bad) s =
            .next (s.setRes { s.res with done := s.res.done ++ [(seat.toNat, false)] }))))
    ∧ (let own := s.host.cmds.filter (fun c => c.opcode == opcCheckpointNow && c.started)
      Completes .checkpointNow s (fun u => (∀ i, bitOf u.res.asked i = (bitOf s.res.asked i
          || own.any (fun c => c.word == 0 && (i == 3 || bitOf (c.par 0 1) i))))
        ∧ ((∀ c ∈ own, c.word = 0) → u = s.setRes { s.res with asked := u.res.asked })))
    ∧ (s.res.flashDue = false ∨ s.res.flashWriting.isSome = true → exec .flashCheckpoint s = .next s)
    ∧ (s.res.flashDue = true → s.res.flashWriting = none → Completes .flashCheckpoint s (fun u => u.res.flashDue = false
        ∧ u.bit R.RS_CKPT_STATE_FLASH_WRITING = true ∧ ∃ f, u.res.flashWriting = some f ∧ f.step = s.fld R.RS_CKPT_STEP ∧ f.images = s.scene.images
          ∧ f.scene = s.scene.id ∧ f.seed = s.scene.seed ∧ f.bind = s.bindings))
    ∧ (∀ ok : Bool, (s.res.flashWriting = none ∨ 90 < s.fld (R.PW_THERM_TEMP 11) → exec (.flashImageComplete ok) s = .next s)
      ∧ (∀ f, s.res.flashWriting = some f → s.fld (R.PW_THERM_TEMP 11) ≤ 90 →
          let room := decide (f.dataAt + (f.shards.map (fun h => h.data.length)).sum + recordSize + (f.images.map List.length).sum ≤ 4064 * 2 ^ 30)
          let i := s.olderSlot
          Completes (.flashImageComplete ok) s (fun u => u.res.flashWriting = none ∧ u.bit R.RS_CKPT_STATE_FLASH_WRITING = false
            ∧ (if ok && room then u.bit (R.RS_FLASH_VALID i) = true ∧ u.fld (R.RS_FLASH_STEP i) = f.step % 2 ^ 32
                ∧ (if i = 0 then u.res.flash = (some f, s.res.flash.2) else u.res.flash = (s.res.flash.1, some f))
              else u.res.flash = s.res.flash ∧ u.res.storeDue = false))))
    ∧ (s.res.storeDue = false → exec .storeCheckpoint s = .next s)
    ∧ (s.res.storeDue = true → s.res.flashDue = false → s.res.flashWriting = none → s.res.storing = false →
      ((s.host.stores = [] ∨ s.newestImage = none) → Completes .storeCheckpoint s (fun u => u.res.storeDue = false ∧ u.res.storing = false))
      ∧ (∀ st rest f q, s.host.stores = st :: rest → s.newestImage = some f →
          s.qpList.find? (fun q => q.session == st.session && q.connected && !q.error) = some q →
          f.toBytes.length ≤ (st.keys.getD (s.res.storeCount % max st.keys.length 1) ⟨0, 0, 0⟩).len →
        Completes .storeCheckpoint s (fun u => u.res.storing = true ∧ u.res.storeDue = false)))
    ∧ (s.res.storing = false → exec .storeCopyComplete s = .next s)
    ∧ (∀ st rest f, s.res.storing = true → s.host.stores = st :: rest → s.newestImage = some f →
        (∀ q ∈ s.qpList, q.session = st.session → q.sent = []) → Completes .storeCopyComplete s (fun u => u.res.storing = false
          ∧ u.res.storeCount = s.res.storeCount + 1 ∧ u.fld R.RS_STORE_STEP = f.step % 2 ^ 32))

/-- Deadlines and recovery. A step past STEP_LIMIT sets the discard flag and counts as late; seats whose step-complete is missing are reported lost,
and so is a seat whose booth stopped refreshing its watchdog, its locks freed; reports go to the cue master; RECOVER sets the target, a seat without room for the aliases refuses; RESTORED
collects the seats and then resumes, or gives a refused promotion up; RESUME restarts the step; PROMOTE and RESTORE_CHECKPOINT begin or fail, a store object being asked for by RDMA READ first. Nothing due, nothing changes. -/
def Obligations.LostSeatsAreRecoveredFrom : Prop :=
  ∀ (s : State),
    let out := s.res.left = true ∨ s.res.noMaster = true
    (let due := ∃ f, s.curtain.firstIssue = some f ∧ s.stepOpen = true ∧ s.stepDone = false ∧ f + s.ruling R.RS_LIMIT_STEP_LIMIT ≤ s.cue;
      (due → Completes .stepDeadline s (fun u => u.discardFlag = true ∧ u.curtain.sent = true))
      ∧ (¬due → exec .stepDeadline s = .next s))
    ∧ (∀ f, s.curtain.firstIssue = some f →
      (s.bit R.CU_STATUS_MASTER = false ∨ s.curtain.running = false ∨ s.curtain.announced.isSome = true ∨ s.scene.rollout = true
          ∨ s.changing = true ∨ s.res.recovering = true ∨ s.cue < f + s.ruling R.RS_LIMIT_STEP_LIMIT + 1024 →
        exec .stepCompleteDeadline s = .next s)
      ∧ (s.bit R.CU_STATUS_MASTER = true → s.curtain.running = true → s.curtain.announced = none → s.scene.rollout = false → s.changing = false →
          s.res.recovering = false → f + s.ruling R.RS_LIMIT_STEP_LIMIT + 1024 ≤ s.cue → Completes .stepCompleteDeadline s (fun u =>
            ∀ q ∈ s.jobSeats, (∀ c ∈ s.curtain.completes, c.1 ≠ q) → u.isLost q = true)))
    ∧ (s.curtain.firstIssue = none → exec .stepCompleteDeadline s = .next s)
    ∧ Completes .watchdogRefresh s (fun u => u.res = { s.res with watchedAt := s.cycle } ∧ Keeps s u)
    ∧ (if s.cycle < s.res.watchedAt + 75000000 then exec .boothWatchdog s = .next s else
      Completes .boothWatchdog s (fun u => u.isLost s.mySeat = true ∧ u.res.watchedAt = s.cycle
        ∧ ∀ n : Fin 256, u.fld (R.CB_LOCK_HOLDER n) ≠ 1 ∧ u.fld (R.CB_LOCK_HOLDER n) ≠ 2))
    ∧ (∀ c, s.curtain.announced = none → s.curtain.drain = some c → s.res.recovering = true → s.classDrained c = true →
      (c < 3 → exec .classDrained s = .next { s with curtain := { s.curtain with drain := some (c + 1) } })
      ∧ (c = 3 → s.bit R.CU_STATUS_MASTER = false → ResQuiet s → Completes .classDrained s (fun u => u.res.reported = true ∧ u.curtain.drain = none
          ∧ u.rig.bufs = [] ∧ u.fab.inject = (({ s with fab := { s.fab with inject := [] } } : State).toMaster
              (.recovery (s.fld R.RS_CKPT_NUMBER) (s.fld R.RS_CKPT_STEP))).fab.inject)))
    ∧ (∀ (seat : BitVec 15) (k n : BitVec 32),
      (s.bit R.CU_STATUS_MASTER = false → exec (.recoveryReport seat k n) s = .next s)
      ∧ (s.bit R.CU_STATUS_MASTER = true → (s.res.recovering = false ∨ s.res.target.isSome = true
            ∨ ∃ q ∈ s.liveSeats, q ≠ seat.toNat ∧ ∀ r ∈ s.res.reports, r.1 ≠ q) →
          exec (.recoveryReport seat k n) s = .next (s.setRes { s.res with
            reports := s.res.reports.filter (fun r => r.1 != seat.toNat) ++ [(seat.toNat, k.toNat, n.toNat)] })))
    ∧ (∀ (t : BitVec 32) (lost us : List (BitVec 15)) (b : Option Rebuild),
      (out → exec (.recover t lost us b) s = .next s)
      ∧ (let room := s.aliasRoom ((lost.map BitVec.toNat).zip (us.map BitVec.toNat))
        (¬out → room = false → exec (.recover t lost us b) s = .next (s.toMaster .refused))
        ∧ (¬out → room = true → Completes (.recover t lost us b) s (fun u => u.res.target = some t.toNat ∧ u.res.recovering = true ∧ u.res.opened = none
          ∧ (s.res.areas = [] → s.res.stripes = [] → s.job.paths = [] → lost = [] → s.res.opened = none → u.fld R.RS_RECOVERY_TARGET = t.toNat ∧ u.promoted = s.promoted)))))
    ∧ (∀ m : RestoredMsg,
      let seat := m.seat
      (s.bit R.CU_STATUS_MASTER = false → exec (.restored m) s = .next s)
      ∧ (m.refused = true →
        (s.bit R.CU_STATUS_MASTER = true → s.res.recovering = true → s.res.target.isSome = true → Completes (.restored m) s (fun u =>
            u.res.target = none ∧ u.res.pairs = [] ∧ ∀ a, u.byte a = s.byte a))
        ∧ (s.res.recovering = false ∨ s.res.target = none → exec (.restored m) s = .next s))
      ∧ (m.refused = false → s.bit R.CU_STATUS_MASTER = true → s.res.recovering = true → s.res.restored.contains seat.toNat = false →
        (∀ q ∈ s.liveSeats, q ≠ seat.toNat → s.res.restored.contains q = false) → (∃ q ∈ s.liveSeats, q ≠ seat.toNat) →
          exec (.restored m) s = .next (s.setRes { s.res with restored := s.res.restored ++ [seat.toNat], rebuilt := s.res.rebuilt + m.bytes.toNat }))
      ∧ (∀ target, m.refused = false → s.bit R.CU_STATUS_MASTER = true → s.res.recovering = true → s.res.target = some target → s.res.pairs = [] → s.host.cmds = [] →
        (∀ q ∈ s.liveSeats, q = seat.toNat ∨ s.res.restored.contains q = true) → Completes (.restored m) s (fun u =>
          u.fab.inject = (s.sendC3 s.mates (.resume (s.cue + 64) (target + 1))).fab.inject ∧ u.fld R.CU_STEP_STEP = (target + 1) % 2 ^ 32
          ∧ u.res.recovering = false ∧ u.curtain.resumeAt = some (s.cue + 64))))
    ∧ (∀ (cue : Word) (step : BitVec 32), (out → exec (.resume cue step) s = .next s)
      ∧ (¬out → s.res.pairs = [] → Completes (.resume cue step) s (fun u => u.res.recovering = false ∧ u.res.target = none
          ∧ u.curtain.resumeAt = some cue.toNat ∧ u.curtain.announced = none ∧ u.fld R.CU_STEP_STEP = step.toNat ∧ u.fld R.RS_CKPT_STATE_PHASE = 0)))
    ∧ (let waiting := s.host.cmds.find? (fun c => c.opcode == opcPromote && c.started && c.word == 0)
      (waiting = none → exec .promote s = .next s)
      ∧ (∀ c, waiting = some c → s.res.lost.contains (c.par 0 2) = false → Completes .promote s (fun u =>
          u.res.live = some (c.par 0 2, c.par 2 2) ∧ u.res.asked = Nat.lor s.res.asked 1 ∧ (c.par 0 2, c.par 2 2) ∈ u.res.chosen ∧ Keeps s u))
      ∧ (∀ c, waiting = some c → s.res.lost.contains (c.par 0 2) = true → s.res.recovering = false → Completes .promote s (fun u =>
          (c.par 0 2, c.par 2 2) ∈ u.res.chosen ∧ Keeps s u)))
    ∧ (∀ others checks : Bool, let cmd := s.runningCmd opcRestoreCheckpoint
      (cmd = none → exec (.restoreCheckpoint others checks) s = .next s)
      ∧ (∀ c, cmd = some c → c.word ≠ 1 →
        let step := c.par 0 4
        let source := c.par 4 1
        let refused := Completes (.restoreCheckpoint others checks) s (Done c 0xAC [] s)
        let begun := fun (u : State) => u.res.target = some step ∧ u.res.recovering = true ∧ u.curtain.running = true
        (s.stepGap = false → exec (.restoreCheckpoint others checks) s = .next s)
        ∧ (s.stepGap = true → Room s c.session → source ≠ 2 → others = false → refused)
        ∧ (s.stepGap = true → others = true → source = 0 → s.fld R.RS_CKPT_STEP = step → s.res.side.isSome = true →
            Completes (.restoreCheckpoint others checks) s begun)
        ∧ (s.stepGap = true → Room s c.session → source = 0 → s.fld R.RS_CKPT_STEP ≠ step ∨ s.res.side = none → refused)
        ∧ (s.stepGap = true → Room s c.session → source ≠ 0 → source ≠ 2 → s.heldImage step = none → refused)
        ∧ (∀ f, s.stepGap = true → others = true → source ≠ 0 → source ≠ 2 → s.heldImage step = some f →
            (s.verifyScene s.ownTiles f.images = none → Completes (.restoreCheckpoint others checks) s begun)
            ∧ (∀ r, s.verifyScene s.ownTiles f.images = some r → exec (.restoreCheckpoint others checks) s = .next (s.verifyFailed c r)))
        ∧ (s.stepGap = true → Room s c.session → source = 2 → c.word = 0 → s.host.stores = [] → refused)
        ∧ (∀ st q key, s.stepGap = true → source = 2 → c.word = 0 → s.host.stores = [st] → s.qpList = [q] → s.storeQp st.session q = true →
            s.qp? q.qpn = some q → q.reads < 16 → 0 < q.mtu → st.keys = [key] → 0x80 ≤ key.len → s.res.storeObjects = [] →
            Completes (.restoreCheckpoint others checks) s (fun u => { c with word := 2 } ∈ u.host.cmds
              ∧ (u.fhPort q.port).txq.map TxMsg.msg = (s.fhPort q.port).txq.map TxMsg.msg ++ [.readReq q.npsn key.va key.rkey 0x80]))))

/-- Start-up and resets. A stage's row acts only in its stage with the part alive: S0 and S1 lead to the next stage or to recovery, S2 starts time,
count and promptbook, S3 and S4 zero the stores, S5 waits for the links, S6 ends in the boot lock; a bound reached is a fault. A reset leaves
reset values and its KIND; VIN or RST_L starts the part again. The promptbook writes one queued entry a grant under the next SEQ. -/
def Obligations.StartUpRunsStageByStage : Prop :=
  ∀ (s : State) (us : BitVec 32),
    (∀ (b ok : Bool) (st wg : List (Fin 8)) (cor : List (BitVec 40)) (fl : List (Tile × BitVec 8 × BitVec 20)),
      (∀ p ∈ [(Instr.powerStage us b, 0), (.rootStage us, 1), (.hubStage us b, 2), (.memoryStage us st wg ok cor, 3), (.selfTestStage us fl, 4),
        (.configurationStage us, 6)], (s.boot.stage ≠ p.2 ∨ s.alive = false) → exec p.1 s = .next s)
      ∧ (s.alive = true → s.boot.stage = 3 → Completes (.memoryStage us st wg ok cor) s (fun u => u.boot.stage = 4
          ∧ (∀ a, a < 0x11000000000 → u.byte a = 0) ∧ (cor = [] → ∀ a, 0x11000000000 ≤ a → u.byte a = s.byte a)
          ∧ (∀ k : Fin 8, u.bit (R.TP_STATUS_ONLINE k) = !st.contains k ∧ u.bit (R.TP_STATUS_TRAINED k) = !st.contains k)
          ∧ (st ≠ [] ∨ wg ≠ [] ∨ ok = false → u.boot.fault.isSome = true)))
      ∧ (s.alive = true → s.boot.stage = 4 → Completes (.selfTestStage us fl) s (fun u => u.boot.stage = 6 ∧ u.tiles = []
          ∧ (∀ a, 0x11000000000 ≤ a → a < 0x11080000000 → u.byte a = 0)
          ∧ (fl = [] → ∀ a, a < 0x11000000000 ∨ 0x11080000000 ≤ a → u.byte a = s.byte a) ∧ (fl ≠ [] → u.boot.fault.isSome = true))))
    ∧ (∀ b : Bool, s.alive = true → s.boot.stage = 0 → Completes (.powerStage us b) s (fun u => u.boot.stage = 1 ∧ u.boot.s0 = us.toNat
        ∧ u.bit R.PW_STATUS_BANK_OK = b ∧ u.boot.fault = (if b then s.boot.fault else s.boot.fault.or (some 0xC4))))
    ∧ (s.alive = true → s.boot.stage = 1 → (s.boot.fault = none ∨ s.modeCode ≠ 3) →
      let x := { s.sec with pend := none }
      Completes (.rootStage us) s (fun u => match (x.trySlots x.slotOrder).2 with
        | none => u.modeCode = 3 ∧ (u.fld R.BT_MODE_REASON = 0xE0 ∨ u.fld R.BT_MODE_REASON = 0xE1) ∧ u.boot.stage = 1
        | some slot => u.boot.stage = 2 ∧ u.boot.s1 = us.toNat ∧ u.sec.slot = some slot ∧ u.sec.pend = none))
    ∧ (∀ tailOk : Bool, s.alive = true → s.boot.stage = 2 → (∀ p, p < 16 → s.portUp p = false) → Completes (.hubStage us tailOk) s (fun u =>
        u.boot.stage = 3 ∧ u.timeNs = 0 ∧ u.reg R.CU_COUNT = 0 ∧ u.pb.started = true
        ∧ (∀ p, p < 16 → s.bit (R.FB_PORT_CFG_DISABLE p) = false → u.fld (R.FB_PORT_STATUS_STATE p) = 1)))
    ∧ (s.alive = true → 3 ≤ s.boot.stage → s.boot.links = false →
      ((∃ p, p < 16 ∧ s.fld (R.FB_PORT_STATUS_STATE p) = 1) → exec (.linksStage us) s = .next s)
      ∧ ((∀ p, p < 16 → s.fld (R.FB_PORT_STATUS_STATE p) ≠ 1) → Completes (.linksStage us) s (fun u => u.boot.links = true
          ∧ u.boot.stage = s.boot.stage ∧ ∀ a, u.byte a = s.byte a)))
    ∧ (s.boot.stage = 6 → s.boot.links = false → s.boot.linksLate = false → exec (.configurationStage us) s = .next s)
    ∧ (s.alive = true → s.boot.stage = 6 → s.boot.links = true ∨ s.boot.linksLate = true → Completes (.configurationStage us) s (fun u =>
        u.boot.stage = 7 ∧ u.fld R.BT_MODE_STAGE = 6 ∧ u.modeCode ≠ 0))
    ∧ (∀ n : Fin 7,
      ((s.boot.stage ≠ n.val ∧ n.val ≠ 5) ∨ s.boot.bounded.contains n.val = true → exec (.stageTimeout n) s = .next s)
      ∧ (s.cycle < s.boot.startOf n + stageBound n → exec (.stageTimeout n) s = .next s)
      ∧ (s.boot.stage = n.val → s.alive = true → n.val ≠ 5 → s.boot.bounded.contains n.val = false → s.boot.startOf n + stageBound n ≤ s.cycle →
          Completes (.stageTimeout n) s (fun u => u.boot.stage = s.boot.stage
          ∧ (2 ≤ n.val → u.boot.fault = s.boot.fault.or (some 0xF5)) ∧ (n.val = 1 → u.modeCode = 3 ∧ u.fld R.BT_MODE_REASON = 0xF5)))
      ∧ (3 ≤ s.boot.stage → s.boot.stage ≤ 6 → s.boot.stage ≠ 5 → s.boot.links = false → s.boot.linksLate = false → s.alive = true → s.boot.bounded.contains 5 = false →
          s.boot.startOf 5 + stageBound 5 ≤ s.cycle → Completes (.stageTimeout 5) s (fun u => u.boot.linksLate = true)))
    ∧ (let fresh := fun (kind : Nat) (u : State) => u.fld R.BT_RESET_KIND = kind ∧ u.pending = s.pending ∧ u.mem = [] ∧ u.host = HostState.init
          ∧ u.fab = FabState.init ∧ u.boot.retired = s.boot.retired ∧ u.sec.roots = s.sec.roots ∧ u.modeCode = 0
      (∀ vin : BitVec 16, if s.power.phase = .off ∧ s.power.latched = false then
          Completes (.powerOn vin) s (fun u => fresh 1 u ∧ u.boot.stage = 0 ∧ u.fld R.PW_STATUS_VIN = vin.toNat)
        else exec (.powerOn vin) s = .next s)
      ∧ (if s.power.phase = .off ∧ s.power.latched = false then exec .resetContact s = .next s
        else Completes .resetContact s (fun u => fresh 2 u ∧ u.boot.stage = 0 ∧ u.boot.rstLow = true))
      ∧ exec .rstLRise s = .next { s with boot := { s.boot with rstLow := false, since := s.cycle } }
      ∧ (s.host.warm = none → exec .warmResetExecute s = .next s)
      ∧ (s.cycle < s.host.warmAt + 150000 → exec .warmResetExecute s = .next s)
      ∧ (∀ mid, s.host.warm = some (3, mid) → s.host.warmAt + 150000 ≤ s.cycle → Completes .warmResetExecute s (fun u => fresh 3 u ∧ u.boot.stage = 1
          ∧ u.fld R.BT_RESET_MID = mid % 2 ^ 12 ∧ u.fld R.SC_STATUS_SCOPE = s.fld R.SC_STATUS_SCOPE)))
    ∧ (s.pb.started = false ∨ s.pb.queue = [] → exec .promptbookWrite s = .next s)
    ∧ (∀ e, s.pb.started = true → s.pb.queue = [e] → e.pair = false → e.host = false → s.pb.drops = 0 → Completes .promptbookWrite s (fun u =>
        u.pb.queue = [] ∧ u.pb.ptr = (e.source + 1) % 4096 ∧ u.fld R.BT_PB_STATUS_LAST = s.pb.seq % 2 ^ 32 ∧ u.pb.seq = nextSeq s.pb.seq
        ∧ smapGet PbRec.zero u.pb.ring (s.pb.seq % 2 ^ 21) = ⟨e.cue, s.timeNs, e.source, s.pbCls e.kind, e.code, s.pb.seq, e.detail % 2 ^ 64⟩
        ∧ Only (fun a => a = R.BT_PB_STATUS) s u))

/-- Power and heat. VIN outside 40 to 60 V starts the failure timeline, whose rows stop the engines, lose the stores, write the tail and end off or in a
cold start; rail, clock and thermal faults trip the die or the hub they name; the governor holds and decays levels and grants at most 512 first
issues a window; DUTY moves one step toward the largest demand; cap, coolant and temperature samples set the demands. -/
def Obligations.PowerFailsAndHeatSteps : Prop :=
  ∀ (s : State),
    let x := s.power
    (∀ vin : BitVec 16, Completes (.vinBandChange vin) s (fun u => u.fld R.PW_STATUS_VIN = vin.toNat ∧ u.power.band = vinBand vin.toNat
        ∧ (vinBand vin.toNat = x.band ∨ vinBand vin.toNat = 0 ∨ x.phase ≠ .none → Only (fun a => a = R.PW_STATUS) s u)))
    ∧ (∀ vin vb : BitVec 16,
      (4000 ≤ vin.toNat → vin.toNat ≤ 6000 → exec (.powerFail vin vb) s = .next s)
      ∧ ((vin.toNat < 4000 ∨ 6000 < vin.toNat) → x.phase = .none → Completes (.powerFail vin vb) s (fun u =>
          u.power = { x with phase := .crossed, failAt := s.cycle, failVin := vin.toNat, failBank := vb.toNat }
          ∧ u.fld R.PW_STATUS_VIN = vin.toNat ∧ u.fld R.PW_STATUS_VBANK = vb.toNat ∧ Only (fun a => a = R.PW_STATUS) s u))
      ∧ (vin.toNat < 4000 → x.phase = .off → Completes (.powerFail vin vb) s (fun u => u.power = { x with latched := false } ∧ Keeps s u)))
    ∧ (if x.phase ≠ .crossed then exec .powerFailStageStop s = .next s else
      Completes .powerFailStageStop s (fun u => u.power.phase = .stopped ∧ u.fld R.PW_HOLD_DUTY = 16 ∧ (∀ p, p < 16 → u.portUp p = false)
        ∧ (∀ p, p < 4 → u.bit (R.FH_PORT_STATUS_UP p) = false) ∧ u.fab.runs = [] ∧ (∀ k, k < 8 → (u.teStack k).running = [])))
    ∧ (if x.phase ≠ .stopped then exec .powerFailRailsOff s = .next s else
      Completes .powerFailRailsOff s (fun u => u.power.phase = (if s.pb.started = true ∧ s.boot.rstLow = false then .writing else .off)
        ∧ (∀ a, u.byte a = if a < 0x12000000000 then 0 else s.byte a) ∧ u.regs = s.regs))
    ∧ (∀ (tail record : Bool) (us : BitVec 32), if x.phase ≠ .writing ∨ s.cycle < x.failAt + 27000000 then exec (.holdupWriteEnd tail record us) s = .next s else
      Completes (.holdupWriteEnd tail record us) s (fun u => u.power.phase = .written ∧ u.res.flashWriting = none
        ∧ (if tail then u.pb.tail.isSome = true ∧ u.pb.tailBoots = 0 else u.pb.tail = s.pb.tail)
        ∧ (record = false → u.res.flash = s.res.flash)))
    ∧ (∀ vin : BitVec 16, if (x.phase ≠ .written ∧ x.phase ≠ .off) ∨ (x.phase = .written ∧ s.cycle < x.failAt + 30000000) then exec (.holdupEnd vin) s = .next s else
      Completes (.holdupEnd vin) s (fun u => if 4400 < vin.toNat ∧ x.latched = false then
          u.power = PowerX.init ∧ u.boot.stage = 0 ∧ u.fld R.BT_RESET_KIND = 1 ∧ u.fld R.PW_STATUS_VIN = vin.toNat
        else u.power = { x with phase := .off } ∧ Keeps s u))
    ∧ (let tripped := fun (u : State) => u.bit R.PW_HOLD_TRIP = true ∧ u.fld R.PW_HOLD_DUTY = 16 ∧ u.isLost s.mySeat = true
      (s.alive = false → ∀ (r : Rail) (d : Fin 19) (ports : BitVec 16), exec (.railFault r) s = .next s ∧ exec (.clkUnlock d ports) s = .next s)
      ∧ (s.alive = true →
      (∀ d : Fin 8, Completes (.railFault (.core d)) s (fun u => tripped u ∧ u.power.tripped.contains d.val = true)
        ∧ Completes (.railFault (.wing d)) s (fun u => tripped u ∧ u.power.tripped.contains d.val = true)
        ∧ Completes (.railFault (.stack d)) s (fun u => tripped u ∧ u.bit (R.TP_STATUS_STOPPED d) = true ∧ u.bit (R.TP_STATUS_ONLINE d) = false))
      ∧ (∀ r, (r = .hub ∨ ∃ i, r = .io i) → Completes (.railFault r) s (fun u => u.power.latched = true ∧ u.power.phase ≠ .none))
      ∧ (∀ r ∈ [Rail.bank, .nand, .nor], Completes (.railFault r) s (fun u => u.power = x ∧ ∀ t, u.tile t = s.tile t))
      ∧ (∀ (d : Fin 19) (ports : BitVec 16), (d.val = 0 → exec (.clkUnlock d ports) s = .next s)
        ∧ (1 ≤ d.val → (d.val ≤ 6 ∨ d.val = 16) → Completes (.clkUnlock d ports) s tripped)
        ∧ ((d.val = 7 ∨ d.val = 8) → s.fab.reqs = [] → s.job.seats = [] → ResQuiet s → Completes (.clkUnlock d ports) s (fun u =>
            ∀ p, p < 16 → bitOf ports.toNat p = true → u.portUp p = false))
        ∧ ((d.val = 9 ∨ d.val = 10) → Completes (.clkUnlock d ports) s (fun u =>
            ∀ p, p < 4 → bitOf ports.toNat p = true → u.bit (R.FH_PORT_STATUS_UP p) = false))
        ∧ (11 ≤ d.val → d.val ≠ 16 → Completes (.clkUnlock d ports) s (fun u => u.fld R.BT_RESET_KIND = 2 ∧ u.boot.stage = 0 ∧ u.pending = s.pending))))
      ∧ (∀ (d : Fin 12) (temp : BitVec 8), Completes (.thermalSample d temp) s (fun u =>
          let cur := s.fld (R.PW_THERM_STEP d)
          let new := nextStep (dieEntry (decide (8 ≤ d.val))) 4 cur temp.toNat
          u.fld (R.PW_THERM_TEMP d) = temp.toNat
          ∧ u.fld (R.PW_THERM_STEP d) = (if d.val = 11 then (if 90 < temp.toNat then 2 else if 80 < temp.toNat then 1 else 0) else new)
          ∧ (d.val < 8 → new = 4 → cur ≠ 4 → tripped u ∧ u.power.tripped.contains d.val = true)
          ∧ (d.val = 8 ∨ d.val = 9 ∨ d.val = 10 → new = 4 → cur ≠ 4 → u.power.latched = true))))
    ∧ (∀ (die : Fin 8) (draw : BitVec 32),
      (x.levels.getD die 0 ≤ draw.toNat → exec (.governorFill die draw) s = .next (s.setPower { x with
          levels := x.levels.set die draw.toNat, rises := x.rises.set die s.cue }))
      ∧ (draw.toNat < x.levels.getD die 0 → Completes (.governorFill die draw) s (fun u => u.power = x ∧ u.regs = s.regs ∧ u.mem = s.mem
          ∧ ∀ t, u.tile t = (if 256 * die.val ≤ t ∧ t < 256 * die.val + 256 then { s.tile t with lastIssue := s.active } else s.tile t))))
    ∧ (s.cycle < x.fillAt + 1500 → exec .fillDecay s = .next s)
    ∧ (x.fillAt + 1500 ≤ s.cycle → Completes .fillDecay s (fun u => Keeps s u ∧ u.power.fillAt = s.cycle ∧ u.power.levels.length = x.levels.length ∧ (∀ d, u.power.levels.getD d 0 ≤ x.levels.getD d 0)
        ∧ (∀ d, d < 8 → s.cue < x.rises.getD d 0 + s.fld R.PW_GOV_FILL_HOLD → u.power.levels.getD d 0 = x.levels.getD d 0)))
    ∧ Completes .startGrant s (fun u => u.regs = s.regs ∧ u.mem = s.mem ∧ u.power.granted ≤ max 512 x.granted
        ∧ (∀ t, (s.tile t).waitGrant = false → u.tile t = s.tile t)
        ∧ (∀ t, (s.tile t).waitGrant = true → u.tile t = s.tile t ∨ u.tile t = { s.tile t with waitGrant := false, issueAt := s.active }))
    ∧ (let d := s.fld R.PW_HOLD_DUTY
      let m := s.dutyDemand
      exec .dutyStep s = .next (if x.phase ≠ .none ∨ s.cycle < x.dutyAt + 15000 then s
        else (s.setPower { x with dutyAt := s.cycle }).setFld R.PW_HOLD_DUTY (if d < m then d + 1 else if m < d then d - 1 else d)))
    ∧ (∀ w : BitVec 16,
      let rule := fun (limit old : Nat) => let d := s.fld R.PW_HOLD_DUTY
        if limit < w.toNat then min 16 (d + 1) else if w.toNat + 100 ≤ limit then min old (d - 1) else old
      Completes (.capEvaluate w) s (fun u => u.fld R.PW_STATUS_POWER = w.toNat ∧ u.power.capDemand = rule (s.fld R.PW_CAP_WATTS) x.capDemand
        ∧ u.power.coolDemand = (if x.coolAlarm then rule 2000 x.coolDemand else 0) ∧ u.bit R.PW_HOLD_CAP = decide (u.power.capDemand ≠ 0)
        ∧ u.bit R.PW_HOLD_COOLANT = decide (u.power.coolDemand ≠ 0) ∧ u.fld R.PW_HOLD_DUTY = s.fld R.PW_HOLD_DUTY))
    ∧ (∀ i o : BitVec 8,
      let bad := 50 < i.toNat ∨ i.toNat + 20 < o.toNat
      Completes (.coolantSample i o) s (fun u => u.fld R.PW_COOLANT_INLET = i.toNat ∧ u.fld R.PW_COOLANT_OUTLET = o.toNat
        ∧ (bad → u.power.coolAlarm = true ∧ u.power.coolAt = s.cycle)
        ∧ (¬bad → u.power.coolAlarm = (x.coolAlarm && decide (s.cycle < x.coolAt + 1500000000)))
        ∧ (60 < i.toNat → u.bit R.PW_HOLD_TRIP = true ∧ u.fld R.PW_HOLD_DUTY = 16)))

/-- Vendor messages. Unanswered while the block is down or, but for GET_REPORT, in S1; a wrong length is 0x02; a report carries the nonce and state;
a challenge opens only a scope of the life cycle, eight failures close it, 60 s end it; an unlock leaves a pending scope or counts a failure; an
ownership message needs life cycle, OWNER challenge and signature, and changes the owner slots alone as R561 says; RESET needs RESET_EN. -/
def Obligations.VendorMessagesProveUnlockAndOwn : Prop :=
  ∀ (s : State),
    let tell := fun (code : Nat) (body : List Byte) (t u : State) => u = { t with out := t.out ++ [.mgmt s.inBand code body] }
    let gone := { s with sec := { s.sec with challenge := none } }
    (∀ r : List Byte, ∀ p ∈ [(Instr.getCert r, 4), (.challenge r, 1), (.close r, 0), (.claim r, 1028), (.rotate r, 1028), (.decommission r, 512), (.reset r, 0)],
      (s.mgmtUp = false ∨ s.boot.stage = 1 → exec p.1 s = .next s)
      ∧ (s.mgmtUp = true → s.boot.stage ≠ 1 → r.length ≠ p.2 → Completes p.1 s (tell 0x02 [] s)))
    ∧ (∀ n : List Byte,
      (s.mgmtUp = false → exec (.getReport n) s = .next s)
      ∧ (s.mgmtUp = true → n.length ≠ 32 → Completes (.getReport n) s (tell 0x02 [] s))
      ∧ (s.mgmtUp = true → n.length = 32 → s.boot.stage = 1 → Completes (.getReport n) s (tell 0x03 [] s))
      ∧ (s.mgmtUp = true → n.length = 32 → s.boot.stage ≠ 1 → Completes (.getReport n) s (fun u => Keeps s u
          ∧ ∃ sig, sig.length = 512 ∧ u.out = s.out ++ [.mgmt s.inBand 0 (s.reportBody n ++ sig)]) ∧ ((s.reportBody n).drop 16).take 32 = n))
    ∧ (s.mgmtUp = true → s.boot.stage ≠ 1 →
      (∀ r : List Byte, r.length = 4 → Completes (.getCert r) s (tell 0 ((Config.certChain.drop (lNum r 0 2)).take (lNum r 2 2)) s))
      ∧ (∀ b : Byte,
        (s.fld R.SC_STATUS_FAILS = 8 → Completes (.challenge [b]) s (fun u => u.out = s.out ++ [.mgmt s.inBand 0x04 []] ∧ u.sec = s.sec))
        ∧ (s.fld R.SC_STATUS_FAILS ≠ 8 → b.toNat ≠ 1 → b.toNat ≠ 2 → Completes (.challenge [b]) s (tell 0x01 [] s))
        ∧ (s.fld R.SC_STATUS_FAILS ≠ 8 → (b.toNat = 1 ∨ b.toNat = 2) → s.life ≠ 2 → s.life ≠ 3 → Completes (.challenge [b]) s (tell 0x03 [] s))
        ∧ (s.fld R.SC_STATUS_FAILS ≠ 8 → (b.toNat = 1 ∨ b.toNat = 2) → (s.life = 2 ∨ s.life = 3) → Completes (.challenge [b]) s (fun u => Keeps s u
            ∧ ∃ c, u.sec = { s.sec with challenge := some c } ∧ c.scope = b.toNat ∧ c.made = s.cycle ∧ c.nonce.length = 32 ∧ c.record.length = 64
              ∧ u.out = s.out ++ [.mgmt s.inBand 0 c.record])))
      ∧ (∀ r : List Byte, (r.length = 65 ∧ lNum r 0 1 = 1 ∨ (r.length = 513 ∨ r.length = 1025) ∧ lNum r 0 1 = 0) →
        (s.challenge? = none → Completes (.unlock r) s (tell 0x03 [] s))
        ∧ (∀ c, s.challenge? = some c →
          (s.life = 2 → c.scope = 1 → Completes (.unlock r) s (tell 0x03 [] s))
          ∧ ((s.life ≠ 2 ∨ c.scope ≠ 1) → s.sec.unlocks s.life c (lNum r 0 1) (r.drop 1) = true → Completes (.unlock r) s (fun u =>
              u.sec = { s.sec with pend := some c.scope } ∧ u.bit R.SC_STATUS_PENDING = true ∧ u.fld R.SC_STATUS_SCOPE = s.fld R.SC_STATUS_SCOPE
              ∧ u.out = s.out ++ [.mgmt s.inBand 0 []]))
          ∧ ((s.life ≠ 2 ∨ c.scope ≠ 1) → s.sec.unlocks s.life c (lNum r 0 1) (r.drop 1) = false → Completes (.unlock r) s (fun u =>
              u.sec = gone.sec ∧ u.fld R.SC_STATUS_FAILS = (if s.fld R.SC_STATUS_FAILS < 8 then s.fld R.SC_STATUS_FAILS + 1 else s.fld R.SC_STATUS_FAILS)
              ∧ u.out = s.out ++ [.mgmt s.inBand 0x01 []]))))
      ∧ Completes (.close []) s (fun u => u.fld R.SC_STATUS_SCOPE = 0 ∧ u.bit R.SC_STATUS_PENDING = false ∧ u.sec = { s.sec with pend := none }
          ∧ u.out = s.out ++ [.mgmt s.inBand 0 []] ∧ Only (fun a => a = R.SC_STATUS) s u)
      ∧ (∀ r : List Byte, ∀ p ∈ [(Instr.claim r, 1028, 2), (.rotate r, 1028, 3), (.decommission r, 512, 3)], r.length = p.2.1 →
        (s.life ≠ p.2.2 ∨ s.challenge? = none ∨ (∃ c, s.challenge? = some c ∧ c.scope ≠ 1) → Completes p.1 s (tell 0x03 [] s)))
      ∧ (∀ c, s.challenge? = some c → c.scope = 1 →
        (s.life = 2 → ∀ r : List Byte, r.length = 1028 →
          let ok := (s.sec.owners.getD 0 none).isNone && pssVerify (r.take 516) (s.sec.claimData c) (r.drop 516)
          Completes (.claim r) s (fun u => Only (fun a => a = R.BT_PB_INFO) s u ∧ u.out = s.out ++ [.mgmt s.inBand (if ok then 0 else 1) []]
            ∧ u.sec = (if ok then { gone.sec with owners := s.sec.owners.set 0 (some (sha512 (r.take 516))) } else gone.sec)))
        ∧ (s.life = 3 → ∀ r : List Byte, r.length = 1028 →
          let ok := s.sec.freeOwner.isSome && s.sec.ownerSigned (s.sec.claimData c) (r.drop 516)
          Completes (.rotate r) s (fun u => Only (fun a => a = R.BT_PB_INFO) s u ∧ u.out = s.out ++ [.mgmt s.inBand (if ok then 0 else 1) []]
            ∧ (ok = false → u.sec = gone.sec)
            ∧ (ok = true → u.sec.owners = s.sec.owners.set (s.sec.freeOwner.getD 0) (some (sha512 (r.take 516)))
              ∧ u.sec.challenge = none ∧ bitOf u.sec.ownerRevoked (s.sec.newestOwner.getD 0) = true)))
        ∧ (s.life = 3 → ∀ r : List Byte, r.length = 512 →
          let ok := s.sec.ownerSigned (s.sec.claimData c) r
          Completes (.decommission r) s (fun u => u.out = s.out ++ [.mgmt s.inBand (if ok then 0 else 1) []]
            ∧ (ok = false → u.sec = gone.sec ∧ u.res = s.res)
            ∧ (ok = true → u.sec.ownerRevoked = 15 ∧ u.sec.owners = s.sec.owners ∧ u.res.flash = (none, none) ∧ u.reg (R.RS_FLASH 0) = 0
              ∧ u.reg (R.RS_FLASH 1) = 0))))
      ∧ (s.bit R.MG_CTL_RESET_EN = false → Completes (.reset []) s (tell 0x01 [] s))
      ∧ (s.bit R.MG_CTL_RESET_EN = true → Completes (.reset []) s (fun u => u.host = { s.host with warm := s.host.warm.or (some (4, 4)), warmAt := if s.host.warm.isSome then s.host.warmAt else s.cycle } ∧ Keeps s u
          ∧ u.out = s.out ++ [.mgmt s.inBand 0 []])))
    ∧ (∀ c, s.sec.challenge = some c → exec .challengeExpiry s = .next (if c.made + 90000000000 ≤ s.cycle then gone else s))
    ∧ (s.sec.challenge = none → exec .challengeExpiry s = .next s)

/-- Management block. Nothing is answered while it is down; an I3C address is taken once and not under I2C_ONLY; EID, TID and event receiver are
kept and read back, the fixed answers given; every sensor is sampled and its latest sample read; an update goes to the place not in use, is
refused out of turn, erases before it writes, verifies only when whole, activates only when verified, and a failed or cancelled one ends. -/
def Obligations.ManagementBlockAnswersAndUpdates : Prop :=
  ∀ (s : State),
    let tell := fun (code : Nat) (body : List Byte) (t u : State) => u = { t with out := t.out ++ [.mgmt s.inBand code body] }
    (s.mgmtUp = false → ∀ (a : BitVec 7) (b : BitVec 8) (o : Option (BitVec 8)) (v w : BitVec 32) (h : BitVec 16) (im last : Bool) (pl : Fin 2)
        (off : BitVec 28) (d : List Byte),
      ∀ c ∈ [Instr.entdaa a, .setdasa, .setEndpointId b, .getEndpointId, .getEndpointUuid, .getMctpVersionSupport b, .getMessageTypeSupport, .getTid,
        .setTid b, .getPldmVersion b, .getPldmTypes, .getPldmCommands b v, .getPdr w, .getSensorReading h, .setEventReceiver o, .sensorSample,
        .requestUpdate im pl, .updateComponent off d last, .verifyComplete, .activateFirmware, .cancelUpdate], exec c s = .next s)
    ∧ (s.mgmtUp = true →
      (let taken := s.bit R.MG_STATUS_BUS || s.bit R.MG_CTL_I2C_ONLY || decide (s.fld R.MG_STATUS_DYN_ADDR ≠ 0);
        (∀ a : BitVec 7, (taken = true → exec (.entdaa a) s = .next s)
          ∧ (taken = false → Completes (.entdaa a) s (fun u => u.fld R.MG_STATUS_DYN_ADDR = a.toNat ∧ u.mgmt = { s.mgmt with addressed := true }
              ∧ Only (fun x => x = R.MG_STATUS) s u)))
        ∧ (taken = true → exec .setdasa s = .next s)
        ∧ (taken = false → Completes .setdasa s (fun u => u.fld R.MG_STATUS_DYN_ADDR = s.fld R.MG_CTL_STATIC_ADDR
              ∧ Only (fun x => x = R.MG_STATUS) s u)))
      ∧ (∀ e : BitVec 8, ((e.toNat = 0 ∨ e.toNat = 255) → Completes (.setEndpointId e) s (tell 0x02 [] s))
        ∧ (e.toNat ≠ 0 → e.toNat ≠ 255 → Completes (.setEndpointId e) s (fun u => u.fld R.MG_STATUS_EID = e.toNat
            ∧ u.out = s.out ++ [.mgmt s.inBand 0 (Config.answer 0x01 [e.toNat])] ∧ Only (fun x => x = R.MG_STATUS) s u)))
      ∧ Completes .getEndpointId s (fun u => Keeps s u ∧ ∃ l, u.out = s.out ++ [.mgmt s.inBand 0 (leBytes (s.fld R.MG_STATUS_EID) 1 ++ l)])
      ∧ Completes .getEndpointUuid s (tell 0 (beBytes Config.uuid.toNat 16) s)
      ∧ Completes .getMessageTypeSupport s (tell 0 [3, 0x00, 0x01, 0x7F] s)
      ∧ Completes .getTid s (tell 0 (leBytes s.mgmt.tid 1) s)
      ∧ Completes .getPldmTypes s (tell 0 (leBytes 37 8) s)
      ∧ (∀ (t : BitVec 8) (v : BitVec 32), Completes (.getMctpVersionSupport t) s (tell 0 (Config.answer 0x04 [t.toNat]) s)
        ∧ Completes (.getPldmVersion t) s (tell 0 (Config.answer 0x13 [t.toNat]) s)
        ∧ Completes (.getPldmCommands t v) s (tell 0 (Config.answer 0x15 [t.toNat, v.toNat]) s)
        ∧ Completes (.getPdr v) s (tell 0 (Config.answer 0x51 [v.toNat]) s)
        ∧ Completes (.setTid t) s (fun u => u.mgmt = { s.mgmt with tid := t.toNat } ∧ u.out = s.out ++ [.mgmt s.inBand 0 []] ∧ Keeps s u))
      ∧ (∀ o : Option (BitVec 8), Completes (.setEventReceiver o) s (fun u => u.mgmt = { s.mgmt with receiver := o.map BitVec.toNat }
          ∧ u.out = s.out ++ [.mgmt s.inBand 0 []] ∧ Keeps s u))
      ∧ Completes .sensorSample s (fun u => Keeps s u ∧ (∀ id ∈ sensorIds, smapGet none u.mgmt.samples id = some (s.sensor id))
          ∧ s.out <+: u.out ∧ (s.mgmt.receiver = none → u.out = s.out))
      ∧ (∀ id : BitVec 16, (sensorIds.contains id.toNat = false → Completes (.getSensorReading id) s (tell 0x80 [] s))
        ∧ (∀ v, sensorIds.contains id.toNat = true → smapGet none s.mgmt.samples id.toNat = some v →
            Completes (.getSensorReading id) s (tell 0 (leBytes v 4) s)))
      ∧ (s.mgmt.update = none →
        (∀ (im last : Bool) (pl : Fin 2) (off : BitVec 28) (d : List Byte),
          Completes (.requestUpdate im pl) s (fun u => Keeps s u ∧ u.out = s.out ++ [.mgmt s.inBand 0 []] ∧ ∃ x, u.mgmt.update = some x ∧ x.image = im
            ∧ x.whole = false ∧ x.place = (match (if im then s.sec.slot else s.sec.copy) with | some n => 1 - n | none => pl.val))
          ∧ ∀ c ∈ [Instr.updateComponent off d last, .verifyComplete, .activateFirmware, .cancelUpdate], Completes c s (tell 0x80 [] s)))
      ∧ (∀ x, s.mgmt.update = some x →
        (∀ (im : Bool) (pl : Fin 2), Completes (.requestUpdate im pl) s (tell 0x81 [] s))
        ∧ (∀ (off : BitVec 28) (d : List Byte) (last : Bool),
          let room := if x.image then norActivation else 0x100000
          (x.whole = true → Completes (.updateComponent off d last) s (tell 0x84 [] s))
          ∧ (x.whole = false → room < off.toNat + d.length → Completes (.updateComponent off d last) s (fun u => u.mgmt.update = none
              ∧ u.out = s.out ++ [.mgmt s.inBand 0x01 []]))
          ∧ (x.whole = false → off.toNat + d.length ≤ room → Completes (.updateComponent off d last) s (fun u => Keeps s u
              ∧ u.out = s.out ++ [.mgmt s.inBand 0 []] ∧ ∃ y, u.mgmt.update = some y ∧ y.whole = last ∧ y.got = true ∧ y.place = x.place ∧ y.image = x.image)))
        ∧ (x.whole = false → Completes .verifyComplete s (tell 0x84 [] s))
        ∧ (x.whole = true → s.updateOk x = true → Completes .verifyComplete s (fun u => Keeps s u ∧ u.sec = s.sec
            ∧ u.mgmt.update = some { x with verified := true } ∧ u.out = s.out ++ [.mgmt s.inBand 0 []]))
        ∧ (x.whole = true → s.updateOk x = false → Completes .verifyComplete s (fun u => Only (fun a => a = R.BT_PB_INFO) s u ∧ u.mgmt.update = none
            ∧ u.out = s.out ++ [.mgmt s.inBand 0x01 []]))
        ∧ (x.verified = false → Completes .activateFirmware s (tell 0x84 [] s))
        ∧ (x.verified = true → Completes .activateFirmware s (fun u => Only (fun a => a = R.BT_PB_INFO) s u ∧ u.mgmt.update = none ∧ u.out = s.out ++ [.mgmt s.inBand 0 []]
            ∧ (x.image = true → u.sec = s.sec.norWrite (x.place * norSlot + norActivation) (leBytes (s.sec.count (1 - x.place) + 1) 4))
            ∧ (x.image = false → u.sec = s.sec)))
        ∧ Completes .cancelUpdate s (fun u => Only (fun a => a = R.BT_PB_INFO) s u ∧ u.mgmt.update = none ∧ u.out = s.out ++ [.mgmt s.inBand 0 []])))

/-- A step of the block. With a command at the front of the queue a step is that command's effect on the state with the rest of the queue; on
an empty queue it is one tick of the part (the tick on an empty queue is the model's choice, log entry 2). -/
def Obligations.StepTakesTheFrontCommand : Prop :=
  (∀ (s : State) (c : Instr) (r : List Instr), s.pending = c :: r → step s = exec c { s with pending := r })
  ∧ (∀ s : State, s.pending = [] → step s = .next s.tick)

/-- The part as its first power-on reset is released. Every register reads its reset value, BT_RESET.KIND the code of a cold
power-on reset; mode and cue count are 0; every byte of its stores is zero and clean; no command waits, nothing is under way at any tile, callboard
channel, stack or link; the stores are in canonical form; one root key and no owner. That unread memory is zero before start-up fills it, and the values
of registers with no reset value given, are the model's choices (log entries 4 and 5). -/
def Obligations.ResetLeavesRegistersAtTheirValues : Prop :=
  let s := State.reset
  (∀ a, s.reg a = regReset a) ∧ s.fld R.BT_RESET_KIND = 1 ∧ s.modeCode = 0 ∧ s.cue = 0
  ∧ (∀ a, s.byte a = 0) ∧ (∀ u, s.poisoned u = false) ∧ (∀ t, s.tile t = TileX.init) ∧ (∀ c, s.chan c = [])
  ∧ (∀ st i, st < 8 → i < 1024 → s.bit (R.TP_SHARD_W0_VALID st i) = false) ∧ s.fab.inject = [] ∧ s.out = [] ∧ s.pending = []
  ∧ s.canonical = true ∧ s.sec.lifecycle = 2 ∧ s.sec.owners = [none, none, none, none]

/-- The words of a bundle decode to the slots they encode. For every P, M, D and S slot whose operands the manual admits, at every value of every
operand, decoding the word of the slot gives the slot back, and the word fits its slot. -/
def Obligations.SlotsDecodeAsEncoded : Prop :=
  (∀ i : PInsn, i.wf = true → encodeP i < 2 ^ 32 ∧ decodeP (encodeP i) = some i)
  ∧ (∀ i : MInsn, i.wf = true → encodeM i < 2 ^ 32 ∧ decodeM (encodeM i) = some i)
  ∧ (∀ i : DInsn, encodeD i < 2 ^ 32 ∧ decodeD (encodeD i) = some i)
  ∧ (∀ i : SInsn, encodeS i < 2 ^ 16 ∧ decodeS (encodeS i) = some i)

/-- An invariant of every step. From every state whose registers, memory and poison marks are in canonical form (keys strictly rising, no entry
at its default), every command and every tick that answers a next state leaves them so; equal contents therefore stay equal data. And every
command whose operands the manual admits answers one, in every state, but for the four that can meet an undefined format. -/
def Obligations.EveryStepKeepsTheStoresCanonical : Prop :=
  (∀ (s u : State), s.canonical = true → step s = .next u → u.canonical = true)
  ∧ ∀ (c : Instr) (s : State), c.wf = true → (match c with
      | .mm _ _ => True
      | .drain _ _ => True
      | .convert _ _ => True
      | .bundleFetch _ _ => True
      | c => ∃ u, exec c s = .next u)
end

