-- ==== Sys2Proof/Laws/Sparse.lean ====
section
/-!
SUPPORT. Laws/Sparse.lean: read after write on sparse maps, and that a write keeps the canonical form.
-/
namespace Sys2Proof.Machine

theorem smapGet_insert_same {α : Type} (d : α) (m : SMap α) (q : Nat) (x : α) :
    smapGet d (smapInsert q x m) q = x := by
  induction m with
  | nil => simp [smapInsert, smapGet]
  | cons p r ih =>
    obtain ⟨k, v⟩ := p
    simp only [smapInsert]
    split
    · simp [smapGet]
    · split
      · simp [smapGet]
      · rename_i h1 h2
        have : k ≠ q := fun h => h2 h.symm
        simp [smapGet, this, ih]

theorem smapGet_insert_ne {α : Type} (d : α) (m : SMap α) {q p : Nat} (x : α) (h : p ≠ q) :
    smapGet d (smapInsert q x m) p = smapGet d m p := by
  have hq : q ≠ p := fun e => h e.symm
  induction m with
  | nil => simp [smapInsert, smapGet, hq]
  | cons a r ih =>
    obtain ⟨k, v⟩ := a
    simp only [smapInsert]
    split
    · simp [smapGet, hq]
    · split
      · rename_i h1 h2
        subst h2
        simp [smapGet, hq]
      · simp only [smapGet, ih]

theorem smapGet_erase_same {α : Type} (d : α) (m : SMap α) (q : Nat) : smapGet d (smapErase q m) q = d := by
  induction m with
  | nil => rfl
  | cons a r ih =>
    obtain ⟨k, v⟩ := a
    by_cases hk : k = q
    · simpa [smapErase, hk] using ih
    · simpa [smapErase, hk, smapGet] using ih

theorem smapGet_erase_ne {α : Type} (d : α) (m : SMap α) {q p : Nat} (h : p ≠ q) :
    smapGet d (smapErase q m) p = smapGet d m p := by
  induction m with
  | nil => rfl
  | cons a r ih =>
    obtain ⟨k, v⟩ := a
    by_cases hk : k = q
    · have : k ≠ p := fun e => h (e ▸ hk)
      have hqp : q ≠ p := fun e => h e.symm
      simpa [smapErase, hk, smapGet, hqp] using ih
    · have e : smapErase q ((k, v) :: r) = (k, v) :: smapErase q r := by simp [smapErase, hk]
      rw [e]; simp only [smapGet, ih]

/-- Read after write, same key. -/
@[simp] theorem smapGet_set_same {α : Type} [DecidableEq α] (d : α) (m : SMap α) (q : Nat) (x : α) :
    smapGet d (smapSet d m q x) q = x := by
  unfold smapSet; split
  · rename_i h; rw [smapGet_erase_same, h]
  · exact smapGet_insert_same d m q x

/-- Read after write, another key (whatever its own default). -/
theorem smapGet_set_ne {α : Type} [DecidableEq α] (d d' : α) (m : SMap α) {q p : Nat} (x : α) (h : p ≠ q) :
    smapGet d' (smapSet d m q x) p = smapGet d' m p := by
  unfold smapSet; split
  · exact smapGet_erase_ne d' m h
  · exact smapGet_insert_ne d' m x h

-- The canonical form.

theorem smapSorted_weaken {α : Type} {b c : Nat} (h : b ≤ c) : ∀ m : SMap α, smapSorted (some c) m = true → smapSorted (some b) m = true
  | [], _ => rfl
  | (k, _) :: r, hs => by
    simp only [smapSorted, Bool.and_eq_true, decide_eq_true_eq] at hs ⊢
    exact ⟨by omega, hs.2⟩

theorem smapInsert_sorted {α : Type} (q : Nat) (x : α) :
    ∀ (m : SMap α) (b : Option Nat), smapSorted b m = true → (∀ n, b = some n → n < q) → smapSorted b (smapInsert q x m) = true
  | [], b, _, hb => by
    cases b with
    | none => rfl
    | some n => simp [smapInsert, smapSorted, hb n rfl]
  | (k, v) :: r, b, hs, hb => by
    simp only [smapSorted, Bool.and_eq_true] at hs
    simp only [smapInsert]
    split
    · rename_i h
      simp only [smapSorted, Bool.and_eq_true, decide_eq_true_eq]
      refine ⟨?_, h, hs.2⟩
      cases b with
      | none => rfl
      | some n => simpa using hb n rfl
    · split
      · rename_i h1 h2
        subst h2
        simp only [smapSorted, Bool.and_eq_true]
        refine ⟨?_, hs.2⟩
        cases b with
        | none => rfl
        | some n => simpa using hb n rfl
      · rename_i h1 h2
        simp only [smapSorted, Bool.and_eq_true]
        exact ⟨hs.1, smapInsert_sorted q x r (some k) hs.2 (fun n hn => by cases hn; omega)⟩

theorem smapErase_sorted {α : Type} (q : Nat) : ∀ (m : SMap α) (b : Option Nat), smapSorted b m = true → smapSorted b (smapErase q m) = true
  | [], _, _ => rfl
  | (k, v) :: r, b, hs => by
    simp only [smapSorted, Bool.and_eq_true] at hs
    by_cases hk : k = q
    · have e : smapErase q ((k, v) :: r) = smapErase q r := by simp [smapErase, hk]
      rw [e]
      refine smapErase_sorted q r b ?_
      cases b with
      | none =>
        cases r with
        | nil => rfl
        | cons p t =>
          obtain ⟨k', v'⟩ := p
          simp only [smapSorted, Bool.and_eq_true] at hs ⊢
          exact ⟨trivial, hs.2.2⟩
      | some n =>
        have : n < k := by simpa using hs.1
        exact smapSorted_weaken (by omega) r hs.2
    · have e : smapErase q ((k, v) :: r) = (k, v) :: smapErase q r := by simp [smapErase, hk]
      rw [e]
      simp only [smapSorted, Bool.and_eq_true]
      exact ⟨hs.1, smapErase_sorted q r (some k) hs.2⟩

theorem smapInsert_all {α : Type} (q : Nat) (x : α) (p : Nat × α → Bool) (hx : p (q, x) = true) :
    ∀ m : SMap α, m.all p = true → (smapInsert q x m).all p = true
  | [], _ => by simp [smapInsert, hx]
  | (k, v) :: r, h => by
    simp only [List.all_cons, Bool.and_eq_true] at h
    simp only [smapInsert]
    split
    · simp only [List.all_cons, Bool.and_eq_true]; exact ⟨hx, h.1, h.2⟩
    · split
      · simp only [List.all_cons, Bool.and_eq_true]; exact ⟨hx, h.2⟩
      · simp only [List.all_cons, Bool.and_eq_true]; exact ⟨h.1, smapInsert_all q x p hx r h.2⟩

/-- A write keeps the canonical form. -/
theorem smapSet_wf {α : Type} [DecidableEq α] (d : Nat → α) (m : SMap α) (q : Nat) (x : α) (h : smapWf d m = true) :
    smapWf d (smapSet (d q) m q x) = true := by
  simp only [smapWf, Bool.and_eq_true] at h ⊢
  unfold smapSet
  split
  · refine ⟨smapErase_sorted q m none h.1, ?_⟩
    simp only [smapErase, List.all_eq_true, List.mem_filter] at h ⊢
    exact fun p hp => h.2 p hp.1
  · rename_i hx
    exact ⟨smapInsert_sorted q x m none h.1 (by simp), smapInsert_all q x _ (by simpa using hx) m h.2⟩

end Sys2Proof.Machine
end

