-- ==== Sys2Proof/Laws/State.lean ====
section
/-!
SUPPORT. Laws/State.lean: what each update of the state does to each thing that is read from it, so that no later proof unfolds a
record update.
-/
namespace Sys2Proof.Machine

-- Registers.
@[simp] theorem reg_setReg_same (s : State) (a : Nat) (v : Word) : (s.setReg a v).reg a = v := by
  simp [State.reg, State.setReg]

theorem reg_setReg_ne (s : State) {a b : Nat} (v : Word) (h : b ≠ a) : (s.setReg a v).reg b = s.reg b := by
  simp only [State.reg, State.setReg]; exact smapGet_set_ne _ _ _ _ h

theorem reg_setReg (s : State) (a b : Nat) (v : Word) : (s.setReg a v).reg b = if b = a then v else s.reg b := by
  split
  · rename_i h; subst h; simp
  · rename_i h; exact reg_setReg_ne s v h

theorem reg_setFld_ne (s : State) {f : Fld} {b v : Nat} (h : b ≠ f.addr) : (s.setFld f v).reg b = s.reg b :=
  reg_setReg_ne s _ h

theorem reg_addFld_ne (s : State) {f : Fld} {b n : Nat} (h : b ≠ f.addr) : (s.addFld f n).reg b = s.reg b := reg_setFld_ne s h

theorem fld_setReg_ne (s : State) {a : Nat} {f : Fld} (v : Word) (h : f.addr ≠ a) : (s.setReg a v).fld f = s.fld f := by
  simp only [State.fld, reg_setReg_ne s v h]

theorem fld_setFld_ne (s : State) {f g : Fld} {v : Nat} (h : g.addr ≠ f.addr) : (s.setFld f v).fld g = s.fld g := by
  simp only [State.fld, reg_setFld_ne s h]

theorem bit_setFld_ne (s : State) {f g : Fld} {v : Nat} (h : g.addr ≠ f.addr) : (s.setFld f v).bit g = s.bit g := by
  simp only [State.bit, fld_setFld_ne s h]

@[simp] theorem reg_setTile (s : State) (t : Nat) (x : TileX) (a : Nat) : (s.setTile t x).reg a = s.reg a := (rfl)
@[simp] theorem fld_setTile (s : State) (t : Nat) (x : TileX) (f : Fld) : (s.setTile t x).fld f = s.fld f := (rfl)
@[simp] theorem bit_setTile (s : State) (t : Nat) (x : TileX) (f : Fld) : (s.setTile t x).bit f = s.bit f := (rfl)
@[simp] theorem reg_setByte (s : State) (p : Nat) (b : Byte) (a : Nat) : (s.setByte p b).reg a = s.reg a := (rfl)
@[simp] theorem reg_setPoison (s : State) (p : Nat) (b : Bool) (a : Nat) : (s.setPoison p b).reg a = s.reg a := (rfl)
@[simp] theorem reg_send (s : State) (m : OutMsg) (a : Nat) : (s.send m).reg a = s.reg a := (rfl)
@[simp] theorem reg_usedFree (s : State) (n a : Nat) : (s.usedFree n).reg a = s.reg a := (rfl)

/-- With nothing written since the step's first issue the registers are in force as they stand (R501). -/
theorem ruling_of_kept_none {s : State} (f : Fld) (h : s.curtain.kept = none) : s.ruling f = s.fld f := by
  simp only [State.ruling, h]

-- Memory.
@[simp] theorem byte_setByte_same (s : State) (a : Nat) (b : Byte) : (s.setByte a b).byte a = b := by
  simp [State.byte, State.setByte]

theorem byte_setByte_ne (s : State) {a c : Nat} (b : Byte) (h : c ≠ a) : (s.setByte a b).byte c = s.byte c := by
  simp only [State.byte, State.setByte]; exact smapGet_set_ne _ _ _ _ h

@[simp] theorem byte_setReg (s : State) (r : Nat) (v : Word) (a : Nat) : (s.setReg r v).byte a = s.byte a := (rfl)
@[simp] theorem byte_setFld (s : State) (f : Fld) (v a : Nat) : (s.setFld f v).byte a = s.byte a := (rfl)
@[simp] theorem byte_addFld (s : State) (f : Fld) (v a : Nat) : (s.addFld f v).byte a = s.byte a := (rfl)
@[simp] theorem byte_setTile (s : State) (t : Nat) (x : TileX) (a : Nat) : (s.setTile t x).byte a = s.byte a := (rfl)
@[simp] theorem byte_setPoison (s : State) (p : Nat) (b : Bool) (a : Nat) : (s.setPoison p b).byte a = s.byte a := (rfl)
@[simp] theorem byte_send (s : State) (m : OutMsg) (a : Nat) : (s.send m).byte a = s.byte a := (rfl)
@[simp] theorem byte_usedFree (s : State) (n a : Nat) : (s.usedFree n).byte a = s.byte a := (rfl)

/-- A run of bytes written changes no byte outside it. -/
theorem byte_setBytes_outside (l : List Byte) (s : State) {a c : Nat} (h : c < a ∨ a + l.length ≤ c) :
    (s.setBytes a l).byte c = s.byte c := by
  induction l generalizing s a with
  | nil => rfl
  | cons b r ih =>
    simp only [State.setBytes, List.length_cons] at *
    rw [ih (s.setByte a b) (a := a + 1) (by omega)]
    exact byte_setByte_ne s b (by omega)

/-- A run of bytes written reads back. -/
theorem byte_setBytes_inside (l : List Byte) (s : State) (a i : Nat) (h : i < l.length) :
    (s.setBytes a l).byte (a + i) = l[i] := by
  induction l generalizing s a i with
  | nil => simp at h
  | cons b r ih =>
    simp only [State.setBytes]
    cases i with
    | zero =>
      rw [byte_setBytes_outside r (s.setByte a b) (by omega)]
      simp
    | succ n =>
      have := ih (s.setByte a b) (a + 1) n (by simpa using h)
      simpa [Nat.add_assoc, Nat.add_comm 1 n] using this

@[simp] theorem reg_setBytes (l : List Byte) (s : State) (a r : Nat) : (s.setBytes a l).reg r = s.reg r := by
  induction l generalizing s a with
  | nil => rfl
  | cons b t ih => simp [State.setBytes, ih]

@[simp] theorem reg_setNum (s : State) (a n v r : Nat) : (s.setNum a n v).reg r = s.reg r := reg_setBytes _ s a r

-- Poison.
@[simp] theorem poisoned_setPoison_same (s : State) (u : Nat) (p : Bool) : (s.setPoison u p).poisoned u = p := by
  simp [State.poisoned, State.setPoison]

theorem poisoned_setPoison_ne (s : State) {u w : Nat} (p : Bool) (h : w ≠ u) : (s.setPoison u p).poisoned w = s.poisoned w := by
  simp only [State.poisoned, State.setPoison]; exact smapGet_set_ne _ _ _ _ h

@[simp] theorem poisoned_setReg (s : State) (r : Nat) (v : Word) (a : Nat) : (s.setReg r v).poisoned a = s.poisoned a := (rfl)
@[simp] theorem poisoned_setFld (s : State) (f : Fld) (v a : Nat) : (s.setFld f v).poisoned a = s.poisoned a := (rfl)
@[simp] theorem poisoned_setTile (s : State) (t : Nat) (x : TileX) (a : Nat) : (s.setTile t x).poisoned a = s.poisoned a := (rfl)
@[simp] theorem poisoned_setByte (s : State) (p : Nat) (b : Byte) (a : Nat) : (s.setByte p b).poisoned a = s.poisoned a := (rfl)

-- Tiles.
@[simp] theorem tile_setTile_same (s : State) (t : Nat) (x : TileX) : (s.setTile t x).tile t = x := by
  simp [State.tile, State.setTile]

theorem tile_setTile_ne (s : State) {t k : Nat} (x : TileX) (h : k ≠ t) : (s.setTile t x).tile k = s.tile k := by
  simp only [State.tile, State.setTile]; exact smapGet_set_ne _ _ _ _ h

@[simp] theorem tile_setReg (s : State) (r : Nat) (v : Word) (t : Nat) : (s.setReg r v).tile t = s.tile t := (rfl)
@[simp] theorem tile_setFld (s : State) (f : Fld) (v t : Nat) : (s.setFld f v).tile t = s.tile t := (rfl)
@[simp] theorem tile_addFld (s : State) (f : Fld) (v t : Nat) : (s.addFld f v).tile t = s.tile t := (rfl)
@[simp] theorem tile_setByte (s : State) (p : Nat) (b : Byte) (t : Nat) : (s.setByte p b).tile t = s.tile t := (rfl)
@[simp] theorem tile_setPoison (s : State) (p : Nat) (b : Bool) (t : Nat) : (s.setPoison p b).tile t = s.tile t := (rfl)
@[simp] theorem tile_send (s : State) (m : OutMsg) (t : Nat) : (s.send m).tile t = s.tile t := (rfl)
@[simp] theorem tile_usedFree (s : State) (n t : Nat) : (s.usedFree n).tile t = s.tile t := (rfl)

-- The queue, the counters of cycles, what is sent.
@[simp] theorem pending_setReg (s : State) (r : Nat) (v : Word) : (s.setReg r v).pending = s.pending := (rfl)
@[simp] theorem pending_setFld (s : State) (f : Fld) (v : Nat) : (s.setFld f v).pending = s.pending := (rfl)
@[simp] theorem pending_setTile (s : State) (t : Nat) (x : TileX) : (s.setTile t x).pending = s.pending := (rfl)
@[simp] theorem pending_setByte (s : State) (p : Nat) (b : Byte) : (s.setByte p b).pending = s.pending := (rfl)
@[simp] theorem pending_send (s : State) (m : OutMsg) : (s.send m).pending = s.pending := (rfl)
@[simp] theorem active_setReg (s : State) (r : Nat) (v : Word) : (s.setReg r v).active = s.active := (rfl)
@[simp] theorem active_setFld (s : State) (f : Fld) (v : Nat) : (s.setFld f v).active = s.active := (rfl)
@[simp] theorem active_setTile (s : State) (t : Nat) (x : TileX) : (s.setTile t x).active = s.active := (rfl)
@[simp] theorem cycle_setReg (s : State) (r : Nat) (v : Word) : (s.setReg r v).cycle = s.cycle := (rfl)
@[simp] theorem cycle_setFld (s : State) (f : Fld) (v : Nat) : (s.setFld f v).cycle = s.cycle := (rfl)
@[simp] theorem cycle_setTile (s : State) (t : Nat) (x : TileX) : (s.setTile t x).cycle = s.cycle := (rfl)
@[simp] theorem free_setReg (s : State) (r : Nat) (v : Word) : (s.setReg r v).free = s.free := (rfl)
@[simp] theorem free_setFld (s : State) (f : Fld) (v : Nat) : (s.setFld f v).free = s.free := (rfl)
@[simp] theorem free_setTile (s : State) (t : Nat) (x : TileX) : (s.setTile t x).free = s.free := (rfl)
@[simp] theorem pb_setReg (s : State) (r : Nat) (v : Word) : (s.setReg r v).pb = s.pb := (rfl)
@[simp] theorem pb_setFld (s : State) (f : Fld) (v : Nat) : (s.setFld f v).pb = s.pb := (rfl)
@[simp] theorem pb_setTile (s : State) (t : Nat) (x : TileX) : (s.setTile t x).pb = s.pb := (rfl)
@[simp] theorem fab_setReg (s : State) (r : Nat) (v : Word) : (s.setReg r v).fab = s.fab := (rfl)
@[simp] theorem fab_setFld (s : State) (f : Fld) (v : Nat) : (s.setFld f v).fab = s.fab := (rfl)
@[simp] theorem fab_setTile (s : State) (t : Nat) (x : TileX) : (s.setTile t x).fab = s.fab := (rfl)
@[simp] theorem out_setReg (s : State) (r : Nat) (v : Word) : (s.setReg r v).out = s.out := (rfl)
@[simp] theorem out_setFld (s : State) (f : Fld) (v : Nat) : (s.setFld f v).out = s.out := (rfl)
@[simp] theorem out_setTile (s : State) (t : Nat) (x : TileX) : (s.setTile t x).out = s.out := (rfl)
@[simp] theorem out_send (s : State) (m : OutMsg) : (s.send m).out = s.out ++ [m] := (rfl)
@[simp] theorem cb_setReg (s : State) (r : Nat) (v : Word) : (s.setReg r v).cb = s.cb := (rfl)
@[simp] theorem cb_setFld (s : State) (f : Fld) (v : Nat) : (s.setFld f v).cb = s.cb := (rfl)
@[simp] theorem cb_setTile (s : State) (t : Nat) (x : TileX) : (s.setTile t x).cb = s.cb := (rfl)

end Sys2Proof.Machine
end

