-- ==== Sys2Proof/Laws/Booth.lean ====
section
/-!
SUPPORT. Laws/Booth.lean: reading a booth core after writing it, what writing one leaves, and everything an instruction of a core can
do to the part.
-/
namespace Sys2Proof.Machine

@[simp] theorem core_setCore_same (s : State) (n : Nat) (c : BoothCore) : (s.setCore n c).core n = c := by
  simp [State.setCore, State.core]
@[simp] theorem core_usedFree (s : State) (n k : Nat) : (s.usedFree k).core n = s.core n := (rfl)
theorem core_setCore_ne (s : State) {n m : Nat} (c : BoothCore) (h : m ≠ n) : (s.setCore n c).core m = s.core m := by
  simp [State.setCore, State.core, smapGet_set_ne _ _ _ _ h]

@[simp] theorem reg_setCore (s : State) (n a : Nat) (c : BoothCore) : (s.setCore n c).reg a = s.reg a := (rfl)
@[simp] theorem byte_setCore (s : State) (n a : Nat) (c : BoothCore) : (s.setCore n c).byte a = s.byte a := (rfl)
@[simp] theorem tile_setCore (s : State) (n t : Nat) (c : BoothCore) : (s.setCore n c).tile t = s.tile t := (rfl)
@[simp] theorem out_setCore (s : State) (n : Nat) (c : BoothCore) : (s.setCore n c).out = s.out := (rfl)
@[simp] theorem mem_setCore (s : State) (n : Nat) (c : BoothCore) : (s.setCore n c).mem = s.mem := (rfl)
@[simp] theorem booth_setReg (s : State) (a : Nat) (v : Word) : (s.setReg a v).booth = s.booth := (rfl)
@[simp] theorem booth_setTile (s : State) (t : Nat) (x : TileX) : (s.setTile t x).booth = s.booth := (rfl)

@[simp] theorem xr_zero (c : BoothCore) : c.xr 0 = 0 := (rfl)
@[simp] theorem setX_zero (c : BoothCore) (v : Word) : c.setX 0 v = c := (rfl)
theorem xr_setX_same (c : BoothCore) {k : Nat} (v : Word) (h : k ≠ 0) : (c.setX k v).xr k = v := by
  simp [BoothCore.setX, BoothCore.xr, h]
theorem xr_setX_ne (c : BoothCore) {j k : Nat} (v : Word) (h : j ≠ k) : (c.setX k v).xr j = c.xr j := by
  by_cases hk : k = 0
  · simp [BoothCore.setX, hk]
  · simp [BoothCore.setX, BoothCore.xr, hk, smapGet_set_ne _ _ _ _ h]
@[simp] theorem fr_setF_same (c : BoothCore) (k : Nat) (v : Word) : (c.setF k v).fr k = v := by simp [BoothCore.setF, BoothCore.fr]
theorem fr_setF_ne (c : BoothCore) {j k : Nat} (v : Word) (h : j ≠ k) : (c.setF k v).fr j = c.fr j := by
  simp [BoothCore.setF, BoothCore.fr, smapGet_set_ne _ _ _ _ h]
@[simp] theorem fr_setX (c : BoothCore) (k j : Nat) (v : Word) : (c.setX k v).fr j = c.fr j := by
  unfold BoothCore.setX; split <;> rfl
@[simp] theorem pr_zero (c : BoothCore) : c.pr 0 = 2 ^ 64 - 1 := (rfl)
@[simp] theorem setP_zero (c : BoothCore) (v : Nat) : c.setP 0 v = c := (rfl)

/-- Everything a core's fault or hold can do: its record goes to an open place, one free value is used. -/
theorem coreVector_eq (s : State) (n : Nat) (c : BoothCore) (code : Nat) :
    ∃ d, s.coreVector n c code = (s.setCore n d).usedFree 1 ∧ d.x = c.x ∧ d.f = c.f ∧ d.p = c.p ∧ d.sram = c.sram ∧ d.err = code :=
  ⟨_, rfl, rfl, rfl, rfl, rfl, rfl⟩

/-- An instruction on a tile is the P slot issued alone. -/
theorem runOn_tile (s : State) (t : Tile) (i : PInsn) : s.runOn (.tile t) i = .next (s.runChecked t i) := (rfl)

/-- Everything an instruction of a booth core can answer. -/
theorem runCore_cases (s : State) (n pred pd : Nat) (i : PInsn) :
    (s.coreRuns n = false ∧ s.runCore n pred pd i = .next s)
    ∨ (s.coreRuns n = true ∧ boothAdmits i = true ∧ s.runCore n pred pd i = .next (s.coreDo n pred pd i))
    ∨ (s.coreRuns n = true ∧ boothAdmits i = false ∧ s.runCore n pred pd i = .fault .reservedInstruction) := by
  unfold State.runCore
  cases h : s.coreRuns n <;> cases g : boothAdmits i <;> simp

end Sys2Proof.Machine
end

