-- ==== Sys2Proof/Laws/Bus.lean ====
section
/-!
SUPPORT. Laws/Bus.lean: what keeping RS_CFG and RS_LIMIT for the running step does (R501).
-/
namespace Sys2Proof.Machine

@[simp] theorem reg_keepLimits (s : State) (a : Nat) : s.keepLimits.reg a = s.reg a := by
  unfold State.keepLimits; split <;> rfl
@[simp] theorem byte_keepLimits (s : State) (a : Nat) : s.keepLimits.byte a = s.byte a := by
  unfold State.keepLimits; split <;> rfl

/-- A write within a step leaves what rules it as it was (R501). -/
theorem ruling_keepLimits (s : State) (f : Fld) (h : f.addr = R.RS_CFG ∨ f.addr = R.RS_LIMIT) :
    s.keepLimits.ruling f = s.ruling f := by
  unfold State.keepLimits
  split
  · rename_i hk
    simp only [Bool.and_eq_true, Option.isNone_iff_eq_none] at hk
    rcases h with h | h <;> simp [State.ruling, hk.2, State.fld, h, R.RS_CFG, R.RS_LIMIT]
  · rfl

end Sys2Proof.Machine
end

