-- ==== Sys2Proof/Laws/Canonical.lean ====
section
/-!
SUPPORT. Laws/Canonical.lean: the shared operations keep the canonical form of the registers, the memory and the poison marks, and
the part at reset has it.
-/
namespace Sys2Proof.Machine

/-- The form rests on the three stores alone. -/
theorem canonical_congr {s u : State} (h1 : u.regs = s.regs) (h2 : u.mem = s.mem) (h3 : u.poison = s.poison) : u.canonical = s.canonical := by
  simp [State.canonical, h1, h2, h3]

theorem canonical_iff (s : State) :
    s.canonical = true ↔ smapWf regReset s.regs = true ∧ Memory.wf s.mem = true ∧ smapWf (fun _ => false) s.poison = true := by
  simp [State.canonical, and_assoc]

-- An update of any other field.
@[simp] theorem canonical_with_pending (s : State) (x : List Instr) : (State.canonical { s with pending := x }) = s.canonical := (rfl)
@[simp] theorem canonical_with_cycle (s : State) (x : Nat) : (State.canonical { s with cycle := x }) = s.canonical := (rfl)
@[simp] theorem canonical_with_active (s : State) (x : Nat) : (State.canonical { s with active := x }) = s.canonical := (rfl)
@[simp] theorem canonical_with_free (s : State) (x : Nat) : (State.canonical { s with free := x }) = s.canonical := (rfl)
@[simp] theorem canonical_with_won (s : State) (x : List Won) : (State.canonical { s with won := x }) = s.canonical := (rfl)
@[simp] theorem canonical_with_now (s : State) (x : CycleX) : (State.canonical { s with now := x }) = s.canonical := (rfl)
@[simp] theorem canonical_with_flaws (s : State) (x : SMap Nat) : (State.canonical { s with flaws := x }) = s.canonical := (rfl)
@[simp] theorem canonical_with_arb (s : State) (x : SMap Nat) : (State.canonical { s with arb := x }) = s.canonical := (rfl)
@[simp] theorem canonical_with_tiles (s : State) (x : SMap TileX) : (State.canonical { s with tiles := x }) = s.canonical := (rfl)
@[simp] theorem canonical_with_pb (s : State) (x : PbState) : (State.canonical { s with pb := x }) = s.canonical := (rfl)
@[simp] theorem canonical_with_discardFlag (s : State) (x : Bool) : (State.canonical { s with discardFlag := x }) = s.canonical := (rfl)
@[simp] theorem canonical_with_memSeen (s : State) (x : List (Nat × Nat × Nat)) : (State.canonical { s with memSeen := x }) = s.canonical := (rfl)
@[simp] theorem canonical_with_corrSeen (s : State) (x : List Nat) : (State.canonical { s with corrSeen := x }) = s.canonical := (rfl)
@[simp] theorem canonical_with_cache (s : State) (x : SMap CLine) : (State.canonical { s with cache := x }) = s.canonical := (rfl)
@[simp] theorem canonical_with_cacheClock (s : State) (x : Nat) : (State.canonical { s with cacheClock := x }) = s.canonical := (rfl)
@[simp] theorem canonical_with_cacheN (s : State) (x : Nat) : (State.canonical { s with cacheN := x }) = s.canonical := (rfl)
@[simp] theorem canonical_with_passRanges (s : State) (x : List (Nat × Nat)) : (State.canonical { s with passRanges := x }) = s.canonical := (rfl)
@[simp] theorem canonical_with_watch (s : State) (x : SMap (List WatchEnt)) : (State.canonical { s with watch := x }) = s.canonical := (rfl)
@[simp] theorem canonical_with_retired (s : State) (x : List (Nat × Nat × Nat)) : (State.canonical { s with retired := x }) = s.canonical := (rfl)
@[simp] theorem canonical_with_dc (s : State) (x : SMap DcLive) : (State.canonical { s with dc := x }) = s.canonical := (rfl)
@[simp] theorem canonical_with_dcQueue (s : State) (x : List DcRec) : (State.canonical { s with dcQueue := x }) = s.canonical := (rfl)
@[simp] theorem canonical_with_dcWaiting (s : State) (x : Bool) : (State.canonical { s with dcWaiting := x }) = s.canonical := (rfl)
@[simp] theorem canonical_with_dcMissed (s : State) (x : Nat) : (State.canonical { s with dcMissed := x }) = s.canonical := (rfl)
@[simp] theorem canonical_with_te (s : State) (x : SMap TeStack) : (State.canonical { s with te := x }) = s.canonical := (rfl)
@[simp] theorem canonical_with_fab (s : State) (x : FabState) : (State.canonical { s with fab := x }) = s.canonical := (rfl)
@[simp] theorem canonical_with_promoted (s : State) (x : List (Nat × Nat)) : (State.canonical { s with promoted := x }) = s.canonical := (rfl)
@[simp] theorem canonical_with_job (s : State) (x : JobState) : (State.canonical { s with job := x }) = s.canonical := (rfl)
@[simp] theorem canonical_with_cueX (s : State) (x : CueState) : (State.canonical { s with cueX := x }) = s.canonical := (rfl)
@[simp] theorem canonical_with_curtain (s : State) (x : CurtainState) : (State.canonical { s with curtain := x }) = s.canonical := (rfl)
@[simp] theorem canonical_with_scene (s : State) (x : SceneState) : (State.canonical { s with scene := x }) = s.canonical := (rfl)
@[simp] theorem canonical_with_res (s : State) (x : ResState) : (State.canonical { s with res := x }) = s.canonical := (rfl)
@[simp] theorem canonical_with_cb (s : State) (x : SMap (List Word)) : (State.canonical { s with cb := x }) = s.canonical := (rfl)
@[simp] theorem canonical_with_cbPtr (s : State) (x : SMap Nat) : (State.canonical { s with cbPtr := x }) = s.canonical := (rfl)
@[simp] theorem canonical_with_lockPtr (s : State) (x : SMap Nat) : (State.canonical { s with lockPtr := x }) = s.canonical := (rfl)
@[simp] theorem canonical_with_cbOut (s : State) (x : List (Nat × Nat × Word)) : (State.canonical { s with cbOut := x }) = s.canonical := (rfl)
@[simp] theorem canonical_with_host (s : State) (x : HostState) : (State.canonical { s with host := x }) = s.canonical := (rfl)
@[simp] theorem canonical_with_riskSent (s : State) (x : Option (Nat × Nat)) : (State.canonical { s with riskSent := x }) = s.canonical := (rfl)
@[simp] theorem canonical_with_jobRisks (s : State) (x : SMap Nat) : (State.canonical { s with jobRisks := x }) = s.canonical := (rfl)
@[simp] theorem canonical_with_tbOff (s : State) (x : Int) : (State.canonical { s with tbOff := x }) = s.canonical := (rfl)
@[simp] theorem canonical_with_power (s : State) (x : PowerX) : (State.canonical { s with power := x }) = s.canonical := (rfl)
@[simp] theorem canonical_with_rig (s : State) (x : RigState) : (State.canonical { s with rig := x }) = s.canonical := (rfl)
@[simp] theorem canonical_with_regPtr (s : State) (x : SMap Nat) : (State.canonical { s with regPtr := x }) = s.canonical := (rfl)
@[simp] theorem canonical_with_boot (s : State) (x : BootX) : (State.canonical { s with boot := x }) = s.canonical := (rfl)
@[simp] theorem canonical_with_sec (s : State) (x : SecX) : (State.canonical { s with sec := x }) = s.canonical := (rfl)
@[simp] theorem canonical_with_mgmt (s : State) (x : MgmtX) : (State.canonical { s with mgmt := x }) = s.canonical := (rfl)
@[simp] theorem canonical_with_booth (s : State) (x : SMap BoothCore) : (State.canonical { s with booth := x }) = s.canonical := (rfl)
@[simp] theorem canonical_with_out (s : State) (x : List OutMsg) : (State.canonical { s with out := x }) = s.canonical := (rfl)

theorem reset_canonical : State.reset.canonical = true := rfl

/-- A store whose entries are sorted out keeps its form. -/
theorem smapSorted_filter {α : Type} (p : Nat × α → Bool) : ∀ (m : SMap α) (b : Option Nat), smapSorted b m = true → smapSorted b (m.filter p) = true
  | [], _, _ => rfl
  | (k, v) :: r, b, hs => by
    simp only [smapSorted, Bool.and_eq_true] at hs
    by_cases hp : p (k, v) = true
    · rw [List.filter_cons_of_pos hp]
      simp only [smapSorted, Bool.and_eq_true]
      exact ⟨hs.1, smapSorted_filter p r (some k) hs.2⟩
    · rw [List.filter_cons_of_neg hp]
      refine smapSorted_filter p r b ?_
      cases b with
      | none =>
        cases r with
        | nil => rfl
        | cons q t =>
          simp only [smapSorted, Bool.and_eq_true] at hs ⊢
          exact ⟨trivial, hs.2.2⟩
      | some n =>
        have : n < k := by simpa using hs.1
        exact smapSorted_weaken (by omega) r hs.2

theorem smapWf_filter {α : Type} [DecidableEq α] (d : Nat → α) (m : SMap α) (p : Nat × α → Bool) (h : smapWf d m = true) :
    smapWf d (m.filter p) = true := by
  simp only [smapWf, Bool.and_eq_true, List.all_eq_true, List.mem_filter] at h ⊢
  exact ⟨smapSorted_filter p m none h.1, fun q hq => h.2 q hq.1⟩

-- The primitive writes.
theorem canonical_setReg {s : State} (h : s.canonical = true) (a : Nat) (v : Word) : (s.setReg a v).canonical = true := by
  rw [canonical_iff] at h ⊢
  exact ⟨smapSet_wf regReset _ _ _ h.1, h.2⟩

theorem canonical_setByte {s : State} (h : s.canonical = true) (a : Nat) (b : Byte) : (s.setByte a b).canonical = true := by
  rw [canonical_iff] at h ⊢
  exact ⟨h.1, smapSet_wf (fun _ => memDefault) _ _ _ h.2.1, h.2.2⟩

theorem canonical_setPoison {s : State} (h : s.canonical = true) (u : Nat) (p : Bool) : (s.setPoison u p).canonical = true := by
  rw [canonical_iff] at h ⊢
  exact ⟨h.1, h.2.1, smapSet_wf (fun _ => false) _ _ _ h.2.2⟩

/-- A fold of steps that each keep the form keeps it. -/
theorem canonical_foldl {α : Type} (f : State → α → State) (hf : ∀ t x, t.canonical = true → (f t x).canonical = true) :
    ∀ (l : List α) (s : State), s.canonical = true → (l.foldl f s).canonical = true
  | [], _, h => h
  | x :: l, s, h => canonical_foldl f hf l (f s x) (hf s x h)

theorem canonical_setFld {s : State} (h : s.canonical = true) (f : Fld) (v : Nat) : (s.setFld f v).canonical = true := canonical_setReg h _ _
theorem canonical_addFld {s : State} (h : s.canonical = true) (f : Fld) (n : Nat) : (s.addFld f n).canonical = true := canonical_setReg h _ _
theorem canonical_incFld {s : State} (h : s.canonical = true) (f : Fld) (n : Nat) : (s.incFld f n).canonical = true := canonical_setReg h _ _

@[simp] theorem canonical_noteEvt (s : State) (f : Fld) (n : Nat) : (s.noteEvt f n).canonical = s.canonical := (rfl)
theorem canonical_raiseFld {s : State} (h : s.canonical = true) (f : Fld) : (s.raiseFld f).canonical = true :=
  canonical_setFld (s := s.noteEvt f 1) (by rw [canonical_noteEvt]; exact h) _ _
theorem canonical_countFld {s : State} (h : s.canonical = true) (f : Fld) (n : Nat) : (s.countFld f n).canonical = true :=
  canonical_addFld (s := s.noteEvt f n) (by rw [canonical_noteEvt]; exact h) _ _

theorem canonical_setBytes (l : List Byte) : ∀ {s : State} (a : Nat), s.canonical = true → (s.setBytes a l).canonical = true := by
  induction l with
  | nil => exact fun _ h => h
  | cons b r ih => exact fun a h => ih (a + 1) (canonical_setByte h a b)

theorem canonical_setNum {s : State} (h : s.canonical = true) (a n v : Nat) : (s.setNum a n v).canonical = true := canonical_setBytes _ a h

theorem canonical_poisonAll {s : State} (h : s.canonical = true) (us : List Nat) (p : Bool) : (s.poisonAll us p).canonical = true :=
  canonical_foldl _ (fun _ u ht => canonical_setPoison ht u p) us s h

@[simp] theorem canonical_setTile (s : State) (t : Nat) (x : TileX) : (s.setTile t x).canonical = s.canonical := (rfl)
@[simp] theorem canonical_send (s : State) (m : OutMsg) : (s.send m).canonical = s.canonical := (rfl)
@[simp] theorem canonical_usedFree (s : State) (n : Nat) : (s.usedFree n).canonical = s.canonical := (rfl)
@[simp] theorem canonical_setLine (s : State) (g : Nat) (l : CLine) : (s.setLine g l).canonical = s.canonical := (rfl)
@[simp] theorem canonical_dcUpd (s : State) (d : Nat) (g : DcLive → DcLive) : (s.dcUpd d g).canonical = s.canonical := (rfl)

theorem canonical_dcAbandon (s : State) (t : Nat) : (s.dcAbandon t).canonical = s.canonical := by
  unfold State.dcAbandon; split <;> simp

-- The promptbook and the causes.
theorem canonical_pbHand {s : State} (h : s.canonical = true) (l : List PbIn) : (s.pbHand l).canonical = true := by
  unfold State.pbHand
  split
  · split
    · rw [canonical_with_pb]; exact h
    · rw [canonical_with_pb]; exact canonical_countFld h _ _
  · exact h

theorem canonical_pbEntry {s : State} (h : s.canonical = true) (k src c d : Nat) : (s.pbEntry k src c d).canonical = true := canonical_pbHand h _

theorem canonical_memEntry {s : State} (h : s.canonical = true) (m c a : Nat) : (s.memEntry m c a).canonical = true := by
  unfold State.memEntry; split
  · exact h
  · exact (canonical_congr (s := s.pbEntry _ _ _ _) rfl rfl rfl).trans (canonical_pbEntry h _ _ _ _)

theorem canonical_memEvent {s : State} (h : s.canonical = true) (m c a : Nat) : (s.memEvent m c a).canonical = true := by
  unfold State.memEvent; split
  · exact h
  · exact (canonical_congr (s := s.pbEntry _ _ _ _) rfl rfl rfl).trans (canonical_pbEntry h _ _ _ _)

theorem canonical_tileCause {s : State} (h : s.canonical = true) (t x d c a : Nat) : (s.tileCause t x d c a).canonical = true := by
  unfold State.tileCause
  dsimp only
  refine (canonical_congr (s := State.memEntry _ _ _ _) rfl rfl rfl).trans (canonical_memEntry (canonical_countFld ?_ _ _) _ _ _)
  split
  · exact h
  · exact canonical_setFld (canonical_raiseFld (canonical_setFld (canonical_setFld (canonical_setFld h _ _) _ _) _ _) _) _ _

theorem canonical_haltRecord {s : State} (h : s.canonical = true) (t r : Nat) (w : Word) (d : Nat) (e : Bool) :
    (s.haltRecord t r w d e).canonical = true := by
  unfold State.haltRecord
  dsimp only
  split
  · exact canonical_setReg (canonical_setReg (canonical_setReg (canonical_setFld h _ _) _ _) _ _) _ _
  · exact canonical_setFld h _ _

theorem canonical_untrap {s : State} (h : s.canonical = true) (t : Nat) : (s.untrap t).canonical = true :=
  canonical_foldl _ (fun _ _ hu => canonical_setReg hu _ _) _ _ h

theorem canonical_rehalt {s : State} (h : s.canonical = true) (t r : Nat) (w : Word) (d c : Nat) (n : HaltNote) :
    (s.rehalt t r w d c n).canonical = true := by
  unfold State.rehalt
  dsimp only
  rw [canonical_with_pb]
  exact canonical_haltRecord (by rw [canonical_with_now]; exact h) _ _ _ _ _

theorem canonical_haltTile {s : State} (h : s.canonical = true) (t r b p sl rs e d : Nat) : (s.haltTile t r b p sl rs e d).canonical = true := by
  unfold State.haltTile
  dsimp only
  split
  · split
    · exact canonical_rehalt h _ _ _ _ _ _
    · exact h
  · refine canonical_pbHand ?_ _
    rw [canonical_setTile, canonical_dcAbandon]
    exact canonical_haltRecord (canonical_setFld (by rw [canonical_with_now]; exact canonical_untrap h _) _ _) _ _ _ _ _

-- The cache and the stacks.
theorem canonical_storeLine {s : State} (h : s.canonical = true) (g : Nat) (l : CLine) : (s.storeLine g l).canonical = true :=
  canonical_foldl _ (fun _ _ ht => canonical_setPoison ht _ _) _ _ (canonical_setBytes _ _ h)

theorem canonical_writeBack {s : State} (h : s.canonical = true) (g : Nat) : (s.writeBack g).canonical = true := by
  unfold State.writeBack
  dsimp only
  split
  · refine canonical_addFld (s := (s.storeLine g _).setLine g _) ?_ _ _
    rw [canonical_setLine]
    exact canonical_storeLine h _ _
  · exact h

theorem canonical_flushLine {s : State} (h : s.canonical = true) (g : Nat) : (s.flushLine g).canonical = true := by
  rw [State.flushLine, canonical_setLine]; exact canonical_writeBack h g

theorem canonical_flushRange {s : State} (h : s.canonical = true) (a n : Nat) : (s.flushRange a n).canonical = true :=
  canonical_foldl _ (fun _ g ht => canonical_flushLine ht g) _ _ h

theorem canonical_allocLine {s : State} (h : s.canonical = true) (g : Nat) (k : Bool) : (s.allocLine g k).canonical = true := by
  unfold State.allocLine
  dsimp only
  rw [canonical_with_cacheClock, canonical_setLine]
  split
  · exact h
  · split
    · exact canonical_flushLine h _
    · exact h

theorem canonical_setTrapPoison {s : State} (h : s.canonical = true) (u : Nat) (p : Bool) : (s.setTrapPoison u p).canonical = true := by
  unfold State.setTrapPoison
  dsimp only
  split
  · exact h
  · exact canonical_setPoison h u p

theorem canonical_cacheOnRead {s : State} (h : s.canonical = true) (a n hint : Nat) (nw : Bool) : (s.cacheOnRead a n hint nw).canonical = true := by
  have hh : ∀ (f : Fld), (s.addFld f 1).canonical = true := fun f => canonical_addFld h f 1
  unfold State.cacheOnRead
  dsimp only
  split
  · exact h
  · split
    · split
      · exact hh _
      · split
        · rw [canonical_with_cacheClock, canonical_setLine]; exact hh _
        · split
          · rw [canonical_setLine]; exact hh _
          · split
            · refine canonical_addFld (s := State.setLine _ _ _) ?_ _ _
              rw [canonical_setLine]; exact hh _
            · exact hh _
    · split
      · exact hh _
      · exact canonical_allocLine (hh _) _ _

theorem canonical_cacheOnWrite {s : State} (h : s.canonical = true) (a hint : Nat) (nw : Bool) : (s.cacheOnWrite a hint nw).canonical = true := by
  have hh : ∀ (f : Fld), (s.addFld f 1).canonical = true := fun f => canonical_addFld h f 1
  unfold State.cacheOnWrite
  dsimp only
  split
  · split
    · exact hh _
    · split
      · rw [canonical_with_cacheClock, canonical_setLine]; exact hh _
      · split
        · rw [canonical_setLine]; exact hh _
        · exact hh _
  · split
    · split
      · exact hh _
      · exact canonical_allocLine (hh _) _ _
    · exact h

theorem canonical_trapWritePiece {s : State} (h : s.canonical = true) (a : Nat) (d : List Byte) : (s.trapWritePiece a d).canonical = true := by
  unfold State.trapWritePiece
  dsimp only
  split
  · rw [canonical_setLine]; exact h
  · exact canonical_setBytes _ _ h

/-- Bytes written unit by unit, by any write that keeps the form. -/
theorem canonical_writeUnits {s : State} (h : s.canonical = true) (r : Region) (a : Nat) (d : List Byte) (wr : State → Nat → List Byte → State)
    (hw : ∀ t lo p, t.canonical = true → (wr t lo p).canonical = true) : (s.writeUnits r a d wr).1.canonical = true := by
  unfold State.writeUnits
  suffices H : ∀ (l : List Nat) (x : State × Bool), x.1.canonical = true → (l.foldl _ x).1.canonical = true from H _ _ h
  intro l
  induction l with
  | nil => exact fun x hx => hx
  | cons u l ih =>
    intro x hx
    refine ih _ ?_
    dsimp only
    split
    · exact hx
    · split
      · split
        · exact canonical_setTrapPoison (hw _ _ _ hx) _ _
        · exact hw _ _ _ hx
      · split
        · exact canonical_setPoison (hw _ _ _ hx) _ _
        · exact hw _ _ _ hx

@[simp] theorem canonical_win (s : State) (t o a n : Nat) : (s.win t o a n).canonical = s.canonical := (rfl)

theorem canonical_noteWrites {s : State} (h : s.canonical = true) (a : Nat) (l : List Byte) : (s.noteWrites a l).canonical = true := by
  unfold State.noteWrites
  dsimp only
  split
  · exact h
  · rw [canonical_setTile]; exact h

theorem canonical_sramWrite {s : State} (h : s.canonical = true) (a : Nat) (who : Option (Nat × Nat)) (d : List Byte) :
    (s.sramWrite a who d).canonical = true := by
  have hf := canonical_foldl (fun (t : State) (p : Byte × Nat) => if t.isWon (a + p.2) who then t
    else (t.setByte (a + p.2) p.1).noteWrites (a + p.2) [p.1]) (fun t p ht => by
      split
      · exact ht
      · exact canonical_noteWrites (canonical_setByte ht _ _) _ _) d.zipIdx s h
  unfold State.sramWrite
  dsimp only
  split
  · rw [canonical_win]; exact hf
  · exact hf

theorem canonical_bankWrite {s : State} (h : s.canonical = true) (t b a : Nat) (d : List Byte) : (s.bankWrite t b a d).canonical = true := by
  have ho : ∀ (l : List (Byte × Nat)) (u : State), u.canonical = true → (l.foldl (fun (v : State) p =>
      if commitAddr t b ≤ a + p.2 then v else v.setByte (a + p.2) p.1) u).canonical = true := fun l u hu =>
    canonical_foldl _ (fun v p hv => by split; exact hv; exact canonical_setByte hv _ _) l u hu
  unfold State.bankWrite
  dsimp only
  split
  · exact canonical_setBytes _ _ (ho _ _ h)
  · exact canonical_setBytes _ _ (ho _ _ h)

-- Status rings and risk.
theorem canonical_notifyEntry {s : State} (h : s.canonical = true) (n : Nat) (b : List Byte) : (s.notifyEntry n b).canonical = true := by
  unfold State.notifyEntry
  repeat' split
  all_goals exact h

theorem canonical_writeStatus {s : State} (h : s.canonical = true) (n : Nat) (e : StEntry) : (s.writeStatus n e).canonical = true :=
  canonical_notifyEntry (canonical_setNum (canonical_setBytes _ _ h) _ _ _) _ _

theorem canonical_putStatus {s : State} (h : s.canonical = true) (n c : Nat) (e : StEntry) : (s.putStatus n c e).canonical = true := by
  unfold State.putStatus
  repeat' split
  all_goals simp [h, canonical_writeStatus]

theorem canonical_eventStatus {s : State} (h : s.canonical = true) (c : Nat) (d : List Byte) : (s.eventStatus c d).canonical = true := by
  unfold State.eventStatus
  dsimp only
  split
  · exact canonical_putStatus (canonical_putStatus h _ _ _) _ _ _
  · exact canonical_putStatus h _ _ _

theorem canonical_hostEvent {s : State} (h : s.canonical = true) (m c d : Nat) : (s.hostEvent m c d).canonical = true := by
  unfold State.hostEvent
  split
  · exact canonical_pbHand h _
  · exact canonical_eventStatus (canonical_pbEntry h _ _ _ _) _ _

@[simp] theorem canonical_sendC3 (s : State) (l : List Nat) (m : MgmtMsg) : (s.sendC3 l m).canonical = s.canonical := (rfl)

theorem canonical_reportRisk {s : State} (h : s.canonical = true) : s.reportRisk.canonical = true := by
  unfold State.reportRisk
  dsimp only
  repeat' split
  all_goals simp [h]

theorem canonical_jobRisk {s : State} (h : s.canonical = true) : s.jobRisk.canonical = true := by
  unfold State.jobRisk
  dsimp only
  split
  · exact canonical_setFld (canonical_setFld h _ _) _ _
  · exact h

theorem canonical_reRisk {s : State} (h : s.canonical = true) : s.reRisk.canonical = true := by
  unfold State.reRisk
  dsimp only
  refine canonical_jobRisk (canonical_reportRisk ?_)
  have h3 := canonical_setFld (canonical_setFld (canonical_setFld h R.RS_RISK_FLOOR s.riskFloor) R.RS_RISK_ESTIMATE
    (max (s.fld R.RS_RISK_INTERNAL) s.riskFloor)) R.RS_RISK_BAND (riskBand (max (s.fld R.RS_RISK_INTERNAL) s.riskFloor))
  split
  · exact h3
  · exact canonical_hostEvent h3 _ _ _

theorem canonical_health {s : State} (h : s.canonical = true) (n : Nat) : (s.health n).canonical = true := canonical_reRisk (canonical_setFld h _ _)

-- Registers as software and a tile write them.
theorem canonical_regWrite {s : State} (h : s.canonical = true) (a o n v : Nat) : (s.regWrite a o n v).canonical = true := canonical_setReg h _ _

theorem canonical_keepForce {s : State} (h : s.canonical = true) (a : Nat) : (s.keepForce a).canonical = true := by
  unfold State.keepForce
  split
  · exact h
  · rw [canonical_with_now]; exact h

@[simp] theorem canonical_reseedSoon (s : State) (u : Nat) : (s.reseedSoon u).canonical = s.canonical := (rfl)

theorem canonical_seedWrite {s : State} (h : s.canonical = true) (t o n v : Nat) : (s.seedWrite t o n v).canonical = true := by
  rw [State.seedWrite, canonical_reseedSoon]; exact canonical_regWrite (canonical_keepForce h _) _ _ _ _

@[simp] theorem canonical_writerGranted (s : State) (m a : Nat) : (s.writerGranted m a).canonical = s.canonical := (rfl)

theorem canonical_tileRegStore {s : State} (h : s.canonical = true) (t a n v : Nat) : (s.tileRegStore t a n v).canonical = true := by
  have hg : (s.writerGranted (tileMid t) (a / 8 * 8)).canonical = true := by rw [canonical_writerGranted]; exact h
  unfold State.tileRegStore
  dsimp only
  generalize s.writerGranted (tileMid t) (a / 8 * 8) = u at hg ⊢
  split
  · exact hg
  · split
    · exact canonical_seedWrite hg _ _ _ _
    · split
      · exact canonical_regWrite (canonical_keepForce hg _) _ _ _ _
      · exact canonical_regWrite hg _ _ _ _

theorem canonical_clearRc {s : State} (h : s.canonical = true) (f : Fld) : (s.clearRc f).canonical = true := by
  unfold State.clearRc
  dsimp only
  split
  · exact canonical_setFld h _ _
  · rw [canonical_with_now]; exact canonical_setFld h _ _

theorem canonical_regRead {s : State} (h : s.canonical = true) (a o n : Nat) : (s.regRead a o n).2.canonical = true := by
  refine canonical_foldl _ (fun t f ht => ?_) _ _ h
  split
  · split
    · exact canonical_clearRc ht _
    · exact ht
  · exact ht

-- One access of a master.
theorem canonical_watchError {s : State} (h : s.canonical = true) (m st l a : Nat) : (s.watchError m st l a).canonical = true := by
  unfold State.watchError
  dsimp only
  split
  · exact canonical_health (canonical_memEvent (by rw [canonical_with_watch]; exact canonical_countFld h _ _) _ _ _) _
  · rw [canonical_with_watch]; exact canonical_countFld h _ _

theorem canonical_eccCorrected {s : State} (h : s.canonical = true) (m : Nat) (r : Region) (a : Nat) : (s.eccCorrected m r a).canonical = true := by
  have tile : ∀ t, (if s.corrSeen.contains t then s
      else { (s.pbEntry pbCorrected m 0 (s.mySeat * 2 ^ 44 + a)) with corrSeen := t :: s.corrSeen }).canonical = true := by
    intro t
    split
    · exact h
    · rw [canonical_with_corrSeen]; exact canonical_pbEntry h _ _ _ _
  cases r <;> simp only [State.eccCorrected]
  case trap =>
    split
    · exact canonical_countFld h _ _
    · exact canonical_watchError h _ _ _ _
  case wings => exact canonical_countFld h _ _
  case tbank => exact canonical_pbEntry h _ _ _ _
  case tdata t => exact tile t
  case tacc t => exact tile t
  case tshadow t => exact tile t
  case tpmem t => exact tile t
  all_goals exact h

theorem canonical_errLog {s : State} (h : s.canonical = true) (st c u m : Nat) : (s.errLog st c u m).canonical = true := by
  unfold State.errLog
  split
  · exact h
  · exact canonical_setFld (canonical_setFld (canonical_setFld (canonical_setFld (canonical_raiseFld h _) _ _) _ _) _ _) _ _

theorem canonical_stackUncorr {s : State} (h : s.canonical = true) (m st u : Nat) : (s.stackUncorr m st u).canonical = true :=
  canonical_errLog (canonical_countFld (canonical_setPoison h _ _) _ _) _ _ _ _

theorem canonical_eccUncorrectable {s : State} (h : s.canonical = true) (m : Nat) (r : Region) (a : Nat) :
    (s.eccUncorrectable m r a).canonical = true := by
  cases r <;> simp only [State.eccUncorrectable]
  case trap =>
    split
    · exact canonical_countFld (canonical_setTrapPoison h _ _) _ _
    · exact canonical_stackUncorr h _ _ _
  case wings => exact canonical_countFld (canonical_setPoison h _ _) _ _
  case tdata => exact canonical_setPoison h _ _
  case tacc => exact canonical_setPoison h _ _
  case tshadow => exact canonical_setPoison h _ _
  case tpmem => exact canonical_setPoison h _ _
  all_goals exact h

@[simp] theorem canonical_setFlaw (s : State) (u k : Nat) : (s.setFlaw u k).canonical = s.canonical := (rfl)

theorem canonical_plantFlaw (s : State) (x : Option Nat) (k : Nat) : (s.plantFlaw x k).canonical = s.canonical := by
  unfold State.plantFlaw
  split
  · rfl
  · split <;> simp

@[simp] theorem canonical_plant (s : State) (e : EccFinding) : (s.plant e).canonical = s.canonical := by
  rw [State.plant, canonical_plantFlaw, canonical_plantFlaw]

theorem canonical_meetFlaw {s : State} (h : s.canonical = true) (m u : Nat) : (s.meetFlaw m u).2.canonical = true := by
  unfold State.meetFlaw
  dsimp only
  split
  · exact h
  · split
    · rw [canonical_setFlaw]; exact canonical_eccCorrected h _ _ _
    · rw [canonical_setFlaw]
      split
      · exact canonical_memEntry (canonical_eccUncorrectable h _ _ _) _ _ _
      · exact canonical_eccUncorrectable h _ _ _

/-- A fold of reads that each keep the form keeps it. -/
theorem canonical_foldl_met {α : Type} (f : State → α → Bool × State) (hf : ∀ t x, t.canonical = true → (f t x).2.canonical = true) :
    ∀ (l : List α) (b : Bool) (s : State), s.canonical = true →
      (l.foldl (fun (acc : Bool × State) x => let r := f acc.2 x; (acc.1 || r.1, r.2)) (b, s)).2.canonical = true
  | [], _, _, h => h
  | x :: l, b, s, h => canonical_foldl_met f hf l (b || (f s x).1) (f s x).2 (hf s x h)

theorem canonical_meetFlaws {s : State} (h : s.canonical = true) (m a n : Nat) : (s.meetFlaws m a n).2.canonical = true := by
  unfold State.meetFlaws
  split
  · exact h
  · exact canonical_foldl_met (fun t u => t.meetFlaw m u) (fun t u ht => canonical_meetFlaw ht m u) _ _ _ h

theorem canonical_mergeReads {s : State} (h : s.canonical = true) (m : Nat) (us : List Nat) : (s.mergeReads m us).2.canonical = true :=
  canonical_foldl_met (fun t u => t.meetFlaws m u 32) (fun t u ht => canonical_meetFlaws ht m u 32) us false s h

theorem canonical_cleanFlaws {s : State} (h : s.canonical = true) (a n : Nat) : (s.cleanFlaws a n).canonical = true := by
  unfold State.cleanFlaws
  split
  · exact h
  · exact canonical_foldl _ (fun t u ht => by rw [canonical_setFlaw]; exact ht) _ _ h

theorem canonical_dcWindowWrite {s : State} (h : s.canonical = true) (t a n : Nat) : (s.dcWindowWrite t a n).canonical = true := by
  unfold State.dcWindowWrite
  dsimp only
  repeat' split
  all_goals simp only [canonical_dcAbandon, h]

theorem canonical_homeGrant (s : State) (r : Region) (i : HomeIn) : (s.homeGrant r i).canonical = s.canonical := by
  unfold State.homeGrant
  split <;> simp

theorem canonical_performRead {s : State} (h : s.canonical = true) (q : MemReq) (r : Region) : (s.performRead q r).2.canonical = true := by
  have hm := canonical_meetFlaws (s := s.plant q.ecc) (by rw [canonical_plant]; exact h) q.mid q.addr q.len
  unfold State.performRead
  dsimp only
  split
  · refine canonical_foldl _ (fun t p ht => canonical_cacheOnRead ht _ _ _ _) _ _ ?_
    dsimp only
    generalize ((s.plant q.ecc).meetFlaws q.mid q.addr q.len).2 = u at hm ⊢
    repeat' split
    all_goals first
      | exact hm
      | exact canonical_countFld hm _ _
  · exact hm

theorem canonical_performWrite {s : State} (h : s.canonical = true) (q : MemReq) (r : Region) (d : List Byte) :
    (s.performWrite q r d).2.canonical = true := by
  have hp : (s.plant q.ecc).canonical = true := by rw [canonical_plant]; exact h
  unfold State.performWrite
  generalize s.plant q.ecc = u at hp ⊢
  dsimp only
  split
  · refine canonical_writeUnits (canonical_foldl _ (fun t p ht => canonical_cacheOnWrite ht _ _ _) _ _ ?_) _ _ _ _
      (fun t lo p ht => canonical_trapWritePiece ht _ _)
    generalize hv : (State.mergeReads u q.mid _).2 = v
    have hc := canonical_cleanFlaws (hv ▸ canonical_mergeReads hp q.mid _ : v.canonical = true) q.addr d.length
    split
    · exact canonical_countFld hc _ _
    · exact hc
  · exact canonical_bankWrite (canonical_cleanFlaws hp _ _) _ _ _ _
  · exact canonical_writeUnits (canonical_cleanFlaws hp _ _) _ _ _ _ (fun t lo p ht => canonical_setBytes _ _ ht)
  · exact canonical_setBytes _ _ hp
  · refine canonical_writeUnits (canonical_cleanFlaws ?_ _ _) _ _ _ _ (fun t lo p ht => canonical_sramWrite ht _ _ _)
    split
    · exact canonical_dcWindowWrite hp _ _ _
    · exact hp

theorem canonical_perform {s : State} (h : s.canonical = true) (q : MemReq) (r : Region) : (s.perform q r).2.canonical = true := by
  have hg : (if (masterOf q.mid).isEngine then s else s.homeGrant r q.input).canonical = true := by
    split
    · exact h
    · rw [canonical_homeGrant]; exact h
  unfold State.perform
  dsimp only
  split
  · exact canonical_performRead hg _ _
  · exact canonical_performWrite hg _ _ _

theorem canonical_ownRegs {s : State} (h : s.canonical = true) (q : MemReq) (t : Nat) : (s.ownRegs q t).2.canonical = true := by
  unfold State.ownRegs
  split
  · exact canonical_memEntry h _ _ _
  suffices H : ∀ (l : List Nat) (x : MemEnd × State), x.2.canonical = true → (l.foldl _ x).2.canonical = true from H _ _ h
  intro l
  induction l with
  | nil => exact fun x hx => hx
  | cons u l ih =>
    intro x hx
    refine ih _ ?_
    dsimp only
    repeat' split
    all_goals first
      | exact hx
      | exact canonical_memEntry hx _ _ _
      | exact canonical_regRead hx _ _ _
      | exact canonical_tileRegStore hx _ _ _ _

theorem canonical_atHome {s : State} (h : s.canonical = true) (q : MemReq) (r : Region) : (s.atHome q r).2.canonical = true := by
  unfold State.atHome
  dsimp only
  repeat' split
  all_goals first
    | exact canonical_perform h _ _
    | exact canonical_memEntry (canonical_errLog h _ _ _ _) _ _ _
    | exact canonical_memEntry h _ _ _
    | exact canonical_pbEntry h _ _ _ _

theorem canonical_memAccess {s : State} (h : s.canonical = true) (q : MemReq) : (s.memAccess q).2.canonical = true := by
  unfold State.memAccess
  dsimp only
  repeat' split
  all_goals first | exact canonical_memEntry h _ _ _ | exact canonical_atHome h _ _ | exact canonical_ownRegs h _ _

/-- Every access of every master to every memory keeps the form. -/
theorem canonical_access {s : State} (h : s.canonical = true) (q : MemReq) : (s.access q).2.canonical = true := by
  unfold State.access
  dsimp only
  split
  · exact canonical_memEntry (canonical_memAccess h q) _ _ _
  · exact canonical_memAccess h q

end Sys2Proof.Machine
end

