-- ==== Sys2Proof/Laws/Digest.lean ====
section
/-!
SUPPORT. Laws/Digest.lean: lengths of byte strings: of little- and big-endian bytes, of a digest, of a checkpoint image.
-/
namespace Sys2Proof.Machine

@[simp] theorem leBytes_length (v n : Nat) : (leBytes v n).length = n := by
  induction n generalizing v with
  | zero => rfl
  | succ n ih => simp [leBytes, ih]

@[simp] theorem beBytes_length (v n : Nat) : (beBytes v n).length = n := by simp [beBytes]

@[simp] theorem sha512_length (l : List Byte) : (sha512 l).length = 64 := by
  simp only [sha512, List.length_flatMap, beBytes_length, List.map_const', List.length_append, List.length_map, List.length_range,
    List.sum_replicate]
  rfl

/-- A job record has 2080 bytes whatever it holds (R463). -/
@[simp] theorem recordBytes_length (job n scene plan seed : Nat) (party : List Nat) (bind : List Word) :
    (recordBytes job n scene plan seed party bind).length = recordSize := by
  have h : ∀ (n k : Nat) (f : Nat → List Byte), (∀ i, (f i).length = k) → ((List.range n).flatMap f).length = n * k := by
    intro n k f hf
    simp [List.length_flatMap, hf]
  simp only [recordBytes, List.length_append, leBytes_length, h 3 2 _ (fun i => leBytes_length _ _), h 256 8 _ (fun i => leBytes_length _ _),
    recordSize]

/-- An image without shards and scene images is its header, a gap to 64 KiB and the job record. -/
theorem toBytes_length_empty (f : FlashImage) (h1 : f.shards = []) (h2 : f.images = []) : f.toBytes.length = 65536 + recordSize := by
  have hd : f.dataAt = 65536 := by rw [FlashImage.dataAt, h1]; rfl
  simp only [FlashImage.toBytes, FlashImage.record, hd, h1, h2, List.length_append, List.length_replicate, leBytes_length, sha512_length,
    List.foldl_nil, List.flatMap_nil, List.flatten_nil, List.length_nil, recordBytes_length]
  rfl

end Sys2Proof.Machine
end

