-- ==== Sys2Proof/Laws/Dispatch.lean ====
section
/-!
SUPPORT. Laws/Dispatch.lean: exec of each command is its meaning. A proof about one command starts with the lemma of its constructor
and never unfolds exec.
-/
namespace Sys2Proof.Machine

theorem exec_registerWrite (a : BitVec 44) (ws : List (BitVec 12 × Fin 8 × List Byte)) (s : State) : exec (.registerWrite a ws) s = execRegisterWrite a ws s := (rfl)
theorem exec_rcRead (mid : BitVec 12) (a : BitVec 44) (len : Fin 9) (s : State) : exec (.rcRead mid a len) s = execRcRead mid a len s := (rfl)
theorem exec_memoryAccess (mid : BitVec 12) (a : BitVec 44) (len : BitVec 16) (data : Option (List Byte)) (hint : Fin 4) (narrow : Bool) (turn : MemTurn) (s : State) : exec (.memoryAccess mid a len data hint narrow turn) s = execMemoryAccess mid a len data hint narrow turn s := (rfl)
theorem exec_riggingFlit (t : Tile) (ins : List (RigPort × RigFlit)) (o : RigTurn) (s : State) : exec (.riggingFlit t ins o) s = execRiggingFlit t ins o s := (rfl)
theorem exec_cueIncrement (s : State) : exec .cueIncrement s = execCueIncrement s := (rfl)
theorem exec_cue (p : Fin 16) (count : Word) (master : BitVec 15) (delay : BitVec 32) (retried : Bool) (hop : BitVec 32) (s : State) : exec (.cue p count master delay retried hop) s = execCue p count master delay retried hop s := (rfl)
theorem exec_holdover (s : State) : exec .holdover s = execHoldover s := (rfl)
theorem exec_cutOff (s : State) : exec .cutOff s = execCutOff s := (rfl)
theorem exec_backupMasterTakeover (s : State) : exec .backupMasterTakeover s = execBackupMasterTakeover s := (rfl)
theorem exec_alarmArm (n : Fin 32) (v : Word) (s : State) : exec (.alarmArm n v) s = execAlarmArm n v s := (rfl)
theorem exec_alarmFire (n : Fin 32) (s : State) : exec (.alarmFire n) s = execAlarmFire n s := (rfl)
theorem exec_stepComplete (s : State) : exec .stepComplete s = execStepComplete s := (rfl)
theorem exec_stepCompleteAccepted (sender : BitVec 15) (step : BitVec 32) (discard : Bool) (s : State) : exec (.stepCompleteAccepted sender step discard) s = execStepCompleteAccepted sender step discard s := (rfl)
theorem exec_announce (p : Fin 16) (k : Word) (step : BitVec 32) (s : State) : exec (.announce p k step) s = execAnnounce p k step s := (rfl)
theorem exec_curtainDrainStart (s : State) : exec .curtainDrainStart s = execCurtainDrainStart s := (rfl)
theorem exec_classDrained (s : State) : exec .classDrained s = execClassDrained s := (rfl)
theorem exec_drained (sender : BitVec 15) (k : Word) (discard : Bool) (s : State) : exec (.drained sender k discard) s = execDrained sender k discard s := (rfl)
theorem exec_verdictSet (s : State) : exec .verdictSet s = execVerdictSet s := (rfl)
theorem exec_verdict (p : Fin 16) (k : Word) (publish : Bool) (s : State) : exec (.verdict p k publish) s = execVerdict p k publish s := (rfl)
theorem exec_curtainCutOff (s : State) : exec .curtainCutOff s = execCurtainCutOff s := (rfl)
theorem exec_publish (peer : List (List (BitVec 16))) (asked : Fin 16) (flash : Bool) (s : State) : exec (.publish peer asked flash) s = execPublish peer asked flash s := (rfl)
theorem exec_discard (peer : List (List (BitVec 16))) (s : State) : exec (.discard peer) s = execDiscard peer s := (rfl)
theorem exec_stepStart (s : State) : exec .stepStart s = execStepStart s := (rfl)
theorem exec_sceneStart (s : State) : exec .sceneStart s = execSceneStart s := (rfl)
theorem exec_sceneChangeStart (heard : Option (Word × BitVec 16)) (s : State) : exec (.sceneChangeStart heard) s = execSceneChangeStart heard s := (rfl)
theorem exec_stopWave (w : Fin 4) (s : State) : exec (.stopWave w) s = execStopWave w s := (rfl)
theorem exec_sceneSave (quiet : Bool) (s : State) : exec (.sceneSave quiet) s = execSceneSave quiet s := (rfl)
theorem exec_sceneSwapIn (s : State) : exec .sceneSwapIn s = execSceneSwapIn s := (rfl)
theorem exec_startWave (w : Fin 4) (s : State) : exec (.startWave w) s = execStartWave w s := (rfl)
theorem exec_restoreStart (heard : Option Word) (peer : List (List (BitVec 16))) (s : State) : exec (.restoreStart heard peer) s = execRestoreStart heard peer s := (rfl)
theorem exec_matrixNop (t : Tile) (s : State) : exec (.matrixNop t) s = execMatrixNop t s := (rfl)
theorem exec_mm (t : Tile) (f : MMSlot) (s : State) : exec (.mm t f) s = execMm t f s := (rfl)
theorem exec_shd (t : Tile) (f : ShdSlot) (s : State) : exec (.shd t f) s = execShd t f s := (rfl)
theorem exec_drain (t : Tile) (f : DrainSlot) (s : State) : exec (.drain t f) s = execDrain t f s := (rfl)
theorem exec_bundleFetch (r : Fetcher) (ecc : EccFinding) (s : State) : exec (.bundleFetch r ecc) s = execBundleFetch r ecc s := (rfl)
theorem exec_dnop (t : Tile) (s : State) : exec (.dnop t) s = execDnop t s := (rfl)
theorem exec_copy (t : Tile) (f : DSlot) (s : State) : exec (.copy t f) s = execCopy t f s := (rfl)
theorem exec_convert (t : Tile) (f : DSlot) (s : State) : exec (.convert t f) s = execConvert t f s := (rfl)
theorem exec_rwrite (t : Tile) (f : DSlot) (s : State) : exec (.rwrite t f) s = execRwrite t f s := (rfl)
theorem exec_gather (t : Tile) (f : DSlot) (s : State) : exec (.gather t f) s = execGather t f s := (rfl)
theorem exec_regather (t : Tile) (f : DSlot) (s : State) : exec (.regather t f) s = execRegather t f s := (rfl)
theorem exec_fill (t : Tile) (f : DSlot) (s : State) : exec (.fill t f) s = execFill t f s := (rfl)
theorem exec_transferComplete (t : Tile) (k : Fin 16) (ecc : EccFinding) (s : State) : exec (.transferComplete t k ecc) s = execTransferComplete t k ecc s := (rfl)
theorem exec_snop (t : Tile) (s : State) : exec (.snop t) s = execSnop t s := (rfl)
theorem exec_wait (t : Tile) (wc : Fin 16) (thr : BitVec 8) (s : State) : exec (.wait t wc thr) s = execWait t wc thr s := (rfl)
theorem exec_fenceL (t : Tile) (s : State) : exec (.fenceL t) s = execFenceL t s := (rfl)
theorem exec_fenceD (t : Tile) (s : State) : exec (.fenceD t) s = execFenceD t s := (rfl)
theorem exec_fenceF (t : Tile) (set : Fin 16) (s : State) : exec (.fenceF t set) s = execFenceF t set s := (rfl)
theorem exec_fenceComplete (t : Tile) (s : State) : exec (.fenceComplete t) s = execFenceComplete t s := (rfl)
theorem exec_notice (t : Tile) (ch : BitVec 8) (x : XReg) (s : State) : exec (.notice t ch x) s = execNotice t ch x s := (rfl)
theorem exec_take (t : Tile) (ch : BitVec 8) (x : XReg) (s : State) : exec (.take t ch x) s = execTake t ch x s := (rfl)
theorem exec_swapBank (t : Tile) (s : State) : exec (.swapBank t) s = execSwapBank t s := (rfl)
theorem exec_endOp (t : Tile) (s : State) : exec (.endOp t) s = execEndOp t s := (rfl)
theorem exec_tileEnded (t : Tile) (s : State) : exec (.tileEnded t) s = execTileEnded t s := (rfl)
theorem exec_prompterNop (r : Runner) (s : State) : exec (.prompterNop r) s = execPrompterNop r s := (rfl)
theorem exec_iadd (r : Runner) (rd : XReg) (rs1 : XReg) (rs2 : XReg) (s : State) : exec (.iadd r rd rs1 rs2) s = execIadd r rd rs1 rs2 s := (rfl)
theorem exec_isub (r : Runner) (rd : XReg) (rs1 : XReg) (rs2 : XReg) (s : State) : exec (.isub r rd rs1 rs2) s = execIsub r rd rs1 rs2 s := (rfl)
theorem exec_iand (r : Runner) (rd : XReg) (rs1 : XReg) (rs2 : XReg) (s : State) : exec (.iand r rd rs1 rs2) s = execIand r rd rs1 rs2 s := (rfl)
theorem exec_ior (r : Runner) (rd : XReg) (rs1 : XReg) (rs2 : XReg) (s : State) : exec (.ior r rd rs1 rs2) s = execIor r rd rs1 rs2 s := (rfl)
theorem exec_ixor (r : Runner) (rd : XReg) (rs1 : XReg) (rs2 : XReg) (s : State) : exec (.ixor r rd rs1 rs2) s = execIxor r rd rs1 rs2 s := (rfl)
theorem exec_ishl (r : Runner) (rd : XReg) (rs1 : XReg) (rs2 : XReg) (s : State) : exec (.ishl r rd rs1 rs2) s = execIshl r rd rs1 rs2 s := (rfl)
theorem exec_ishr (r : Runner) (rd : XReg) (rs1 : XReg) (rs2 : XReg) (s : State) : exec (.ishr r rd rs1 rs2) s = execIshr r rd rs1 rs2 s := (rfl)
theorem exec_isar (r : Runner) (rd : XReg) (rs1 : XReg) (rs2 : XReg) (s : State) : exec (.isar r rd rs1 rs2) s = execIsar r rd rs1 rs2 s := (rfl)
theorem exec_ilt (r : Runner) (rd : XReg) (rs1 : XReg) (rs2 : XReg) (s : State) : exec (.ilt r rd rs1 rs2) s = execIlt r rd rs1 rs2 s := (rfl)
theorem exec_iltu (r : Runner) (rd : XReg) (rs1 : XReg) (rs2 : XReg) (s : State) : exec (.iltu r rd rs1 rs2) s = execIltu r rd rs1 rs2 s := (rfl)
theorem exec_imin (r : Runner) (rd : XReg) (rs1 : XReg) (rs2 : XReg) (s : State) : exec (.imin r rd rs1 rs2) s = execImin r rd rs1 rs2 s := (rfl)
theorem exec_imax (r : Runner) (rd : XReg) (rs1 : XReg) (rs2 : XReg) (s : State) : exec (.imax r rd rs1 rs2) s = execImax r rd rs1 rs2 s := (rfl)
theorem exec_iminu (r : Runner) (rd : XReg) (rs1 : XReg) (rs2 : XReg) (s : State) : exec (.iminu r rd rs1 rs2) s = execIminu r rd rs1 rs2 s := (rfl)
theorem exec_imaxu (r : Runner) (rd : XReg) (rs1 : XReg) (rs2 : XReg) (s : State) : exec (.imaxu r rd rs1 rs2) s = execImaxu r rd rs1 rs2 s := (rfl)
theorem exec_iaddk (r : Runner) (rd : XReg) (rs1 : XReg) (imm : BitVec 16) (s : State) : exec (.iaddk r rd rs1 imm) s = execIaddk r rd rs1 imm s := (rfl)
theorem exec_iandk (r : Runner) (rd : XReg) (rs1 : XReg) (imm : BitVec 16) (s : State) : exec (.iandk r rd rs1 imm) s = execIandk r rd rs1 imm s := (rfl)
theorem exec_iork (r : Runner) (rd : XReg) (rs1 : XReg) (imm : BitVec 16) (s : State) : exec (.iork r rd rs1 imm) s = execIork r rd rs1 imm s := (rfl)
theorem exec_ixork (r : Runner) (rd : XReg) (rs1 : XReg) (imm : BitVec 16) (s : State) : exec (.ixork r rd rs1 imm) s = execIxork r rd rs1 imm s := (rfl)
theorem exec_iltk (r : Runner) (rd : XReg) (rs1 : XReg) (imm : BitVec 16) (s : State) : exec (.iltk r rd rs1 imm) s = execIltk r rd rs1 imm s := (rfl)
theorem exec_iltuk (r : Runner) (rd : XReg) (rs1 : XReg) (imm : BitVec 16) (s : State) : exec (.iltuk r rd rs1 imm) s = execIltuk r rd rs1 imm s := (rfl)
theorem exec_ishlk (r : Runner) (rd : XReg) (rs1 : XReg) (sh : Fin 64) (s : State) : exec (.ishlk r rd rs1 sh) s = execIshlk r rd rs1 sh s := (rfl)
theorem exec_ishrk (r : Runner) (rd : XReg) (rs1 : XReg) (sh : Fin 64) (s : State) : exec (.ishrk r rd rs1 sh) s = execIshrk r rd rs1 sh s := (rfl)
theorem exec_isark (r : Runner) (rd : XReg) (rs1 : XReg) (sh : Fin 64) (s : State) : exec (.isark r rd rs1 sh) s = execIsark r rd rs1 sh s := (rfl)
theorem exec_iputh (r : Runner) (rd : XReg) (h : Fin 4) (imm : BitVec 16) (s : State) : exec (.iputh r rd h imm) s = execIputh r rd h imm s := (rfl)
theorem exec_imul (r : Runner) (rd : XReg) (rs1 : XReg) (rs2 : XReg) (s : State) : exec (.imul r rd rs1 rs2) s = execImul r rd rs1 rs2 s := (rfl)
theorem exec_imulh (r : Runner) (rd : XReg) (rs1 : XReg) (rs2 : XReg) (s : State) : exec (.imulh r rd rs1 rs2) s = execImulh r rd rs1 rs2 s := (rfl)
theorem exec_imulhu (r : Runner) (rd : XReg) (rs1 : XReg) (rs2 : XReg) (s : State) : exec (.imulhu r rd rs1 rs2) s = execImulhu r rd rs1 rs2 s := (rfl)
theorem exec_idiv (r : Runner) (rd : XReg) (rs1 : XReg) (rs2 : XReg) (s : State) : exec (.idiv r rd rs1 rs2) s = execIdiv r rd rs1 rs2 s := (rfl)
theorem exec_idivu (r : Runner) (rd : XReg) (rs1 : XReg) (rs2 : XReg) (s : State) : exec (.idivu r rd rs1 rs2) s = execIdivu r rd rs1 rs2 s := (rfl)
theorem exec_irem (r : Runner) (rd : XReg) (rs1 : XReg) (rs2 : XReg) (s : State) : exec (.irem r rd rs1 rs2) s = execIrem r rd rs1 rs2 s := (rfl)
theorem exec_iremu (r : Runner) (rd : XReg) (rs1 : XReg) (rs2 : XReg) (s : State) : exec (.iremu r rd rs1 rs2) s = execIremu r rd rs1 rs2 s := (rfl)
theorem exec_ldb (r : Runner) (rd : XReg) (rs1 : XReg) (imm : BitVec 16) (s : State) : exec (.ldb r rd rs1 imm) s = execLdb r rd rs1 imm s := (rfl)
theorem exec_ldh (r : Runner) (rd : XReg) (rs1 : XReg) (imm : BitVec 16) (s : State) : exec (.ldh r rd rs1 imm) s = execLdh r rd rs1 imm s := (rfl)
theorem exec_ldw (r : Runner) (rd : XReg) (rs1 : XReg) (imm : BitVec 16) (s : State) : exec (.ldw r rd rs1 imm) s = execLdw r rd rs1 imm s := (rfl)
theorem exec_ldd (r : Runner) (rd : XReg) (rs1 : XReg) (imm : BitVec 16) (s : State) : exec (.ldd r rd rs1 imm) s = execLdd r rd rs1 imm s := (rfl)
theorem exec_ldbu (r : Runner) (rd : XReg) (rs1 : XReg) (imm : BitVec 16) (s : State) : exec (.ldbu r rd rs1 imm) s = execLdbu r rd rs1 imm s := (rfl)
theorem exec_ldhu (r : Runner) (rd : XReg) (rs1 : XReg) (imm : BitVec 16) (s : State) : exec (.ldhu r rd rs1 imm) s = execLdhu r rd rs1 imm s := (rfl)
theorem exec_ldwu (r : Runner) (rd : XReg) (rs1 : XReg) (imm : BitVec 16) (s : State) : exec (.ldwu r rd rs1 imm) s = execLdwu r rd rs1 imm s := (rfl)
theorem exec_fldw (r : Runner) (fd : FReg) (rs1 : XReg) (imm : BitVec 16) (s : State) : exec (.fldw r fd rs1 imm) s = execFldw r fd rs1 imm s := (rfl)
theorem exec_fldd (r : Runner) (fd : FReg) (rs1 : XReg) (imm : BitVec 16) (s : State) : exec (.fldd r fd rs1 imm) s = execFldd r fd rs1 imm s := (rfl)
theorem exec_stb (r : Runner) (rs2 : XReg) (rs1 : XReg) (imm : BitVec 16) (s : State) : exec (.stb r rs2 rs1 imm) s = execStb r rs2 rs1 imm s := (rfl)
theorem exec_sth (r : Runner) (rs2 : XReg) (rs1 : XReg) (imm : BitVec 16) (s : State) : exec (.sth r rs2 rs1 imm) s = execSth r rs2 rs1 imm s := (rfl)
theorem exec_stw (r : Runner) (rs2 : XReg) (rs1 : XReg) (imm : BitVec 16) (s : State) : exec (.stw r rs2 rs1 imm) s = execStw r rs2 rs1 imm s := (rfl)
theorem exec_std (r : Runner) (rs2 : XReg) (rs1 : XReg) (imm : BitVec 16) (s : State) : exec (.std r rs2 rs1 imm) s = execStd r rs2 rs1 imm s := (rfl)
theorem exec_fstw (r : Runner) (fs2 : FReg) (rs1 : XReg) (imm : BitVec 16) (s : State) : exec (.fstw r fs2 rs1 imm) s = execFstw r fs2 rs1 imm s := (rfl)
theorem exec_fstd (r : Runner) (fs2 : FReg) (rs1 : XReg) (imm : BitVec 16) (s : State) : exec (.fstd r fs2 rs1 imm) s = execFstd r fs2 rs1 imm s := (rfl)
theorem exec_globalAccessComplete (t : Tile) (k : Fin 32) (ecc : EccFinding) (s : State) : exec (.globalAccessComplete t k ecc) s = execGlobalAccessComplete t k ecc s := (rfl)
theorem exec_cbeq (r : Runner) (rs1 : XReg) (rs2 : XReg) (off : BitVec 16) (s : State) : exec (.cbeq r rs1 rs2 off) s = execCbeq r rs1 rs2 off s := (rfl)
theorem exec_cbne (r : Runner) (rs1 : XReg) (rs2 : XReg) (off : BitVec 16) (s : State) : exec (.cbne r rs1 rs2 off) s = execCbne r rs1 rs2 off s := (rfl)
theorem exec_cblt (r : Runner) (rs1 : XReg) (rs2 : XReg) (off : BitVec 16) (s : State) : exec (.cblt r rs1 rs2 off) s = execCblt r rs1 rs2 off s := (rfl)
theorem exec_cbge (r : Runner) (rs1 : XReg) (rs2 : XReg) (off : BitVec 16) (s : State) : exec (.cbge r rs1 rs2 off) s = execCbge r rs1 rs2 off s := (rfl)
theorem exec_cbltu (r : Runner) (rs1 : XReg) (rs2 : XReg) (off : BitVec 16) (s : State) : exec (.cbltu r rs1 rs2 off) s = execCbltu r rs1 rs2 off s := (rfl)
theorem exec_cbgeu (r : Runner) (rs1 : XReg) (rs2 : XReg) (off : BitVec 16) (s : State) : exec (.cbgeu r rs1 rs2 off) s = execCbgeu r rs1 rs2 off s := (rfl)
theorem exec_call (r : Runner) (rd : XReg) (target : BitVec 13) (s : State) : exec (.call r rd target) s = execCall r rd target s := (rfl)
theorem exec_jreg (r : Runner) (rs1 : XReg) (s : State) : exec (.jreg r rs1) s = execJreg r rs1 s := (rfl)
theorem exec_fadd (r : Runner) (dbl : Bool) (fd : FReg) (fs1 : FReg) (fs2 : FReg) (rm : Rm) (s : State) : exec (.fadd r dbl fd fs1 fs2 rm) s = execFadd r dbl fd fs1 fs2 rm s := (rfl)
theorem exec_fsub (r : Runner) (dbl : Bool) (fd : FReg) (fs1 : FReg) (fs2 : FReg) (rm : Rm) (s : State) : exec (.fsub r dbl fd fs1 fs2 rm) s = execFsub r dbl fd fs1 fs2 rm s := (rfl)
theorem exec_fmul (r : Runner) (dbl : Bool) (fd : FReg) (fs1 : FReg) (fs2 : FReg) (rm : Rm) (s : State) : exec (.fmul r dbl fd fs1 fs2 rm) s = execFmul r dbl fd fs1 fs2 rm s := (rfl)
theorem exec_fdiv (r : Runner) (dbl : Bool) (fd : FReg) (fs1 : FReg) (fs2 : FReg) (rm : Rm) (s : State) : exec (.fdiv r dbl fd fs1 fs2 rm) s = execFdiv r dbl fd fs1 fs2 rm s := (rfl)
theorem exec_fsqrt (r : Runner) (dbl : Bool) (fd : FReg) (fs1 : FReg) (rm : Rm) (s : State) : exec (.fsqrt r dbl fd fs1 rm) s = execFsqrt r dbl fd fs1 rm s := (rfl)
theorem exec_fmin (r : Runner) (dbl : Bool) (fd : FReg) (fs1 : FReg) (fs2 : FReg) (rm : Rm) (s : State) : exec (.fmin r dbl fd fs1 fs2 rm) s = execFmin r dbl fd fs1 fs2 rm s := (rfl)
theorem exec_fmax (r : Runner) (dbl : Bool) (fd : FReg) (fs1 : FReg) (fs2 : FReg) (rm : Rm) (s : State) : exec (.fmax r dbl fd fs1 fs2 rm) s = execFmax r dbl fd fs1 fs2 rm s := (rfl)
theorem exec_fabs (r : Runner) (dbl : Bool) (fd : FReg) (fs1 : FReg) (rm : Rm) (s : State) : exec (.fabs r dbl fd fs1 rm) s = execFabs r dbl fd fs1 rm s := (rfl)
theorem exec_fneg (r : Runner) (dbl : Bool) (fd : FReg) (fs1 : FReg) (rm : Rm) (s : State) : exec (.fneg r dbl fd fs1 rm) s = execFneg r dbl fd fs1 rm s := (rfl)
theorem exec_fcpys (r : Runner) (dbl : Bool) (fd : FReg) (fs1 : FReg) (fs2 : FReg) (rm : Rm) (s : State) : exec (.fcpys r dbl fd fs1 fs2 rm) s = execFcpys r dbl fd fs1 fs2 rm s := (rfl)
theorem exec_fmac (r : Runner) (dbl : Bool) (fd : FReg) (fs1 : FReg) (fs2 : FReg) (fs3 : FReg) (rm : Rm) (s : State) : exec (.fmac r dbl fd fs1 fs2 fs3 rm) s = execFmac r dbl fd fs1 fs2 fs3 rm s := (rfl)
theorem exec_fmacn (r : Runner) (dbl : Bool) (fd : FReg) (fs1 : FReg) (fs2 : FReg) (fs3 : FReg) (rm : Rm) (s : State) : exec (.fmacn r dbl fd fs1 fs2 fs3 rm) s = execFmacn r dbl fd fs1 fs2 fs3 rm s := (rfl)
theorem exec_fmacs (r : Runner) (dbl : Bool) (fd : FReg) (fs1 : FReg) (fs2 : FReg) (fs3 : FReg) (rm : Rm) (s : State) : exec (.fmacs r dbl fd fs1 fs2 fs3 rm) s = execFmacs r dbl fd fs1 fs2 fs3 rm s := (rfl)
theorem exec_fmacns (r : Runner) (dbl : Bool) (fd : FReg) (fs1 : FReg) (fs2 : FReg) (fs3 : FReg) (rm : Rm) (s : State) : exec (.fmacns r dbl fd fs1 fs2 fs3 rm) s = execFmacns r dbl fd fs1 fs2 fs3 rm s := (rfl)
theorem exec_cvt (r : Runner) (dt : CTy) (st : CTy) (rd : FReg) (rs1 : FReg) (rm : Rm) (s : State) : exec (.cvt r dt st rd rs1 rm) s = execCvt r dt st rd rs1 rm s := (rfl)
theorem exec_ftox (r : Runner) (dbl : Bool) (rd : XReg) (fs1 : FReg) (s : State) : exec (.ftox r dbl rd fs1) s = execFtox r dbl rd fs1 s := (rfl)
theorem exec_xtof (r : Runner) (dbl : Bool) (fd : FReg) (rs1 : XReg) (s : State) : exec (.xtof r dbl fd rs1) s = execXtof r dbl fd rs1 s := (rfl)
theorem exec_fceq (r : Runner) (dbl : Bool) (rd : XReg) (fs1 : FReg) (fs2 : FReg) (s : State) : exec (.fceq r dbl rd fs1 fs2) s = execFceq r dbl rd fs1 fs2 s := (rfl)
theorem exec_fclt (r : Runner) (dbl : Bool) (rd : XReg) (fs1 : FReg) (fs2 : FReg) (s : State) : exec (.fclt r dbl rd fs1 fs2) s = execFclt r dbl rd fs1 fs2 s := (rfl)
theorem exec_fcle (r : Runner) (dbl : Bool) (rd : XReg) (fs1 : FReg) (fs2 : FReg) (s : State) : exec (.fcle r dbl rd fs1 fs2) s = execFcle r dbl rd fs1 fs2 s := (rfl)
theorem exec_fkind (r : Runner) (dbl : Bool) (rd : XReg) (fs1 : FReg) (s : State) : exec (.fkind r dbl rd fs1) s = execFkind r dbl rd fs1 s := (rfl)
theorem exec_vlset (r : Runner) (rd : XReg) (rs1 : XReg) (ty : VTy) (s : State) : exec (.vlset r rd rs1 ty) s = execVlset r rd rs1 ty s := (rfl)
theorem exec_getcyc (r : Runner) (rd : XReg) (s : State) : exec (.getcyc r rd) s = execGetcyc r rd s := (rfl)
theorem exec_getcue (r : Runner) (rd : XReg) (s : State) : exec (.getcue r rd) s = execGetcue r rd s := (rfl)
theorem exec_holdpt (r : Runner) (s : State) : exec (.holdpt r) s = execHoldpt r s := (rfl)
theorem exec_tret (r : Runner) (s : State) : exec (.tret r) s = execTret r s := (rfl)
theorem exec_tskip (r : Runner) (s : State) : exec (.tskip r) s = execTskip r s := (rfl)
theorem exec_trapEntry (t : Tile) (s : State) : exec (.trapEntry t) s = execTrapEntry t s := (rfl)
theorem exec_vadd (r : Runner) (ty : VTy) (vd : VReg) (vs1 : VReg) (vs2 : VReg) (s : State) : exec (.vadd r ty vd vs1 vs2) s = execVadd r ty vd vs1 vs2 s := (rfl)
theorem exec_vsub (r : Runner) (ty : VTy) (vd : VReg) (vs1 : VReg) (vs2 : VReg) (s : State) : exec (.vsub r ty vd vs1 vs2) s = execVsub r ty vd vs1 vs2 s := (rfl)
theorem exec_vmul (r : Runner) (ty : VTy) (vd : VReg) (vs1 : VReg) (vs2 : VReg) (s : State) : exec (.vmul r ty vd vs1 vs2) s = execVmul r ty vd vs1 vs2 s := (rfl)
theorem exec_vmin (r : Runner) (ty : VTy) (vd : VReg) (vs1 : VReg) (vs2 : VReg) (s : State) : exec (.vmin r ty vd vs1 vs2) s = execVmin r ty vd vs1 vs2 s := (rfl)
theorem exec_vmax (r : Runner) (ty : VTy) (vd : VReg) (vs1 : VReg) (vs2 : VReg) (s : State) : exec (.vmax r ty vd vs1 vs2) s = execVmax r ty vd vs1 vs2 s := (rfl)
theorem exec_vand (r : Runner) (ty : VTy) (vd : VReg) (vs1 : VReg) (vs2 : VReg) (s : State) : exec (.vand r ty vd vs1 vs2) s = execVand r ty vd vs1 vs2 s := (rfl)
theorem exec_vor (r : Runner) (ty : VTy) (vd : VReg) (vs1 : VReg) (vs2 : VReg) (s : State) : exec (.vor r ty vd vs1 vs2) s = execVor r ty vd vs1 vs2 s := (rfl)
theorem exec_vxor (r : Runner) (ty : VTy) (vd : VReg) (vs1 : VReg) (vs2 : VReg) (s : State) : exec (.vxor r ty vd vs1 vs2) s = execVxor r ty vd vs1 vs2 s := (rfl)
theorem exec_vsll (r : Runner) (ty : VTy) (vd : VReg) (vs1 : VReg) (vs2 : VReg) (s : State) : exec (.vsll r ty vd vs1 vs2) s = execVsll r ty vd vs1 vs2 s := (rfl)
theorem exec_vsrl (r : Runner) (ty : VTy) (vd : VReg) (vs1 : VReg) (vs2 : VReg) (s : State) : exec (.vsrl r ty vd vs1 vs2) s = execVsrl r ty vd vs1 vs2 s := (rfl)
theorem exec_vsra (r : Runner) (ty : VTy) (vd : VReg) (vs1 : VReg) (vs2 : VReg) (s : State) : exec (.vsra r ty vd vs1 vs2) s = execVsra r ty vd vs1 vs2 s := (rfl)
theorem exec_vceq (r : Runner) (ty : VTy) (vd : VReg) (vs1 : VReg) (vs2 : VReg) (s : State) : exec (.vceq r ty vd vs1 vs2) s = execVceq r ty vd vs1 vs2 s := (rfl)
theorem exec_vclt (r : Runner) (ty : VTy) (vd : VReg) (vs1 : VReg) (vs2 : VReg) (s : State) : exec (.vclt r ty vd vs1 vs2) s = execVclt r ty vd vs1 vs2 s := (rfl)
theorem exec_vcle (r : Runner) (ty : VTy) (vd : VReg) (vs1 : VReg) (vs2 : VReg) (s : State) : exec (.vcle r ty vd vs1 vs2) s = execVcle r ty vd vs1 vs2 s := (rfl)
theorem exec_vredsum (r : Runner) (ty : VTy) (vd : VReg) (vs1 : VReg) (s : State) : exec (.vredsum r ty vd vs1) s = execVredsum r ty vd vs1 s := (rfl)
theorem exec_vredmax (r : Runner) (ty : VTy) (vd : VReg) (vs1 : VReg) (s : State) : exec (.vredmax r ty vd vs1) s = execVredmax r ty vd vs1 s := (rfl)
theorem exec_vcvt (r : Runner) (vd : VReg) (vs1 : VReg) (st : VTy) (dt : VTy) (s : State) : exec (.vcvt r vd vs1 st dt) s = execVcvt r vd vs1 st dt s := (rfl)
theorem exec_vbcast (r : Runner) (vd : VReg) (rs1 : FReg) (ty : VTy) (s : State) : exec (.vbcast r vd rs1 ty) s = execVbcast r vd rs1 ty s := (rfl)
theorem exec_vext (r : Runner) (rd : FReg) (vs1 : VReg) (rs2 : XReg) (ty : VTy) (s : State) : exec (.vext r rd vs1 rs2 ty) s = execVext r rd vs1 rs2 ty s := (rfl)
theorem exec_vfma (r : Runner) (ty : VTy) (vd : VReg) (vs1 : VReg) (vs2 : VReg) (s : State) : exec (.vfma r ty vd vs1 vs2) s = execVfma r ty vd vs1 vs2 s := (rfl)
theorem exec_vfms (r : Runner) (ty : VTy) (vd : VReg) (vs1 : VReg) (vs2 : VReg) (s : State) : exec (.vfms r ty vd vs1 vs2) s = execVfms r ty vd vs1 vs2 s := (rfl)
theorem exec_vfnma (r : Runner) (ty : VTy) (vd : VReg) (vs1 : VReg) (vs2 : VReg) (s : State) : exec (.vfnma r ty vd vs1 vs2) s = execVfnma r ty vd vs1 vs2 s := (rfl)
theorem exec_vcmul (r : Runner) (conj : Bool) (acc : Bool) (ty : VTy) (vd : VReg) (vs1 : VReg) (vs2 : VReg) (s : State) : exec (.vcmul r conj acc ty vd vs1 vs2) s = execVcmul r conj acc ty vd vs1 vs2 s := (rfl)
theorem exec_vld (r : Runner) (vd : VReg) (rs1 : XReg) (ty : VTy) (s : State) : exec (.vld r vd rs1 ty) s = execVld r vd rs1 ty s := (rfl)
theorem exec_vst (r : Runner) (vd : VReg) (rs1 : XReg) (ty : VTy) (s : State) : exec (.vst r vd rs1 ty) s = execVst r vd rs1 ty s := (rfl)
theorem exec_vgather (r : Runner) (vd : VReg) (rs1 : XReg) (vs2 : VReg) (ty : VTy) (s : State) : exec (.vgather r vd rs1 vs2 ty) s = execVgather r vd rs1 vs2 ty s := (rfl)
theorem exec_vscatter (r : Runner) (vd : VReg) (rs1 : XReg) (vs2 : VReg) (ty : VTy) (s : State) : exec (.vscatter r vd rs1 vs2 ty) s = execVscatter r vd rs1 vs2 ty s := (rfl)
theorem exec_srSeedWrite (t : Tile) (v : Word) (s : State) : exec (.srSeedWrite t v) s = execSrSeedWrite t v s := (rfl)
theorem exec_loadScene (s : State) : exec .loadScene s = execLoadScene s := (rfl)
theorem exec_bankWrite (core : Fin 2) (t : Tile) (bank : Fin 2) (off : Fin 0x20000) (data : List Byte) (s : State) : exec (.bankWrite core t bank off data) s = execBankWrite core t bank off data s := (rfl)
theorem exec_bankCommit (core : Fin 2) (t : Tile) (bank : Fin 2) (w : BitVec 128) (s : State) : exec (.bankCommit core t bank w) s = execBankCommit core t bank w s := (rfl)
theorem exec_bankctlMark (t : Tile) (mark : Bool) (s : State) : exec (.bankctlMark t mark) s = execBankctlMark t mark s := (rfl)
theorem exec_boothHalt (t : Tile) (detail : BitVec 32) (mark : Bool) (s : State) : exec (.boothHalt t detail mark) s = execBoothHalt t detail mark s := (rfl)
theorem exec_tileRevoke (t : Tile) (s : State) : exec (.tileRevoke t) s = execTileRevoke t s := (rfl)
theorem exec_cacheResize (v : Word) (s : State) : exec (.cacheResize v) s = execCacheResize v s := (rfl)
theorem exec_cacheResizeDone (s : State) : exec .cacheResizeDone s = execCacheResizeDone s := (rfl)
theorem exec_reduceWrite (mid : BitVec 12) (addr : BitVec 44) (xor : Bool) (fmt : BitVec 16) (data : List Byte) (psn : List Bool) (ecc : EccFinding) (s : State) : exec (.reduceWrite mid addr xor fmt data psn ecc) s = execReduceWrite mid addr xor fmt data psn ecc s := (rfl)
theorem exec_heldReduceWrite (k : Fin 8) (req : Fin 1024) (s : State) : exec (.heldReduceWrite k req) s = execHeldReduceWrite k req s := (rfl)
theorem exec_scrub (addr : BitVec 44) (ecc : EccFinding) (s : State) : exec (.scrub addr ecc) s = execScrub addr ecc s := (rfl)
theorem exec_stackTempSample (k : Fin 8) (temp : BitVec 8) (s : State) : exec (.stackTempSample k temp) s = execStackTempSample k temp s := (rfl)
theorem exec_retirePage (bad : List (BitVec 44)) (s : State) : exec (.retirePage bad) s = execRetirePage bad s := (rfl)
theorem exec_shardEntryWrite (k : Fin 8) (idx : Fin 1024) (v : Word) (s : State) : exec (.shardEntryWrite k idx v) s = execShardEntryWrite k idx v s := (rfl)
theorem exec_bqPost (k : Fin 8) (s : State) : exec (.bqPost k) s = execBqPost k s := (rfl)
theorem exec_descriptorDispatch (k : Fin 8) (s : State) : exec (.descriptorDispatch k) s = execDescriptorDispatch k s := (rfl)
theorem exec_sgdm (k : Fin 8) (r : Fin 128) (ecc : EccFinding) (s : State) : exec (.sgdm k r ecc) s = execSgdm k r ecc s := (rfl)
theorem exec_adamw (k : Fin 8) (r : Fin 128) (ecc : EccFinding) (s : State) : exec (.adamw k r ecc) s = execAdamw k r ecc s := (rfl)
theorem exec_teConvert (k : Fin 8) (r : Fin 128) (ecc : EccFinding) (s : State) : exec (.teConvert k r ecc) s = execTeConvert k r ecc s := (rfl)
theorem exec_teFill (k : Fin 8) (r : Fin 128) (ecc : EccFinding) (s : State) : exec (.teFill k r ecc) s = execTeFill k r ecc s := (rfl)
theorem exec_axpy (k : Fin 8) (r : Fin 128) (ecc : EccFinding) (s : State) : exec (.axpy k r ecc) s = execAxpy k r ecc s := (rfl)
theorem exec_norm (k : Fin 8) (r : Fin 128) (ecc : EccFinding) (s : State) : exec (.norm k r ecc) s = execNorm k r ecc s := (rfl)
theorem exec_parityDelta (k : Fin 8) (r : Fin 128) (ecc : EccFinding) (s : State) : exec (.parityDelta k r ecc) s = execParityDelta k r ecc s := (rfl)
theorem exec_descriptorComplete (k : Fin 8) (r : Fin 128) (s : State) : exec (.descriptorComplete k r) s = execDescriptorComplete k r s := (rfl)
theorem exec_clipResolve (k : Fin 8) (v : Word) (s : State) : exec (.clipResolve k v) s = execClipResolve k v s := (rfl)
theorem exec_clipDone (k : Fin 8) (s : State) : exec (.clipDone k) s = execClipDone k s := (rfl)
theorem exec_dcSnapshot (s : State) : exec .dcSnapshot s = execDcSnapshot s := (rfl)
theorem exec_dressCheckRecompute (die : Fin 8) (s : State) : exec (.dressCheckRecompute die) s = execDressCheckRecompute die s := (rfl)
theorem exec_dcEvaluate (s : State) : exec .dcEvaluate s = execDcEvaluate s := (rfl)
theorem exec_dcSeedWrite (v : Word) (s : State) : exec (.dcSeedWrite v) s = execDcSeedWrite v s := (rfl)
theorem exec_place (j : JobDesc) (est : BitVec 32) (bubble : BitVec 16) (s : State) : exec (.place j est bubble) s = execPlace j est bubble s := (rfl)
theorem exec_planIdExchange (seat : BitVec 15) (id : Word) (s : State) : exec (.planIdExchange seat id) s = execPlanIdExchange seat id s := (rfl)
theorem exec_reshard (j : JobDesc) (est : BitVec 32) (bubble : BitVec 16) (s : State) : exec (.reshard j est bubble) s = execReshard j est bubble s := (rfl)
theorem exec_permuteComplete (others : Bool) (s : State) : exec (.permuteComplete others) s = execPermuteComplete others s := (rfl)
theorem exec_stageScene (r : RolloutDesc) (s : State) : exec (.stageScene r) s = execStageScene r s := (rfl)
theorem exec_linkTraining (p : Fin 16) (lanes : BitVec 4) (delay : BitVec 32) (peerSeat : BitVec 15) (peerPort : Fin 16) (peerNormal : Bool) (s : State) : exec (.linkTraining p lanes delay peerSeat peerPort peerNormal) s = execLinkTraining p lanes delay peerSeat peerPort peerNormal s := (rfl)
theorem exec_portDisable (p : Fin 16) (s : State) : exec (.portDisable p) s = execPortDisable p s := (rfl)
theorem exec_portEnable (p : Fin 16) (s : State) : exec (.portEnable p) s = execPortEnable p s := (rfl)
theorem exec_retrain (p : Fin 16) (s : State) : exec (.retrain p) s = execRetrain p s := (rfl)
theorem exec_flitReceive (p : Fin 16) (f : WireFlit) (fecCorr : Nat) (fecUncorr : Nat) (hi : Bool) (hop : BitVec 32) (peer : List (List (BitVec 16))) (s : State) : exec (.flitReceive p f fecCorr fecUncorr hi hop peer) s = execFlitReceive p f fecCorr fecUncorr hi hop peer s := (rfl)
theorem exec_retry (p : Fin 16) (seq : BitVec 12) (s : State) : exec (.retry p seq) s = execRetry p seq s := (rfl)
theorem exec_retryTimeout (p : Fin 16) (s : State) : exec (.retryTimeout p) s = execRetryTimeout p s := (rfl)
theorem exec_linkIdleTimeout (p : Fin 16) (s : State) : exec (.linkIdleTimeout p) s = execLinkIdleTimeout p s := (rfl)
theorem exec_tickets (p : Fin 16) (vcs : List (BitVec 16)) (lo : BitVec 8) (hi : BitVec 8) (s : State) : exec (.tickets p vcs lo hi) s = execTickets p vcs lo hi s := (rfl)
theorem exec_ticketReturn (p : Fin 16) (s : State) : exec (.ticketReturn p) s = execTicketReturn p s := (rfl)
theorem exec_packetGrant (p : Fin 16) (s : State) : exec (.packetGrant p) s = execPacketGrant p s := (rfl)
theorem exec_packetRoute (input : Fin 17) (s : State) : exec (.packetRoute input) s = execPacketRoute input s := (rfl)
theorem exec_write (ecc : EccFinding) (s : State) : exec (.write ecc) s = execWrite ecc s := (rfl)
theorem exec_rwriteAdd (ecc : EccFinding) (s : State) : exec (.rwriteAdd ecc) s = execRwriteAdd ecc s := (rfl)
theorem exec_rwriteXor (ecc : EccFinding) (s : State) : exec (.rwriteXor ecc) s = execRwriteXor ecc s := (rfl)
theorem exec_readReq (rdst : BitVec 44) (ecc : EccFinding) (s : State) : exec (.readReq rdst ecc) s = execReadReq rdst ecc s := (rfl)
theorem exec_readResp (s : State) : exec .readResp s = execReadResp s := (rfl)
theorem exec_ack (p : Fin 16) (hi : Bool) (dst : BitVec 15) (recs : List AckRec) (s : State) : exec (.ack p hi dst recs) s = execAck p hi dst recs s := (rfl)
theorem exec_respTimeout (tag : BitVec 15) (s : State) : exec (.respTimeout tag) s = execRespTimeout tag s := (rfl)
theorem exec_seatLost (p : Option (Fin 16)) (seat : BitVec 15) (stamp : BitVec 32) (peer : List (List (BitVec 16))) (s : State) : exec (.seatLost p seat stamp peer) s = execSeatLost p seat stamp peer s := (rfl)
theorem exec_idle (p : Fin 16) (s : State) : exec (.idle p) s = execIdle p s := (rfl)
theorem exec_cePost (q : Fin 2) (s : State) : exec (.cePost q) s = execCePost q s := (rfl)
theorem exec_collectiveStart (h : Fin 2) (s : State) : exec (.collectiveStart h) s = execCollectiveStart h s := (rfl)
theorem exec_allReduce (r : Fin 8) (s : State) : exec (.allReduce r) s = execAllReduce r s := (rfl)
theorem exec_reduceScatter (r : Fin 8) (s : State) : exec (.reduceScatter r) s = execReduceScatter r s := (rfl)
theorem exec_allGather (r : Fin 8) (s : State) : exec (.allGather r) s = execAllGather r s := (rfl)
theorem exec_broadcast (r : Fin 8) (s : State) : exec (.broadcast r) s = execBroadcast r s := (rfl)
theorem exec_permute (r : Fin 8) (s : State) : exec (.permute r) s = execPermute r s := (rfl)
theorem exec_barrier (r : Fin 8) (s : State) : exec (.barrier r) s = execBarrier r s := (rfl)
theorem exec_scalarSum (r : Fin 8) (s : State) : exec (.scalarSum r) s = execScalarSum r s := (rfl)
theorem exec_collData (m : CollPiece) (ecc : EccFinding) (s : State) : exec (.collData m ecc) s = execCollData m ecc s := (rfl)
theorem exec_collCtrl (set : Fin 16) (num : Nat) (s : State) : exec (.collCtrl set num) s = execCollCtrl set num s := (rfl)
theorem exec_collectiveComplete (r : Fin 8) (s : State) : exec (.collectiveComplete r) s = execCollectiveComplete r s := (rfl)
theorem exec_fhLinkUp (p : Fin 4) (mode : Fin 4) (s : State) : exec (.fhLinkUp p mode) s = execFhLinkUp p mode s := (rfl)
theorem exec_fhLinkDown (p : Fin 4) (s : State) : exec (.fhLinkDown p) s = execFhLinkDown p s := (rfl)
theorem exec_arpRequest (p : Fin 4) (m : ArpIn) (s : State) : exec (.arpRequest p m) s = execArpRequest p m s := (rfl)
theorem exec_neighborSolicitation (p : Fin 4) (m : NdIn) (s : State) : exec (.neighborSolicitation p m) s = execNeighborSolicitation p m s := (rfl)
theorem exec_icmpEcho (p : Fin 4) (v6 : Bool) (ip : BitVec 128) (data : List Byte) (s : State) : exec (.icmpEcho p v6 ip data) s = execIcmpEcho p v6 ip data s := (rfl)
theorem exec_frameDrop (f : FrameIn) (s : State) : exec (.frameDrop f) s = execFrameDrop f s := (rfl)
theorem exec_pfcFrame (p : Fin 4) (quanta : List (Option (BitVec 16))) (s : State) : exec (.pfcFrame p quanta) s = execPfcFrame p quanta s := (rfl)
theorem exec_pfcRefresh (p : Fin 4) (drain : Nat) (s : State) : exec (.pfcRefresh p drain) s = execPfcRefresh p drain s := (rfl)
theorem exec_pfcWatchdog (p : Fin 4) (s : State) : exec (.pfcWatchdog p) s = execPfcWatchdog p s := (rfl)
theorem exec_send (k : RocePkt) (s : State) : exec (.send k) s = execSend k s := (rfl)
theorem exec_rdmaWrite (k : RocePkt) (reth : Option Reth) (last : Bool) (data : List Byte) (ecc : EccFinding) (s : State) : exec (.rdmaWrite k reth last data ecc) s = execRdmaWrite k reth last data ecc s := (rfl)
theorem exec_rdmaWriteImm (k : RocePkt) (reth : Option Reth) (data : List Byte) (imm : BitVec 32) (ecc : EccFinding) (s : State) : exec (.rdmaWriteImm k reth data imm ecc) s = execRdmaWriteImm k reth data imm ecc s := (rfl)
theorem exec_rdmaRead (k : RocePkt) (reth : Reth) (ecc : EccFinding) (s : State) : exec (.rdmaRead k reth ecc) s = execRdmaRead k reth ecc s := (rfl)
theorem exec_atomic (k : RocePkt) (s : State) : exec (.atomic k) s = execAtomic k s := (rfl)
theorem exec_rdmaReadResponse (k : RocePkt) (data : List Byte) (last : Bool) (s : State) : exec (.rdmaReadResponse k data last) s = execRdmaReadResponse k data last s := (rfl)
theorem exec_rcAck (k : RocePkt) (syndrome : BitVec 8) (s : State) : exec (.rcAck k syndrome) s = execRcAck k syndrome s := (rfl)
theorem exec_rcTimeout (qpn : BitVec 24) (s : State) : exec (.rcTimeout qpn) s = execRcTimeout qpn s := (rfl)
theorem exec_cnp (k : RocePkt) (s : State) : exec (.cnp k) s = execCnp k s := (rfl)
theorem exec_rateIncrease (qpn : BitVec 24) (s : State) : exec (.rateIncrease qpn) s = execRateIncrease qpn s := (rfl)
theorem exec_req (port : Fin 4) (cm : CmPkt) (peerQpn : BitVec 24) (psn : BitVec 24) (session : BitVec 16) (dbImm : Bool) (mtu : Fin 5) (qpn : Fin 4096) (s : State) : exec (.req port cm peerQpn psn session dbImm mtu qpn) s = execReq port cm peerQpn psn session dbImm mtu qpn s := (rfl)
theorem exec_rep (k : RocePkt) (peerQpn : BitVec 24) (psn : BitVec 24) (mtu : Fin 5) (s : State) : exec (.rep k peerQpn psn mtu) s = execRep k peerQpn psn mtu s := (rfl)
theorem exec_doorbell (n : Fin 8) (v : BitVec 32) (s : State) : exec (.doorbell n v) s = execDoorbell n v s := (rfl)
theorem exec_statusConsumed (n : Fin 8) (v : BitVec 32) (s : State) : exec (.statusConsumed n v) s = execStatusConsumed n v s := (rfl)
theorem exec_ptpSync (p : Fin 4) (h : PtpHead) (seq : BitVec 16) (origin : Option (BitVec 64)) (slew : Int) (s : State) : exec (.ptpSync p h seq origin slew) s = execPtpSync p h seq origin slew s := (rfl)
theorem exec_ptpFollowUp (p : Fin 4) (h : PtpHead) (seq : BitVec 16) (origin : BitVec 64) (slew : Int) (s : State) : exec (.ptpFollowUp p h seq origin slew) s = execPtpFollowUp p h seq origin slew s := (rfl)
theorem exec_ptpDelayReq (p : Fin 4) (s : State) : exec (.ptpDelayReq p) s = execPtpDelayReq p s := (rfl)
theorem exec_ptpDelayResp (p : Fin 4) (h : PtpHead) (seq : BitVec 16) (t4 : BitVec 64) (s : State) : exec (.ptpDelayResp p h seq t4) s = execPtpDelayResp p h seq t4 s := (rfl)
theorem exec_ptpAnnounce (p : Fin 4) (h : PtpHead) (identity : Word) (vector : Nat) (s : State) : exec (.ptpAnnounce p h identity vector) s = execPtpAnnounce p h identity vector s := (rfl)
theorem exec_ptpAnnounceTimeout (p : Fin 4) (s : State) : exec (.ptpAnnounceTimeout p) s = execPtpAnnounceTimeout p s := (rfl)
theorem exec_commandTake (s : State) : exec .commandTake s = execCommandTake s := (rfl)
theorem exec_jCommandStart (s : State) : exec .jCommandStart s = execJCommandStart s := (rfl)
theorem exec_nop (s : State) : exec .nop s = execNop s := (rfl)
theorem exec_regRead (s : State) : exec .regRead s = execRegRead s := (rfl)
theorem exec_regWrite (s : State) : exec .regWrite s = execRegWrite s := (rfl)
theorem exec_readLatency (s : State) : exec .readLatency s = execReadLatency s := (rfl)
theorem exec_readBinding (s : State) : exec .readBinding s = execReadBinding s := (rfl)
theorem exec_readPromptbook (s : State) : exec .readPromptbook s = execReadPromptbook s := (rfl)
theorem exec_readReport (s : State) : exec .readReport s = execReadReport s := (rfl)
theorem exec_sessionOpen (s : State) : exec .sessionOpen s = execSessionOpen s := (rfl)
theorem exec_sessionClose (s : State) : exec .sessionClose s = execSessionClose s := (rfl)
theorem exec_windowAdd (s : State) : exec .windowAdd s = execWindowAdd s := (rfl)
theorem exec_windowRemove (s : State) : exec .windowRemove s = execWindowRemove s := (rfl)
theorem exec_storeOpen (s : State) : exec .storeOpen s = execStoreOpen s := (rfl)
theorem exec_jobOpen (s : State) : exec .jobOpen s = execJobOpen s := (rfl)
theorem exec_jobClose (s : State) : exec .jobClose s = execJobClose s := (rfl)
theorem exec_jobStart (s : State) : exec .jobStart s = execJobStart s := (rfl)
theorem exec_jobStop (s : State) : exec .jobStop s = execJobStop s := (rfl)
theorem exec_sceneChange (s : State) : exec .sceneChange s = execSceneChange s := (rfl)
theorem exec_sceneRestore (s : State) : exec .sceneRestore s = execSceneRestore s := (rfl)
theorem exec_setRiskFloor (s : State) : exec .setRiskFloor s = execSetRiskFloor s := (rfl)
theorem exec_riskFloorExpiry (s : State) : exec .riskFloorExpiry s = execRiskFloorExpiry s := (rfl)
theorem exec_checkpointNow (s : State) : exec .checkpointNow s = execCheckpointNow s := (rfl)
theorem exec_promote (s : State) : exec .promote s = execPromote s := (rfl)
theorem exec_restoreCheckpoint (others : Bool) (checks : Bool) (s : State) : exec (.restoreCheckpoint others checks) s = execRestoreCheckpoint others checks s := (rfl)
theorem exec_linkRetrain (s : State) : exec .linkRetrain s = execLinkRetrain s := (rfl)
theorem exec_warmReset (s : State) : exec .warmReset s = execWarmReset s := (rfl)
theorem exec_warmResetExecute (s : State) : exec .warmResetExecute s = execWarmResetExecute s := (rfl)
theorem exec_cbPost (ch : Fin 256) (posts : List (Poster × Word)) (s : State) : exec (.cbPost ch posts) s = execCbPost ch posts s := (rfl)
theorem exec_cbTake (core : Fin 2) (ch : Fin 256) (s : State) : exec (.cbTake core ch) s = execCbTake core ch s := (rfl)
theorem exec_cbFlush (ch : Fin 256) (s : State) : exec (.cbFlush ch) s = execCbFlush ch s := (rfl)
theorem exec_cbLock (n : Fin 256) (w : LockWrite) (s : State) : exec (.cbLock n w) s = execCbLock n w s := (rfl)
theorem exec_cbAcq (n : Fin 256) (readers : List (BitVec 12)) (s : State) : exec (.cbAcq n readers) s = execCbAcq n readers s := (rfl)
theorem exec_remoteNotice (src : BitVec 15) (ch : Fin 256) (notice : Word) (s : State) : exec (.remoteNotice src ch notice) s = execRemoteNotice src ch notice s := (rfl)
theorem exec_healthDecay (s : State) : exec .healthDecay s = execHealthDecay s := (rfl)
theorem exec_riskReport (seat : BitVec 15) (estimate : BitVec 8) (s : State) : exec (.riskReport seat estimate) s = execRiskReport seat estimate s := (rfl)
theorem exec_checkpointOrder (k : BitVec 32) (n : BitVec 32) (layers : Fin 8) (s : State) : exec (.checkpointOrder k n layers) s = execCheckpointOrder k n layers s := (rfl)
theorem exec_parityReady (stripe : Fin 8) (s : State) : exec (.parityReady stripe) s = execParityReady stripe s := (rfl)
theorem exec_ckptDone (seat : BitVec 15) (k : BitVec 32) (failed : Bool) (s : State) : exec (.ckptDone seat k failed) s = execCkptDone seat k failed s := (rfl)
theorem exec_ckptCommit (k : BitVec 32) (n : BitVec 32) (s : State) : exec (.ckptCommit k n) s = execCkptCommit k n s := (rfl)
theorem exec_ckptAbandon (k : BitVec 32) (s : State) : exec (.ckptAbandon k) s = execCkptAbandon k s := (rfl)
theorem exec_flashCheckpoint (s : State) : exec .flashCheckpoint s = execFlashCheckpoint s := (rfl)
theorem exec_flashImageComplete (ok : Bool) (s : State) : exec (.flashImageComplete ok) s = execFlashImageComplete ok s := (rfl)
theorem exec_storeCheckpoint (s : State) : exec .storeCheckpoint s = execStoreCheckpoint s := (rfl)
theorem exec_storeCopyComplete (s : State) : exec .storeCopyComplete s = execStoreCopyComplete s := (rfl)
theorem exec_stepDeadline (s : State) : exec .stepDeadline s = execStepDeadline s := (rfl)
theorem exec_stepCompleteDeadline (s : State) : exec .stepCompleteDeadline s = execStepCompleteDeadline s := (rfl)
theorem exec_watchdogRefresh (s : State) : exec .watchdogRefresh s = execWatchdogRefresh s := (rfl)
theorem exec_boothWatchdog (s : State) : exec .boothWatchdog s = execBoothWatchdog s := (rfl)
theorem exec_recoveryReport (seat : BitVec 15) (k : BitVec 32) (n : BitVec 32) (s : State) : exec (.recoveryReport seat k n) s = execRecoveryReport seat k n s := (rfl)
theorem exec_recover (target : BitVec 32) (lost : List (BitVec 15)) (us : List (BitVec 15)) (b : Option Rebuild) (s : State) : exec (.recover target lost us b) s = execRecover target lost us b s := (rfl)
theorem exec_restored (m : RestoredMsg) (s : State) : exec (.restored m) s = execRestored m s := (rfl)
theorem exec_resume (cue : Word) (step : BitVec 32) (s : State) : exec (.resume cue step) s = execResume cue step s := (rfl)
theorem exec_powerOn (vin : BitVec 16) (s : State) : exec (.powerOn vin) s = execPowerOn vin s := (rfl)
theorem exec_resetContact (s : State) : exec .resetContact s = execResetContact s := (rfl)
theorem exec_powerStage (us : BitVec 32) (charged : Bool) (s : State) : exec (.powerStage us charged) s = execPowerStage us charged s := (rfl)
theorem exec_rootStage (us : BitVec 32) (s : State) : exec (.rootStage us) s = execRootStage us s := (rfl)
theorem exec_hubStage (us : BitVec 32) (tailOk : Bool) (s : State) : exec (.hubStage us tailOk) s = execHubStage us tailOk s := (rfl)
theorem exec_memoryStage (us : BitVec 32) (badStacks : List (Fin 8)) (badWings : List (Fin 8)) (listOk : Bool) (corrected : List (BitVec 40)) (s : State) : exec (.memoryStage us badStacks badWings listOk corrected) s = execMemoryStage us badStacks badWings listOk corrected s := (rfl)
theorem exec_selfTestStage (us : BitVec 32) (fails : List (Tile × BitVec 8 × BitVec 20)) (s : State) : exec (.selfTestStage us fails) s = execSelfTestStage us fails s := (rfl)
theorem exec_linksStage (us : BitVec 32) (s : State) : exec (.linksStage us) s = execLinksStage us s := (rfl)
theorem exec_configurationStage (us : BitVec 32) (s : State) : exec (.configurationStage us) s = execConfigurationStage us s := (rfl)
theorem exec_stageTimeout (stage : Fin 7) (s : State) : exec (.stageTimeout stage) s = execStageTimeout stage s := (rfl)
theorem exec_promptbookWrite (s : State) : exec .promptbookWrite s = execPromptbookWrite s := (rfl)
theorem exec_vinBandChange (vin : BitVec 16) (s : State) : exec (.vinBandChange vin) s = execVinBandChange vin s := (rfl)
theorem exec_powerFail (vin : BitVec 16) (vbank : BitVec 16) (s : State) : exec (.powerFail vin vbank) s = execPowerFail vin vbank s := (rfl)
theorem exec_powerFailStageStop (s : State) : exec .powerFailStageStop s = execPowerFailStageStop s := (rfl)
theorem exec_powerFailRailsOff (s : State) : exec .powerFailRailsOff s = execPowerFailRailsOff s := (rfl)
theorem exec_holdupWriteEnd (tail : Bool) (written : Bool) (us : BitVec 32) (s : State) : exec (.holdupWriteEnd tail written us) s = execHoldupWriteEnd tail written us s := (rfl)
theorem exec_holdupEnd (vin : BitVec 16) (s : State) : exec (.holdupEnd vin) s = execHoldupEnd vin s := (rfl)
theorem exec_railFault (r : Rail) (s : State) : exec (.railFault r) s = execRailFault r s := (rfl)
theorem exec_clkUnlock (domain : Fin 19) (ports : BitVec 16) (s : State) : exec (.clkUnlock domain ports) s = execClkUnlock domain ports s := (rfl)
theorem exec_governorFill (die : Fin 8) (draw : BitVec 32) (s : State) : exec (.governorFill die draw) s = execGovernorFill die draw s := (rfl)
theorem exec_fillDecay (s : State) : exec .fillDecay s = execFillDecay s := (rfl)
theorem exec_startGrant (s : State) : exec .startGrant s = execStartGrant s := (rfl)
theorem exec_dutyStep (s : State) : exec .dutyStep s = execDutyStep s := (rfl)
theorem exec_capEvaluate (watts : BitVec 16) (s : State) : exec (.capEvaluate watts) s = execCapEvaluate watts s := (rfl)
theorem exec_thermalSample (d : Fin 12) (temp : BitVec 8) (s : State) : exec (.thermalSample d temp) s = execThermalSample d temp s := (rfl)
theorem exec_coolantSample (inlet : BitVec 8) (outlet : BitVec 8) (s : State) : exec (.coolantSample inlet outlet) s = execCoolantSample inlet outlet s := (rfl)
theorem exec_getReport (nonce : List Byte) (s : State) : exec (.getReport nonce) s = execGetReport nonce s := (rfl)
theorem exec_getCert (req : List Byte) (s : State) : exec (.getCert req) s = execGetCert req s := (rfl)
theorem exec_challenge (req : List Byte) (s : State) : exec (.challenge req) s = execChallenge req s := (rfl)
theorem exec_challengeExpiry (s : State) : exec .challengeExpiry s = execChallengeExpiry s := (rfl)
theorem exec_unlock (req : List Byte) (s : State) : exec (.unlock req) s = execUnlock req s := (rfl)
theorem exec_close (req : List Byte) (s : State) : exec (.close req) s = execClose req s := (rfl)
theorem exec_claim (req : List Byte) (s : State) : exec (.claim req) s = execClaim req s := (rfl)
theorem exec_rotate (req : List Byte) (s : State) : exec (.rotate req) s = execRotate req s := (rfl)
theorem exec_decommission (req : List Byte) (s : State) : exec (.decommission req) s = execDecommission req s := (rfl)
theorem exec_reset (req : List Byte) (s : State) : exec (.reset req) s = execReset req s := (rfl)
theorem exec_entdaa (addr : BitVec 7) (s : State) : exec (.entdaa addr) s = execEntdaa addr s := (rfl)
theorem exec_setdasa (s : State) : exec .setdasa s = execSetdasa s := (rfl)
theorem exec_setEndpointId (eid : BitVec 8) (s : State) : exec (.setEndpointId eid) s = execSetEndpointId eid s := (rfl)
theorem exec_getEndpointId (s : State) : exec .getEndpointId s = execGetEndpointId s := (rfl)
theorem exec_getEndpointUuid (s : State) : exec .getEndpointUuid s = execGetEndpointUuid s := (rfl)
theorem exec_getMctpVersionSupport (type : BitVec 8) (s : State) : exec (.getMctpVersionSupport type) s = execGetMctpVersionSupport type s := (rfl)
theorem exec_getMessageTypeSupport (s : State) : exec .getMessageTypeSupport s = execGetMessageTypeSupport s := (rfl)
theorem exec_getTid (s : State) : exec .getTid s = execGetTid s := (rfl)
theorem exec_setTid (tid : BitVec 8) (s : State) : exec (.setTid tid) s = execSetTid tid s := (rfl)
theorem exec_getPldmVersion (type : BitVec 8) (s : State) : exec (.getPldmVersion type) s = execGetPldmVersion type s := (rfl)
theorem exec_getPldmTypes (s : State) : exec .getPldmTypes s = execGetPldmTypes s := (rfl)
theorem exec_getPldmCommands (type : BitVec 8) (version : BitVec 32) (s : State) : exec (.getPldmCommands type version) s = execGetPldmCommands type version s := (rfl)
theorem exec_getPdr (id : BitVec 32) (s : State) : exec (.getPdr id) s = execGetPdr id s := (rfl)
theorem exec_getSensorReading (id : BitVec 16) (s : State) : exec (.getSensorReading id) s = execGetSensorReading id s := (rfl)
theorem exec_setEventReceiver (receiver : Option (BitVec 8)) (s : State) : exec (.setEventReceiver receiver) s = execSetEventReceiver receiver s := (rfl)
theorem exec_sensorSample (s : State) : exec .sensorSample s = execSensorSample s := (rfl)
theorem exec_requestUpdate (image : Bool) (place : Fin 2) (s : State) : exec (.requestUpdate image place) s = execRequestUpdate image place s := (rfl)
theorem exec_updateComponent (off : BitVec 28) (data : List Byte) (last : Bool) (s : State) : exec (.updateComponent off data last) s = execUpdateComponent off data last s := (rfl)
theorem exec_verifyComplete (s : State) : exec .verifyComplete s = execVerifyComplete s := (rfl)
theorem exec_activateFirmware (s : State) : exec .activateFirmware s = execActivateFirmware s := (rfl)
theorem exec_cancelUpdate (s : State) : exec .cancelUpdate s = execCancelUpdate s := (rfl)
theorem exec_rstLRise (s : State) : exec .rstLRise s = execRstLRise s := (rfl)
theorem exec_pfcStormEnd (p : Fin 4) (s : State) : exec (.pfcStormEnd p) s = execPfcStormEnd p s := (rfl)

end Sys2Proof.Machine
end

