-- ==== Sys2Proof/Laws/Registers.lean ====
section
/-!
SUPPORT. Laws/Registers.lean: which registers of the map can lie at an address, so that a lookup need not go through the whole map.
-/
namespace Sys2Proof.Machine

/-- May the register or family have a copy at an address from `lo` to `hi`? -/
def RegDef.meets (r : RegDef) (lo hi : Nat) : Bool :=
  decide (r.base ≤ hi) && decide (lo ≤ r.base + (r.n1 - 1) * r.s1 + (r.n2 - 1) * r.s2)

/-- A copy lies between the first and the last. -/
theorem RegDef.at?_meets (r : RegDef) {a lo hi : Nat} (h : r.at? a = true) (hl : lo ≤ a) (hh : a ≤ hi) : r.meets lo hi = true := by
  simp only [RegDef.at?, Bool.and_eq_true, decide_eq_true_eq, beq_iff_eq] at h
  obtain ⟨hb, ⟨hi1, hj⟩, hf⟩ := h
  simp only [RegDef.meets, Bool.and_eq_true, decide_eq_true_eq]
  refine ⟨by omega, le_trans hl ?_⟩
  obtain ⟨d, rfl⟩ : ∃ d, a = r.base + d := ⟨a - r.base, by omega⟩
  have hd : r.base + d - r.base = d := by omega
  rw [hd] at hi1 hj hf
  have key : ∀ e : Nat, (if r.s2 = 0 then 0 else e / r.s2) < r.n2 → (if r.s2 = 0 then e else e % r.s2) = 0 → e ≤ (r.n2 - 1) * r.s2 := by
    intro e h1 h2
    split at h1
    · rename_i h0; rw [if_pos h0] at h2; omega
    · rename_i h0; rw [if_neg h0] at h2
      have := Nat.div_add_mod e r.s2
      have hm : e / r.s2 * r.s2 ≤ (r.n2 - 1) * r.s2 := Nat.mul_le_mul_right _ (by omega)
      rw [Nat.mul_comm] at this; omega
  by_cases h0 : r.s1 = 0
  · simp only [h0, if_true] at hj hf
    have := key d hj hf
    omega
  · simp only [h0, if_false] at hi1 hj hf
    have he := key _ hj hf
    have := Nat.div_add_mod d r.s1
    have hm : d / r.s1 * r.s1 ≤ (r.n1 - 1) * r.s1 := Nat.mul_le_mul_right _ (by omega)
    rw [Nat.mul_comm] at this; omega

/-- A lookup between two addresses only sees the families that reach between them. -/
theorem regDefAt_within {a lo hi : Nat} (hl : lo ≤ a) (hh : a ≤ hi) :
    regDefAt a = (regTable.filter (fun r => r.meets lo hi)).find? (fun r => r.at? a) := by
  unfold regDefAt
  induction regTable with
  | nil => rfl
  | cons r l ih =>
    cases h : r.at? a with
    | true => simp [h, r.at?_meets h hl hh]
    | false =>
      by_cases hm : r.meets lo hi = true
      · simp [h, hm, ih]
      · simp [h, hm, ih]

/-- Where no family that reaches between two addresses has a field with a reset value, the registers between them are zero at reset. -/
theorem regReset_zero_within {a lo hi : Nat} (hl : lo ≤ a) (hh : a ≤ hi) (hp : resetPerCopy a = none)
    (hz : (regTable.filter (fun r => r.meets lo hi)).all (fun r => resetOfFields r.fields == 0) = true) : regReset a = 0 := by
  unfold regReset
  rw [hp]
  show (match regDefAt a with | some r => BitVec.ofNat 64 (resetOfFields r.fields) | none => 0) = 0
  rw [regDefAt_within hl hh]
  cases hr : (regTable.filter (fun r => r.meets lo hi)).find? (fun r => r.at? a) with
  | none => rfl
  | some r =>
    have := List.all_eq_true.mp hz r (List.mem_of_find?_eq_some hr)
    rw [beq_iff_eq] at this
    simp [this]

/-- The registers with a reset value per copy lie in three places. -/
theorem resetPerCopy_none {a : Nat} (h1 : a < 0x1200d000100 ∨ 0x1200d000300 ≤ a) (h2 : a ≠ 0x12006000008)
    (h3 : a < 0x12004000020 ∨ 0x12004000038 < a) : resetPerCopy a = none := by
  unfold resetPerCopy
  rw [if_neg (by omega), if_neg h2, if_neg (by omega), if_neg (by omega), if_neg (by omega), if_neg (by omega)]

end Sys2Proof.Machine
end

