-- ==== Sys2Proof/Laws/Tile.lean ====
section
/-!
SUPPORT. Laws/Tile.lean: what the shared operations of an issue do: a result scheduled, a resource held, an issue noted, one slot issued
alone; each says all of it at once.
-/
namespace Sys2Proof.Machine

/-- What an operation on tile `t` that only schedules or holds leaves alone: all but what that tile has in flight. -/
structure InFlight (t : Nat) (s u : State) : Prop where
  tiles : ∀ k, k ≠ t → u.tile k = s.tile k
  rest : ({ u with tiles := [] } : State) = { s with tiles := [] }

theorem inFlight_refl (t : Nat) (s : State) : InFlight t s s := ⟨fun _ _ => rfl, rfl⟩

theorem inFlight_trans {t : Nat} {s u w : State} (h : InFlight t s u) (g : InFlight t u w) : InFlight t s w :=
  ⟨fun k hk => (g.tiles k hk).trans (h.tiles k hk), g.rest.trans h.rest⟩

theorem inFlight_setTile (t : Nat) (s : State) (x : TileX) : InFlight t s (s.setTile t x) := ⟨fun _ hk => tile_setTile_ne s x hk, rfl⟩

theorem InFlight.reg {t : Nat} {s u : State} (h : InFlight t s u) (a : Nat) : u.reg a = s.reg a := by have e := congrArg (fun w : State => w.reg a) h.rest; exact e
theorem InFlight.byte {t : Nat} {s u : State} (h : InFlight t s u) (a : Nat) : u.byte a = s.byte a := by have e := congrArg (fun w : State => w.byte a) h.rest; exact e
theorem InFlight.poisoned {t : Nat} {s u : State} (h : InFlight t s u) (a : Nat) : u.poisoned a = s.poisoned a := by have e := congrArg (fun w : State => w.poisoned a) h.rest; exact e
theorem InFlight.active {t : Nat} {s u : State} (h : InFlight t s u) : u.active = s.active := by have e := congrArg (State.active) h.rest; exact e
theorem InFlight.pb {t : Nat} {s u : State} (h : InFlight t s u) : u.pb = s.pb := by have e := congrArg (State.pb) h.rest; exact e
theorem InFlight.fab {t : Nat} {s u : State} (h : InFlight t s u) : u.fab = s.fab := by have e := congrArg (State.fab) h.rest; exact e
theorem InFlight.out {t : Nat} {s u : State} (h : InFlight t s u) : u.out = s.out := by have e := congrArg (State.out) h.rest; exact e

/-- A result scheduled joins what is on its way, `after` cycles from now. -/
theorem sched_spec (s : State) (t after : Nat) (e : Eff) : InFlight t s (s.sched t after e)
    ∧ (s.sched t after e).tile t = { s.tile t with
        acts := (s.tile t).acts ++ [⟨s.active + after, (s.tile t).ordNext, e⟩], ordNext := (s.tile t).ordNext + 1 } :=
  ⟨inFlight_setTile t s _, tile_setTile_same s t _⟩

/-- A write of x0 schedules nothing (R168). -/
theorem schedX_spec (s : State) (t after r : Nat) (v : Word) : InFlight t s (s.schedX t after r v)
    ∧ ((s.schedX t after r v).tile t).acts = (s.tile t).acts
        ++ (if r = 0 then [] else [⟨s.active + after, (s.tile t).ordNext, .commit (R.TA_PXN t (r - 1)) v (-1)⟩]) := by
  unfold State.schedX
  split
  · exact ⟨inFlight_refl t s, (List.append_nil _).symm⟩
  · exact ⟨(sched_spec s t after _).1, by rw [(sched_spec s t after _).2]⟩

/-- A resource held is busy for its occupancy, the others as before; results on their way stay. -/
theorem hold_spec (s : State) (t r occ : Nat) : InFlight t s (s.hold t r occ) ∧ ((s.hold t r occ).tile t).acts = (s.tile t).acts
    ∧ ((s.hold t r occ).tile t).ordNext = (s.tile t).ordNext := by
  unfold State.hold
  split
  · exact ⟨inFlight_refl t s, rfl, rfl⟩
  · exact ⟨inFlight_setTile t s _, by simp, by simp⟩

/-- Noting an issue changes the tile's lastIssue, and in TA_SEQ a held tile's state. -/
theorem noteIssue_spec (s : State) (t : Nat) : (s.noteIssue t).tile t = { s.tile t with lastIssue := s.active }
    ∧ (∀ k, k ≠ t → (s.noteIssue t).tile k = s.tile k) ∧ (∀ a, a ≠ R.TA_SEQ t → (s.noteIssue t).reg a = s.reg a)
    ∧ (∀ a, (s.noteIssue t).byte a = s.byte a) ∧ (∀ u, (s.noteIssue t).poisoned u = s.poisoned u) := by
  unfold State.noteIssue
  dsimp only
  generalize hu : ({ s with now := _ } : State) = u
  have ht : ∀ k, u.tile k = s.tile k := fun k => by rw [← hu]; rfl
  have hr : ∀ a, u.reg a = s.reg a := fun a => by rw [← hu]; rfl
  have hb : ∀ a, u.byte a = s.byte a := fun a => by rw [← hu]; rfl
  have hp : ∀ a, u.poisoned a = s.poisoned a := fun a => by rw [← hu]; rfl
  have ha : u.active = s.active := by rw [← hu]
  rw [← ha, ← ht t]
  split
  · refine ⟨?_, fun k hk => ?_, fun a h => ?_, fun a => by rw [byte_setFld, byte_setTile, hb], fun a => by rw [poisoned_setFld, poisoned_setTile, hp]⟩
    · rw [tile_setFld, tile_setTile_same]
    · rw [tile_setFld, tile_setTile_ne _ _ hk, ht]
    · rw [reg_setFld_ne _ h, reg_setTile, hr]
  · exact ⟨tile_setTile_same u t _, fun k hk => (tile_setTile_ne u _ hk).trans (ht k), fun a _ => (reg_setTile u t _ a).trans (hr a),
      fun a => (byte_setTile u t _ a).trans (hb a), fun a => (poisoned_setTile u t _ a).trans (hp a)⟩

/-- One slot issued alone: nothing where the tile cannot issue and has not halted in this cycle, a halt where a check fails, else the slot's effect. -/
theorem issueAlone_spec (s : State) (t : Nat) (check : State → Option HaltReq) (perform : State → State) :
    (s.canIssue t = false → s.beforeHalt t = none → s.issueAlone t check perform = s)
    ∧ (∀ h, s.canIssue t = true → check s = some h → s.issueAlone t check perform = s.stopIssue t (s.issuePt t) none h)
    ∧ (s.canIssue t = true → check s = none → s.issueAlone t check perform = perform (s.noteIssue t)) := by
  refine ⟨fun h h0 => ?_, fun h h1 h2 => ?_, fun h1 h2 => ?_⟩ <;> simp [State.issueAlone, *]

end Sys2Proof.Machine
end

