-- ==== Sys2Proof/Tests/Slice0.lean ====
section
/-!
SUPPORT. Tests/Slice0.lean: tests of single steps and encodings against the manual's own examples and tables, ill-formed commands
refused, and for every statement states and operands that meet its hypotheses.
-/
namespace Sys2Proof.Tests
open Sys2Proof Sys2Proof.Machine Sys2Proof.Claim

set_option Elab.async false

/-- Tile 5 issues and is at bundle 0 of bank A; VL is 8, x1 an address in prompter memory, x2 a global one. -/
def wTile : State :=
  { State.reset with regs := [(R.TA_SEQ 5, BitVec.ofNat 64 (putBits 0 (R.TA_SEQ_STATE 5).hi (R.TA_SEQ_STATE 5).lo seqIssuing)),
    (R.TA_PVL 5, 8), (R.TA_PXN 5 0, 0xF0040), (R.TA_PXN 5 1, 0x8000000000000000)] }

/-- Some fields set. -/
def wSet (s : State) (l : List (Fld × Nat)) : State := l.foldl (fun u p => u.setFld p.1 p.2) s

-- Tiles: states and operands that meet the hypotheses.
theorem witness_issue : wTile.canIssue 5 = true ∧ (wTile.tile 5).trap = none ∧ wTile.pending = [] := by decide +kernel
theorem witness_free (r : Nat) : Free wTile 5 r := Or.inr (by
  have h : wTile.tile 5 = TileX.init := by decide +kernel
  rw [h]; show TileX.init.freeAt r ≤ wTile.active
  have : TileX.init.freeAt r = 0 := by simp [TileX.freeAt, TileX.init]
  omega)
theorem witness_IntegerRegisterResults : wTile.canIssue 5 = true ∧ Free wTile 5 resAlu ∧ Free wTile 5 resMul ∧ Free wTile 5 resDiv :=
  ⟨witness_issue.1, witness_free _, witness_free _, witness_free _⟩
theorem witness_IntegerImmediateResults : wTile.canIssue 5 = true ∧ Free wTile 5 resAlu := ⟨witness_issue.1, witness_free _⟩
def wHandler : State := wSet wTile [(R.TA_PTRAP0_ACTIVE 5, 1)]
theorem witness_NoOperationsVlAndReturns : (wTile.tile 5).trap = none ∧ (wTile.tile 5).overlapUntil ≤ wTile.active
    ∧ wHandler.inHandler 5 = true ∧ wHandler.canIssue 5 = true ∧ (wHandler.tile 5).freeAt resAlu ≤ wHandler.active := by decide +kernel
/-- A load and a store in prompter memory at its two ends, and in the data SRAM at offset 0. -/
theorem witness_OwnTileLoadsAndStores : (wTile.effAddr 5 1 0).toNat = 0xF0040 ∧ isPmem (tileBase 5 + 0xF0040) = true
    ∧ wTile.wordsPoisoned (tileBase 5 + 0xF0040) 8 = false ∧ ownAddr 5 (wTile.effAddr 5 1 0) 8 8 = .ok (tileBase 5 + 0xF0040)
    ∧ ownAddr 5 (wTile.effAddr 5 1 0xFFC0) 1 1 = .ok (tileBase 5 + 0xF0000)
    ∧ ownAddr 5 (wTile.effAddr 5 1 0x7FB8) 8 8 = .ok (tileBase 5 + 0xF7FF8) ∧ isPmem (tileBase 5 + 0xF7FF8) = true
    ∧ ownAddr 5 (wTile.effAddr 5 0 0) 4 4 = .ok (tileBase 5) ∧ isPmem (tileBase 5) = false
    ∧ ownAddr 5 (wTile.effAddr 5 0 2) 2 2 = .ok (tileBase 5 + 2)
    ∧ wTile.partPoisoned (tileBase 5) 8 = false := by decide +kernel
/-- Out of range, misaligned, and both ends of the instruction banks. -/
theorem witness_AccessesThatFaultOrLeaveTheTile : ownAddr 5 0x100000 8 8 = .error 0x21 ∧ ownAddr 5 0x100000 1 1 = .error 0x21
    ∧ ownAddr 5 0xFFFF4 8 8 = .error 0x22 ∧ ownAddr 5 0x80000 8 8 = .error 0x24 ∧ ownAddr 5 0xBFFF8 8 8 = .error 0x24
    ∧ (wTile.effAddr 5 1 4).getLsbD 63 = false ∧ ownAddr 5 (wTile.effAddr 5 1 4) 8 8 = .error 0x22 := by decide +kernel
def wGlobal : State := { wSet wTile [(wcFld 5 15, 1)] with tiles := [(5, { TileX.init with
  globals := [{ id := 7, addr := 0x13000000000, bad := true, load := some (.d, 15), bytes := [], ord := 0, sent := false }] })] }
theorem witness_AccessesThatFaultOrLeaveTheTile_global : ((wTile.effAddr 5 2 0).getLsbD 63 = true ∧ (wTile.tile 5).globals.length < 32)
    ∧ ((wGlobal.tile 5).globals[0]?.map (fun g => (g.bad, g.load))) = some (true, some (.d, 15)) ∧ 0 < wGlobal.wc 5 15 := by decide +kernel
theorem witness_BranchesAndJumps : wTile.canIssue 5 = true ∧ Free wTile 5 resAlu := ⟨witness_issue.1, witness_free _⟩
theorem witness_FloatingPointResults : wTile.canIssue 5 = true ∧ Free wTile 5 resFpu ∧ Free wTile 5 resDiv ∧ rmFOk 7 = true ∧ rmFOk 3 = true :=
  ⟨witness_issue.1, witness_free _, witness_free _, by decide, by decide⟩
theorem witness_Conversions : (Instr.cvt (.tile 5) .i32 .b64 15 31 7).wf = true ∧ (Instr.cvt (.tile 5) .sk16 .i32 31 15 4).wf = true
    ∧ wTile.vl 5 ≤ maxVl (max VTy.i8.width VTy.b64.width) ∧ 0 < wTile.vl 5 := by decide +kernel
theorem witness_VectorArithmeticBelowVl : wTile.vl 5 ≤ maxVl VTy.b64.width ∧ wTile.vl 5 ≤ maxVl VTy.i8.width ∧ 0 < wTile.vl 5
    ∧ wTile.vl 5 = 8 := by decide +kernel
theorem witness_VectorMemory : wTile.vl 5 ≤ maxVl 32 ∧ (wTile.x 5 1).getLsbD 63 = false
    ∧ ownAddr 5 (wTile.x 5 1) (wTile.vl 5 * VTy.b64.width / 8) 64 = .ok (tileBase 5 + 0xF0040)
    ∧ wTile.partPoisoned (tileBase 5 + 0xF0040) 64 = false := by decide +kernel
def wFault (c : Nat) (en : Nat) : State := { wSet wTile [(R.TA_PTVEC_EN 5, en)] with tiles := [(5, { TileX.init with
  trap := some ⟨0, c, 63, 8, 0, ⟨1, 8191, 8191⟩, true, false⟩ })] }
theorem witness_TrapEntryFillsTheRecord : ((wFault 255 1).tile 5).trap.isSome = true ∧ (wFault 255 1).bit (R.TA_PTVEC_EN 5) = true
    ∧ (wFault 255 1).fld (R.TA_SEQ_STATE 5) ≤ seqHeld ∧ (wFault 0x21 0).bit (R.TA_PTVEC_EN 5) = false := by decide +kernel
def wFormats : State := wSet wTile [(R.TA_MFMT_FMT0 5, 0x02), (R.TA_MFMT_FMT3 5, 0)]
theorem witness_MatrixSlotsReadAndHold :
    (wFormats.mmArgs 5 ⟨false, 0, 0, 255, 7, 7, true, false, false, false, false, false, false⟩).isSome = true
    ∧ drainShape 0 false = some ⟨.b32, 16, 16, false⟩ ∧ (drainShape 6 true).isSome = true
    ∧ (FmtWord.ofWord (wFormats.mfmt 5 0)).isSome = true ∧ wFormats.canIssue 5 = true ∧ wFormats.flaws = [] := by decide +kernel
theorem witness_AccessesThatFaultOrLeaveTheTile_formats : wFormats.canIssue 5 = true
    ∧ wFormats.mmArgs 5 ⟨false, 3, 0, 0, 0, 0, false, false, false, false, false, false, false⟩ = none
    ∧ (Instr.drain 5 ⟨false, 3, 0, 0, 0, false⟩).wf = true ∧ FmtWord.ofWord (wFormats.mfmt 5 3) = none
    ∧ wFormats.checkM 5 (.drain ⟨false, 3, 0, 0, 0, false⟩) = none ∧ wTile.checkD 5 (.op .convert ⟨0, 14, 0, false, false⟩) = none
    ∧ FmtWord.ofWord (wTile.fld ⟨R.TA_DMD_W2 5 0, 63, 48⟩) = none := by decide +kernel
theorem witness_TransfersStartAndComplete : (wTile.tile 5).xfers.length < 16 ∧ wTile.wc 5 14 < 255 ∧ (wSet wTile [(wcFld 5 0, 254)]).wc 5 0 < 255
    ∧ (wSet wTile [(⟨R.TA_DMD_W2 5 0, 63, 32⟩, 0x20002)]).definedD 5 (.op .convert ⟨0, 14, 0, false, false⟩) = true := by decide +kernel
def wXfer (cause : Option (Nat × Nat)) : Xfer :=
  { id := 3, op := .copy, src := 0, dst := 0, len := 8, sfmt := 0, dfmt := 0, version := 0, slot := ⟨0, 14, 0, false, false⟩, ord := 0,
    sample := none, phase := .done, wait := 0, got := [], cause := cause, more := [], vers := [], convSrc := [], convOut := [] }
def wDone (cause : Option (Nat × Nat)) : State :=
  { wSet wTile [(wcFld 5 14, 1)] with tiles := [(5, { TileX.init with xfers := [wXfer cause] })] }
theorem witness_TransfersStartAndComplete_end : ((wDone none).tile 5).xfers[0]? = some (wXfer none) ∧ 0 < (wDone none).wc 5 14
    ∧ ((wDone (some (0x41, 8))).tile 5).xfers[0]? = some (wXfer (some (0x41, 8))) ∧ (wXfer (some (0x41, 8))).cause.isSome = true := by
  decide +kernel
def wChan (l : List Word) : State := { wSet wTile [(R.CB_BIND_VALID 255, 1), (R.CB_BIND_RECEIVER_MID 255, tileMid 5),
  (R.CB_BIND_SENDER_MID 255, tileMid 5)] with cb := [(255, l)] }
theorem witness_GuardsAndFences : (wChan []).canIssue 5 = true ∧ (wChan []).takeAllowed 255 (tileMid 5) = true ∧ (wChan []).chan 255 = [] ∧ (wChan [9]).posted 255 = 0 := by
  decide +kernel
def wFence : State := { wTile with tiles := [(5, { TileX.init with fence := some (.d, 4), endIssued := true })] }
def wCommitted : State := { wTile with mem := [(commitAddr 5 1, 1)] }
theorem witness_FencesTakesSwapsAndEnds : (wFence.tile 5).fence = some (.d, 4) ∧ wFence.fenceDone 5 .d 4 = true ∧ wFence.inHandler 5 = false
    ∧ (wChan [9]).chan 255 = [9] ∧ (wChan [9]).turn? 255 = none ∧ (wChan [9]).chanKind 255 = .localCh ∧ (wChan [9]).tilePosts 5 255 = true
    ∧ ((wChan (List.replicate 15 9)).chan 255).length < 16 ∧ wCommitted.swapBar 5 (1 - wCommitted.fld (R.TA_SEQ_BANK 5)) = none
    ∧ ({ wTile with tiles := [(5, { TileX.init with endIssued := true })] } : State).hasEnded 5 = true := by decide +kernel
/-- A bundle of no-operations at index 0 and at 8190, and the end of the bank. -/
theorem witness_BundleFetchIssuesInOrder : wTile.issueDue 5 = true ∧ (wTile.issuePt 5).bundle = 0
    ∧ wTile.definedBundle 5 (wTile.bundleAt 5 0 0) = true ∧ wTile.issueHalt 5 (wTile.bundleAt 5 0 0) = none
    ∧ decodeS (wTile.bundleAt 5 0 0).s = some .nop ∧ wTile.guardHolds 5 .nop = true
    ∧ ((wSet wTile [(R.TA_SEQ_RESUME 5, 8190)]).issuePt 5).bundle ≠ 8191
    ∧ ((wSet wTile [(R.TA_SEQ_RESUME 5, 8191)]).issuePt 5).bundle = 8191
    ∧ (wSet wTile [(R.TA_SEQ_RESUME 5, 8191)]).issueDue 5 = true := by decide +kernel
def wResult : TileX := { TileX.init with acts := [⟨1, 0, .commit (R.TA_PXN 5 2) 77 (-1)⟩] }
theorem witness_ResultsCommitAtTheirReadyCycle : wTile.held = false ∧ wTile.now = CycleX.init ∧ (∀ p, p < 4 → R.TA_PXN 5 2 ≠ R.FH_PORT_STATUS p) ∧ wResult.acts = [⟨1, 0, .commit (R.TA_PXN 5 2) 77 (-1)⟩]
    ∧ wTile.pending = [] ∧ wResult.reexec = none ∧ wResult.resumeAt = none := by decide +kernel

-- The bus and the mesh.
/-- A booth core writes the last byte of CU_ALARM_TGT0; a tile may not write it; CU_ALARM_TGT0 has no rule of its own. -/
theorem witness_RegisterWritesFollowAccessCodes :
    (regDefAt (R.CU_ALARM_TGT 0)).isSome = true ∧ (R.CU_ALARM_TGT 0 + 7) / 8 * 8 = R.CU_ALARM_TGT 0
    ∧ State.reset.busCheck 1 (R.CU_ALARM_TGT 0 + 7) 1 true = 0 ∧ State.reset.busCheck 0x805 (R.CU_ALARM_TGT 0 + 7) 1 true ≠ 0
    ∧ State.reset.busLoses (R.CU_ALARM_TGT 0 + 7) = false ∧ State.reset.now.evts = []
    ∧ State.reset.now.reads.contains (R.CU_ALARM_TGT 0) = false ∧ (State.reset.readReg (R.CU_ALARM_TGT 0)).now.reads.contains (R.CU_ALARM_TGT 0) = true
    ∧ (regDefAt (R.CU_ALARM_TGT 0)).map (fun r => OwnRule r.base) = some false ∧ OwnRule (R.CB_FLUSH) = true := by
  decide +kernel
theorem witness_fields : (fieldsAt (R.TA_SEQ 5)).Pairwise (fun f g => f.hi < g.lo ∨ g.hi < f.lo) ∧ (∀ f ∈ fieldsAt (R.TA_SEQ 5), f.lo ≤ f.hi) := by
  decide +kernel
/-- CB_DROP0 read whole by a booth core, refused to a tile; CB_TAKE3 of a bound channel and CB_ACQ3 read by booth core 0. -/
theorem witness_RegisterReadsOnTheBus : (regDefAt (R.CB_DROP 0)).isSome = true ∧ (regDefAt (R.CB_DROP 0)).map (·.base) ≠ some (R.CB_TAKE 0)
    ∧ (regDefAt (R.CB_DROP 0)).map (·.base) ≠ some (R.CB_ACQ 0) ∧ State.reset.busCheck 1 (R.CB_DROP 0) 8 false = 0
    ∧ State.reset.busCheck 0x805 (R.CB_DROP 0) 8 false ≠ 0 ∧ (fieldsAt (R.CB_DROP 0)).any (fun f => f.acc == .rc) = true
    ∧ (regDefAt (R.CB_TAKE 3)).map (fun r => (r.base, r.copyI (R.CB_TAKE 3))) = some (R.CB_TAKE 0, 3) ∧ State.reset.busCheck 1 (R.CB_TAKE 3) 8 false = 0
    ∧ ((State.reset.setFld (R.CB_BIND_VALID 3) 1).setFld (R.CB_BIND_RECEIVER_MID 3) 1).takeAllowed 3 1 = true
    ∧ State.reset.takeAllowed 3 1 = false ∧ State.reset.turn? 3 = none
    ∧ (regDefAt (R.CB_ACQ 3)).map (fun r => (r.base, r.copyI (R.CB_ACQ 3))) = some (R.CB_ACQ 0, 3) ∧ State.reset.busCheck 1 (R.CB_ACQ 3) 8 false = 0 := by
  decide +kernel
/-- Both booth cores acquire lock 255, free and held. -/
theorem witness_RegisterReadsOnTheBus_acquires :
    (∀ q ∈ ([⟨255, 1, R.CB_ACQ 255, 8, none⟩, ⟨255, 2, R.CB_ACQ 255, 8, none⟩] : List LateAcq), q.lock = 255 ∧ q.mid < 4096 ∧ q.core = none)
    ∧ State.reset.fld (R.CB_LOCK_HOLDER 255) = 0 ∧ (State.reset.setFld (R.CB_LOCK_HOLDER 255) 2).fld (R.CB_LOCK_HOLDER 255) ≠ 0 := by decide +kernel
/-- A booth core at the first byte of the wings of die 0, the last bytes of a granule, an address where nothing lies, a register. -/
theorem witness_MemoryAccesses : regionOf State.reset.cacheN 0x10000000000 = .wings 0 0
    ∧ State.reset.boot.failed.contains 0x100 = false ∧ allowed (masterOf 1) true false (.wings 0 0) 0x10000000000 = true
    ∧ allowed (masterOf 1) false false (.wings 0 0) 0x10000000000 = true ∧ (masterOf 1).named = false
    ∧ regionOf State.reset.cacheN 0x10000000078 = .wings 0 0x78 ∧ 0x10000000078 % 128 + 8 ≤ 128
    ∧ regionOf State.reset.cacheN 0xFFFFFFFFFFF = .unmapped ∧ (match regionOf State.reset.cacheN R.CU_STATUS with | .breg _ => true | _ => false) = true
    ∧ State.reset.lateHere (R.CU_STATUS) 8 true = false ∧ State.reset.flaws = [] ∧ State.reset.poison = []
    ∧ State.reset.lateAcq 1 0x10000000000 8 none = none := by decide +kernel
theorem witness_RiggingForwardsAlongTheRowFirst : (∀ p (c : Fin 4), State.reset.rigBuf 5 p c = []) ∧ (∀ e c, State.reset.rigEndBuf e c = [])
    ∧ 0 < rigSpace (0 : Fin 4) ∧ rigRoute 5 (.tile 6) = .east ∧ (rigNext 5 .east).isSome = true ∧ rigRoute 5 (.tile 5) = .tile
    ∧ rigNext 5 .tile = none ∧ rigRoute 0 .hub = .west ∧ rigNext 0 .west = none ∧ rigRoute 5 (.stack 0 5) = .north ∧ rigNext 5 .north = none
    ∧ pkgCol 5 ≠ 0 ∧ pkgCol 0 = 0 ∧ RigPort.east ≠ rigRoute 0 (.tile 0) := by
  refine ⟨fun p c => rfl, fun e c => rfl, by simp [rigSpace], ?_⟩
  decide +kernel
-- Cue, curtain.
/-- Counts just below a multiple of 1024 and of 64. -/
def wCue (n : Nat) : State := wSet State.reset [(⟨R.CU_COUNT, 63, 0⟩, n)]
theorem witness_CueTimerCounts : (wCue 1023).cue + 1 < 2 ^ 64 ∧ ((wCue 1023).cue + 1) % 1024 = 0 ∧ ((wCue 1024).cue + 1) % 1024 ≠ 0
    ∧ (wCue 5).bit R.CU_STATUS_MASTER = false ∧ (wCue 5).cycle < (wCue 5).cueX.start + (wCue 5).cueX.len
    ∧ ({ wCue 15 with cycle := 1500 } : State).cueX.start + ({ wCue 15 with cycle := 1500 } : State).cueX.len ≤ ({ wCue 15 with cycle := 1500 } : State).cycle
    ∧ ((wCue 15).setFld R.CU_STATUS_MASTER 1).bit R.CU_STATUS_MASTER = true ∧ ((wCue 15).cue + 1) % 16 = 0 := by decide +kernel
/-- Seat 3 of a job whose master is seat 2, with seat 3 its backup. -/
def wJob (n : Nat) (hold : Nat) : State :=
  { wSet (wCue n) [(R.FB_CTL_SEAT, 3), (R.CU_CTL_MASTER_SEAT, 2), (R.CU_CTL_BACKUP_EN, 1), (R.CU_CTL_BACKUP_SEAT, 3), (⟨R.BT_JOB, 63, 0⟩, 0),
      (R.BT_JOB_OPEN, 1), (R.CU_STATUS_HOLDOVER, hold)] with pb := { PbState.init with started := true } }
/-- A risk report of estimate 0 last sent in cue 5: at the end of its limit, before it, and withheld at estimate 16. -/
def wRisk (n e : Nat) : State := { wSet (wCue n) [(R.RS_RISK_ESTIMATE, e)] with riskSent := some (0, 5) }
theorem witness_CueTimerCounts_risk : (wRisk 1028 16).riskSent = some (0, 5) ∧ 16 ≤ (wRisk 1028 16).fld R.RS_RISK_ESTIMATE - 0
    ∧ 5 + 1024 ≤ (wRisk 1028 16).cue + 1 ∧ (wRisk 1027 16).cue + 1 < 5 + 1024 ∧ (wRisk 1028 16).bit R.CU_STATUS_MASTER = false
    ∧ (wRisk 1028 0).riskSent = some ((wRisk 1028 0).fld R.RS_RISK_ESTIMATE, 5) := by decide +kernel
theorem witness_CueFlitsAlignFollowers : (wJob 64 0).follows 2 = true ∧ (wJob 64 0).follows 9 = false ∧ (wJob 64 0).jobOpen = true
    ∧ (wJob 64 0).bit R.CU_STATUS_MASTER = false ∧ (wJob 64 0).bit R.CU_STATUS_HOLDOVER = false ∧ (wJob 64 0).cueX.lastFlit + 64 ≤ (wJob 64 0).cue
    ∧ (wJob 63 0).cue < (wJob 63 0).cueX.lastFlit + 64 ∧ (wJob 64 0).pb.started = true ∧ (wJob 64 0).pb.queue.length < 512
    ∧ (wJob 1024 1).bit R.CU_STATUS_HOLDOVER = true ∧ (wJob 1024 1).bit R.CU_STATUS_CUT_OFF = false ∧ (wJob 1024 1).res.noMaster = false
    ∧ (wJob 1024 1).cueX.heldAt + 1024 ≤ (wJob 1024 1).cue ∧ (wJob 1023 1).cue < (wJob 1023 1).cueX.heldAt + 1024
    ∧ (wJob 64 0).bit R.CU_CTL_BACKUP_EN = true ∧ (wJob 64 0).fld R.CU_CTL_BACKUP_SEAT = (wJob 64 0).mySeat
    ∧ (wJob 64 0).cueX.lastNamed + 64 ≤ (wJob 64 0).cue ∧ (wJob 64 0).cueX.followed = none ∧ 0 < (wJob 64 0).cuePeriod
    ∧ (wJob 64 0).cue < 70 + psCycles 30000 / max 1 (wJob 64 0).cuePeriod ∧ psCycles 30000 % max 1 (wJob 64 0).cuePeriod = 45
    ∧ 45 ≤ ({ wJob 64 0 with cycle := 100000 } : State).cycle
    ∧ (({ wJob 64 0 with cycle := 45 } : State).edgeOf 64) = 0 ∧ (wJob 64 0).pb.queue = [] := by decide +kernel
/-- Alarm 31 at target 7, before it, at it and after it, with each kind of action. -/
def wAlarm (n act : Nat) : State := wSet (wCue n) [(⟨R.CU_ALARM_TGT 31, 63, 0⟩, 7), (R.CU_ALARM_CTL_ARM 31, 1), (R.CU_ALARM_CTL_ACTION 31, act)]
theorem witness_AlarmsFireAtTheirTarget : (wAlarm 7 0).bit (R.CU_ALARM_CTL_ARM 31) = true ∧ (wAlarm 7 0).fld (R.CU_ALARM_CTL_ACTION 31) = 0
    ∧ (wAlarm 7 0).cue = 7 ∧ (wAlarm 6 0).cue = 6 ∧ (wAlarm 8 1).fld (R.CU_ALARM_CTL_ACTION 31) = 1
    ∧ (wAlarm 8 2).fld (R.CU_ALARM_CTL_ACTION 31) = 2 ∧ ((wAlarm 8 2).reg (R.CU_ALARM_TGT 31)).toNat = 7
    ∧ (wCue 9).bit (R.CU_ALARM_CTL_ARM 31) = false ∧ (wCue 9).setHeld (R.CU_ALARM_CTL 31) = 0
    ∧ 31 ∉ (wAlarm 7 0).now.armed ∧ (31 : Nat) ∈ ({ wAlarm 7 0 with now := { CycleX.init with armed := [31] } } : State).now.armed := by decide +kernel
/-- The master of a job of this seat alone, at the acceptance of its own step-complete; MARGIN below and at 8. -/
def wMaster (margin : Nat) (c : CurtainState) : State :=
  { wSet (wCue 100) [(R.FB_CTL_SEAT, 3), (R.CU_STATUS_MASTER, 1), (R.CU_CTL_MARGIN, margin)] with
    curtain := c, fab := { FabState.init with tree := [4] } }
def wRun : CurtainState := { CurtainState.init with running := true, firstIssue := some 0 }
theorem witness_CurtainCueIsLastAcceptancePlusMargin : (wMaster 7 wRun).bit R.CU_STATUS_MASTER = true
    ∧ (wMaster 7 wRun).curtain.announced = none ∧ (wMaster 7 wRun).curtain.running = true ∧ (wMaster 7 wRun).fld R.CU_STEP_STEP = 0
    ∧ (wMaster 7 wRun).jobSeats = [3] ∧ (wMaster 7 wRun).curtain.completes = [] ∧ (wMaster 7 wRun).fld R.CU_CTL_MARGIN < 8
    ∧ (wMaster 8 wRun).fld R.CU_CTL_MARGIN = 8 ∧ 4 ∈ (wMaster 8 wRun).fab.tree := by decide +kernel
/-- A follower with its step open and done; a master that has seat 3's report and waits for seat 9's. -/
def wFollower (c : CurtainState) : State := { wSet (wCue 100) [(R.FB_CTL_SEAT, 3)] with curtain := c }
def wTwo (c : CurtainState) : State := { wMaster 8 c with job := { JobState.init with seats := [3, 9] } }
theorem witness_StepsEndInTheCurtain_complete : (wFollower wRun).stepOpen = true ∧ (wFollower wRun).stepDone = true
    ∧ (wFollower wRun).bit R.CU_STATUS_MASTER = false ∧ (wFollower { wRun with sent := true }).stepOpen = false
    ∧ (wTwo wRun).jobSeats = [3, 9] ∧ (wTwo wRun).fld R.CU_STEP_STEP = 0
    ∧ (wTwo { wRun with completes := [(3, 5, false)] }).curtain.completes.any (fun c => c.1 == 3) = true
    ∧ (wTwo wRun).curtain.completes.any (fun c => c.1 == 3) = false ∧ (wMaster 8 wRun).stepOpen = true ∧ (wMaster 8 wRun).stepDone = true
    ∧ (wMaster 8 wRun).bit R.CU_STATUS_MASTER = true := by decide +kernel
/-- Announcement heard late (K = 100) and early (K = 101); the drain of classes 0, 2 and 3; reports at K + 31 and K + 32; the verdict at
K + 32; the cut-off at K + 48. -/
def wAnn (k : Nat) (c : CurtainState) : CurtainState := { c with running := true, announced := some k }
theorem witness_StepsEndInTheCurtain_interval : (wFollower wRun).curtain.running = true ∧ (wFollower wRun).cue = 100
    ∧ (wFollower (wAnn 100 .init)).curtain.drain = none ∧ (wFollower (wAnn 100 .init)).curtain.announced = some 100
    ∧ (wFollower (wAnn 100 { CurtainState.init with drain := some 2 })).classDrained 2 = true
    ∧ (wFollower (wAnn 100 { CurtainState.init with drain := some 3 })).classDrained 3 = true
    ∧ (wMaster 8 (wAnn 68 .init)).curtain.set = false ∧ (wMaster 8 (wAnn 68 .init)).cue = 68 + 32 ∧ (wMaster 8 (wAnn 69 .init)).cue < 69 + 32
    ∧ (wMaster 8 (wAnn 68 { CurtainState.init with reports := [(3, false)] })).jobSeats.all (fun q =>
        (wMaster 8 (wAnn 68 { CurtainState.init with reports := [(3, false)] })).curtain.reports.any (fun r => r.1 == q)) = true
    ∧ (wMaster 8 (wAnn 68 .init)).curtain.verdict = none ∧ (wMaster 8 (wAnn 68 .init)).bit R.CU_STATUS_CUT_OFF = false
    ∧ (wMaster 8 (wAnn 100 { CurtainState.init with drain := some 3 })).classDrained 3 = true ∧ (wMaster 8 (wAnn 68 .init)).cue < 68 + 48
    ∧ (wFollower (wAnn 100 { CurtainState.init with drain := some 4 })).curtain.drain = some 4 ∧ (wMaster 8 (wAnn 68 .init)).curtain.completes = []
    ∧ (wFollower (wAnn 52 .init)).cue = 52 + 48 ∧ (wFollower (wAnn 53 .init)).cue < 53 + 48 := by decide +kernel
def wVerdict (v : Bool) : State := wFollower (wAnn 60 { CurtainState.init with verdict := some v })
/-- K + 40, a written shard and one not written. -/
theorem witness_PublishAndDiscard : (wVerdict true).canonical = true ∧ (wVerdict true).curtain.applied = false ∧ (wVerdict true).cue = 60 + 40
    ∧ (wVerdict true).res.opened = none ∧ (wVerdict true).fab.resilDone = [] ∧ (wVerdict false).curtain.verdict = some false
    ∧ (wSet (wVerdict true) [(R.TP_SHARD_W0_VALID 7 1023, 1), (R.TP_SHARD_W0_WRITTEN 7 1023, 1)]).canonical = true
    ∧ (wSet (wVerdict true) [(R.TP_SHARD_W0_VALID 7 1023, 1), (R.TP_SHARD_W0_WRITTEN 7 1023, 1)]).bit (R.TP_SHARD_W0_WRITTEN 7 1023) = true
    ∧ (wSet (wVerdict true) [(R.TP_SHARD_W0_VALID 0 0, 1)]).bit (R.TP_SHARD_W0_WRITTEN 0 0) = false := by decide +kernel

-- Scenes, the loader, the booth.
/-- A scene image of one bundle, END, for tile 5: header, tile list, bundle section; the digest is SHA-512 of the file with the digest
zeroed, computed outside Lean. -/
def wImage : List Byte := leBytes
  0x6000000000000000000000000000000000000000000000000000000000000005c3eada53c587f2a802a742311e750c5899ced0877785f2370f8e5a53cb156e28d65a084abf0ad5a19312822b2cb411e0a325af7ed35652960fd4f88c3ed8ce52000000000000000000000000000000000000000000000000000000100000009000000002000000800000000000010000000100090000000000000001314c5244 160
def wCmd (id opc : Nat) (params : List Byte) : CmdRec :=
  { id := id, session := 0, opcode := opc, quiet := false, seq := 1, cookie := 0, reqCue := 0, taken := 0, params := params, started := true,
    suspended := false, done := 0, total := 0, told := none, word := 0, owed := none }
def wRunning (s : State) (c : CmdRec) : State := { s with host := { HostState.init with cmds := [c] } }
/-- SCENE_ID 9, one image of 160 bytes at the first byte of the wings, MARK. -/
def wLoad : CmdRec := wCmd 1 opcLoadScene (leBytes (9 + 2 ^ 16 + 2 ^ 32) 8 ++ leBytes 7 8 ++ leBytes 0x10000000000 8 ++ leBytes 160 8)
def wLoadIn (l : List Byte) : State := wRunning (State.reset.setBytes 0x10000000000 l) wLoad
theorem witness_LoaderCommitsWhatVerifies_accepted : (wLoadIn wImage).runningCmd opcLoadScene = some wLoad ∧ (wLoadIn wImage).inCurtain = false
    ∧ ((wLoadIn wImage).readImages wLoad).1 = [wImage]
    ∧ (wLoadIn wImage).job.ready = none := by decide +kernel
theorem test_verifier_accepts : (State.reset.verifyScene none [wImage]).isNone = true ∧ (Image.ofBytes wImage).tiles = [5] := by decide +kernel
/-- One bit of the bundle changed: DIGEST (0x12), the check after IMG_FORMAT. -/
theorem test_verifier_digest : (State.reset.verifyScene none [wImage.set 159 0]).map (fun p => (p.1, p.2.code)) = some (0, 0x12) := by decide +kernel
theorem test_verifier_format : (State.reset.verifyScene none [wImage.set 4 2]).map (fun p => (p.1, p.2.code, p.2.detail)) = some (0, 0x11, 4) := by
  decide +kernel
theorem witness_LoaderCommitsWhatVerifies_rejected : (wLoadIn (wImage.set 4 2)).runningCmd opcLoadScene = some wLoad
    ∧ (((wLoadIn (wImage.set 4 2)).readImages wLoad).2.verifyScene (wLoadIn (wImage.set 4 2)).planTiles ((wLoadIn (wImage.set 4 2)).readImages wLoad).1).isSome = true
    ∧ ((wLoadIn (wImage.set 4 2)).readImages wLoad).2.planTiles = none := by
  decide +kernel
/-- The standby bank B of tile 5, the bank A in use, the first byte and the last before the commit word. -/
theorem witness_LoaderCommitsWhatVerifies_banks : wTile.bankInUse 5 ≠ (1 : Fin 2).val ∧ wTile.bankInUse 5 = (0 : Fin 2).val
    ∧ (0x1FFEF : Fin 0x20000).val + 1 ≤ 0x1FFF0 ∧ (0x1FFF0 : Fin 0x20000).val + (leBytes 1 16).length = 0x20000
    ∧ (((leBytes 1 16).drop (0x1FFF0 - 0x1FFF0)).headD 0).toNat % 2 = 1 := by decide +kernel
theorem witness_BoothControlsTiles : wTile.fld (R.TA_SEQ_STATE 5) ≠ seqHalted ∧ wTile.bit (R.TA_HALT0_VALID 5) = false
    ∧ (wTile.issuePt 5).rep < 2 ^ 13 ∧ (wSet wTile [(R.TA_SEQ_STATE 5, seqHalted)]).fld (R.TA_SEQ_STATE 5) = seqHalted
    ∧ ((wSet wTile [(R.TA_SEQ_STATE 5, seqHalted)]).tile 5).xfers = [] ∧ wTile.now.entered = [] ∧ wTile.now.issued = []
    ∧ (({ wTile with now := { CycleX.init with issued := [⟨5, wTile.issuePt 5, TileX.init, 0, DcLive.init⟩] } } : State).now.issued.map (fun n => n.tile)) = [5] := by decide +kernel
def wScene (c : SceneState) : State := { wCue 100 with scene := c }
def wStaged : SceneState := { SceneState.init with staged := [⟨9, [wImage], 7, [], List.replicate 8 0, [], []⟩] }
def wChange (begun saved loaded : Bool) (waves : List Nat) : SceneChange := ⟨100, some 9, begun, saved, loaded, waves⟩
def wIn (ch : SceneChange) : State := wScene { wStaged with change := some ch, images := [wImage] }
/-- SCENE_CHANGE to a staged scene and to none; SCENE_RESTORE with and without a save; the cue before and at C; each wave. -/
theorem witness_SceneChangesAtTheirCue :
    (wRunning (wScene wStaged) (wCmd 1 opcSceneChange (leBytes 9 2))).nextChange opcSceneChange = some (wCmd 1 opcSceneChange (leBytes 9 2))
    ∧ ((wScene wStaged).staged? ((wCmd 1 opcSceneChange (leBytes 9 2)).par 0 2)).isSome = true ∧ (wScene wStaged).staged? 8 = none
    ∧ (wRunning (wScene wStaged) (wCmd 1 opcSceneRestore [])).nextChange opcSceneRestore = some (wCmd 1 opcSceneRestore [])
    ∧ ({ wChange true true true [0] with scene := none } : SceneChange).scene = none ∧ (wScene wStaged).res.recovering = false
    ∧ (wScene wStaged).scene.saved = none ∧ (wScene wStaged).scene.change = none
    ∧ (wIn (wChange false false false [])).scene.change = some (wChange false false false []) ∧ (wIn (wChange false false false [])).cue = 100
    ∧ (wIn ⟨101, some 9, false, false, false, []⟩).cue < 101
    ∧ (wChange true false false [0, 1, 2]).waves.length = (3 : Fin 4).val ∧ (wChange true true true [0, 1, 2]).loaded = true := by decide +kernel
def wSave : State := wIn (wChange true false false [0, 1, 2, 3])
def wSaved : SavedScene := { id := 9, images := [wImage], seed := 7, cue := 50, tiles := [], notices := [], alarms := [], queues := [], gens := [], psn := [] }
theorem witness_SceneRecordsMoveToAndFrom : wSave.canonical = true ∧ (∀ p ∈ wSave.regs, tileSpace p.1 = none)
    ∧ (List.range 4).all (fun c => wSave.classDrained c) = true ∧ wSave.tilesOfScene = [5] ∧ (wSave.tile 5).quiet = true
    ∧ (List.range 8).all (fun k => (wSave.teStack k).running.isEmpty) = true ∧ wSave.scene.rollout = false
    ∧ ((wIn (wChange true true false [])).staged? 9).isSome = true
    ∧ (wScene { wStaged with change := some ⟨100, none, false, false, false, []⟩, saved := some wSaved }).scene.saved = some wSaved
    ∧ (wScene { wStaged with change := some ⟨100, none, false, false, false, []⟩, saved := some wSaved }).res.deferred = []
    ∧ (wScene { wStaged with change := some ⟨100, none, true, true, false, []⟩, saved := some wSaved, rollout := true }).canonical = true
    ∧ (wScene { wStaged with change := some ⟨100, none, true, false, false, [0, 1, 2, 3]⟩, saved := some wSaved, rollout := true }).cue = 100 := by decide +kernel
/-- A first scene start; K + 64 and one cue before it. -/
def wStep (k : Nat) (starting : Bool) : State := { wScene { wStaged with images := [wImage] } with
  curtain := { wAnn k { CurtainState.init with applied := true, verdict := some true } with starting := starting } }
theorem witness_FirstIssuesOfStepAndScene : (wStep 36 true).curtain.starting = true ∧ (wStep 36 true).tilesOfScene = [5]
    ∧ (wStep 36 true).bit (R.TA_BANKCTL_MARK 5) = false ∧ (wStep 36 false).curtain.left ≠ some 0 ∧ (wStep 36 false).cue = 36 + 64
    ∧ (wStep 36 false).curtain.verdict = some true ∧ (wStep 37 false).cue < 37 + 64 ∧ (wStep 36 false).curtain.resumeAt = none ∧ (wStep 36 false).curtain.stopAsked = false
    ∧ (wStep 36 false).gapWork = false ∧ (wStep 36 true).tilesOfScene.all (fun t => decide (t < 2048)) = true
    ∧ (wRunning (wStep 36 false) wLoad).gapWork = true := by
  decide +kernel

-- Memory, trap engines, dress checks.
theorem witness_StackAndCacheUpkeep : State.reset.jobOpen = false ∧ (8 : Word).toNat % 16 ≤ 8 ∧ (8 : Word).toNat % 16 ≠ State.reset.fld R.WG_CACHE_CTL_SIZE
    ∧ (wSet State.reset [(R.BT_JOB_OPEN, 1)]).jobOpen = true ∧ (wSet State.reset [(R.WG_CACHE_CTL_BUSY, 1)]).bit R.WG_CACHE_CTL_BUSY = true
    ∧ unitBase (.wings 0 0x7F) 0x1000000007F = 0x10000000078 ∧ unitSize (.wings 0 0x7F) = 8
    ∧ regionOf State.reset.cacheN 0x1000000007F = .wings 0 0x7F ∧ State.reset.fld (R.TP_STATUS_STEP 7) ≤ 5
    ∧ (match regionOf 0 0x1000 with | .trap k _ => (wSet State.reset [(R.TP_STATUS_ONLINE k, 1)]).bit (R.TP_STATUS_ONLINE k) | _ => false) = true
    ∧ regionOf 8 0x10170000000 = .unmapped ∧ sliceDie 8 0x10170000000 = some 0 ∧ regionOf 0 0x10F00000000000 = .unmapped
    ∧ sliceDie 0 0x10F00000000000 = none
    ∧ State.reset.flaws = [] ∧ (wSet State.reset [(R.TP_STATUS_ONLINE 7, 1)]).poisoned 0xF000000000 = false
    ∧ unitBase (.trap 7 0) 0xF000000000 = 0xF000000000 ∧ ({ wSet State.reset [(R.TP_STATUS_ONLINE 7, 1)] with poison := [(0xF000000000, true)] } : State).poisoned 0xF000000000 = true
    ∧ ({ wSet State.reset [(R.TP_STATUS_ONLINE 7, 1)] with poison := [(0xF000000000, true)] } : State).flaws = [] := by decide +kernel
def wRetire (used : Nat) : State := wRunning (wSet State.reset [(R.TP_SPARES_USED 0, used)]) (wCmd 1 opcRetirePage (leBytes 0 8))
theorem witness_StackAndCacheUpkeep_retire : (wRetire 0).runningCmd opcRetirePage = some (wCmd 1 opcRetirePage (leBytes 0 8))
    ∧ (trapHome ((wCmd 1 opcRetirePage (leBytes 0 8)).par 0 8)).1 < 8 ∧ (wRetire 0).fld (R.TP_SPARES_USED 0) < (wRetire 0).fld (R.TP_SPARES_TOTAL 0)
    ∧ (trapHome 32).1 = (trapHome ((wCmd 1 opcRetirePage (leBytes 0 8)).par 0 8)).1
    ∧ (wRetire 0xFFFF).fld (R.TP_SPARES_TOTAL 0) ≤ (wRetire 0xFFFF).fld (R.TP_SPARES_USED 0) := by decide +kernel
/-- A B32 reduce-write of tile 5 into the wings of die 7; one into G of the entry 1023 of stack 7 while it is zeroed. -/
def wZero : State :=
  { wSet State.reset [(R.TP_SHARD_W0_VALID 7 1023, 1), (R.TP_SHARD_W0_GCODE 7 1023, 2), (R.TP_SHARD_W1_ELEMENTS 7 1023, 4),
      (R.TP_SHARD_W11_BASE_G 7 1023, 0xF000000000), (R.TP_STATUS_ONLINE 7, 1)] with te := [(7, { TeStack.init with zeroing := [1023] })] }
theorem witness_ReduceWritesAddAtTheirHome : regionOf State.reset.cacheN 0x10E00000000 = .wings 7 0
    ∧ State.reset.flaws = [] ∧ State.reset.poison = [] ∧ allowed (masterOf 0x805) true true (.wings 7 0) 0x10E00000000 = true ∧ State.reset.nameHit 0x10E00000000 4 true = .none
    ∧ wZero.nameHit 0xF000000000 16 true = .none ∧ (0x805 : BitVec 12).toNat ≠ 5
    ∧ (FmtWord.ofWord (2 : BitVec 16).toNat).map (fun f => reduceFmt f.fmt) = some true
    ∧ regionOf wZero.cacheN 0xF000000000 = .trap 7 0x1000000000 ∧ allowed (masterOf 0x805) true true (.trap 7 0x1000000000) 0xF000000000 = true
    ∧ wZero.gradEntries 0xF000000000 16 = [(7, 1023, 16)] ∧ 1023 ∈ (wZero.teStack 7).zeroing ∧ wZero.bit (R.TP_SHARD_W0_FIRED 7 1023) = false
    ∧ wZero.fld (R.TP_SHARD_W12_EXPECT 7 1023) = 0 ∧ wZero.fld (R.TP_SHARD_W13_ARRIVED 7 1023) + 16 < 2 ^ 48
    ∧ State.reset.boot.failed.contains 0x107 = false
    ∧ (List.range 16).all (fun j => pinnedStack ((wZero.gradRange 7 1023).1 + j) == some 7) = true ∧ (wZero.gradRange 7 1023).2 = 16
    ∧ wZero.bit (R.TP_STATUS_ONLINE 7) = true ∧ wZero.cache = [] ∧ wZero.poison = [] ∧ wZero.flaws = [] ∧ (wZero.teStack 7).heldRw = [] ∧ 1022 ∉ (wZero.teStack 7).zeroing := by decide +kernel
/-- A FILL of 4097 bytes of the wings of die 7, posted by the booth, its record in the stack's pinned range. -/
def wFill : TeDesc := [teFill * 2 ^ 56 + 2 * 2 ^ 50, 0, 0, 0x10E00000000, 0, 4097, 0, 0xF000000000]
def wNorm : TeDesc := [teNorm * 2 ^ 56, 0, 0, 0, 0, 0, 0, 0]
def wRunTe (d : TeDesc) (unit units : Nat) : TeRun := ⟨d, 1, units, unit, if unit < units then [⟨15, []⟩] else [], .init, [], 0⟩
def wStack (x : TeStack) : State := { State.reset with te := [(7, x)] }
theorem witness_DescriptorsQueueStartAndComplete :
    (0x8000000000000000 : Word).getLsbD 63 = true ∧ pinnedStack (State.reset.fld (R.TP_SHARD_W11_BASE_G 7 1023)) ≠ some 7
    ∧ 0 < (wSet State.reset [(R.TP_BQ_STATUS_FREE 7, 1)]).fld (R.TP_BQ_STATUS_FREE 7)
    ∧ (wSet State.reset [(R.TP_BQ_STATUS_FREE 7, 0)]).fld (R.TP_BQ_STATUS_FREE 7) = 0
    ∧ roundRobin 3 2 (fun i => ((wStack { TeStack.init with boothQ := [wFill], srcPtr := 2 }).startable 7 i).isSome) = some 1
    ∧ (wStack { TeStack.init with boothQ := [wFill], srcPtr := 2 }).startable 7 1 = some wFill
    ∧ State.reset.malformed 7 wFill = false ∧ State.reset.malformed 7 [0xFF * 2 ^ 56, 0, 0, 0, 0, 0, 0, 0] = true
    ∧ ((wStack { TeStack.init with running := [wRunTe wFill 2 2] }).teStack 7).running[0]? = some (wRunTe wFill 2 2)
    ∧ wZero.gradRange 7 1023 = (0xF000000000, 16) ∧ pinnedStack (wZero.fld (R.TP_SHARD_W11_BASE_G 7 1023)) = some 7
    ∧ roundRobin 3 0 (fun i => (State.reset.startable 7 i).isSome) = none ∧ (wRunTe wFill 1 2).unit < (wRunTe wFill 1 2).units
    ∧ (decB64 0x7FF0000000000000).isInf = true ∧ wFill.notify = 2 ∧ State.reset.bit (R.TP_CLIP_STATUS_PENDING 7) = false
    ∧ (decB64 0x3FF0000000000000).isNan = false ∧ (decB64 0x3FF0000000000000).isInf = false
    ∧ (wSet State.reset [(R.TP_CLIP_STATUS_PENDING 7, 1)]).bit (R.TP_CLIP_STATUS_PENDING 7) = true
    ∧ ((wSet State.reset [(R.TP_CLIP_STATUS_PENDING 7, 1)]).teStack 7).clipReruns = [] := by decide +kernel
def wBases : State := wSet wZero [(R.TP_SHARD_W3_BASE_P0 7 1023, 0xF000001000), (R.TP_SHARD_W4_BASE_P1 7 1023, 0xF000002000),
  (R.TP_SHARD_W5_BASE_R0 7 1023, 0xF000003000), (R.TP_SHARD_W6_BASE_R1 7 1023, 0xF000004000), (R.TP_SHARD_W7_BASE_M0 7 1023, 0xF000005000),
  (R.TP_SHARD_W8_BASE_M1 7 1023, 0xF000006000), (R.TP_SHARD_W9_BASE_V0 7 1023, 0xF000007000), (R.TP_SHARD_W10_BASE_V1 7 1023, 0xF000008000)]
theorem witness_entry_inside : ∀ c copy, pinnedStack (wBases.compBase 7 1023 c copy) = some 7 := by
  intro c copy
  cases c <;> rcases copy with _ | copy <;> simp only [State.compBase] <;> decide +kernel
theorem witness_clip_no_spec : ∀ idx, idx < 1024 → State.reset.bit (R.TP_SHARD_W0_SPEC 7 idx) = false := by
  intro i hi
  have e : State.reset.reg (R.TP_SHARD_W0_SPEC 7 i).addr = 0 := by
    show regReset (R.TP_SHARD_W0 7 i) = 0
    exact regReset_zero_within (lo := R.TP_SHARD_W0 7 0) (hi := R.TP_SHARD_W0 7 1023) (by simp only [R.TP_SHARD_W0]; omega)
      (by simp only [R.TP_SHARD_W0]; omega) (resetPerCopy_none (by simp only [R.TP_SHARD_W0]; omega) (by simp only [R.TP_SHARD_W0]; omega)
      (by simp only [R.TP_SHARD_W0]; omega)) (by decide +kernel)
  have z : ∀ a b, bitsOf 0 a b = 0 := by intro a b; simp [bitsOf]
  simp only [State.bit, State.fld, e]
  simp [z]
/-- The second unit, of one byte, of the FILL; a descriptor of another operation; one with no unit left. -/
theorem witness_TrapEngineWorkUnits : ((wStack { TeStack.init with running := [wRunTe wFill 1 2] }).teStack 7).running[0]? = some (wRunTe wFill 1 2)
    ∧ wFill.op = teFill ∧ wFill.op ≠ teNorm ∧ wNorm.op = teNorm ∧ State.reset.teCount 7 wFill = 4097
    ∧ regionOf State.reset.cacheN (wFill.addrB + 4096) = .wings 7 4096 ∧ State.reset.boot.failed.contains 0x107 = false
    ∧ (wRunTe wFill 2 2).units ≤ (wRunTe wFill 2 2).unit ∧ (wRunTe wFill 1 2).flight = [⟨15, []⟩] ∧ (wRunTe wFill 2 2).flight = [] := by decide +kernel
/-- The cue has just begun; a report owed by the running job start, 10 ms after the last PROGRESS. -/
def wBegun (s : State) : State := { s with now := { s.now with cueNew := true } }
def wOwed : State :=
  { wRunning (wSet State.reset [(⟨R.FH_SESS_CFG 0, 63, 0⟩, 2 ^ 63)]) { wCmd 1 opcJobStart [] with owed := some 5 } with cycle := 0 }
def wSample : DcRec := .conv 7 3 ⟨.b32, 16, false, 0⟩ ⟨.sk16, 16, false, 0⟩ 1 1 [0, 0, 0, 0] [(0, 0), (1, 0)]
theorem witness_DressChecksCountAndSnapshot : ({ State.reset with dcQueue := [wSample] } : State).dcQueue.find? (fun q => q.die == 7) = some wSample
    ∧ ({ State.reset with dcWaiting := true } : State).dcWaiting = true ∧ State.reset.dcWaiting = false ∧ State.reset.host.cmds = []
    ∧ (wScene { wStaged with rollout := true }).scene.rollout = true ∧ (wCue 1024).cue % 1024 = 0 ∧ (wCue 1024).cue = 1024
    ∧ ((wCue 1024).reg R.TA_DC_SNAP).toNat ≠ (wCue 1024).cue ∧ ((wCue 0).reg R.TA_DC_SNAP).toNat = (wCue 0).cue
    ∧ (wBegun (wCue 1024)).now.cueNew = true ∧ (wCue 1024).now.cueNew = false ∧ (∀ c ∈ State.reset.host.cmds, c.owed = none)
    ∧ (wBegun (wCue 1024)).cue = 1024 ∧ ((wBegun (wCue 1024)).reg R.TA_DC_SNAP).toNat = 0
    ∧ wOwed.host.cmds.find? (fun c => c.opcode == opcJobStart && c.started) = some { wCmd 1 opcJobStart [] with owed := some 5 }
    ∧ wOwed.dcWaiting = false ∧ (wCmd 1 opcJobStart []).told = none ∧ wOwed.hostSess 0 = true ∧ wOwed.host.warmCmd = false ∧ wOwed.stsFree 0 ≠ 0
    ∧ wOwed.host.waits = [] := by
  decide +kernel
-- Plans.
/-- One layer, one stage, seats 0 and 1 of company 0, each holding it; and the same with a reserve too small for the job record. -/
def wDesc (reserve : Nat) : JobDesc :=
  { layers := [⟨[⟨1, [1, 1, 1], [2]⟩], 1, 1, 1, 1, 1, 0, 0, 0, 0⟩], tensors := [], t := 2, stages := 1, d := 1, micro := 1, samples := 1, clip := false,
    seats := [⟨0, 0, false, 0, 0, 0⟩, ⟨1, 1, false, 0, 0, 0⟩], dims := [1, 1, 1], reserve := reserve, sets := [] }
def wPlan (permuting reshard : Bool) : PendingPlan := ⟨wDesc (2 ^ 27), ⟨[], [], 0, 0⟩, 77, [], reshard, permuting, 0⟩
def wPlace (o : Nat) (pp : Option PendingPlan) : State := { wRunning State.reset (wCmd 1 o []) with job := { JobState.init with plan := pp } }
theorem witness_PlansAreExchangedBeforeTheyApply : (wPlace opcPlace none).runningCmd opcPlace = some (wCmd 1 opcPlace [])
    ∧ (wPlace opcReshard none).runningCmd opcReshard = some (wCmd 1 opcReshard [])
    ∧ (wPlace opcPlace none).job.plan = none ∧ (wPlace opcPlace none).job.planIds = [] ∧ (wPlace opcPlace none).mySeat = 0
    ∧ (wPlace opcPlace none).res.lost.contains 1 = false
    ∧ (makePlan (wDesc (2 ^ 27)) (wPlace opcPlace none).partInputs none false).result = 0
    ∧ (makePlan (wDesc (2 ^ 27 - 1)) (wPlace opcPlace none).partInputs none false).result = 6
    ∧ (wPlace opcPlace (some (wPlan false false))).job.plan = some (wPlan false false) ∧ (wPlan false false).id ≠ (78 : Word).toNat
    ∧ (wPlace 0 (some (wPlan true true))).fld R.BK_PERMUTE_BYTES_LEFT = 0 ∧ (wPlace 0 (some (wPlan true true))).resWait jobPermute = 0
    ∧ (wPlace 0 (some (wPlan true true))).res.recovering = false ∧ (wPlace 0 (some (wPlan true true))).runningCmd opcReshard = none
    ∧ (wPlace 0 (some (wPlan true true))).anyCmd opcReshard CmdRec.suspended = false := by
  decide +kernel
/-- Placing and applying (STATE 1 and 4); every PLAN_ID heard, at a step gap; a plan that no longer fits the wings, and one that waits for the load. -/
def wState (n : Nat) (s : State) : State := wSet s [(R.BK_STATUS_STATE, n)]
def wHeard (o : Nat) (pp : PendingPlan) (applied : Option Plan) : State :=
  { wPlace o (some pp) with job := { JobState.init with plan := some pp, planIds := [(1, pp.id)], applied := applied } }
def wBig : Plan :=
  let l := (makePlan (wDesc (2 ^ 27)) State.reset.partInputs none false).seats
  { (wPlan false false).plan with seats := l.map (fun q => { q with wings := [2 ^ 44] }) }
def wReady (p : Plan) : State := { wState 4 (wLoadIn wImage) with job := { JobState.init with ready := some { wPlan false false with plan := p } } }
theorem witness_PlansAreExchangedBeforeTheyApply_states : (wPlace opcPlace none).fld R.BK_STATUS_STATE ≠ 1
    ∧ (wState 1 (wPlace opcPlace none)).fld R.BK_STATUS_STATE = 1 ∧ (wState 1 (wPlace opcPlace none)).job.applied = none
    ∧ (wState 1 (wPlace opcPlace none)).runningCmd opcPlace = some (wCmd 1 opcPlace [])
    ∧ (makePlan ((wDesc (2 ^ 27)).keeping none) (wState 1 (wPlace opcPlace none)).partInputs none false).result = 0
    ∧ (makePlan (wDesc (2 ^ 27)) (wState 1 (wPlace opcPlace none)).partInputs none true).result = 0
    ∧ (wHeard opcPlace (wPlan false false) (some wBig)).stepGap = true ∧ (wHeard opcPlace (wPlan false false) (some wBig)).job.planIds = [(1, 77)]
    ∧ (wHeard opcPlace (wPlan false false) (some wBig)).planFits (wPlan false false).plan = true
    ∧ (wHeard opcPlace (wPlan false false) (some wBig)).planFits wBig = false
    ∧ (wState 4 (wHeard opcPlace (wPlan false false) (some wBig))).fld R.BK_STATUS_STATE = 4
    ∧ (wPlan false true).reshard = true ∧ (wPlan false false).desc.seats.map (fun q => q.seat) = [0, 1]
    ∧ (wHeard opcPlace (wPlan false false) none).job.applied = none
    ∧ (wState 4 (wPlace 0 (some (wPlan true true)))).fld R.BK_STATUS_STATE = 4 := by decide +kernel
theorem witness_LoaderCommitsWhatVerifies_ready : (wReady wBig).job.ready = some { wPlan false false with plan := wBig }
    ∧ (wReady wBig).planFits wBig = false ∧ (wReady (wPlan false false).plan).planFits (wPlan false false).plan = true
    ∧ (wReady wBig).fld R.BK_STATUS_STATE = 4 ∧ (wReady wBig).runningCmd opcLoadScene = some wLoad ∧ (wReady wBig).inCurtain = false
    ∧ (wState 3 (wReady wBig)).fld R.BK_STATUS_STATE ≠ 4 := by decide +kernel
/-- A rollout over eight layers, and over seven, which cannot be split over the dies. -/
def wRoll (n : Nat) : RolloutDesc := ⟨List.replicate n 1, List.replicate n 1, [], [0], []⟩
def wStageIn (l : List Byte) : State := wRunning (State.reset.setBytes 0x10000000000 l) (wCmd 1 opcStageScene wLoad.params)
theorem witness_PlansAreExchangedBeforeTheyApply_images :
    ((wStageIn wImage).readImages (wCmd 1 opcStageScene wLoad.params)).1 = [wImage] ∧ (Image.ofBytes wImage).tiles = [5]
    ∧ (((wStageIn wImage).readImages (wCmd 1 opcStageScene wLoad.params)).2.verifyScene none [wImage]).isNone = true
    ∧ (((wStageIn wImage).readImages (wCmd 1 opcStageScene wLoad.params)).2.rolloutPlan (wRoll 8) 9 [wImage]).1 = 0
    ∧ (((wStageIn (wImage.set 4 2)).readImages (wCmd 1 opcStageScene wLoad.params)).2.verifyScene none [wImage.set 4 2]).isSome = true := by
  decide +kernel
def wStageCmd : State := wRunning State.reset (wCmd 1 opcStageScene [9])
theorem witness_PlansAreExchangedBeforeTheyApply_stage : wStageCmd.runningCmd opcStageScene = some (wCmd 1 opcStageScene [9])
    ∧ wStageCmd.inCurtain = false ∧ (wStageCmd.verifyScene none (wStageCmd.readImages (wCmd 1 opcStageScene [9])).1).isNone = true
    ∧ ((wStageCmd.readImages (wCmd 1 opcStageScene [9])).2.rolloutPlan (wRoll 8) 9 []).1 = 0
    ∧ ((wStageCmd.readImages (wCmd 1 opcStageScene [9])).2.rolloutPlan (wRoll 7) 9 []).1 = 8 := by decide +kernel

-- Fabric.
/-- Port 4 in a state, with what the port holds. -/
def wPort (st : Nat) (x : FPort) : State := { wSet State.reset [(R.FB_PORT_STATUS_STATE 4, st)] with fab := { FabState.init with ports := [(4, x)] } }
theorem witness_quiet : ResQuiet (wPort 2 .init) := ⟨rfl, rfl, rfl⟩
theorem witness_LinksTrainAndGoDown : (wPort 1 .init).fld (R.FB_PORT_STATUS_STATE 4) = 1 ∧ (laneChoice 12).1 ≠ 0 ∧ (laneChoice 0).1 = 0
    ∧ (5000000 : BitVec 32).toNat ≤ 5000000 ∧ (wPort 1 .init).modeCode ≠ 1 ∧ ((wPort 1 { FPort.init with attempts := 2 }).port 4).attempts = 2
    ∧ (wPort 2 .init).portUp 4 = true ∧ (wPort 2 .init).fab.ctls = [] ∧ (wPort 2 .init).fab.reqs = [] ∧ (wPort 2 .init).job.seats = [] ∧ (wPort 2 .init).bit (R.FB_PORT_CFG_DISABLE 4) = false
    ∧ ((wPort 2 .init).port 4).heardAt + 15000 ≤ ({ wPort 2 .init with cycle := 15000 } : State).cycle
    ∧ (wPort 2 .init).cycle < ((wPort 2 .init).port 4).heardAt + 15000
    ∧ (wSet (wPort 3 .init) [(R.FB_PORT_CFG_DISABLE 4, 1)]).bit (R.FB_PORT_CFG_DISABLE 4) = true ∧ (wPort 3 .init).portUp 4 = false
    ∧ ({ FPort.init with ret := [1, 0, 0, 0, 0, 0, 0, 0] } : FPort).ret.all (fun n => n == 0) = false
    ∧ ((wPort 2 { FPort.init with asked := true }).port 4).asked = true ∧ ((wPort 2 { FPort.init with asked := true }).port 4).askedAt + 3000 ≤ 3000 := by
  decide +kernel
def wPkt (op addr : Nat) (data : List Byte) : Pkt := ⟨op, 0, addr, 9, 0x805, false, 0, 2, 77, 0, 0, 0, 3, data⟩
def wFlit (good : Bool) (seq : Nat) : Flit := ⟨seq, 4095, 2, true, true, good, .cls (wPkt opWrite 0x10E00000000 [1, 2, 3, 4]).toBytes⟩
def wOut : OutPkt := ⟨16, 0, 0, { wPkt opWrite 0x10E00000000 [1, 2, 3, 4] with dst := 1 }⟩
def wArr : FPort := { FPort.init with arrived := [(7, wPkt opWrite 0x10E00000000 [1, 2, 3, 4])] }
/-- The flit on the wire, whole or touched by an uncorrectable codeword. -/
def wWire (good : Bool) (seq : Nat) : WireFlit := ⟨flitBytes (wFlit true seq), !good⟩
theorem witness_FlitsArriveInOrderOrAreRetried_wire : (readFlit 0 (wWire true 4095)).good = true ∧ (readFlit 0 (wWire true 4095)).seq = 4095
    ∧ (readFlit 0 (wWire true 4095)).sop = true ∧ (readFlit 0 (wWire true 4095)).eop = true
    ∧ (readFlit 0 (wWire true 4095)).body = .cls (flitFront (wFlit true 4095)) ∧ (readFlit 0 (wWire false 4095)).good = false
    ∧ (readFlit 0 ⟨(wWire true 4095).bytes.set 3 0xFF, false⟩).good = false ∧ (wWire true 4095).bytes.length = 256 := by decide +kernel
/-- A RETRY flit on the wire is read as the RETRY it is; so is an ACK of two records. -/
theorem test_flit_control : (readFlit 0 ⟨flitBytes ⟨1, 2, 0, false, false, true, .ctl (.retry 4095)⟩, false⟩).body = .ctl (.retry 4095)
    ∧ (readFlit 0 ⟨flitBytes ⟨1, 2, 0, false, false, true, .ctl (.ack 9 [⟨1, 9, 0x805, 77, 4096, 0x43⟩, ⟨1, 9, 3, 78, 1, 0⟩])⟩, false⟩).body
      = .ctl (.ack 9 [⟨1, 9, 0x805, 77, 4096, 0x43⟩, ⟨1, 9, 3, 78, 1, 0⟩]) := by decide +kernel
theorem witness_FlitsArriveInOrderOrAreRetried : ((wPort 2 { FPort.init with rxSeq := 4095 }).port 4).rxSeq = 4095
    ∧ (wFlit true 5).seq ≠ ((wPort 2 .init).port 4).rxSeq ∧ (wFlit false 0).good = false ∧ ((wPort 2 .init).port 4).asked = false
    ∧ 1 < (wSet (wPort 2 .init) [(R.FB_CTL_RETRY_MAX, 4)]).fld R.FB_CTL_RETRY_MAX
    ∧ ((wPort 2 { FPort.init with ctlq := [(0, .idle)] }).port 4).ctlq.find? (fun q => q.1 == 0) = some (0, .idle)
    ∧ (wPort 2 { FPort.init with outq := [wOut], tk := [1, 0, 0, 0, 0, 0, 0, 0] }).grant 4 = some wOut
    ∧ ((wPort 2 { FPort.init with outq := [wOut], tk := [1, 0, 0, 0, 0, 0, 0, 0] }).port 4).nextCtl = none ∧ wOut.input = 16 ∧ wOut.vc < 8 ∧ (flitBodies 18 wOut.pkt.toBytes).length = 1
    ∧ ((wPort 2 { FPort.init with going := some ⟨wOut, [[1], [2]], false⟩ }).port 4).going = some ⟨wOut, [1] :: [[2]], false⟩
    ∧ (wPort 2 wArr).routeHeld (wPkt opWrite 0x10E00000000 [1, 2, 3, 4]).dst = false ∧ (wPkt opWrite 0x10E00000000 [1, 2, 3, 4]).op ≠ opMgmt
    ∧ ((wPort 2 wArr).port 4).arrived = [(7, wPkt opWrite 0x10E00000000 [1, 2, 3, 4])] ∧ (wPort 2 wArr).mySeat = 0
    ∧ (let s := { wSet (wPort 2 .init) [(R.FB_CPATH_VIA, 15 * 16 ^ 4)] with fab := { (wPort 2 .init).fab with inject := [{ wOut.pkt with dst := 4 }] } }
       s.fab.inject.find? (fun k => !s.routeHeld k.dst) = some { wOut.pkt with dst := 4 } ∧ s.route 4 16 0 = some (4, 0, false)
         ∧ s.portUp 4 = true ∧ s.poolBars 4 { wOut.pkt with dst := 4 } = false) := by decide +kernel
def wIn' (k : Pkt) (reqs : List FReq) : State := { State.reset with fab := { FabState.init with inbox := [k], reqs := reqs } }
def wReq (op : Nat) : FReq := ⟨77, 0x805, 9, op, 0x10E00000000, 4, 0x10000000000, 100, .glob 5 1⟩
theorem witness_PacketsArePerformedAndAnswered :
    (wIn' (wPkt opWrite 0x10E00000000 [1, 2, 3, 4]) []).firstIn opWrite = some (wPkt opWrite 0x10E00000000 [1, 2, 3, 4])
    ∧ (wIn' (wPkt opRwAdd 0x10E00000000 [1, 2, 3, 4]) []).firstIn opRwAdd = some (wPkt opRwAdd 0x10E00000000 [1, 2, 3, 4])
    ∧ (wIn' (wPkt opRwXor 0x10E00000000 [1, 2, 3, 4]) []).firstIn opRwXor = some (wPkt opRwXor 0x10E00000000 [1, 2, 3, 4])
    ∧ (wIn' (wPkt opReadReq 0x10E00000000 []) []).firstIn opReadReq = some (wPkt opReadReq 0x10E00000000 [])
    ∧ (List.range 4).all (fun j => regionOf 0 (0x10E00000000 + j) == .wings 7 j) = true ∧ State.reset.boot.failed.contains 0x107 = false
    ∧ State.reset.job.incoming = [] ∧ State.reset.flaws = [] ∧ (wPkt opWrite 0x10E00000000 [1, 2, 3, 4]).pmask = 0 ∧ (FmtWord.ofWord (wPkt opRwAdd 0 []).fmt).map (fun f => reduceFmt f.fmt) = some true := by decide +kernel
theorem witness_PacketsArePerformedAndAnswered_replies :
    (wIn' (wPkt opReadResp 0 [1]) []).firstIn opReadResp = some (wPkt opReadResp 0 [1])
    ∧ (wIn' (wPkt opReadResp 0 [1]) [wReq opReadReq]).fab.reqs.find? (fun r => r.tag == 77 % 2 ^ 15 && r.op == opReadReq) = some (wReq opReadReq)
    ∧ (wReq opReadReq).owner = .glob 5 1 ∧ (0 : BitVec 15).toNat = State.reset.mySeat
    ∧ (wIn' (wPkt opReadResp 0 [1]) [wReq opWrite]).fab.reqs.find? (fun q => q.tag == 77 % 2 ^ 15 && q.op != opReadReq) = some (wReq opWrite)
    ∧ (wIn' (wPkt opReadResp 0 [1]) [wReq opWrite]).fab.reqs.find? (fun r => r.tag == (77 : BitVec 15).toNat) = some (wReq opWrite)
    ∧ (wReq opWrite).sent + (wSet (wCue 105) [(R.FB_CTL_RESP_TIMEOUT, 5)]).fld R.FB_CTL_RESP_TIMEOUT ≤ (wCue 105).cue
    ∧ (wCue 104).cue < (wReq opWrite).sent + (wSet (wCue 105) [(R.FB_CTL_RESP_TIMEOUT, 5)]).fld R.FB_CTL_RESP_TIMEOUT
    ∧ (let s := { State.reset with fab := { FabState.init with lostSeats := [9] }, res := { ResState.init with lost := [9] } }
       s.isLost 9 = true ∧ s.res.lost.contains 9 = true ∧ (∀ q ∈ s.fab.lostSeats, s.res.lost.contains q = true)) := by decide +kernel
/-- A barrier of set 15 between seats 0 and 1, begun or not, heard or not. -/
def wBarrier (begun : Bool) (heard : List Nat) : CollRun :=
  ⟨0, 15, 3, [ceBarrier * 2 ^ 56 + 15 * 2 ^ 52, 0, 0, 0, 0, 0, 0, 0], [0, 1], begun, [], [], [], [], [], false, 0, heard, none, 0, false, 0⟩
def wColl (f : FabState) : State := { wCue 100 with fab := f }
theorem witness_CollectivesRunByTheirQueues :
    (wColl { FabState.init with ceQ0 := List.replicate 15 [] }).fab.ceQ0.length < 16 ∧ 16 ≤ (wColl { FabState.init with ceQ1 := List.replicate 16 [] }).fab.ceQ1.length
    ∧ ceStart [ceBarrier * 2 ^ 56, 0, 0, 0, 0, 100, 0, 0] ≤ (wCue 100).cue ∧ (wCue 100).cue < ceStart [ceBarrier * 2 ^ 56, 0, 0, 0, 0, 101, 0, 0]
    ∧ (wColl { FabState.init with runs := [wBarrier false []] }).fab.runs[0]? = some (wBarrier false []) ∧ (wBarrier false []).begun = false
    ∧ (wBarrier false []).malformed = false ∧ (wBarrier false []).lost = none ∧ ceOp (wBarrier false []).desc = ceBarrier
    ∧ (wBarrier true []).begun = true ∧ ceOp (wBarrier false []).desc ≠ ceAllReduce
    ∧ (wBarrier true [1]).done ((wBarrier true [1]).me 0) = true ∧ (wBarrier true []).done ((wBarrier true []).me 0) = false
    ∧ (wIn' (wPkt opCollCtrl 0 [0]) []).firstIn opCollCtrl = some (wPkt opCollCtrl 0 [0])
    ∧ (wPkt opCollCtrl 0 [0]).data.headD 0 ≠ 1 ∧ (wIn' (wPkt opCollCtrl 0 [1]) []).firstIn opCollCtrl = some (wPkt opCollCtrl 0 [1])
    ∧ (wPkt opCollCtrl 0 [1]).data.headD 0 = 1 ∧ (wColl { FabState.init with runs := [wBarrier true []] }).fab.early = [] ∧ State.reset.run? 15 3 = none
    ∧ (wColl { FabState.init with runs := [wBarrier true []] }).run? 15 3 = some (wBarrier true [])
    ∧ (wIn' (wPkt opCollData 0 [0]) []).firstIn opCollData = some (wPkt opCollData 0 [0]) := by decide +kernel
theorem witness_collective_ops : (List.map (fun o => ceOp [o * 2 ^ 56]) [ceAllReduce, ceReduceScatter, ceAllGather, ceBroadcast, cePermute,
    ceBarrier, ceScalarSum]) = [ceAllReduce, ceReduceScatter, ceAllGather, ceBroadcast, cePermute, ceBarrier, ceScalarSum] := by decide +kernel

-- Front of house.
theorem witness_region : ∀ j : Fin 2048, regionOf 0 (0x10E00000000 + j.val) = .wings 7 j.val := by decide +kernel
/-- Bytes from the first of the wings of die 7. -/
theorem witness_InWings (s : State) (n : Nat) (hn : n ≤ 2048) (hc : s.cacheN = 0) (hf : s.boot.failed = []) (hp : s.poison = [])
    (hx : s.flaws = []) :
    InWings s 7 0x10E00000000 n :=
  ⟨fun j hj => ⟨j, by rw [hc]; exact witness_region ⟨j, by omega⟩⟩, by rw [hf]; rfl, fun p => by simp [State.poisoned, hp, smapGet], hx⟩
def wFh (l : List (Fld × Nat)) (x : FhPort) (ptp : PtpState) : State :=
  { wSet State.reset l with cycle := 3000000000, host := { HostState.init with ports := [(3, x)], ptp := ptp } }
theorem witness_FrontOfHousePortsAnswerPauseAndKeepTime_links :
    (wFh [(R.FH_PORT_CFG_MODES 3, 4)] .init .init).bit (R.FH_PORT_STATUS_UP 3) = false
    ∧ bitOf ((wFh [(R.FH_PORT_CFG_MODES 3, 4)] .init .init).fld (R.FH_PORT_CFG_MODES 3)) ((3 : Fin 4).val - 1) = true
    ∧ (wFh [(R.FH_PORT_STATUS_UP 3, 1)] .init .init).bit (R.FH_PORT_STATUS_UP 3) = true ∧ (wFh [] .init .init).qpList = []
    ∧ (wFh [(R.FH_PORT_CFG_PFC_EN 3, 1)] .init .init).bit (R.FH_PORT_CFG_PFC_EN 3) = true
    ∧ ((wFh [] { FhPort.init with xoffSent := true } .init).fhPort 3).xoffSent = true
    ∧ (let s := wFh [(R.FH_PORT_CFG_PFC_WD 3, 1)] { FhPort.init with paused := List.replicate 8 (2 ^ 40) } .init
       s.timeNs < (s.fhPort 3).paused.getD (s.fld (R.FH_PORT_CFG_ROCE_PRIO 3)) 0 ∧ s.fld (R.FH_PORT_CFG_PFC_WD 3) ≠ 0
         ∧ (s.fhPort 3).pausedAt + 1000000 * s.fld (R.FH_PORT_CFG_PFC_WD 3) ≤ s.timeNs)
    ∧ ((wFh [] { FhPort.init with ignoreUntil := some 5 } .init).fhPort 3).ignoreUntil = some 5 := by decide +kernel
theorem witness_FrontOfHousePortsAnswerPauseAndKeepTime_ptp :
    (let s := wFh [(R.FH_PTP_CFG_ENABLE, 1), (R.FH_PTP_CFG_DOMAIN, 255), (R.FH_PTP_STATUS_ACTIVE, 3), (R.FH_PORT_STATUS_UP 3, 1)] .init
       { PtpState.init with heard := [(3, 1, 2, 5)], sync := some (65535, 7), delay := some (65535, 9), t12 := some (1, 2) }
     s.bit R.FH_PTP_CFG_ENABLE = true ∧ (255 : BitVec 8).toNat = s.fld R.FH_PTP_CFG_DOMAIN ∧ (254 : BitVec 8).toNat ≠ s.fld R.FH_PTP_CFG_DOMAIN
     ∧ (1 : Fin 3).val = s.fld R.FH_PTP_CFG_TRANSPORT ∧ s.ptp.heard.find? (fun e => e.1 == (3 : Fin 4).val) = some (3, 1, 2, 5)
     ∧ s.ptp.heard.find? (fun e => e.1 == (2 : Fin 4).val) = none
     ∧ s.ptpHere 3 ⟨255, 1, 5⟩ = true ∧ s.ptpHere 3 ⟨254, 1, 5⟩ = false ∧ s.ptpHere 3 ⟨255, 0, 5⟩ = false ∧ s.ptpHere 3 ⟨255, 1, 6⟩ = false ∧ s.ptp.sync = some (65535, 7) ∧ s.ptp.delay = some (65535, 9) ∧ s.ptp.t12 = some (1, 2)
     ∧ (3 : Fin 4).val = s.fld R.FH_PTP_STATUS_ACTIVE ∧ s.bit (R.FH_PORT_STATUS_UP 3) = true) ∧ State.reset.ptp.sync = none := by decide +kernel
def wQp (requester connected : Bool) (sent : List QpSent) (retries : Nat) : Qp :=
  { qpn := 0x100, peerQpn := 5, port := 3, session := 7, dbImm := false, requester := requester, connected := connected, error := false,
    mtu := 1024, epsn := 9, npsn := 20, sent := sent, retries := retries, writing := none, rate := 25600, cuts := 0, lastCut := none,
    lastCnp := none, timer := 0, nextAt := 0, ackAt := 0, reading := [], rnr := false, hostTimer := (0, 0) }
/-- Session 7 is a host's; its window 1 is the first page of the wings of die 7, readable and writable; port 3 is up. -/
def wRdma (q : Qp) : State :=
  { wSet State.reset [(R.FH_PORT_STATUS_UP 3, 1), (R.FH_PORT_PFC_XOFF 3, 100), (R.FH_SESS_CFG_VALID 7, 1), (R.FH_WIN0_VALID 7 1, 1),
      (R.FH_WIN0_ACCESS 7 1, 3), (R.FH_WIN0_BASE 7 1, 0x10E00000000), (R.FH_WIN1_RKEY 7 1, 113), (R.FH_WIN1_PAGES 7 1, 1)] with
    cycle := 3000000000, host := { HostState.init with qps := [(0x100, some q)] } }
def wRoce (psn : BitVec 24) : RocePkt := ⟨0x100, psn, false, true, ⟨64, none, 0⟩⟩
theorem witness_Arrives (r : Bool) : Arrives (wRdma (wQp r true [] 0)) (wRoce 9) (wQp r true [] 0) := by
  cases r <;> exact ⟨by decide +kernel, rfl, rfl, by decide +kernel, rfl, by decide +kernel⟩
theorem witness_RdmaIsPerformedUnderItsWindow :
    (let s := wRdma (wQp false true [] 0)
     s.qp? (0x101 : BitVec 24).toNat = none ∧ (wRoce 9).psn.toNat = (wQp false true [] 0).epsn
     ∧ 0 < sub24 (10 : BitVec 24).toNat 9 ∧ sub24 (10 : BitVec 24).toNat 9 < 2 ^ 23 ∧ 2 ^ 23 ≤ sub24 (8 : BitVec 24).toNat 9
     ∧ s.windowOk 7 113 0x10E00000000 4 true = true ∧ s.windowOk 7 113 0x10E00000FFC 4 true = true ∧ s.windowOk 7 113 0x10E00000FFD 4 true = false
     ∧ s.windowOk 7 113 0x10E00000000 2048 false = true ∧ s.windowOk 7 114 0x10E00000000 4 false = false
     ∧ s.hostSess 7 = true ∧ s.hostSess 6 = false ∧ s.ringIdx 7 offCmdCi = 0 ∧ sub32 (128 : BitVec 32).toNat (s.ringIdx 7 offCmdCi) ≤ 128
     ∧ sub32 (s.ringIdx 7 offStsPi) (0 : BitVec 32).toNat ≤ 1024) := by decide +kernel
theorem witness_RdmaIsPerformedUnderItsWindow_wings : InWings (wRdma (wQp false true [] 0)) 7 0x10E00000000 4 :=
  witness_InWings _ _ (by omega) rfl rfl rfl rfl
def wSent (kind : Nat) : QpSent := ⟨8, kind, 0x10E00000000, 4, 0, 0, 0, []⟩
theorem witness_QueuePairsConnectRetryAndPace :
    (let s := wSet (wRdma (wQp true false [] 0)) [(R.FH_SESS_CFG_QP_MAX 7, 2)]
     s.bit (R.FH_PORT_STATUS_UP 3) = true ∧ s.bit (R.FH_PORT_STATUS_UP 2) = false ∧ s.hostSess 7 = true ∧ s.peerOk 7 0 = true
     ∧ (s.sessQps 7).length < s.fld (R.FH_SESS_CFG_QP_MAX 7) ∧ (s.qpList.filter (fun q => !q.error)).length < 4096
     ∧ s.qp? (0x100 + (4095 : Fin 4096).val) = none ∧ s.hostSess 6 = false
     ∧ s.qp? (0x100 : BitVec 24).toNat = some (wQp true false [] 0) ∧ s.host.cmds = [])
    ∧ (let s := wRdma (wQp false true [wSent 2] 7)
       s.qp? (0x100 : BitVec 24).toNat = some (wQp false true [wSent 2] 7) ∧ (wQp false true [wSent 2] 7).sent ≠ []
       ∧ (wQp false true [wSent 2] 7).sent.find? (fun r => r.kind == 2 && decide (sub24 (8 : BitVec 24).toNat r.psn < r.psns 1024)) = some (wSent 2)
       ∧ s.timeNs ≥ (wQp false true [wSent 2] 7).timer + 55000
       ∧ (wQp false true [wSent 2] 7).ackAt + 4096 * 2 ^ s.fld R.FH_RC_ACK_TO ≤ s.timeNs) ∧ State.reset.timeNs < (wQp false true [] 6).timer + 55000 := by decide +kernel

/-- An answer and two requests wait at port 3; the pointer stands past QP 0x100. -/
def wTx : FhPort :=
  { FhPort.init with txPtr := 0x101, txq := [⟨0x101, 3, ⟨0, 3, 0, false⟩, .send 4 []⟩, ⟨0x101, 1, ⟨0, 3, 0, false⟩, .ack 5 0⟩, ⟨0x100, 1, ⟨0, 3, 0, false⟩, .cnp⟩] }
theorem witness_QueuePairsConnectRetryAndPace_arbiter :
    wTx.txNext 0 (fun _ => true) = some ⟨0x101, 1, ⟨0, 3, 0, false⟩, .ack 5 0⟩ ∧ ({ wTx with txPtr := 0x102 } : FhPort).txNext 0 (fun _ => true) = some ⟨0x100, 1, ⟨0, 3, 0, false⟩, .cnp⟩
    ∧ ({ wTx with txq := wTx.txq.take 1 } : FhPort).txNext 0 (fun n => n != 0x100) = some ⟨0x101, 3, ⟨0, 3, 0, false⟩, .send 4 []⟩
    ∧ (wFh [(R.FH_PORT_STATUS_UP 3, 1)] wTx .init).bit (R.FH_PORT_STATUS_UP 3) = true ∧ State.reset.pending = [] := by decide +kernel
theorem witness_QueuePairsConnectRetryAndPace_buffer :
    (let q := wQp true true [{ wSent 2 with addr := 0 }] 0
     let s : State := { wRdma q with res := { ResState.init with fetch := some ⟨1, 7, 12, 0, 0, 2 ^ 20, 1, 0, [], List.replicate 0x80 0⟩ } }
     s.qp? (0x100 : BitVec 24).toNat = some q ∧ q.sent.find? (fun r => r.kind == 2 && decide (sub24 (8 : BitVec 24).toNat r.psn < r.psns 1024)) = some { wSent 2 with addr := 0 }
     ∧ (s.res.fetch.map StoreFetch.todo) = some []) := by decide +kernel
/-- A frame that fits and one that does not; an XOFF due; a REQ that is taken; sixteen READs outstanding. -/
theorem witness_FrontOfHousePortsAnswerPauseAndKeepTime_buffers :
    (let s := wFh [(R.FH_PORT_STATUS_UP 3, 1), (R.FH_PORT_CFG_PFC_EN 3, 1), (R.FH_PORT_STATUS_MODE 3, 3), (R.FH_PORT_PFC_XOFF 3, 100)]
       { FhPort.init with roceOcc := 200 } .init
     (s.rxFrame 3 ⟨9216, none, 0⟩).1 = true ∧ (s.rxFrame 3 ⟨9217, none, 0⟩).1 = false ∧ rxPrio ⟨64, some 3, 0⟩ = 3 ∧ (s.fhPort 3).xoffSent = false
     ∧ s.fld (R.FH_PORT_PFC_XOFF 3) ≤ (s.fhPort 3).roceOcc - 100 ∧ ¬ s.fld (R.FH_PORT_PFC_XOFF 3) ≤ (s.fhPort 3).roceOcc - 101
     ∧ 0 < bitNs (512 * 0x8000) (s.lineRate 3)) := by decide +kernel
theorem witness_QueuePairsConnectRetryAndPace_req :
    (let s := wRdma (wQp true false [] 0)
     s.freeQpFrom 4095 = some 4095 ∧ s.freeQpFrom 0 = some 1 ∧ (s.rxFrame 3 ⟨64, none, 0⟩).1 = true ∧ (s.rxFrame 3 ⟨64, none, 0⟩).2.out = s.out
     ∧ (wQp true false [] 0).reading.length < 16 ∧ ¬ ({ wQp true false [] 0 with reading := List.replicate 16 9 } : Qp).reading.length < 16) := by
  decide +kernel
-- Commands.
/-- A command of session 7, which is a host's with room in its status ring. -/
def wHostCmd (opc word : Nat) (par : List Byte) : CmdRec := { wCmd 1 opc par with session := 7, word := word }
def wHost (l : List (Fld × Nat)) (cmds : List CmdRec) : State :=
  { wSet State.reset ((R.FH_SESS_CFG_VALID 7, 1) :: l) with host := { HostState.init with cmds := cmds } }
theorem witness_Room : Room (wHost [] []) 7 := ⟨by decide +kernel, rfl, by decide +kernel, fun w hw => by cases hw⟩
/-- A NOP packet of session 7 at index 0, and the same with a parameter too many. -/
def wPacket (plen : Nat) : State := (wHost [] []).setBytes (ringBase 7) (leBytes opcNop 2 ++ [0, 0] ++ leBytes 5 4 ++ leBytes plen 2)
def wQueued (plen : Nat) : State := (wPacket plen).setBytes (ringBase 7 + offCmdPi) [1]
theorem witness_CommandsAreTakenInTurnAndAnswered : roundRobin 8 0 State.reset.servable = none
    ∧ roundRobin 8 0 (wQueued 0).servable = some 7 ∧ (wQueued 0).rejects 7 ((wQueued 0).packetAt 7 0) = none
    ∧ (wQueued 1).rejects 7 ((wQueued 1).packetAt 7 0) = some 0x82 ∧ roundRobin 8 0 (wQueued 1).servable = some 7 := by decide +kernel
theorem witness_CommandsAreTakenInTurnAndAnswered_running :
    (List.all [opcNop, opcRegRead, opcRegWrite, opcReadLatency, opcReadBinding, opcReadPromptbook, opcReadReport, opcLinkRetrain, opcWarmReset]
      (fun o => (wHost [] [wHostCmd o 0 (leBytes 0x10E00000000 8)]).runningCmd o == some (wHostCmd o 0 (leBytes 0x10E00000000 8)))) = true
    ∧ (wHostCmd opcReadLatency 0 (leBytes 0x10E00000000 8)).par 0 8 = 0x10E00000000
    ∧ (wHost [] []).runningCmd opcNop = none
    ∧ (wHost [] [{ wHostCmd opcPlace 0 [] with started := false }]).host.cmds.find? (fun c => groupJ c.opcode && !c.started)
        = some { wHostCmd opcPlace 0 [] with started := false }
    ∧ bitOf ((wHostCmd opcLinkRetrain 1 [0x10, 0]).par 0 2) 4 = true
    ∧ (wHost [(R.FB_PORT_STATUS_STATE 4, 1)] []).fld (R.FB_PORT_STATUS_STATE 4) = 1
    ∧ (List.range 16).all (fun p => (wHost [] []).fld (R.FB_PORT_STATUS_STATE p) != 1) = true
    ∧ (pbSpan 5 1 2 3).2 ≠ 0 ∧ (pbSpan 5 1 9 9).2 = 0 := by decide +kernel
theorem witness_SessionsWindowsJobsAndFloorsFollowTheirCommands :
    (let c := wHostCmd opcSessionOpen 0 [6, 1]
     (wHost [] [c]).runningCmd opcSessionOpen = some c ∧ c.par 0 1 = 6 ∧ c.par 0 1 ≠ c.session ∧ c.par 1 1 ≤ 1 ∧ (wHost [] [c]).qpList = []
       ∧ (wHost [] [c]).fld (R.FH_SESS_STATUS_QPS 6) = 0 ∧ (wHost [] [c]).bit (R.FH_WIN0_VALID 6 0) = false)
    ∧ (let c := wHostCmd opcSessionClose 0 [6]
       (wHost [] [c]).runningCmd opcSessionClose = some c ∧ c.par 0 1 < 8)
    ∧ (let c := wHostCmd opcWindowAdd 0 (leBytes 0x10E00000000 8 ++ leBytes 1 4 ++ [3])
       (wHost [] [c]).runningCmd opcWindowAdd = some c ∧ (wHost [] [c]).bit (R.FH_WIN0_VALID 7 (0 + 1)) = false
         ∧ c.par 0 8 < 2 ^ 44 ∧ c.par 8 4 < 2 ^ 32 ∧ c.par 12 1 < 4)
    ∧ ((List.range 15).all (fun v => (wHost ((List.range 15).map (fun v => (R.FH_WIN0_VALID 7 (v + 1), 1))) []).bit (R.FH_WIN0_VALID 7 (v + 1))) = true)
    ∧ (let c := wHostCmd opcWindowRemove 0 [15]
       (wHost [] [c]).runningCmd opcWindowRemove = some c ∧ c.par 0 1 < 16
         ∧ ((wHost [] [c]).host.cmds.any (fun d => d.session == c.session
              && (memParams d.opcode d.par).any (fun m => (wHost [] [c]).windowHolds c.session 15 m.1 m.2.1 m.2.2))) = false)
    ∧ (wHost [] [wHostCmd opcStoreOpen 0 [6]]).runningCmd opcStoreOpen = some (wHostCmd opcStoreOpen 0 [6])
    ∧ (wHost [] [wHostCmd opcStoreOpen 1 [6]]).runningCmd opcStoreOpen = some (wHostCmd opcStoreOpen 1 [6]) := by decide +kernel
theorem witness_SessionsWindowsJobsAndFloorsFollowTheirCommands_jobs :
    (let c := wHostCmd opcJobOpen 0 (leBytes 3 4 ++ leBytes 2047 2 ++ [8, 1] ++ leBytes 0x7FFF 2 ++ leBytes 0x7FFF 2)
     (wHost [] [c]).runningCmd opcJobOpen = some c ∧ (wHost [] [c]).jobOpen = false ∧ c.par 4 2 < 2048 ∧ c.par 7 1 < 2 ∧ c.par 8 2 < 2 ^ 15
       ∧ c.par 10 2 < 2 ^ 15 ∧ (wHost [(R.BT_JOB_OPEN, 1)] [c]).jobOpen = true)
    ∧ (let c := wHostCmd opcJobStart 0 (leBytes 0 8)
       (wHost [] [c]).host.cmds.find? (fun d => d.opcode == opcJobStart && d.started && d.word == 0) = some c
         ∧ (wHost [] [c]).curtain.running = false ∧ (wHost [] [c]).curtain.starting = false)
    ∧ (wHost [] [wHostCmd opcJobStop 0 []]).runningCmd opcJobStop = some (wHostCmd opcJobStop 0 [])
    ∧ (wHost [] [wHostCmd opcJobClose 0 []]).runningCmd opcJobClose = some (wHostCmd opcJobClose 0 [])
    ∧ ({ wHost [] [wHostCmd opcJobClose 0 []] with curtain := wRun } : State).curtain.running = true
    ∧ (wHost [] [wHostCmd opcSetRiskFloor 0 (leBytes 255 4 ++ leBytes 9 4)]).runningCmd opcSetRiskFloor
        = some (wHostCmd opcSetRiskFloor 0 (leBytes 255 4 ++ leBytes 9 4)) := by decide +kernel
theorem witness_one_command (s : State) (c : CmdRec) (h : s.host.cmds = [c]) : (∀ d ∈ s.host.cmds, d.id = c.id → d = c) ∧ c ∈ s.host.cmds := by
  rw [h]; simp


-- Callboard: channel 255 is local, from tile 7 to booth core 0; channel 0 outgoing to seat 9, channel 1 incoming from it.
def wCb : State := wSet State.reset [(R.CB_BIND_VALID 255, 1), (R.CB_BIND_SENDER_MID 255, 0x807), (R.CB_BIND_RECEIVER_MID 255, 1),
  (R.CB_BIND_VALID 0, 1), (R.CB_BIND_REMOTE_OUT 0, 1), (R.CB_BIND_SENDER_MID 0, 2), (R.CB_BIND_PEER_SEAT 0, 9),
  (R.CB_BIND_VALID 1, 1), (R.CB_BIND_REMOTE_IN 1, 1), (R.CB_BIND_SENDER_MID 1, 0x20), (R.CB_BIND_PEER_SEAT 1, 9)]
def wCbFull : State := { wCb with cb := [(255, List.replicate 16 0)] }
theorem witness_ChannelsQueueFlushAndLock : wCb.takeAllowed 255 1 = true ∧ wCb.takeAllowed 255 2 = false
    ∧ lockMaster 3 = true ∧ (wCb.acquire 255 [3]).now.reads.contains (R.CB_LOCK 255) = true ∧ wCb.now.reads.contains (R.CB_LOCK 255) = false
    ∧ wCb.fld (R.CB_LOCK_HOLDER 255) = 0
    ∧ wCb.postAllowed 255 (.tile 7) = true ∧ wCb.chanKind 255 ≠ .outgoing ∧ (wCb.chan 255).length < 16 ∧ 16 ≤ (wCbFull.chan 255).length
    ∧ wCb.postAllowed 0 (.booth 1) = true ∧ wCb.chanKind 0 = .outgoing ∧ wCb.cbOut.length < 64
    ∧ wCb.postAllowed 255 (.booth 0) = false ∧ wCb.postAllowed 255 (.ingress 8) = false ∧ wCb.postAllowed 1 (.ingress 9) = true
    ∧ (wCb.chan 1).length < 16 ∧ wCbFull.posted 255 < (wCbFull.chan 255).length
    ∧ wCb.turn? 255 = none ∧ (wCb.turn? 0).isNone = true := by decide +kernel
def nextOf (o : Out) (s : State) : State := match o with | .next u => u | _ => s
/-- The channel 255 after tile 7's post of 7 in this cycle; the lock 255 read in it. -/
def wPosted : State := nextOf (execCbPost 255 [(.tile 7, 7)] wCb) wCb
theorem witness_ChannelsQueueFlushAndLock_turn : (wPosted.turn? 255).isSome = true ∧ wPosted.chanKind 255 ≠ .outgoing
    ∧ (wPosted.chan 255).length ≤ wPosted.posted 255 ∧ wPosted.takeAllowed 255 1 = true
    ∧ ((nextOf (execCbPost 255 [(.tile 7, 7)] { wCb with cb := [(255, [9])] }) wCb).posted 255) < 2
    ∧ lockMaster 8 = false ∧ wCb.acqLate 255 = false ∧ (wCb.acquire 255 [3]).acqLate 255 = true
    ∧ 64 ≤ ({ wCb with cbOut := List.replicate 64 (9, 0, 0) } : State).cbOut.length := by decide +kernel
/-- A take does not receive a notice posted in its own cycle (R451): zero is read and the notice stays. -/
theorem test_take_leaves_notice_of_its_cycle : (nextOf (execCbTake 0 255 wPosted) wCb).chan 255 = [deliveredNotice 7]
    ∧ (nextOf (execCbTake 0 255 wPosted) wCb).out = [.bus 1 (R.CB_TAKE 255) 0 (leBytes 0 8)] := by decide +kernel

-- Checkpoints and recovery.
/-- Checkpoint 4 of step 12 is open, its layers all. -/
def wCk (r : ResState) : State := { wSet (wCue 5000) [(R.FB_CTL_SEAT, 3)] with res := r, job := { JobState.init with seats := [3, 9] } }
def wOpen : ResState := { ResState.init with opened := some (4, 12, 7), ready := [7] }
def wMasterOf (s : State) : State := s.setFld R.CU_STATUS_MASTER 1
def wShardImg : FlashImage := ⟨1, 12, 4, 3, 1, 0, 0, [], [], [], [], true⟩
theorem witness_CheckpointsAreOrderedCommittedAndKept :
    (wCk .init).cue < ({ ResState.init with decayAt := 5000 } : ResState).decayAt + (wCk .init).ruling R.RS_CFG_DECAY
    ∧ (wSet (wCk .init) [(R.RS_CFG_DECAY, 16)]).res.decayAt + (wSet (wCk .init) [(R.RS_CFG_DECAY, 16)]).ruling R.RS_CFG_DECAY ≤ (wCk .init).cue
    ∧ (wCk .init).bit R.CU_STATUS_MASTER = false ∧ (wMasterOf (wCk .init)).bit R.CU_STATUS_MASTER = true
    ∧ (wCk wOpen).res.opened = some ((4 : BitVec 32).toNat, 12, 7) ∧ (wCk .init).res.opened = none ∧ (wCk .init).res.areas = []
    ∧ (wFollower wRun).isMember = false ∧ (wCk .init).isMember = true ∧ wOpen.opened.isSome = true ∧ (4 : Nat) ≠ (5 : BitVec 32).toNat
    ∧ (wCk wOpen).res.ready.contains (7 : Fin 8).val = true ∧ (wCk wOpen).res.ready.contains (6 : Fin 8).val = false ∧ (wCk wOpen).res.stripes = []
    ∧ (wMasterOf (wCk wOpen)).res.opened = some (4, 12, 7) ∧ (∀ d ∈ (wMasterOf (wCk wOpen)).res.done, d.1 ≠ 3 ∧ d.2 = false)
    ∧ 9 ∈ (wMasterOf (wCk wOpen)).liveSeats := by decide +kernel
theorem witness_CheckpointsAreOrderedCommittedAndKept_kept :
    (wCk { wOpen with flashDue := true }).res.flashDue = true ∧ (wCk { wOpen with flashDue := true }).res.flashWriting = none
    ∧ (wCk { wOpen with flashWriting := some wShardImg }).res.flashWriting = some wShardImg ∧ (wCk .init).fld (R.PW_THERM_TEMP 11) ≤ 90
    ∧ 90 < (wSet (wCk .init) [(R.PW_THERM_TEMP 11, 91)]).fld (R.PW_THERM_TEMP 11)
    ∧ (wCk { wOpen with storeDue := true }).host.stores = []
    ∧ (wCk { wOpen with flash := (some wShardImg, none) }).newestImage = some wShardImg := by decide +kernel
def wStore : State := { wSet (wCk { wOpen with storeDue := true, flash := (some wShardImg, none) }) [] with
  host := { HostState.init with stores := [⟨6, 0, 1, 0, [⟨0, 2 ^ 20, 1⟩]⟩], qps := [(0x100, some { wQp true true [] 0 with session := 6 })] } }
theorem witness_CheckpointsAreOrderedCommittedAndKept_store : wStore.newestImage = some wShardImg
    ∧ wStore.host.stores = [⟨6, 0, 1, 0, [⟨0, 2 ^ 20, 1⟩]⟩]
    ∧ (wStore.qpList.find? (fun q => q.session == 6 && q.connected && !q.error)).isSome = true
    ∧ (∀ q ∈ wStore.qpList, q.session = 6 → q.sent = []) := by decide +kernel
/-- An order of the cue master, due and not; a pending CHECKPOINT_NOW. -/
def wOrder (due : Nat) : State := wMasterOf (wCk { ResState.init with order := some ⟨4, 12, 7, 9, due⟩ })
theorem witness_CheckpointsAreOrderedCommittedAndKept_order : (wOrder 5000).orderDue = some ⟨4, 12, 7, 9, 5000⟩
    ∧ (⟨4, 12, 7, 9, 5000⟩ : CkptOrder).due ≤ (wOrder 5000).cue ∧ (wOrder 5001).cue < (⟨4, 12, 7, 9, 5001⟩ : CkptOrder).due
    ∧ (wOrder 5000).res.opened = none ∧ (wOrder 5000).res.recovering = false ∧ (wOrder 5000).outOfJob = false ∧ (wCk .init).orderDue = none
    ∧ (wCk .init).outOfJob = false ∧ (wCk { ResState.init with left := true }).outOfJob = true
    ∧ (wHost [] [wHostCmd opcCheckpointNow 0 [0]]).host.cmds.filter (fun c => c.opcode == opcCheckpointNow && c.started)
        = [wHostCmd opcCheckpointNow 0 [0]] := by decide +kernel
theorem witness_CheckpointsAreOrderedCommittedAndKept_key : wShardImg.toBytes.length ≤ 2 ^ 20 := by
  rw [toBytes_length_empty wShardImg rfl rfl]; decide
/-- A step that began at cue 100; a lost seat of the job; a cue master that recovers toward step 12. -/
def wRec (r : ResState) : State := wMasterOf (wCk r)
theorem witness_LostSeatsAreRecoveredFrom :
    ({ wSet (wCk .init) [(R.RS_LIMIT_STEP_LIMIT, 1024)] with curtain := { wRun with firstIssue := some 100 } } : State).stepOpen = true
    ∧ ({ wCk .init with curtain := wRun, scene := { SceneState.init with images := [wImage] } } : State).stepDone = false
    ∧ 100 + (wSet (wCk .init) [(R.RS_LIMIT_STEP_LIMIT, 1024)]).ruling R.RS_LIMIT_STEP_LIMIT + 1024 ≤ (wCk .init).cue ∧ (wRec .init).jobSeats = [3, 9]
    ∧ ({ wCk .init with cycle := 75000000 } : State).res.watchedAt + 75000000 ≤ 75000000 ∧ (wCk .init).cycle < (wCk .init).res.watchedAt + 75000000
    ∧ (wRec .init).res.recovering = false ∧ (wRec { ResState.init with target := some 12 }).res.target.isSome = true
    ∧ (wCk { ResState.init with left := true }).res.left = true ∧ (wCk { ResState.init with noMaster := true }).res.noMaster = true
    ∧ (wCk .init).res.stripes = [] ∧ (wCk .init).res.pairs = [] ∧ (wCk .init).host.cmds = [] := by decide +kernel
/-- A recovery whose classes drain: the step's work is discarded. -/
def wDrain (c : Nat) : State := { wCk { ResState.init with recovering := true } with curtain := { CurtainState.init with drain := some c } }
theorem witness_LostSeatsAreRecoveredFrom_drain : (wDrain 3).classDrained 3 = true ∧ (wDrain 0).classDrained 0 = true
    ∧ (wDrain 3).curtain.announced = none ∧ (wDrain 3).bit R.CU_STATUS_MASTER = false ∧ (wDrain 3).res.recovering = true := by decide +kernel
theorem witness_LostSeatsAreRecoveredFrom_drainQuiet : ResQuiet (wDrain 3) := ⟨rfl, rfl, rfl⟩
def wBack (done : List Nat) : ResState := { ResState.init with recovering := true, target := some 12, restored := done }
def wPromote (r : ResState) (opc : Nat) (par : List Byte) : State := { (wCk r).setFld (R.FH_SESS_CFG_VALID 7) 1 with host := { HostState.init with cmds := [wHostCmd opc 0 par] } }
theorem witness_LostSeatsAreRecoveredFrom_restored :
    (wRec (wBack [])).res.recovering = true ∧ (wRec (wBack [])).res.restored.contains (3 : BitVec 15).toNat = false
    ∧ (wRec (wBack [])).liveSeats = [3, 9] ∧ (∀ q ∈ (wRec (wBack [9])).liveSeats, q = (3 : BitVec 15).toNat ∨ (wRec (wBack [9])).res.restored.contains q = true)
    ∧ (let s := wPromote .init opcPromote (leBytes 9 2 ++ leBytes 24 2)
       s.host.cmds.find? (fun c => c.opcode == opcPromote && c.started && c.word == 0) = some (wHostCmd opcPromote 0 (leBytes 9 2 ++ leBytes 24 2))
         ∧ s.res.lost.contains 9 = false)
    ∧ (wPromote { ResState.init with lost := [9] } opcPromote (leBytes 9 2 ++ leBytes 24 2)).res.lost.contains 9 = true
    ∧ (let s := wPromote { ResState.init with side := some 0 } opcRestoreCheckpoint (leBytes 12 4 ++ [0])
       let c := wHostCmd opcRestoreCheckpoint 0 (leBytes 12 4 ++ [0])
       s.runningCmd opcRestoreCheckpoint = some c ∧ c.word ≠ 1 ∧ s.stepGap = true
         ∧ c.par 4 1 = 0 ∧ (s.setFld R.RS_CKPT_STEP 12).fld R.RS_CKPT_STEP = c.par 0 4 ∧ s.res.side.isSome = true) := by decide +kernel
def wReadBack : State :=
  { wPromote .init opcRestoreCheckpoint (leBytes 12 4 ++ [2]) with host := { (wPromote .init opcRestoreCheckpoint (leBytes 12 4 ++ [2])).host with
      stores := [⟨6, 0, 1, 0, [⟨0, 2 ^ 20, 1⟩]⟩], qps := [(0x100, some { wQp true true [] 0 with session := 6 })] } }
theorem witness_LostSeatsAreRecoveredFrom_store :
    wReadBack.runningCmd opcRestoreCheckpoint = some (wHostCmd opcRestoreCheckpoint 0 (leBytes 12 4 ++ [2])) ∧ wReadBack.stepGap = true
    ∧ (wHostCmd opcRestoreCheckpoint 0 (leBytes 12 4 ++ [2])).par 4 1 = 2 ∧ wReadBack.host.stores = [⟨6, 0, 1, 0, [⟨0, 2 ^ 20, 1⟩]⟩]
    ∧ wReadBack.qpList = [{ wQp true true [] 0 with session := 6 }] ∧ wReadBack.storeQp 6 { wQp true true [] 0 with session := 6 } = true
    ∧ wReadBack.qp? 0x100 = some { wQp true true [] 0 with session := 6 } ∧ ({ wQp true true [] 0 with session := 6 } : Qp).reads < 16
    ∧ wReadBack.res.storeObjects = [] := by decide +kernel
/-- Record 0 of an object's head is read back as it is written; a region of another step is passed over. -/
def wFetch : StoreFetch :=
  ⟨1, 6, 12, 0, 0, 2 ^ 20, 1, 1, [], leBytes 0x4B504B4300000001 8 ++ leBytes 5 4 ++ leBytes 12 4 ++ leBytes 4 4 ++ leBytes 3 2 ++ leBytes 1 2
    ++ List.replicate (0x1000 - 24) 0 ++ leBytes 2 2 ++ leBytes (1024 * 3 + 9) 2 ++ leBytes 6 4 ++ leBytes 0x21 2 ++ leBytes 0 6 ++ leBytes 64 8
    ++ leBytes 0x10000 8⟩
theorem test_store_object_record : wFetch.dataAt = 0x10000 ∧ wFetch.records = [(⟨3, 9, 2, 6, [0x21, 0], []⟩, 64, 0x10000)]
    ∧ wFetch.recordAt = 0x10040 := by decide +kernel
theorem witness_LostSeatsAreRecoveredFrom_room : Room (wPromote .init opcRestoreCheckpoint []) 7 :=
  ⟨by decide +kernel, rfl, by decide +kernel, fun w hw => by cases hw⟩
/-- An understudy all of whose aliases are valid has no room for one more promotion. -/
def wAliases : State :=
  { State.reset with regs := State.reset.regs ++ (R.FB_CTL, 24 * 2 ^ R.FB_CTL_SEAT.lo) :: (List.range 256).map (fun i => (R.CB_ALIAS i, 2 ^ 63)) }
theorem witness_LostSeatsAreRecoveredFrom_aliases : wAliases.fld R.FB_CTL_SEAT = 24 ∧ wAliases.aliasRoom [(9, 24)] = false ∧ (wCk .init).aliasRoom [] = true
    ∧ wAliases.bit R.CU_STATUS_MASTER = false ∧ wAliases.res.left = false ∧ wAliases.res.noMaster = false := by decide +kernel
/-- A RESTORED that refuses the promotion, and one that does not, at a recovering cue master. -/
theorem witness_LostSeatsAreRecoveredFrom_messages : (⟨9, 0, true⟩ : RestoredMsg).refused = true ∧ (⟨9, 5, false⟩ : RestoredMsg).refused = false
    ∧ (wRec (wBack [])).bit R.CU_STATUS_MASTER = true ∧ (wRec (wBack [])).res.target = some 12 ∧ (wRec .init).res.target = none
    ∧ (wRec { wBack [] with restored := [9] }).res.pairs = [] ∧ (wCk .init).ownTiles = none := by decide +kernel

-- Start-up, the promptbook, power and heat.
def wBoot (n : Nat) : State := { State.reset with boot := { BootX.init with stage := n } }
def wPower (p : FailPhase) : State := { State.reset with power := { PowerX.init with phase := p } }
theorem witness_StartUpRunsStageByStage : State.reset.alive = true ∧ State.reset.boot.stage = 0 ∧ State.reset.boot.stage ≠ 1
    ∧ (wPower .off).alive = false ∧ (wBoot 3).boot.stage = 3 ∧ (wBoot 3).alive = true ∧ (wBoot 1).boot.fault = none ∧ (wBoot 1).modeCode ≠ 3
    ∧ (wBoot 4).boot.bounded.contains 4 = false ∧ ({ BootX.init with bounded := [4] } : BootX).bounded.contains 4 = true
    ∧ (List.range 16).all (fun p => !(wBoot 2).portUp p && (wBoot 4).fld (R.FB_PORT_STATUS_STATE p) != 1) = true
    ∧ ((wBoot 4).setFld (R.FB_PORT_STATUS_STATE 15) 1).fld (R.FB_PORT_STATUS_STATE 15) = 1 ∧ (wBoot 4).boot.links = false
    ∧ (wBoot 6).boot.links = false ∧ (wBoot 6).boot.linksLate = false
    ∧ ({ State.reset with boot := { BootX.init with stage := 6, linksLate := true } } : State).boot.linksLate = true
    ∧ (wPower .off).power.phase = .off ∧ (wPower .off).power.latched = false ∧ State.reset.power.phase ≠ .off
    ∧ State.reset.host.warm = none ∧ ({ State.reset with host := { HostState.init with warm := some (3, 4) } } : State).host.warm = some (3, 4)
    ∧ ({ State.reset with cycle := 150000, host := { HostState.init with warm := some (3, 4) } } : State).host.warmAt + 150000 ≤ 150000
    ∧ State.reset.cycle < State.reset.host.warmAt + 150000 ∧ (wBoot 4).cycle < (wBoot 4).boot.startOf 4 + stageBound 4
    ∧ (wBoot 4).boot.startOf 4 + stageBound 4 = 450000000 ∧ (wBoot 4).boot.startOf 5 + stageBound 5 = 300000000
    ∧ (let e : PbIn := ⟨0, 0xFFF, pbEvent, 0xC4, 1, false, false⟩
       let s : State := { State.reset with pb := { PbState.init with started := true, queue := [e] } }
       s.pb.queue = [e] ∧ e.pair = false ∧ e.host = false ∧ s.pb.drops = 0) := by decide +kernel
theorem witness_PowerFailsAndHeatSteps : vinBand 5000 = State.reset.power.band ∧ vinBand 4600 = 1
    ∧ State.reset.power.phase = .none ∧ State.reset.cycle < PowerX.init.fillAt + 1500 ∧ PowerX.init.fillAt + 1500 ≤ ({ State.reset with cycle := 1500 } : State).cycle ∧ (wPower .off).power.phase = .off ∧ (3999 : BitVec 16).toNat < 4000 ∧ 6000 < (6001 : BitVec 16).toNat
    ∧ (wPower .crossed).power.phase = .crossed ∧ (wPower .stopped).power.phase = .stopped ∧ (wPower .writing).power.phase = .writing
    ∧ State.reset.cycle < (wPower .writing).power.failAt + 27000000 ∧ (wPower .written).power.failAt + 30000000 = 30000000
    ∧ (wPower .written).power.phase = .written ∧ State.reset.fab.reqs = [] ∧ State.reset.job.seats = [] ∧ State.reset.fab.resilDone = []
    ∧ nextStep (dieEntry false) 4 0 120 = 4
    ∧ State.reset.power.levels.getD (7 : Fin 8) 0 ≤ (0 : BitVec 32).toNat
    ∧ (0 : BitVec 32).toNat < ({ PowerX.init with levels := [1] } : PowerX).levels.getD (0 : Fin 8) 0
    ∧ State.reset.cue < State.reset.power.rises.getD 0 0 + State.reset.fld R.PW_GOV_FILL_HOLD
    ∧ (State.reset.tile 2047).waitGrant = false := by decide +kernel
theorem witness_ResQuiet : ResQuiet State.reset := ⟨rfl, rfl, rfl⟩

-- Security and management.
/-- S2 and later; session nothing: an owned part has an owner key in slot 0. -/
def wLive (life fails : Nat) (c : Option Challenge) : State :=
  { wSet (wBoot 7) [(R.SC_STATUS_LIFECYCLE, life), (R.SC_STATUS_FAILS, fails)] with
    cycle := 90000000000, sec := { SecX.delivered with challenge := c, pwhash := List.replicate 64 1 } }
def wChal (scope made : Nat) : Option Challenge := some ⟨scope, List.replicate 32 7, List.replicate 64 0, made⟩
/-- The password proof of R559 for the nonce and PWHASH above. -/
def wProof : List Byte := 1 :: sha512 (List.replicate 32 7 ++ List.replicate 64 1)
theorem witness_VendorMessagesProveUnlockAndOwn : (wLive 2 0 none).mgmtUp = true ∧ State.reset.mgmtUp = false ∧ (wLive 2 0 none).boot.stage ≠ 1
    ∧ (wBoot 1).mgmtUp = true ∧ (wBoot 1).boot.stage = 1 ∧ (wLive 2 8 none).fld R.SC_STATUS_FAILS = 8 ∧ (wLive 2 0 none).fld R.SC_STATUS_FAILS ≠ 8
    ∧ (wLive 2 0 none).life = 2 ∧ (wLive 3 0 none).life = 3 ∧ (wLive 4 0 none).life = 4
    ∧ wProof.length = 65 ∧ lNum wProof 0 1 = 1 ∧ (wLive 3 0 none).challenge? = none
    ∧ (wLive 3 0 (wChal 1 1)).challenge? = wChal 1 1 ∧ (wLive 3 0 (wChal 1 0)).challenge? = none
    ∧ (wLive 3 0 (wChal 1 1)).sec.unlocks 3 ⟨1, List.replicate 32 7, List.replicate 64 0, 1⟩ (lNum wProof 0 1) (wProof.drop 1) = true
    ∧ (wLive 3 0 (wChal 1 1)).sec.unlocks 3 ⟨1, List.replicate 32 7, List.replicate 64 0, 1⟩ 1 (List.replicate 64 0) = false
    ∧ (wLive 2 0 none).bit R.MG_CTL_RESET_EN = false ∧ ((wLive 2 0 none).setFld R.MG_CTL_RESET_EN 1).bit R.MG_CTL_RESET_EN = true
    ∧ (wLive 3 0 (wChal 2 1)).sec.challenge = wChal 2 1 := by decide +kernel
/-- Both configuration copies erased but for a header without entries: a configuration that passes while the part has no owner. -/
def wUpd (u : Option Update) : State :=
  { wLive 2 0 none with
    mgmt := { MgmtX.init with update := u },
    sec := { SecX.delivered with norErased := [(0, 0x10000000)], nor := (leBytes 0x47464E43 16 ++ List.replicate 48 0).zipIdx.map (fun (p : Byte × Nat) => (norConfig 1 + p.2, some p.1)) } }
def wUp (image whole verified : Bool) : Update := ⟨image, 1, true, [], whole, verified⟩
theorem witness_ManagementBlockAnswersAndUpdates : (wUpd none).mgmtUp = true ∧ State.reset.mgmtUp = false
    ∧ ((wUpd none).bit R.MG_STATUS_BUS || (wUpd none).bit R.MG_CTL_I2C_ONLY || decide ((wUpd none).fld R.MG_STATUS_DYN_ADDR ≠ 0)) = false
    ∧ ((wUpd none).setFld R.MG_STATUS_DYN_ADDR 8).fld R.MG_STATUS_DYN_ADDR ≠ 0
    ∧ sensorIds.contains (0x61 : BitVec 16).toNat = true ∧ sensorIds.contains (0x62 : BitVec 16).toNat = false
    ∧ smapGet none ({ MgmtX.init with samples := [(0x61, some 2)] } : MgmtX).samples 0x61 = some 2
    ∧ (wUpd none).mgmt.update = none ∧ (wUpd (some (wUp false true false))).mgmt.update = some (wUp false true false)
    ∧ (wUpd none).updateOk (wUp false true false) = true ∧ (wUpd none).updateOk (wUp true true false) = false
    ∧ (wUp false false false).whole = false ∧ (wUp false true true).verified = true := by decide +kernel

-- The model.
theorem witness_StepTakesTheFrontCommand : State.reset.pending = []
    ∧ ({ State.reset with pending := [Instr.dnop 0, Instr.snop 1] } : State).pending = Instr.dnop 0 :: [Instr.snop 1] := by decide
theorem witness_EveryStepKeepsTheStoresCanonical : wTile.canonical = true ∧ ∃ u, step State.reset = .next u := ⟨by decide +kernel, _, rfl⟩
theorem witness_SlotsDecodeAsEncoded : (PInsn.fma .macns true 1 2 3 31 7).wf = true ∧ (MInsn.drain ⟨false, 3, 1, 4, 6, true⟩).wf = true := by decide +kernel
/-- The table gives its rows no bits. -/
theorem test_no_table_word : decodeTableWord 32 0x04221800 = none ∧ State.reset.withFetchWord 32 0x04221800 = State.reset := ⟨rfl, rfl⟩

-- Words written bit by bit from Tables 5.3, 5.4, 5.5, 6.1 and 6.2.
theorem test_word_iadd : decodeP 0x4221800 = some (.intR .add 1 2 3) := by decide +kernel
theorem test_word_imulhu : decodeP 0x31EE6802 = some (.intR .mulhu 15 14 13) := by decide +kernel
theorem test_word_iorki : decodeP 0x10E8FFFF = some (.intI .or 7 8 0xFFFF) := by decide +kernel
theorem test_word_isark : decodeP 0x208500BF = some (.intI .sar 4 5 63) := by decide +kernel
theorem test_word_iputh : decodeP 0x29231234 = some (.iputh 9 3 0x1234) := by decide +kernel
theorem test_word_fldd : decodeP 0x73EFFFF8 = some (.load .fd 31 15 0xFFF8) := by decide +kernel
theorem test_word_sth : decodeP 0x64640010 = some (.store .h 3 4 0x10) := by decide +kernel
theorem test_word_cbltu : decodeP 0x9022FFFE = some (.branch .ltu 1 2 0xFFFE) := by decide +kernel
theorem test_word_call : decodeP 0x99C01FFF = some (.call 14 0x1FFF) := by decide +kernel
theorem test_word_jreg : decodeP 0x9C0E0000 = some (.jreg 14) := by decide +kernel
theorem test_word_fdiv : decodeP 0xA2329B43 = some (.fop .div true 17 18 19 3) := by decide +kernel
theorem test_word_fmacns : decodeP 0xA4221FFF = some (.fma .macns true 1 2 3 31 7) := by decide +kernel
theorem test_word_cvt : decodeP 0xAA831720 = some (.cvt .b32 .i64 20 3 1) := by decide +kernel
theorem test_word_fclt : decodeP 0xACA63843 = some (.fmov .clt true 5 6 7) := by decide +kernel
theorem test_word_vlset : decodeP 0xB0220400 = some (.vlset 1 2 .b32) := by decide +kernel
theorem test_word_vfnma : decodeP 0xC0221D12 = some (.vop .fnma .b64 1 2 3) := by decide +kernel
theorem test_word_vcmul : decodeP 0xC8620C18 = some (.vcmul true true .b32 3 2 1) := by decide +kernel
theorem test_word_vscatter : decodeP 0xD0690E01 = some (.vscatter 3 9 1 .sk16) := by decide +kernel
theorem test_word_mm : decodeM 0x1CD2EB14 = some (.mm ⟨true, 2, 1, 0xA5, 6, 5, true, false, false, false, true, false, true⟩) := by decide +kernel
theorem test_word_shd : decodeM 0x2003D580 = some (.shd ⟨7, 0b1010101, 2⟩) := by decide +kernel
theorem test_word_drain : decodeM 0x3600CD00 = some (.drain ⟨false, 3, 1, 4, 6, true⟩) := by decide +kernel
theorem test_word_regather : decodeD 0x59E90000 = some (.op .regather ⟨9, 14, 2, false, true⟩) := by decide +kernel
theorem test_word_wait : decodeS 0x1721 = some (.wait 7 0x21) := by decide +kernel
theorem test_word_fence : decodeS 0x2805 = some (.fence (.f 5)) := by decide +kernel
theorem test_word_take : decodeS 0x4FE3 = some (.take 0xFE 3) := by decide +kernel
/-- Reserved operations, functions, types and fields are none (R139, R176). -/
theorem test_word_reserved : decodeS 0x2C00 = none
    ∧ decodeS 0x7000 = none
    ∧ decodeD 0x70000000 = none
    ∧ decodeM 0x30000E00 = none
    ∧ decodeM 0x40000000 = none
    ∧ decodeP 0x6000000 = none
    ∧ decodeP 0xA0000400 = none
    ∧ decodeP 0xC0000020 = none
    ∧ decodeP 0xC0000300 = none
    ∧ decodeP 0xA0221804 = none := by decide +kernel

-- Commands the manual does not admit, one for each check of Instr.wf.
theorem test_wf_register_write : (Instr.registerWrite 0x12000000000 []).wf = false
    ∧ (Instr.registerWrite 0x12000000000 [(1, 5, [0, 0, 0, 0])]).wf = false ∧ (Instr.registerWrite 0x12000000000 [(1, 0, [])]).wf = false
    ∧ (Instr.registerWrite 0x12000000000 [(1, 4, [0, 0, 0, 0])]).wf = true := by decide +kernel
theorem test_wf_access : (Instr.rcRead 1 0x12000000000 0).wf = false ∧ (Instr.memoryAccess 1 0 4 (some [0]) 0 false ⟨noEcc, []⟩).wf = false
    ∧ (Instr.memoryAccess 1 0 0 none 0 false ⟨noEcc, []⟩).wf = false ∧ (Instr.memoryAccess 1 0 1 (some [0]) 0 false ⟨noEcc, []⟩).wf = true
    ∧ (Instr.bankWrite 0 5 1 0x1FFFF [0, 0]).wf = false ∧ (Instr.bankWrite 0 5 1 0 []).wf = false
    ∧ (Instr.reduceWrite 5 0 true 0 [0] [] ⟨none, none⟩).wf = false ∧ (Instr.reduceWrite 5 0 true 0 [] [] ⟨none, none⟩).wf = false := by decide +kernel
theorem test_wf_slots : (Instr.drain 5 ⟨false, 0, 0, 0, 7, false⟩).wf = false ∧ (Instr.copy 5 ⟨0, 15, 0, false, false⟩).wf = false
    ∧ (Instr.convert 5 ⟨0, 15, 0, false, false⟩).wf = false ∧ (Instr.rwrite 5 ⟨0, 15, 0, false, false⟩).wf = false
    ∧ (Instr.gather 5 ⟨0, 15, 0, false, false⟩).wf = false ∧ (Instr.regather 5 ⟨0, 15, 0, false, false⟩).wf = false
    ∧ (Instr.fill 5 ⟨0, 15, 0, false, false⟩).wf = false ∧ (Instr.fill 5 ⟨0, 14, 0, false, false⟩).wf = true
    ∧ (Instr.vgather (.tile 5) 2 1 2 .i8).wf = false ∧ (Instr.fadd (.tile 5) false 0 0 0 4).wf = false ∧ (Instr.fmac (.tile 5) false 0 0 0 0 5).wf = false
    ∧ (Instr.cvt (.tile 5) .i32 .b32 16 0 0).wf = false ∧ (Instr.cvt (.tile 5) .b32 .i32 0 16 0).wf = false ∧ (Instr.vadd (.tile 5) .sk16 0 0 0).wf = false
    ∧ (Instr.vredsum (.tile 5) .i32 0 0).wf = false ∧ (Instr.vbcast (.tile 5) 0 16 .i8).wf = false ∧ (Instr.vext (.tile 5) 16 0 0 .i8).wf = false
    ∧ (Instr.vcmul (.tile 5) false false .i8 0 0 0).wf = false ∧ (Instr.fsqrt (.tile 5) true 31 31 7).wf = true := by decide +kernel
theorem test_wf_others : (Instr.collCtrl 0 (2 ^ 32)).wf = false ∧ (Instr.collCtrl 15 0).wf = true ∧ (Instr.stageTimeout 6).wf = true := by decide +kernel

-- The manual's own numbers.
/-- The standby bank has no commit word: the halt record of the first run of the banks example (chapter 7). -/
def wSwapped : State := match exec (.swapBank 1061) (wSet State.reset [(R.TA_SEQ_STATE 1061, seqIssuing), (R.TA_SEQ_RESUME 1061, 300)]) with
  | .next u => u.settleSwaps
  | _ => State.reset
theorem test_halt_record : wSwapped.reg (R.TA_HALT0 1061) = 0x800B00080000012C ∧ wSwapped.reg (R.TA_HALT2 1061) = 0
    ∧ R.TA_HALT0 1061 = 0x11042500000 + 0xF8318 := by decide +kernel
/-- SHA-512 of "abc" (FIPS 180-4). -/
theorem test_sha512 : ofBe (sha512 [0x61, 0x62, 0x63]) =
    0xddaf35a193617abacc417349ae20413112e6fa4e89a97ea20a9eeee64b55d39a2192992a274fc1a836ba3c23a3feebbd454d4423643ce80e2a9ac94fa54ca49f := by decide +kernel
/-- A 4096-bit key and a signature of "abc" made outside Lean by OpenSSL (PSS, SHA-512, MGF1 with SHA-512, a salt of 64 bytes). -/
def wKey : List Byte := beBytes 0xA2631B830472FF7A8A4FCF5E80BC7BDDB4DD5B2E072656033957AE2D381EA0B01815EAE63C849D0DA3211BB90446A3D02906B807CDDFD25533EACFA3F8B5BE0ED081E1842DF5FC97FA7A2B27F3CE7E2ED4F265027F8BC7B5EDD0D96A9D9D08CCE5A1794B5F959FE984905F4179BE498A6A23AAED16C623ABD0ACD73F97AD05C5A6B1471371146E1E3F59181D7941E86D365FE95C2B53D9722DF0698D6BEC7AEC2002C5E0E656B151D7352AAF085098EE1C788CFEA27960394E256EF0930BE30745ECF6296A4FEBBD981AF08DA01645374F144A52CD8CB40D1361727BE69C4743054478807F5AE28FA53BEC443BC8C7F2463D2DA98D6F8DE14B847FA6481D35F1389BDCF62438D15B855F2DBE9BB8068CCD991E3777AC4707BDFFCC85DE942A0D2D7319D7CF09C53BEA68B9F755BEBA71E72F876BB05E92E15E86B7AE76A6C51091352EAF1756A4D23FE68C32C8FB45D50AFDFE9E13D634D81F0A9C75EB7E695B625E3C1FE8F4800F2E80FBCEC5CAF43AD6E9CC84DB860A6DAEA1309F8291EE8671D4BD112BAFC85330727C53D2A0B21E9FAB34501C1F2068DE70B3AECAE0D7FC1366EB68483E1D26BADB4E20E4C79772650ACD8C83D1B1F4B982BD8494394A87C1EE674EBAD16DC91162A170FB196B330BBC3793E57EDC06240571CEF91ADD67306ADC8720D4AB952B445F45A012C31418365B5DDE916A6BE8A7ADD1864545B7 512 ++ beBytes 65537 4
def wSig : List Byte := beBytes
  0x0E5C8F4DFEA812C3113DE10742DAEE99A12E79FE197AFDCDAACE01A42DF61DFAA90DD337B422B7ADD35D332D0F597903485F71D88D70E040D519A1E7E1C46D381A82B5947BCD5CFE655893F7F10F973EB6D569E21756F51BBB3265BE082DE7B457FDA74F647BEAE318FE0D2874AEA6C552B7447B55EE188D3D78612EB6B66892B8EC3E296C7C6679388E8F878EE6DDC09F65257400342F469AAF120DE85F22275621F78E2FE20ECB967F014C2029632692A5D762FF0A88A696198B33ECF0018D5AE832116D83C0A7F355A4C31223BC17B980D4EF1400BCE3452CD84CF6F579320581FA18F43E098FFEB41AE2FE0E6E0964DC167E5B8D3AAB05A304A45EF6DFED243B0D7910A9EDFCC042ABA0E4CD7CD9148AA902B72472D00D5BC5BFC0307D8DFAE388CFA30F6922A782FBA479D1DEBBB264A600C543C85A2AF0387EA565B515AAA2A3EB5E2D4FFA97A5E56BFE3703349A2FBE7F8DB186B4F1B49CEC8F239BA842FC49B46E3B6FF322B79D0FD9F8E4DD8F4F535E30B88DA69673188B8E1584FE983C83AC61B88B40825EFD316010635F16AE97B4BD321D8D03ECCBA57966F6908354B98E27FD198D46F055AD1B53D7DDAA7F55A10A2440142BFE57B2AA5FAC4D61FC284FBA889FDB735EE834F325D8FDE1DE2979A5028B29D23C56909FA1C65927DB989A76D5E319C0C0C419F5CB5BD8EAD09F9CC2CB96087F7FBD7AC1F55CDB 512
theorem test_pss : pssVerify wKey [0x61, 0x62, 0x63] wSig = true := by decide +kernel
-- Booth cores (R197).
/-- Core 0 runs: x1 = 64, x2 = 7, f0 and f8 hold bytes, p1 enables elements 0 and 2; word 0 of its SRAM is `w`. -/
def wBooth (w : Nat) : State :=
  let c : BoothCore := { BoothCore.init with x := [(1, 64), (2, 7)], f := [(0, 0x0403020104030201), (8, 0x0101010101010101)], p := [(1, 5)] }
  { State.reset with sec := { SecX.delivered with slot := some 0 }, booth := [(0, c.st 0 (leBytes w 4))] }
/-- Core 0 after a command that answers a next state, and its initial contents otherwise. -/
def wCore (i : Instr) (s : State) : BoothCore :=
  match exec i s with
  | .next u => u.core 0
  | _ => BoothCore.init
theorem witness_BoothCoresRunTheSameInstructions : (wBooth 0).coreRuns 0 = true ∧ (wBooth 0x04611000).coreRuns 0 = true ∧ rmFOk 7 = true
    ∧ decodeBooth (((wBooth 0x04611000).core 0).ld (4 * ((wBooth 0x04611000).core 0).pc) 4) = some (.intR .add 3 1 2, 0, 0)
    ∧ decodeBooth 0xC0001020 = some (.vop .add .i8 0 0 2, 1, 0) := by decide +kernel
theorem witness_BoothCoresUsePredicatesAndTheirOwnSram : (wBooth 0).coreRuns 0 = true ∧ (((wBooth 0).core 0).xr 1).toNat < 2 ^ 20
    ∧ (((wBooth 0).core 0).xr 1).toNat % 64 = 0 ∧ ((wBooth 0).core 0).xr 2 + (BitVec.ofNat 16 0xFFFF).signExtend 64 = 6
    ∧ bitOf (((wBooth 0).core 0).pr 1) 0 = true ∧ bitOf (((wBooth 0).core 0).pr 1) 1 = false := by decide +kernel
/-- The word at the core's index is fetched and performed: IADD x3, x1, x2 (word 0x04611000). -/
theorem test_booth_fetch : (wCore (.bundleFetch (.booth 0) noEcc) (wBooth 0x04611000)).xr 3 = 71 ∧ (wCore (.bundleFetch (.booth 0) noEcc) (wBooth 0x04611000)).pc = 1 := by decide +kernel
/-- VLSET is reserved on a booth core. -/
theorem test_booth_vlset : exec (.vlset (.booth 0 0 0) 1 2 .i8) (wBooth 0) = .fault .reservedInstruction := by rfl
/-- VADD of bytes under p1 changes elements 0 and 2 alone. -/
theorem test_booth_vadd : (wCore (.vadd (.booth 0 1 0) .i8 0 0 1) (wBooth 0)).fr 0 = 0x0403020104040202 ∧ (wCore (.vadd (.booth 0 1 0) .i8 0 0 1) (wBooth 0)).fr 1 = 0 := by decide +kernel
/-- VCEQ of bytes under p1 into p3: of elements 0 and 2 only element 0 (1 = 1) compares equal, and p3 was zero. -/
theorem test_booth_vceq : (wCore (.vceq (.booth 0 1 3) .i8 0 0 1) (wBooth 0)).pr 3 = 1 ∧ (wCore (.vceq (.booth 0 1 3) .i8 0 0 1) (wBooth 0)).fr 0 = 0x0403020104030201 := by decide +kernel
/-- A store and a misaligned store: STW at 64 + 4 writes, STW at 64 + 6 goes to a vector with the code PF_ALIGN. -/
theorem test_booth_store : (wCore (.stw (.booth 0 0 0) 2 1 4) (wBooth 0)).ld 68 4 = 7 ∧ (wCore (.stw (.booth 0 0 0) 2 1 4) (wBooth 0)).pc = 1 ∧ (wCore (.stw (.booth 0 0 0) 2 1 6) (wBooth 0)).ld 70 4 = 0 ∧ (wCore (.stw (.booth 0 0 0) 2 1 6) (wBooth 0)).err = 0x22 := by decide +kernel

end Sys2Proof.Tests
end

section
/-!
PROOFS. Bits of a register, its fields after a write of one of them, and what only some registers change in: what the proofs of the scope family share.
-/
namespace Sys2Proof.Machine

/-! ### Bit ranges -/

theorem testBit_bitsOf (n hi lo i : Nat) : (bitsOf n hi lo).testBit i = (decide (i < hi + 1 - lo) && n.testBit (lo + i)) := by
  rw [bitsOf, Nat.testBit_mod_two_pow, Nat.testBit_shiftRight]

theorem testBit_maskOf (hi lo i : Nat) : (maskOf hi lo).testBit i = decide (lo ≤ i ∧ i ≤ hi) := by
  rw [maskOf, Nat.testBit_shiftLeft, Nat.testBit_two_pow_sub_one, Bool.eq_iff_iff]
  simp only [Bool.and_eq_true, decide_eq_true_eq]
  omega

/-- What replacing bits does, as one sum of what lies below, in and above the range. -/
theorem putBits_eq (n hi lo v : Nat) :
    putBits n hi lo v = 2 ^ lo * (2 ^ (hi + 1 - lo) * (n / 2 ^ lo / 2 ^ (hi + 1 - lo)) + v % 2 ^ (hi + 1 - lo)) + n % 2 ^ lo := by
  have h1 := Nat.div_add_mod n (2 ^ lo)
  have h2 := Nat.div_add_mod (n / 2 ^ lo) (2 ^ (hi + 1 - lo))
  have h3 : 2 ^ lo * (n / 2 ^ lo) = 2 ^ lo * (2 ^ (hi + 1 - lo) * (n / 2 ^ lo / 2 ^ (hi + 1 - lo)))
      + 2 ^ lo * (n / 2 ^ lo % 2 ^ (hi + 1 - lo)) := by rw [← Nat.mul_add, h2]
  rw [putBits, bitsOf, Nat.shiftLeft_eq, Nat.shiftLeft_eq, Nat.shiftRight_eq_div_pow, Nat.mul_add, Nat.mul_comm _ (2 ^ lo),
    Nat.mul_comm _ (2 ^ lo)]
  omega

theorem testBit_putBits (n hi lo v i : Nat) :
    (putBits n hi lo v).testBit i = if lo ≤ i ∧ i ≤ hi then v.testBit (i - lo) else n.testBit i := by
  rw [putBits_eq, Nat.testBit_two_pow_mul_add _ (Nat.mod_lt _ (Nat.two_pow_pos lo)),
    Nat.testBit_two_pow_mul_add _ (Nat.mod_lt _ (Nat.two_pow_pos _)), Nat.testBit_mod_two_pow, Nat.testBit_mod_two_pow,
    Nat.testBit_div_two_pow, Nat.testBit_div_two_pow]
  by_cases h1 : i < lo
  · simp [h1, show ¬(lo ≤ i ∧ i ≤ hi) by omega]
  · by_cases h2 : i ≤ hi
    · simp [h1, show i - lo < hi + 1 - lo by omega, show lo ≤ i ∧ i ≤ hi by omega]
    · simp [h1, show ¬(i - lo < hi + 1 - lo) by omega, show ¬(lo ≤ i ∧ i ≤ hi) by omega]
      congr 1; omega


/-! ### Fields of a register after a write of one of them -/

theorem fld_setFld_same (s : State) (f : Fld) (v : Nat) (h : f.hi < 64) : (s.setFld f v).fld f = v % 2 ^ (f.hi + 1 - f.lo) := by
  refine Nat.eq_of_testBit_eq fun i => ?_
  rw [State.fld, State.setFld, reg_setReg_same, testBit_bitsOf, BitVec.toNat_ofNat, Nat.testBit_mod_two_pow, Nat.testBit_mod_two_pow,
    testBit_putBits]
  by_cases hi : i < f.hi + 1 - f.lo
  · simp [hi, show f.lo + i < 64 by omega, show f.lo + i ≤ f.hi by omega]
  · simp [hi]

/-- Another field of any register keeps its value, where the two do not overlap. -/
theorem fld_setFld_disjoint (s : State) {f g : Fld} (v : Nat) (h : g.hi < f.lo ∨ f.hi < g.lo) : (s.setFld f v).fld g = s.fld g := by
  by_cases ha : g.addr = f.addr
  · refine Nat.eq_of_testBit_eq fun i => ?_
    rw [State.fld, State.fld, State.setFld, ha, reg_setReg_same, testBit_bitsOf, testBit_bitsOf, BitVec.toNat_ofNat,
      Nat.testBit_mod_two_pow, testBit_putBits]
    by_cases hi : i < g.hi + 1 - g.lo
    · by_cases h64 : g.lo + i < 64
      · simp [h64, show ¬(f.lo ≤ g.lo + i ∧ g.lo + i ≤ f.hi) by omega]
      · have : (s.reg f.addr).toNat.testBit (g.lo + i) = false :=
          Nat.testBit_lt_two_pow (lt_of_lt_of_le (s.reg f.addr).isLt (Nat.pow_le_pow_right (by decide) (by omega)))
        simp [h64, this]
    · simp [hi]
  · exact fld_setFld_ne s ha

theorem bit_setFld_disjoint (s : State) {f g : Fld} (v : Nat) (h : g.hi < f.lo ∨ f.hi < g.lo) : (s.setFld f v).bit g = s.bit g := by
  rw [State.bit, State.bit, fld_setFld_disjoint s v h]

theorem bit_setFld_one (s : State) (f : Fld) (h : f.hi < 64) (hw : f.lo ≤ f.hi) : (s.setFld f 1).bit f = true := by
  rw [State.bit, fld_setFld_same s f 1 h, Nat.mod_eq_of_lt (Nat.one_lt_two_pow (by omega))]
  rfl

theorem bit_setFld_zero (s : State) (f : Fld) (h : f.hi < 64) : (s.setFld f 0).bit f = false := by
  rw [State.bit, fld_setFld_same s f 0 h, Nat.zero_mod]
  rfl

theorem fld_lt (s : State) (f : Fld) : s.fld f < 2 ^ (f.hi + 1 - f.lo) := Nat.mod_lt _ (Nat.two_pow_pos _)

theorem fld_congr {s u : State} {f : Fld} (h : u.reg f.addr = s.reg f.addr) : u.fld f = s.fld f := by rw [State.fld, State.fld, h]

theorem bit_congr {s u : State} {f : Fld} (h : u.reg f.addr = s.reg f.addr) : u.bit f = s.bit f := by rw [State.bit, State.bit, fld_congr h]

@[simp] theorem reg_noteEvt (s : State) (f : Fld) (n a : Nat) : (s.noteEvt f n).reg a = s.reg a := (rfl)
@[simp] theorem fld_noteEvt (s : State) (f g : Fld) (n : Nat) : (s.noteEvt f n).fld g = s.fld g := (rfl)
@[simp] theorem bit_noteEvt (s : State) (f g : Fld) (n : Nat) : (s.noteEvt f n).bit g = s.bit g := (rfl)

theorem fld_raiseFld_disjoint (s : State) {f g : Fld} (h : g.hi < f.lo ∨ f.hi < g.lo) : (s.raiseFld f).fld g = s.fld g :=
  fld_setFld_disjoint (s.noteEvt f 1) 1 h

theorem bit_raiseFld_disjoint (s : State) {f g : Fld} (h : g.hi < f.lo ∨ f.hi < g.lo) : (s.raiseFld f).bit g = s.bit g :=
  bit_setFld_disjoint (s.noteEvt f 1) 1 h

theorem bit_raiseFld_same (s : State) (f : Fld) (h : f.hi < 64) (hw : f.lo ≤ f.hi) : (s.raiseFld f).bit f = true :=
  bit_setFld_one (s.noteEvt f 1) f h hw

theorem reg_raiseFld_ne (s : State) {f : Fld} {a : Nat} (h : a ≠ f.addr) : (s.raiseFld f).reg a = s.reg a :=
  reg_setFld_ne (s.noteEvt f 1) h

theorem fld_raiseFld_ne (s : State) {f g : Fld} (h : g.addr ≠ f.addr) : (s.raiseFld f).fld g = s.fld g := fld_congr (reg_raiseFld_ne s h)

theorem bit_raiseFld_ne (s : State) {f g : Fld} (h : g.addr ≠ f.addr) : (s.raiseFld f).bit g = s.bit g := bit_congr (reg_raiseFld_ne s h)

theorem reg_countFld_ne (s : State) {f : Fld} {a n : Nat} (h : a ≠ f.addr) : (s.countFld f n).reg a = s.reg a :=
  reg_addFld_ne (s.noteEvt f n) h

/-- A counter rises and stops at its all-ones value. -/
theorem fld_countFld_same (s : State) (f : Fld) (n : Nat) (h : f.hi < 64) :
    (s.countFld f n).fld f = min (2 ^ (f.hi + 1 - f.lo) - 1) (s.fld f + n) := by
  rw [State.countFld, State.addFld, fld_setFld_same _ _ _ h, satAdd, fld_noteEvt, Nat.mod_eq_of_lt]
  have := Nat.two_pow_pos (f.hi + 1 - f.lo)
  omega

end Sys2Proof.Machine

namespace Sys2Proof.Claim
open Sys2Proof.Machine

/-! ### What only some registers change in -/

theorem only_refl (P : Nat → Prop) (s : State) : Only P s s := ⟨fun _ _ => rfl, fun _ => rfl, fun _ => rfl, fun _ => rfl⟩

theorem Only.trans {P : Nat → Prop} {s u w : State} (h : Only P s u) (g : Only P u w) : Only P s w :=
  ⟨fun a ha => (g.regs a ha).trans (h.regs a ha), fun a => (g.bytes a).trans (h.bytes a),
    fun a => (g.poison a).trans (h.poison a), fun t => (g.tiles t).trans (h.tiles t)⟩

theorem Only.mono {P Q : Nat → Prop} {s u : State} (h : Only P s u) (hq : ∀ a, P a → Q a) : Only Q s u :=
  ⟨fun a ha => h.regs a fun hp => ha (hq a hp), h.bytes, h.poison, h.tiles⟩

/-- A change of none of the four stores. -/
theorem only_of_stores {P : Nat → Prop} {s u : State} (h1 : u.regs = s.regs) (h2 : u.mem = s.mem) (h3 : u.poison = s.poison)
    (h4 : u.tiles = s.tiles) : Only P s u :=
  ⟨fun a _ => by rw [State.reg, State.reg, h1], fun a => by rw [State.byte, State.byte, h2],
    fun a => by rw [State.poisoned, State.poisoned, h3], fun t => by rw [State.tile, State.tile, h4]⟩

theorem only_setReg {P : Nat → Prop} (s : State) {a : Nat} (v : Word) (h : P a) : Only P s (s.setReg a v) :=
  ⟨fun _ hb => reg_setReg_ne s v fun e => hb (e ▸ h), fun _ => rfl, fun _ => rfl, fun _ => rfl⟩

theorem only_setFld {P : Nat → Prop} (s : State) {f : Fld} (v : Nat) (h : P f.addr) : Only P s (s.setFld f v) := only_setReg s _ h

theorem only_raiseFld {P : Nat → Prop} (s : State) {f : Fld} (h : P f.addr) : Only P s (s.raiseFld f) :=
  (only_of_stores rfl rfl rfl rfl : Only P s (s.noteEvt f 1)).trans (only_setFld _ _ h)

theorem only_countFld {P : Nat → Prop} (s : State) {f : Fld} (n : Nat) (h : P f.addr) : Only P s (s.countFld f n) :=
  (only_of_stores rfl rfl rfl rfl : Only P s (s.noteEvt f n)).trans (only_setFld _ _ h)

theorem only_send {P : Nat → Prop} (s : State) (m : OutMsg) : Only P s (s.send m) := only_of_stores rfl rfl rfl rfl

end Sys2Proof.Claim
end

section
/-!
PROOFS. Alarms (O26).
-/
namespace Sys2Proof.Claim
open Sys2Proof.Machine

/-! ### Cue alarms (R48) -/

/-- Alarm `n` with ARM cleared and FIRED set. -/
def alarmFired (s : State) (n : Nat) : State := (s.setFld (R.CU_ALARM_CTL_ARM n) 0).raiseFld (R.CU_ALARM_CTL_FIRED n)

/-- An alarm as it stands once it has fired: LATE where the count has passed its target (Table 2.8). -/
def alarmMarked (s : State) (n target : Nat) : State :=
  if target < s.cue then ((alarmFired s n).raiseFld (R.CU_ALARM_CTL_LATE n)).raiseFld R.CU_STATUS_LATE_ALARM else alarmFired s n

theorem cue_alarmFired (s : State) (n : Nat) (hn : n < 32) : (alarmFired s n).cue = s.cue := by
  have h : R.CU_COUNT ≠ R.CU_ALARM_CTL n := by simp only [R.CU_COUNT, R.CU_ALARM_CTL]; omega
  rw [State.cue, State.cue, alarmFired, reg_raiseFld_ne _ (f := R.CU_ALARM_CTL_FIRED n) h, reg_setFld_ne _ (f := R.CU_ALARM_CTL_ARM n) h]

theorem status_ne_alarm (n : Nat) : R.CU_STATUS_LATE_ALARM.addr ≠ R.CU_ALARM_CTL n := by
  simp only [R.CU_STATUS_LATE_ALARM, R.CU_ALARM_CTL]; omega

/-- The fields of the alarm that hold what it does are as they were: those above LATE. -/
theorem fld_alarmMarked_above (s : State) (n target : Nat) {f : Fld} (ha : f.addr = R.CU_ALARM_CTL n) (hl : 2 < f.lo) :
    (alarmMarked s n target).fld f = s.fld f := by
  have hs : f.addr ≠ R.CU_STATUS_LATE_ALARM.addr := ha ▸ (status_ne_alarm n).symm
  have hd : ∀ g ∈ [R.CU_ALARM_CTL_ARM n, R.CU_ALARM_CTL_FIRED n, R.CU_ALARM_CTL_LATE n], f.hi < g.lo ∨ g.hi < f.lo := by
    simp only [List.mem_cons, List.not_mem_nil, or_false, R.CU_ALARM_CTL_ARM, R.CU_ALARM_CTL_FIRED, R.CU_ALARM_CTL_LATE]
    rintro g (rfl | rfl | rfl) <;> exact .inr (by simp only; omega)
  have hf : (alarmFired s n).fld f = s.fld f := by
    rw [alarmFired, fld_raiseFld_disjoint _ (hd _ (by simp)), fld_setFld_disjoint _ _ (hd _ (by simp))]
  unfold alarmMarked
  split
  · rw [fld_raiseFld_ne _ hs, fld_raiseFld_disjoint _ (hd _ (by simp)), hf]
  · exact hf

theorem bit_alarmMarked_arm (s : State) (n target : Nat) : (alarmMarked s n target).bit (R.CU_ALARM_CTL_ARM n) = false := by
  have hf : (alarmFired s n).bit (R.CU_ALARM_CTL_ARM n) = false := by
    rw [alarmFired, bit_raiseFld_disjoint _ (of_decide_eq_true rfl), bit_setFld_zero _ _ (of_decide_eq_true rfl)]
  unfold alarmMarked
  split
  · rw [bit_raiseFld_ne _ (status_ne_alarm n).symm, bit_raiseFld_disjoint _ (of_decide_eq_true rfl), hf]
  · exact hf

theorem bit_alarmMarked_fired (s : State) (n target : Nat) : (alarmMarked s n target).bit (R.CU_ALARM_CTL_FIRED n) = true := by
  have hf : (alarmFired s n).bit (R.CU_ALARM_CTL_FIRED n) = true := bit_raiseFld_same _ _ (of_decide_eq_true rfl) (of_decide_eq_true rfl)
  unfold alarmMarked
  split
  · rw [bit_raiseFld_ne _ (status_ne_alarm n).symm, bit_raiseFld_disjoint _ (of_decide_eq_true rfl), hf]
  · exact hf

/-- Past its target an alarm is late, in its own register and in CU_STATUS. -/
theorem bit_alarmMarked_late (s : State) {n target : Nat} (h : target < s.cue) :
    (alarmMarked s n target).bit (R.CU_ALARM_CTL_LATE n) = true ∧ (alarmMarked s n target).bit R.CU_STATUS_LATE_ALARM = true := by
  rw [alarmMarked, if_pos h]
  exact ⟨by rw [bit_raiseFld_ne _ (status_ne_alarm n).symm, bit_raiseFld_same _ _ (of_decide_eq_true rfl) (of_decide_eq_true rfl)],
    bit_raiseFld_same _ _ (of_decide_eq_true rfl) (of_decide_eq_true rfl)⟩

/-- At its target an alarm is not late. -/
theorem bit_alarmMarked_intime (s : State) {n target : Nat} (h : ¬ target < s.cue) :
    (alarmMarked s n target).bit (R.CU_ALARM_CTL_LATE n) = s.bit (R.CU_ALARM_CTL_LATE n)
      ∧ (alarmMarked s n target).bit R.CU_STATUS_LATE_ALARM = s.bit R.CU_STATUS_LATE_ALARM := by
  rw [alarmMarked, if_neg h, alarmFired]
  exact ⟨by rw [bit_raiseFld_disjoint _ (of_decide_eq_true rfl), bit_setFld_disjoint _ _ (of_decide_eq_true rfl)],
    by rw [bit_raiseFld_ne _ (status_ne_alarm n), bit_setFld_ne _ (status_ne_alarm n)]⟩

theorem only_alarmMarked (s : State) (n target : Nat) : Only (fun a => a = R.CU_ALARM_CTL n ∨ a = R.CU_STATUS) s (alarmMarked s n target) := by
  have hf : Only (fun a => a = R.CU_ALARM_CTL n ∨ a = R.CU_STATUS) s (alarmFired s n) :=
    (only_setFld _ _ (.inl rfl)).trans (only_raiseFld _ (.inl rfl))
  unfold alarmMarked
  split
  · exact (hf.trans (only_raiseFld _ (.inl rfl))).trans (only_raiseFld _ (.inr rfl))
  · exact hf

/-- A write of CU_ALARM_CTL as a whole arms the alarm where it leaves ARM set. -/
theorem alarmCtlWrite_whole (s : State) (n v : Nat) : s.alarmCtlWrite n 0 8 v =
    (let w := s.setReg (R.CU_ALARM_CTL n) (BitVec.ofNat 64 (regAfter s.locked (fieldsAt (R.CU_ALARM_CTL n)) (s.reg (R.CU_ALARM_CTL n)).toNat
        (v - Nat.land v (s.setHeld (R.CU_ALARM_CTL n))) (2 ^ 64 - 1)))
     if w.bit (R.CU_ALARM_CTL_ARM n) then { w with now := { w.now with armed := n :: w.now.armed } } else w) := (rfl)

/-- An alarm that is not armed, was armed in this cycle, or has its target ahead stays as it is. -/
theorem execAlarmFire_idle {s : State} {n : Fin 32}
    (h : s.bit (R.CU_ALARM_CTL_ARM n) = false ∨ n.val ∈ s.now.armed ∨ s.cue < (s.reg (R.CU_ALARM_TGT n)).toNat) :
    execAlarmFire n s = .next s := by
  unfold execAlarmFire
  rw [if_pos]
  rcases h with h | h | h <;> simp [h]

/-- An alarm that fires is marked, and then its ACTION is taken. -/
theorem execAlarmFire_due {s : State} {n : Fin 32} (ha : s.bit (R.CU_ALARM_CTL_ARM n) = true) (hn : n.val ∉ s.now.armed)
    (hc : (s.reg (R.CU_ALARM_TGT n)).toNat ≤ s.cue) :
    let l := alarmMarked s n (s.reg (R.CU_ALARM_TGT n)).toNat
    (s.fld (R.CU_ALARM_CTL_ACTION n) = 0 → execAlarmFire n s = .next (l.send (.booth 1 n.val)))
    ∧ (s.fld (R.CU_ALARM_CTL_ACTION n) = 1 → execAlarmFire n s = .next (l.post (s.fld (R.CU_ALARM_CTL_CHANNEL n)) .cueTimer
        (BitVec.ofNat 64 (s.fld (R.CU_ALARM_CTL_TAG n) * 2 ^ 56 + R.CU_ALARM_CTL n))))
    ∧ (2 ≤ s.fld (R.CU_ALARM_CTL_ACTION n) → execAlarmFire n s = .next (l.event 1 0 (2 * 2 ^ 56
        + (n.val * 2 ^ 48 + s.fld (R.CU_ALARM_CTL_ACTION n) * 2 ^ 40 + (s.reg (R.CU_ALARM_TGT n)).toNat % 2 ^ 32)))) := by
  intro l
  have hfire : execAlarmFire n s = (match l.fld (R.CU_ALARM_CTL_ACTION n) with
      | 0 => .next (l.send (.booth 1 n))
      | 1 => .next (l.post (l.fld (R.CU_ALARM_CTL_CHANNEL n)) .cueTimer
          (BitVec.ofNat 64 (l.fld (R.CU_ALARM_CTL_TAG n) * 2 ^ 56 + R.CU_ALARM_CTL n)))
      | a => .next (l.cueEntry 2 (n * 2 ^ 48 + a * 2 ^ 40 + (s.reg (R.CU_ALARM_TGT n)).toNat % 2 ^ 32))) := by
    have hl : l = alarmMarked s n (s.reg (R.CU_ALARM_TGT n)).toNat := rfl
    unfold execAlarmFire
    rw [if_neg (by simp [ha, hn, hc]), hl, alarmMarked, ← cue_alarmFired s n n.isLt]
    rfl
  have hact : l.fld (R.CU_ALARM_CTL_ACTION n) = s.fld (R.CU_ALARM_CTL_ACTION n) := fld_alarmMarked_above _ _ _ rfl (of_decide_eq_true rfl)
  have hch : l.fld (R.CU_ALARM_CTL_CHANNEL n) = s.fld (R.CU_ALARM_CTL_CHANNEL n) := fld_alarmMarked_above _ _ _ rfl (of_decide_eq_true rfl)
  have htag : l.fld (R.CU_ALARM_CTL_TAG n) = s.fld (R.CU_ALARM_CTL_TAG n) := fld_alarmMarked_above _ _ _ rfl (of_decide_eq_true rfl)
  rw [hfire, hact, hch, htag]
  refine ⟨fun h => by rw [h]; rfl, fun h => by rw [h]; rfl, fun h => ?_⟩
  obtain ⟨a, ha⟩ := Nat.exists_eq_add_of_le' h
  rw [ha]
  rfl

/-- Settles O26: the alarm's marks field by field, then the three actions. -/
theorem alarmsFireAtTheirTarget : Obligations.AlarmsFireAtTheirTarget := by
  intro s n target act t l
  have hl : l = alarmMarked s n target := rfl
  refine ⟨fun v => ?_, fun h => execAlarmFire_idle h, fun ha hn hc => ?_⟩
  · exact congrArg Host.Outcome.next (alarmCtlWrite_whole s n v.toNat)
  · obtain ⟨h0, h1, h2⟩ := execAlarmFire_due ha hn hc
    rw [hl]
    exact ⟨bit_alarmMarked_arm s n target, bit_alarmMarked_fired s n target, bit_alarmMarked_late s,
      fun he => bit_alarmMarked_intime s (by omega), only_alarmMarked s n target,
      fun h => ⟨_, h0 h, rfl⟩, fun h => ⟨_, h1 h, rfl⟩, fun h => ⟨_, h2 h, rfl⟩⟩

end Sys2Proof.Claim
end

section
/-!
PROOFS. Register writes on the bus (O20).
-/
namespace Sys2Proof.Machine

/-! ### A register after a write, bit by bit (R10-R12, R583) -/

/-- The last bit of a bitwise and. -/
theorem land_mod_two (a b : Nat) : (a &&& b) % 2 = 1 ↔ a % 2 = 1 ∧ b % 2 = 1 := by
  have h := Nat.testBit_and a b 0
  rw [Nat.testBit_zero, Nat.testBit_zero, Nat.testBit_zero, Bool.eq_iff_iff] at h
  simpa only [Bool.and_eq_true, decide_eq_true_eq] using h

/-- Taking the bits of `b` out of `a`. -/
theorem testBit_sub_land (a b i : Nat) : (a - Nat.land a b).testBit i = (a.testBit i && !b.testBit i) := by
  change (a - (a &&& b)).testBit i = _
  induction i generalizing a b with
  | zero =>
    have hle : a &&& b ≤ a := Nat.and_le_left
    have hlow := land_mod_two a b
    rw [Nat.testBit_zero, Nat.testBit_zero, Nat.testBit_zero, Bool.eq_iff_iff]
    simp only [Bool.and_eq_true, decide_eq_true_eq, Bool.not_eq_true', decide_eq_false_iff_not]
    omega
  | succ i ih =>
    have hle : a &&& b ≤ a := Nat.and_le_left
    have hlow := land_mod_two a b
    have hd : (a - (a &&& b)) / 2 = a / 2 - (a / 2 &&& b / 2) := by
      rw [← Nat.and_div_two]
      omega
    rw [Nat.testBit_succ, hd, ih, Nat.testBit_succ, Nat.testBit_succ]

theorem testBit_foldl_lor {α : Type} (g : α → Nat) (i : Nat) : ∀ (l : List α) (x : Nat),
    (l.foldl (fun a f => Nat.lor a (g f)) x).testBit i = (x.testBit i || l.any (fun f => (g f).testBit i))
  | [], x => by simp
  | f :: l, x => by
    rw [List.foldl_cons, testBit_foldl_lor g i l, List.any_cons, ← Bool.or_assoc]
    exact congrArg (· || _) (Nat.testBit_or x (g f) i)

/-- The bit of a field that a write leaves: the written bit, the old one, or the old one cleared, as its access code says. -/
def bitAfter (locked : Bool) (acc : Access) (old w cov : Bool) : Bool :=
  match acc with
  | .rw => if cov then w else old
  | .rwl => if cov && !locked then w else old
  | .w1c => old && !(w && cov)
  | .ro => old
  | .wo => old
  | .rc => old

/-- Old bits where the write does not reach, written ones where it does. -/
theorem testBit_merge (old w cov m i : Nat) :
    (Nat.lor (Nat.land old (m - Nat.land m cov)) (Nat.land w (Nat.land m cov))).testBit i
      = (m.testBit i && if cov.testBit i then w.testBit i else old.testBit i) := by
  change ((old &&& (m - Nat.land m cov)) ||| (w &&& (m &&& cov))).testBit i = _
  rw [Nat.testBit_or, Nat.testBit_and, Nat.testBit_and, Nat.testBit_and, testBit_sub_land]
  cases m.testBit i <;> cases cov.testBit i <;> simp

theorem testBit_fieldAfter (locked : Bool) (old w cov : Nat) (f : Field) (i : Nat) :
    (fieldAfter locked old w cov f).testBit i
      = (decide (f.lo ≤ i ∧ i ≤ f.hi) && bitAfter locked f.acc (old.testBit i) (w.testBit i) (cov.testBit i)) := by
  have hkeep : (Nat.land old (maskOf f.hi f.lo)).testBit i = (decide (f.lo ≤ i ∧ i ≤ f.hi) && old.testBit i) := by
    change (old &&& maskOf f.hi f.lo).testBit i = _
    rw [Nat.testBit_and, testBit_maskOf, Bool.and_comm]
  obtain ⟨_, hi, lo, acc, _⟩ := f
  cases acc with
  | rw => exact (testBit_merge old w cov (maskOf hi lo) i).trans (by rw [testBit_maskOf]; rfl)
  | rwl =>
    cases locked with
    | true => exact hkeep.trans (by simp [bitAfter])
    | false => exact (testBit_merge old w cov (maskOf hi lo) i).trans (by rw [testBit_maskOf]; simp [bitAfter])
  | w1c =>
    change (old &&& (maskOf hi lo - Nat.land (maskOf hi lo) (w &&& cov))).testBit i = _
    rw [Nat.testBit_and, testBit_sub_land, Nat.testBit_and, testBit_maskOf]
    cases old.testBit i <;> simp [bitAfter]
  | ro => exact hkeep
  | wo => exact hkeep
  | rc => exact hkeep

/-- A bit of no field stays; a bit of a field is that field's (R12). -/
theorem testBit_regAfter (locked : Bool) (fs : List Field) (old w cov i : Nat) :
    (regAfter locked fs old w cov).testBit i
      = ((old.testBit i && !fs.any (fun f => decide (f.lo ≤ i ∧ i ≤ f.hi)))
        || fs.any (fun f => decide (f.lo ≤ i ∧ i ≤ f.hi) && bitAfter locked f.acc (old.testBit i) (w.testBit i) (cov.testBit i))) := by
  unfold regAfter
  simp only [testBit_foldl_lor, testBit_sub_land, testBit_fieldAfter, testBit_maskOf, Nat.zero_testBit, Bool.false_or]

/-- In fields that do not overlap, only one holds a bit. -/
theorem field_unique {fs : List Field} (hd : fs.Pairwise (fun f g => f.hi < g.lo ∨ g.hi < f.lo)) {f g : Field} (hf : f ∈ fs) (hg : g ∈ fs)
    {i : Nat} (h1 : f.lo ≤ i ∧ i ≤ f.hi) (h2 : g.lo ≤ i ∧ i ≤ g.hi) : f = g := by
  by_contra hne
  have : Std.Symm (fun f g : Field => f.hi < g.lo ∨ g.hi < f.lo) := ⟨fun _ _ h => h.symm⟩
  have := hd.forall hf hg hne
  omega

theorem testBit_regAfter_field (locked : Bool) {fs : List Field} (hd : fs.Pairwise (fun f g => f.hi < g.lo ∨ g.hi < f.lo)) {f : Field}
    (hf : f ∈ fs) (old w cov : Nat) {i : Nat} (hi : f.lo ≤ i ∧ i ≤ f.hi) :
    (regAfter locked fs old w cov).testBit i = bitAfter locked f.acc (old.testBit i) (w.testBit i) (cov.testBit i) := by
  have hany : ∀ b : Access → Bool, fs.any (fun g => decide (g.lo ≤ i ∧ i ≤ g.hi) && b g.acc) = b f.acc := by
    intro b
    rw [Bool.eq_iff_iff, List.any_eq_true]
    constructor
    · rintro ⟨g, hg, hgb⟩
      simp only [Bool.and_eq_true, decide_eq_true_eq] at hgb
      rw [field_unique hd hf hg hi hgb.1]
      exact hgb.2
    · exact fun hb => ⟨f, hf, by simp [hi, hb]⟩
  have hin := hany (fun _ => true)
  rw [testBit_regAfter, hany (fun a => bitAfter locked a (old.testBit i) (w.testBit i) (cov.testBit i))]
  simp only [Bool.and_true] at hin
  rw [hin, Bool.not_true, Bool.and_false, Bool.false_or]

theorem testBit_regAfter_reserved (locked : Bool) {fs : List Field} (old w cov : Nat) {i : Nat} (hi : ∀ f ∈ fs, i < f.lo ∨ f.hi < i) :
    (regAfter locked fs old w cov).testBit i = old.testBit i := by
  have hout : ∀ b : Field → Bool, fs.any (fun f => decide (f.lo ≤ i ∧ i ≤ f.hi) && b f) = false := by
    intro b
    rw [List.any_eq_false]
    intro f hf
    have := hi f hf
    simp [show ¬(f.lo ≤ i ∧ i ≤ f.hi) by omega]
  have hin := hout (fun _ => true)
  simp only [Bool.and_true] at hin
  rw [testBit_regAfter, hout, hin]
  simp

/-! ### Lists sorted by a key -/

theorem insertBy_perm {α : Type} (k : α → Nat) (x : α) : ∀ l : List α, (insertBy k x l).Perm (x :: l)
  | [] => .refl _
  | y :: r => by
    unfold insertBy
    split
    · exact .refl _
    · exact ((insertBy_perm k x r).cons y).trans (.swap x y r)

theorem insertBy_sorted {α : Type} (k : α → Nat) (x : α) : ∀ {l : List α}, l.Pairwise (fun a b => k a ≤ k b) →
    (insertBy k x l).Pairwise (fun a b => k a ≤ k b)
  | [], _ => List.pairwise_singleton _ _
  | y :: r, h => by
    obtain ⟨hy, hr⟩ := List.pairwise_cons.mp h
    unfold insertBy
    split
    · rename_i hlt
      refine List.pairwise_cons.mpr ⟨fun z hz => ?_, h⟩
      rcases List.mem_cons.mp hz with rfl | hz
      · omega
      · exact hlt.le.trans (hy z hz)
    · rename_i hge
      refine List.pairwise_cons.mpr ⟨fun z hz => ?_, insertBy_sorted k x hr⟩
      rcases List.mem_cons.mp ((insertBy_perm k x r).mem_iff.mp hz) with rfl | hz
      · omega
      · exact hy z hz

theorem sortBy_perm {α : Type} (k : α → Nat) (l : List α) : (sortBy k l).Perm l := by
  suffices H : ∀ (l a : List α), (l.foldl (fun a x => insertBy k x a) a).Perm (l ++ a) by rw [sortBy]; simpa only [List.append_nil] using H l []
  intro l
  induction l with
  | nil => exact fun a => .refl _
  | cons x l ih => exact fun a => (ih _).trans (((insertBy_perm k x a).append_left l).trans List.perm_middle)

theorem sortBy_sorted {α : Type} (k : α → Nat) (l : List α) : (sortBy k l).Pairwise (fun a b => k a ≤ k b) :=
  List.foldlRecOn l _ (motive := fun a : List α => a.Pairwise (fun a b => k a ≤ k b)) .nil (fun _ h x _ => insertBy_sorted k x h)

/-! ### Promptbook entries of refused accesses -/

/-- Handing entries to the promptbook changes its writer alone, but that a full queue is counted in BT_PB_INFO (R519). -/
theorem pbHand_cases (s : State) (l : List PbIn) :
    ∃ pb, s.pbHand l = { s with pb := pb } ∨ s.pbHand l = { s.countFld R.BT_PB_INFO_DROPPED l.length with pb := pb } := by
  unfold State.pbHand
  split
  · split
    · exact ⟨_, .inl rfl⟩
    · exact ⟨_, .inr rfl⟩
  · exact ⟨s.pb, .inl rfl⟩

/-- An entry of a memory cause is handed over once a cue (R257). -/
theorem memEntry_cases (s : State) (mid code addr : Nat) :
    s.memEntry mid code addr = s ∨ ∃ seen l, s.memEntry mid code addr = { s.pbHand l with memSeen := seen } := by
  unfold State.memEntry
  split
  · exact .inl rfl
  · exact .inr ⟨_, _, rfl⟩

@[simp] theorem out_countFld (s : State) (f : Fld) (n : Nat) : (s.countFld f n).out = s.out := out_setFld (s.noteEvt f n) f _

@[simp] theorem out_pbHand (s : State) (l : List PbIn) : (s.pbHand l).out = s.out := by
  have hc := out_countFld s R.BT_PB_INFO_DROPPED l.length
  obtain ⟨pb, h | h⟩ := pbHand_cases s l
  · rw [h]
  · rw [h]
    generalize s.countFld R.BT_PB_INFO_DROPPED l.length = u at hc
    exact hc

@[simp] theorem out_memEntry (s : State) (mid code addr : Nat) : (s.memEntry mid code addr).out = s.out := by
  obtain h | ⟨seen, l, h⟩ := memEntry_cases s mid code addr
  · rw [h]
  · have hp := out_pbHand s l
    rw [h]
    generalize s.pbHand l = u at hp
    exact hp

end Sys2Proof.Machine

namespace Sys2Proof.Claim
open Sys2Proof.Machine

theorem only_pbHand (s : State) (l : List PbIn) : Only (fun x => x = R.BT_PB_INFO) s (s.pbHand l) := by
  have hc := only_countFld (P := fun x => x = R.BT_PB_INFO) s l.length (f := R.BT_PB_INFO_DROPPED) rfl
  obtain ⟨pb, h | h⟩ := pbHand_cases s l
  · rw [h]
    exact only_of_stores rfl rfl rfl rfl
  · rw [h]
    generalize s.countFld R.BT_PB_INFO_DROPPED l.length = u at hc
    exact hc.trans (only_of_stores rfl rfl rfl rfl)

theorem only_memEntry (s : State) (mid code addr : Nat) : Only (fun x => x = R.BT_PB_INFO) s (s.memEntry mid code addr) := by
  obtain h | ⟨seen, l, h⟩ := memEntry_cases s mid code addr
  · rw [h]
    exact only_refl _ s
  · have hp := only_pbHand s l
    rw [h]
    generalize s.pbHand l = u at hp
    exact hp.trans (only_of_stores rfl rfl rfl rfl)

end Sys2Proof.Claim

namespace Sys2Proof.Machine
open Sys2Proof.Claim

/-! ### Register writes on the bus (R583, R584) -/

theorem writesIn_read {s : State} {r : Nat} (ws : List LateWrite) (h : s.now.reads.contains r = true) :
    s.writesIn r ws = { s with now := { s.now with late := s.now.late ++ ws } } := if_pos h

theorem writesIn_unread {s : State} {r : Nat} (ws : List LateWrite) (h : s.now.reads.contains r = false) :
    s.writesIn r ws = (sortBy (fun w => writeTurn (smapGet 1 s.regPtr r) w.mid) ws).foldl State.writeNow s := if_neg (by rw [h]; decide)

theorem writesIn_single {s : State} {r : Nat} (w : LateWrite) (h : s.now.reads.contains r = false) : s.writesIn r [w] = s.writeNow w :=
  writesIn_unread [w] h

theorem execRegisterWrite_single {s : State} {mid : BitVec 12} {a : BitVec 44} {off : Fin 8} {data : List Byte}
    (h : s.now.reads.contains (a.toNat / 8 * 8) = false) :
    execRegisterWrite a [(mid, off, data)] s = .next (s.writeNow ⟨mid.toNat, a.toNat / 8 * 8 + off.val, data⟩) :=
  congrArg Host.Outcome.next (writesIn_single _ h)

/-- A write that the bus refuses. -/
theorem busWrite_refused {s : State} {mid a len : Nat} (v : Nat) (h : s.busCheck mid a len true ≠ 0) :
    s.busWrite mid a len v = (s.busCheck mid a len true, s.memEntry mid (s.busCheck mid a len true) a) := by
  unfold State.busWrite
  rw [if_pos h]
  rfl

/-- A write that the bus lets through moves the register's pointer, and acts where no engine's commit stands over it. -/
theorem busWrite_granted {s : State} {mid a len : Nat} (v : Nat) {r : RegDef} (h : s.busCheck mid a len true = 0)
    (hr : regDefAt (a / 8 * 8) = some r) :
    s.busWrite mid a len v
      = if s.busLoses a then (0, s.writerGranted mid a) else (s.writerGranted mid a).hookWrite mid r (a / 8 * 8) (a % 8) len v := by
  unfold State.busWrite
  rw [if_neg (by simp [h]), hr]
  rfl

theorem setHeld_of_no_events {s : State} (a : Nat) (h : s.now.evts = []) : s.setHeld a = 0 := by
  rw [State.setHeld, State.setNow, h]
  exact Nat.zero_and _

/-- With no event of hardware in the cycle a write goes by the access codes alone. -/
theorem regWrite_of_no_events {s : State} (a off len v : Nat) (h : s.now.evts = []) :
    s.regWrite a off len v
      = s.setReg a (BitVec.ofNat 64 (regAfter s.locked (fieldsAt a) (s.reg a).toNat (v <<< (8 * off)) (coverMask off len))) := by
  unfold State.regWrite
  rw [setHeld_of_no_events a h]
  change s.setReg a (BitVec.ofNat 64 (regAfter _ _ _ (v <<< (8 * off) - (v <<< (8 * off) &&& 0)) _)) = _
  rw [Nat.and_zero, Nat.sub_zero]

/-- A register outside `OwnRule` has no rule but its access codes, and RS_CFG and RS_LIMIT keep what the step has (R501). -/
theorem hookWrite_plain {s : State} {mid a off len v : Nat} {r : RegDef} (h : OwnRule r.base = false) :
    s.hookWrite mid r a off len v = (0, s.regWrite a off len v) ∨ s.hookWrite mid r a off len v = (0, s.keepLimits.regWrite a off len v) := by
  simp only [OwnRule, Bool.or_eq_false_iff, Bool.and_eq_false_iff, List.contains_eq_mem, decide_eq_false_iff_not, List.mem_cons,
    List.not_mem_nil, or_false, not_or] at h
  obtain ⟨hb, hh⟩ := h
  have hlr : ¬(R.TP_HYPER_LR 0 0 ≤ r.base ∧ r.base ≤ R.TP_HYPER_LR 0 0 + 48) := by
    rintro ⟨h1, h2⟩
    exact hh.elim (fun h => h h1) (fun h => h h2)
  unfold State.hookWrite
  simp only [hb, hlr, if_false, or_false]
  by_cases hl : r.base = R.RS_CFG ∨ r.base = R.RS_LIMIT
  · exact .inr (by rw [if_pos hl])
  · exact .inl (by rw [if_neg hl])

theorem keepLimits_cases (s : State) : ∃ c, s.keepLimits = { s with curtain := c } := by
  unfold State.keepLimits
  split
  · exact ⟨_, rfl⟩
  · exact ⟨s.curtain, rfl⟩

end Sys2Proof.Machine

namespace Sys2Proof.Claim
open Sys2Proof.Machine

theorem fieldsAt_of_regDefAt {a : Nat} {r : RegDef} (h : regDefAt a = some r) : fieldsAt a = r.fields := by rw [fieldsAt, h]

/-- One write goes by the access codes of its fields alone: no rule of the register, no event of hardware, no commit over it. -/
theorem busWrite_plain {s : State} {mid base off len v : Nat} {r : RegDef} (hb : (base + off) / 8 * 8 = base) (ho : (base + off) % 8 = off)
    (hr : regDefAt base = some r) (hc : s.busCheck mid (base + off) len true = 0) (hl : s.busLoses (base + off) = false)
    (he : s.now.evts = []) (hown : OwnRule r.base = false) :
    (s.busWrite mid (base + off) len v).1 = 0
      ∧ (s.busWrite mid (base + off) len v).2.reg base
          = BitVec.ofNat 64 (regAfter s.locked r.fields (s.reg base).toNat (v <<< (8 * off)) (coverMask off len))
      ∧ Only (fun x => x = base) s (s.busWrite mid (base + off) len v).2
      ∧ (s.busWrite mid (base + off) len v).2.out = s.out := by
  have written : ∀ u : State, u.regs = s.regs → u.mem = s.mem → u.poison = s.poison → u.tiles = s.tiles → u.now = s.now → u.out = s.out →
      (u.regWrite base off len v).reg base
          = BitVec.ofNat 64 (regAfter s.locked r.fields (s.reg base).toNat (v <<< (8 * off)) (coverMask off len))
        ∧ Only (fun x => x = base) s (u.regWrite base off len v) ∧ (u.regWrite base off len v).out = s.out := by
    intro u h1 h2 h3 h4 h5 h6
    have hreg : ∀ x, u.reg x = s.reg x := fun x => by rw [State.reg, State.reg, h1]
    have hlock : u.locked = s.locked := congrArg (fun n : Nat => n != 0) (fld_congr (hreg _))
    rw [regWrite_of_no_events base off len v (h5 ▸ he), fieldsAt_of_regDefAt hr, hlock, hreg]
    exact ⟨reg_setReg_same u base _, (only_of_stores h1 h2 h3 h4).trans (only_setReg u _ rfl), h6⟩
  have hr' : regDefAt ((base + off) / 8 * 8) = some r := by rw [hb, hr]
  rw [busWrite_granted v hc hr', if_neg (by rw [hl]; decide), hb, ho]
  obtain h | h := hookWrite_plain (s := s.writerGranted mid (base + off)) (mid := mid) (a := base) (off := off) (len := len) (v := v) hown
  · rw [h]
    exact ⟨rfl, written _ rfl rfl rfl rfl rfl rfl⟩
  · obtain ⟨c, hc⟩ := keepLimits_cases (s.writerGranted mid (base + off))
    rw [h, hc]
    exact ⟨rfl, written _ rfl rfl rfl rfl rfl rfl⟩

/-- Settles O20: bits by the access codes, the writes of a cycle in the order of their turn, a single write by its register's rule. -/
theorem registerWritesFollowAccessCodes : Obligations.RegisterWritesFollowAccessCodes := by
  unfold Obligations.RegisterWritesFollowAccessCodes
  refine ⟨fun locked fs old w cov b hd _ => ⟨fun f hf hlo hhi => ?_, testBit_regAfter_reserved locked old w cov⟩, fun s a ws => ⟨fun hr => ?_, fun hr => ?_⟩, ?_⟩
  · exact testBit_regAfter_field locked hd hf old w cov ⟨hlo, hhi⟩
  · exact ⟨_, (exec_registerWrite a ws s).trans (congrArg Host.Outcome.next (writesIn_read _ hr)), rfl, rfl, only_of_stores rfl rfl rfl rfl⟩
  · exact ⟨_, sortBy_perm _ _, sortBy_sorted _ _, (exec_registerWrite a ws s).trans (congrArg Host.Outcome.next (writesIn_unread _ hr))⟩
  · intro s mid a off data r base at' c hr hreads
    have hb : at' / 8 * 8 = base := by omega
    have ho : at' % 8 = off.val := by omega
    have hrun : exec (.registerWrite a [(mid, off, data)]) s = .next (s.writeNow ⟨mid.toNat, at', data⟩) :=
      (exec_registerWrite a _ s).trans (execRegisterWrite_single hreads)
    refine ⟨fun hc => ⟨_, hrun, ?_⟩, fun hc hl he hown => ⟨_, hrun, ?_⟩, fun hc => ⟨_, hrun, ?_⟩⟩
    · have hw := busWrite_granted (ofLe data) hc (r := r) (hb.symm ▸ hr)
      rw [hb, ho] at hw
      unfold State.writeNow
      rw [hw, State.writerGranted, hb]
    · obtain ⟨h0, hreg, honly, hout⟩ := busWrite_plain (v := ofLe data) hb ho hr hc hl he hown
      unfold State.writeNow
      exact ⟨hreg, honly.trans (only_send _ _), by rw [out_send, hout, h0]⟩
    · unfold State.writeNow
      rw [busWrite_refused (ofLe data) hc]
      exact ⟨by rw [out_send, out_memEntry], (only_memEntry s _ _ _).trans (only_send _ _)⟩

end Sys2Proof.Claim
end

section
/-!
PROOFS. What a read does to the fields that it clears (O21).
-/
namespace Sys2Proof.Machine

/-! ### What a read does to the fields that it clears (R10, R11) -/

/-- One field of the register at `a` when bytes [off, off + len) of it are read. -/
def readClears (a off len : Nat) (t : State) (f : Field) : State :=
  match f.acc with
  | .rc => if Nat.land (maskOf f.hi f.lo) (coverMask off len) ≠ 0 then t.clearRc ⟨a, f.hi, f.lo⟩ else t
  | _ => t

theorem regReadEffect_eq (s : State) (a off len : Nat) : s.regReadEffect a off len = (fieldsAt a).foldl (readClears a off len) s := (rfl)

/-- Clearing a field on a read replaces its bits, and what is noted of it in the cycle. -/
theorem clearRc_cases (s : State) (f : Fld) :
    s.clearRc f = s.setFld f (min (2 ^ (f.hi + 1 - f.lo) - 1) (s.fldAdded f))
      ∨ s.clearRc f = { s.setFld f (min (2 ^ (f.hi + 1 - f.lo) - 1) (s.fldAdded f)) with now := { s.now with
          evts := ⟨f.addr, f.hi, f.lo, 0, s.fldAdded f⟩ :: s.now.evts.filter (fun e => !(e.addr == f.addr && e.hi == f.hi && e.lo == f.lo)) } } := by
  unfold State.clearRc
  dsimp only
  split
  · exact .inl rfl
  · exact .inr rfl

theorem fld_clearRc_same (s : State) (f : Fld) (h : f.hi < 64) : (s.clearRc f).fld f = min (2 ^ (f.hi + 1 - f.lo) - 1) (s.fldAdded f) := by
  have hs : (s.setFld f (min (2 ^ (f.hi + 1 - f.lo) - 1) (s.fldAdded f))).fld f = min (2 ^ (f.hi + 1 - f.lo) - 1) (s.fldAdded f) := by
    rw [fld_setFld_same s f _ h, Nat.mod_eq_of_lt]
    have := Nat.two_pow_pos (f.hi + 1 - f.lo)
    omega
  obtain h | h := clearRc_cases s f <;> rw [h]
  · exact hs
  · exact hs

theorem fld_clearRc_disjoint (s : State) {f g : Fld} (h : g.hi < f.lo ∨ f.hi < g.lo) : (s.clearRc f).fld g = s.fld g := by
  obtain hc | hc := clearRc_cases s f <;> rw [hc] <;> exact fld_setFld_disjoint s _ h

/-- What is noted of another field stays noted. -/
theorem fldAdded_clearRc_ne (s : State) {f g : Fld} (h : g.hi ≠ f.hi ∨ g.lo ≠ f.lo) : (s.clearRc f).fldAdded g = s.fldAdded g := by
  obtain hc | hc := clearRc_cases s f <;> rw [hc]
  · rfl
  · refine congrArg (fun l : List RegEvt => (l.map RegEvt.added).foldl (· + ·) 0) ?_
    have hfg : (f.addr == g.addr && f.hi == g.hi && f.lo == g.lo) = false := by
      simp only [Bool.and_eq_false_iff, beq_eq_false_iff_ne]
      exact h.elim (fun h => .inl (.inr (Ne.symm h))) (fun h => .inr (Ne.symm h))
    change List.filter _ (_ :: _) = List.filter _ _
    rw [List.filter_cons_of_neg (by simp [hfg]), List.filter_filter]
    refine List.filter_congr fun e _ => ?_
    rw [Bool.and_eq_left_iff_imp]
    simp only [Bool.and_eq_true, beq_iff_eq, Bool.not_eq_true', Bool.and_eq_false_iff, beq_eq_false_iff_ne]
    rintro ⟨⟨_, hh⟩, hl⟩
    rw [hh, hl]
    exact h.elim (fun h => .inl (.inr h)) .inr

@[simp] theorem out_clearRc (s : State) (f : Fld) : (s.clearRc f).out = s.out := by
  obtain h | h := clearRc_cases s f <;> rw [h] <;> rfl

theorem readClears_cases (a off len : Nat) (t : State) (f : Field) :
    readClears a off len t f = t ∨ readClears a off len t f = t.clearRc ⟨a, f.hi, f.lo⟩ := by
  unfold readClears
  split
  · split
    · exact .inr rfl
    · exact .inl rfl
  · exact .inl rfl

theorem readClears_disjoint (a off len : Nat) (t : State) {f g : Field} (hg : g.lo ≤ g.hi) (h : g.hi < f.lo ∨ f.hi < g.lo) :
    (readClears a off len t f).fld ⟨a, g.hi, g.lo⟩ = t.fld ⟨a, g.hi, g.lo⟩
      ∧ (readClears a off len t f).fldAdded ⟨a, g.hi, g.lo⟩ = t.fldAdded ⟨a, g.hi, g.lo⟩ := by
  obtain hc | hc := readClears_cases a off len t f <;> rw [hc]
  · exact ⟨rfl, rfl⟩
  · by_cases hf : f.lo ≤ f.hi
    · exact ⟨fld_clearRc_disjoint t h, fldAdded_clearRc_ne t (by simp only; omega)⟩
    · exact ⟨fld_clearRc_disjoint t h, fldAdded_clearRc_ne t (by simp only; omega)⟩

theorem foldl_readClears_disjoint (a off len : Nat) {g : Field} (hg : g.lo ≤ g.hi) : ∀ (fs : List Field) (t : State),
    (∀ f ∈ fs, g.hi < f.lo ∨ f.hi < g.lo) →
    (fs.foldl (readClears a off len) t).fld ⟨a, g.hi, g.lo⟩ = t.fld ⟨a, g.hi, g.lo⟩
      ∧ (fs.foldl (readClears a off len) t).fldAdded ⟨a, g.hi, g.lo⟩ = t.fldAdded ⟨a, g.hi, g.lo⟩
  | [], _, _ => ⟨rfl, rfl⟩
  | f :: fs, t, h => by
    obtain ⟨h1, h2⟩ := readClears_disjoint a off len t hg (h f (List.mem_cons_self ..))
    obtain ⟨h3, h4⟩ := foldl_readClears_disjoint a off len hg fs (readClears a off len t f) fun f hf => h f (List.mem_cons_of_mem _ hf)
    exact ⟨h3.trans h1, h4.trans h2⟩

/-- A read leaves in an RC field what hardware has added to it in the cycle. -/
theorem foldl_readClears_rc (a off len : Nat) {fs : List Field} {f : Field} (hf : f ∈ fs) (hrc : f.acc = .rc)
    (hm : Nat.land (maskOf f.hi f.lo) (coverMask off len) ≠ 0) (hlo : f.lo ≤ f.hi) (hhi : f.hi < 64)
    (hd : fs.Pairwise (fun f g => f.hi < g.lo ∨ g.hi < f.lo)) (t : State) :
    (fs.foldl (readClears a off len) t).fld ⟨a, f.hi, f.lo⟩ = min (2 ^ (f.hi + 1 - f.lo) - 1) (t.fldAdded ⟨a, f.hi, f.lo⟩) := by
  obtain ⟨l1, l2, rfl⟩ := List.append_of_mem hf
  obtain ⟨-, h2, h12⟩ := List.pairwise_append.mp hd
  obtain ⟨hbefore, hadded⟩ := foldl_readClears_disjoint a off len hlo l1 t fun g hg => (h12 g hg f (List.mem_cons_self ..)).symm
  rw [List.foldl_append, List.foldl_cons, (foldl_readClears_disjoint a off len hlo l2 _ (List.pairwise_cons.mp h2).1).1, ← hadded]
  unfold readClears
  rw [hrc]
  dsimp only
  rw [if_pos hm]
  exact fld_clearRc_same _ _ hhi

theorem foldl_readClears_plain (a off len : Nat) {fs : List Field} (h : ∀ f ∈ fs, f.acc ≠ .rc) (t : State) :
    fs.foldl (readClears a off len) t = t := by
  induction fs generalizing t with
  | nil => rfl
  | cons f fs ih =>
    have hf : readClears a off len t f = t := by
      have := h f (List.mem_cons_self ..)
      unfold readClears
      split
      · contradiction
      · rfl
    rw [List.foldl_cons, hf]
    exact ih (fun g hg => h g (List.mem_cons_of_mem _ hg)) t

theorem foldl_readClears_out (a off len : Nat) (fs : List Field) (t : State) : (fs.foldl (readClears a off len) t).out = t.out := by
  refine List.foldlRecOn fs _ (motive := fun u : State => u.out = t.out) rfl (fun u h f _ => ?_)
  obtain hc | hc := readClears_cases a off len u f <;> rw [hc]
  · exact h
  · rw [out_clearRc, h]

end Sys2Proof.Machine

namespace Sys2Proof.Claim
open Sys2Proof.Machine

theorem only_clearRc {P : Nat → Prop} (s : State) {f : Fld} (h : P f.addr) : Only P s (s.clearRc f) := by
  obtain hc | hc := clearRc_cases s f <;> rw [hc]
  · exact only_setFld s _ h
  · exact (only_setFld s _ h).trans (only_of_stores rfl rfl rfl rfl)

theorem only_regReadEffect (s : State) (a off len : Nat) : Only (fun x => x = a) s (s.regReadEffect a off len) := by
  rw [regReadEffect_eq]
  refine List.foldlRecOn _ _ (motive := fun u : State => Only (fun x => x = a) s u) (only_refl _ s) (fun u h f _ => ?_)
  obtain hc | hc := readClears_cases a off len u f <;> rw [hc]
  · exact h
  · exact h.trans (only_clearRc u rfl)

end Sys2Proof.Claim
end

section
/-!
PROOFS. Register reads and takes (O21).
-/
namespace Sys2Proof.Machine

/-! ### Reads of a register -/

theorem readReg_eq (s : State) (r : Nat) : ∃ reads, s.readReg r = { s with now := { s.now with reads := reads } } := by
  unfold State.readReg
  split
  · exact ⟨s.now.reads, rfl⟩
  · exact ⟨_, rfl⟩

theorem noteRead_eq (s : State) (r : RegDef) (a : Nat) : ∃ reads, s.noteRead r a = { s with now := { s.now with reads := reads } } := by
  obtain ⟨l, h⟩ := readReg_eq s (a / 8 * 8)
  unfold State.noteRead
  rw [h]
  dsimp only
  split
  · obtain ⟨l', h'⟩ := readReg_eq { s with now := { s.now with reads := l } } (R.CB_LOCK (r.copyI (a / 8 * 8)))
    exact ⟨l', h'⟩
  · exact ⟨l, rfl⟩

/-- A read that is let through, of a register that acquires no lock. -/
theorem execRcRead_granted {s : State} {mid : BitVec 12} {a : BitVec 44} {len : Fin 9} {r : RegDef} (hr : regDefAt (a.toNat / 8 * 8) = some r)
    (hc : s.busCheck mid.toNat a.toNat len false = 0) (hq : r.base ≠ R.CB_ACQ 0) :
    execRcRead mid a len s = .next (
      let q := (s.noteRead r a.toNat).hookRead mid.toNat r (a.toNat / 8 * 8)
      (q.2.2.regReadEffect (a.toNat / 8 * 8) (a.toNat % 8) len).send
        (.bus mid.toNat a.toNat q.1 (leBytes ((q.2.1 >>> (8 * (a.toNat % 8))) % 2 ^ (8 * len.val)) len))) := by
  have hlate : s.lateAcq mid.toNat a.toNat len none = none := by
    rw [State.lateAcq, State.acqOf, hr]
    dsimp only
    rw [if_neg (fun h => hq h.1)]
    rfl
  unfold execRcRead State.busRead
  rw [hlate]
  dsimp only
  rw [if_neg (by simp [hc]), hr]

theorem execRcRead_acquires {s : State} {mid : BitVec 12} {a : BitVec 44} {len : Fin 9} {r : RegDef} (hr : regDefAt (a.toNat / 8 * 8) = some r)
    (hc : s.busCheck mid.toNat a.toNat len false = 0) (hq : r.base = R.CB_ACQ 0) :
    execRcRead mid a len s = .next (s.putOff [⟨r.copyI (a.toNat / 8 * 8), mid.toNat, a.toNat, len, none⟩]) := by
  unfold execRcRead State.lateAcq State.acqOf
  rw [hr]
  dsimp only
  rw [if_pos ⟨hq, hc⟩]
  rfl

theorem execRcRead_refused {s : State} {mid : BitVec 12} {a : BitVec 44} {len : Fin 9} (hc : s.busCheck mid.toNat a.toNat len false ≠ 0) :
    execRcRead mid a len s = .next ((s.memEntry mid.toNat (s.busCheck mid.toNat a.toNat len false) a.toNat).send
      (.bus mid.toNat a.toNat (s.busCheck mid.toNat a.toNat len false) (leBytes 0 len))) := by
  have hlate : s.lateAcq mid.toNat a.toNat len none = none := by
    rw [State.lateAcq, State.acqOf]
    split
    · rw [if_neg (fun h => hc h.2)]
      rfl
    · rfl
  unfold execRcRead State.busRead
  rw [hlate]
  dsimp only
  rw [if_pos hc]

/-! ### Takes (R447, R450, R451) -/

theorem regTable_take_fields : ∀ r ∈ regTable, r.base = R.CB_TAKE 0 → ∀ f ∈ r.fields, f.acc ≠ .rc := by decide +kernel

theorem regReadEffect_plain {s : State} {a off len : Nat} {r : RegDef} (hr : regDefAt a = some r) (h : ∀ f ∈ r.fields, f.acc ≠ .rc) :
    s.regReadEffect a off len = s := by
  have hf : fieldsAt a = r.fields := by rw [fieldsAt, hr]
  rw [regReadEffect_eq, hf]
  exact foldl_readClears_plain a off len h s

theorem take_reads_alone {s : State} {a off len : Nat} {r : RegDef} (hr : regDefAt a = some r) (hb : r.base = R.CB_TAKE 0) :
    s.regReadEffect a off len = s :=
  regReadEffect_plain hr (regTable_take_fields r (List.mem_of_find?_eq_some hr) hb)

theorem hookRead_plain {s : State} {mid a : Nat} {r : RegDef} (ht : r.base ≠ R.CB_TAKE 0) (hq : r.base ≠ R.CB_ACQ 0) :
    s.hookRead mid r a = (0, s.regShown a, s) := by
  unfold State.hookRead
  rw [if_neg ht, if_neg hq]

theorem hookRead_take {s : State} {mid a : Nat} {r : RegDef} (ht : r.base = R.CB_TAKE 0) (h : s.takeAllowed (r.copyI a) mid = true) :
    s.hookRead mid r a = (0, (s.takeNotice (r.copyI a)).1.toNat, (s.takeNotice (r.copyI a)).2) := by
  unfold State.hookRead
  rw [if_pos ht, if_pos h]

theorem hookRead_take_refused_booth {s : State} {mid a : Nat} {r : RegDef} (ht : r.base = R.CB_TAKE 0)
    (h : s.takeAllowed (r.copyI a) mid = false) (hm : mid = 1 ∨ mid = 2) : s.hookRead mid r a = (0x90, 0, s) := by
  unfold State.hookRead
  rw [if_pos ht, if_neg (by simp [h]), if_pos hm]

theorem hookRead_take_refused {s : State} {mid a : Nat} {r : RegDef} (ht : r.base = R.CB_TAKE 0)
    (h : s.takeAllowed (r.copyI a) mid = false) (hm : ¬(mid = 1 ∨ mid = 2)) :
    s.hookRead mid r a = (0, 0, s.countFld (R.CB_DROP_REFUSED (r.copyI a)) 1) := by
  unfold State.hookRead
  rw [if_pos ht, if_neg (by simp [h]), if_neg hm]

@[simp] theorem chan_setChan_same (s : State) (n : Nat) (q : List Word) : (s.setChan n q).chan n = q := smapGet_set_same [] s.cb n q

/-- Without posts in the cycle the oldest notice leaves; an empty channel gives zero and stays empty. -/
theorem takeNotice_unposted {s : State} {n : Nat} (h : s.turn? n = none) :
    (s.takeNotice n).1 = (s.chan n).headD 0 ∧ (s.takeNotice n).2.chan n = (s.chan n).tail := by
  have hp : s.posted n = 0 := by rw [State.posted, h]
  unfold State.takeNotice
  by_cases hn : s.hasNotice n = true
  · rw [if_pos hn, h]
    exact ⟨rfl, chan_setChan_same s n _⟩
  · have he : s.chan n = [] := by
      rw [State.hasNotice, hp, decide_eq_true_eq, not_lt, Nat.le_zero, List.length_eq_zero_iff] at hn
      exact hn
    rw [if_neg hn]
    exact ⟨by rw [he]; rfl, by rw [he]; rfl⟩

@[simp] theorem out_setTurn (s : State) (x : ChanTurn) : (s.setTurn x).out = s.out := (rfl)

theorem uncountFld_eq (s : State) (f : Fld) (n : Nat) : ∃ v evts, s.uncountFld f n = { s.setFld f v with now := { s.now with evts := evts } } :=
  ⟨_, _, rfl⟩

@[simp] theorem out_uncountFld (s : State) (f : Fld) (n : Nat) : (s.uncountFld f n).out = s.out := by
  obtain ⟨v, evts, h⟩ := uncountFld_eq s f n
  rw [h]
  exact out_setFld s f v

@[simp] theorem out_setLost (s : State) (x : ChanTurn) (k : Nat) : (s.setLost x k).out = s.out := by
  unfold State.setLost
  dsimp only
  rw [out_setTurn]
  split
  · exact out_countFld s _ _
  · split
    · exact out_uncountFld s _ _
    · rfl

theorem turnPtr_eq (s : State) (n : Nat) (order : List (Poster × Word)) : ∃ p, s.turnPtr n order = { s with cbPtr := p } := by
  unfold State.turnPtr
  split
  · exact ⟨_, rfl⟩
  · exact ⟨s.cbPtr, rfl⟩

theorem out_settleLocal (s : State) (x : ChanTurn) : (s.settleLocal x).out = s.out := by
  unfold State.settleLocal
  dsimp only
  generalize hu : s.setChan x.ch _ = u
  obtain ⟨p, hp⟩ := turnPtr_eq (u.setLost x (x.posts.length - (16 - x.base.length))) x.ch (grantOrder x.ptr x.posts)
  have hl := out_setLost u x (x.posts.length - (16 - x.base.length))
  rw [hp]
  generalize u.setLost x _ = w at hl
  exact hl.trans (by rw [← hu]; rfl)

theorem turn?_ch {s : State} {n : Nat} {x : ChanTurn} (h : s.turn? n = some x) : x.ch = n := by
  simpa only [beq_iff_eq] using List.find?_some h

theorem out_takeNotice (s : State) (n : Nat) : (s.takeNotice n).2.out = s.out := by
  unfold State.takeNotice
  split
  · split
    · exact out_settleLocal s _
    · rfl
  · rfl

end Sys2Proof.Machine

namespace Sys2Proof.Claim
open Sys2Proof.Machine

theorem only_uncountFld {P : Nat → Prop} (s : State) {f : Fld} (n : Nat) (h : P f.addr) : Only P s (s.uncountFld f n) := by
  obtain ⟨v, evts, he⟩ := uncountFld_eq s f n
  have hset := only_setFld s v h
  rw [he]
  generalize s.setFld f v = u at hset
  exact hset.trans (only_of_stores rfl rfl rfl rfl)

theorem only_setTurn {P : Nat → Prop} (s : State) (x : ChanTurn) : Only P s (s.setTurn x) := only_of_stores rfl rfl rfl rfl

theorem only_setLost (s : State) (x : ChanTurn) (k : Nat) : Only (fun a => a = R.CB_DROP x.ch) s (s.setLost x k) := by
  unfold State.setLost
  dsimp only
  refine Only.trans ?_ (only_setTurn _ _)
  split
  · exact only_countFld s _ (f := R.CB_DROP_DROPPED x.ch) rfl
  · split
    · exact only_uncountFld s _ (f := R.CB_DROP_DROPPED x.ch) rfl
    · exact only_refl _ s

theorem only_setChan (s : State) (n : Nat) (q : List Word) : Only (fun a => a = R.CB_DROP n) s (s.setChan n q) :=
  (only_of_stores rfl rfl rfl rfl : Only _ s { s with cb := smapSet [] s.cb n q }).trans (only_setFld _ _ (f := R.CB_DROP_COUNT n) rfl)

theorem only_settleLocal (s : State) (x : ChanTurn) : Only (fun a => a = R.CB_DROP x.ch) s (s.settleLocal x) := by
  unfold State.settleLocal
  dsimp only
  have hset := only_setChan s x.ch (x.base ++ List.map (fun p => deliveredNotice p.2) (List.take (16 - x.base.length) (grantOrder x.ptr x.posts)))
  generalize s.setChan x.ch _ = u at hset ⊢
  have hlost := only_setLost u x (x.posts.length - (16 - x.base.length))
  generalize u.setLost x _ = w at hlost ⊢
  obtain ⟨p, hp⟩ := turnPtr_eq w x.ch (grantOrder x.ptr x.posts)
  rw [hp]
  exact (hset.trans hlost).trans (only_of_stores rfl rfl rfl rfl)

theorem only_takeNotice (s : State) (n : Nat) : Only (fun a => a = R.CB_DROP n) s (s.takeNotice n).2 := by
  unfold State.takeNotice
  split
  · split
    · rename_i x hx
      exact turn?_ch hx ▸ only_settleLocal s { x with base := x.base.tail }
    · exact only_setChan s n _
  · exact only_refl _ s

end Sys2Proof.Claim
end

section
/-!
PROOFS. Acquires, and register reads on the bus (O21).
-/
namespace Sys2Proof.Machine

@[simp] theorem cb_countFld (s : State) (f : Fld) (n : Nat) : (s.countFld f n).cb = s.cb := cb_setFld (s.noteEvt f n) f _

/-! ### Acquires of one cycle (R456, R458) -/

theorem foldl_send {α : Type} (g : α → OutMsg) : ∀ (l : List α) (s : State),
    (l.foldl (fun u q => u.send (g q)) s).out = s.out ++ l.map g ∧ (l.foldl (fun u q => u.send (g q)) s).regs = s.regs
  | [], s => ⟨(List.append_nil _).symm, rfl⟩
  | q :: l, s => by
    obtain ⟨h1, h2⟩ := foldl_send g l (s.send (g q))
    exact ⟨by rw [List.foldl_cons, h1, out_send, List.append_assoc, List.map_cons, List.singleton_append], h2⟩

/-- The bytes that a read of a lock register is answered. -/
def lockAnswer (v : Nat) (q : LateAcq) : OutMsg := .bus q.mid q.addr 0 (leBytes ((v >>> (8 * (q.addr % 8))) % 2 ^ (8 * q.len)) q.len)

/-- Acquires of one lock from the bus are arbitrated and answered together. -/
theorem acqsNow_eq {s : State} {n : Nat} {l : List LateAcq} (hne : l ≠ []) (hl : ∀ q ∈ l, q.lock = n ∧ q.core = none) :
    s.acqsNow l = l.foldl (fun u q => u.send (lockAnswer
        (if some q.mid = ((s.readReg (R.CB_LOCK n)).acqWin n (l.map LateAcq.mid)).1 then 0
          else ((s.readReg (R.CB_LOCK n)).acqWin n (l.map LateAcq.mid)).2.fld (R.CB_LOCK_HOLDER n)) q))
      ((s.readReg (R.CB_LOCK n)).acqWin n (l.map LateAcq.mid)).2 := by
  have hmap : (l.map LateAcq.lock).dedup = [n] := by
    rw [List.eq_replicate_of_mem (l := l.map LateAcq.lock) (a := n) (by simpa only [List.mem_map, forall_exists_index, and_imp,
      forall_apply_eq_imp_iff₂] using fun q hq => (hl q hq).1)]
    exact List.replicate_dedup (by simpa using hne)
  have hfilter : l.filter (fun q => q.lock == n) = l := List.filter_eq_self.mpr fun q hq => by rw [(hl q hq).1, beq_self_eq_true]
  unfold State.acqsNow State.acqsOf
  rw [hmap, List.foldl_cons, List.foldl_nil, hfilter]
  refine List.foldl_ext _ _ _ fun u q hq => ?_
  dsimp only
  rw [(hl q hq).2]
  rfl

theorem acqWin_held {s : State} {n : Nat} (l : List Nat) (h : s.fld (R.CB_LOCK_HOLDER n) ≠ 0) : s.acqWin n l = (none, s) := if_pos h

theorem acqWin_free {s : State} {n : Nat} {l : List Nat} (hne : l ≠ []) (h : s.fld (R.CB_LOCK_HOLDER n) = 0) :
    ∃ w ∈ l, (∀ m ∈ l, lockTurn (smapGet 1 s.lockPtr n) w ≤ lockTurn (smapGet 1 s.lockPtr n) m) ∧
      s.acqWin n l = (some w, { s.setFld (R.CB_LOCK_HOLDER n) w with lockPtr := smapSet 1 s.lockPtr n ((w + 1) % 4096) }) := by
  unfold State.acqWin
  rw [if_neg (by simp [h])]
  cases hw : l.argmin (lockTurn (smapGet 1 s.lockPtr n)) with
  | none => exact absurd (List.argmin_eq_none.mp hw) hne
  | some w => exact ⟨w, List.argmin_mem hw, fun m hm => List.le_of_mem_argmin hm hw, rfl⟩

end Sys2Proof.Machine

namespace Sys2Proof.Claim
open Sys2Proof.Machine

/-- The acquires of a held lock all read the holder. -/
theorem acqsNow_held {s : State} {n : Nat} {l : List LateAcq} (hne : l ≠ []) (hl : ∀ q ∈ l, q.lock = n ∧ q.core = none)
    (h : s.fld (R.CB_LOCK_HOLDER n) ≠ 0) :
    (s.acqsNow l).fld (R.CB_LOCK_HOLDER n) = s.fld (R.CB_LOCK_HOLDER n)
      ∧ (s.acqsNow l).out = s.out ++ l.map (lockAnswer (s.fld (R.CB_LOCK_HOLDER n))) := by
  obtain ⟨reads, hr⟩ := readReg_eq s (R.CB_LOCK n)
  have hf : (s.readReg (R.CB_LOCK n)).fld (R.CB_LOCK_HOLDER n) = s.fld (R.CB_LOCK_HOLDER n) := by rw [hr]; rfl
  have ho : (s.readReg (R.CB_LOCK n)).out = s.out := by rw [hr]
  rw [acqsNow_eq hne hl, acqWin_held _ (hf ▸ h)]
  simp only [reduceCtorEq, if_false]
  rw [hf]
  obtain ⟨hout, hregs⟩ := foldl_send (lockAnswer (s.fld (R.CB_LOCK_HOLDER n))) l (s.readReg (R.CB_LOCK n))
  exact ⟨(fld_congr (by rw [State.reg, State.reg, hregs])).trans hf, hout.trans (by rw [ho])⟩

/-- Of the acquires of a free lock the first in turn wins and reads 0; the others read it. -/
theorem acqsNow_free {s : State} {n : Nat} {l : List LateAcq} (hne : l ≠ []) (hl : ∀ q ∈ l, q.lock = n ∧ q.core = none)
    (hm : ∀ q ∈ l, q.mid < 4096) (h : s.fld (R.CB_LOCK_HOLDER n) = 0) :
    ∃ w ∈ l, (∀ q ∈ l, lockTurn (smapGet 1 s.lockPtr n) w.mid ≤ lockTurn (smapGet 1 s.lockPtr n) q.mid)
      ∧ (s.acqsNow l).fld (R.CB_LOCK_HOLDER n) = w.mid
      ∧ (s.acqsNow l).out = s.out ++ l.map (fun q => lockAnswer (if q.mid = w.mid then 0 else w.mid) q) := by
  obtain ⟨reads, hr⟩ := readReg_eq s (R.CB_LOCK n)
  obtain ⟨m, hmem, hmin, hwin⟩ := acqWin_free (s := s.readReg (R.CB_LOCK n)) (n := n) (l := l.map LateAcq.mid) (by simpa using hne) (by rw [hr]; exact h)
  obtain ⟨w, hw, rfl⟩ := List.mem_map.mp hmem
  have hheld : (((s.readReg (R.CB_LOCK n)).acqWin n (l.map LateAcq.mid)).2).fld (R.CB_LOCK_HOLDER n) = w.mid := by
    rw [hwin]
    exact (fld_setFld_same _ (R.CB_LOCK_HOLDER n) w.mid (by simp [R.CB_LOCK_HOLDER])).trans (Nat.mod_eq_of_lt (hm w hw))
  have hout0 : (((s.readReg (R.CB_LOCK n)).acqWin n (l.map LateAcq.mid)).2).out = s.out := by rw [hwin, hr]; rfl
  refine ⟨w, hw, fun q hq => ?_, ?_⟩
  · have := hmin q.mid (List.mem_map_of_mem hq)
    rwa [hr] at this
  · rw [acqsNow_eq hne hl, hheld]
    obtain ⟨hout, hregs⟩ := foldl_send (fun q => lockAnswer (if some q.mid = ((s.readReg (R.CB_LOCK n)).acqWin n (l.map LateAcq.mid)).1 then 0 else w.mid) q)
      l (((s.readReg (R.CB_LOCK n)).acqWin n (l.map LateAcq.mid)).2)
    refine ⟨(fld_congr (by rw [State.reg, State.reg, hregs])).trans hheld, ?_⟩
    rw [hout, hout0, hwin]
    simp only [Option.some.injEq]

/-- What a read that is let through leaves in a register without a rule of its own. -/
theorem rcRead_plain {s : State} {mid : BitVec 12} {a : BitVec 44} {len : Fin 9} {r : RegDef} {base off : Nat}
    (hb : a.toNat / 8 * 8 = base) (ho : a.toNat % 8 = off) (hr : regDefAt base = some r)
    (hc : s.busCheck mid.toNat a.toNat len false = 0) (ht : r.base ≠ R.CB_TAKE 0) (hq : r.base ≠ R.CB_ACQ 0) :
    Completes (.rcRead mid a len) s (fun u =>
        u.out = s.out ++ [.bus mid.toNat a.toNat 0 (leBytes ((s.regShown base >>> (8 * off)) % 2 ^ (8 * len.val)) len)]
        ∧ (∀ f ∈ r.fields, f.acc = .rc → Nat.land (maskOf f.hi f.lo) (coverMask off len) ≠ 0 → f.lo ≤ f.hi → f.hi < 64 →
            r.fields.Pairwise (fun f g => f.hi < g.lo ∨ g.hi < f.lo) →
            u.fld ⟨base, f.hi, f.lo⟩ = min (2 ^ (f.hi + 1 - f.lo) - 1) (s.fldAdded ⟨base, f.hi, f.lo⟩))
        ∧ ((∀ f ∈ r.fields, f.acc ≠ .rc) → u.reg base = s.reg base)
        ∧ Only (fun x => x = base) s u) := by
  subst hb ho
  obtain ⟨reads, hn⟩ := noteRead_eq s r a.toNat
  refine ⟨_, (exec_rcRead mid a len s).trans (execRcRead_granted hr hc hq), ?_⟩
  rw [hookRead_plain ht hq, hn]
  dsimp only
  have hread : Only (fun x => x = a.toNat / 8 * 8) s { s with now := { s.now with reads := reads } } := only_of_stores rfl rfl rfl rfl
  refine ⟨?_, fun f hf hrc hm hlo hhi hd => ?_, fun h => ?_, (hread.trans (only_regReadEffect _ _ _ _)).trans (only_send _ _)⟩
  · rw [out_send, regReadEffect_eq, foldl_readClears_out]
    rfl
  · change (State.regReadEffect _ _ _ len).fld _ = _
    rw [regReadEffect_eq, fieldsAt_of_regDefAt hr]
    exact foldl_readClears_rc _ _ len hf hrc hm hlo hhi hd _
  · rw [regReadEffect_plain hr h]
    rfl

/-- A read of CB_TAKEn takes a notice, or is refused. -/
theorem rcRead_take {s : State} {mid : BitVec 12} {a : BitVec 44} {len : Fin 9} {r : RegDef} {base off i : Nat}
    (hb : a.toNat / 8 * 8 = base) (ho : a.toNat % 8 = off) (hi : r.copyI base = i) (hr : regDefAt base = some r)
    (hc : s.busCheck mid.toNat a.toNat len false = 0) (ht : r.base = R.CB_TAKE 0) :
    Completes (.rcRead mid a len) s (fun u =>
        (s.takeAllowed i mid.toNat = true → s.turn? i = none → u.chan i = (s.chan i).tail
          ∧ u.out = s.out ++ [.bus mid.toNat a.toNat 0 (leBytes ((((s.chan i).headD 0).toNat >>> (8 * off)) % 2 ^ (8 * len.val)) len)])
        ∧ (s.takeAllowed i mid.toNat = false → u.cb = s.cb
          ∧ u.out = s.out ++ [.bus mid.toNat a.toNat (if mid.toNat = 1 ∨ mid.toNat = 2 then 0x90 else 0)
              (leBytes ((0 >>> (8 * off)) % 2 ^ (8 * len.val)) len)]
          ∧ (¬ (mid.toNat = 1 ∨ mid.toNat = 2) → u.fld (R.CB_DROP_REFUSED i) = min (2 ^ ((R.CB_DROP_REFUSED i).hi + 1 - (R.CB_DROP_REFUSED i).lo) - 1)
              (s.fld (R.CB_DROP_REFUSED i) + 1)))
        ∧ Only (fun x => x = base ∨ x = R.CB_DROP i) s u) := by
  subst hb ho hi
  refine ⟨_, (exec_rcRead mid a len s).trans (execRcRead_granted hr hc (by rw [ht]; decide)), ?_⟩
  obtain ⟨reads, hn⟩ := noteRead_eq s r a.toNat
  generalize s.noteRead r a.toNat = t at hn
  have hread : Only (fun x => x = a.toNat / 8 * 8 ∨ x = R.CB_DROP (r.copyI (a.toNat / 8 * 8))) s t := by rw [hn]; exact only_of_stores rfl rfl rfl rfl
  have hout : t.out = s.out := by rw [hn]
  have hcb : t.cb = s.cb := by rw [hn]
  have hchan : ∀ n, t.chan n = s.chan n := fun n => by rw [hn]; rfl
  have hfld : ∀ f, t.fld f = s.fld f := fun f => by rw [hn]; rfl
  have hturn : t.turn? (r.copyI (a.toNat / 8 * 8)) = s.turn? (r.copyI (a.toNat / 8 * 8)) := by rw [hn]; rfl
  have hallow : t.takeAllowed (r.copyI (a.toNat / 8 * 8)) mid.toNat = s.takeAllowed (r.copyI (a.toNat / 8 * 8)) mid.toNat := by rw [hn]; rfl
  rw [← hallow, ← hturn, ← hout, ← hcb, ← hchan, ← hfld]
  clear hn hout hcb hchan hfld hturn hallow
  generalize a.toNat / 8 * 8 = base at hr hread ⊢
  cases h : t.takeAllowed (r.copyI base) mid.toNat with
  | true =>
    rw [hookRead_take ht h]
    dsimp only
    rw [take_reads_alone hr ht]
    refine ⟨fun _ hturn => ?_, nofun, (hread.trans ((only_takeNotice _ _).mono fun _ h => .inr h)).trans (only_send _ _)⟩
    obtain ⟨hv, hch⟩ := takeNotice_unposted hturn
    exact ⟨hch, by rw [out_send, out_takeNotice, hv]⟩
  | false =>
    by_cases hcore : mid.toNat = 1 ∨ mid.toNat = 2
    · rw [hookRead_take_refused_booth ht h hcore, if_pos hcore]
      dsimp only
      rw [take_reads_alone hr ht]
      exact ⟨nofun, fun _ => ⟨rfl, rfl, fun h => absurd hcore h⟩, hread.trans (only_send _ _)⟩
    · rw [hookRead_take_refused ht h hcore, if_neg hcore]
      dsimp only
      rw [take_reads_alone hr ht]
      have hcb := cb_countFld t (R.CB_DROP_REFUSED (r.copyI base)) 1
      have hout := out_countFld t (R.CB_DROP_REFUSED (r.copyI base)) 1
      have hfld := fld_countFld_same t (R.CB_DROP_REFUSED (r.copyI base)) 1 (by simp [R.CB_DROP_REFUSED])
      have honly := hread.trans (only_countFld t 1 (f := R.CB_DROP_REFUSED (r.copyI base)) (.inr rfl))
      generalize t.countFld (R.CB_DROP_REFUSED (r.copyI base)) 1 = u at hcb hout hfld honly
      exact ⟨nofun, fun _ => ⟨hcb, by rw [out_send, hout], fun _ => hfld⟩, honly.trans (only_send _ _)⟩

/-- Settles O21: a read by the access codes, a take, an acquire put off and arbitrated, a refused read. -/
theorem registerReadsOnTheBus : Obligations.RegisterReadsOnTheBus := by
  unfold Obligations.RegisterReadsOnTheBus
  constructor
  · intro s mid a len r base off c cut i hr
    refine ⟨rcRead_plain rfl rfl hr, rcRead_take rfl rfl rfl hr, fun hc hq => ?_, fun hc => ?_⟩
    · exact ⟨_, (exec_rcRead mid a len s).trans (execRcRead_acquires hr hc hq), rfl, rfl, only_of_stores rfl rfl rfl rfl⟩
    · refine ⟨_, (exec_rcRead mid a len s).trans (execRcRead_refused hc), ?_, (only_memEntry s _ _ _).trans (only_send _ _)⟩
      rw [out_send, out_memEntry]
  · exact fun s n l hne hl => ⟨acqsNow_held hne fun q hq => ⟨(hl q hq).1, (hl q hq).2.2⟩,
      acqsNow_free hne (fun q hq => ⟨(hl q hq).1, (hl q hq).2.2⟩) fun q hq => (hl q hq).2.1⟩

end Sys2Proof.Claim
end

section
/-!
PROOFS. Bytes written in units, none of them poisoned.
-/
namespace Sys2Proof.Machine

/-! ### Bytes written where no unit is poisoned (R246) -/

/-- `t` is `s` with the bytes `l` at `a`; nothing else changes but the marks of poison, of which none is left. -/
structure Written (s : State) (a : Nat) (l : List Byte) (t : State) : Prop where
  eq : ∃ m p, t = { s with mem := m, poison := p }
  inside : ∀ (i : Nat) (h : i < l.length), t.byte (a + i) = l[i]
  outside : ∀ c, c < a ∨ a + l.length ≤ c → t.byte c = s.byte c
  clean : ∀ u, t.poisoned u = false

theorem setBytes_eq (l : List Byte) (s : State) (a : Nat) : ∃ m, s.setBytes a l = { s with mem := m } := by
  induction l generalizing s a with
  | nil => exact ⟨s.mem, rfl⟩
  | cons b r ih =>
    obtain ⟨m, h⟩ := ih (s.setByte a b) (a + 1)
    exact ⟨m, h⟩

theorem Written.nil {s : State} (a : Nat) (h : ∀ u, s.poisoned u = false) : Written s a [] s :=
  ⟨⟨s.mem, s.poison, rfl⟩, fun _ h => absurd h (Nat.not_lt_zero _), fun _ _ => rfl, h⟩

/-- More bytes, behind those already written. -/
theorem Written.setBytes {s t : State} {a b : Nat} {l : List Byte} (h : Written s a l t) (r : List Byte) (hb : r ≠ [] → b = a + l.length) :
    Written s a (l ++ r) (t.setBytes b r) := by
  obtain ⟨m, p, ht⟩ := h.eq
  by_cases hr : r = []
  · subst hr
    rw [List.append_nil]
    exact h
  · have hb := hb hr
    subst hb
    refine ⟨?_, fun i hi => ?_, fun c hc => ?_, fun u => ?_⟩
    · obtain ⟨m', hm⟩ := setBytes_eq r t (a + l.length)
      exact ⟨m', p, by rw [hm, ht]⟩
    · by_cases hil : i < l.length
      · rw [byte_setBytes_outside r t (.inl (by omega)), h.inside i hil, List.getElem_append_left hil]
      · rw [List.length_append] at hi
        have := byte_setBytes_inside r t (a + l.length) (i - l.length) (by omega)
        rw [show a + l.length + (i - l.length) = a + i by omega] at this
        rw [this, List.getElem_append_right (by omega)]
    · rw [List.length_append] at hc
      rw [byte_setBytes_outside r t (by omega), h.outside c (by omega)]
    · obtain ⟨m', hm⟩ := setBytes_eq r t (a + l.length)
      rw [hm]
      exact h.clean u

theorem Written.setPoison {s t : State} {a : Nat} {l : List Byte} (h : Written s a l t) (u : Nat) : Written s a l (t.setPoison u false) := by
  obtain ⟨m, p, ht⟩ := h.eq
  refine ⟨⟨m, smapSet false p u false, by rw [ht]; rfl⟩, h.inside, h.outside, fun v => ?_⟩
  by_cases hv : v = u
  · subst hv
    exact smapGet_set_same false t.poison v false
  · exact (smapGet_set_ne false false t.poison false hv).trans (h.clean v)

theorem Written.bytes {s t : State} {a : Nat} {l : List Byte} (h : Written s a l t) : t.bytes a l.length = l := by
  refine List.ext_getElem (by simp [State.bytes]) fun i _ hi => ?_
  simp only [State.bytes, List.getElem_map, List.getElem_range]
  exact h.inside i hi

/-- One write after another where the first ends. -/
theorem Written.trans {s t u : State} {a b : Nat} {l r : List Byte} (h : Written s a l t) (g : Written t b r u) (hb : b = a + l.length) :
    Written s a (l ++ r) u := by
  subst hb
  obtain ⟨m, p, ht⟩ := h.eq
  obtain ⟨m', p', hu⟩ := g.eq
  refine ⟨⟨m', p', by rw [hu, ht]⟩, fun i hi => ?_, fun c hc => ?_, g.clean⟩
  · by_cases hil : i < l.length
    · rw [g.outside _ (.inl (by omega)), h.inside i hil, List.getElem_append_left hil]
    · rw [List.length_append] at hi
      have := g.inside (i - l.length) (by omega)
      rw [show a + l.length + (i - l.length) = a + i by omega] at this
      rw [this, List.getElem_append_right (by omega)]
  · rw [List.length_append] at hc
    rw [g.outside c (by omega), h.outside c (by omega)]

/-! ### The units of a write (Table 8.6) -/

theorem unitSize_pos (r : Region) : 0 < unitSize r := by
  unfold unitSize
  split <;> decide

/-- One unit of a write. -/
def writeUnit (r : Region) (a : Nat) (data : List Byte) (wr : State → Nat → List Byte → State) (st : State × Bool) (u : Nat) : State × Bool :=
  let lo := max a u
  let hi := min (a + data.length) (u + unitSize r)
  let piece := (data.drop (lo - a)).take (hi - lo)
  let whole := decide (hi - lo = unitSize r)
  if st.1.unitPoisoned r u && !whole then (st.1, true)
  else
    let t := wr st.1 lo piece
    ((match r with
      | .trap _ _ => if whole then t.setTrapPoison u false else t
      | _ => if whole then t.setPoison u false else t), st.2)

theorem writeUnits_eq (s : State) (r : Region) (a : Nat) (data : List Byte) (wr : State → Nat → List Byte → State) :
    s.writeUnits r a data wr = (unitsOver r a data.length).foldl (writeUnit r a data wr) (s, false) := (rfl)

theorem line_of_empty {s : State} (h : s.cache = []) (g : Nat) : s.line g = CLine.none := by rw [State.line, h]; rfl

/-- A unit of bytes that follow those already written, with no line cached. -/
theorem Written.unit {s t : State} {r : Region} {a : Nat} {l data : List Byte} {wr : State → Nat → List Byte → State} {u : Nat}
    (h : Written s a l t) (hc : (∃ k loc, r = .trap k loc) → s.cache = [])
    (hwr : ∀ v lo piece, v.cache = s.cache → wr v lo piece = v.setBytes lo piece)
    (hl : l = data.take (u - a)) (hu : u < a + data.length) (hau : a < u + unitSize r) :
    Written s a (data.take (u + unitSize r - a)) (writeUnit r a data wr (t, false) u).1 ∧ (writeUnit r a data wr (t, false) u).2 = false := by
  obtain ⟨m, p, ht⟩ := h.eq
  have hcache : t.cache = s.cache := by rw [ht]
  have hclean : t.unitPoisoned r u = false := by
    unfold State.unitPoisoned
    split
    · rw [State.trapPoisoned, line_of_empty (hcache.trans (hc ⟨_, _, rfl⟩))]
      exact h.clean u
    · exact h.clean u
  have hlen : l.length = u - a := by rw [hl, List.length_take]; omega
  have hnext := h.setBytes (b := max a u) ((data.drop (max a u - a)).take (min (a + data.length) (u + unitSize r) - max a u)) fun _ => by omega
  have hpiece : l ++ (data.drop (max a u - a)).take (min (a + data.length) (u + unitSize r) - max a u) = data.take (u + unitSize r - a) := by
    rw [hl, show max a u - a = u - a by omega, ← List.take_add, List.take_eq_take_iff]
    omega
  rw [hpiece] at hnext
  unfold writeUnit
  dsimp only
  rw [hclean, hwr t _ _ hcache]
  simp only [Bool.false_and, Bool.false_eq_true, if_false, decide_eq_true_eq, and_true]
  obtain ⟨m', p', ht'⟩ := hnext.eq
  split
  · split
    · rw [State.setTrapPoison, line_of_empty (by rw [ht']; exact hc ⟨_, _, rfl⟩)]
      exact hnext.setPoison u
    · exact hnext
  · split
    · exact hnext.setPoison u
    · exact hnext

/-- The bases of the blocks of `B` bytes that [a, a + n) reaches into. -/
def blockBases (B a n : Nat) : List Nat := (List.range ((a + n - 1) / B - a / B + 1)).map (fun i => (a / B + i) * B)

/-- Going through the blocks of [a, a + n) in their order: what holds of no byte, and of one more block after each, holds of all. -/
theorem foldl_blockBases {α : Type} {a n B : Nat} (hB : 0 < B) (hn : 0 < n) (P : Nat → α → Prop) {f : α → Nat → α} {x : α} (h0 : P 0 x)
    (hf : ∀ u y, B ∣ u → u < a + n → a < u + B → P (u - a) y → P (min n (u + B - a)) (f y u)) : P n ((blockBases B a n).foldl f x) := by
  have ha := Nat.div_add_mod a B
  have hm := Nat.mod_lt a hB
  have hend := Nat.div_add_mod (a + n - 1) B
  have hmend := Nat.mod_lt (a + n - 1) hB
  have hle : a / B ≤ (a + n - 1) / B := Nat.div_le_div_right (by omega)
  have hprefix : ∀ k, k ≤ (a + n - 1) / B - a / B + 1 →
      P (min n ((a / B + k) * B - a)) ((List.range k).foldl (fun y i => f y ((a / B + i) * B)) x) := by
    intro k
    induction k with
    | zero =>
      intro _
      rw [show min n ((a / B + 0) * B - a) = 0 by rw [Nat.add_zero, Nat.mul_comm]; omega]
      exact h0
    | succ k ih =>
      intro hk
      have hlast : (a / B + k) * B ≤ a + n - 1 :=
        (Nat.mul_le_mul_right _ (show a / B + k ≤ (a + n - 1) / B by omega)).trans (Nat.div_mul_le_self _ _)
      have hfirst : a / B * B ≤ (a / B + k) * B := Nat.mul_le_mul_right _ (by omega)
      rw [Nat.mul_comm] at hfirst
      have hih := ih (by omega)
      rw [Nat.min_eq_right (by omega)] at hih
      rw [List.range_succ, List.foldl_append, List.foldl_cons, List.foldl_nil, ← Nat.add_assoc, Nat.succ_mul]
      exact hf _ _ (Nat.dvd_mul_left B _) (by omega) (by omega) hih
  have hall := hprefix _ le_rfl
  rw [show a / B + ((a + n - 1) / B - a / B + 1) = (a + n - 1) / B + 1 by omega, Nat.succ_mul, Nat.mul_comm,
    Nat.min_eq_left (by omega)] at hall
  rw [blockBases, List.foldl_map]
  exact hall

/-- What a write in units does where no unit is poisoned and no line cached: it writes its bytes. -/
theorem writeUnits_clean {s : State} {r : Region} {a : Nat} {data : List Byte} {wr : State → Nat → List Byte → State}
    (hp : ∀ u, s.poisoned u = false) (hc : (∃ k loc, r = .trap k loc) → s.cache = [])
    (hwr : ∀ v lo piece, v.cache = s.cache → wr v lo piece = v.setBytes lo piece) :
    Written s a data (s.writeUnits r a data wr).1 ∧ (s.writeUnits r a data wr).2 = false := by
  rw [writeUnits_eq]
  by_cases hd : data.length = 0
  · rw [unitsOver, if_pos hd, List.eq_nil_of_length_eq_zero hd]
    exact ⟨.nil a hp, rfl⟩
  · have hall := foldl_blockBases (unitSize_pos r) (Nat.pos_of_ne_zero hd) (a := a) (x := (s, false)) (f := writeUnit r a data wr)
      (fun c st => Written s a (data.take c) st.1 ∧ st.2 = false) ⟨by rw [List.take_zero]; exact .nil a hp, rfl⟩ (by
        rintro u ⟨t, b⟩ _ hu hau ⟨hw, hb⟩
        dsimp only at hw hb
        subst hb
        rw [show data.take (min data.length (u + unitSize r - a)) = data.take (u + unitSize r - a) from List.take_eq_take_iff.mpr (by omega)]
        exact hw.unit hc hwr rfl hu hau)
    rw [List.take_length] at hall
    rw [unitsOver, if_neg hd]
    exact hall

end Sys2Proof.Machine
end

section
/-!
PROOFS. Accesses to the wings, and arrivals of one cycle (O22).
-/
namespace Sys2Proof.Machine

/-! ### An access that its home performs in the wings -/

theorem homeGrant_eq (s : State) (r : Region) (i : HomeIn) : ∃ arb, s.homeGrant r i = { s with arb := arb } := by
  unfold State.homeGrant
  split
  · exact ⟨_, rfl⟩
  · exact ⟨s.arb, rfl⟩

theorem cleanFlaws_none {s : State} (h : s.flaws = []) (a n : Nat) : s.cleanFlaws a n = s := by rw [State.cleanFlaws, h]; rfl

theorem meetFlaws_none {s : State} (h : s.flaws = []) (mid a n : Nat) : s.meetFlaws mid a n = (false, s) := by rw [State.meetFlaws, h]; rfl

theorem leftUnits_clean {s : State} (h : ∀ u, s.poisoned u = false) (r : Region) (q : MemReq) : s.leftUnits r q = [] := by
  rw [State.leftUnits, List.filter_eq_nil_iff]
  intro u _
  rw [h u, Bool.and_false]
  decide

theorem performWrite_wings {s : State} {q : MemReq} {die off : Nat} {data : List Byte} (he : q.ecc = noEcc) (hf : s.flaws = [])
    (hp : ∀ u, s.poisoned u = false) :
    ∃ t, s.performWrite q (.wings die off) data = (⟨0, [], [], 0⟩, t) ∧ Written s q.addr data t := by
  obtain ⟨hw, hb⟩ := writeUnits_clean (r := .wings die off) (a := q.addr) (data := data) (wr := fun t lo piece => t.setBytes lo piece) hp
    nofun (fun _ _ _ _ => rfl)
  refine ⟨_, ?_, hw⟩
  unfold State.performWrite
  rw [he, show s.plant noEcc = s from rfl]
  dsimp only
  rw [cleanFlaws_none hf, hb, leftUnits_clean hp]
  rfl

theorem performRead_wings {s : State} {q : MemReq} {die off : Nat} (he : q.ecc = noEcc) (hf : s.flaws = []) (hp : ∀ u, s.poisoned u = false) :
    s.performRead q (.wings die off) = (⟨0, s.bytes q.addr q.len, [], 0⟩, s) := by
  have hnone : (unitsOver (.wings die off) q.addr q.len).filter (fun u => s.poisoned u) = [] := by
    rw [List.filter_eq_nil_iff]
    intro u _
    rw [hp u]
    decide
  unfold State.performRead
  rw [he, show s.plant noEcc = s from rfl, meetFlaws_none hf]
  dsimp only
  rw [hnone]
  rfl

/-- An access of some master that its rights, the names and the test of the die let through to the wings (R25, R27, R268). -/
structure Through (s : State) (q : MemReq) (die off : Nat) : Prop where
  region : regionOf s.cacheN q.addr = .wings die off
  passed : s.boot.failed.contains (0x100 + die) = false
  right : allowed (masterOf q.mid) q.write.isSome false (.wings die off) q.addr = true
  unnamed : (masterOf q.mid).named = true → s.nameHit q.addr q.len q.write.isSome = .none

theorem Through.memAccess {s : State} {q : MemReq} {die off : Nat} (h : Through s q die off) :
    s.memAccess q = s.perform q (.wings die off) := by
  have hname : (if (masterOf q.mid).named then s.nameHit q.addr q.len q.write.isSome else .none) = .none := by
    split
    · exact h.unnamed ‹_›
    · rfl
  unfold State.memAccess
  rw [h.region]
  dsimp only
  rw [if_neg (by simp), if_neg (by simp [h.right]), hname]
  dsimp only
  unfold State.atHome
  dsimp only
  rw [if_neg (by rw [h.passed]; decide)]

theorem access_of_cause_zero {s t : State} {q : MemReq} {e : MemEnd} (h : s.memAccess q = (e, t)) (he : e.cause = 0) : s.access q = (e, t) := by
  unfold State.access
  rw [h]
  dsimp only
  rw [he, if_neg (by decide)]

/-- A write let through to the wings, where no unit is poisoned and none bears an error, writes its bytes. -/
theorem Through.access_write {s : State} {q : MemReq} {die off : Nat} {data : List Byte} (h : Through s q die off) (hw : q.write = some data)
    (he : q.ecc = noEcc) (hf : s.flaws = []) (hp : ∀ u, s.poisoned u = false) :
    ∃ arb t, s.access q = (⟨0, [], [], 0⟩, t) ∧ Written { s with arb := arb } q.addr data t := by
  obtain ⟨arb, harb⟩ : ∃ arb, (if (masterOf q.mid).isEngine then s else s.homeGrant (.wings die off) q.input) = { s with arb := arb } := by
    split
    · exact ⟨s.arb, rfl⟩
    · exact homeGrant_eq s _ _
  obtain ⟨t, ht, hwr⟩ := performWrite_wings (s := { s with arb := arb }) (q := q) (die := die) (off := off) (data := data) he hf hp
  refine ⟨arb, t, access_of_cause_zero ?_ rfl, hwr⟩
  rw [h.memAccess, State.perform, harb, hw]
  exact ht

/-- A read let through to the wings answers the bytes there. -/
theorem Through.access_read {s : State} {q : MemReq} {die off : Nat} (h : Through s q die off) (hw : q.write = none)
    (he : q.ecc = noEcc) (hf : s.flaws = []) (hp : ∀ u, s.poisoned u = false) :
    ∃ arb, s.access q = (⟨0, s.bytes q.addr q.len, [], 0⟩, { s with arb := arb }) := by
  obtain ⟨arb, harb⟩ : ∃ arb, (if (masterOf q.mid).isEngine then s else s.homeGrant (.wings die off) q.input) = { s with arb := arb } := by
    split
    · exact ⟨s.arb, rfl⟩
    · exact homeGrant_eq s _ _
  refine ⟨arb, access_of_cause_zero ?_ rfl⟩
  rw [h.memAccess, State.perform, harb, hw]
  exact performRead_wings (s := { s with arb := arb }) he hf hp

/-! ### Arrivals of one cycle (R228) -/

theorem granulesOver_single {a l : Nat} (hl : 0 < l) (h : a % 128 + l ≤ 128) : granulesOver a l = [(a, l)] := by
  have hd : (a + l - 1) / 128 - a / 128 + 1 = 1 := by omega
  rw [granulesOver, if_neg (by omega), hd]
  simp only [List.range_one, List.map_cons, List.map_nil, List.cons.injEq, Prod.mk.injEq, and_true]
  omega

/-- Is the place one of registers? -/
def Region.isRegs : Region → Bool
  | .breg _ | .tregs _ => true
  | _ => false

theorem accessPieces_regs {s : State} {a n : Nat} (h : (regionOf s.cacheN a).isRegs = true) : s.accessPieces a n = if n = 0 then [] else [(a, n)] := by
  unfold State.accessPieces
  unfold Region.isRegs at h
  split <;> simp_all

theorem accessPieces_memory {s : State} {a n : Nat} (h : (regionOf s.cacheN a).isRegs = false) : s.accessPieces a n = granulesOver a n := by
  unfold State.accessPieces
  unfold Region.isRegs at h
  split <;> simp_all

theorem accessPieces_ne_nil {s : State} {a n : Nat} (h : 0 < n) : s.accessPieces a n ≠ [] := by
  cases hr : (regionOf s.cacheN a).isRegs with
  | true => rw [accessPieces_regs hr, if_neg (by omega)]; exact List.cons_ne_nil _ _
  | false =>
    rw [accessPieces_memory hr, granulesOver, if_neg (by omega), ne_eq, List.map_eq_nil_iff, List.range_eq_nil]
    omega

/-- An access in one piece arrives once, with all its bytes. -/
theorem arrivals_single {s : State} {a n : Nat} (h : s.accessPieces a n = [(a, n)]) (mid : Nat) (data : Option (List Byte)) (hint : Nat) (narrow : Bool)
    (hd : ∀ d, data = some d → d.length = n) : s.arrivals mid a n data hint narrow = [⟨false, mid, a, n, data, hint, narrow⟩] := by
  rw [State.arrivals, h, List.map_singleton]
  cases data with
  | none => rfl
  | some d => rw [Option.map_some, Nat.sub_self, List.drop_zero, List.take_of_length_le (hd d rfl).le]

theorem serveAll_single (s : State) (p : Arrival) : State.serveAll 1 [p] s = s.serve p := by
  have hfirst : s.grantedFirst [p] p = true := by
    unfold State.grantedFirst
    cases h : s.turnAt p with
    | none => rfl
    | some h' => simp [h]
  unfold State.serveAll
  rw [List.find?_cons_of_pos hfirst]
  rfl

/-- Among some arrivals one is granted first. -/
theorem exists_grantedFirst (s : State) {l : List Arrival} (hl : l ≠ []) : ∃ p ∈ l, s.grantedFirst l p = true := by
  obtain ⟨p, hp⟩ := Option.ne_none_iff_exists'.mp (mt (List.argmin_eq_none (f := fun p => ((s.turnAt p).map Prod.snd).getD 0)).mp hl)
  refine ⟨p, List.argmin_mem hp, ?_⟩
  unfold State.grantedFirst
  cases h : s.turnAt p with
  | none => rfl
  | some h' =>
    rw [List.all_eq_true]
    intro q hq
    have hle := List.le_of_mem_argmin hq hp
    cases g : s.turnAt q with
    | none => rfl
    | some g' =>
      simp only [h, g, Option.map_some, Option.getD_some] at hle
      simp [hle]

/-- The last thing sent answers this master. -/
def Answered (mid : Nat) (s : State) : Prop := ∃ p c d, s.out.getLast? = some (.bus mid p c d)

theorem answered_serve (s : State) {p : Arrival} (h : p.scrub = false) : Answered p.mid (s.serve p) := by
  unfold State.serve
  rw [if_neg (by simp [h])]
  exact ⟨_, _, _, by rw [out_send, List.getLast?_concat]⟩

theorem answered_serveAll {mid : Nat} (f : Nat) (l : List Arrival) (s : State) (hl : ∀ p ∈ l, p.scrub = false ∧ p.mid = mid)
    (h : Answered mid s) : Answered mid (State.serveAll f l s) := by
  induction f generalizing l s with
  | zero => exact h
  | succ f ih =>
    unfold State.serveAll
    split
    · exact h
    · rename_i p hp
      obtain ⟨hscrub, hmid⟩ := hl p (List.mem_of_find?_eq_some hp)
      exact ih (l.erase p) (s.serve p) (fun q hq => hl q (List.mem_of_mem_erase hq)) (hmid ▸ answered_serve s hscrub)

theorem answered_serveAll_of_ne_nil {mid : Nat} {l : List Arrival} (s : State) (hne : l ≠ []) (hl : ∀ p ∈ l, p.scrub = false ∧ p.mid = mid) :
    Answered mid (State.serveAll l.length l s) := by
  obtain ⟨n, hn⟩ := Nat.exists_eq_succ_of_ne_zero (mt List.length_eq_zero_iff.mp hne)
  rw [hn]
  unfold State.serveAll
  split
  · rename_i hnone
    obtain ⟨p, hp, hg⟩ := exists_grantedFirst s hne
    exact absurd hg (by simpa using List.find?_eq_none.mp hnone p hp)
  · rename_i p hp
    obtain ⟨hscrub, hmid⟩ := hl p (List.mem_of_find?_eq_some hp)
    exact answered_serveAll n _ _ (fun q hq => hl q (List.mem_of_mem_erase hq)) (hmid ▸ answered_serve s hscrub)

theorem arrivals_of_master (s : State) (mid a n : Nat) (data : Option (List Byte)) (hint : Nat) (narrow : Bool) :
    ∀ p ∈ s.arrivals mid a n data hint narrow, p.scrub = false ∧ p.mid = mid := by
  intro p hp
  obtain ⟨q, _, rfl⟩ := List.mem_map.mp hp
  exact ⟨rfl, rfl⟩

end Sys2Proof.Machine
end

section
/-!
PROOFS. MEMORY_ACCESS (O22).
-/
namespace Sys2Proof.Machine

/-! ### MEMORY_ACCESS, alone in its cycle -/

theorem lateHere_memory {s : State} {a : Nat} (h : (regionOf s.cacheN a).isRegs = false) (n : Nat) (w : Bool) : s.lateHere a n w = false := by
  unfold State.lateHere
  unfold Region.isRegs at h
  split <;> simp_all

theorem busCheck_memory {s : State} {a : Nat} (h : (regionOf s.cacheN a).isRegs = false) (mid n : Nat) (w : Bool) : s.busCheck mid a n w = 0x40 := by
  unfold State.busCheck
  generalize regionOf s.cacheN a = r at h
  cases r with
  | breg b => exact absurd h (by simp [Region.isRegs])
  | tregs t => exact absurd h (by simp [Region.isRegs])
  | _ => rfl

theorem lateAcq_memory {s : State} {a : Nat} (h : (regionOf s.cacheN a).isRegs = false) (mid n : Nat) (core : Option CoreLoad) :
    s.lateAcq mid a n core = none := by
  rw [State.lateAcq, State.acqOf, busCheck_memory h]
  split
  · rw [if_neg (by simp)]
    rfl
  · rfl

/-- A write that is not put off is served, with whatever errors its units bear. -/
theorem exec_memoryAccess_write {s : State} {mid : BitVec 12} {a : BitVec 44} {len : BitVec 16} {data : List Byte} {hint : Fin 4} {narrow : Bool}
    {ecc : EccFinding} (h : s.lateHere a.toNat data.length true = false) :
    exec (.memoryAccess mid a len (some data) hint narrow ⟨ecc, []⟩) s
      = .next (State.serveAll (s.arrivals mid.toNat a.toNat data.length (some data) hint narrow).length
          (s.arrivals mid.toNat a.toNat data.length (some data) hint narrow) (s.plant ecc)) := by
  rw [exec_memoryAccess]
  unfold execMemoryAccess
  simp only [Option.isSome_some, h, Bool.false_eq_true, if_false, Option.isNone_some, false_and, List.flatMap_nil, List.append_nil, List.foldl_nil]

theorem exec_memoryAccess_read {s : State} {mid : BitVec 12} {a : BitVec 44} {len : BitVec 16} {hint : Fin 4} {narrow : Bool}
    {ecc : EccFinding} (h : s.lateAcq mid.toNat a.toNat len.toNat none = none) :
    exec (.memoryAccess mid a len none hint narrow ⟨ecc, []⟩) s
      = .next (State.serveAll (s.arrivals mid.toNat a.toNat len.toNat none hint narrow).length
          (s.arrivals mid.toNat a.toNat len.toNat none hint narrow) (s.plant ecc)) := by
  rw [exec_memoryAccess]
  unfold execMemoryAccess
  simp only [Option.isSome_none, h, State.lateHere, Bool.false_and, Bool.false_eq_true, if_false, and_false, List.flatMap_nil,
    List.append_nil, List.foldl_nil]

theorem exec_memoryAccess_acquire {s : State} {mid : BitVec 12} {a : BitVec 44} {len : BitVec 16} {hint : Fin 4} {narrow : Bool}
    {ecc : EccFinding} {q : LateAcq} (h : s.lateAcq mid.toNat a.toNat len.toNat none = some q) :
    exec (.memoryAccess mid a len none hint narrow ⟨ecc, []⟩) s = .next (s.putOff [q]) := by
  rw [exec_memoryAccess]
  unfold execMemoryAccess
  simp only [Option.isSome_none, h, State.lateHere, Bool.false_and, Bool.false_eq_true, if_false, Option.isNone_none, Option.isSome_some,
    and_self, if_true, Option.toList_some]

/-- A piece of a master's access to the wings is an access with some hint, for a session under one of its windows. -/
theorem anyAccess_wings {s : State} {mid a len : Nat} {data : Option (List Byte)} {hint : Nat} {narrow : Bool} {ecc : EccFinding} {die off : Nat}
    (hr : regionOf s.cacheN a = .wings die off) (hw : ∀ n, masterOf mid = .session n → s.windowFor n a len data.isSome = true) :
    ∃ hint', s.anyAccess mid a len data hint narrow ecc = s.access ⟨mid, a, len, data, hint', narrow, ecc, none⟩ := by
  unfold State.anyAccess
  rw [hr]
  dsimp only
  cases hm : masterOf mid with
  | session n => exact ⟨0, by dsimp only; rw [hw n hm, if_neg (by simp)]⟩
  | _ => exact ⟨_, rfl⟩

theorem anyAccess_unmapped {s : State} {mid a len : Nat} {hint : Nat} {narrow : Bool} {ecc : EccFinding}
    (hr : regionOf s.cacheN a = .unmapped) :
    s.anyAccess mid a len none hint narrow ecc = (⟨0x40, List.replicate len 0, [], 0⟩, s.memEntry mid 0x40 a) := by
  have hacc : ∀ h, s.access ⟨mid, a, len, none, h, narrow, ecc, none⟩ = (⟨0x40, List.replicate len 0, [], 0⟩, s.memEntry mid 0x40 a) := by
    intro h
    unfold State.access State.memAccess
    dsimp only
    rw [hr]
    dsimp only
    rw [if_neg (by decide)]
  unfold State.anyAccess
  rw [hr]
  dsimp only
  cases masterOf mid with
  | session n =>
    dsimp only
    rw [if_neg (by simp)]
    exact hacc _
  | _ => exact hacc _

/-- What serving an access does that meets no poison. -/
theorem serve_unpoisoned {s t : State} {mid a len hint : Nat} {data : Option (List Byte)} {narrow : Bool} {c : Nat} {d : List Byte}
    (h : s.anyAccess mid a len data hint narrow noEcc = (⟨c, d, [], 0⟩, t)) :
    s.serve ⟨false, mid, a, len, data, hint, narrow⟩ = t.send (.bus mid a c d) := by
  unfold State.serve
  dsimp only
  rw [if_neg (by decide), h]
  simp

/-- A write in one piece that is not put off. -/
theorem exec_memoryAccess_write_single {s t : State} {mid : BitVec 12} {a : BitVec 44} {len : BitVec 16} {data : List Byte} {hint : Fin 4} {narrow : Bool}
    {c : Nat} {d : List Byte} (hone : s.accessPieces a.toNat data.length = [(a.toNat, data.length)]) (h : s.lateHere a.toNat data.length true = false)
    (hany : s.anyAccess mid.toNat a.toNat data.length (some data) hint narrow noEcc = (⟨c, d, [], 0⟩, t)) :
    exec (.memoryAccess mid a len (some data) hint narrow ⟨noEcc, []⟩) s = .next (t.send (.bus mid.toNat a.toNat c d)) := by
  have harr := arrivals_single hone mid.toNat (some data) hint narrow fun d hd => by rw [Option.some.inj hd]
  rw [exec_memoryAccess_write h, harr, List.length_singleton, serveAll_single]
  exact congrArg Host.Outcome.next (serve_unpoisoned hany)

/-- A read in one piece that is not put off. -/
theorem exec_memoryAccess_read_single {s t : State} {mid : BitVec 12} {a : BitVec 44} {len : BitVec 16} {hint : Fin 4} {narrow : Bool}
    {c : Nat} {d : List Byte} (hone : s.accessPieces a.toNat len.toNat = [(a.toNat, len.toNat)])
    (h : s.lateAcq mid.toNat a.toNat len.toNat none = none)
    (hany : s.anyAccess mid.toNat a.toNat len.toNat none hint narrow noEcc = (⟨c, d, [], 0⟩, t)) :
    exec (.memoryAccess mid a len none hint narrow ⟨noEcc, []⟩) s = .next (t.send (.bus mid.toNat a.toNat c d)) := by
  rw [exec_memoryAccess_read h, arrivals_single hone mid.toNat none hint narrow nofun, List.length_singleton, serveAll_single]
  exact congrArg Host.Outcome.next (serve_unpoisoned hany)

theorem anyAccess_regs_write {s : State} {a : Nat} (h : (regionOf s.cacheN a).isRegs = true) (mid len hint : Nat) (d : List Byte) (narrow : Bool)
    (ecc : EccFinding) :
    s.anyAccess mid a len (some d) hint narrow ecc = (⟨(s.busWrite mid a len (ofLe d)).1, [], [], 0⟩, (s.busWrite mid a len (ofLe d)).2) := by
  unfold State.anyAccess
  generalize regionOf s.cacheN a = r at h
  cases r with
  | breg b => rfl
  | tregs t => rfl
  | _ => exact absurd h (by simp [Region.isRegs])

theorem anyAccess_regs_read {s : State} {a : Nat} (h : (regionOf s.cacheN a).isRegs = true) (mid len hint : Nat) (narrow : Bool) (ecc : EccFinding) :
    s.anyAccess mid a len none hint narrow ecc
      = (⟨(s.busRead mid a len).1, leBytes (s.busRead mid a len).2.1 len, [], 0⟩, (s.busRead mid a len).2.2) := by
  unfold State.anyAccess
  generalize regionOf s.cacheN a = r at h
  cases r with
  | breg b => rfl
  | tregs t => rfl
  | _ => exact absurd h (by simp [Region.isRegs])

end Sys2Proof.Machine

namespace Sys2Proof.Claim
open Sys2Proof.Machine

/-- On registers a write is the register's write (R583). -/
theorem memoryAccess_regs_write {s : State} {mid : BitVec 12} {a : BitVec 44} {len : BitVec 16} {data : List Byte} {hint : Fin 4} {narrow : Bool}
    (h : (regionOf s.cacheN a.toNat).isRegs = true) (hne : data ≠ []) (hread : s.now.reads.contains (a.toNat / 8 * 8) = false) :
    exec (.memoryAccess mid a len (some data) hint narrow ⟨noEcc, []⟩) s
      = exec (.registerWrite a [(mid, ⟨a.toNat % 8, Nat.mod_lt _ (by decide)⟩, data)]) s := by
  have hlate : s.lateHere a.toNat data.length true = false := by rw [State.lateHere, hread, Bool.and_false]
  have hmod : a.toNat / 8 * 8 + a.toNat % 8 = a.toNat := by omega
  rw [exec_memoryAccess_write_single (by rw [accessPieces_regs h, if_neg (mt List.length_eq_zero_iff.mp hne)]) hlate
    (anyAccess_regs_write h mid.toNat data.length hint data narrow noEcc), exec_registerWrite, execRegisterWrite_single hread, hmod]
  rfl

/-- On registers a read is the register's read. -/
theorem memoryAccess_regs_read {s : State} {mid : BitVec 12} {a : BitVec 44} {len : BitVec 16} {hint : Fin 4} {narrow : Bool} {n : Fin 9}
    (h : (regionOf s.cacheN a.toNat).isRegs = true) (hn : 0 < n.val) (hlen : len.toNat = n.val) :
    exec (.memoryAccess mid a len none hint narrow ⟨noEcc, []⟩) s = exec (.rcRead mid a n) s := by
  rw [exec_rcRead]
  unfold execRcRead
  cases hq : s.lateAcq mid.toNat a.toNat n none with
  | some q => exact exec_memoryAccess_acquire (hlen ▸ hq)
  | none =>
    dsimp only
    rw [← hlen]
    exact exec_memoryAccess_read_single (by rw [accessPieces_regs h, if_neg (by omega)]) (hlen ▸ hq)
      (anyAccess_regs_read h mid.toNat len.toNat hint narrow noEcc)

/-- A write in the wings. -/
theorem memoryAccess_wings_write {s : State} {mid : BitVec 12} {a : BitVec 44} {len : BitVec 16} {data : List Byte} {hint : Fin 4} {narrow : Bool}
    {die off : Nat} (hr : regionOf s.cacheN a.toNat = .wings die off) (hd : s.boot.failed.contains (0x100 + die) = false)
    (hp : ∀ p, s.poisoned p = false) (hf : s.flaws = []) (hl : 0 < data.length) (hg : a.toNat % 128 + data.length ≤ 128)
    (ha : allowed (masterOf mid.toNat) true false (.wings die off) a.toNat = true)
    (hn : (masterOf mid.toNat).named = true → s.nameHit a.toNat data.length true = .none)
    (hw : ∀ n, masterOf mid.toNat = .session n → s.windowFor n a.toNat data.length true = true) :
    Completes (.memoryAccess mid a len (some data) hint narrow ⟨noEcc, []⟩) s (fun u =>
      u.bytes a.toNat data.length = data ∧ (∀ c, c < a.toNat ∨ a.toNat + data.length ≤ c → u.byte c = s.byte c) ∧ u.regs = s.regs ∧ u.tiles = s.tiles
      ∧ u.out = s.out ++ [.bus mid.toNat a.toNat 0 []]) := by
  have hregs : (regionOf s.cacheN a.toNat).isRegs = false := by rw [hr]; rfl
  obtain ⟨hint', hany⟩ := anyAccess_wings (len := data.length) (data := some data) (hint := hint) (narrow := narrow) (ecc := noEcc) hr hw
  have hthrough : Through s ⟨mid.toNat, a.toNat, data.length, some data, hint', narrow, noEcc, none⟩ die off := ⟨hr, hd, ha, hn⟩
  obtain ⟨arb, t, hacc, hwritten⟩ := hthrough.access_write rfl rfl hf hp
  obtain ⟨m, p, ht⟩ := hwritten.eq
  refine ⟨_, exec_memoryAccess_write_single (by rw [accessPieces_memory hregs, granulesOver_single hl hg]) (lateHere_memory hregs _ _)
    (hany.trans hacc), hwritten.bytes, fun c hc => hwritten.outside c hc, ?_, ?_, ?_⟩
  · rw [ht]; rfl
  · rw [ht]; rfl
  · rw [out_send, ht]

/-- A read in the wings. -/
theorem memoryAccess_wings_read {s : State} {mid : BitVec 12} {a : BitVec 44} {len : BitVec 16} {hint : Fin 4} {narrow : Bool}
    {die off : Nat} (hr : regionOf s.cacheN a.toNat = .wings die off) (hd : s.boot.failed.contains (0x100 + die) = false)
    (hp : ∀ p, s.poisoned p = false) (hf : s.flaws = []) (hl : 0 < len.toNat) (hg : a.toNat % 128 + len.toNat ≤ 128)
    (ha : allowed (masterOf mid.toNat) false false (.wings die off) a.toNat = true)
    (hn : (masterOf mid.toNat).named = true → s.nameHit a.toNat len.toNat false = .none)
    (hw : ∀ n, masterOf mid.toNat = .session n → s.windowFor n a.toNat len.toNat false = true) :
    Completes (.memoryAccess mid a len none hint narrow ⟨noEcc, []⟩) s (fun u => (∀ c, u.byte c = s.byte c) ∧ u.regs = s.regs
      ∧ u.out = s.out ++ [.bus mid.toNat a.toNat 0 (s.bytes a.toNat len.toNat)]) := by
  have hregs : (regionOf s.cacheN a.toNat).isRegs = false := by rw [hr]; rfl
  obtain ⟨hint', hany⟩ := anyAccess_wings (len := len.toNat) (data := none) (hint := hint) (narrow := narrow) (ecc := noEcc) hr hw
  have hthrough : Through s ⟨mid.toNat, a.toNat, len.toNat, none, hint', narrow, noEcc, none⟩ die off := ⟨hr, hd, ha, hn⟩
  obtain ⟨arb, hacc⟩ := hthrough.access_read rfl rfl hf hp
  exact ⟨_, exec_memoryAccess_read_single (by rw [accessPieces_memory hregs, granulesOver_single hl hg]) (lateAcq_memory hregs _ _ _)
    (hany.trans hacc), fun _ => rfl, rfl, rfl⟩

/-- A read where nothing lies. -/
theorem memoryAccess_unmapped {s : State} {mid : BitVec 12} {a : BitVec 44} {len : BitVec 16} {hint : Fin 4} {narrow : Bool}
    (hr : regionOf s.cacheN a.toNat = .unmapped) (hl : 0 < len.toNat) (hg : a.toNat % 128 + len.toNat ≤ 128) :
    Completes (.memoryAccess mid a len none hint narrow ⟨noEcc, []⟩) s (fun u => (∀ c, u.byte c = s.byte c)
      ∧ u.out = s.out ++ [.bus mid.toNat a.toNat 0x40 (List.replicate len.toNat 0)]) := by
  have hregs : (regionOf s.cacheN a.toNat).isRegs = false := by rw [hr]; rfl
  exact ⟨_, exec_memoryAccess_read_single (by rw [accessPieces_memory hregs, granulesOver_single hl hg]) (lateAcq_memory hregs _ _ _)
    (anyAccess_unmapped hr), (only_memEntry s _ _ _).bytes, by rw [out_send, out_memEntry]⟩

/-- Settles O22: the wings' write and read, an address where nothing lies, a register, and the answer to the master. -/
theorem memoryAccesses : Obligations.MemoryAccesses := by
  unfold Obligations.MemoryAccesses
  constructor
  · intro s mid a len data hint narrow die off m through
    refine ⟨fun l hr hd hp hf hl hg => ⟨?_, ?_⟩, memoryAccess_unmapped⟩
    · rintro rfl ⟨ha, hn, hw⟩
      exact memoryAccess_wings_write hr hd hp hf hl hg ha hn hw
    · rintro rfl ⟨ha, hn, hw⟩
      exact memoryAccess_wings_read hr hd hp hf hl hg ha hn hw
  · intro s mid a len data hint narrow ecc regs
    have hregs : regs → (regionOf s.cacheN a.toNat).isRegs = true := id
    refine ⟨fun h => memoryAccess_regs_write (hregs h), fun n h => memoryAccess_regs_read (hregs h), fun hne hlate => ?_, fun hl hlate => ?_⟩
    · refine ⟨_, exec_memoryAccess_write hlate, answered_serveAll_of_ne_nil _ ?_ (arrivals_of_master _ _ _ _ _ _ _)⟩
      exact mt List.map_eq_nil_iff.mp (accessPieces_ne_nil (List.length_pos_iff.mpr hne))
    · refine ⟨_, exec_memoryAccess_read hlate, answered_serveAll_of_ne_nil _ ?_ (arrivals_of_master _ _ _ _ _ _ _)⟩
      exact mt List.map_eq_nil_iff.mp (accessPieces_ne_nil hl)

end Sys2Proof.Claim
end

section
/-!
PROOFS. A load or store issued alone, up to what it performs (O5).
-/
namespace Sys2Proof.Claim
open Sys2Proof.Machine

/-! ### What one slot issued on a tile leaves alone -/

theorem TileFrame.trans {t : Nat} {s u w : State} (h : TileFrame t s u) (g : TileFrame t u w) : TileFrame t s w :=
  ⟨fun a ha => (g.regs a ha).trans (h.regs a ha), fun a => (g.bytes a).trans (h.bytes a), fun a => (g.poison a).trans (h.poison a),
    fun k hk => (g.tiles k hk).trans (h.tiles k hk), g.booth.trans h.booth, g.pb.trans h.pb, g.fab.trans h.fab, g.out.trans h.out⟩

theorem tileFrame_of_inFlight {t : Nat} {s u : State} (h : InFlight t s u) : TileFrame t s u :=
  ⟨fun a _ => h.reg a, h.byte, h.poisoned, h.tiles, (congrArg State.booth h.rest :), h.pb, h.fab, h.out⟩

theorem noteIssue_cases (s : State) (t : Nat) : ∃ now x, s.noteIssue t = ({ s with now := now } : State).setTile t x
    ∨ s.noteIssue t = (({ s with now := now } : State).setTile t x).setFld (R.TA_SEQ_STATE t) seqIssuing := by
  unfold State.noteIssue
  extract_lets u w
  by_cases h : w.fld (R.TA_SEQ_STATE t) = seqHeld
  · exact ⟨_, _, .inr (if_pos h)⟩
  · exact ⟨_, _, .inl (if_neg h)⟩

/-- Noting an issue keeps the booth cores, the promptbook, the fabric, what is sent and the cycle's number. -/
theorem noteIssue_rest (s : State) (t : Nat) : (s.noteIssue t).booth = s.booth ∧ (s.noteIssue t).pb = s.pb ∧ (s.noteIssue t).fab = s.fab
    ∧ (s.noteIssue t).out = s.out ∧ (s.noteIssue t).active = s.active := by
  have hset : ∀ (u : State) (f : Fld) (v : Nat), (u.setFld f v).booth = u.booth := fun _ _ _ => rfl
  obtain ⟨now, x, h | h⟩ := noteIssue_cases s t
  · rw [h, booth_setTile, pb_setTile, fab_setTile, out_setTile, active_setTile]
    exact ⟨rfl, rfl, rfl, rfl, rfl⟩
  · rw [h, hset, pb_setFld, fab_setFld, out_setFld, active_setFld, booth_setTile, pb_setTile, fab_setTile, out_setTile, active_setTile]
    exact ⟨rfl, rfl, rfl, rfl, rfl⟩

theorem tileFrame_noteIssue (s : State) (t : Nat) : TileFrame t s (s.noteIssue t) := by
  obtain ⟨_, htiles, hregs, hbytes, hpoison⟩ := noteIssue_spec s t
  obtain ⟨hbooth, hpb, hfab, hout, _⟩ := noteIssue_rest s t
  exact ⟨hregs, hbytes, hpoison, htiles, hbooth, hpb, hfab, hout⟩

end Sys2Proof.Claim

namespace Sys2Proof.Machine
open Sys2Proof.Claim

/-! ### A load or store issued alone -/

/-- `v` is `s` with a load or store noted and its unit held, before anything of it is performed. -/
structure Noted (t : Nat) (s v : State) : Prop where
  frame : TileFrame t s v
  active : v.active = s.active
  acts : (v.tile t).acts = (s.tile t).acts
  trap : (v.tile t).trap = (s.tile t).trap
  globals : (v.tile t).globals = (s.tile t).globals
  ordNext : (v.tile t).ordNext = (s.tile t).ordNext

theorem PXN_ne_SEQ (t j : Nat) (hj : j < 16) : R.TA_PXN t j ≠ R.TA_SEQ t := by
  simp only [R.TA_PXN, R.TA_SEQ]
  omega

theorem Noted.x {t : Nat} {s v : State} (h : Noted t s v) (r : XReg) : v.x t r = s.x t r := by
  unfold State.x
  split
  · rfl
  · exact h.frame.regs _ (PXN_ne_SEQ t _ (by omega))

theorem Noted.effAddr {t : Nat} {s v : State} (h : Noted t s v) (r : XReg) (imm : BitVec 16) : v.effAddr t r imm = s.effAddr t r imm := by
  rw [State.effAddr, State.effAddr, h.x]

theorem hold_globals (s : State) (t r occ : Nat) : ((s.hold t r occ).tile t).globals = (s.tile t).globals
    ∧ ((s.hold t r occ).tile t).trap = (s.tile t).trap := by
  unfold State.hold
  split
  · exact ⟨rfl, rfl⟩
  · exact ⟨by rw [tile_setTile_same], by rw [tile_setTile_same]⟩

/-- Holding a unit and noting a trap point. -/
theorem issueP_noted (s : State) (t : Nat) (i : PInsn) (p : Nat) (pt : IssuePt) :
    ∃ v, s.issueP t i p pt = v.performP t i p pt ∧ Noted t s v := by
  obtain ⟨hheld, hacts, hord⟩ := hold_spec s t (pTiming i (s.vlOf t i)).1 (pTiming i (s.vlOf t i)).2.1
  obtain ⟨hglob, htrap⟩ := hold_globals s t (pTiming i (s.vlOf t i)).1 (pTiming i (s.vlOf t i)).2.1
  unfold State.issueP
  dsimp only
  generalize s.hold t _ _ = u at hheld hacts hord hglob htrap
  refine ⟨_, rfl, ?_⟩
  cases u.trapDist t i with
  | none => exact ⟨tileFrame_of_inFlight hheld, hheld.active, hacts, htrap, hglob, hord⟩
  | some d =>
    exact ⟨tileFrame_of_inFlight (inFlight_trans hheld (inFlight_setTile t u _)), hheld.active, by rw [tile_setTile_same, ← hacts],
      by rw [tile_setTile_same, ← htrap], by rw [tile_setTile_same, ← hglob], by rw [tile_setTile_same, ← hord]⟩

/-- A load or store whose issue nothing stops is noted and then performed. -/
theorem runOn_noted {s : State} {t : Tile} {i : PInsn} (hwf : i.wf = true) (hcan : s.canIssue t = true) (hcheck : s.checkP t i = none) :
    ∃ v pt, s.runOn (.tile t) i = .next (v.performP t i 1 pt) ∧ Noted t s v := by
  obtain ⟨v, hv, hn⟩ := issueP_noted (s.noteIssue t) t i 1 ((s.noteIssue t).issuePt t)
  have htile := (noteIssue_spec s t).1
  refine ⟨v, (s.noteIssue t).issuePt t, ?_, (tileFrame_noteIssue s t).trans hn.frame, hn.active.trans (noteIssue_rest s t).2.2.2.2, ?_, ?_, ?_, ?_⟩
  · rw [runOn_tile, State.runChecked, if_pos hwf, State.runP, (issueAlone_spec s t _ _).2.2 hcan hcheck, hv]
  · rw [hn.acts, htile]
  · rw [hn.trap, htile]
  · rw [hn.globals, htile]
  · rw [hn.ordNext, htile]

theorem busyCheck_free {s : State} {t r : Nat} (h : Free s t r) (slot occ : Nat) : s.busyCheck t slot r occ = none := by
  unfold State.busyCheck
  refine if_neg fun hc => ?_
  obtain ⟨_, _, hlt, hmode⟩ := hc
  rcases h with h | h
  · rw [h] at hmode
    exact absurd hmode (by decide)
  · omega

theorem pWordI_pos {o : Nat} (h : 0 < o) (a b imm : Nat) : pWordI o a b imm ≠ 0 := by
  unfold pWordI
  omega

/-- The address of a scalar load or store: base register and offset. -/
def PInsn.scalarAddr : PInsn → Option (Nat × BitVec 16)
  | .load _ _ rs1 imm => some (rs1.val, imm)
  | .store _ _ rs1 imm => some (rs1.val, imm)
  | _ => none

/-- What the issue of a scalar load or store is checked for: a trap point still to come, the queue of global accesses, its unit and its word. -/
theorem checkP_access {s : State} {t : Nat} {i : PInsn} {r : Nat} {imm : BitVec 16} (hi : i.scalarAddr = some (r, imm)) (hfree : Free s t resLsu)
    (hown : isGlobalAddr (s.effAddr t r imm) = false → s.unverifiedMode = false ∨ (s.tile t).overlapUntil ≤ s.active)
    (hglob : isGlobalAddr (s.effAddr t r imm) = true → (s.tile t).globals.length < 32) : s.checkP t i = none := by
  have hov : ∀ d : Option Nat, (isGlobalAddr (s.effAddr t r imm) = true → d = none) →
      (d.isSome && decide (s.active < (s.tile t).overlapUntil) && s.unverifiedMode) = false := by
    intro d hd
    cases hg : isGlobalAddr (s.effAddr t r imm) with
    | true => rw [hd hg]; rfl
    | false =>
      rcases hown hg with h | h
      · rw [h, Bool.and_false]
      · simp [show ¬ s.active < (s.tile t).overlapUntil by omega]
  have hgl : (isGlobalAddr (s.effAddr t r imm) && decide (32 ≤ (s.tile t).globals.length)) = false := by
    cases hg : isGlobalAddr (s.effAddr t r imm) with
    | true => simp [hglob hg]
    | false => rfl
  cases i with
  | load k rd rs1 imm' =>
    obtain ⟨rfl, rfl⟩ := Prod.mk.inj (Option.some.inj hi)
    have hdist : isGlobalAddr (s.effAddr t rs1 imm') = true → s.trapDist t (.load k rd rs1 imm') = none := fun h => if_pos h
    have hw : encodeP (.load k rd rs1 imm') ≠ 0 := pWordI_pos (by cases k <;> decide) _ _ _
    unfold State.checkP
    simp only [vecWidth, Bool.false_and, Bool.false_eq_true, if_false, hgl, hov _ hdist, pTiming,
      busyCheck_free hfree, hw, false_and]
  | store k rs2 rs1 imm' =>
    obtain ⟨rfl, rfl⟩ := Prod.mk.inj (Option.some.inj hi)
    have hdist : isGlobalAddr (s.effAddr t rs1 imm') = true → s.trapDist t (.store k rs2 rs1 imm') = none := fun h => if_pos h
    have hw : encodeP (.store k rs2 rs1 imm') ≠ 0 := pWordI_pos (by cases k <;> decide) _ _ _
    unfold State.checkP
    simp only [vecWidth, Bool.false_and, Bool.false_eq_true, if_false, hgl, hov _ hdist, pTiming,
      busyCheck_free hfree, hw, false_and]
  | _ => exact absurd hi nofun

end Sys2Proof.Machine
end

section
/-!
PROOFS. Accesses of the own tile that are refused, and accesses outside it (O5).
-/
namespace Sys2Proof.Machine
open Sys2Proof.Claim

/-! ### Accesses of the own tile that R175 refuses -/

/-- A fault on its way to its trap point, and nothing scheduled. -/
def Faults (t : Nat) (s : State) (d cause : Nat) (a : Word) (u : State) : Prop :=
  (u.tile t).acts = (s.tile t).acts ∧ TileFrame t s u
    ∧ ∃ r, (u.tile t).trap = some r ∧ r.due = s.active + d ∧ r.cause = cause ∧ r.addr = a ∧ r.restart = true

theorem raiseTrap_first {s : State} {t : Nat} (h : (s.tile t).trap = none) (r : TrapRec) :
    s.raiseTrap t r = s.setTile t { s.tile t with trap := some r } := by
  unfold State.raiseTrap
  rw [h]

theorem faultP_restarts (s : State) (t : Nat) {i : PInsn} (hi : i ≠ .holdpt) (pt : IssuePt) (d cause elem : Nat) (a : Word) :
    s.faultP t i pt d cause elem a = s.raiseTrap t ⟨s.active + d, cause, elem, a, encodeP i, pt, true, s.inHandler t⟩ := by
  unfold State.faultP
  split
  · contradiction
  · rfl

theorem Noted.faults {s v : State} {t : Nat} {i : PInsn} (h : Noted t s v) (htrap : (s.tile t).trap = none) (hi : i ≠ .holdpt)
    (pt : IssuePt) (d cause elem : Nat) (a : Word) : Faults t s d cause a (v.faultP t i pt d cause elem a) := by
  rw [faultP_restarts v t hi, raiseTrap_first (h.trap.trans htrap)]
  refine ⟨by rw [tile_setTile_same, ← h.acts], h.frame.trans (tileFrame_of_inFlight (inFlight_setTile t v _)), ?_⟩
  exact ⟨_, by rw [tile_setTile_same], congrArg (· + d) h.active, rfl, rfl, rfl⟩

/-- How far the trap point of a load of its own tile lies (R190). -/
def loadDist (t : Nat) (a : Word) : Nat := if a.toNat < 2 ^ 20 ∧ isPmem (tileBase t + a.toNat) = true then 2 else 4

theorem trapDist_load {v : State} {t : Nat} {k : LdKind} {rd : FReg} {r1 : XReg} {imm : BitVec 16} (h : isGlobalAddr (v.effAddr t r1 imm) = false) :
    v.trapDist t (.load k rd r1 imm) = some (loadDist t (v.effAddr t r1 imm)) := by
  unfold State.trapDist
  dsimp only
  rw [if_neg (by simp [h])]
  refine congrArg some (if_congr ?_ rfl rfl)
  rw [Bool.and_eq_true, decide_eq_true_eq]
  generalize (v.effAddr t r1 imm).toNat = a
  constructor
  · rintro ⟨h0, hp⟩
    have hlt : a < 2 ^ 20 := by omega
    rw [Nat.mod_eq_of_lt hlt] at hp
    exact ⟨hlt, hp⟩
  · rintro ⟨hlt, hp⟩
    exact ⟨Nat.div_eq_of_lt hlt, by rwa [Nat.mod_eq_of_lt hlt]⟩

theorem load_refused {s : State} {t : Tile} {k : LdKind} {rd : FReg} {r1 : XReg} {imm : BitVec 16} {cause : Nat}
    (hwf : (PInsn.load k rd r1 imm).wf = true) (hcan : s.canIssue t = true) (hfree : Free s t resLsu)
    (hov : s.unverifiedMode = false ∨ (s.tile t).overlapUntil ≤ s.active) (htrap : (s.tile t).trap = none)
    (hg : isGlobalAddr (s.effAddr t r1 imm) = false) (herr : ownAddr t (s.effAddr t r1 imm) (ldSize k) (ldSize k) = .error cause) :
    ∃ u, s.runOn (.tile t) (.load k rd r1 imm) = .next u
      ∧ Faults t s (loadDist t (s.effAddr t r1 imm)) cause (s.effAddr t r1 imm) u := by
  obtain ⟨v, pt, hrun, hn⟩ := runOn_noted hwf hcan (checkP_access rfl hfree (fun _ => hov) fun h => by simp [hg] at h)
  have hdo : v.doLoad t (.load k rd r1 imm) pt k rd r1 imm
      = v.faultP t (.load k rd r1 imm) pt (loadDist t (s.effAddr t r1 imm)) cause 0 (s.effAddr t r1 imm) := by
    have hg' : isGlobalAddr (v.effAddr t r1 imm) = false := by rw [hn.effAddr, hg]
    unfold State.doLoad
    rw [trapDist_load hg', hn.effAddr]
    dsimp only
    rw [if_neg (by simp [hg]), herr]
    rfl
  exact ⟨_, hrun.trans (congrArg _ hdo), hn.faults htrap (by rintro ⟨⟩) pt _ _ _ _⟩

theorem store_refused {s : State} {t : Tile} {k : StKind} {r2 : FReg} {r1 : XReg} {imm : BitVec 16} {cause : Nat}
    (hwf : (PInsn.store k r2 r1 imm).wf = true) (hcan : s.canIssue t = true) (hfree : Free s t resLsu)
    (hov : s.unverifiedMode = false ∨ (s.tile t).overlapUntil ≤ s.active) (htrap : (s.tile t).trap = none)
    (hg : isGlobalAddr (s.effAddr t r1 imm) = false) (herr : ownAddr t (s.effAddr t r1 imm) (stSize k) (stSize k) = .error cause) :
    ∃ u, s.runOn (.tile t) (.store k r2 r1 imm) = .next u ∧ Faults t s 1 cause (s.effAddr t r1 imm) u := by
  obtain ⟨v, pt, hrun, hn⟩ := runOn_noted hwf hcan (checkP_access rfl hfree (fun _ => hov) fun h => by simp [hg] at h)
  have hdo : v.doStore t (.store k r2 r1 imm) pt k r2 r1 imm = v.faultP t (.store k r2 r1 imm) pt 1 cause 0 (s.effAddr t r1 imm) := by
    unfold State.doStore
    rw [hn.effAddr]
    dsimp only
    rw [if_neg (by simp [hg]), herr]
  exact ⟨_, hrun.trans (congrArg _ hdo), hn.faults htrap (by rintro ⟨⟩) pt _ _ _ _⟩

theorem ownAddr_outside {t : Nat} {a : Word} {size align : Nat} (h : 2 ^ 20 ≤ a.toNat) : ownAddr t a size align = .error 0x21 := by
  unfold ownAddr
  exact if_pos (by omega)

theorem ownAddr_misaligned {t : Nat} {a : Word} {size align : Nat} (h : a.toNat < 2 ^ 20) (hm : a.toNat % align ≠ 0) :
    ownAddr t a size align = .error 0x22 := by
  unfold ownAddr
  rw [if_neg (by omega), if_pos hm]

theorem ownAddr_bank {t : Nat} {a : Word} {size align : Nat} (h1 : 0x80000 ≤ a.toNat) (h2 : a.toNat < 0xC0000) (hm : a.toNat % align = 0) :
    ownAddr t a size align = .error 0x24 := by
  have hbank : ∃ b, windowRegion t (a.toNat % 2 ^ 20) = .tbank t b := by
    rw [Nat.mod_eq_of_lt (by omega)]
    unfold windowRegion
    rw [if_neg (by omega)]
    by_cases h : a.toNat < 0xA0000
    · exact ⟨0, if_pos h⟩
    · exact ⟨1, by rw [if_neg h, if_pos h2]⟩
  obtain ⟨b, hb⟩ := hbank
  unfold ownAddr
  rw [if_neg (by omega), if_neg (by simp [hm]), hb]

/-! ### Accesses outside the tile (R152, R173) -/

theorem wcFld_fifteen (t : Nat) : wcFld t 15 = ⟨R.TA_WC_HI t, 63, 56⟩ := (rfl)

/-- What the issue of an access outside the tile does: WC15 rises and the access is queued. -/
theorem Noted.issueGlobal {s v : State} {t : Nat} (h : Noted t s v) (a : Word) (ld : Option (LdKind × Nat)) (data : List Byte) :
    let u := v.issueGlobal t a ld data
    u.wc t 15 = (s.wc t 15 + 1) % 256 ∧ (∀ a, u.byte a = s.byte a) ∧ u.out = s.out
      ∧ ∃ g, (u.tile t).globals = (s.tile t).globals ++ [g] ∧ g.addr = a.toNat % 2 ^ 59 ∧ g.load = ld ∧ g.bytes = data := by
  have hwc : v.wc t 15 = s.wc t 15 := fld_congr (h.frame.regs _ (by rw [wcFld_fifteen]; simp only [R.TA_WC_HI, R.TA_SEQ]; omega))
  refine ⟨?_, fun b => ?_, ?_, ?_⟩
  · rw [State.issueGlobal, State.wc, fld_setTile, State.wcInc, fld_setFld_same _ _ _ (of_decide_eq_true rfl), hwc]
    rfl
  · rw [State.issueGlobal, byte_setTile, State.wcInc, byte_setFld, h.frame.bytes]
  · rw [State.issueGlobal, out_setTile, State.wcInc, out_setFld, h.frame.out]
  · rw [State.issueGlobal, tile_setTile_same, State.wcInc, tile_setFld, h.globals]
    exact ⟨_, rfl, rfl, rfl, rfl⟩

theorem load_global {s : State} {t : Tile} {k : LdKind} {rd : FReg} {r1 : XReg} {imm : BitVec 16}
    (hwf : (PInsn.load k rd r1 imm).wf = true) (hcan : s.canIssue t = true) (hfree : Free s t resLsu)
    (hg : isGlobalAddr (s.effAddr t r1 imm) = true) (hroom : (s.tile t).globals.length < 32) :
    ∃ v, Noted t s v ∧ s.runOn (.tile t) (.load k rd r1 imm) = .next (v.issueGlobal t (s.effAddr t r1 imm) (some (k, rd.val)) []) := by
  obtain ⟨v, pt, hrun, hn⟩ := runOn_noted hwf hcan (checkP_access rfl hfree (fun h => by simp [hg] at h) fun _ => hroom)
  refine ⟨v, hn, hrun.trans (congrArg Host.Outcome.next ?_)⟩
  change v.doLoad t (.load k rd r1 imm) pt k rd r1 imm = _
  unfold State.doLoad
  rw [hn.effAddr]
  exact if_pos hg

theorem store_global {s : State} {t : Tile} {k : StKind} {r2 : FReg} {r1 : XReg} {imm : BitVec 16}
    (hwf : (PInsn.store k r2 r1 imm).wf = true) (hcan : s.canIssue t = true) (hfree : Free s t resLsu)
    (hg : isGlobalAddr (s.effAddr t r1 imm) = true) (hroom : (s.tile t).globals.length < 32) :
    ∃ v, Noted t s v ∧ s.runOn (.tile t) (.store k r2 r1 imm)
      = .next (v.issueGlobal t (s.effAddr t r1 imm) none (leBytes (if k.isF then v.f t r2 else v.x t r2).toNat (stSize k))) := by
  obtain ⟨v, pt, hrun, hn⟩ := runOn_noted hwf hcan (checkP_access rfl hfree (fun h => by simp [hg] at h) fun _ => hroom)
  refine ⟨v, hn, hrun.trans (congrArg Host.Outcome.next ?_)⟩
  change v.doStore t (.store k r2 r1 imm) pt k r2 r1 imm = _
  unfold State.doStore
  rw [hn.effAddr]
  exact if_pos hg

end Sys2Proof.Machine
end

section
/-!
PROOFS. The end of a prompter access, and format words without a meaning (O5).
-/
namespace Sys2Proof.Machine
open Sys2Proof.Claim

/-! ### The end of an access that names no place (R152, R261) -/

/-- A commit of a whole register that no other commit of the cycle stands over. -/
theorem commitReg_whole {s : State} (h : s.won = []) (t ord a : Nat) (v : Word) : s.commitReg t ord a v (-1) = (s.setReg a v).win t ord a 8 := by
  have hmix : (s.reg a &&& ~~~(-1 : Word)) ||| (v &&& (-1 : Word)) = v := by
    rw [show (-1 : Word) = BitVec.allOnes 64 by decide, BitVec.not_allOnes, BitVec.and_zero, BitVec.and_allOnes, BitVec.zero_or]
  unfold State.commitReg
  rw [h]
  dsimp only [List.isEmpty_nil]
  rw [if_pos rfl, if_pos rfl, hmix]

/-- The registers that a memory cause reported to a tile changes. -/
def CauseRegs (t a : Nat) : Prop := a = R.TA_MFAULT0 t ∨ a = R.TA_MFAULT1 t ∨ a = R.TA_MFAULT2 t ∨ a = R.BT_PB_INFO

theorem only_tileCause (s : State) (t source desc code addr : Nat) : Only (CauseRegs t) s (s.tileCause t source desc code addr) := by
  have hset : ∀ (u : State) (f : Fld) (v : Nat), CauseRegs t f.addr → Only (CauseRegs t) u (u.setFld f v) := fun u f v h => only_setFld u v h
  unfold State.tileCause
  dsimp only
  generalize hu : (if s.bit (R.TA_MFAULT0_VALID t) = true then s else _) = u
  have hrecord : Only (CauseRegs t) s u := by
    rw [← hu]
    split
    · exact only_refl _ s
    · refine (((hset s (R.TA_MFAULT0_CAUSE t) code (.inl rfl)).trans (hset _ (R.TA_MFAULT0_DESC t) desc (.inl rfl))).trans
        (hset _ (R.TA_MFAULT0_SOURCE t) source (.inl rfl))).trans (Only.trans ?_ (hset _ (R.TA_MFAULT1_ADDR t) addr (.inr (.inl rfl))))
      exact only_raiseFld _ (f := R.TA_MFAULT0_VALID t) (.inl rfl)
  have hcount := only_countFld (P := CauseRegs t) u 1 (f := R.TA_MFAULT2_COUNT t) (.inr (.inr (.inl rfl)))
  generalize u.countFld (R.TA_MFAULT2_COUNT t) 1 = w at hcount
  have hentry := (only_memEntry w (tileMid t) code addr).mono (Q := CauseRegs t) fun _ h => .inr (.inr (.inr h))
  generalize w.memEntry (tileMid t) code addr = z at hentry
  exact ((hrecord.trans hcount).trans hentry).trans (only_of_stores rfl rfl rfl rfl)

theorem discardFlag_tileCause (s : State) (t source desc code addr : Nat) : (s.tileCause t source desc code addr).discardFlag = true := (rfl)

theorem causeRegs_ne_PXN {t j a : Nat} (hj : j < 16) (h : CauseRegs t a) : R.TA_PXN t j ≠ a := by
  simp only [CauseRegs, R.TA_MFAULT0, R.TA_MFAULT1, R.TA_MFAULT2, R.BT_PB_INFO, R.TA_PXN] at h ⊢
  omega

theorem causeRegs_ne_WC {t a : Nat} (h : CauseRegs t a) : R.TA_WC_HI t ≠ a := by
  simp only [CauseRegs, R.TA_MFAULT0, R.TA_MFAULT1, R.TA_MFAULT2, R.BT_PB_INFO, R.TA_WC_HI] at h ⊢
  omega

theorem WC_ne_PXN (t j : Nat) : R.TA_WC_HI t ≠ R.TA_PXN t j := by
  simp only [R.TA_WC_HI, R.TA_PXN]
  omega

@[simp] theorem discardFlag_setTile (s : State) (t : Nat) (x : TileX) : (s.setTile t x).discardFlag = s.discardFlag := (rfl)

@[simp] theorem discardFlag_setFld (s : State) (f : Fld) (v : Nat) : (s.setFld f v).discardFlag = s.discardFlag := (rfl)

/-- What lowering WC15 does. -/
theorem wcDec_fifteen (s : State) (t : Nat) :
    (∀ a, a ≠ R.TA_WC_HI t → (s.wcDec t 15).reg a = s.reg a) ∧ (s.wcDec t 15).wc t 15 = s.wc t 15 - 1
      ∧ (s.wcDec t 15).discardFlag = s.discardFlag ∧ (∀ k, (s.wcDec t 15).tile k = s.tile k) ∧ ∀ a, (s.wcDec t 15).byte a = s.byte a := by
  have hlt : s.wc t 15 < 256 := fld_lt s (wcFld t 15)
  have hdec : (s.wcDec t 15).wc t 15 = (s.wc t 15 - 1) % 256 := fld_setFld_same s (wcFld t 15) (s.wc t 15 - 1) (of_decide_eq_true rfl)
  exact ⟨fun a ha => reg_setFld_ne s (f := wcFld t 15) ha, by rw [hdec]; omega, by rw [State.wcDec, discardFlag_setFld],
    fun k => by rw [State.wcDec, tile_setFld], fun a => by rw [State.wcDec, byte_setFld]⟩

/-- An access leaves the queue and lowers WC15. -/
def State.leaveGlobals (w : State) (t : Nat) (g : GlobAcc) : State :=
  (w.setTile t { w.tile t with globals := (w.tile t).globals.filter (fun y => decide (y.id ≠ g.id)) }).wcDec t 15

theorem finishGlobal_failed_eq {s : State} {t : Nat} {g : GlobAcc} {rd code : Nat} (hload : g.load = some (.d, rd)) (h0 : rd ≠ 0)
    (v : Nat) (hcode : code ≠ 0) :
    s.finishGlobal t g v code = ((s.commitReg t g.ord (R.TA_PXN t (rd - 1)) 0 (-1)).tileCause t 1 0 code g.addr).leaveGlobals t g := by
  unfold State.finishGlobal State.leaveGlobals
  rw [hload]
  simp only [LdKind.isF, hcode, Bool.false_eq_true, if_false, h0]

theorem leaveGlobals_spec (w : State) (t : Nat) (g : GlobAcc) :
    (∀ a, a ≠ R.TA_WC_HI t → (w.leaveGlobals t g).reg a = w.reg a) ∧ (w.leaveGlobals t g).wc t 15 = w.wc t 15 - 1
      ∧ (w.leaveGlobals t g).discardFlag = w.discardFlag
      ∧ ((w.leaveGlobals t g).tile t).globals = (w.tile t).globals.filter (fun y => decide (y.id ≠ g.id))
      ∧ ∀ a, (w.leaveGlobals t g).byte a = w.byte a := by
  obtain ⟨hregs, hdec, hdiscard, htiles, hbytes⟩ := wcDec_fifteen
    (w.setTile t { w.tile t with globals := (w.tile t).globals.filter (fun y => decide (y.id ≠ g.id)) }) t
  unfold State.leaveGlobals
  refine ⟨fun a ha => ?_, ?_, ?_, ?_, fun a => ?_⟩
  · rw [hregs a ha, reg_setTile]
  · rw [hdec, State.wc, fld_setTile, State.wc]
  · rw [hdiscard, discardFlag_setTile]
  · rw [htiles, tile_setTile_same]
  · rw [hbytes, byte_setTile]

/-- A load of x[rd] that failed writes zero there, lowers WC15 and leaves the queue; no byte of memory changes. -/
theorem finishGlobal_failed {s : State} {t : Nat} {g : GlobAcc} {rd code : Nat} (hload : g.load = some (.d, rd)) (h0 : 0 < rd)
    (h16 : rd < 16) (hwon : s.won = []) (v : Nat) (hcode : code ≠ 0) :
    (s.finishGlobal t g v code).x t rd = 0 ∧ (s.finishGlobal t g v code).wc t 15 = s.wc t 15 - 1 ∧ (s.finishGlobal t g v code).discardFlag = true
      ∧ ((s.finishGlobal t g v code).tile t).globals = (s.tile t).globals.filter (fun y => decide (y.id ≠ g.id))
      ∧ ∀ a, (s.finishGlobal t g v code).byte a = s.byte a := by
  rw [finishGlobal_failed_eq hload (by omega) v hcode, commitReg_whole hwon]
  have hzero : ((s.setReg (R.TA_PXN t (rd - 1)) 0).win t g.ord (R.TA_PXN t (rd - 1)) 8).reg (R.TA_PXN t (rd - 1)) = 0 := reg_setReg_same s _ 0
  have honly : Only (fun a => a = R.TA_PXN t (rd - 1)) s ((s.setReg (R.TA_PXN t (rd - 1)) 0).win t g.ord (R.TA_PXN t (rd - 1)) 8) :=
    (only_setReg (P := fun a => a = R.TA_PXN t (rd - 1)) s 0 rfl).trans (only_of_stores rfl rfl rfl rfl)
  generalize (s.setReg (R.TA_PXN t (rd - 1)) 0).win t g.ord (R.TA_PXN t (rd - 1)) 8 = c at hzero honly
  have hcause := only_tileCause c t 1 0 code g.addr
  have hflag := discardFlag_tileCause c t 1 0 code g.addr
  generalize c.tileCause t 1 0 code g.addr = w at hcause hflag
  have hw15 : w.wc t 15 = s.wc t 15 :=
    fld_congr ((hcause.regs _ fun h => causeRegs_ne_WC h rfl).trans (honly.regs _ (WC_ne_PXN t _)))
  obtain ⟨hregs, hdec, hdiscard, hglobs, hbytes⟩ := leaveGlobals_spec w t g
  refine ⟨?_, by rw [hdec, hw15], hdiscard.trans hflag, ?_, fun a => ?_⟩
  · rw [State.x, if_neg (by omega), hregs _ (WC_ne_PXN t _).symm, hcause.regs _ fun h => causeRegs_ne_PXN (by omega) h rfl, hzero]
  · rw [hglobs, hcause.tiles, honly.tiles]
  · rw [hbytes, hcause.bytes, honly.bytes]

/-! ### Format words without a meaning (R14, R104) -/

theorem runM_undefined {s : State} {t : Nat} {i : MInsn} (hcan : s.canIssue t = true) (hcheck : s.checkM t i = none) (h : s.definedM t i = false) :
    s.runM t i = .fault .undefinedFormat := by
  unfold State.runM
  rw [hcan, hcheck, h]
  rfl

theorem runD_undefined {s : State} {t : Tile} {i : DInsn} (hcan : s.canIssue t = true) (hcheck : s.checkD t i = none) (h : s.definedD t i = false) :
    s.runD t i = .fault .undefinedFormat := by
  unfold State.runD
  rw [hcan, hcheck, h]
  rfl

theorem checkM_mm_unpaired {s : State} {t : Nat} {f : MMSlot} (h : s.mmArgs t f = none) : s.checkM t (.mm f) = none := by
  unfold State.checkM
  dsimp only
  rw [h]
  rfl

end Sys2Proof.Machine

namespace Sys2Proof.Claim
open Sys2Proof.Machine

/-- The instruction names x registers, so that its word is one of Table 6.2. -/
theorem mkF_xreg (r : XReg) : (mkF r.val).val = r.val := Nat.mod_eq_of_lt (by omega)

theorem wf_load (k : LdKind) (rd r1 : XReg) (imm : BitVec 16) : (PInsn.load k (mkF rd.val) r1 imm).wf = true := by
  rw [PInsn.wf, mkF_xreg]
  simp [rd.isLt]

theorem wf_store (k : StKind) (r2 r1 : XReg) (imm : BitVec 16) : (PInsn.store k (mkF r2.val) r1 imm).wf = true := by
  rw [PInsn.wf, mkF_xreg]
  simp [r2.isLt]

/-- Settles O5: own-tile accesses that fault, accesses outside the tile, one that names no place, and format words without a meaning. -/
theorem accessesThatFaultOrLeaveTheTile : Obligations.AccessesThatFaultOrLeaveTheTile := by
  unfold Obligations.AccessesThatFaultOrLeaveTheTile
  refine ⟨?_, ⟨?_, ?_⟩, ?_⟩
  · intro s t rd r1 imm cause hcan hfree hov htrap hg hit a d
    refine ⟨fun herr => ⟨?_, ?_⟩, fun herr => ⟨?_, ?_⟩, ownAddr_outside, ownAddr_misaligned, ownAddr_bank⟩
    · exact load_refused (k := .d) (wf_load .d rd r1 imm) hcan hfree hov htrap hg herr
    · exact store_refused (k := .d) (wf_store .d rd r1 imm) hcan hfree hov htrap hg herr
    · exact load_refused (k := .b) (wf_load .b rd r1 imm) hcan hfree hov htrap hg herr
    · exact store_refused (k := .b) (wf_store .b rd r1 imm) hcan hfree hov htrap hg herr
  · intro s t rd r1 imm hcan hfree hg hroom
    refine ⟨?_, ?_⟩
    · obtain ⟨v, hn, hrun⟩ := load_global (wf_load .d rd r1 imm) hcan hfree hg hroom
      obtain ⟨hwc, hbytes, hout, g, hglobs, haddr, hload, _⟩ := hn.issueGlobal (s.effAddr t r1 imm) (some (.d, (mkF rd.val).val)) []
      exact ⟨_, (exec_ldd _ _ _ _ s).trans hrun, hwc, hbytes, hout, g, hglobs, haddr, by rw [hload, mkF_xreg]⟩
    · obtain ⟨v, hn, hrun⟩ := store_global (wf_store .d rd r1 imm) hcan hfree hg hroom
      obtain ⟨hwc, hbytes, hout, g, hglobs, haddr, hload, hdata⟩ := hn.issueGlobal (s.effAddr t r1 imm) none (leBytes (v.x t (mkF rd.val)).toNat 8)
      exact ⟨_, (exec_std _ _ _ _ s).trans hrun, hwc, hbytes, hout, g, hglobs, haddr, hload, by rw [hdata, mkF_xreg, hn.x]⟩
  · intro s t k ecc g rd hg hbad hload h0 h16 _ hwon
    refine ⟨_, (exec_globalAccessComplete t k ecc s).trans ?_, finishGlobal_failed hload h0 h16 hwon 0 (code := 0x40) (by decide)⟩
    unfold execGlobalAccessComplete
    rw [hg]
    exact if_pos hbad
  · intro s t hcan
    refine ⟨fun f h => ?_, fun f _ hcheck h => ?_, fun f hcheck h => ?_⟩
    · exact (exec_mm t f s).trans (runM_undefined hcan (checkM_mm_unpaired h) (by rw [State.definedM, h]; rfl))
    · exact (exec_drain t f s).trans (runM_undefined hcan hcheck (by rw [State.definedM, h]; rfl))
    · refine (exec_convert t f s).trans (runD_undefined hcan hcheck ?_)
      change (_ && (FmtWord.ofWord (s.fld ⟨R.TA_DMD_W2 t f.desc, 63, 48⟩)).isSome) = false
      rw [h]
      exact Bool.and_false _

end Sys2Proof.Claim
end

section
/-!
PROOFS. What sends nothing and leaves the trap engines alone (O36).
-/
namespace Sys2Proof.Machine

/-! ### What sends nothing and leaves the trap engines alone -/

/-- The engines hold what they held, and nothing is sent. -/
structure Quiet (s u : State) : Prop where
  te : u.te = s.te
  out : u.out = s.out

theorem Quiet.refl (s : State) : Quiet s s := ⟨rfl, rfl⟩

theorem Quiet.trans {s u w : State} (h : Quiet s u) (g : Quiet u w) : Quiet s w := ⟨g.te.trans h.te, g.out.trans h.out⟩

theorem quiet_foldl {α : Type} {f : State → α → State} (hf : ∀ t x, Quiet t (f t x)) (l : List α) (s : State) : Quiet s (l.foldl f s) :=
  List.foldlRecOn l f (motive := fun u => Quiet s u) (.refl s) fun t ht x _ => ht.trans (hf t x)

/-- A fold that carries more than the state. -/
theorem quiet_foldl_snd {α β : Type} {f : β × State → α → β × State} (hf : ∀ y x, Quiet y.2 (f y x).2) (l : List α) (y : β × State) :
    Quiet y.2 (l.foldl f y).2 :=
  List.foldlRecOn l f (motive := fun z => Quiet y.2 z.2) (.refl _) fun z hz x _ => hz.trans (hf z x)

/-! #### Registers, memory, marks -/

theorem quiet_setReg (s : State) (a : Nat) (v : Word) : Quiet s (s.setReg a v) := ⟨rfl, rfl⟩
theorem quiet_setFld (s : State) (f : Fld) (v : Nat) : Quiet s (s.setFld f v) := quiet_setReg s f.addr _
theorem quiet_addFld (s : State) (f : Fld) (n : Nat) : Quiet s (s.addFld f n) := quiet_setFld s f _
theorem quiet_noteEvt (s : State) (f : Fld) (n : Nat) : Quiet s (s.noteEvt f n) := ⟨rfl, rfl⟩
theorem quiet_raiseFld (s : State) (f : Fld) : Quiet s (s.raiseFld f) := (quiet_noteEvt s f 1).trans (quiet_setFld _ f 1)
theorem quiet_countFld (s : State) (f : Fld) (n : Nat) : Quiet s (s.countFld f n) := (quiet_noteEvt s f n).trans (quiet_addFld _ f n)
theorem quiet_setByte (s : State) (a : Nat) (b : Byte) : Quiet s (s.setByte a b) := ⟨rfl, rfl⟩
theorem quiet_setPoison (s : State) (u : Nat) (p : Bool) : Quiet s (s.setPoison u p) := ⟨rfl, rfl⟩
theorem quiet_setLine (s : State) (g : Nat) (l : CLine) : Quiet s (s.setLine g l) := ⟨rfl, rfl⟩
theorem quiet_setFlaw (s : State) (u k : Nat) : Quiet s (s.setFlaw u k) := ⟨rfl, rfl⟩
theorem quiet_setLine_clock (s : State) (g : Nat) (l : CLine) (n : Nat) : Quiet s { s.setLine g l with cacheClock := n } := ⟨rfl, rfl⟩

theorem quiet_setBytes (l : List Byte) (s : State) (a : Nat) : Quiet s (s.setBytes a l) := by
  obtain ⟨m, h⟩ := setBytes_eq l s a
  rw [h]
  exact ⟨rfl, rfl⟩

/-! #### The promptbook -/

theorem quiet_pbHand (s : State) (l : List PbIn) : Quiet s (s.pbHand l) := by
  have hc := quiet_countFld s R.BT_PB_INFO_DROPPED l.length
  obtain ⟨pb, h | h⟩ := pbHand_cases s l
  · rw [h]
    exact ⟨rfl, rfl⟩
  · rw [h]
    generalize s.countFld R.BT_PB_INFO_DROPPED l.length = u at hc
    exact hc.trans ⟨rfl, rfl⟩

theorem quiet_memEntry (s : State) (mid code addr : Nat) : Quiet s (s.memEntry mid code addr) := by
  obtain h | ⟨seen, l, h⟩ := memEntry_cases s mid code addr
  · rw [h]
    exact .refl s
  · have hp := quiet_pbHand s l
    rw [h]
    generalize s.pbHand l = u at hp
    exact hp.trans ⟨rfl, rfl⟩

theorem quiet_pbEntry (s : State) (kind source code detail : Nat) : Quiet s (s.pbEntry kind source code detail) := quiet_pbHand s _

theorem quiet_memEvent (s : State) (mid code detail : Nat) : Quiet s (s.memEvent mid code detail) := by
  unfold State.memEvent
  split
  · exact .refl s
  · have hp := quiet_pbEntry s pbEvent mid code detail
    generalize s.pbEntry pbEvent mid code detail = u at hp
    exact hp.trans ⟨rfl, rfl⟩

/-! #### Status rings and the risk estimate -/

theorem quiet_setQp (s : State) (q : Qp) : Quiet s (s.setQp q) := ⟨rfl, rfl⟩

theorem quiet_queueRoce (s : State) (p qpn n : Nat) (m : RoceMsg) : Quiet s (s.queueRoce p qpn n m) := ⟨rfl, rfl⟩

theorem quiet_qpRequest (s : State) (q : Qp) (r : QpSent) (m : Nat → RoceMsg) (n : Nat) : Quiet s (s.qpRequest q r m n) :=
  (quiet_setQp s _).trans (quiet_queueRoce _ _ _ _ _)

theorem quiet_notifyEntry (s : State) (n : Nat) (b : List Byte) : Quiet s (s.notifyEntry n b) := by
  unfold State.notifyEntry
  split
  · exact .refl s
  · split
    · exact .refl s
    · exact quiet_qpRequest s _ _ _ _

theorem quiet_writeStatus (s : State) (n : Nat) (e : StEntry) : Quiet s (s.writeStatus n e) :=
  ((quiet_setBytes _ s _).trans (quiet_setBytes _ _ _)).trans (quiet_notifyEntry _ n _)

theorem quiet_putStatus (s : State) (n cmd : Nat) (e : StEntry) : Quiet s (s.putStatus n cmd e) := by
  unfold State.putStatus
  split
  · exact .refl s
  · split
    · exact ⟨rfl, rfl⟩
    · exact quiet_writeStatus s n e

theorem quiet_eventStatus (s : State) (code : Nat) (d : List Byte) : Quiet s (s.eventStatus code d) := by
  unfold State.eventStatus
  dsimp only
  split
  · exact (quiet_putStatus s 0 0 _).trans (quiet_putStatus _ _ 0 _)
  · exact quiet_putStatus s 0 0 _

theorem quiet_hostEvent (s : State) (mid code detail : Nat) : Quiet s (s.hostEvent mid code detail) := by
  unfold State.hostEvent
  split
  · exact quiet_pbHand s _
  · exact (quiet_pbEntry s _ _ _ _).trans (quiet_eventStatus _ _ _)

theorem quiet_sendC3 (s : State) (l : List Nat) (m : MgmtMsg) : Quiet s (s.sendC3 l m) := ⟨rfl, rfl⟩

theorem quiet_reportRisk (s : State) : Quiet s s.reportRisk := by
  unfold State.reportRisk
  extract_lets e go u
  have hu : Quiet s u := ⟨rfl, rfl⟩
  by_cases hgo : (!go) = true
  · rw [if_pos hgo]
    exact .refl s
  · rw [if_neg hgo]
    split
    · exact hu
    · exact hu.trans (quiet_sendC3 u _ _)

theorem quiet_jobRisk (s : State) : Quiet s s.jobRisk := by
  unfold State.jobRisk
  split
  · exact (quiet_setFld s _ _).trans (quiet_setFld _ _ _)
  · exact .refl s

theorem quiet_reRisk (s : State) : Quiet s s.reRisk := by
  unfold State.reRisk
  dsimp only
  have hset := ((quiet_setFld s R.RS_RISK_FLOOR s.riskFloor).trans (quiet_setFld _ R.RS_RISK_ESTIMATE (max (s.fld R.RS_RISK_INTERNAL) s.riskFloor))).trans
    (quiet_setFld _ R.RS_RISK_BAND (riskBand (max (s.fld R.RS_RISK_INTERNAL) s.riskFloor)))
  generalize ((s.setFld R.RS_RISK_FLOOR s.riskFloor).setFld R.RS_RISK_ESTIMATE _).setFld R.RS_RISK_BAND _ = u at hset
  refine Quiet.trans ?_ ((quiet_reportRisk _).trans (quiet_jobRisk _))
  split
  · exact hset
  · exact hset.trans (quiet_hostEvent u _ _ _)

theorem quiet_health (s : State) (n : Nat) : Quiet s (s.health n) := (quiet_setFld s _ _).trans (quiet_reRisk _)

/-! #### The cache and the stacks -/

theorem quiet_storeLine (s : State) (g : Nat) (l : CLine) : Quiet s (s.storeLine g l) :=
  (quiet_setBytes _ s _).trans (quiet_foldl (fun _ _ => quiet_setPoison _ _ _) _ _)

theorem quiet_writeBack (s : State) (g : Nat) : Quiet s (s.writeBack g) := by
  unfold State.writeBack
  dsimp only
  split
  · exact ((quiet_storeLine s g _).trans (quiet_setLine _ _ _)).trans (quiet_addFld _ _ _)
  · exact .refl s

theorem quiet_flushLine (s : State) (g : Nat) : Quiet s (s.flushLine g) := (quiet_writeBack s g).trans (quiet_setLine _ _ _)

theorem quiet_flushRange (s : State) (a n : Nat) : Quiet s (s.flushRange a n) := quiet_foldl (fun _ _ => quiet_flushLine _ _) _ _

theorem quiet_allocLine (s : State) (g : Nat) (keep : Bool) : Quiet s (s.allocLine g keep) := by
  unfold State.allocLine
  extract_lets cs same u psn
  have hu : Quiet s u := by
    by_cases h : same.length < 16
    · exact (if_pos h : u = s) ▸ .refl s
    · have hv : u = (match victimOf same with | some v => s.flushLine v | none => s) := if_neg h
      rw [hv]
      split
      · exact quiet_flushLine s _
      · exact .refl s
  exact hu.trans ⟨rfl, rfl⟩

theorem quiet_setTrapPoison (s : State) (u : Nat) (p : Bool) : Quiet s (s.setTrapPoison u p) := by
  unfold State.setTrapPoison
  dsimp only
  split
  · exact quiet_setLine s _ _
  · exact quiet_setPoison s u p

theorem quiet_cacheOnWrite (s : State) (a hint : Nat) (narrow : Bool) : Quiet s (s.cacheOnWrite a hint narrow) := by
  unfold State.cacheOnWrite
  dsimp only
  have hadd : ∀ f, Quiet s (s.addFld f 1) := fun f => quiet_addFld s f 1
  split
  · split
    · exact hadd _
    · split
      · exact (hadd _).trans (quiet_setLine_clock _ _ _ _)
      · split
        · exact (hadd _).trans (quiet_setLine _ _ _)
        · exact hadd _
  · split
    · split
      · exact hadd _
      · exact (hadd _).trans (quiet_allocLine _ _ _)
    · exact .refl s

theorem quiet_trapWritePiece (s : State) (a : Nat) (d : List Byte) : Quiet s (s.trapWritePiece a d) := by
  unfold State.trapWritePiece
  dsimp only
  split
  · exact quiet_setLine s _ _
  · exact quiet_setBytes d s a

theorem quiet_writeUnits (s : State) (r : Region) (a : Nat) (d : List Byte) {wr : State → Nat → List Byte → State}
    (hw : ∀ t lo p, Quiet t (wr t lo p)) : Quiet s (s.writeUnits r a d wr).1 := by
  rw [writeUnits_eq]
  refine List.foldlRecOn _ _ (motive := fun z : State × Bool => Quiet s z.1) (.refl s) fun z hz u _ => hz.trans ?_
  unfold writeUnit
  dsimp only
  split
  · exact .refl _
  · split
    · split
      · exact (hw _ _ _).trans (quiet_setTrapPoison _ _ _)
      · exact hw _ _ _
    · split
      · exact (hw _ _ _).trans (quiet_setPoison _ _ _)
      · exact hw _ _ _

/-! #### Errors that an access meets -/

theorem quiet_watchError (s : State) (mid st loc a : Nat) : Quiet s (s.watchError mid st loc a) := by
  unfold State.watchError
  extract_lets u r w th
  have hw : Quiet s w := (quiet_countFld s (R.TP_ECC_CORRECTED st) 1).trans (⟨rfl, rfl⟩ : Quiet u w)
  by_cases h : th ≠ 0 ∧ r.2 = th
  · rw [if_pos h]
    exact (hw.trans (quiet_memEvent w _ _ _)).trans (quiet_health _ _)
  · rw [if_neg h]
    exact hw

theorem quiet_correctedInTile (s : State) (mid t d : Nat) :
    Quiet s (if s.corrSeen.contains t then s else { (s.pbEntry pbCorrected mid 0 d) with corrSeen := t :: s.corrSeen }) := by
  split
  · exact .refl s
  · have hp := quiet_pbEntry s pbCorrected mid 0 d
    generalize s.pbEntry pbCorrected mid 0 d = u at hp
    exact hp.trans ⟨rfl, rfl⟩

theorem quiet_eccCorrected (s : State) (mid : Nat) (r : Region) (a : Nat) : Quiet s (s.eccCorrected mid r a) := by
  cases r with
  | trap st loc =>
    unfold State.eccCorrected
    dsimp only
    split
    · exact quiet_countFld s _ 1
    · exact quiet_watchError s _ _ _ _
  | wings d o => exact quiet_countFld s (R.WG_ECC_CORRECTED d) 1
  | tbank t b => exact quiet_pbEntry s pbCorrected (tileMid t) 0 (s.mySeat * 2 ^ 44 + a)
  | tdata t => exact quiet_correctedInTile s mid t (s.mySeat * 2 ^ 44 + a)
  | tacc t => exact quiet_correctedInTile s mid t (s.mySeat * 2 ^ 44 + a)
  | tshadow t => exact quiet_correctedInTile s mid t (s.mySeat * 2 ^ 44 + a)
  | tpmem t => exact quiet_correctedInTile s mid t (s.mySeat * 2 ^ 44 + a)
  | tregs t => exact .refl s
  | breg b => exact .refl s
  | ring => exact .refl s
  | unmapped => exact .refl s

theorem quiet_errLog (s : State) (st cause u mid : Nat) : Quiet s (s.errLog st cause u mid) := by
  unfold State.errLog
  split
  · exact .refl s
  · exact ((((quiet_raiseFld s _).trans (quiet_setFld _ _ _)).trans (quiet_setFld _ _ _)).trans (quiet_setFld _ _ _)).trans (quiet_setFld _ _ _)

theorem quiet_eccUncorrectable (s : State) (mid : Nat) (r : Region) (a : Nat) : Quiet s (s.eccUncorrectable mid r a) := by
  cases r with
  | trap st loc =>
    unfold State.eccUncorrectable
    dsimp only
    split
    · exact (quiet_setTrapPoison s _ _).trans (quiet_countFld _ _ _)
    · exact ((quiet_setPoison s _ _).trans (quiet_countFld _ _ _)).trans (quiet_errLog _ _ _ _ _)
  | wings d o => exact (quiet_setPoison s (unitBase (.wings d o) a) true).trans (quiet_countFld _ (R.WG_ECC_UNCORR d) 1)
  | tdata t => exact quiet_setPoison s (unitBase (.tdata t) a) true
  | tacc t => exact quiet_setPoison s (unitBase (.tacc t) a) true
  | tshadow t => exact quiet_setPoison s (unitBase (.tshadow t) a) true
  | tpmem t => exact quiet_setPoison s (unitBase (.tpmem t) a) true
  | tbank t b => exact .refl s
  | tregs t => exact .refl s
  | breg b => exact .refl s
  | ring => exact .refl s
  | unmapped => exact .refl s

theorem quiet_meetFlaw (s : State) (mid u : Nat) : Quiet s (s.meetFlaw mid u).2 := by
  unfold State.meetFlaw
  dsimp only
  split
  · exact .refl s
  · split
    · exact (quiet_eccCorrected s _ _ _).trans (quiet_setFlaw _ _ _)
    · refine (quiet_eccUncorrectable s mid (regionOf s.cacheN u) u).trans (Quiet.trans ?_ (quiet_setFlaw _ _ _))
      split
      · exact quiet_memEntry _ _ _ _
      · exact .refl _

theorem quiet_meetFlaws (s : State) (mid a n : Nat) : Quiet s (s.meetFlaws mid a n).2 := by
  unfold State.meetFlaws
  split
  · exact .refl s
  · exact quiet_foldl_snd (f := fun (acc : Bool × State) u => (acc.1 || (acc.2.meetFlaw mid u).1, (acc.2.meetFlaw mid u).2))
      (fun acc u => quiet_meetFlaw acc.2 mid u) _ (false, s)

theorem quiet_mergeReads (s : State) (mid : Nat) (us : List Nat) : Quiet s (s.mergeReads mid us).2 :=
  quiet_foldl_snd (f := fun (acc : Bool × State) u => (acc.1 || (acc.2.meetFlaws mid u 32).1, (acc.2.meetFlaws mid u 32).2))
    (fun acc u => quiet_meetFlaws acc.2 mid u 32) us (false, s)

theorem quiet_cleanFlaws (s : State) (a n : Nat) : Quiet s (s.cleanFlaws a n) := by
  unfold State.cleanFlaws
  split
  · exact .refl s
  · exact quiet_foldl (fun _ _ => quiet_setFlaw _ _ _) _ _

theorem quiet_plantFlaw (s : State) (x : Option Nat) (k : Nat) : Quiet s (s.plantFlaw x k) := by
  unfold State.plantFlaw
  split
  · exact .refl s
  · split
    · exact .refl s
    · exact .refl s
    · exact .refl s
    · exact .refl s
    · exact quiet_setFlaw s _ _

theorem quiet_plant (s : State) (e : EccFinding) : Quiet s (s.plant e) := (quiet_plantFlaw s _ 1).trans (quiet_plantFlaw _ _ 2)

end Sys2Proof.Machine
end

section
/-!
PROOFS. What the accesses of a trap engine leave alone (O36).
-/
namespace Sys2Proof.Machine

/-! ### What a trap engine's writes leave alone -/

theorem quiet_homeGrant (s : State) (r : Region) (i : HomeIn) : Quiet s (s.homeGrant r i) := by
  obtain ⟨arb, h⟩ := homeGrant_eq s r i
  rw [h]
  exact ⟨rfl, rfl⟩

theorem quiet_performWrite_trap (s : State) (q : MemReq) (st loc : Nat) (d : List Byte) : Quiet s (s.performWrite q (.trap st loc) d).2 := by
  unfold State.performWrite
  dsimp -zeta only
  extract_lets u partials old f v w x y
  have hv : Quiet u v := (quiet_mergeReads u q.mid partials).trans (quiet_cleanFlaws f.2 q.addr d.length)
  have hw : Quiet v w := by
    by_cases h : old = true
    · rw [show w = _ from if_pos h]
      exact quiet_countFld v _ 1
    · rw [show w = v from if_neg h]
      exact .refl v
  have hx : Quiet w x := quiet_foldl (fun _ _ => quiet_cacheOnWrite _ _ _ _) _ _
  exact (quiet_plant s q.ecc).trans (((hv.trans hw).trans hx).trans (quiet_writeUnits x _ _ _ fun _ _ _ => quiet_trapWritePiece _ _ _))

theorem quiet_performWrite_wings (s : State) (q : MemReq) (die off : Nat) (d : List Byte) : Quiet s (s.performWrite q (.wings die off) d).2 :=
  ((quiet_plant s q.ecc).trans (quiet_cleanFlaws _ _ _)).trans (quiet_writeUnits _ _ _ _ fun _ _ _ => quiet_setBytes _ _ _)

/-- The memories that trap engines reach (Table 1.8). -/
theorem engine_reaches {n a : Nat} {r : Region} (h : allowed (.engine n) true false r a = true) :
    (∃ st loc, r = .trap st loc) ∨ ∃ die off, r = .wings die off := by
  cases r with
  | trap st loc => exact .inl ⟨st, loc, rfl⟩
  | wings die off => exact .inr ⟨die, off, rfl⟩
  | _ => exact absurd h (by simp [allowed])

theorem quiet_perform_trap {s : State} {q : MemReq} {d : List Byte} (hw : q.write = some d) (st loc : Nat) :
    Quiet s (s.perform q (.trap st loc)).2 := by
  unfold State.perform
  dsimp only
  rw [hw]
  dsimp only
  split
  · exact quiet_performWrite_trap s q st loc d
  · exact (quiet_homeGrant s _ _).trans (quiet_performWrite_trap _ q st loc d)

theorem quiet_perform_wings {s : State} {q : MemReq} {d : List Byte} (hw : q.write = some d) (die off : Nat) :
    Quiet s (s.perform q (.wings die off)).2 := by
  unfold State.perform
  dsimp only
  rw [hw]
  dsimp only
  split
  · exact quiet_performWrite_wings s q die off d
  · exact (quiet_homeGrant s _ _).trans (quiet_performWrite_wings _ q die off d)

theorem quiet_atHome_trap {s : State} {q : MemReq} {d : List Byte} (hw : q.write = some d) (st loc : Nat) :
    Quiet s (s.atHome q (.trap st loc)).2 := by
  unfold State.atHome
  dsimp only
  split
  · exact (quiet_errLog s _ _ _ _).trans (quiet_memEntry _ _ _ _)
  · exact quiet_perform_trap hw st loc

theorem quiet_atHome_wings {s : State} {q : MemReq} {d : List Byte} (hw : q.write = some d) (die off : Nat) :
    Quiet s (s.atHome q (.wings die off)).2 := by
  unfold State.atHome
  dsimp only
  split
  · exact quiet_memEntry s _ _ _
  · exact quiet_perform_wings hw die off

theorem engine_ne_tile (n t : Nat) : Master.engine n ≠ masterOf (tileMid t) := by
  have h : masterOf (tileMid t) = .tile t ∨ masterOf (tileMid t) = .nobody := by
    unfold masterOf tileMid
    simp only [Nat.add_sub_cancel_left]
    iterate 7 rw [if_neg (by omega)]
    split
    · exact .inl rfl
    · exact .inr rfl
  obtain h | h := h
  · rw [h]
    exact Master.noConfusion
  · rw [h]
    exact Master.noConfusion

theorem quiet_memAccess_engine {s : State} {q : MemReq} {n : Nat} {d : List Byte} (hm : masterOf q.mid = .engine n) (hw : q.write = some d) :
    Quiet s (s.memAccess q).2 := by
  have hrefuse : ∀ c, Quiet s (s.memEntry q.mid c q.addr) := fun c => quiet_memEntry s _ _ _
  unfold State.memAccess
  rw [hm, hw]
  dsimp only
  split
  · exact hrefuse _
  · exact hrefuse _
  · split
    · rename_i t _ ht
      exact absurd (hm.symm.trans (ht ▸ rfl)) (engine_ne_tile n t)
    · exact hrefuse _
  · split
    · exact hrefuse _
    · split
      · exact hrefuse _
      · rename_i hall
        have hall : allowed (.engine n) true false (regionOf s.cacheN q.addr) q.addr = true := by simpa using hall
        have hnone : (if (Master.engine n).named = true then s.nameHit q.addr q.len (some d).isSome else NameHit.none) = .none := rfl
        rw [hnone]
        obtain ⟨st, loc, hr⟩ | ⟨die, off, hr⟩ := engine_reaches hall
        · rw [hr]
          exact quiet_atHome_trap hw st loc
        · rw [hr]
          exact quiet_atHome_wings hw die off

end Sys2Proof.Machine
end

section
/-!
PROOFS. What waits in a stack while its engines write zeros (O36).
-/
namespace Sys2Proof.Machine

/-! ### The engines' zeros: what waits in the stack (R265, R271) -/

theorem quiet_access_engine {s : State} {q : MemReq} {n : Nat} {d : List Byte} (hm : masterOf q.mid = .engine n) (hw : q.write = some d) :
    Quiet s (s.access q).2 := by
  have hacc := quiet_memAccess_engine (s := s) hm hw
  unfold State.access
  dsimp only
  split
  · exact hacc.trans (quiet_memEntry _ _ _ _)
  · exact hacc

theorem quiet_poisonAt (s : State) (a : Nat) : Quiet s (s.poisonAt a) := by
  unfold State.poisonAt
  dsimp only
  split
  · exact quiet_setTrapPoison s _ _
  · exact .refl s
  · exact .refl s
  · exact .refl s
  · exact .refl s
  · exact .refl s
  · exact quiet_setPoison s _ _

theorem quiet_moverWrite_engine {s : State} {mid n : Nat} (hm : masterOf mid = .engine n) (a hint : Nat) (narrow : Bool) (ecc : EccFinding)
    (ord : Option Nat) (l : List (Byte × Bool)) : Quiet s (s.moverWrite mid a hint narrow ecc ord l).2 := by
  refine (quiet_plant s ecc).trans (quiet_foldl_snd (fun acc p => ?_) (granulesOver a l.length) (([], 0), s.plant ecc))
  refine (quiet_access_engine (s := acc.2)
    (q := ⟨mid, p.1, p.2, some (((l.drop (p.1 - a)).take p.2).map Prod.fst), hint, narrow, noEcc, ord⟩) hm rfl).trans ?_
  dsimp only
  split
  · exact .refl _
  · exact quiet_foldl (fun _ _ => quiet_poisonAt _ _) _ _

/-- What is held for the buffers of a stack stays, and nothing is sent. -/
structure Waiting (k : Nat) (s u : State) : Prop where
  heldRw : (u.teStack k).heldRw = (s.teStack k).heldRw
  out : u.out = s.out

theorem Waiting.trans {k : Nat} {s u w : State} (h : Waiting k s u) (g : Waiting k u w) : Waiting k s w :=
  ⟨g.heldRw.trans h.heldRw, g.out.trans h.out⟩

theorem Quiet.waiting {s u : State} (h : Quiet s u) (k : Nat) : Waiting k s u := by
  have hx : u.teStack k = s.teStack k := by rw [State.teStack, h.te, State.teStack]
  exact ⟨by rw [hx], h.out⟩

theorem teStack_setTe_same (s : State) (k : Nat) (x : TeStack) : (s.setTe k x).teStack k = x := smapGet_set_same TeStack.init s.te k x

theorem takeEngine_snd (s : State) (k : Nat) : (s.takeEngine k).2 = s.setTe k { s.teStack k with engPtr := ((s.takeEngine k).1 + 1) % 16 } := (rfl)

theorem waiting_takeEngine (s : State) (k : Nat) : Waiting k s (s.takeEngine k).2 := by
  rw [takeEngine_snd]
  exact ⟨by rw [teStack_setTe_same], rfl⟩

theorem roundRobin_lt {n p i : Nat} {f : Nat → Bool} (hn : 0 < n) (h : roundRobin n p f = some i) : i < n := by
  obtain ⟨j, _, rfl⟩ := List.mem_map.mp (List.mem_of_find?_eq_some h)
  exact Nat.mod_lt _ hn

theorem takeEngine_lt (s : State) (k : Nat) : (s.takeEngine k).1 < 16 := by
  show ((s.teStack k).freeEngine.getD ((s.teStack k).engPtr % 16)) < 16
  cases h : (s.teStack k).freeEngine with
  | none => exact Nat.mod_lt _ (by decide)
  | some e => exact roundRobin_lt (by decide) h

theorem masterOf_engine {k e : Nat} (hk : k < 8) (he : e < 16) : masterOf (0x100 + 16 * k + e) = .engine (0x100 + 16 * k + e - 0x100) := by
  unfold masterOf
  iterate 6 rw [if_neg (by omega)]
  rw [if_pos (by omega)]

theorem waiting_engineZero (s : State) {k : Nat} (hk : k < 8) (a n : Nat) : Waiting k s (s.engineZero k a n) := by
  unfold State.engineZero
  dsimp only
  have hflush := (quiet_flushRange s a n).waiting k
  generalize s.flushRange a n = v at hflush
  have hstart : Waiting k s { v with passRanges := (a, a + n) :: s.passRanges } := hflush.trans ⟨rfl, rfl⟩
  generalize ({ v with passRanges := (a, a + n) :: s.passRanges } : State) = w at hstart
  refine Waiting.trans (u := List.foldl _ w _) ?_ ⟨rfl, rfl⟩
  refine List.foldlRecOn _ _ (motive := fun u => Waiting k s u) hstart fun u hu j _ => ?_
  exact (hu.trans (waiting_takeEngine u k)).trans ((quiet_moverWrite_engine (masterOf_engine hk (takeEngine_lt u k)) _ _ _ _ _ _).waiting k)

end Sys2Proof.Machine
end

section
/-!
PROOFS. A write of zeros by an engine into what it owns (O36).
-/
namespace Sys2Proof.Machine

/-! ### The engines' zeros: what they write (R235, R271) -/

/-- A range of one stack's pinned memory that its engines own, in a part with no line cached and no error standing. -/
structure Owned (s : State) (k a n : Nat) : Prop where
  pinned : ∀ j, j < n → pinnedStack (a + j) = some k
  online : s.bit (R.TP_STATUS_ONLINE k) = true
  empty : s.cache = []
  sound : s.flaws = []
  passed : (a, a + n) ∈ s.passRanges

theorem Owned.congr {s : State} {k a n : Nat} (h : Owned s k a n) (m : List (Nat × Byte)) (p : List (Nat × Bool)) (te : List (Nat × TeStack)) :
    Owned { s with mem := m, poison := p, te := te } k a n := ⟨h.pinned, h.online, h.empty, h.sound, h.passed⟩

theorem regionOf_pinned {n a k : Nat} (h : pinnedStack a = some k) : ∃ loc, regionOf n a = .trap k loc := by
  unfold pinnedStack at h
  split at h
  · rename_i ha
    obtain ⟨hlo, hhi⟩ := ha
    have hk := Option.some.inj h
    refine ⟨0x1000000000 + bitsOf a 35 0, ?_⟩
    rw [regionOf, if_pos hhi, trapHome, if_neg (by omega), hk]
  · exact absurd h nofun

theorem cacheable_passed {s : State} {a n c : Nat} (h : (a, a + n) ∈ s.passRanges) (hlo : a ≤ c) (hhi : c < a + n) : s.cacheable c = false := by
  have hpass : s.passes c = true := by
    rw [State.passes, List.any_eq_true]
    refine ⟨_, h, ?_⟩
    simp only [Bool.and_eq_true, decide_eq_true_eq]
    omega
  rw [State.cacheable, hpass, Bool.not_true, Bool.and_false]

theorem cacheOnWrite_passed {s : State} {c : Nat} (he : s.cache = []) (h : s.cacheable c = false) (hint : Nat) (narrow : Bool) :
    s.cacheOnWrite c hint narrow = s := by
  unfold State.cacheOnWrite
  dsimp only
  rw [line_of_empty he, h]
  rfl

theorem mergeReads_none {s : State} (h : s.flaws = []) (mid : Nat) (us : List Nat) : s.mergeReads mid us = (false, s) := by
  refine List.foldlRecOn us _ (motive := fun z : Bool × State => z = (false, s)) rfl fun z hz u _ => ?_
  subst hz
  dsimp only
  rw [meetFlaws_none h]
  rfl

theorem trapPoisoned_clean {s : State} (he : s.cache = []) (hp : ∀ u, s.poisoned u = false) (u : Nat) : s.trapPoisoned u = false := by
  rw [State.trapPoisoned, line_of_empty he]
  exact hp u

theorem trapWritePiece_uncached {s : State} (he : s.cache = []) (a : Nat) (d : List Byte) : s.trapWritePiece a d = s.setBytes a d := by
  rw [State.trapWritePiece, line_of_empty he]
  rfl

/-- A write of an engine to a piece of one granule of what it owns, where no unit is poisoned. -/
theorem Owned.performWrite {s : State} {k a n : Nat} (h : Owned s k a n) (hp : ∀ u, s.poisoned u = false) {q : MemReq} {d : List Byte}
    (he : q.ecc = noEcc) (hpos : 0 < q.len) (hg : q.addr % 128 + q.len ≤ 128) (hlo : a ≤ q.addr) (hhi : q.addr < a + n)
    (loc : Nat) : ∃ t, s.performWrite q (.trap k loc) d = (⟨0, [], [], 0⟩, t) ∧ Written s q.addr d t := by
  obtain ⟨hw, hb⟩ := writeUnits_clean (r := .trap k loc) (a := q.addr) (data := d) (wr := fun t lo piece => t.trapWritePiece lo piece) hp
    (fun _ => h.empty) (fun v lo piece hv => trapWritePiece_uncached (hv.trans h.empty) lo piece)
  have hnone : ∀ us : List Nat, us.any (fun u => s.trapPoisoned u) = false := fun us => by
    rw [List.any_eq_false]
    intro u _
    rw [trapPoisoned_clean h.empty hp]
    decide
  have hleft : ∀ us : List Nat, us.filter (fun u => s.trapPoisoned u) = [] := fun us => by
    rw [List.filter_eq_nil_iff]
    intro u _
    rw [trapPoisoned_clean h.empty hp]
    decide
  refine ⟨_, ?_, hw⟩
  unfold State.performWrite
  rw [he, show s.plant noEcc = s from rfl]
  dsimp only
  rw [mergeReads_none h.sound]
  dsimp only
  rw [cleanFlaws_none h.sound, hnone, granulesOver_single hpos hg]
  simp only [Bool.false_eq_true, if_false, List.foldl_cons, List.foldl_nil]
  rw [cacheOnWrite_passed h.empty (cacheable_passed h.passed hlo hhi), hb, hleft]
  rfl

theorem Owned.access {s : State} {k a n : Nat} (h : Owned s k a n) (hp : ∀ u, s.poisoned u = false) {q : MemReq} {d : List Byte} {e : Nat}
    (hm : masterOf q.mid = .engine e) (hw : q.write = some d)
    (he : q.ecc = noEcc) (hpos : 0 < q.len) (hg : q.addr % 128 + q.len ≤ 128) (hlo : a ≤ q.addr) (hhi : q.addr < a + n) :
    ∃ t, s.access q = (⟨0, [], [], 0⟩, t) ∧ Written s q.addr d t := by
  obtain ⟨loc, hr⟩ := regionOf_pinned (n := s.cacheN) (show pinnedStack q.addr = some k from by
    rw [← h.pinned (q.addr - a) (by omega)]; congr 1; omega)
  obtain ⟨t, ht, hwr⟩ := h.performWrite hp he hpos hg hlo hhi loc
  refine ⟨t, access_of_cause_zero ?_ rfl, hwr⟩
  unfold State.memAccess
  rw [hr, hm, hw]
  dsimp only
  rw [if_neg (by simp), if_neg (by simp [allowed]),
    show (if (Master.engine e).named = true then s.nameHit q.addr q.len (some d).isSome else NameHit.none) = .none from rfl]
  dsimp only
  unfold State.atHome
  dsimp only
  rw [if_neg (by simp [h.online]), State.perform, hm, hw]
  exact ht

theorem granulesOver_eq {a n : Nat} (h : n ≠ 0) :
    granulesOver a n = (blockBases 128 a n).map (fun g => (max a g, min (a + n) (g + 128) - max a g)) := by
  rw [granulesOver, if_neg h, blockBases, List.map_map]
  refine List.map_congr_left fun i _ => ?_
  simp only [Function.comp_apply, Nat.add_mul, Nat.one_mul]

theorem foldl_poisonAt_zeros (s : State) (a c : Nat) :
    (((List.replicate c ((0 : Byte), false)).zipIdx.filter (fun q => q.1.2)).foldl (fun u q => u.poisonAt (a + q.2)) s) = s := by
  have hnil : (List.replicate c ((0 : Byte), false)).zipIdx.filter (fun q => q.1.2) = [] := by
    rw [List.filter_eq_nil_iff]
    intro q hq
    rw [List.eq_of_mem_replicate (List.fst_mem_of_mem_zipIdx hq)]
    decide
  rw [hnil, List.foldl_nil]

/-- Zeros that carry no poison, written by an engine into what it owns. -/
theorem Owned.moverWrite {s : State} {k a n : Nat} (h : Owned s k a n) (hp : ∀ u, s.poisoned u = false) {mid e : Nat}
    (hm : masterOf mid = .engine e) {b m : Nat} (hlo : a ≤ b) (hhi : b + m ≤ a + n) (hint : Nat) (narrow : Bool) :
    Written s b (List.replicate m 0) (s.moverWrite mid b hint narrow noEcc none (List.replicate m (0, false))).2 := by
  unfold State.moverWrite State.moverWriteN
  rw [List.length_replicate, show s.plant noEcc = s from rfl]
  by_cases h0 : m = 0
  · subst h0
    exact .nil b hp
  rw [granulesOver_eq h0, List.foldl_map]
  refine foldl_blockBases (P := fun c (y : (List (Nat × Nat) × Nat) × State) => Written s b (List.replicate c 0) y.2) (by decide)
    (Nat.pos_of_ne_zero h0) (.nil b hp) fun g y hdvd hg hbg hy => ?_
  obtain ⟨mem, p, ht⟩ := hy.eq
  have howned : Owned y.2 k a n := by
    rw [ht]
    exact h.congr mem p s.te
  have hpiece : ((List.replicate m ((0 : Byte), false)).drop (max b g - b)).take (min (b + m) (g + 128) - max b g)
      = List.replicate (min (b + m) (g + 128) - max b g) (0, false) := by
    rw [List.drop_replicate, List.take_replicate, Nat.min_eq_left (by omega)]
  obtain ⟨t, hacc, hwr⟩ := howned.access hy.clean (q := ⟨mid, max b g, min (b + m) (g + 128) - max b g,
    some (List.replicate (min (b + m) (g + 128) - max b g) 0), hint, narrow, noEcc, none⟩) hm rfl rfl (by dsimp only; omega)
    (by dsimp only; omega) (by dsimp only; omega) (by dsimp only; omega)
  dsimp only
  rw [hpiece, List.map_replicate, hacc]
  dsimp only
  rw [if_neg (by simp), foldl_poisonAt_zeros]
  have hnext := hy.trans hwr (by rw [List.length_replicate]; dsimp only; omega)
  rw [List.replicate_append_replicate] at hnext
  convert hnext using 2
  omega

end Sys2Proof.Machine
end

section
/-!
PROOFS. The end of a zeroing (O36).
-/
namespace Sys2Proof.Machine

/-! ### The end of a zeroing (R271) -/

/-- What the engines hold matters to no byte. -/
theorem Written.withTe {s t : State} {te : List (Nat × TeStack)} {a : Nat} {l : List Byte} (h : Written { s with te := te } a l t)
    (te' : List (Nat × TeStack)) : Written { s with te := te' } a l { t with te := te' } := by
  obtain ⟨m, p, ht⟩ := h.eq
  exact ⟨⟨m, p, by rw [ht]⟩, h.inside, h.outside, h.clean⟩

/-- One work unit of zeros, at `u` of a range. -/
def zeroUnit (k a n : Nat) (t : State) (u : Nat) : State :=
  let e := t.takeEngine k
  (e.2.moverWrite (0x100 + 16 * k + e.1) (a + u) 1 false noEcc none (List.replicate (min 4096 (n - u)) (0, false))).2

theorem engineZero_eq (s : State) (k a n : Nat) (hn : n ≠ 0) : s.engineZero k a n =
    { (blockBases 4096 0 n).foldl (zeroUnit k a n) { s.flushRange a n with passRanges := (a, a + n) :: s.passRanges } with passRanges := s.passRanges } := by
  have hbases : blockBases 4096 0 n = (List.range ((n + 4095) / 4096)).map (fun j => 4096 * j) := by
    rw [blockBases, show (0 + n - 1) / 4096 - 0 / 4096 + 1 = (n + 4095) / 4096 by omega]
    exact List.map_congr_left fun i _ => by omega
  rw [hbases, List.foldl_map]
  rfl

theorem flushRange_uncached {s : State} (h : s.cache = []) (a n : Nat) : s.flushRange a n = s := by rw [State.flushRange, h]; rfl

theorem zeroUnit_written {w t : State} {k a n u : Nat} {te : List (Nat × TeStack)} (hk : k < 8) (h : Owned w k a n) (hu : u < n)
    (ht : Written { w with te := te } a (List.replicate u 0) t) :
    ∃ te', Written { w with te := te' } a (List.replicate (min n (u + 4096)) 0) (zeroUnit k a n t u) := by
  obtain ⟨te', hte⟩ : ∃ te', (t.takeEngine k).2 = { t with te := te' } := ⟨_, rfl⟩
  have htaken := ht.withTe te'
  rw [← hte] at htaken
  have howned : Owned (t.takeEngine k).2 k a n := by
    obtain ⟨m, p, hm⟩ := htaken.eq
    rw [hm]
    exact h.congr m p te'
  have hwr := howned.moverWrite htaken.clean (masterOf_engine hk (takeEngine_lt t k)) (b := a + u) (m := min 4096 (n - u)) (by omega) (by omega) 1 false
  have hnext := htaken.trans hwr (by rw [List.length_replicate])
  rw [List.replicate_append_replicate, show u + min 4096 (n - u) = min n (u + 4096) by omega] at hnext
  exact ⟨te', hnext⟩

/-- Zeros over pinned memory of a stack that is online, where no unit is poisoned, none bears an error and no line is cached. -/
theorem engineZero_written {s : State} {k a n : Nat} (hk : k < 8) (hpin : ∀ j, j < n → pinnedStack (a + j) = some k)
    (hon : s.bit (R.TP_STATUS_ONLINE k) = true) (hc : s.cache = []) (hp : ∀ u, s.poisoned u = false) (hf : s.flaws = []) :
    (∀ j, j < n → (s.engineZero k a n).byte (a + j) = 0) ∧ ∀ c, c < a ∨ a + n ≤ c → (s.engineZero k a n).byte c = s.byte c := by
  by_cases h0 : n = 0
  · subst h0
    refine ⟨fun j hj => absurd hj (Nat.not_lt_zero j), fun c _ => ?_⟩
    rw [State.engineZero, flushRange_uncached hc]
    rfl
  have howned : Owned { s with passRanges := (a, a + n) :: s.passRanges } k a n := ⟨hpin, hon, hc, hf, List.mem_cons_self⟩
  rw [engineZero_eq s k a n h0, flushRange_uncached hc]
  generalize hw : ({ s with passRanges := (a, a + n) :: s.passRanges } : State) = w at howned
  have hbyte : ∀ c, w.byte c = s.byte c := fun c => by rw [← hw]; rfl
  have hclean : ∀ u, w.poisoned u = false := fun u => by rw [← hw]; exact hp u
  obtain ⟨te, hall⟩ := foldl_blockBases (P := fun c t => ∃ te, Written { w with te := te } a (List.replicate c 0) t) (a := 0) (B := 4096) (by decide)
    (Nat.pos_of_ne_zero h0) (f := zeroUnit k a n) (x := w) ⟨w.te, .nil a hclean⟩ fun u t _ hu _ ⟨te, ht⟩ =>
      zeroUnit_written hk howned (by omega) ht
  refine ⟨fun j hj => ?_, fun c hcout => ?_⟩
  · exact (hall.inside j (by rw [List.length_replicate]; exact hj)).trans (List.getElem_replicate _)
  · exact (hall.outside c (by rw [List.length_replicate]; exact hcout)).trans (hbyte c)

/-- The zeroing of a buffer for which nothing is held ends. -/
theorem execHeldReduceWrite_zeroing {s : State} {k : Fin 8} {idx : Fin 1024} (hz : idx.val ∈ (s.teStack k).zeroing)
    (hheld : ∀ h ∈ (s.teStack k).heldRw, h.entry ≠ idx.val) :
    ∃ te, exec (.heldReduceWrite k idx) s = .next { s.engineZero k (s.gradRange k idx).1 (s.gradRange k idx).2 with te := te }
      ∧ idx.val ∉ (smapGet TeStack.init te k.val).zeroing := by
  have hwait := waiting_engineZero s k.isLt (s.gradRange k idx).1 (s.gradRange k idx).2
  rw [exec_heldReduceWrite]
  unfold execHeldReduceWrite
  dsimp only
  rw [if_neg (by simpa using hz)]
  generalize s.engineZero k (s.gradRange k idx).1 (s.gradRange k idx).2 = u at hwait
  have hnone : (u.teStack k).heldRw.filter (fun h => h.entry == idx.val) = [] := by
    rw [List.filter_eq_nil_iff, hwait.heldRw]
    intro h hh
    simpa using hheld h hh
  rw [hnone, List.foldl_nil]
  refine ⟨_, rfl, ?_⟩
  rw [smapGet_set_same]
  simp

end Sys2Proof.Machine

namespace Sys2Proof.Claim

open Sys2Proof.Machine

/-- The end of a zeroing, over a stack's pinned memory: nothing is held for the buffer. -/
theorem heldReduceWrite_holds (s : State) (k : Fin 8) (idx : Fin 1024) :
    let g := s.gradRange k idx
    (idx.val ∈ (s.teStack k).zeroing → (∀ h ∈ (s.teStack k).heldRw, h.entry ≠ idx.val) →
      Completes (.heldReduceWrite k idx) s (fun u => idx.val ∉ (u.teStack k).zeroing ∧ u.out = s.out
        ∧ ((∀ j, j < g.2 → pinnedStack (g.1 + j) = some k.val) → s.bit (R.TP_STATUS_ONLINE k) = true → s.cache = [] → (∀ p, s.poisoned p = false) → s.flaws = [] →
            (∀ j, j < g.2 → u.byte (g.1 + j) = 0) ∧ ∀ c, c < g.1 ∨ g.1 + g.2 ≤ c → u.byte c = s.byte c)))
    ∧ (idx.val ∉ (s.teStack k).zeroing → exec (.heldReduceWrite k idx) s = .next s) := by
  intro g
  refine ⟨fun hz hheld => ?_, fun hz => ?_⟩
  · obtain ⟨te, hexec, hend⟩ := execHeldReduceWrite_zeroing hz hheld
    refine ⟨_, hexec, hend, (waiting_engineZero s k.isLt g.1 g.2).out, fun hpin hon hc hp hf => ?_⟩
    exact engineZero_written k.isLt hpin hon hc hp hf
  · rw [exec_heldReduceWrite]
    unfold execHeldReduceWrite
    dsimp only
    rw [if_pos (by simpa using hz)]

end Sys2Proof.Claim
end

section
/-!
PROOFS. The sum at its home (O36).
-/
namespace Sys2Proof.Machine

/-! ### The sum at its home (R277, R278) -/

theorem length_foldl_splice (z : Nat) (outs : List (Nat × Nat × CvtStat)) (old : List Byte) (h : ∀ r ∈ outs, (r.1 + 1) * z ≤ old.length) :
    (outs.foldl (fun b r => b.take (r.1 * z) ++ leBytes r.2.1 z ++ b.drop ((r.1 + 1) * z)) old).length = old.length := by
  refine List.foldlRecOn outs _ (motive := fun b : List Byte => b.length = old.length) rfl fun b hb r hr => ?_
  have hfit := h r hr
  rw [Nat.add_mul, Nat.one_mul] at hfit ⊢
  simp only [List.length_append, List.length_take, List.length_drop, leBytes_length]
  omega

theorem length_reduceBytes (xor : Bool) (f : FmtWord) (draw free : Nat → Nat) (live : Nat → Bool) {old data : List Byte}
    (h : old.length = data.length) : (reduceBytes xor f draw free live old data).1.length = data.length := by
  unfold reduceBytes
  cases xor with
  | true =>
    rw [if_pos rfl, List.length_map, List.length_zip]
    omega
  | false =>
    rw [if_neg (by decide)]
    refine (length_foldl_splice _ _ _ fun r hr => ?_).trans h
    obtain ⟨i, hi, rfl⟩ := List.mem_map.mp hr
    have hlt : i < data.length / f.fmt.size := List.mem_range.mp (List.mem_filter.mp hi).1
    rw [h]
    exact (Nat.mul_le_mul_right _ hlt).trans (Nat.div_mul_le_self _ _)

/-! #### What an engine reports -/

/-- No byte is written, and nothing is sent. -/
structure Unwritten (s u : State) : Prop where
  mem : u.mem = s.mem
  out : u.out = s.out

theorem Unwritten.refl (s : State) : Unwritten s s := ⟨rfl, rfl⟩

theorem Unwritten.trans {s u w : State} (h : Unwritten s u) (g : Unwritten u w) : Unwritten s w := ⟨g.mem.trans h.mem, g.out.trans h.out⟩

theorem unwritten_setReg (s : State) (a : Nat) (v : Word) : Unwritten s (s.setReg a v) := ⟨rfl, rfl⟩
theorem unwritten_noteEvt (s : State) (f : Fld) (n : Nat) : Unwritten s (s.noteEvt f n) := ⟨rfl, rfl⟩
theorem unwritten_setFld (s : State) (f : Fld) (v : Nat) : Unwritten s (s.setFld f v) := unwritten_setReg s f.addr _
theorem unwritten_countFld (s : State) (f : Fld) (n : Nat) : Unwritten s (s.countFld f n) := (unwritten_noteEvt s f n).trans (unwritten_setFld _ f _)

theorem unwritten_orReg (s : State) (a v : Nat) : Unwritten s (s.orReg a v) := by
  unfold State.orReg
  split
  · exact .refl s
  · exact (unwritten_noteEvt s _ _).trans (unwritten_setReg _ _ _)

theorem unwritten_countEnc (s : State) (k : Nat) (c : EncCnt) : Unwritten s (s.countEnc k c) := by
  unfold State.countEnc
  split
  · exact .refl s
  · exact ⟨rfl, rfl⟩

theorem unwritten_teStat (s : State) (k e : Nat) (c : CvtStat) : Unwritten s (s.teStat k e c) := by
  refine (unwritten_orReg s (R.TP_CVT_STATUS k e) c.flags).trans (Unwritten.trans ?_ (unwritten_countEnc _ _ _))
  split
  · exact .refl _
  · exact unwritten_countFld _ _ _

theorem unwritten_teDrew (s : State) (k e n : Nat) : Unwritten s (s.teDrew k e n) := by
  unfold State.teDrew
  split
  · exact .refl s
  · exact ⟨rfl, rfl⟩

theorem unwritten_usedFree (s : State) (xor : Bool) (n : Nat) : Unwritten s (if xor then s else s.usedFree n) := by
  split
  · exact .refl s
  · exact ⟨rfl, rfl⟩

theorem Unwritten.byte {s u : State} (h : Unwritten s u) (c : Nat) : u.byte c = s.byte c := by rw [State.byte, h.mem, State.byte]

theorem Unwritten.bytes {s u : State} (h : Unwritten s u) (a n : Nat) : u.bytes a n = s.bytes a n := by
  simp only [State.bytes, h.byte]

/-! #### The sum's bytes -/

/-- Bytes set one by one, in order. -/
theorem foldl_setByte_written {s : State} (hp : ∀ u, s.poisoned u = false) (a : Nat) (l : List Byte) :
    Written s a l ((List.range l.length).foldl (fun t i => t.setByte (a + i) (l.getD i 0)) s) := by
  have hprefix : ∀ n, n ≤ l.length → Written s a (l.take n) ((List.range n).foldl (fun t i => t.setByte (a + i) (l.getD i 0)) s) := by
    intro n
    induction n with
    | zero => exact fun _ => .nil a hp
    | succ n ih =>
      intro hn
      rw [List.range_succ, List.foldl_append, List.foldl_cons, List.foldl_nil, List.take_succ_eq_append_getElem (by omega),
        List.getD_eq_getElem _ _ (by omega)]
      exact (ih (by omega)).setBytes (b := a + n) [l[n]] fun _ => by rw [List.length_take, Nat.min_eq_left (by omega)]
  have hall := hprefix l.length le_rfl
  rwa [List.take_length] at hall

theorem teDraw_takeEngine (s : State) (k : Nat) : (s.takeEngine k).2.teDraw k = s.teDraw k := by
  funext e i
  rw [State.teDraw, takeEngine_snd, teStack_setTe_same]
  rfl

/-- The sum in the wings, where no unit is poisoned, none bears an error, and the payload carries no poison. -/
theorem reduceNow_wings {s : State} {q : RedReq} (f : FmtWord) (die off : Nat) (he : q.ecc = noEcc) (hf : s.flaws = [])
    (hp : ∀ u, s.poisoned u = false) (hpsn : q.psn = List.replicate q.data.length false) :
    ∃ te n t u, s.reduceNow q f (.wings die off) die = (⟨0, false, n⟩, u)
      ∧ Written { s with te := te } q.addr
        (reduceBytes q.xor f (s.teDraw die (s.takeEngine die).1) s.freeAt (fun _ => true) (s.bytes q.addr q.data.length) q.data).1 t
      ∧ Unwritten t u := by
  have hprep : (s.countPoison q (.wings die off)).reducePrep q (.wings die off) = (false, s) := by
    unfold State.countPoison State.reducePrep
    rw [he]
    exact meetFlaws_none hf _ _ _
  have hbad : ∀ (v : State), (∀ u, v.poisoned u = false) → ∀ us : List Nat, us.filter (fun u => v.unitPoisoned (.wings die off) u) = [] := by
    intro v hv us
    rw [List.filter_eq_nil_iff]
    intro u _
    rw [show v.unitPoisoned (.wings die off) u = false from hv u]
    decide
  have hhit : (List.range q.data.length).filter (fun i => q.psn.getD i false) = [] := by
    rw [List.filter_eq_nil_iff, hpsn]
    intro i hi
    rw [List.getD_replicate _ (List.mem_range.mp hi)]
    decide
  have hany : ∀ l : List Nat, l.any (fun _ => false) = false := fun l => by rw [List.any_eq_false]; exact fun _ _ => Bool.false_ne_true
  have hdraw := teDraw_takeEngine s die
  have hold : (s.takeEngine die).2.bytes q.addr q.data.length = s.bytes q.addr q.data.length := rfl
  have hfree : (s.takeEngine die).2.freeAt = s.freeAt := rfl
  have hclean : ∀ u, (s.takeEngine die).2.poisoned u = false := hp
  obtain ⟨te, hte⟩ : ∃ te, (s.takeEngine die).2 = { s with te := te } := ⟨_, rfl⟩
  unfold State.reduceNow
  rw [hprep]
  dsimp only
  generalize s.takeEngine die = g at hdraw hold hfree hclean hte ⊢
  rw [hbad _ hclean, hhit, hold, hfree, hdraw]
  simp only [List.flatMap_nil, List.dedup_nil, List.contains_nil, Bool.or_self, hany, Bool.not_false, List.filter_true, List.filter_nil, List.foldl_nil]
  generalize hres : reduceBytes q.xor f (s.teDraw die g.1) s.freeAt (fun _ => true) (s.bytes q.addr q.data.length) q.data = res
  have hlen : res.1.length = q.data.length := hres ▸ length_reduceBytes _ _ _ _ _ (by rw [State.bytes, List.length_map, List.length_range])
  have hw := foldl_setByte_written hclean q.addr res.1
  rw [hlen] at hw
  generalize (List.range q.data.length).foldl (fun t i => t.setByte (q.addr + i) (res.1.getD i 0)) g.2 = t at hw ⊢
  rw [hte] at hw
  exact ⟨te, _, t, _, rfl, hw, ((unwritten_usedFree t _ _).trans (unwritten_teStat _ _ _ _)).trans (unwritten_teDrew _ _ _ _)⟩

end Sys2Proof.Machine
end

section
/-!
PROOFS. A reduce-write into the wings (O36).
-/
namespace Sys2Proof.Machine

/-! ### A reduce-write into the wings (R277) -/

theorem pinnedStack_wings {n a die off : Nat} (h : regionOf n a = .wings die off) : pinnedStack a = none := by
  unfold regionOf at h
  split at h
  · exact absurd h nofun
  · exact if_neg (by omega)

theorem gradEntries_unpinned {s : State} {a : Nat} (h : pinnedStack a = none) (n : Nat) : s.gradEntries a n = [] := by
  rw [State.gradEntries, h]

/-- A reduce-write that has the right to its home, meets no name and brings elements that add: held where a buffer is being zeroed, else
performed at its home. `v` is what the count of arrivals leaves. -/
theorem reduceWrite_through {s v : State} {internal : Bool} {q : RedReq} {r : Region} {k : Nat} (hr : regionOf s.cacheN q.addr = r)
    (hk : homeStack r = some k) (hv : (if q.xor then s else s.countAll q.addr q.data.length) = v)
    (hright : internal = true ∨ allowed (masterOf q.mid) true true r q.addr = true)
    (hname : (masterOf q.mid).named = true → v.nameHit q.addr q.data.length true = .none)
    (hfmt : q.xor = true ∨ ∃ f, FmtWord.ofWord q.fmt = some f ∧ reduceFmt f.fmt = true) :
    (v.zeroEntry q.addr q.data.length = none → s.reduceWrite internal q = v.reduceHome q r k)
    ∧ ∀ k' i, v.zeroEntry q.addr q.data.length = some (k', i) → s.reduceWrite internal q = (⟨0, true, 0⟩, v.holdReduce k' i q) := by
  have hrefused : ((masterOf q.mid).named && v.nameHit q.addr q.data.length true == .refused) = false := by
    cases h : (masterOf q.mid).named with
    | false => rfl
    | true => rw [hname h]; rfl
  have hdenied : (!internal && !allowed (masterOf q.mid) true true r q.addr) = false := by
    obtain h | h := hright
    · rw [h, Bool.not_true, Bool.false_and]
    · rw [h, Bool.not_true, Bool.and_false]
  unfold State.reduceWrite
  extract_lets r' n fmtOk u refuse
  have hok : fmtOk = true := by
    obtain h | ⟨f, hf, hred⟩ := hfmt
    · simp only [fmtOk, h, Bool.true_or]
    · simp only [fmtOk, hf, hred, Bool.or_true]
  have hr' : r' = r := hr
  have hn : n = q.data.length := rfl
  have hu : u = v := hv
  clear_value refuse u fmtOk n r'
  subst hok hr' hn hu
  rw [hk]
  dsimp only
  rw [hdenied, hrefused, if_neg (by decide), if_neg (by decide), if_neg (by decide)]
  refine ⟨fun h => ?_, fun k' i h => ?_⟩
  · rw [h]
  · rw [h]

theorem reduceWrite_wings {s : State} {internal : Bool} {q : RedReq} {die off : Nat} (hr : regionOf s.cacheN q.addr = .wings die off)
    (hright : internal = true ∨ allowed (masterOf q.mid) true true (.wings die off) q.addr = true)
    (hname : (masterOf q.mid).named = true → s.nameHit q.addr q.data.length true = .none)
    (hfmt : q.xor = true ∨ ∃ f, FmtWord.ofWord q.fmt = some f ∧ reduceFmt f.fmt = true) :
    s.reduceWrite internal q = s.reduceHome q (.wings die off) die := by
  have hgrad : ∀ n, s.gradEntries q.addr n = [] := gradEntries_unpinned (pinnedStack_wings hr)
  have hcount : (if q.xor then s else s.countAll q.addr q.data.length) = s := by
    rw [State.countAll, hgrad, List.foldl_nil, ite_self]
  exact (reduceWrite_through hr rfl hcount hright hname hfmt).1 (by rw [State.zeroEntry, hgrad]; rfl)

theorem reduceHome_wings {s : State} {q : RedReq} {die : Nat} (off : Nat) (hdie : s.boot.failed.contains (0x100 + die) = false)
    (he : q.ecc = noEcc) (hf : s.flaws = []) (hp : ∀ u, s.poisoned u = false) (hpsn : q.psn = List.replicate q.data.length false) :
    ∃ arb te n t u, s.reduceHome q (.wings die off) die = (⟨0, false, n⟩, u)
      ∧ Written { s with arb := arb, te := te } q.addr
        (reduceBytes q.xor ((FmtWord.ofWord q.fmt).getD ⟨.b64, 0, false, 0⟩) (s.teDraw die (s.takeEngine die).1) s.freeAt (fun _ => true)
          (s.bytes q.addr q.data.length) q.data).1 t
      ∧ Unwritten t u := by
  have hopen : s.homeShut (.wings die off) = 0 := by
    rw [State.homeShut, hdie]
    rfl
  obtain ⟨arb, harb⟩ := homeGrant_eq s (.wings die off) .c0
  obtain ⟨te, n, t, u, hnow, hw, hu⟩ := reduceNow_wings (s := { s with arb := arb }) (q := q) ((FmtWord.ofWord q.fmt).getD ⟨.b64, 0, false, 0⟩)
    die off he hf hp hpsn
  refine ⟨arb, te, n, t, u, ?_, hw, hu⟩
  unfold State.reduceHome
  rw [hopen, harb]
  dsimp only
  rw [hnow]
  rfl

end Sys2Proof.Machine

namespace Sys2Proof.Claim

open Sys2Proof.Machine

/-- The end of a reduce-write into the wings: the sum or the exclusive or stands there, and its master is answered. -/
theorem reduceWrite_wings_completes {s : State} {mid : BitVec 12} {a : BitVec 44} {xor : Bool} {fmt : BitVec 16} {f : FmtWord} {data : List Byte}
    {die off : Nat} (hr : regionOf s.cacheN a.toNat = .wings die off) (hdie : s.boot.failed.contains (0x100 + die) = false)
    (hp : ∀ p, s.poisoned p = false) (hf : s.flaws = [])
    (hgoes : if xor then mid.toNat = 5 else allowed (masterOf mid.toNat) true true (.wings die off) a.toNat = true
      ∧ ((masterOf mid.toNat).named = true → s.nameHit a.toNat data.length true = .none) ∧ FmtWord.ofWord fmt.toNat = some f ∧ reduceFmt f.fmt = true) :
    Completes (.reduceWrite mid a xor fmt data (List.replicate data.length false) noEcc) s (fun u =>
      u.bytes a.toNat data.length = (if xor then (List.zip (s.bytes a.toNat data.length) data).map (fun p => p.1 ^^^ p.2) else
        (reduceBytes false f (s.teDraw die (s.takeEngine die).1) s.freeAt (fun _ => true) (s.bytes a.toNat data.length) data).1)
      ∧ (∀ c, c < a.toNat ∨ a.toNat + data.length ≤ c → u.byte c = s.byte c)
      ∧ u.out = s.out ++ [.bus mid.toNat a.toNat 0 []]) := by
  obtain ⟨arb, te, n, t, u, hhome, hw, hu⟩ := reduceHome_wings (s := s) (die := die)
    (q := ⟨mid.toNat, a.toNat, fmt.toNat, xor, data, List.replicate data.length false, noEcc, .nobody mid.toNat⟩) off hdie rfl hf hp rfl
  have hwrite : s.reduceWrite (mid.toNat == 5 && xor)
      ⟨mid.toNat, a.toNat, fmt.toNat, xor, data, List.replicate data.length false, noEcc, .nobody mid.toNat⟩ = (⟨0, false, n⟩, u) := by
    refine (reduceWrite_wings hr ?_ ?_ ?_).trans hhome
    · cases xor with
      | true => exact .inl (by rw [show mid.toNat = 5 from hgoes]; rfl)
      | false => exact .inr hgoes.1
    · cases xor with
      | true =>
        have hresil : (masterOf mid.toNat).named = false := by rw [show mid.toNat = 5 from hgoes]; rfl
        exact fun h => absurd (hresil.symm.trans h) Bool.false_ne_true
      | false => exact hgoes.2.1
    · cases xor with
      | true => exact .inl rfl
      | false => exact .inr ⟨f, hgoes.2.2⟩
  have hlen := length_reduceBytes xor ((FmtWord.ofWord fmt.toNat).getD ⟨.b64, 0, false, 0⟩) (s.teDraw die (s.takeEngine die).1) s.freeAt
    (fun _ => true) (old := s.bytes a.toNat data.length) (data := data) (by rw [State.bytes, List.length_map, List.length_range])
  dsimp only at hw
  refine ⟨u.send (.bus mid.toNat a.toNat 0 []), ?_, ?_, fun c hc => ?_, ?_⟩
  · rw [exec_reduceWrite]
    unfold execReduceWrite
    dsimp only
    rw [hwrite]
    rfl
  · have hbytes := hw.bytes
    rw [hlen] at hbytes
    refine (hu.bytes a.toNat data.length).trans (hbytes.trans ?_)
    cases xor with
    | true => rfl
    | false => rw [show FmtWord.ofWord fmt.toNat = some f from hgoes.2.2.1]; rfl
  · exact (hu.byte c).trans (hw.outside c (by rw [hlen]; exact hc))
  · rw [out_send, hu.out]
    obtain ⟨m, p, ht⟩ := hw.eq
    rw [ht]

end Sys2Proof.Claim
end

section
/-!
PROOFS. What the count of arrivals leaves of the shard tables (O36).
-/
namespace Sys2Proof.Machine

/-! ### What the count of arrivals leaves of the shard tables (R267, R272) -/

theorem filter_smapInsert {α : Type} (p : Nat × α → Bool) {q : Nat} (hq : ∀ x, p (q, x) = false) (x : α) (m : SMap α) :
    (smapInsert q x m).filter p = m.filter p := by
  induction m with
  | nil => simp [smapInsert, hq]
  | cons a r ih =>
    obtain ⟨k, v⟩ := a
    unfold smapInsert
    split
    · simp [hq]
    · split
      · rename_i hk
        subst hk
        simp [hq]
      · simp [List.filter_cons, ih]

theorem filter_smapErase {α : Type} (p : Nat × α → Bool) {q : Nat} (hq : ∀ x, p (q, x) = false) (m : SMap α) :
    (smapErase q m).filter p = m.filter p := by
  rw [smapErase, List.filter_filter]
  refine List.filter_congr fun r _ => ?_
  by_cases hr : r.1 = q
  · rw [show r = (q, r.2) from Prod.ext hr rfl, hq, Bool.false_and]
  · rw [decide_eq_true hr, Bool.and_true]

theorem filter_smapSet {α : Type} [DecidableEq α] (p : Nat × α → Bool) (d : α) {q : Nat} (hq : ∀ x, p (q, x) = false) (x : α) (m : SMap α) :
    (smapSet d m q x).filter p = m.filter p := by
  unfold smapSet
  split
  · exact filter_smapErase p hq m
  · exact filter_smapInsert p hq x m

/-- The shard tables stand as they stood but for the counts of arrivals. -/
structure SameShards (s v : State) : Prop where
  fld : ∀ f : Fld, f.addr % 0x80 ≠ 0x68 → v.fld f = s.fld f
  valid : ∀ k, v.validShards k = s.validShards k
  homeByte : ∀ a, v.homeByte a = s.homeByte a

theorem sameShards_arrived (s : State) (k i n : Nat) : SameShards s (s.setFld (R.TP_SHARD_W13_ARRIVED k i) n) where
  fld f hf := fld_setFld_ne s (fun h => hf (by rw [h]; simp only [R.TP_SHARD_W13_ARRIVED]; omega))
  valid k' := by
    unfold State.validShards State.setFld State.setReg
    rw [filter_smapSet]
    intro x
    refine Bool.eq_false_iff.mpr fun hx => ?_
    simp only [shardBase, R.TP_SHARD_W0, R.TP_SHARD_W13_ARRIVED, Bool.and_eq_true, beq_iff_eq] at hx
    obtain ⟨⟨⟨hlo, -⟩, hmod⟩, -⟩ := hx
    have hlo := of_decide_eq_true hlo
    omega
  homeByte a := rfl

section

variable {s v : State} (h : SameShards s v)
include h

theorem SameShards.compBase (k i : Nat) (c : Comp) (copy : Nat) : v.compBase k i c copy = s.compBase k i c copy := by
  unfold State.compBase
  split
  · exact h.fld _ (by simp only [R.TP_SHARD_W3_BASE_P0]; omega)
  · exact h.fld _ (by simp only [R.TP_SHARD_W4_BASE_P1]; omega)
  · exact h.fld _ (by simp only [R.TP_SHARD_W5_BASE_R0]; omega)
  · exact h.fld _ (by simp only [R.TP_SHARD_W6_BASE_R1]; omega)
  · exact h.fld _ (by simp only [R.TP_SHARD_W7_BASE_M0]; omega)
  · exact h.fld _ (by simp only [R.TP_SHARD_W8_BASE_M1]; omega)
  · exact h.fld _ (by simp only [R.TP_SHARD_W9_BASE_V0]; omega)
  · exact h.fld _ (by simp only [R.TP_SHARD_W10_BASE_V1]; omega)

theorem SameShards.elements (k i : Nat) : v.fld (R.TP_SHARD_W1_ELEMENTS k i) = s.fld (R.TP_SHARD_W1_ELEMENTS k i) :=
  h.fld _ (by simp only [R.TP_SHARD_W1_ELEMENTS]; omega)

theorem SameShards.version (k i : Nat) : v.fld (R.TP_SHARD_W1_VERSION k i) = s.fld (R.TP_SHARD_W1_VERSION k i) :=
  h.fld _ (by simp only [R.TP_SHARD_W1_VERSION]; omega)

theorem SameShards.pbytes (k i : Nat) : v.fld (R.TP_SHARD_W2_PBYTES k i) = s.fld (R.TP_SHARD_W2_PBYTES k i) :=
  h.fld _ (by simp only [R.TP_SHARD_W2_PBYTES]; omega)

theorem SameShards.frontCopy (k i : Nat) : v.frontCopy k i = s.frontCopy k i :=
  h.fld _ (by simp only [R.TP_SHARD_W0_FRONT]; omega)

theorem SameShards.compHas (k i : Nat) (c : Comp) : v.compHas k i c = s.compHas k i c := by
  cases c with
  | p => rfl
  | r => exact congrArg (· == 1) (h.fld (R.TP_SHARD_W0_HAS_R k i) (by simp only [R.TP_SHARD_W0_HAS_R]; omega))
  | m => exact congrArg (· == 1) (h.fld (R.TP_SHARD_W0_HAS_M k i) (by simp only [R.TP_SHARD_W0_HAS_M]; omega))
  | v => exact congrArg (· == 1) (h.fld (R.TP_SHARD_W0_HAS_V k i) (by simp only [R.TP_SHARD_W0_HAS_V]; omega))

theorem SameShards.trigFmts (k i : Nat) : v.trigFmts k i = s.trigFmts k i := by
  have htrig : v.fld (R.TP_SHARD_W15_TRIG k i) = s.fld (R.TP_SHARD_W15_TRIG k i) := h.fld _ (by simp only [R.TP_SHARD_W15_TRIG]; omega)
  simp only [State.trigFmts, State.homeNum, htrig, h.homeByte]

theorem SameShards.compBytes (k i : Nat) (c : Comp) : v.compBytes k i c = s.compBytes k i c := by
  unfold State.compBytes
  rw [h.elements, h.pbytes, h.trigFmts]

theorem SameShards.gradRange (k i : Nat) : v.gradRange k i = s.gradRange k i := by
  have hbase : v.fld (R.TP_SHARD_W11_BASE_G k i) = s.fld (R.TP_SHARD_W11_BASE_G k i) := h.fld _ (by simp only [R.TP_SHARD_W11_BASE_G]; omega)
  have hcode : v.fld (R.TP_SHARD_W0_GCODE k i) = s.fld (R.TP_SHARD_W0_GCODE k i) := h.fld _ (by simp only [R.TP_SHARD_W0_GCODE]; omega)
  rw [State.gradRange, hbase, h.elements, hcode, State.gradRange]

theorem SameShards.nameHit (a len : Nat) (w : Bool) : v.nameHit a len w = s.nameHit a len w := by
  simp only [State.nameHit, h.valid, h.compBase, h.compBytes, h.compHas, h.pbytes, h.version, h.frontCopy]

theorem SameShards.gradEntries (a len : Nat) : v.gradEntries a len = s.gradEntries a len := by
  simp only [State.gradEntries, h.valid, h.gradRange]

end

end Sys2Proof.Machine
end

section
/-!
PROOFS. A reduce-write into a buffer being zeroed; reduce-writes settled (O36).
-/
namespace Sys2Proof.Machine

/-! ### A reduce-write into a buffer being zeroed (R271, R272) -/

/-- The bytes that arrive for an entry that has not fired and expects no number of them. -/
theorem countArrived_unexpected {s : State} {k i : Nat} (hfired : s.bit (R.TP_SHARD_W0_FIRED k i) = false) (hexpect : s.fld (R.TP_SHARD_W12_EXPECT k i) = 0)
    (n : Nat) : s.countArrived k i n = s.setFld (R.TP_SHARD_W13_ARRIVED k i) (s.fld (R.TP_SHARD_W13_ARRIVED k i) + n) := by
  have hstill : (s.setFld (R.TP_SHARD_W13_ARRIVED k i) (s.fld (R.TP_SHARD_W13_ARRIVED k i) + n)).fld (R.TP_SHARD_W12_EXPECT k i) = 0 :=
    ((sameShards_arrived s k i _).fld (R.TP_SHARD_W12_EXPECT k i) (by simp only [R.TP_SHARD_W12_EXPECT]; omega)).trans hexpect
  unfold State.countArrived
  dsimp only
  rw [hfired, hstill, if_neg (by decide), if_neg (by omega)]

theorem countAll_unexpected {s : State} {k i n a len : Nat} (hgrad : s.gradEntries a len = [(k, i, n)])
    (hfired : s.bit (R.TP_SHARD_W0_FIRED k i) = false) (hexpect : s.fld (R.TP_SHARD_W12_EXPECT k i) = 0) :
    s.countAll a len = s.setFld (R.TP_SHARD_W13_ARRIVED k i) (s.fld (R.TP_SHARD_W13_ARRIVED k i) + n) := by
  rw [State.countAll, hgrad]
  exact countArrived_unexpected hfired hexpect n

theorem zeroEntry_single {s : State} {k i n a len : Nat} (hgrad : s.gradEntries a len = [(k, i, n)]) (hz : i ∈ (s.teStack k).zeroing) :
    s.zeroEntry a len = some (k, i) := by
  rw [State.zeroEntry, hgrad, List.find?_cons_of_pos (by simpa using hz)]
  rfl

end Sys2Proof.Machine

namespace Sys2Proof.Claim

open Sys2Proof.Machine

/-- A sum into a buffer being zeroed is counted and held, and not answered yet. -/
theorem reduceWrite_zeroing_completes {s : State} {k : Fin 8} {idx : Fin 1024} {mid : BitVec 12} {a : BitVec 44} {fmt : BitVec 16} {f : FmtWord}
    {data : List Byte} {stack loc n : Nat} (psn : List Bool)
    (hr : regionOf s.cacheN a.toNat = .trap stack loc) (hright : allowed (masterOf mid.toNat) true true (.trap stack loc) a.toNat = true)
    (hname : (masterOf mid.toNat).named = true → s.nameHit a.toNat data.length true = .none)
    (hword : FmtWord.ofWord fmt.toNat = some f) (hred : reduceFmt f.fmt = true)
    (hgrad : s.gradEntries a.toNat data.length = [(k.val, idx.val, n)]) (hz : idx.val ∈ (s.teStack k).zeroing)
    (hfired : s.bit (R.TP_SHARD_W0_FIRED k idx) = false) (hexpect : s.fld (R.TP_SHARD_W12_EXPECT k idx) = 0)
    (hroom : s.fld (R.TP_SHARD_W13_ARRIVED k idx) + n < 2 ^ 48) :
    Completes (.reduceWrite mid a false fmt data psn noEcc) s (fun u =>
      u.fld (R.TP_SHARD_W13_ARRIVED k idx) = s.fld (R.TP_SHARD_W13_ARRIVED k idx) + n
      ∧ (u.teStack k).heldRw = (s.teStack k).heldRw ++ [⟨idx.val, mid.toNat, a.toNat, fmt.toNat, false, data, psn, .nobody mid.toNat⟩]
      ∧ u.mem = s.mem ∧ u.out = s.out) := by
  have hsame := sameShards_arrived s k idx (s.fld (R.TP_SHARD_W13_ARRIVED k idx) + n)
  have hcount := countAll_unexpected hgrad hfired hexpect
  have harrived : (s.setFld (R.TP_SHARD_W13_ARRIVED k idx) (s.fld (R.TP_SHARD_W13_ARRIVED k idx) + n)).fld (R.TP_SHARD_W13_ARRIVED k idx)
      = s.fld (R.TP_SHARD_W13_ARRIVED k idx) + n :=
    (fld_setFld_same s (R.TP_SHARD_W13_ARRIVED k idx) _ (by simp [R.TP_SHARD_W13_ARRIVED])).trans (Nat.mod_eq_of_lt hroom)
  have hquiet := quiet_setFld s (R.TP_SHARD_W13_ARRIVED k idx) (s.fld (R.TP_SHARD_W13_ARRIVED k idx) + n)
  have hmem := (unwritten_setFld s (R.TP_SHARD_W13_ARRIVED k idx) (s.fld (R.TP_SHARD_W13_ARRIVED k idx) + n)).mem
  generalize s.setFld (R.TP_SHARD_W13_ARRIVED k idx) (s.fld (R.TP_SHARD_W13_ARRIVED k idx) + n) = v at hsame hcount harrived hquiet hmem
  have hstack : v.teStack k = s.teStack k := by rw [State.teStack, hquiet.te, State.teStack]
  have hheld := (reduceWrite_through (s := s) (v := v) (internal := mid.toNat == 5 && false) (k := stack)
    (q := ⟨mid.toNat, a.toNat, fmt.toNat, false, data, psn, noEcc, .nobody mid.toNat⟩) hr rfl hcount (.inr hright)
    (fun h => (hsame.nameHit _ _ _).trans (hname h)) (.inr ⟨f, hword, hred⟩)).2 k idx
    (zeroEntry_single ((hsame.gradEntries _ _).trans hgrad) (by rw [hstack]; exact hz))
  refine ⟨v.holdReduce k idx ⟨mid.toNat, a.toNat, fmt.toNat, false, data, psn, noEcc, .nobody mid.toNat⟩, ?_, ?_, ?_, ?_, ?_⟩
  · rw [exec_reduceWrite]
    unfold execReduceWrite
    dsimp only
    rw [hheld]
    rfl
  · exact harrived
  · rw [State.holdReduce]
    dsimp only
    rw [teStack_setTe_same, hstack]
  · exact hmem
  · exact hquiet.out

/-- Settles O36: the sum in the wings, the sum that is held, and the end of a zeroing. -/
theorem reduceWritesAddAtTheirHome : Obligations.ReduceWritesAddAtTheirHome := by
  unfold Obligations.ReduceWritesAddAtTheirHome
  refine ⟨?_, ?_, heldReduceWrite_holds⟩
  · intro s mid a xor fmt f data die off hr hdie hp hf _ hgoes
    exact reduceWrite_wings_completes hr hdie hp hf hgoes
  · intro s k idx mid a fmt f data psn stack loc n hr hright hname hword hred hgrad hz hfired hexpect hroom
    exact reduceWrite_zeroing_completes psn hr hright hname hword hred hgrad hz hfired hexpect hroom

end Sys2Proof.Claim
end

section
/-!
PROOFS. Every operation of the model keeps the registers, the memory and the poison marks in canonical form (O60), in the order of the
model's files: each by the lemmas of the operations it is made of.
-/
namespace Sys2Proof.Machine

section
variable {s : State}

/-- A state whose stores are another's is in the form if that is. -/
theorem canonical_of_stores {s u : State} (h1 : u.regs = s.regs) (h2 : u.mem = s.mem) (h3 : u.poison = s.poison)
    (h : s.canonical = true) : u.canonical = true := (canonical_congr h1 h2 h3).trans h

theorem canonical_ite {c : Prop} [Decidable c] {s u : State} (h : s.canonical = true) (g : u.canonical = true) :
    (if c then s else u).canonical = true := by
  split
  · exact h
  · exact g

/-- A fold over anything that carries a state, each step of which keeps the form. -/
theorem canonical_foldl_of {α β : Type} (g : β → State) (f : β → α → β)
    (hf : ∀ b x, (g b).canonical = true → (g (f b x)).canonical = true) :
    ∀ (l : List α) (b : β), (g b).canonical = true → (g (l.foldl f b)).canonical = true
  | [], _, h => h
  | x :: l, b, h => canonical_foldl_of g f hf l (f b x) (hf b x h)

theorem canonical_filter_regs (h : s.canonical = true) (p : Nat × Word → Bool) :
    (State.canonical { s with regs := s.regs.filter p }) = true := by
  rw [canonical_iff] at h ⊢
  exact ⟨smapWf_filter _ _ _ h.1, h.2⟩

theorem canonical_filter_mem (h : s.canonical = true) (p : Host.Cell → Bool) :
    (State.canonical { s with mem := s.mem.filter p }) = true := by
  rw [canonical_iff] at h ⊢
  exact ⟨h.1, smapWf_filter _ _ _ h.2.1, h.2.2⟩

theorem canonical_filter_poison (h : s.canonical = true) (p : Nat × Bool → Bool) :
    (State.canonical { s with poison := s.poison.filter p }) = true := by
  rw [canonical_iff] at h ⊢
  exact ⟨h.1, h.2.1, smapWf_filter _ _ _ h.2.2⟩

theorem canonical_ite_snd {α : Type} {c : Prop} [Decidable c] {p q : α × State} (h : p.2.canonical = true) (g : q.2.canonical = true) :
    (if c then p else q).2.canonical = true := by
  split
  · exact h
  · exact g

/-! #### Operations of Machine/Ops.lean -/

theorem canonical_event (h : s.canonical = true) (mid code detail) : (s.event mid code detail).canonical = true :=
  canonical_pbEntry h _ _ _ _

/-! #### Operations of Machine/Status.lean -/

theorem canonical_setRingIdx (h : s.canonical = true) (n o v) : (s.setRingIdx n o v).canonical = true := canonical_setNum h _ _ _

theorem canonical_setQp (h : s.canonical = true) (q) : (s.setQp q).canonical = true := h

theorem canonical_setFhPort (h : s.canonical = true) (p x) : (s.setFhPort p x).canonical = true := h

theorem canonical_queueRoce (h : s.canonical = true) (p qpn packets m) : (s.queueRoce p qpn packets m).canonical = true :=
  canonical_setFhPort h _ _

theorem canonical_sendRoce (h : s.canonical = true) (q m) : (s.sendRoce q m).canonical = true := canonical_queueRoce h _ _ _ _

theorem canonical_sendCm (h : s.canonical = true) (p m) : (s.sendCm p m).canonical = true := canonical_queueRoce h _ _ _ _

theorem canonical_unsend (h : s.canonical = true) (q) : (s.unsend q).canonical = true := canonical_setFhPort h _ _

theorem canonical_pace (h : s.canonical = true) (k) : (s.pace k).canonical = true := by
  unfold State.pace
  split
  exacts [h, canonical_ite h (canonical_setQp h _)]

theorem canonical_readAnswered (h : s.canonical = true) (k) : (s.readAnswered k).canonical = true := by
  unfold State.readAnswered
  split
  exacts [canonical_setQp h _, h]

theorem canonical_pauseLapse (h : s.canonical = true) (p) : (s.pauseLapse p).canonical = true := canonical_ite (canonical_setFld h _ _) h

theorem canonical_transmit (h : s.canonical = true) (p) : (s.transmit p).canonical = true := by
  unfold State.transmit
  extract_lets s1
  have hs1 : s1.canonical = true := canonical_pauseLapse h _
  split
  · exact hs1
  · extract_lets s2
    have hs2 : s2.canonical = true := canonical_readAnswered (canonical_pace hs1 _) _
    exact canonical_ite ((canonical_send _ _).trans (canonical_setFhPort hs2 _ _)) (canonical_setFhPort hs2 _ _)

theorem canonical_qpRequest (h : s.canonical = true) (q r m psns) : (s.qpRequest q r m psns).canonical = true :=
  canonical_sendRoce (canonical_setQp h _) _ _

theorem canonical_askWarm (h : s.canonical = true) (kind mid) : (s.askWarm kind mid).canonical = true := h

theorem canonical_acceptWarm (h : s.canonical = true) (n) : (s.acceptWarm n).canonical = true :=
  (canonical_with_host _ _).trans (canonical_askWarm h _ _)

theorem canonical_drainStatus (n) : ∀ (f) {s : State}, s.canonical = true → (s.drainStatus n f).canonical = true
  | 0, _, h => h
  | f + 1, s, h => by
    unfold State.drainStatus
    refine canonical_ite h ?_
    dsimp only
    split
    · exact h
    · exact canonical_drainStatus n f (canonical_writeStatus ((canonical_with_host _ _).trans h) _ _)

/-! #### Operations of Machine/RegAccess.lean -/

theorem canonical_uncountFld (h : s.canonical = true) (f n) : (s.uncountFld f n).canonical = true :=
  (canonical_with_now _ _).trans (canonical_setFld h _ _)

theorem canonical_regReadEffect (h : s.canonical = true) (a off len) : (s.regReadEffect a off len).canonical = true := by
  unfold State.regReadEffect
  refine canonical_foldl _ (fun u x hu => ?_) _ _ h
  split
  exacts [canonical_ite (canonical_clearRc hu _) hu, hu]

/-! #### Operations of Machine/Memory.lean -/

theorem canonical_commitReg (h : s.canonical = true) (t ord a v mask) : (s.commitReg t ord a v mask).canonical = true :=
  canonical_ite ((canonical_win _ _ _ _ _).trans (canonical_setReg h _ _)) (canonical_foldl _
    (fun _ _ hu => (canonical_win _ _ _ _ _).trans hu) _ _ (canonical_setReg h _ _))

/-! #### Operations of Machine/Flags.lean -/

theorem canonical_orReg (h : s.canonical = true) (a v) : (s.orReg a v).canonical = true :=
  canonical_ite h (canonical_setReg ((canonical_noteEvt _ _ _).trans h) _ _)

theorem canonical_countEnc (h : s.canonical = true) (k c) : (s.countEnc k c).canonical = true := canonical_ite h h

theorem canonical_tileStat (h : s.canonical = true) (t c) : (s.tileStat t c).canonical = true :=
  canonical_countEnc (canonical_ite (canonical_orReg h _ _) (canonical_countFld (canonical_orReg h _ _) _ _)) _ _

/-! #### Operations of Machine/Operands.lean -/

theorem canonical_wcInc (h : s.canonical = true) (t k) : (s.wcInc t k).canonical = true := canonical_setFld h _ _

theorem canonical_wcDec (h : s.canonical = true) (t k) : (s.wcDec t k).canonical = true := canonical_setFld h _ _

/-! #### Operations of Machine/TileOps.lean -/

theorem canonical_sched (h : s.canonical = true) (t after e) : (s.sched t after e).canonical = true := (canonical_setTile _ _ _).trans h

theorem canonical_schedAt (h : s.canonical = true) (t after ord e) : (s.schedAt t after ord e).canonical = true :=
  (canonical_setTile _ _ _).trans h

theorem canonical_schedX (h : s.canonical = true) (t after r v) : (s.schedX t after r v).canonical = true :=
  canonical_ite h (canonical_sched h _ _ _)

theorem canonical_schedF (h : s.canonical = true) (t after r v mask) : (s.schedF t after r v mask).canonical = true :=
  canonical_sched h _ _ _

theorem canonical_schedV (h : s.canonical = true) (t after k v mask) : (s.schedV t after k v mask).canonical = true :=
  canonical_foldl _ (fun _ _ hu => canonical_ite hu (canonical_schedF hu _ _ _ _ _)) _ _ h

theorem canonical_schedStat (h : s.canonical = true) (t after c) : (s.schedStat t after c).canonical = true :=
  canonical_ite h (canonical_sched h _ _ _)

theorem canonical_hold (h : s.canonical = true) (t r occ) : (s.hold t r occ).canonical = true :=
  canonical_ite h ((canonical_setTile _ _ _).trans h)

theorem canonical_raiseTrap (h : s.canonical = true) (t r) : (s.raiseTrap t r).canonical = true := by
  unfold State.raiseTrap
  split
  exacts [h, (canonical_setTile _ _ _).trans h]

theorem canonical_setResume (h : s.canonical = true) (t i) : (s.setResume t i).canonical = true :=
  canonical_setFld (canonical_setFld h _ _) _ _

theorem canonical_setIssueAt (h : s.canonical = true) (t n) : (s.setIssueAt t n).canonical = true := (canonical_setTile _ _ _).trans h

theorem canonical_takeBranch (h : s.canonical = true) (t target p) : (s.takeBranch t target p).canonical = true :=
  canonical_setIssueAt (canonical_setResume h _ _) _ _

theorem canonical_noteIssue (h : s.canonical = true) (t) : (s.noteIssue t).canonical = true :=
  canonical_ite (canonical_setFld ((canonical_setTile _ _ _).trans ((canonical_with_now _ _).trans h)) _ _)
    ((canonical_setTile _ _ _).trans ((canonical_with_now _ _).trans h))

theorem canonical_noteSwap (h : s.canonical = true) (t how) : (s.noteSwap t how).canonical = true := h

theorem canonical_haltAt (h : s.canonical = true) (t pt x) : (s.haltAt t pt x).canonical = true := canonical_haltTile h _ _ _ _ _ _ _ _

theorem canonical_stopIssue (h : s.canonical = true) (t pt bundle x) : (s.stopIssue t pt bundle x).canonical = true :=
  canonical_ite (canonical_noteSwap (canonical_noteIssue h _) _ _) (canonical_haltAt h _ _ _)

/-- One slot issued alone keeps the form if its effect does. -/
theorem canonical_issueAlone (h : s.canonical = true) (t check) {perform : State → State}
    (hp : ∀ u, u.canonical = true → (perform u).canonical = true) :
    (s.issueAlone t check perform).canonical = true := by
  unfold State.issueAlone
  split
  · split
    · exact canonical_stopIssue h _ _ _ _
    · exact hp _ (canonical_noteIssue h _)
  · split
    · split
      · cases check _ with
        | none => exact h
        | some r => exact canonical_haltAt h _ _ _
      · exact h
    · exact h

theorem canonical_tileDrew (h : s.canonical = true) (t unit n) : (s.tileDrew t unit n).canonical = true :=
  canonical_ite h ((canonical_setTile _ _ _).trans h)

theorem canonical_reseedTile (h : s.canonical = true) (t) : (s.reseedTile t).canonical = true := (canonical_setTile _ _ _).trans h

theorem canonical_reseedNext (h : s.canonical = true) (t) : (s.reseedNext t).canonical = true :=
  canonical_reseedTile ((canonical_usedFree _ _).trans ((canonical_setTile _ _ _).trans h)) _

theorem canonical_tapRecord (h : s.canonical = true) (r) : (s.tapRecord r).canonical = true :=
  (canonical_with_dcQueue _ _).trans ((canonical_usedFree _ _).trans (canonical_foldl _ (fun _ _ hu => canonical_setPoison hu _ _) _ _
    (canonical_setBytes _ _ ((canonical_homeGrant _ _ _).trans h))))

/-! #### Operations of Machine/Callboard.lean -/

theorem canonical_setChan (h : s.canonical = true) (n q) : (s.setChan n q).canonical = true := canonical_setFld h _ _

theorem canonical_setTurn (h : s.canonical = true) (x) : (s.setTurn x).canonical = true := h

theorem canonical_refillChan (h : s.canonical = true) (n q) : (s.refillChan n q).canonical = true := canonical_setChan h _ _

theorem canonical_setLost (h : s.canonical = true) (x k) : (s.setLost x k).canonical = true :=
  canonical_setTurn (canonical_ite (canonical_countFld h _ _) (canonical_ite (canonical_uncountFld h _ _) h)) _

theorem canonical_turnPtr (h : s.canonical = true) (n order) : (s.turnPtr n order).canonical = true := by
  unfold State.turnPtr
  split <;> exact h

theorem canonical_settleLocal (h : s.canonical = true) (x) : (s.settleLocal x).canonical = true :=
  canonical_turnPtr (canonical_setLost (canonical_setChan h _ _) _ _) _ _

theorem canonical_settleOut (h : s.canonical = true) (x) : (s.settleOut x).canonical = true := by
  unfold State.settleOut
  extract_lets _ _ _ s1
  have hs1 : s1.canonical = true := h
  exact canonical_turnPtr (canonical_setLost hs1 _ _) _ _

theorem canonical_postThrough (h : s.canonical = true) (n p v) : (s.postThrough n p v).canonical = true := by
  unfold State.postThrough
  split
  exacts [canonical_settleOut h _, canonical_settleLocal h _]

theorem canonical_post (h : s.canonical = true) (n p v) : (s.post n p v).canonical = true := by
  unfold State.post
  refine canonical_ite (canonical_postThrough h _ _ _) ?_
  split
  exacts [h, h, canonical_countFld h _ _]

theorem canonical_posts (h : s.canonical = true) (n l) : (s.posts n l).canonical = true :=
  canonical_foldl _ (fun _ _ hu => canonical_post hu _ _ _) _ _ h

theorem canonical_takeNotice (h : s.canonical = true) (n) : (s.takeNotice n).2.canonical = true := by
  unfold State.takeNotice
  split
  · split
    exacts [canonical_settleLocal h _, canonical_setChan h _ _]
  · exact h

theorem canonical_flushChan (h : s.canonical = true) (n) : (s.flushChan n).canonical = true := by
  unfold State.flushChan
  split
  exacts [canonical_ite h (canonical_settleLocal h _), canonical_setChan h _ _]

theorem canonical_cbTake (h : s.canonical = true) (mid n) : (s.cbTake mid n).canonical = true :=
  canonical_ite ((canonical_send _ _).trans (canonical_takeNotice h _)) (canonical_ite ((canonical_send _ _).trans h)
    (canonical_countFld h _ _))

theorem canonical_readReg (h : s.canonical = true) (r) : (s.readReg r).canonical = true := canonical_ite h h

theorem canonical_putOff (h : s.canonical = true) (l) : (s.putOff l).canonical = true := h

theorem canonical_acqWin (h : s.canonical = true) (n readers) : (s.acqWin n readers).2.canonical = true := by
  unfold State.acqWin
  split
  · exact h
  · split
    exacts [h, (canonical_with_lockPtr _ _).trans (canonical_setFld h _ _)]

theorem canonical_acquire (h : s.canonical = true) (n readers) : (s.acquire n readers).canonical = true :=
  canonical_foldl _ (fun _ _ hu => (canonical_send _ _).trans hu) _ _ (canonical_acqWin (canonical_ite h (canonical_readReg h _)) _ _)

/-! #### Operations of Machine/FabSend.lean -/

theorem canonical_setPort (h : s.canonical = true) (p x) : (s.setPort p x).canonical = true := h

theorem canonical_injectPkt (h : s.canonical = true) (p) : (s.injectPkt p).canonical = true := h

theorem canonical_sendReq (h : s.canonical = true) (owner op mid dst addr hint fmt data psn len rdst) :
    (s.sendReq owner op mid dst addr hint fmt data psn len rdst).canonical = true := h

theorem canonical_ctlOut (h : s.canonical = true) (p prio m) : (s.ctlOut p prio m).canonical = true := canonical_setPort h _ _

theorem canonical_ctlRouted (h : s.canonical = true) (dst m) : (s.ctlRouted dst m).canonical = true := by
  unfold State.ctlRouted
  refine canonical_ite h ?_
  split
  exacts [canonical_ite (canonical_ctlOut h _ _ _) h, h]

theorem canonical_flood (h : s.canonical = true) (m) : (s.flood m).canonical = true :=
  canonical_foldl _ (fun _ _ hu => canonical_ite (canonical_ctlOut hu _ _ _) hu) _ _ h

theorem canonical_ackTo (h : s.canonical = true) (seat mid tag bytes code) : (s.ackTo seat mid tag bytes code).canonical = true :=
  canonical_ctlRouted h _ _

theorem canonical_fbEvent (h : s.canonical = true) (code detail) : (s.fbEvent code detail).canonical = true := by
  unfold State.fbEvent
  extract_lets s1 s2
  have hs1 : s1.canonical = true := canonical_ite (canonical_orReg h _ _) h
  have hs2 : s2.canonical = true := canonical_ite (canonical_hostEvent hs1 _ _ _) (canonical_event hs1 _ _ _)
  exact canonical_ite hs2 (canonical_health hs2 _)

theorem canonical_noteLost (h : s.canonical = true) (seat) : (s.noteLost seat).canonical = true := canonical_ite h h

theorem canonical_reportLost (h : s.canonical = true) (seat) : (s.reportLost seat).canonical = true :=
  canonical_ite h (canonical_flood (canonical_fbEvent (canonical_noteLost h _) _ _) _)

/-! #### Operations of Machine/Reduce.lean -/

theorem canonical_setTe (h : s.canonical = true) (k x) : (s.setTe k x).canonical = true := h

theorem canonical_teStat (h : s.canonical = true) (k e c) : (s.teStat k e c).canonical = true :=
  canonical_countEnc (canonical_ite (canonical_orReg h _ _) (canonical_countFld (canonical_orReg h _ _) _ _)) _ _

theorem canonical_teDrew (h : s.canonical = true) (k e n) : (s.teDrew k e n).canonical = true := canonical_ite h (canonical_setTe h _ _)

theorem canonical_takeEngine (h : s.canonical = true) (k) : (s.takeEngine k).2.canonical = true := canonical_setTe h _ _

theorem canonical_queueTrigger (h : s.canonical = true) (k d) : (s.queueTrigger k d).canonical = true := canonical_setTe h _ _

theorem canonical_countArrived (h : s.canonical = true) (k i n) : (s.countArrived k i n).canonical = true :=
  canonical_ite ((canonical_with_discardFlag _ _).trans (canonical_raiseFld (canonical_raiseFld (canonical_setFld h _ _) _) _))
    (canonical_ite (canonical_queueTrigger (canonical_setFld (canonical_setFld h _ _) _ _) _ _) (canonical_setFld h _ _))

theorem canonical_countAll (h : s.canonical = true) (a len) : (s.countAll a len).canonical = true :=
  canonical_foldl _ (fun _ _ hu => canonical_countArrived hu _ _ _) _ _ h

theorem canonical_reducePrep (h : s.canonical = true) (q r) : (s.reducePrep q r).2.canonical = true := by
  unfold State.reducePrep
  refine canonical_meetFlaws ((canonical_plant _ _).trans ?_) _ _ _
  split
  exacts [canonical_flushRange h _ _, h]

theorem canonical_countPoison (h : s.canonical = true) (q r) : (s.countPoison q r).canonical = true := by
  unfold State.countPoison
  split
  exacts [canonical_ite (canonical_countFld h _ _) h, h]

theorem canonical_poisonIn (h : s.canonical = true) (r u) : (s.poisonIn r u).canonical = true := by
  unfold State.poisonIn
  split
  exacts [canonical_setTrapPoison h _ _, canonical_setPoison h _ _]

theorem canonical_reduceNow (h : s.canonical = true) (q f r k) : (s.reduceNow q f r k).2.canonical = true :=
  canonical_teDrew (canonical_teStat (canonical_ite (canonical_foldl _ (fun _ _ hu => canonical_poisonIn hu _ _) _ _
    (canonical_foldl _ (fun _ _ hv => canonical_setByte hv _ _) _ _ (canonical_takeEngine
    (canonical_reducePrep (canonical_countPoison h _ _) _ _) _))) ((canonical_usedFree _ _).trans
    (canonical_foldl _ (fun _ _ hw => canonical_poisonIn hw _ _) _ _ (canonical_foldl _ (fun _ _ hz => canonical_setByte hz _ _) _ _
    (canonical_takeEngine (canonical_reducePrep (canonical_countPoison h _ _) _ _) _))))) _ _ _) _ _ _

theorem canonical_reduceHome (h : s.canonical = true) (q r k) : (s.reduceHome q r k).2.canonical = true := by
  unfold State.reduceHome
  extract_lets _ _ r1
  have hr1 : r1.2.canonical = true := canonical_reduceNow ((canonical_homeGrant _ _ _).trans h) _ _ _ _
  split
  · exact canonical_memEntry (canonical_ite (canonical_errLog h _ _ _ _) h) _ _ _
  · exact canonical_ite hr1 (canonical_memEntry hr1 _ _ _)

theorem canonical_holdReduce (h : s.canonical = true) (k i q) : (s.holdReduce k i q).canonical = true := canonical_setTe h _ _

theorem canonical_reduceWrite (h : s.canonical = true) (internal q) : (s.reduceWrite internal q).2.canonical = true := by
  unfold State.reduceWrite
  dsimp only
  split
  · exact canonical_memEntry (canonical_ite h (canonical_countAll h _ _)) _ _ _
  · split
    · exact canonical_memEntry (canonical_ite h (canonical_countAll h _ _)) _ _ _
    · split
      · split
        · exact canonical_memEntry h _ _ _
        · split
          · split
            · exact canonical_memEntry h _ _ _
            · split
              exacts [canonical_holdReduce h _ _ _, canonical_reduceHome h _ _ _]
          · split
            · exact canonical_memEntry h _ _ _
            · split
              exacts [canonical_holdReduce h _ _ _, canonical_reduceHome h _ _ _]
      · split
        · exact canonical_memEntry (canonical_countAll h _ _) _ _ _
        · split
          · split
            · exact canonical_memEntry (canonical_countAll h _ _) _ _ _
            · split
              exacts [canonical_holdReduce (canonical_countAll h _ _) _ _ _, canonical_reduceHome (canonical_countAll h _ _) _ _ _]
          · split
            · exact canonical_memEntry (canonical_countAll h _ _) _ _ _
            · split
              exacts [canonical_holdReduce (canonical_countAll h _ _) _ _ _, canonical_reduceHome (canonical_countAll h _ _) _ _ _]

/-! #### Operations of Machine/TileMatrix.lean -/

theorem canonical_samplerDraw (h : s.canonical = true) (t) : (s.samplerDraw t).2.canonical = true := (canonical_setTile _ _ _).trans h

theorem canonical_sampleMM (h : s.canonical = true) (t g tag units) : (s.sampleMM t g tag units).2.canonical = true := by
  unfold State.sampleMM
  extract_lets _ _ _ r1 s1 r2 s2
  have hr1 : r1.2.canonical = true := by
    unfold r1
    split
    · exact h
    · split
      · split
        exacts [(canonical_setTile _ _ _).trans h, (canonical_dcAbandon _ _).trans h]
      · exact h
  have hs1 : s1.canonical = true := hr1
  have hr2 : r2.2.canonical = true := canonical_samplerDraw hs1 _
  have hs2 : s2.canonical = true := (canonical_dcUpd _ _ _).trans hr2
  split
  · exact hr1
  · split
    · exact (canonical_dcUpd _ _ _).trans hs1
    · split
      · exact hs1
      · split
        · exact hr2
        · split
          exacts [(canonical_dcUpd _ _ _).trans hs2, (canonical_dcUpd _ _ _).trans ((canonical_setTile _ _ _).trans hs2)]

theorem canonical_panelFlaws (h : s.canonical = true) (t base len) : (s.panelFlaws t base len).2.canonical = true := by
  unfold State.panelFlaws
  split
  · exact h
  · refine canonical_foldl_of Prod.snd _ (fun u x hu => ?_) _ _ ?_
    · exact canonical_meetFlaws hu _ _ _
    · exact h

theorem canonical_issueMM (h : s.canonical = true) (t f) : (s.issueMM t f).canonical = true := by
  unfold State.issueMM
  split
  · exact h
  · exact canonical_schedAt (canonical_schedAt (canonical_ite (canonical_ite
      (canonical_sched (canonical_hold ((canonical_setTile _ _ _).trans (canonical_sampleMM
      (canonical_ite (canonical_tileCause (canonical_ite (canonical_tileCause (canonical_panelFlaws (canonical_panelFlaws h _ _ _) _ _ _)
      _ _ _ _ _) (canonical_panelFlaws (canonical_panelFlaws h _ _ _) _ _ _)) _ _ _ _ _)
      (canonical_ite (canonical_tileCause (canonical_panelFlaws (canonical_panelFlaws h _ _ _) _ _ _) _ _ _ _ _)
      (canonical_panelFlaws (canonical_panelFlaws h _ _ _) _ _ _))) _ _ _ _)) _ _ _) _ _ _)
      (canonical_sched (canonical_sched (canonical_hold ((canonical_setTile _ _ _).trans
      (canonical_sampleMM (canonical_ite (canonical_tileCause (canonical_ite
      (canonical_tileCause (canonical_panelFlaws (canonical_panelFlaws h _ _ _) _ _ _) _ _ _ _ _)
      (canonical_panelFlaws (canonical_panelFlaws h _ _ _) _ _ _)) _ _ _ _ _)
      (canonical_ite (canonical_tileCause (canonical_panelFlaws (canonical_panelFlaws h _ _ _) _ _ _) _ _ _ _ _)
      (canonical_panelFlaws (canonical_panelFlaws h _ _ _) _ _ _))) _ _ _ _)) _ _ _) _ _ _) _ _ _))
      (canonical_hold ((canonical_setTile _ _ _).trans (canonical_sampleMM (canonical_ite
      (canonical_tileCause (canonical_ite (canonical_tileCause (canonical_panelFlaws (canonical_panelFlaws h _ _ _) _ _ _) _ _ _ _ _)
      (canonical_panelFlaws (canonical_panelFlaws h _ _ _) _ _ _)) _ _ _ _ _)
      (canonical_ite (canonical_tileCause (canonical_panelFlaws (canonical_panelFlaws h _ _ _) _ _ _) _ _ _ _ _)
      (canonical_panelFlaws (canonical_panelFlaws h _ _ _) _ _ _))) _ _ _ _)) _ _ _)) _ _ _ _) _ _ _ _

theorem canonical_mmPanelsDone (h : s.canonical = true) (t id) : (s.mmPanelsDone t id).canonical = true := by
  unfold State.mmPanelsDone
  split
  exacts [h, (canonical_setTile _ _ _).trans (canonical_ite h h)]

theorem canonical_mmFinish (h : s.canonical = true) (t id) : (s.mmFinish t id).canonical = true := by
  unfold State.mmFinish
  split
  · exact h
  · extract_lets _ _ _ r1 s1 _ _ _ _ _ s2 _ s3 s4 s5
    have hr1 : r1.2.canonical = true := by
      unfold r1
      split
      exacts [canonical_meetFlaws h _ _ _, h]
    have hs1 : s1.canonical = true := canonical_ite (canonical_tileCause hr1 _ _ _ _ _) hr1
    have hs2 : s2.canonical = true := hs1
    have hs3 : s3.canonical = true := (canonical_setTile _ _ _).trans hs2
    have hs4 : s4.canonical = true := canonical_schedAt hs3 _ _ _ _
    have hs5 : s5.canonical = true := canonical_ite hs4 (canonical_schedAt hs4 _ _ _ _)
    exact canonical_ite (canonical_tileCause hs5 _ _ _ _ _) hs5

theorem canonical_issueShd (h : s.canonical = true) (t f) : (s.issueShd t f).canonical = true :=
  canonical_sched (canonical_hold h _ _ _) _ _ _

theorem canonical_sampleRead (h : s.canonical = true) (t tag u) : (s.sampleRead t tag u).canonical = true := by
  unfold State.sampleRead
  split
  exacts [h, canonical_ite ((canonical_dcAbandon _ _).trans h) h]

theorem canonical_shdReadNow (h : s.canonical = true) (t ord tag sunit u) : (s.shdReadNow t ord tag sunit u).canonical = true :=
  canonical_ite (canonical_schedAt (canonical_ite (canonical_tileCause (canonical_meetFlaws (canonical_sampleRead h _ _ _) _ _ _) _ _ _ _
    _) (canonical_meetFlaws (canonical_sampleRead h _ _ _) _ _ _)) _ _ _ _) (canonical_schedAt
    (canonical_schedAt (canonical_ite (canonical_tileCause (canonical_meetFlaws (canonical_sampleRead h _ _ _) _ _ _) _ _ _ _ _)
    (canonical_meetFlaws (canonical_sampleRead h _ _ _) _ _ _)) _ _ _ _) _ _ _ _)

theorem canonical_issueDrain (h : s.canonical = true) (t f) : (s.issueDrain t f).canonical = true := by
  unfold State.issueDrain
  split
  exacts [canonical_sched (canonical_hold h _ _ _) _ _ _, h]

theorem canonical_drainReadNow (h : s.canonical = true) (t ord d) : (s.drainReadNow t ord d).canonical = true := by
  unfold State.drainReadNow
  extract_lets _ _ _ _ _ r1 s1 _ _ _ _ r2 s2
  have hr1 : r1.2.canonical = true := canonical_meetFlaws h _ _ _
  have hs1 : s1.canonical = true := canonical_ite (canonical_tileCause hr1 _ _ _ _ _) hr1
  have hr2 : r2.2.canonical = true := by
    unfold r2
    split
    · split
      · split
        exacts [(canonical_setTile _ _ _).trans hs1, (canonical_dcAbandon _ _).trans hs1]
      · exact hs1
    · exact hs1
  have hs2 : s2.canonical = true := canonical_schedAt hr2 _ _ _ _
  exact canonical_ite hs2 (canonical_tileCause hs2 _ _ _ _ _)

theorem canonical_drainConvNow (h : s.canonical = true) (t ord q) : (s.drainConvNow t ord q).canonical = true := by
  unfold State.drainConvNow
  extract_lets _ _ _ _ _ _ _ _ _ _ s1 s2 s3 _ _ s4
  have hs1 : s1.canonical = true := by
    unfold s1
    split
    exacts [canonical_tapRecord h _, h]
  have hs2 : s2.canonical = true := canonical_tileDrew hs1 _ _ _
  have hs3 : s3.canonical = true := canonical_schedAt hs2 _ _ _ _
  have hs4 : s4.canonical = true := canonical_ite hs3 (canonical_schedAt hs3 _ _ _ _)
  exact canonical_ite hs4 (canonical_schedAt hs4 _ _ _ _)

theorem canonical_performM (h : s.canonical = true) (t i) : (s.performM t i).canonical = true := by
  unfold State.performM
  split
  exacts [h, canonical_issueMM h _ _, canonical_issueShd h _ _, canonical_issueDrain h _ _]

/-! #### Operations of Machine/TileMover.lean -/

theorem canonical_putXfer (h : s.canonical = true) (t x) : (s.putXfer t x).canonical = true := (canonical_setTile _ _ _).trans h

theorem canonical_sampleConvert (h : s.canonical = true) (t sf df) : (s.sampleConvert t sf df).2.canonical = true := by
  unfold State.sampleConvert
  extract_lets _ _ r1 s1
  have hr1 : r1.2.canonical = true := canonical_samplerDraw h _
  have hs1 : s1.canonical = true := (canonical_dcUpd _ _ _).trans hr1
  split
  · exact h
  · split
    · exact (canonical_dcUpd _ _ _).trans h
    · split
      · exact hr1
      · split <;> exact (canonical_dcUpd _ _ _).trans hs1

theorem canonical_sendReads (h : s.canonical = true) (t x) : (s.sendReads t x).canonical = true :=
  canonical_foldl _ (fun _ _ hu => canonical_sendReq hu _ _ _ _ _ _ _ _ _ _ _) _ _ h

theorem canonical_startReads (h : s.canonical = true) (t x) : (s.startReads t x).canonical = true :=
  canonical_sendReads (canonical_putXfer h _ _) _ _

theorem canonical_issueD (h : s.canonical = true) (t o f) : (s.issueD t o f).canonical = true := by
  unfold State.issueD
  extract_lets _ _ s1 r1 s2 _ _ _ _ _ _ _ _ _ s3
  have hs1 : s1.canonical = true := canonical_wcInc (canonical_hold h _ _ _) _ _
  have hr1 : r1.2.canonical = true := by
    unfold r1
    split
    exacts [canonical_sampleConvert hs1 _ _ _, hs1]
  have hs2 : s2.canonical = true := hr1
  have hs3 : s3.canonical = true := (canonical_setTile _ _ _).trans hs2
  exact canonical_ite (canonical_sendReads hs3 _ _) hs3

theorem canonical_performD (h : s.canonical = true) (t i) : (s.performD t i).canonical = true := by
  unfold State.performD
  split
  exacts [h, canonical_issueD h _ _ _]

theorem canonical_moverRead (h : s.canonical = true) (mid a n hint narrow ecc) :
    (s.moverRead mid a n hint narrow ecc).2.canonical = true := by
  unfold State.moverRead
  refine canonical_foldl_of Prod.snd _ (fun u x hu => ?_) _ _ ?_
  · exact canonical_access hu _
  · exact (canonical_plant _ _).trans h

theorem canonical_poisonAt (h : s.canonical = true) (a) : (s.poisonAt a).canonical = true := by
  unfold State.poisonAt
  dsimp only
  split
  exacts [canonical_setTrapPoison h _ _, h, h, h, h, h, canonical_setPoison h _ _]

theorem canonical_moverWriteN (h : s.canonical = true) (mid a hint narrow ecc ord l) :
    (s.moverWriteN mid a hint narrow ecc ord l).2.canonical = true := by
  unfold State.moverWriteN
  refine canonical_foldl_of Prod.snd _ (fun u x hu => ?_) _ _ ?_
  · exact canonical_ite (canonical_access hu _) (canonical_foldl _ (fun _ _ hv => canonical_poisonAt hv _) _ _ (canonical_access hu _))
  · exact (canonical_plant _ _).trans h

theorem canonical_moverWrite (h : s.canonical = true) (mid a hint narrow ecc ord l) :
    (s.moverWrite mid a hint narrow ecc ord l).2.canonical = true := canonical_moverWriteN h _ _ _ _ _ _ _

theorem canonical_closeConvSample (h : s.canonical = true) (t x) : (s.closeConvSample t x).canonical = true := by
  unfold State.closeConvSample
  split
  exacts [canonical_ite ((canonical_dcUpd _ _ _).trans h) (canonical_tapRecord h _), h]

theorem canonical_putLocal (h : s.canonical = true) (t x l) : (s.putLocal t x l).2.canonical = true := by
  unfold State.putLocal
  refine canonical_foldl_of Prod.snd _ (fun u x hu => ?_) _ _ ?_
  · exact canonical_moverWrite hu _ _ _ _ _ _ _
  · exact h

theorem canonical_putRemote (h : s.canonical = true) (t x op fmt l) : (s.putRemote t x op fmt l).2.canonical = true := by
  unfold State.putRemote
  split
  · exact h
  · refine canonical_foldl_of Prod.snd _ (fun u x hu => ?_) _ _ ?_
    · refine canonical_foldl_of Prod.snd _ (fun v x hv => ?_) _ _ ?_
      · exact canonical_sendReq hv _ _ _ _ _ _ _ _ _ _ _
      · exact hu
    · exact h

theorem canonical_reduceLocal (h : s.canonical = true) (t x l) : (s.reduceLocal t x l).2.canonical = true := by
  unfold State.reduceLocal
  refine canonical_foldl_of Prod.snd _ (fun u x hu => ?_) _ _ ?_
  · refine canonical_foldl_of Prod.snd _ (fun v x hv => ?_) _ _ ?_
    · exact canonical_reduceWrite hv _ _
    · exact hu
  · exact h

theorem canonical_deliver (h : s.canonical = true) (t x src) : (s.deliver t x src).canonical = true := by
  unfold State.deliver
  extract_lets _ s1 _ r1
  have hs1 : s1.canonical = true := canonical_tileDrew (canonical_tileStat h _ _) _ _ _
  have hr1 : r1.2.canonical = true := by
    unfold r1
    split
    · exact canonical_reduceLocal hs1 _ _ _
    · exact canonical_putRemote hs1 _ _ _ _ _
    · exact canonical_putLocal hs1 _ _ _
    · exact canonical_putRemote hs1 _ _ _ _ _
  exact canonical_putXfer hr1 _ _

theorem canonical_writeVersion (h : s.canonical = true) (t ord d v) : (s.writeVersion t ord d v).canonical = true := by
  unfold State.writeVersion
  exact canonical_commitReg h _ _ _ _ _

theorem canonical_versions (h : s.canonical = true) (t x) : (s.versions t x).canonical = true := by
  unfold State.versions
  split
  · split
    exacts [canonical_writeVersion h _ _ _ _, h]
  · split
    exacts [canonical_writeVersion h _ _ _ _, h]
  · exact h

theorem canonical_xferCause (h : s.canonical = true) (t x c) : (s.xferCause t x c).canonical = true :=
  canonical_ite (canonical_memEvent (canonical_tileCause h _ _ _ _ _) _ _ _) (canonical_tileCause h _ _ _ _ _)

theorem canonical_finishXfer (h : s.canonical = true) (t x) : (s.finishXfer t x).canonical = true :=
  canonical_wcDec ((canonical_setTile _ _ _).trans (canonical_closeConvSample
    (canonical_foldl _ (fun _ _ hu => canonical_xferCause hu _ _ _) _ _ (canonical_versions h _ _)) _ _)) _ _

theorem canonical_tryFinish (h : s.canonical = true) (t id) : (s.tryFinish t id).canonical = true := by
  unfold State.tryFinish
  split
  exacts [canonical_ite (canonical_finishXfer h _ _) h, h]

theorem canonical_xferRead (h : s.canonical = true) (t id off len resp code) : (s.xferRead t id off len resp code).canonical = true := by
  unfold State.xferRead
  split
  · exact h
  · extract_lets _ _ _ _ r1 _ _ s1
    have hr1 : r1.2.canonical = true := by
      unfold r1
      split
      exacts [canonical_putLocal h _ _ _, h]
    have hs1 : s1.canonical = true := canonical_putXfer hr1 _ _
    exact canonical_ite hs1 (canonical_ite (canonical_tryFinish (canonical_putXfer hs1 _ _) _ _)
      (canonical_tryFinish (canonical_deliver hs1 _ _ _) _ _))

theorem canonical_xferAcked (h : s.canonical = true) (t id off code) : (s.xferAcked t id off code).canonical = true := by
  unfold State.xferAcked
  split
  exacts [h, canonical_tryFinish (canonical_putXfer h _ _) _ _]

/-! #### Operations of Machine/Wings.lean -/

theorem canonical_flushAll (h : s.canonical = true) : s.flushAll.canonical = true :=
  canonical_foldl _ (fun _ _ hu => canonical_flushLine hu _) _ _ h

theorem canonical_cacheResize (h : s.canonical = true) (v) : (s.cacheResize v).canonical = true :=
  canonical_ite h (canonical_flushAll (canonical_setFld (canonical_setFld h _ _) _ _))

theorem canonical_reduceAck (h : s.canonical = true) (o addr bytes code) : (s.reduceAck o addr bytes code).canonical = true := by
  unfold State.reduceAck
  split
  exacts [canonical_xferAcked h _ _ _ _, canonical_ackTo h _ _ _ _ _, (canonical_send _ _).trans h]

theorem canonical_engineZero (h : s.canonical = true) (k a n) : (s.engineZero k a n).canonical = true :=
  (canonical_with_passRanges _ _).trans (canonical_foldl _ (fun _ _ hu => canonical_moverWrite (canonical_takeEngine hu _) _ _ _ _ _ _ _)
    _ _ ((canonical_with_passRanges _ _).trans (canonical_flushRange h _ _)))

theorem canonical_addHeld (h : s.canonical = true) (k x) : (s.addHeld k x).canonical = true := by
  unfold State.addHeld
  split
  exacts [canonical_holdReduce h _ _ _, canonical_reduceAck (canonical_reduceHome h _ _ _) _ _ _ _]

theorem canonical_sliceUncorr (h : s.canonical = true) (d) : (s.sliceUncorr d).canonical = true := by
  unfold State.sliceUncorr
  extract_lets _ _ s1
  have hs1 : s1.canonical = true := canonical_countFld ((canonical_usedFree _ _).trans h) _ _
  split
  exacts [canonical_setTrapPoison hs1 _ _, hs1]

theorem canonical_scrub (h : s.canonical = true) (addr ecc) : (s.scrub addr ecc).canonical = true := by
  unfold State.scrub
  dsimp only
  split
  · exact canonical_ite h (canonical_ite (canonical_ite (canonical_stackUncorr
      (canonical_ite (canonical_watchError (canonical_ite (canonical_countFld ((canonical_homeGrant _ _ _).trans h) _ _)
      ((canonical_homeGrant _ _ _).trans h)) _ _ _ _) (canonical_ite (canonical_countFld ((canonical_homeGrant _ _ _).trans h) _ _)
      ((canonical_homeGrant _ _ _).trans h))) _ _ _) (canonical_ite (canonical_watchError
      (canonical_ite (canonical_countFld ((canonical_homeGrant _ _ _).trans h) _ _) ((canonical_homeGrant _ _ _).trans h)) _ _ _ _)
      (canonical_ite (canonical_countFld ((canonical_homeGrant _ _ _).trans h) _ _) ((canonical_homeGrant _ _ _).trans h))))
      (canonical_meetFlaws ((canonical_plant _ _).trans (canonical_ite (canonical_countFld ((canonical_homeGrant _ _ _).trans h) _ _)
      ((canonical_homeGrant _ _ _).trans h))) _ _ _))
  · exact canonical_meetFlaws ((canonical_plant _ _).trans ((canonical_homeGrant _ _ _).trans h)) _ _ _
  · split
    · exact canonical_ite (canonical_sliceUncorr (canonical_ite (canonical_countFld ((canonical_homeGrant _ _ _).trans h) _ _)
        ((canonical_homeGrant _ _ _).trans h)) _) (canonical_ite (canonical_countFld ((canonical_homeGrant _ _ _).trans h) _ _)
        ((canonical_homeGrant _ _ _).trans h))
    · exact h

theorem canonical_tripDie (h : s.canonical = true) (die) : (s.tripDie die).canonical = true :=
  canonical_reportLost (canonical_setFld (canonical_setFld (canonical_ite h (canonical_health
    (canonical_hostEvent ((canonical_with_power _ _).trans h) _ _ _) _)) _ _) _ _) _

/-! #### Operations of Machine/TrapDesc.lean -/

theorem canonical_setPass (h : s.canonical = true) : s.setPass.canonical = true := h

theorem canonical_setBusy (h : s.canonical = true) (k) : (s.setBusy k).canonical = true := canonical_setFld h _ _

theorem canonical_setBoothQ (h : s.canonical = true) (k q) : (s.setBoothQ k q).canonical = true :=
  canonical_setFld (canonical_setTe h _ _) _ _

theorem canonical_unqueue (h : s.canonical = true) (k src d) : (s.unqueue k src d).canonical = true := by
  unfold State.unqueue
  split
  exacts [canonical_setTe h _ _, canonical_setBoothQ h _ _, canonical_setTe h _ _]

theorem canonical_handUnit (h : s.canonical = true) (k) : (s.handUnit k).canonical = true := by
  unfold State.handUnit
  extract_lets
  split
  exacts [canonical_setTe h _ _, h]

theorem canonical_handUnits (h : s.canonical = true) (k) : (s.handUnits k).canonical = true :=
  canonical_setBusy (canonical_foldl _ (fun _ _ hu => canonical_handUnit hu _) _ _ h) _

theorem canonical_shardEntryWrite (h : s.canonical = true) (k i v) : (s.shardEntryWrite k i v).canonical = true :=
  canonical_ite (canonical_regWrite h _ _ _ _) (canonical_ite (canonical_regWrite h _ _ _ _)
    (canonical_raiseFld (canonical_setFld (canonical_regWrite h _ _ _ _) _ _) _))

theorem canonical_bqPost (h : s.canonical = true) (k) : (s.bqPost k).canonical = true :=
  canonical_ite (canonical_raiseFld h _) (canonical_setBoothQ h _ _)

theorem canonical_optDone (h : s.canonical = true) (k r sum) : (s.optDone k r sum).canonical = true :=
  canonical_ite (canonical_setFld (canonical_setReg (canonical_setReg (canonical_teStat
    ((canonical_usedFree _ _).trans (canonical_setFld h _ _)) _ _ _) _ _) _ _) _ _) (canonical_setFld h _ _)

/-! #### Operations of Machine/TrapEngine.lean -/

/-! #### A work unit of a trap engine: the state it carries -/

theorem canonical_unitRead {u : TeUnit} (h : u.s.canonical = true) (a lo hi) : (u.read a lo hi).2.s.canonical = true :=
  canonical_foldl_of (fun p : _ × TeUnit => p.2.s) _ (fun _ _ hp => canonical_moverRead hp _ _ _ _ _ _) _ _ h

theorem canonical_unitWrite {u : TeUnit} (h : u.s.canonical = true) (base free l) : (u.write base free l).s.canonical = true := by
  unfold TeUnit.write
  refine canonical_foldl_of TeUnit.s _ (fun _ _ hv => canonical_moverWrite hv _ _ _ _ _ _ _) _ _ ?_
  split
  · exact (canonical_usedFree _ _).trans h
  · exact h

theorem canonical_unitStore {u : TeUnit} (h : u.s.canonical = true) (a lo fromInt free vals bad) :
    (u.store a lo fromInt free vals bad).2.s.canonical = true := by
  unfold TeUnit.store
  extract_lets
  split
  · exact h
  · exact canonical_unitWrite (canonical_teDrew (canonical_teStat ((canonical_usedFree _ _).trans h) _ _ _) _ _ _) _ _ _

theorem canonical_unitReport {u : TeUnit} (h : u.s.canonical = true) (flags) : (u.report flags).s.canonical = true :=
  canonical_teStat h _ _ _

theorem canonical_unitFinish {u : TeUnit} (h : u.s.canonical = true) (n poison) : (u.finish n poison).s.canonical = true := by
  unfold TeUnit.finish
  extract_lets
  split
  · exact canonical_memEntry h _ _ _
  · exact h

theorem canonical_unit_ite {c : Prop} [Decidable c] {u v : TeUnit} (hu : u.s.canonical = true) (hv : v.s.canonical = true) :
    (if c then u else v).s.canonical = true := by
  split
  · exact hu
  · exact hv

theorem canonical_unitRead_ite {c : Prop} [Decidable c] {u : TeUnit} (h : u.s.canonical = true) (a lo hi) :
    (if c then u.read a lo hi else ([], u)).2.s.canonical = true := by
  split
  · exact canonical_unitRead h _ _ _
  · exact h

theorem canonical_optUnit (d) {u : TeUnit} (lo hi) (h : u.s.canonical = true) : (optUnit d u lo hi).unit.s.canonical = true := by
  unfold optUnit
  extract_lets _ _ _ _ _ _ _ _ _ _ _ _ _ _ _ _ rP rR rM rV rG _ _ _ _ _ _ _ _ _ _ _ _ wP _ v1 v2 v3 v4
  have hP : rP.2.s.canonical = true := canonical_unitRead h _ _ _
  have hR : rR.2.s.canonical = true := canonical_unitRead_ite hP _ _ _
  have hM : rM.2.s.canonical = true := canonical_unitRead_ite hR _ _ _
  have hV : rV.2.s.canonical = true := canonical_unitRead_ite hM _ _ _
  have hG : rG.2.s.canonical = true := canonical_unitRead hV _ _ _
  have hW : wP.2.s.canonical = true := canonical_unitStore (canonical_unitReport hG _) _ _ _ _ _ _
  have h1 : v1.s.canonical = true := canonical_unit_ite (canonical_unitStore (canonical_unitReport hW _) _ _ _ _ _ _) hW
  have h2 : v2.s.canonical = true := canonical_unit_ite (canonical_unitStore h1 _ _ _ _ _ _) h1
  have h3 : v3.s.canonical = true := canonical_unit_ite (canonical_unitStore h2 _ _ _ _ _ _) h2
  exact canonical_unitFinish (canonical_unit_ite (canonical_unitWrite h3 _ _ _) h3) _ _

theorem canonical_convertUnit (d) {u : TeUnit} (lo hi) (h : u.s.canonical = true) : (convertUnit d u lo hi).unit.s.canonical = true := by
  have hr := canonical_unitRead h ⟨d.addrA, d.fmtA.getD ⟨.b64, 0, false, 0⟩, d.count⟩ lo hi
  refine canonical_unitFinish (canonical_unit_ite ?_ (canonical_unitStore hr _ _ _ _ _ _)) _ _
  exact canonical_unitWrite (canonical_teDrew (canonical_unitReport hr _) _ _ _) _ _ _

theorem canonical_fillUnit (d) {u : TeUnit} (lo hi) (h : u.s.canonical = true) : (fillUnit d u lo hi).unit.s.canonical = true :=
  canonical_unitFinish (canonical_unitWrite h _ _ _) _ _

theorem canonical_axpyUnit (d) {u : TeUnit} (lo hi) (h : u.s.canonical = true) : (axpyUnit d u lo hi).unit.s.canonical = true :=
  canonical_unitFinish (canonical_unitStore (canonical_unitReport (canonical_unitRead (canonical_unitRead h _ _ _) _ _ _) _) _ _ _ _ _ _)
    _ _

theorem canonical_normUnit (d) {u : TeUnit} (lo hi) (h : u.s.canonical = true) : (normUnit d u lo hi).unit.s.canonical = true := by
  unfold normUnit
  extract_lets a r idx sq _ v
  have hr : r.2.s.canonical = true := canonical_unitRead h _ _ _
  have hv : v.s.canonical = true :=
    canonical_teStat (s := r.2.s.usedFree (hi - lo)) ((canonical_usedFree r.2.s _).trans hr) _ _ _
  clear_value v
  exact canonical_unitFinish hv _ _

theorem canonical_parityUnit (d) {u : TeUnit} (lo hi) (h : u.s.canonical = true) : (parityUnit d u lo hi).unit.s.canonical = true := by
  unfold parityUnit
  extract_lets _ _ _ _ _ _ _ _ _ rd f b _ _ _ v1 _ _ v2 _ _ v3
  have hrd : ∀ v copy, v.s.canonical = true → (rd v copy).2.s.canonical = true := fun v copy hv =>
    canonical_foldl_of (fun p : _ × TeUnit => p.2.s) _ (fun _ _ hp => canonical_moverRead hp _ _ _ _ _ _) _ _ hv
  have h1 : v1.s.canonical = true := canonical_unitWrite (hrd _ _ (hrd _ _ h)) _ _ _
  have h3 : v3.s.canonical = true := canonical_unitWrite h1 _ _ _
  clear_value v3
  exact canonical_unitFinish h3 _ _

theorem canonical_runUnit (h : s.canonical = true) (k r ecc op) {f : TeDesc → TeUnit → Nat → Nat → UnitOut}
    (hf : ∀ d (u : TeUnit) lo hi, u.s.canonical = true → (f d u lo hi).unit.s.canonical = true) : (s.runUnit k r ecc op f).canonical =
      true := by
  unfold State.runUnit
  split
  · exact h
  · split
    · exact h
    · exact canonical_ite h (canonical_handUnits (canonical_setTe (hf _ _ _ _ ((canonical_plant _ _).trans h)) _ _) _)

theorem canonical_clipResolve (h : s.canonical = true) (k v) : (s.clipResolve k v).canonical = true :=
  canonical_ite h (canonical_ite ((canonical_with_discardFlag _ _).trans (canonical_raiseFld
    (canonical_setReg ((canonical_usedFree _ _).trans (canonical_setFld (canonical_setReg h _ _) _ _)) _ _) _))
    (canonical_foldl _ (fun _ _ hu => canonical_ite (canonical_setFld (canonical_ite (canonical_engineZero hu _ _ _) hu) _ _)
    (canonical_setTe (canonical_queueTrigger hu _ _) _ _)) _ _ (canonical_setReg
    ((canonical_usedFree _ _).trans (canonical_setFld (canonical_setReg h _ _) _ _)) _ _)))

/-! #### Operations of Machine/DressCheck.lean -/

theorem canonical_putEnc (h : s.canonical = true) (a c) : (s.putEnc a c).canonical = true :=
  canonical_setReg (canonical_setReg (canonical_setReg (canonical_setReg h _ _) _ _) _ _) _ _

theorem canonical_dcDie (h : s.canonical = true) (d) : (s.dcDie d).canonical = true :=
  (canonical_with_dc _ _).trans (canonical_foldl _ (fun _ _ hu => canonical_setReg (canonical_setReg hu _ _) _ _) _ _
    (canonical_setFld (canonical_setFld (canonical_setFld (canonical_setFld (canonical_setFld
    (canonical_setFld (canonical_setFld h _ _) _ _) _ _) _ _) _ _) _ _) _ _))

theorem canonical_dcSnapshot (h : s.canonical = true) : s.dcSnapshot.canonical = true := by
  unfold State.dcSnapshot
  extract_lets s1 s2 s3 s4 s5
  have h2 : s2.canonical = true := canonical_filter_regs (s := s1) (canonical_of_stores (s := s) rfl rfl rfl h) _
  have h3 : s3.canonical = true :=
    canonical_foldl _ (fun _ _ hu => canonical_ite hu ((canonical_setTile _ _ _).trans (canonical_putEnc hu _ _))) _ _ h2
  have h4 : s4.canonical = true :=
    canonical_foldl _ (fun _ _ hu => canonical_setTe (canonical_foldl _ (fun _ _ hv => canonical_putEnc hv _ _) _ _ hu) _ _) _ _ h3
  exact canonical_setReg (canonical_foldl _ (fun _ _ hu => canonical_dcDie hu _) _ _ h4) _ _

theorem canonical_dcReport (h : s.canonical = true) (word) : (s.dcReport word).canonical = true := by
  unfold State.dcReport
  split
  · exact h
  · split
    · exact h
    · extract_lets _ _ _ s1
      have hs1 : s1.canonical = true := h
      exact canonical_ite (canonical_putStatus hs1 _ _ _) hs1

theorem canonical_dcEvent (h : s.canonical = true) (kind source value) : (s.dcEvent kind source value).canonical = true :=
  canonical_dcReport (canonical_event h _ _ _) _

theorem canonical_reseedSamplers (h : s.canonical = true) : s.reseedSamplers.canonical = true :=
  canonical_foldl _ (fun _ _ hu => (canonical_setTile _ _ _).trans hu) _ _ h

theorem canonical_dcCtlWrite (h : s.canonical = true) (off len v) : (s.dcCtlWrite off len v).canonical = true :=
  canonical_ite (canonical_regWrite h _ _ _ _) (canonical_reseedSamplers (canonical_regWrite h _ _ _ _))

theorem canonical_dcAreaWrite (h : s.canonical = true) (d off len v) : (s.dcAreaWrite d off len v).canonical = true :=
  canonical_ite (canonical_setFld (canonical_regWrite h _ _ _ _) _ _) (canonical_regWrite h _ _ _ _)

/-! #### Operations of Machine/BoothOps.lean -/

theorem canonical_setCore (h : s.canonical = true) (n c) : (s.setCore n c).canonical = true := h

theorem canonical_coreVector (h : s.canonical = true) (n c code) : (s.coreVector n c code).canonical = true :=
  (canonical_usedFree _ _).trans (canonical_setCore h _ _)

theorem canonical_coreDone (h : s.canonical = true) (n ld v code) : (s.coreDone n ld v code).canonical = true :=
  canonical_ite (canonical_coreVector h _ _ _) (canonical_setCore h _ _)

/-! #### Operations of Machine/FabColl.lean -/

theorem canonical_ceRead (h : s.canonical = true) (base n lo hi f) : (s.ceRead base n lo hi f).2.canonical = true := by
  unfold State.ceRead
  split
  · exact h
  · refine canonical_foldl_of Prod.snd _ (fun u x hu => ?_) _ _ ?_
    · exact canonical_moverRead hu _ _ _ _ _ _
    · exact h

theorem canonical_ceWrite (h : s.canonical = true) (base n lo hi f l) : (s.ceWrite base n lo hi f l).2.canonical = true := by
  unfold State.ceWrite
  split
  · exact h
  · refine canonical_foldl_of (fun p : _ × _ × State => p.2.2) _ (fun u x hu => ?_) _ _ ?_
    · exact canonical_moverWrite hu _ _ _ _ _ _ _
    · exact h

theorem canonical_sendPiece (h : s.canonical = true) (r p l) : (s.sendPiece r p l).2.canonical = true := by
  unfold State.sendPiece
  extract_lets _ s1
  have hs1 : s1.canonical = true := canonical_sendReq h _ _ _ _ _ _ _ _ _ _ _
  split
  · exact h
  · split
    · exact (canonical_with_fab _ _).trans hs1
    · refine canonical_foldl_of Prod.snd _ (fun u x hu => ?_) _ _ ?_
      · extract_lets
        exact canonical_sendReq hu _ _ _ _ _ _ _ _ _ _ _
      · exact h

theorem canonical_ceCombine (h : s.canonical = true) (r x y) : (s.ceCombine r x y).2.2.canonical = true := by
  unfold State.ceCombine
  split
  exacts [(canonical_usedFree _ _).trans h, (canonical_usedFree _ _).trans h, h]

theorem canonical_placeShare (h : s.canonical = true) (r share l) : (s.placeShare r share l).2.canonical = true := by
  unfold State.placeShare
  dsimp only
  split
  · exact canonical_ceWrite h _ _ _ _ _ _
  · split <;> exact canonical_ceWrite h _ _ _ _ _ _

theorem canonical_cePublish (h : s.canonical = true) (r) : (s.cePublish r).2.canonical = true := by
  unfold State.cePublish
  dsimp only
  split
  · exact h
  · split
    · refine canonical_foldl_of Prod.snd _ (fun u x hu => ?_) _ _ ?_
      · exact canonical_sendPiece hu _ _ _
      · exact canonical_placeShare h _ _ _
    · split
      · exact canonical_placeShare h _ _ _
      · split
        · refine canonical_foldl_of Prod.snd _ (fun u x hu => ?_) _ _ ?_
          · exact canonical_sendPiece hu _ _ _
          · exact canonical_placeShare ((canonical_usedFree _ _).trans h) _ _ _
        · exact h

theorem canonical_ceTake (h : s.canonical = true) (r p l) : (s.ceTake r p l).2.canonical = true := by
  unfold State.ceTake
  split
  · exact canonical_placeShare h _ _ _
  · split
    exacts [canonical_cePublish h _, canonical_cePublish (canonical_ceCombine h _ _ _) _]

theorem canonical_cePiece (h : s.canonical = true) (r p l) : (s.cePiece r p l).2.canonical = true := by
  unfold State.cePiece
  dsimp only
  split
  · exact canonical_sendPiece h _ _ _
  · split
    exacts [h, canonical_ceTake h _ _ _]

theorem canonical_putRun (h : s.canonical = true) (r) : (s.putRun r).canonical = true := h

theorem canonical_ceFree (h : s.canonical = true) : s.ceFree.canonical = true := canonical_setFld (canonical_setFld h _ _) _ _

theorem canonical_cePost (h : s.canonical = true) (q) : (s.cePost q).canonical = true :=
  canonical_ite (canonical_raiseFld h _) (canonical_ceFree h)

theorem canonical_ceEarly (h : s.canonical = true) (r) : (s.ceEarly r).2.canonical = true := by
  unfold State.ceEarly
  dsimp only
  split
  · exact (canonical_with_fab _ _).trans h
  · refine canonical_foldl_of Prod.snd _ (fun u x hu => ?_) _ _ ?_
    · exact canonical_cePiece hu _ _ _
    · exact (canonical_with_fab _ _).trans h

theorem canonical_sendCollCtrl (h : s.canonical = true) (set num dst stop) : (s.sendCollCtrl set num dst stop).canonical = true := h

theorem canonical_ceBegin (h : s.canonical = true) (r) : (s.ceBegin r).2.canonical = true := by
  unfold State.ceBegin
  refine canonical_ceEarly (canonical_cePublish ?_ _) _
  split
  · refine canonical_foldl_of Prod.snd _ (fun u x hu => ?_) _ _ ?_
    · dsimp only
      split
      exacts [canonical_ceRead hu _ _ _ _ _, canonical_sendPiece (canonical_ceRead hu _ _ _ _ _) _ _ _]
    · exact h
  · split
    · refine canonical_foldl_of Prod.snd _ (fun u x hu => ?_) _ _ ?_
      · exact canonical_sendPiece hu _ _ _
      · exact canonical_placeShare (canonical_ceRead h _ _ _ _ _) _ _ _
    · split
      · split
        · refine canonical_foldl_of Prod.snd _ (fun u x hu => ?_) _ _ ?_
          · exact canonical_sendPiece hu _ _ _
          · exact canonical_placeShare (canonical_ceRead h _ _ _ _ _) _ _ _
        · exact h
      · split
        · dsimp only
          split
          exacts [canonical_ceRead h _ _ _ _ _, canonical_sendPiece (canonical_ceRead h _ _ _ _ _) _ _ _]
        · split
          · exact canonical_foldl _ (fun _ _ hu => canonical_sendCollCtrl hu _ _ _ _) _ _ h
          · split
            · refine canonical_foldl_of Prod.snd _ (fun u x hu => ?_) _ _ ?_
              · dsimp only
                split
                · exact canonical_moverWrite (canonical_moverRead hu _ _ _ _ _ _) _ _ _ _ _ _ _
                · split
                  · exact canonical_moverRead hu _ _ _ _ _ _
                  · refine canonical_foldl_of Prod.snd _ (fun v x hv => ?_) _ _ ?_
                    · exact canonical_sendReq hv _ _ _ _ _ _ _ _ _ _ _
                    · exact canonical_moverRead hu _ _ _ _ _ _
              · exact h
            · exact h

theorem canonical_ceRow (h : s.canonical = true) (r op) : (s.ceRow r op).canonical = true := by
  unfold State.ceRow
  split
  exacts [h, canonical_ite h (canonical_putRun (canonical_ceBegin h _) _)]

theorem canonical_collCtrl (h : s.canonical = true) (set num src) : (s.collCtrl set num src).canonical = true := by
  unfold State.collCtrl
  split
  exacts [canonical_putRun h _, h]

theorem canonical_collFail (h : s.canonical = true) (set num lost) : (s.collFail set num lost).canonical = true := by
  unfold State.collFail
  split
  · exact h
  · exact canonical_ite ((canonical_with_discardFlag _ _).trans (canonical_putRun h _))
      (canonical_foldl _ (fun _ _ hu => canonical_ite hu (canonical_sendCollCtrl hu _ _ _ _)) _ _
      ((canonical_with_discardFlag _ _).trans (canonical_putRun h _)))

theorem canonical_collStopped (h : s.canonical = true) (set num) : (s.collStopped set num).canonical = true := by
  unfold State.collStopped
  split
  exacts [h, (canonical_with_discardFlag _ _).trans (canonical_putRun h _)]

theorem canonical_collAck (h : s.canonical = true) (set num code dst) : (s.collAck set num code dst).canonical = true := by
  unfold State.collAck
  split
  exacts [h, canonical_ite (canonical_collFail (canonical_putRun h _) _ _ _) (canonical_putRun h _)]

theorem canonical_collLost (h : s.canonical = true) (seat) : (s.collLost seat).canonical = true := h

/-! #### Operations of Machine/TileSync.lean -/

theorem canonical_setFence (h : s.canonical = true) (t k) : (s.setFence t k).canonical = true :=
  canonical_setFld ((canonical_setTile _ _ _).trans h) _ _

theorem canonical_performS (h : s.canonical = true) (t i) : (s.performS t i).canonical = true := by
  unfold State.performS
  split
  · exact h
  · exact h
  · exact canonical_setFence h _ _
  · exact canonical_posts (canonical_hold h _ _ _) _ _
  · exact canonical_schedX (canonical_takeNotice (canonical_hold h _ _ _) _) _ _ _ _
  · exact canonical_noteSwap (canonical_setIssueAt (canonical_sched h _ _ _) _ _) _ _
  · exact (canonical_setTile _ _ _).trans h

theorem canonical_runS (h : s.canonical = true) (t i) : (s.runS t i).canonical = true :=
  canonical_ite (canonical_setFld h _ _) (canonical_issueAlone h _ _ (fun _ hu => canonical_performS hu _ _))

theorem canonical_fillTrap (h : s.canonical = true) (t r) : (s.fillTrap t r).canonical = true :=
  canonical_setReg (canonical_setReg (canonical_setReg (canonical_setReg h _ _) _ _) _ _) _ _

theorem canonical_enterTrap (h : s.canonical = true) (t r) : (s.enterTrap t r).canonical = true :=
  canonical_ite (canonical_haltTile ((canonical_setTile _ _ _).trans h) _ _ _ _ _ _ _ _)
    (canonical_ite (canonical_haltTile ((canonical_setTile _ _ _).trans h) _ _ _ _ _ _ _ _)
    (canonical_ite (canonical_setIssueAt (canonical_setResume (canonical_fillTrap
    ((canonical_with_now _ _).trans ((canonical_setTile _ _ _).trans h)) _ _) _ _) _ _)
    (canonical_setFld (canonical_setIssueAt (canonical_setResume (canonical_fillTrap
    ((canonical_with_now _ _).trans ((canonical_setTile _ _ _).trans h)) _ _) _ _) _ _) _ _)))

theorem canonical_finishGlobal (h : s.canonical = true) (t g v code) : (s.finishGlobal t g v code).canonical = true := by
  unfold State.finishGlobal
  refine canonical_wcDec ((canonical_setTile _ _ _).trans (canonical_ite ?_ (canonical_tileCause ?_ _ _ _ _ _))) _ _
  · split
    exacts [canonical_ite (canonical_commitReg h _ _ _ _ _) (canonical_ite h (canonical_commitReg h _ _ _ _ _)), h]
  · split
    exacts [canonical_ite (canonical_commitReg h _ _ _ _ _) (canonical_ite h (canonical_commitReg h _ _ _ _ _)), h]

/-! #### Operations of Machine/FabLink.lean -/

theorem canonical_reqDone (h : s.canonical = true) (r code resp) : (s.reqDone r code resp).canonical = true := by
  unfold State.reqDone
  extract_lets _ s1 s2
  have hs1 : s1.canonical = true := (canonical_with_fab _ _).trans h
  have hs2 : s2.canonical = true := by
    unfold s2
    split
    exacts [canonical_moverWrite hs1 _ _ _ _ _ _ _, hs1]
  split
  · exact canonical_ite (canonical_xferRead hs1 _ _ _ _ _ _) (canonical_xferAcked hs1 _ _ _ _)
  · split
    · exact hs1
    · split <;> exact canonical_finishGlobal hs1 _ _ _ _
  · exact canonical_collAck hs1 _ _ _ _
  · exact (canonical_with_fab _ _).trans hs2
  · exact (canonical_with_fab _ _).trans hs1
  · split <;> exact canonical_coreDone hs1 _ _ _ _

theorem canonical_reqLost (h : s.canonical = true) (tag code) : (s.reqLost tag code).canonical = true := by
  unfold State.reqLost
  split
  · split
    exacts [canonical_collFail h _ _ _, h]
  · exact canonical_ite (canonical_reqDone h _ _ _) ((canonical_with_discardFlag _ _).trans (canonical_reqDone h _ _ _))

theorem canonical_seatGone (h : s.canonical = true) (seat) : (s.seatGone seat).canonical = true :=
  canonical_collLost (canonical_foldl _ (fun _ _ hu => canonical_reqLost hu _ _) _ _ h) _

theorem canonical_loseSeat (h : s.canonical = true) (seat) : (s.loseSeat seat).canonical = true :=
  canonical_ite h (canonical_seatGone (canonical_reportLost h _) _)

theorem canonical_lostByRoute (h : s.canonical = true) : s.lostByRoute.canonical = true :=
  canonical_foldl _ (fun _ _ hu => canonical_ite hu (canonical_loseSeat hu _)) _ _ h

theorem canonical_holdRoute (h : s.canonical = true) (g) : (s.holdRoute g).canonical = true := h

theorem canonical_setVia (h : s.canonical = true) (f g v) : (s.setVia f g v).canonical = true :=
  canonical_ite h (canonical_holdRoute (canonical_setFld h _ _) _)

theorem canonical_reroutePaths (h : s.canonical = true) : s.reroutePaths.canonical = true := by
  unfold State.reroutePaths
  refine canonical_foldl _ (fun u x hu => canonical_ite (canonical_setVia hu _ _ _) ?_) _ _ h
  split
  exacts [hu, canonical_setVia hu _ _ _]

theorem canonical_rerouteCompany (h : s.canonical = true) : s.rerouteCompany.canonical = true := by
  unfold State.rerouteCompany
  refine canonical_ite h (canonical_foldl _ (fun u x hu => canonical_ite hu (canonical_ite (canonical_setVia hu _ _ _) ?_)) _ _ h)
  split
  exacts [hu, canonical_setVia hu _ _ _]

theorem canonical_reroute (h : s.canonical = true) : s.reroute.canonical = true := canonical_rerouteCompany (canonical_reroutePaths h)

theorem canonical_portBits (h : s.canonical = true) (p up degraded) : (s.portBits p up degraded).canonical = true :=
  canonical_setFld (canonical_setFld h _ _) _ _

theorem canonical_freeFlits (h : s.canonical = true) (inp vc n) : (s.freeFlits inp vc n).canonical = true :=
  canonical_ite h (canonical_setPort h _ _)

theorem canonical_freeInput (h : s.canonical = true) (inp vc k) : (s.freeInput inp vc k).canonical = true := canonical_freeFlits h _ _ _

theorem canonical_settleCtl (h : s.canonical = true) : s.settleCtl.canonical = true :=
  canonical_foldl _ (fun _ _ hu => canonical_ite hu (canonical_setPort hu _ _)) _ _ h

theorem canonical_ctlTaken (h : s.canonical = true) (p hi m) : (s.ctlTaken p hi m).canonical = true :=
  canonical_ite (canonical_setPort h _ _) (canonical_setPort h _ _)

theorem canonical_linkDrop (h : s.canonical = true) (p) : (s.linkDrop p).canonical = true := by
  unfold State.linkDrop
  refine canonical_fbEvent (canonical_foldl _ (fun _ _ hu => canonical_reqLost hu _ _) _ _
    (canonical_setFld (canonical_setFld (canonical_portBits (canonical_setReg (canonical_settleCtl (canonical_setPort ?_ _ _)) _ _) _ _
    _) _ _) _ _)) _ _
  split
  · exact canonical_freeFlits (canonical_foldl _ (fun _ _ hu => canonical_freeInput hu _ _ _) _ _ h) _ _ _
  · exact canonical_foldl _ (fun _ _ hu => canonical_freeInput hu _ _ _) _ _ h

theorem canonical_portTo (h : s.canonical = true) (p st) : (s.portTo p st).canonical = true :=
  canonical_ite (canonical_lostByRoute (canonical_reroute (canonical_linkDrop (canonical_setFld h _ _) _)))
    (canonical_setPort (canonical_setFld h _ _) _ _)

theorem canonical_showTickets (h : s.canonical = true) (p) : (s.showTickets p).canonical = true := canonical_setReg h _ _

theorem canonical_portCfgWrite (h : s.canonical = true) (p v) : (s.portCfgWrite p v).canonical = true := by
  unfold State.portCfgWrite
  extract_lets _ s1
  have hs1 : s1.canonical = true := canonical_setFld (canonical_setFld h _ _) _ _
  exact canonical_ite (canonical_portTo hs1 _ _) (canonical_ite (canonical_portTo hs1 _ _) (canonical_ite (canonical_portTo hs1 _ _) hs1))

theorem canonical_sendFlit (h : s.canonical = true) (p vc sop eop body tag) : (s.sendFlit p vc sop eop body tag).canonical = true :=
  (canonical_send _ _).trans (canonical_setPort h _ _)

theorem canonical_askRetry (h : s.canonical = true) (p) : (s.askRetry p).canonical = true :=
  canonical_countFld (canonical_setPort h _ _) _ _

theorem canonical_refuseFlit (h : s.canonical = true) (p) : (s.refuseFlit p).canonical = true := canonical_ite h (canonical_askRetry h _)

theorem canonical_flitIn (h : s.canonical = true) (p f fecCorr fecUncorr) : (s.flitIn p f fecCorr fecUncorr).1.canonical = true := by
  unfold State.flitIn
  extract_lets s1 _ s2
  have hs1 : s1.canonical = true := canonical_countFld (canonical_countFld h _ _) _ _
  have hs2 : s2.canonical = true := canonical_setPort hs1 _ _
  split
  · exact canonical_refuseFlit (canonical_countFld hs1 _ _) _
  · split
    · exact canonical_refuseFlit hs2 _
    · split
      · exact canonical_setPort hs2 _ _
      · split <;> exact canonical_setPort hs2 _ _

theorem canonical_retryIn (h : s.canonical = true) (p seq) : (s.retryIn p seq).canonical = true :=
  canonical_ite (canonical_portTo (canonical_fbEvent h _ _) _ _) (canonical_foldl _ (fun _ _ hu => (canonical_send _ _).trans hu) _ _
    (canonical_setPort h _ _))

theorem canonical_ticketsIn (h : s.canonical = true) (p vcs lo hi) : (s.ticketsIn p vcs lo hi).canonical = true :=
  canonical_showTickets (canonical_setPort h _ _) _

theorem canonical_sendNext (h : s.canonical = true) (p g) : (s.sendNext p g).canonical = true := by
  unfold State.sendNext
  split
  exacts [canonical_setPort h _ _, canonical_sendFlit (canonical_freeFlits (canonical_setPort h _ _) _ _ _) _ _ _ _ _ _]

theorem canonical_noticeLeaves (h : s.canonical = true) : s.noticeLeaves.canonical = true := h

theorem canonical_startPkt (h : s.canonical = true) (p o) : (s.startPkt p o).canonical = true :=
  canonical_showTickets (canonical_sendNext (canonical_setPort (canonical_ite (canonical_noticeLeaves h) h) _ _) _ _) _

theorem canonical_consume (h : s.canonical = true) (k) : (s.consume k).canonical = true :=
  canonical_ite h (canonical_ite (canonical_ite (canonical_post h _ _ _) h) h)

theorem canonical_dropPkt (h : s.canonical = true) (inp vc code k) : (s.dropPkt inp vc code k).canonical = true :=
  canonical_fbEvent (canonical_freeInput h _ _ _) _ _

theorem canonical_routePkt (h : s.canonical = true) (inp vc k) : (s.routePkt inp vc k).canonical = true := by
  unfold State.routePkt
  refine canonical_ite (canonical_consume (canonical_freeInput h _ _ _) _) (canonical_ite (canonical_dropPkt h _ _ _ _)
    (canonical_ite (canonical_dropPkt h _ _ _ _) ?_))
  split
  exacts [canonical_dropPkt h _ _ _ _, canonical_ite (canonical_dropPkt h _ _ _ _) (canonical_setPort h _ _)]

/-! #### Operations of Machine/FabIn.lean -/

theorem canonical_takeIn (h : s.canonical = true) (k) : (s.takeIn k).canonical = true := h

theorem canonical_permuteLess (h : s.canonical = true) (n) : (s.permuteLess n).canonical = true := canonical_setFld h _ _

theorem canonical_permuteIn (h : s.canonical = true) (k) : (s.permuteIn k).canonical = true := canonical_ite (canonical_permuteLess h _) h

theorem canonical_ingressWrite (h : s.canonical = true) (k ecc) : (s.ingressWrite k ecc).canonical = true :=
  canonical_ackTo (canonical_moverWriteN (canonical_permuteIn h _) _ _ _ _ _ _ _) _ _ _ _ _

theorem canonical_ingressReduce (h : s.canonical = true) (k xor ecc) : (s.ingressReduce k xor ecc).canonical = true :=
  canonical_ite (canonical_reduceWrite (canonical_ite (canonical_permuteIn h _) h) _ _)
    (canonical_reduceAck (canonical_reduceWrite (canonical_ite (canonical_permuteIn h _) h) _ _) _ _ _ _)

theorem canonical_stray (h : s.canonical = true) : s.stray.canonical = true := canonical_countFld h _ _

theorem canonical_ackRecord (h : s.canonical = true) (r) : (s.ackRecord r).canonical = true := by
  unfold State.ackRecord
  split
  exacts [canonical_stray h, canonical_ite (canonical_reqDone h _ _ _) (canonical_stray h)]

theorem canonical_ctlForward (h : s.canonical = true) (p hi dst m) : (s.ctlForward p hi dst m).canonical = true := by
  unfold State.ctlForward
  refine canonical_ite h ?_
  split
  exacts [canonical_ite (canonical_ctlOut h _ _ _) h, h]

theorem canonical_ackIn (h : s.canonical = true) (p hi dst recs) : (s.ackIn p hi dst recs).canonical = true :=
  canonical_ite (canonical_foldl _ (fun _ _ hu => canonical_ackRecord hu _) _ _ h) (canonical_ctlForward h _ _ _ _)

/-! #### Operations of Machine/FohQp.lean -/

theorem canonical_moveSent (h : s.canonical = true) (q) : (s.moveSent q).canonical = true := by
  unfold State.moveSent
  split
  · exact h
  · refine canonical_foldl _ (fun u x hu => ?_) _ _ (canonical_setQp h _)
    split
    exacts [canonical_qpRequest hu _ _ _ _, hu]

theorem canonical_qpError (h : s.canonical = true) (q) : (s.qpError q).canonical = true :=
  canonical_ite h (canonical_ite (canonical_moveSent (canonical_unsend (canonical_setQp (canonical_ite (canonical_setFld h _ _) h) _) _)
    _) (canonical_setQp (canonical_unsend (canonical_setQp (canonical_ite (canonical_setFld h _ _) h) _) _) _))

theorem canonical_nak (h : s.canonical = true) (q psn syndrome) : (s.nak q psn syndrome).canonical = true :=
  canonical_qpError (canonical_sendRoce h _ _) _

theorem canonical_dropFrame (h : s.canonical = true) (p) : (s.dropFrame p).canonical = true := canonical_countFld h _ _

theorem canonical_pfcCheck (h : s.canonical = true) (p) : (s.pfcCheck p).canonical = true :=
  canonical_ite ((canonical_send _ _).trans (canonical_setFhPort h _ _)) (canonical_ite
    ((canonical_send _ _).trans (canonical_setFhPort h _ _)) h)

theorem canonical_rxFrame (h : s.canonical = true) (p f) : (s.rxFrame p f).2.canonical = true :=
  canonical_ite (canonical_pfcCheck (canonical_setFhPort h _ _) _) (canonical_dropFrame
    (canonical_pfcCheck (canonical_setFhPort h _ _) _) _)

theorem canonical_cnpSend (h : s.canonical = true) (q) : (s.cnpSend q).canonical = true :=
  canonical_ite (canonical_sendRoce (canonical_setQp h _) _ _) h

theorem canonical_roceIn (h : s.canonical = true) (k) : (s.roceIn k).2.canonical = true := by
  unfold State.roceIn
  split
  · exact h
  · split
    · exact h
    · extract_lets r1 s1
      have hr1 : r1.2.canonical = true := canonical_rxFrame h _ _
      have hs1 : s1.canonical = true := canonical_ite (canonical_cnpSend hr1 _) hr1
      split
      exacts [hr1, hs1]

/-- A request of a queue pair keeps the form if its act does. -/
theorem canonical_request (h : s.canonical = true) (k) {act : Qp → State → State}
    (ha : ∀ q u, u.canonical = true → (act q u).canonical = true) :
    (s.request k act).canonical = true := by
  have hr := canonical_roceIn h k
  unfold State.request
  generalize s.roceIn k = r at hr ⊢
  obtain ⟨q, u⟩ := r
  cases q with
  | none => exact hr
  | some q =>
    exact canonical_ite (canonical_nak hr _ _ _)
      (canonical_ite (ha _ _ hr) (canonical_ite (canonical_sendRoce hr _ _) (canonical_sendRoce hr _ _)))

theorem canonical_resend (h : s.canonical = true) (q) : (s.resend q).canonical = true :=
  canonical_foldl _ (fun _ _ hu => canonical_sendRoce hu _ _) _ _ (canonical_unsend h _)

theorem canonical_retryQp (h : s.canonical = true) (q) : (s.retryQp q).canonical = true :=
  canonical_ite (canonical_qpError h _) (canonical_resend (canonical_setQp h _) _)

/-! #### Operations of Machine/FohRdma.lean -/

theorem canonical_doorbell (h : s.canonical = true) (n v) : (s.doorbell n v).canonical = true :=
  canonical_ite (canonical_setRingIdx h _ _ _) (canonical_countFld h _ _)

theorem canonical_statusConsumed (h : s.canonical = true) (n v) : (s.statusConsumed n v).canonical = true :=
  canonical_ite (canonical_drainStatus _ _ ((canonical_with_host _ _).trans (canonical_setRingIdx h _ _ _))) (canonical_countFld h _ _)

theorem canonical_mergeOnly (h : s.canonical = true) (mid va n) : (s.mergeOnly mid va n).canonical = true := by
  unfold State.mergeOnly
  refine canonical_foldl _ (fun u x hu => ?_) _ _ h
  split
  exacts [canonical_ite hu (canonical_mergeReads (canonical_ite (canonical_countFld hu _ _) hu) _ _), hu]

theorem canonical_logFailure (h : s.canonical = true) (mid c) : (s.logFailure mid c).canonical = true := by
  unfold State.logFailure
  refine canonical_memEntry ?_ _ _ _
  split
  exacts [canonical_ite (canonical_errLog h _ _ _ _) h, h]

theorem canonical_rdmaPerform (h : s.canonical = true) (n va data ecc) : (s.rdmaPerform n va data ecc).2.canonical = true := by
  unfold State.rdmaPerform
  extract_lets idx merged w stopped
  have h1 := canonical_doorbell h n (merged offCmdPi)
  have h2 := canonical_statusConsumed h n (merged offStsCi)
  have h3 : w.2.canonical = true := canonical_moverWrite h _ _ _ _ _ _ _
  have h4 := fun k c => canonical_logFailure (canonical_mergeOnly ((canonical_plant s ecc).trans h) k va data.length) k c
  clear_value merged idx w stopped
  split
  · exact h1
  · split
    · exact h2
    · split
      · exact h3
      · exact h4 _ _

/-- What a performed access leaves, named by an equation: a goal about it then never evaluates the access. -/
theorem canonical_of_rdmaPerform (h : s.canonical = true) {n va data ecc w} (hw : s.rdmaPerform n va data ecc = w) :
    w.2.canonical = true := by
  subst hw
  exact canonical_rdmaPerform h _ _ _ _

theorem canonical_rdmaWrite (h : s.canonical = true) (k reth last data imm ecc) :
    (s.rdmaWrite k reth last data imm ecc).canonical = true := by
  unfold State.rdmaWrite
  refine canonical_request h _ fun q t ht => ?_
  extract_lets pos
  clear_value pos
  split
  · exact canonical_nak ht _ _ _
  · split
    · exact canonical_nak (canonical_memEntry ht _ _ _) _ _ _
    · next va rkey _ =>
      rcases hw : t.rdmaPerform q.session va data ecc with ⟨_ | c, u⟩
      · have hu : u.canonical = true := canonical_of_rdmaPerform ht hw
        extract_lets w q1 t1 t2
        have h1 : t1.canonical = true := canonical_setQp hu _
        have h2 : t2.canonical = true := by
          unfold t2
          split
          · exact canonical_ite (canonical_doorbell h1 _ _) h1
          · exact h1
        exact canonical_ite (canonical_sendRoce h2 _ _) h2
      · have hu : u.canonical = true := canonical_of_rdmaPerform ht hw
        exact canonical_nak hu _ _ _

theorem canonical_readData (h : s.canonical = true) (mid va n) : (s.readData mid va n).2.canonical = true := by
  unfold State.readData
  dsimp only
  split
  · refine canonical_ite (canonical_logFailure (canonical_foldl_of Prod.snd _ (fun u x hu => ?_) _ _ ?_) _ _)
      (canonical_foldl_of Prod.snd _ (fun v x hv => ?_) _ _ ?_)
    · exact canonical_moverRead hu _ _ _ _ _ _
    · exact h
    · exact canonical_moverRead hv _ _ _ _ _ _
    · exact h
  · refine canonical_foldl_of Prod.snd _ (fun u x hu => ?_) _ _ ?_
    · exact canonical_moverRead hu _ _ _ _ _ _
    · exact h

theorem canonical_readPackets (q) : ∀ (f va len psn) {s : State}, s.canonical = true → (s.readPackets q va len psn f).canonical = true
  | 0, _, _, _, _, h => h
  | f + 1, va, len, psn, s, h => by
    unfold State.readPackets
    refine canonical_ite h ?_
    dsimp only
    split
    · exact canonical_nak (canonical_readData h _ _ _) _ _ _
    · exact canonical_readPackets q f _ _ _ (canonical_sendRoce (canonical_readData h _ _ _) _ _)

/-! #### Operations of Machine/FohPort.lean -/

theorem canonical_setPtp (h : s.canonical = true) (x) : (s.setPtp x).canonical = true := h

theorem canonical_ptpSelect (h : s.canonical = true) : s.ptpSelect.canonical = true := by
  unfold State.ptpSelect
  split
  · exact h
  · exact canonical_setFld (canonical_ite h (canonical_setPtp (canonical_setFld (canonical_setFld h _ _) _ _) _)) _ _

theorem canonical_askGateways (h : s.canonical = true) (p) : (s.askGateways p).canonical = true :=
  canonical_ite (canonical_ite h ((canonical_send _ _).trans h)) ((canonical_send _ _).trans
    (canonical_ite h ((canonical_send _ _).trans h)))

theorem canonical_ptpMoved (h : s.canonical = true) (domain transport) : (s.ptpMoved domain transport).canonical = true :=
  canonical_ite h (canonical_setPtp h _)

theorem canonical_fhDown (h : s.canonical = true) (p) : (s.fhDown p).canonical = true := by
  unfold State.fhDown
  refine canonical_ptpSelect (canonical_foldl _ (fun u x hu => ?_) _ _ (canonical_setFhPort
    (canonical_setFld (canonical_setFld (canonical_setFld h _ _) _ _) _ _) _ _))
  split
  exacts [canonical_qpError hu _, hu]

theorem canonical_servo (h : s.canonical = true) (t1 t2 slew) : (s.servo t1 t2 slew).canonical = true :=
  canonical_ite (canonical_setPtp (canonical_setFld (canonical_raiseFld ((canonical_with_tbOff _ _).trans (canonical_setReg h _ _)) _) _
    _) _) (canonical_ite (canonical_setFld (canonical_setPtp ((canonical_with_tbOff _ _).trans (canonical_setReg h _ _)) _) _ _)
    (canonical_setPtp ((canonical_with_tbOff _ _).trans (canonical_setReg h _ _)) _))

/-! #### Operations of Machine/CueTime.lean -/

theorem canonical_floodFrom (h : s.canonical = true) (p m) : (s.floodFrom p m).canonical = true :=
  canonical_foldl _ (fun _ _ hu => canonical_ite (canonical_ctlOut hu _ _ _) hu) _ _ h

theorem canonical_cueEntry (h : s.canonical = true) (type rest) : (s.cueEntry type rest).canonical = true := canonical_event h _ _ _

theorem canonical_setCount (h : s.canonical = true) (n c) : (s.setCount n c).canonical = true := by
  unfold State.setCount
  extract_lets s1 s2 _ s3
  have hs1 : s1.canonical = true := canonical_ite h h
  have hs2 : s2.canonical = true := canonical_setReg hs1 _ _
  have hs3 : s3.canonical = true := hs2
  exact canonical_ite (canonical_setReg (canonical_setReg hs3 _ _) _ _) hs3

theorem canonical_startCount (h : s.canonical = true) : s.startCount.canonical = true := canonical_setCount h _ _

theorem canonical_takeCount (h : s.canonical = true) (count d retried) : (s.takeCount count d retried).canonical = true := by
  unfold State.takeCount
  extract_lets _ _ _ s1
  have hs1 : s1.canonical = true := canonical_ite h h
  exact canonical_ite h (canonical_setCount hs1 _ _)

theorem canonical_takePhase (h : s.canonical = true) (count d) : (s.takePhase count d).canonical = true :=
  canonical_ite (canonical_setFld (canonical_setFld h _ _) _ _) (canonical_setFld h _ _)

theorem canonical_cueIn (h : s.canonical = true) (from? count master delay hop retried) :
    (s.cueIn from? count master delay hop retried).canonical = true := by
  unfold State.cueIn
  extract_lets _ s1 _ s2 s3 s4 _ s5
  have hs1 : s1.canonical = true := by
    unfold s1
    split
    exacts [canonical_floodFrom h _ _, h]
  have hs2 : s2.canonical = true := canonical_ite (canonical_setFld hs1 _ _) hs1
  have hs3 : s3.canonical = true := canonical_ite (canonical_takeCount hs2 _ _ _) hs2
  have hs4 : s4.canonical = true := canonical_ite (canonical_raiseFld hs3 _) hs3
  have hs5 : s5.canonical = true := hs4
  exact canonical_ite hs1 (canonical_ite hs5 (canonical_takePhase hs5 _ _))

theorem canonical_alarmCtlWrite (h : s.canonical = true) (n off len v) : (s.alarmCtlWrite n off len v).canonical = true :=
  canonical_ite ((canonical_with_now _ _).trans (canonical_regWrite h _ _ _ _)) (canonical_regWrite h _ _ _ _)

/-! #### Operations of Machine/CmdBase.lean -/

theorem canonical_cmdStatus (h : s.canonical = true) (c kind code detail) : (s.cmdStatus c kind code detail).canonical = true :=
  canonical_putStatus h _ _ _

theorem canonical_showJobs (h : s.canonical = true) : s.showJobs.canonical = true := canonical_setFld (canonical_setFld h _ _) _ _

theorem canonical_cmdGone (h : s.canonical = true) (c) : (s.cmdGone c).canonical = true := canonical_showJobs h

theorem canonical_cmdDone (h : s.canonical = true) (c code detail) : (s.cmdDone c code detail).canonical = true :=
  canonical_cmdStatus (canonical_cmdGone h _) _ _ _ _

theorem canonical_putCmd (h : s.canonical = true) (c) : (s.putCmd c).canonical = true := h

theorem canonical_cmdProgress (h : s.canonical = true) (c) : (s.cmdProgress c).canonical = true :=
  canonical_ite (canonical_putCmd h _) (canonical_cmdStatus (canonical_putCmd h _) _ _ _ _)

theorem canonical_cmdUnits (h : s.canonical = true) (c done total) : (s.cmdUnits c done total).canonical = true :=
  canonical_cmdProgress h _

theorem canonical_endCmds (h : s.canonical = true) (o pick code detail) : (s.endCmds o pick code detail).canonical = true :=
  canonical_foldl _ (fun _ _ hu => canonical_cmdDone hu _ _ _) _ _ h

theorem canonical_endCmdsOf (h : s.canonical = true) (o pick code units detail) :
    (s.endCmdsOf o pick code units detail).canonical = true := canonical_foldl _ (fun _ _ hu => canonical_cmdDone hu _ _ _) _ _ h

theorem canonical_resCode (h : s.canonical = true) (ev code seat) : (s.resCode ev code seat).canonical = true :=
  canonical_ite (canonical_hostEvent h _ _ _) (canonical_event h _ _ _)

/-! #### Operations of Machine/ResBase.lean -/

theorem canonical_setRes (h : s.canonical = true) (x) : (s.setRes x).canonical = true := h

theorem canonical_wrote (h : s.canonical = true) (n) : (s.wrote n).canonical = true := canonical_setRes h _

theorem canonical_rebuiltMore (h : s.canonical = true) (n) : (s.rebuiltMore n).canonical = true := canonical_setRes h _

theorem canonical_resFail (h : s.canonical = true) (job) : (s.resFail job).canonical = true := canonical_setRes h _

theorem canonical_resRead (h : s.canonical = true) (job a n) : (s.resRead job a n).2.canonical = true :=
  canonical_ite (canonical_resFail (canonical_moverRead h _ _ _ _ _ _) _) (canonical_moverRead h _ _ _ _ _ _)

theorem canonical_resWrite (h : s.canonical = true) (job a l) : (s.resWrite job a l).canonical = true :=
  canonical_ite (canonical_resFail (canonical_moverWrite h _ _ _ _ _ _ _) _) (canonical_moverWrite h _ _ _ _ _ _ _)

theorem canonical_resZero (h : s.canonical = true) (a n) : (s.resZero a n).canonical = true := canonical_resWrite h _ _ _

theorem canonical_resXor (h : s.canonical = true) (a l) : (s.resXor a l).canonical = true :=
  canonical_foldl _ (fun _ _ hu => canonical_reduceWrite hu _ _) _ _ h

theorem canonical_copyImage (h : s.canonical = true) (job k i copy) : (s.copyImage job k i copy).2.canonical = true := by
  unfold State.copyImage
  refine canonical_foldl_of Prod.snd _ (fun u x hu => ?_) _ _ ?_
  · exact canonical_resRead hu _ _ _
  · exact h

theorem canonical_writeImage (h : s.canonical = true) (job k i copy l) : (s.writeImage job k i copy l).canonical = true := by
  unfold State.writeImage
  refine canonical_foldl_of Prod.snd _ (fun u x hu => ?_) _ _ ?_
  · exact canonical_resWrite hu _ _ _
  · exact h

theorem canonical_applyX (h : s.canonical = true) (a) : (s.applyX a).canonical = true := canonical_resXor (canonical_resRead h _ _ _) _ _

theorem canonical_postDelta (h : s.canonical = true) (a booth) : (s.postDelta a booth).canonical = true :=
  canonical_ite (canonical_ite h (canonical_setBoothQ h _ _)) (canonical_ite (canonical_setRes h _) (canonical_setTe h _ _))

theorem canonical_postOwed (h : s.canonical = true) : s.postOwed.canonical = true := by
  unfold State.postOwed
  refine canonical_foldl _ (fun u x hu => ?_) _ _ (canonical_setRes h _)
  split
  exacts [canonical_postDelta hu _ _, hu]

theorem canonical_applyHeld (h : s.canonical = true) : s.applyHeld.canonical = true := by
  unfold State.applyHeld
  refine canonical_postOwed (canonical_setRes (canonical_foldl _ (fun u x hu => ?_) _ _ h) _)
  split
  exacts [canonical_applyX hu _, hu]

theorem canonical_setHolds (h : s.canonical = true) (v) : (s.setHolds v).canonical = true :=
  canonical_foldl _ (fun _ _ hu => canonical_setFld hu _ _) _ _ h

theorem canonical_resSend (h : s.canonical = true) (job op dst addr l) : (s.resSend job op dst addr l).canonical = true := by
  unfold State.resSend
  extract_lets s1
  have hs1 : s1.canonical = true := canonical_ite (canonical_wrote h _) (canonical_ite (canonical_rebuiltMore h _) h)
  exact canonical_ite hs1 (canonical_ite (canonical_ite (canonical_resXor hs1 _ _) (canonical_resWrite hs1 _ _ _))
    (canonical_ite (canonical_resFail hs1 _) (canonical_foldl _ (fun _ _ hu => canonical_sendReq (canonical_setRes hu _) _ _ _ _ _ _ _ _
    _ _ _) _ _ hs1)))

theorem canonical_resTake (h : s.canonical = true) : s.resTake.canonical = true :=
  canonical_foldl _ (fun _ _ hu => canonical_ite (canonical_resFail (canonical_setRes hu _) _) (canonical_setRes hu _)) _ _ h

theorem canonical_toMaster (h : s.canonical = true) (m) : (s.toMaster m).canonical = true := (canonical_sendC3 _ _ _).trans h

/-! #### Operations of Machine/Ckpt.lean -/

theorem canonical_takeMethods (h : s.canonical = true) : s.takeMethods.canonical = true :=
  canonical_foldl _ (fun _ _ hu => canonical_ite hu (canonical_setRes (canonical_ite
    (canonical_resWrite (canonical_copyImage hu _ _ _ _) _ _ _) hu) _)) _ _ h

theorem canonical_copyDrain (h : s.canonical = true) (n) : (s.copyDrain n).canonical = true :=
  canonical_resSend (canonical_foldl _ (fun _ _ hu => canonical_resSend (canonical_copyImage hu _ _ _ _) _ _ _ _ _) _ _ h) _ _ _ _ _

theorem canonical_stripeCopy (h : s.canonical = true) : s.stripeCopy.canonical = true := by
  unfold State.stripeCopy
  extract_lets _ _ s1
  have hs1 : s1.canonical = true :=
    canonical_foldl _ (fun _ _ hu => canonical_ite (canonical_resZero (canonical_wrote hu _) _ _)
      (canonical_resWrite (canonical_resRead (canonical_wrote hu _) _ _ _) _ _ _)) _ _ h
  exact canonical_ite hs1 (canonical_foldl _ (fun _ _ hu => (canonical_sendC3 _ _ _).trans hu) _ _ hs1)

theorem canonical_segment (h : s.canonical = true) (st a stripe front) : (s.segment st a stripe front).2.canonical = true := by
  unfold State.segment
  dsimp only
  split
  exacts [canonical_copyImage h _ _ _ _, canonical_resRead h _ _ _]

theorem canonical_paritySend (h : s.canonical = true) (stripe) : (s.paritySend stripe).canonical = true :=
  canonical_foldl _ (fun _ _ hu => canonical_foldl _ (fun _ _ hv => canonical_foldl _ (fun _ _ hw => canonical_resSend hw _ _ _ _ _) _ _
    (canonical_segment hv _ _ _ _)) _ _ hu) _ _ h

theorem canonical_stripeReady (h : s.canonical = true) (stripe) : (s.stripeReady stripe).canonical = true :=
  canonical_paritySend (canonical_setRes h _) _

theorem canonical_takeEarly (h : s.canonical = true) : s.takeEarly.canonical = true :=
  canonical_foldl _ (fun _ _ hu => canonical_stripeReady hu _) _ _ (canonical_setRes h _)

theorem canonical_ckptOrder (h : s.canonical = true) (k n layers) : (s.ckptOrder k n layers).canonical = true :=
  canonical_ite h (canonical_ite (canonical_takeEarly (canonical_stripeCopy (canonical_copyDrain
    (canonical_setRes ((canonical_with_host _ _).trans (canonical_setFld (canonical_setFld (canonical_setRes (canonical_takeMethods h) _)
    _ _) _ _)) _) _))) (canonical_setRes (canonical_setRes ((canonical_with_host _ _).trans
    (canonical_setFld (canonical_setFld (canonical_setRes (canonical_takeMethods h) _) _ _) _ _)) _) _))

theorem canonical_ckptSettle (h : s.canonical = true) : s.ckptSettle.canonical = true := by
  unfold State.ckptSettle
  split
  exacts [h, canonical_ite h (canonical_toMaster (canonical_setFld (canonical_setRes h _) _ _) _)]

theorem canonical_settle (h : s.canonical = true) : s.settle.canonical = true := canonical_ckptSettle (canonical_resTake h)

theorem canonical_floodOrder (h : s.canonical = true) (o) : (s.floodOrder o).canonical = true :=
  canonical_ite (canonical_setRes (canonical_setRes h _) _) (canonical_ckptOrder ((canonical_sendC3 _ _ _).trans (canonical_setRes h _))
    _ _ _)

theorem canonical_reMethod (h : s.canonical = true) (k) : (s.reMethod k).canonical = true := canonical_setRes h _

theorem canonical_ckptCmds (h : s.canonical = true) (pick code) : (s.ckptCmds pick code).canonical = true :=
  canonical_endCmdsOf h _ _ _ _ _

theorem canonical_ckptCommit (h : s.canonical = true) (k n) : (s.ckptCommit k n).canonical = true := by
  unfold State.ckptCommit
  split
  · exact h
  · exact canonical_ite h (canonical_ckptCmds (canonical_setRes (canonical_resCode
      (canonical_reMethod (canonical_setFld (canonical_setFld (canonical_setFld
      (canonical_setFld (canonical_setFld (canonical_setFld (canonical_ite (canonical_foldl _ (fun _ _ hu => canonical_resZero hu _ _) _
      _ (canonical_foldl _ (fun _ _ hv => canonical_resWrite (canonical_copyImage hv _ _ _ _) _ _ _) _ _
      (canonical_setRes (canonical_setFld h _ _) _))) (canonical_setHolds (canonical_applyHeld
      (canonical_foldl _ (fun _ _ hw => canonical_resZero hw _ _) _ _ (canonical_foldl _
      (fun _ _ hz => canonical_resWrite (canonical_copyImage hz _ _ _ _) _ _ _) _ _ (canonical_setRes (canonical_setFld h _ _) _)))) _))
      _ _) _ _) _ _) _ _) _ _) _ _) _) _ _ _) _) _ _)

theorem canonical_ckptAbandon (h : s.canonical = true) (k) : (s.ckptAbandon k).canonical = true := by
  unfold State.ckptAbandon
  split
  · exact h
  · exact canonical_ite h (canonical_ckptCmds (canonical_resCode (canonical_setFld
      (canonical_setFld (canonical_setHolds (canonical_applyHeld (canonical_setRes h _)) _) _ _) _ _) _ _ _) _ _)

theorem canonical_masterDone (h : s.canonical = true) : s.masterDone.canonical = true := by
  unfold State.masterDone
  split
  · exact h
  · exact canonical_ite h (canonical_ite (canonical_ckptAbandon ((canonical_sendC3 _ _ _).trans h) _)
      (canonical_ite (canonical_ckptCommit ((canonical_sendC3 _ _ _).trans h) _ _) h))

theorem canonical_stageImage (h : s.canonical = true) : s.stageImage.2.canonical = true := by
  unfold State.stageImage
  refine canonical_foldl_of Prod.snd _ (fun u x hu => ?_) _ _ ?_
  · refine canonical_resWrite ?_ _ _ _
    split
    · exact canonical_resRead hu _ _ _
    · dsimp only
      split
      · exact canonical_resRead (canonical_resRead (canonical_copyImage hu _ _ _ _) _ _ _) _ _ _
      · exact canonical_resRead (canonical_copyImage hu _ _ _ _) _ _ _
  · exact h

theorem canonical_flashDurable (h : s.canonical = true) (f) : (s.flashDurable f).canonical = true :=
  canonical_ckptCmds (canonical_resCode (canonical_setFld (canonical_setFld (canonical_setFld (canonical_setRes (canonical_wrote h _) _)
    _ _) _ _) _ _) _ _ _) _ _

theorem canonical_flashFail (h : s.canonical = true) : s.flashFail.canonical = true :=
  canonical_ckptCmds (canonical_resCode (canonical_setFld (canonical_setRes h _) _ _) _ _ _) _ _

theorem canonical_storeFail (h : s.canonical = true) : s.storeFail.canonical = true :=
  canonical_ckptCmds (canonical_resCode (canonical_setRes h _) _ _ _) _ _

/-! #### Operations of Machine/Prompter.lean -/

theorem canonical_faultP (h : s.canonical = true) (t i pt d cause elem a) : (s.faultP t i pt d cause elem a).canonical = true :=
  canonical_raiseTrap h _ _

theorem canonical_issueGlobal (h : s.canonical = true) (t a ld data) : (s.issueGlobal t a ld data).canonical = true :=
  (canonical_setTile _ _ _).trans (canonical_wcInc h _ _)

theorem canonical_doLoad (h : s.canonical = true) (t i pt k rd rs1 imm) : (s.doLoad t i pt k rd rs1 imm).canonical = true := by
  unfold State.doLoad
  refine canonical_ite (canonical_issueGlobal h _ _ _ _) ?_
  split
  · exact canonical_faultP h _ _ _ _ _ _ _
  · exact canonical_ite (canonical_ite (canonical_faultP (canonical_meetFlaws h _ _ _) _ _ _ _ _ _ _)
      (canonical_ite (canonical_schedF (canonical_meetFlaws h _ _ _) _ _ _ _ _)
      (canonical_schedX (canonical_meetFlaws h _ _ _) _ _ _ _))) (canonical_sched h _ _ _)

theorem canonical_storeOwn (h : s.canonical = true) (t p data) : (s.storeOwn t p data).canonical = true :=
  canonical_foldl _ (fun _ _ hu => canonical_sched hu _ _ _) _ _ h

theorem canonical_doStore (h : s.canonical = true) (t i pt k rs2 rs1 imm) : (s.doStore t i pt k rs2 rs1 imm).canonical = true := by
  unfold State.doStore
  refine canonical_ite (canonical_issueGlobal h _ _ _ _) ?_
  split
  · exact canonical_faultP h _ _ _ _ _ _ _
  · exact canonical_ite (canonical_faultP h _ _ _ _ _ _ _) (canonical_storeOwn h _ _ _)

theorem canonical_doVmem (h : s.canonical = true) (t i pt isStore vd rs1 w) : (s.doVmem t i pt isStore vd rs1 w).canonical = true := by
  unfold State.doVmem
  refine canonical_ite h ?_
  split
  · exact canonical_faultP h _ _ _ _ _ _ _
  · exact canonical_ite (canonical_ite (canonical_faultP h _ _ _ _ _ _ _) (canonical_storeOwn h _ _ _)) (canonical_sched h _ _ _)

theorem canonical_gatherStep (h : s.canonical = true) (t id j) : (s.gatherStep t id j).canonical = true := by
  unfold State.gatherStep
  dsimp only
  split
  · exact h
  · refine canonical_ite h ?_
    split
    · refine canonical_raiseTrap ((canonical_setTile _ _ _).trans ?_) _ _
      split
      exacts [canonical_ite h (canonical_meetFlaws h _ _ _), h]
    · refine canonical_ite (canonical_ite (canonical_raiseTrap ((canonical_setTile _ _ _).trans ?_) _ _)
        (canonical_foldl _ (fun _ _ hu => canonical_schedAt hu _ _ _ _) _ _ ?_))
        (canonical_ite (canonical_raiseTrap ((canonical_setTile _ _ _).trans ?_) _ _)
        (canonical_ite ((canonical_setTile _ _ _).trans (canonical_regRead ?_ _ _ _)) ((canonical_setTile _ _ _).trans ?_)))
      · split
        exacts [canonical_ite h (canonical_meetFlaws h _ _ _), h]
      · split
        exacts [canonical_ite h (canonical_meetFlaws h _ _ _), h]
      · split
        exacts [canonical_ite h (canonical_meetFlaws h _ _ _), h]
      · split
        exacts [canonical_ite h (canonical_meetFlaws h _ _ _), h]
      · split
        exacts [canonical_ite h (canonical_meetFlaws h _ _ _), h]

theorem canonical_startGather (h : s.canonical = true) (t i pt scatter vd rs1 vs2 w) :
    (s.startGather t i pt scatter vd rs1 vs2 w).canonical = true :=
  canonical_ite h (canonical_sched (canonical_foldl _ (fun _ _ hu => canonical_sched hu _ _ _) _ _
    (canonical_gatherStep ((canonical_setTile _ _ _).trans h) _ _ _)) _ _ _)

theorem canonical_performP (h : s.canonical = true) (t i p pt) : (s.performP t i p pt).canonical = true := by
  unfold State.performP
  split
  · exact h
  · exact canonical_schedX h _ _ _ _
  · exact canonical_schedX h _ _ _ _
  · exact canonical_schedX h _ _ _ _
  · exact canonical_doLoad h _ _ _ _ _ _ _
  · exact canonical_doStore h _ _ _ _ _ _ _
  · exact canonical_ite (canonical_takeBranch h _ _ _) h
  · exact canonical_takeBranch (canonical_schedX h _ _ _ _) _ _ _
  · exact canonical_takeBranch h _ _ _
  · exact canonical_ite (canonical_schedF h _ _ _ _ _) ((canonical_usedFree _ _).trans
      (canonical_schedStat (canonical_schedF h _ _ _ _ _) _ _ _))
  · exact (canonical_usedFree _ _).trans (canonical_schedStat (canonical_schedF h _ _ _ _ _) _ _ _)
  · split
    · exact canonical_schedX h _ _ _ _
    · exact canonical_schedF h _ _ _ _ _
    · exact canonical_schedStat (canonical_schedX h _ _ _ _) _ _ _
  · exact canonical_schedStat (canonical_ite (canonical_schedX (canonical_tileDrew h _ _ _) _ _ _ _)
      (canonical_schedF (canonical_tileDrew h _ _ _) _ _ _ _ _)) _ _ _
  · exact canonical_sched (canonical_schedX h _ _ _ _) _ _ _
  · exact canonical_schedX h _ _ _ _
  · exact canonical_schedX h _ _ _ _
  · exact canonical_faultP h _ _ _ _ _ _ _
  · exact canonical_ite ((canonical_setTile _ _ _).trans (canonical_setFld (canonical_setFld h _ _) _ _))
      ((canonical_setTile _ _ _).trans (canonical_setFld (canonical_setFld h _ _) _ _))
  · exact (canonical_setTile _ _ _).trans (canonical_setFld (canonical_setFld h _ _) _ _)
  · exact canonical_ite ((canonical_usedFree _ _).trans (canonical_schedStat (canonical_schedV h _ _ _ _ _) _ _ _))
      ((canonical_usedFree _ _).trans (canonical_schedStat (canonical_schedV h _ _ _ _ _) _ _ _))
  · exact canonical_schedStat (canonical_schedV (canonical_tileDrew h _ _ _) _ _ _ _ _) _ _ _
  · exact canonical_schedV h _ _ _ _ _
  · exact canonical_ite (canonical_schedX h _ _ _ _) (canonical_schedF h _ _ _ _ _)
  · exact (canonical_usedFree _ _).trans (canonical_schedStat (canonical_schedV h _ _ _ _ _) _ _ _)
  · exact canonical_doVmem h _ _ _ _ _ _ _
  · exact canonical_doVmem h _ _ _ _ _ _ _
  · exact canonical_startGather h _ _ _ _ _ _ _ _
  · exact canonical_startGather h _ _ _ _ _ _ _ _

theorem canonical_issueP (h : s.canonical = true) (t i p pt) : (s.issueP t i p pt).canonical = true := by
  unfold State.issueP
  refine canonical_performP ?_ _ _ _ _
  split
  exacts [(canonical_setTile _ _ _).trans (canonical_hold h _ _ _), canonical_hold h _ _ _]

theorem canonical_runP (h : s.canonical = true) (t i) : (s.runP t i).canonical = true :=
  canonical_issueAlone h _ _ (fun _ hu => canonical_issueP hu _ _ _ _)

/-! #### Operations of Machine/TileIssue.lean -/

theorem canonical_advance (h : s.canonical = true) (t i p) : (s.advance t i p).canonical = true :=
  canonical_setIssueAt (canonical_ite (canonical_setResume h _ _) (canonical_setFld h _ _)) _ _

theorem canonical_performBundle (h : s.canonical = true) (t b pt) : (s.performBundle t b pt).canonical = true := by
  unfold State.performBundle
  extract_lets _ _ s1 s2 s3 s4
  have hs1 : s1.canonical = true := canonical_advance (canonical_noteIssue h _) _ _ _
  have hs2 : s2.canonical = true := by
    unfold s2
    split
    exacts [canonical_performM hs1 _ _, hs1]
  have hs3 : s3.canonical = true := by
    unfold s3
    split
    exacts [canonical_performD hs2 _ _, hs2]
  have hs4 : s4.canonical = true := by
    unfold s4
    split
    exacts [canonical_issueP hs3 _ _ _ _, hs3]
  split
  exacts [canonical_performS hs4 _ _, hs4]

/-! #### Operations of Machine/Loader.lean -/

theorem canonical_setMeas (h : s.canonical = true) (i l) : (s.setMeas i l).canonical = true :=
  canonical_foldl _ (fun _ _ hu => canonical_setReg hu _ _) _ _ h

theorem canonical_measExtend (h : s.canonical = true) (i d) : (s.measExtend i d).canonical = true := canonical_setMeas h _ _

theorem canonical_keepMark (h : s.canonical = true) (t) : (s.keepMark t).canonical = true := by
  unfold State.keepMark
  split
  exacts [h, canonical_ite h h]

theorem canonical_loadBank (h : s.canonical = true) (l code mark t) : (s.loadBank l code mark t).canonical = true :=
  canonical_ite (canonical_setFld (canonical_keepMark (canonical_bankWrite (canonical_bankWrite h _ _ _ _) _ _ _ _) _) _ _)
    (canonical_bankWrite (canonical_bankWrite h _ _ _ _) _ _ _ _)

theorem canonical_loadTile (h : s.canonical = true) (l mark t) : (s.loadTile l mark t).canonical = true := canonical_loadBank h _ _ _ _

theorem canonical_loadImages (h : s.canonical = true) (images mark) : (s.loadImages images mark).canonical = true :=
  canonical_foldl _ (fun _ _ hu => canonical_foldl _ (fun _ _ hv => canonical_loadTile hv _ _ _) _ _ hu) _ _ h

theorem canonical_clearOutside (h : s.canonical = true) (tiles) : (s.clearOutside tiles).canonical = true :=
  canonical_foldl _ (fun _ _ hu => canonical_setFld hu _ _) _ _ (canonical_filter_mem h _)

theorem canonical_stageBytes (h : s.canonical = true) (a l) : (s.stageBytes a l).canonical = true :=
  canonical_foldl _ (fun _ _ hu => canonical_setPoison hu _ _) _ _ (canonical_setBytes _ _ h)

theorem canonical_stageScene (h : s.canonical = true) (x data) : (s.stageScene x data).canonical = true :=
  canonical_foldl _ (fun _ _ hu => canonical_ite (canonical_stageBytes hu _ _) hu) _ _
    (canonical_foldl _ (fun _ _ hv => canonical_foldl _ (fun _ _ hw => canonical_stageBytes hw _ _) _ _ hv) _ _ h)

theorem canonical_loadStaged (h : s.canonical = true) (x) : (s.loadStaged x).canonical = true :=
  canonical_foldl _ (fun _ _ hu => canonical_ite (canonical_stageBytes hu _ _) hu) _ _
    (canonical_clearOutside (canonical_foldl _ (fun _ _ hv => canonical_foldl _ (fun _ _ hw => canonical_loadBank hw _ _ _ _) _ _ hv) _ _
    h) _)

theorem canonical_measImages (h : s.canonical = true) (images) : (s.measImages images).canonical = true :=
  canonical_foldl _ (fun _ _ hu => canonical_measExtend hu _ _) _ _ h

theorem canonical_readImages (h : s.canonical = true) (c) : (s.readImages c).2.canonical = true := by
  unfold State.readImages
  refine canonical_foldl_of Prod.snd _ (fun u x hu => ?_) _ _ ?_
  · exact canonical_moverRead hu _ _ _ _ _ _
  · exact h

theorem canonical_verifyFailed (h : s.canonical = true) (c p) : (s.verifyFailed c p).canonical = true := canonical_cmdDone h _ _ _

theorem canonical_boothBank (h : s.canonical = true) (core t bank off data) : (s.boothBank core t bank off data).canonical = true :=
  (canonical_send _ _).trans (canonical_access h _)

theorem canonical_bankctlWrite (h : s.canonical = true) (t off len v) : (s.bankctlWrite t off len v).canonical = true :=
  canonical_ite h (canonical_ite (canonical_haltTile (canonical_regWrite (canonical_ite (canonical_keepMark h _) h) _ _ _ _) _ _ _ _ _ _
    _ _) (canonical_regWrite (canonical_ite (canonical_keepMark h _) h) _ _ _ _))

theorem canonical_revoke (h : s.canonical = true) (t) : (s.revoke t).canonical = true :=
  canonical_foldl _ (fun _ _ hu => canonical_finishXfer hu _ _) _ _ (canonical_foldl _
    (fun _ _ hv => canonical_ite (canonical_refillChan hv _ _) hv) _ _ (canonical_foldl _
    (fun _ _ hw => canonical_ite (canonical_setFld hw _ _) hw) _ _ h))

/-! #### Operations of Machine/Curtain.lean -/

theorem canonical_setCurtain (h : s.canonical = true) (c) : (s.setCurtain c).canonical = true := h

theorem canonical_announceIn (h : s.canonical = true) (k step) : (s.announceIn k step).canonical = true :=
  canonical_ite h (canonical_setFld (canonical_setReg (canonical_setCurtain h _) _ _) _ _)

theorem canonical_completeIn (h : s.canonical = true) (sender step discard) : (s.completeIn sender step discard).canonical = true :=
  canonical_ite h (canonical_ite (canonical_announceIn (canonical_flood (canonical_setCurtain h _) _) _ _) (canonical_setCurtain h _))

theorem canonical_sendComplete (h : s.canonical = true) : s.sendComplete.canonical = true :=
  canonical_ite (canonical_completeIn (canonical_setCurtain h _) _ _ _) (canonical_ctlRouted (canonical_setCurtain h _) _ _)

theorem canonical_drainedIn (h : s.canonical = true) (sender k discard) : (s.drainedIn sender k discard).canonical = true :=
  canonical_ite (canonical_setCurtain h _) h

theorem canonical_verdictIn (h : s.canonical = true) (k publish) : (s.verdictIn k publish).canonical = true :=
  canonical_ite (canonical_setFld (canonical_setCurtain h _) _ _) h

theorem canonical_straggle (h : s.canonical = true) : s.straggle.canonical = true := by
  unfold State.straggle
  dsimp only
  split
  · exact canonical_ite (canonical_ite (canonical_resCode ((canonical_sendC3 _ _ _).trans (canonical_setCurtain h _)) _ _ _)
      (canonical_setCurtain h _)) (canonical_setCurtain h _)
  · exact canonical_setCurtain h _

theorem canonical_refill (h : s.canonical = true) (peer) : (s.refill peer).canonical = true :=
  canonical_foldl _ (fun _ _ hu => canonical_ite (canonical_showTickets (canonical_setPort hu _ _) _) hu) _ _ h

theorem canonical_emptyQueues (h : s.canonical = true) : s.emptyQueues.canonical = true :=
  canonical_ceFree (canonical_foldl _ (fun _ _ hu => canonical_setPort hu _ _) _ _ h)

theorem canonical_dropHeld (h : s.canonical = true) (k) : (s.dropHeld k).canonical = true :=
  canonical_foldl _ (fun _ _ hu => canonical_reduceAck hu _ _ _ _) _ _ (canonical_setTe h _ _)

theorem canonical_emptyTileChannels (h : s.canonical = true) : s.emptyTileChannels.canonical = true :=
  canonical_foldl _ (fun _ _ hu => canonical_ite (canonical_refillChan hu _ _) hu) _ _ h

theorem canonical_refreshQueues (h : s.canonical = true) (peer) : (s.refreshQueues peer).canonical = true :=
  canonical_emptyTileChannels (canonical_refill (canonical_emptyQueues h) _)

theorem canonical_clearNorms (h : s.canonical = true) : s.clearNorms.canonical = true :=
  canonical_foldl _ (fun _ _ hu => canonical_setReg (canonical_setFld (canonical_setFld (canonical_setReg hu _ _) _ _) _ _) _ _) _ _ h

theorem canonical_clearShard (h : s.canonical = true) (k i) : (s.clearShard k i).canonical = true :=
  canonical_setReg (canonical_setFld (canonical_setFld (canonical_setFld h _ _) _ _) _ _) _ _

theorem canonical_publishShard (h : s.canonical = true) (n k i) : (s.publishShard n k i).canonical = true :=
  canonical_setFld (canonical_clearShard (canonical_ite (canonical_setFld (canonical_setFld h _ _) _ _) h) _ _) _ _

theorem canonical_discardShard (h : s.canonical = true) (k i) : (s.discardShard k i).canonical = true :=
  canonical_ite (canonical_setTe (canonical_setFld (canonical_clearShard h _ _) _ _) _ _)
    (canonical_setFld (canonical_clearShard h _ _) _ _)

theorem canonical_eachShard (h : s.canonical = true) {f : State → Nat → Nat → State}
    (hf : ∀ u k i, u.canonical = true → (f u k i).canonical = true) :
    (s.eachShard f).canonical = true :=
  canonical_foldl _ (fun _ k hu => canonical_foldl _ (fun _ i hv => hf _ k i hv) _ _ hu) _ _ h

theorem canonical_swapMarked (h : s.canonical = true) (t) : (s.swapMarked t).canonical = true :=
  canonical_ite (canonical_noteSwap (canonical_setFld h _ _) _ _) h

theorem canonical_swapCurtain (h : s.canonical = true) (t) : (s.swapCurtain t).canonical = true := by
  unfold State.swapCurtain
  split
  exacts [canonical_swapMarked h _, canonical_ite (canonical_noteSwap h _ _) h]

theorem canonical_curtainReport (h : s.canonical = true) (code k step) : (s.curtainReport code k step).canonical = true := by
  unfold State.curtainReport
  split
  exacts [canonical_cmdStatus h _ _ _ _, h]

theorem canonical_orderCkpt (h : s.canonical = true) (cue n asked flash) : (s.orderCkpt cue n asked flash).canonical = true :=
  canonical_ite h (canonical_setRes h _)

theorem canonical_keepDeltas (h : s.canonical = true) : s.keepDeltas.canonical = true := by
  unfold State.keepDeltas
  refine canonical_ite (canonical_setRes (canonical_setRes h _) _) (canonical_postOwed
    (canonical_foldl _ (fun u x hu => ?_) _ _ (canonical_setRes h _)))
  split
  exacts [canonical_applyX hu _, hu]

theorem canonical_publish (h : s.canonical = true) (k peer asked flash) : (s.publish k peer asked flash).canonical = true :=
  canonical_settle (canonical_orderCkpt (canonical_keepDeltas (canonical_ite
    (canonical_setHolds ((canonical_with_discardFlag _ _).trans (canonical_curtainReport
    (canonical_setFld (canonical_setCurtain (canonical_refreshQueues (canonical_foldl _ (fun _ _ hu => canonical_swapCurtain hu _) _ _
    (canonical_setFld (canonical_setFld (canonical_clearNorms (canonical_eachShard h (fun _ _ _ hv => canonical_publishShard hv _ _ _)))
    _ _) _ _)) _) _) _ _) _ _ _)) _) ((canonical_with_discardFlag _ _).trans
    (canonical_curtainReport (canonical_setFld (canonical_setCurtain (canonical_refreshQueues
    (canonical_foldl _ (fun _ _ hw => canonical_swapCurtain hw _) _ _ (canonical_setFld
    (canonical_setFld (canonical_clearNorms (canonical_eachShard h (fun _ _ _ hz => canonical_publishShard hz _ _ _))) _ _) _ _)) _) _) _
    _) _ _ _)))) _ _ _ _)

theorem canonical_discardWork (h : s.canonical = true) : s.discardWork.canonical = true :=
  canonical_postOwed (canonical_setRes ((canonical_with_discardFlag _ _).trans
    (canonical_setFld (canonical_addFld (canonical_clearNorms (canonical_eachShard
    (canonical_foldl _ (fun _ _ hu => canonical_ite hu (canonical_dropHeld hu _)) _ _ h)
    (fun _ _ _ hv => canonical_discardShard hv _ _))) _ _) _ _)) _)

theorem canonical_discardStep (h : s.canonical = true) (peer) : (s.discardStep peer).canonical = true :=
  canonical_refreshQueues (canonical_discardWork h) _

theorem canonical_discard (h : s.canonical = true) (k peer) : (s.discard k peer).canonical = true :=
  canonical_settle (canonical_ite (canonical_setHolds (canonical_curtainReport
    (canonical_setFld (canonical_setCurtain (canonical_discardStep h _) _) _ _) _ _ _) _)
    (canonical_curtainReport (canonical_setFld (canonical_setCurtain (canonical_discardStep h _) _) _ _) _ _ _))

theorem canonical_armTile (h : s.canonical = true) (t) : (s.armTile t).canonical = true :=
  canonical_setFld (canonical_setResume ((canonical_setTile _ _ _).trans h) _ _) _ _

theorem canonical_startTile (h : s.canonical = true) (t swap) : (s.startTile t swap).canonical = true := by
  unfold State.startTile
  extract_lets s1 s2 s3 s4 _ s5 s6
  have hs1 : s1.canonical = true := canonical_setFld (canonical_setReg (canonical_setReg (canonical_setReg h _ _) _ _) _ _) _ _
  have hs2 : s2.canonical = true := canonical_setReg (canonical_setReg (canonical_setReg hs1 _ _) _ _) _ _
  have hs3 : s3.canonical = true := canonical_setFld (canonical_setFld (canonical_setReg hs2 _ _) _ _) _ _
  have hs4 : s4.canonical = true := canonical_setReg hs3 _ _
  have hs5 : s5.canonical = true := (canonical_setTile _ _ _).trans hs4
  have hs6 : s6.canonical = true := canonical_ite (canonical_swapMarked hs5 _) hs5
  exact canonical_ite hs6 (canonical_armTile hs6 _)

theorem canonical_reseedEngines (h : s.canonical = true) : s.reseedEngines.canonical = true :=
  canonical_foldl _ (fun _ _ hu => canonical_foldl _ (fun _ _ hv => canonical_setReg hv _ _) _ _ (canonical_setTe hu _ _)) _ _ h

theorem canonical_stopSteps (h : s.canonical = true) : s.stopSteps.canonical = true :=
  canonical_endCmds (canonical_endCmds (canonical_setCurtain h _) _ _ _ _) _ _ _ _

/-! #### Operations of Machine/StoreRead.lean -/

theorem canonical_setFetch (h : s.canonical = true) (f) : (s.setFetch f).canonical = true := canonical_setRes h _

theorem canonical_fetchPump (h : s.canonical = true) : s.fetchPump.canonical = true := by
  unfold State.fetchPump
  split
  · exact h
  · refine canonical_foldl _ (fun u x hu => ?_) _ _ h
    split
    exacts [hu, canonical_qpRequest (canonical_setFetch hu _) _ _ _ _]

theorem canonical_readLands (h : s.canonical = true) (r off data) : (s.readLands r off data).canonical = true :=
  canonical_ite (canonical_setFetch h _) (canonical_resWrite h _ _ _)

/-! #### Operations of Machine/Recover.lean -/

theorem canonical_stopTile (h : s.canonical = true) (t) : (s.stopTile t).canonical = true :=
  canonical_ite (canonical_setFld ((canonical_setTile _ _ _).trans ((canonical_dcAbandon _ _).trans
    (canonical_foldl _ (fun _ _ hu => canonical_finishXfer hu _ _) _ _ h))) _ _)
    ((canonical_setTile _ _ _).trans ((canonical_dcAbandon _ _).trans (canonical_foldl _ (fun _ _ hv => canonical_finishXfer hv _ _) _ _
    h)))

theorem canonical_quitStep (h : s.canonical = true) : s.quitStep.canonical = true :=
  canonical_setFld (canonical_setCurtain (canonical_discardWork (canonical_foldl _ (fun _ _ hu => canonical_stopTile hu _) _ _ h)) _) _ _

theorem canonical_endStep (h : s.canonical = true) (peer) : (s.endStep peer).canonical = true :=
  canonical_refreshQueues (canonical_quitStep h) _

theorem canonical_haltAll (h : s.canonical = true) (detail) : (s.haltAll detail).canonical = true :=
  canonical_foldl _ (fun _ _ hu => canonical_bankctlWrite hu _ _ _ _) _ _ h

theorem canonical_leaveJob (h : s.canonical = true) : s.leaveJob.canonical = true :=
  canonical_resCode (canonical_setRes (canonical_setCurtain (canonical_haltAll h _) _) _) _ _ _

theorem canonical_addAlias (h : s.canonical = true) (lost u) : (s.addAlias lost u).canonical = true := by
  unfold State.addAlias
  split
  · exact canonical_setFld h _ _
  · refine canonical_ite h ?_
    split
    exacts [h, canonical_setFld (canonical_setFld (canonical_setFld h _ _) _ _) _ _]

theorem canonical_promotionRefused (h : s.canonical = true) (pairs) : (s.promotionRefused pairs).canonical = true :=
  canonical_foldl _ (fun _ _ hu => canonical_resCode hu _ _ _) _ _ (canonical_setRes ((canonical_with_promoted _ _).trans h) _)

theorem canonical_settleShard (h : s.canonical = true) (target k i) : (s.settleShard target k i).canonical = true :=
  canonical_resZero (canonical_setFld (canonical_clearShard (canonical_setFld (canonical_setFld h _ _) _ _) _ _) _ _) _ _

theorem canonical_zeroDeltas (h : s.canonical = true) (a) : (s.zeroDeltas a).canonical = true :=
  canonical_resZero (canonical_resZero (canonical_ite (canonical_resZero h _ _) h) _ _) _ _

theorem canonical_rollShard (h : s.canonical = true) (target a) : (s.rollShard target a).canonical = true := by
  unfold State.rollShard
  refine canonical_zeroDeltas (canonical_settleShard (canonical_writeImage ?_ _ _ _ _ _) _ _ _) _
  split
  · exact canonical_resRead h _ _ _
  · dsimp only
    split
    · exact canonical_resRead (canonical_resRead (canonical_copyImage h _ _ _ _) _ _ _) _ _ _
    · exact canonical_resRead (canonical_copyImage h _ _ _ _) _ _ _

theorem canonical_rollback (h : s.canonical = true) (target) : (s.rollback target).canonical = true :=
  canonical_setHolds (canonical_setRes (canonical_foldl _ (fun _ _ hu => canonical_rollShard hu _ _) _ _ h) _) _

theorem canonical_sendSegment (h : s.canonical = true) (dst g i pieces l) : (s.sendSegment dst g i pieces l).canonical = true := by
  unfold State.sendSegment
  refine canonical_foldl_of Prod.fst _ (fun u x hu => ?_) _ _ ?_
  · exact canonical_foldl _ (fun _ _ hv => canonical_resSend hv _ _ _ _ _) _ _ hu
  · exact h

theorem canonical_rebuildSend (h : s.canonical = true) (u j) : (s.rebuildSend u j).canonical = true :=
  canonical_foldl _ (fun _ _ hu => canonical_foldl _ (fun _ _ hv => canonical_ite hv
    (canonical_foldl _ (fun _ _ hw => canonical_sendSegment (canonical_segment hw _ _ _ _) _ _ _ _ _) _ _ hv)) _ _
    (canonical_ite (canonical_sendSegment (canonical_resRead hu _ _ _) _ _ _ _ _) (canonical_resRead hu _ _ _))) _ _
    (canonical_ite (canonical_foldl _ (fun _ _ hz => canonical_resSend (canonical_resRead hz _ _ _) _ _ _ _ _) _ _ h) h)

theorem canonical_takeImages (h : s.canonical = true) (images) : (s.takeImages images).canonical = true :=
  (canonical_with_scene _ _).trans (canonical_foldl _ (fun _ _ hu => canonical_swapMarked hu _) _ _
    (canonical_clearOutside (canonical_loadImages h _ _) _))

theorem canonical_holdEntry (h : s.canonical = true) (k i) : (s.holdEntry k i).canonical = true :=
  canonical_ite (canonical_setRes (canonical_setFld h _ _) _) h

theorem canonical_releaseEntries (h : s.canonical = true) : s.releaseEntries.canonical = true :=
  canonical_foldl _ (fun _ _ hu => canonical_setFld hu _ _) _ _ (canonical_setRes h _)

theorem canonical_rebuildSelf (h : s.canonical = true) (target b) : (s.rebuildSelf target b).canonical = true := by
  unfold State.rebuildSelf
  refine canonical_ite (canonical_resFail h _) ?_
  extract_lets s1 _ s2 s3 s4 _ _ s5 _ s6 s7
  have h1 : s1.canonical = true := canonical_foldl _ (fun _ _ hu => canonical_ite (canonical_setReg hu _ _) hu) _ _ h
  have h2 : s2.canonical = true := canonical_rebuiltMore (canonical_setRes h1 _) _
  have h3 : s3.canonical = true :=
    canonical_foldl _ (fun _ _ hu => canonical_holdEntry (canonical_foldl _ (fun _ _ hv => canonical_setReg hv _ _) _ _ hu) _ _) _ _ h2
  have h4 : s4.canonical = true := canonical_takeImages h3 _
  have h5 : s5.canonical = true := canonical_of_stores (s := s4) rfl rfl rfl h4
  have h6 : s6.canonical = true := canonical_setRes h5 _
  have h7 : s7.canonical = true := canonical_foldl _ (fun _ _ hu =>
    canonical_zeroDeltas (canonical_settleShard (canonical_ite (canonical_writeImage hu _ _ _ _ _) hu) _ _ _) _) _ _ h6
  exact canonical_setCurtain h7 _

theorem canonical_restoredIn (h : s.canonical = true) (seat bytes) : (s.restoredIn seat bytes).canonical = true :=
  canonical_ite h (canonical_setRes h _)

theorem canonical_rebuildSettle (h : s.canonical = true) : s.rebuildSettle.canonical = true :=
  canonical_ite h (canonical_ite (canonical_restoredIn (canonical_setRes h _) _ _) (canonical_toMaster (canonical_setRes h _) _))

theorem canonical_resSettle (h : s.canonical = true) : s.resSettle.canonical = true := canonical_rebuildSettle (canonical_settle h)

theorem canonical_recover (h : s.canonical = true) (target pairs b) : (s.recover target pairs b).canonical = true := by
  unfold State.recover
  extract_lets s1 _ _ s2 _ s3 s4 _ s5 s6 s7 s8
  have hs1 : s1.canonical = true := by
    unfold s1
    split
    exacts [canonical_ite (canonical_ckptCommit h _ _) (canonical_ckptAbandon h _), h]
  have hs2 : s2.canonical = true := (canonical_with_promoted _ _).trans hs1
  have hs3 : s3.canonical = true := canonical_setRes hs2 _
  have hs4 : s4.canonical = true := canonical_setFld hs3 _ _
  have hs5 : s5.canonical = true := canonical_setFld (canonical_setFld (canonical_setFld hs4 _ _) _ _) _ _
  have hs6 : s6.canonical = true := canonical_reroute (canonical_foldl _ (fun _ _ hu => canonical_addAlias hu _ _) _ _ hs5)
  have hs7 : s7.canonical = true := canonical_rollback hs6 _
  have hs8 : s8.canonical = true := canonical_ite (canonical_foldl _ (fun _ _ hu => canonical_rebuildSend hu _ _) _ _ hs7) hs7
  refine canonical_ite (canonical_rebuildSettle ?_) (canonical_rebuildSettle hs8)
  split
  exacts [canonical_rebuildSelf hs6 _ _, canonical_resFail hs6 _]

theorem canonical_unrecoverableCmds (h : s.canonical = true) : s.unrecoverableCmds.canonical = true :=
  canonical_endCmds (canonical_endCmds h _ _ _ _) _ _ _ _

theorem canonical_chooseTarget (h : s.canonical = true) : s.chooseTarget.canonical = true := by
  unfold State.chooseTarget
  refine canonical_ite h (canonical_ite h ?_)
  dsimp only
  split
  · exact canonical_unrecoverableCmds (canonical_resCode ((canonical_sendC3 _ _ _).trans h) _ _ _)
  · split
    · exact canonical_foldl _ (fun _ _ hu => canonical_resCode hu _ _ _) _ _ h
    · exact canonical_ite (canonical_promotionRefused h _) (canonical_recover ((canonical_sendC3 _ _ _).trans h) _ _ _)

theorem canonical_recoveryIn (h : s.canonical = true) (seat k n) : (s.recoveryIn seat k n).canonical = true :=
  canonical_ite h (canonical_chooseTarget (canonical_setRes h _))

theorem canonical_stopPermute (h : s.canonical = true) : s.stopPermute.canonical = true := by
  unfold State.stopPermute
  split
  · exact h
  · exact canonical_ite h (canonical_endCmds (canonical_setFld (canonical_setFld (canonical_setRes ((canonical_with_job _ _).trans h) _)
      _ _) _ _) _ _ _ _)

theorem canonical_reportDrained (h : s.canonical = true) : s.reportDrained.canonical = true :=
  canonical_ite (canonical_recoveryIn (canonical_setRes (canonical_refreshQueues h _) _) _ _ _)
    (canonical_toMaster (canonical_setRes (canonical_refreshQueues h _) _) _)

theorem canonical_startRecovery (h : s.canonical = true) (peer) : (s.startRecovery peer).canonical = true :=
  canonical_setRes (canonical_setCurtain (canonical_quitStep (canonical_stopPermute h)) _) _

theorem canonical_masterGone (h : s.canonical = true) (seat peer) : (s.masterGone seat peer).canonical = true :=
  canonical_unrecoverableCmds (canonical_resCode (canonical_setRes (canonical_setCurtain (canonical_haltAll (canonical_endStep h _) _) _)
    _) _ _ _)

theorem canonical_abandonFor (h : s.canonical = true) (seat) : (s.abandonFor seat).canonical = true := by
  unfold State.abandonFor
  split
  exacts [canonical_ite (canonical_ckptAbandon ((canonical_sendC3 _ _ _).trans h) _) h, h]

theorem canonical_acceptLost (h : s.canonical = true) (seat peer) : (s.acceptLost seat peer).canonical = true :=
  canonical_ite h (canonical_ite (canonical_setRes h _) (canonical_ite (canonical_leaveJob
    (canonical_ite (canonical_health (canonical_setRes h _) _) (canonical_abandonFor (canonical_health (canonical_setRes h _) _) _)))
    (canonical_ite (canonical_masterGone (canonical_ite (canonical_health (canonical_setRes h _) _)
    (canonical_abandonFor (canonical_health (canonical_setRes h _) _) _)) _ _)
    (canonical_ite (canonical_setRes (canonical_ite (canonical_health (canonical_setRes h _) _)
    (canonical_abandonFor (canonical_health (canonical_setRes h _) _) _)) _)
    (canonical_ite (canonical_ite (canonical_health (canonical_setRes h _) _)
    (canonical_abandonFor (canonical_health (canonical_setRes h _) _) _)) (canonical_startRecovery
    (canonical_ite (canonical_health (canonical_setRes h _) _) (canonical_abandonFor (canonical_health (canonical_setRes h _) _) _))
    _))))))

theorem canonical_resume (h : s.canonical = true) (cue step) : (s.resume cue step).canonical = true := by
  unfold State.resume
  extract_lets _ s1 _ s2 s3 _ _ s4 s5 s6 s7 _ s8 s9 _ s10
  have hs1 : s1.canonical = true := canonical_setFld (canonical_releaseEntries h) _ _
  have hs2 : s2.canonical = true := (canonical_with_job _ _).trans hs1
  have hs3 : s3.canonical = true := canonical_foldl _ (fun _ _ hu => canonical_resCode hu _ _ _) _ _ hs2
  have hs4 : s4.canonical = true :=
    canonical_ite (canonical_foldl _ (fun _ _ hu => canonical_resWrite (canonical_copyImage hu _ _ _ _) _ _ _) _ _ hs3) hs3
  have hs5 : s5.canonical = true := canonical_ite hs4 (canonical_setFld hs4 _ _)
  have hs6 : s6.canonical = true := canonical_ite (canonical_setFld hs5 _ _) hs5
  have hs7 : s7.canonical = true := canonical_foldl _ (fun _ _ hu => canonical_ite (canonical_resCode hu _ _ _) hu) _ _ hs6
  have hs8 : s8.canonical = true := canonical_setRes hs7 _
  have hs9 : s9.canonical = true := canonical_setFld hs8 _ _
  have hs10 : s10.canonical = true := canonical_setCurtain hs9 _
  exact canonical_endCmdsOf (canonical_endCmdsOf hs10 _ _ _ _ _) _ _ _ _ _

theorem canonical_afterCommit (h : s.canonical = true) : s.afterCommit.canonical = true := by
  unfold State.afterCommit
  split
  exacts [canonical_ite (canonical_loseSeat (canonical_setRes h _) _) h, h]

theorem canonical_imageShard (h : s.canonical = true) (step x) : (s.imageShard step x).canonical = true := by
  unfold State.imageShard
  extract_lets s1
  have hs1 : s1.canonical = true := canonical_settleShard (canonical_writeImage h _ _ _ _ _) _ _ _
  split
  exacts [hs1, canonical_resWrite (canonical_zeroDeltas hs1 _) _ _ _]

theorem canonical_emptied (h : s.canonical = true) : s.emptied.canonical = true := by
  unfold State.emptied
  exact canonical_emptyTileChannels (canonical_emptyQueues
    (canonical_filter_poison (s := { s with mem := s.mem.filter (fun c => !s.uncaptured c.1) }) (canonical_filter_mem h _) _))

theorem canonical_restoreImage (h : s.canonical = true) (f) : (s.restoreImage f).canonical = true := by
  unfold State.restoreImage
  extract_lets s1 s2 _ _ s3 _ s4 _ s5 _ s6 s7 s8
  have hs1 : s1.canonical = true := canonical_foldl _ (fun _ _ hu => canonical_imageShard hu _ _) _ _ h
  have hs2 : s2.canonical = true := canonical_takeImages hs1 _
  have hs3 : s3.canonical = true := canonical_of_stores (s := s2) rfl rfl rfl hs2
  have hs4 : s4.canonical = true := canonical_resZero (canonical_resZero hs3 _ _) _ _
  have hs5 : s5.canonical = true := canonical_foldl _ (fun _ _ hu => canonical_resZero (canonical_resZero hu _ _) _ _) _ _ hs4
  have hs6 : s6.canonical = true := canonical_setRes hs5 _
  have hs7 : s7.canonical = true := canonical_setHolds hs6 _
  have hs8 : s8.canonical = true := canonical_setFld (canonical_setFld hs7 _ _) _ _
  exact canonical_setFld (canonical_setFld hs8 _ _) _ _

theorem canonical_restoring (h : s.canonical = true) (c step) : (s.restoring c step).canonical = true :=
  canonical_rebuildSettle (canonical_setFld (canonical_setCurtain (canonical_setRes (canonical_putCmd (canonical_emptied h) _) _) _) _ _)

theorem canonical_restoreFrom (h : s.canonical = true) (c f) : (s.restoreFrom c f).canonical = true := by
  unfold State.restoreFrom
  split
  exacts [canonical_verifyFailed h _ _, canonical_restoring (canonical_restoreImage (canonical_setRes h _) _) _ _]

theorem canonical_notHeld (h : s.canonical = true) (c) : (s.notHeld c).canonical = true :=
  canonical_cmdDone (canonical_resCode (canonical_setRes h _) _ _ _) _ _ _

/-! #### Operations of Machine/Scenes.lean -/

theorem canonical_setScene (h : s.canonical = true) (x) : (s.setScene x).canonical = true := h

theorem canonical_beginChange (h : s.canonical = true) (ch) : (s.beginChange ch).canonical = true :=
  (canonical_with_power _ _).trans (canonical_foldl _ (fun _ _ hu => canonical_setTe hu _ _) _ _
    ((canonical_with_host _ _).trans (canonical_setFld (canonical_setScene h _) _ _)))

theorem canonical_writeRecords (h : s.canonical = true) (c) : (s.writeRecords c).canonical = true := by
  unfold State.writeRecords
  extract_lets cells regs s1 s2 s3
  have h1 : s1.canonical = true :=
    canonical_filter_poison (s := { s with mem := s.mem.filter (fun p => (saveSpace p.1).isNone) }) (canonical_filter_mem h _) _
  have h2 : s2.canonical = true := canonical_foldl _ (fun _ _ hu => canonical_setByte hu _ _) _ _ h1
  have h3 : s3.canonical = true := canonical_foldl _ (fun _ _ hu => canonical_setNum hu _ _ _) _ _ h2
  exact canonical_foldl _ (fun _ _ hu => canonical_setNum (canonical_setNum hu _ _ _) _ _ _) _ _ h3

theorem canonical_clearAlarms (h : s.canonical = true) : s.clearAlarms.canonical = true :=
  canonical_foldl _ (fun _ _ hu => canonical_setReg (canonical_setReg hu _ _) _ _) _ _ h

theorem canonical_dropScene (h : s.canonical = true) : s.dropScene.canonical = true :=
  canonical_clearAlarms (canonical_emptyTileChannels (canonical_foldl _ (fun _ _ hu => canonical_setBoothQ hu _ _) _ _ h))

theorem canonical_saveScene (h : s.canonical = true) (c) : (s.saveScene c).canonical = true :=
  canonical_dropScene (canonical_setScene (canonical_writeRecords h _) _)

theorem canonical_endChange (h : s.canonical = true) (ch) : (s.endChange ch).canonical = true :=
  canonical_endCmds (canonical_setFld (canonical_setScene h _) _ _) _ _ _ _

theorem canonical_readRecords (h : s.canonical = true) (sv) : (s.readRecords sv).canonical = true := by
  unfold State.readRecords
  extract_lets cells regs words s1 s2 s3 s4 s5
  have h1 : s1.canonical = true :=
    (canonical_with_tiles _ _).trans (canonical_filter_poison (s := { s with mem := s.mem.filter (fun p => (tileSpace p.1).isNone) })
      (canonical_filter_mem h _) _)
  have h2 : s2.canonical = true := canonical_foldl _ (fun _ _ hu => canonical_setByte hu _ _) _ _ h1
  have h3 : s3.canonical = true := canonical_poisonAll h2 _ _
  have h4 : s4.canonical = true := canonical_foldl _ (fun _ _ hu => canonical_setReg hu _ _) _ _ h3
  have h5 : s5.canonical = true := canonical_foldl _ (fun _ _ hu => canonical_setReg hu _ _) _ _ h4
  exact canonical_foldl _ (fun _ _ hu => canonical_ite hu (canonical_setFld (canonical_setFld
    (canonical_setFld (canonical_setFld hu _ _) _ _) _ _) _ _)) _ _ h5

theorem canonical_restoreScene (h : s.canonical = true) (ch sv) : (s.restoreScene ch sv).canonical = true :=
  canonical_setScene ((canonical_with_host _ _).trans (canonical_foldl _ (fun _ _ hu => canonical_setTe hu _ _) _ _
    (canonical_foldl _ (fun _ _ hv => canonical_setBoothQ (canonical_setTe hv _ _) _ _) _ _
    (canonical_foldl _ (fun _ _ hw => canonical_setReg (canonical_setReg hw _ _) _ _) _ _
    (canonical_clearAlarms (canonical_foldl _ (fun _ _ hz => canonical_refillChan hz _ _) _ _
    (canonical_emptyTileChannels (canonical_readRecords h _)))))))) _

theorem canonical_beginRestore (h : s.canonical = true) (ch) : (s.beginRestore ch).canonical = true :=
  (canonical_with_power _ _).trans (canonical_setFld (canonical_setScene h _) _ _)

/-! #### Operations of Machine/Plan.lean -/

theorem canonical_setJob (h : s.canonical = true) (x) : (s.setJob x).canonical = true := h

theorem canonical_writeEntry (h : s.canonical = true) (clip version p) : (s.writeEntry clip version p).canonical = true :=
  canonical_resWrite (canonical_setReg (canonical_setReg (canonical_setReg (canonical_setReg
    (canonical_setReg (canonical_foldl _ (fun _ _ hu => canonical_setReg (canonical_setReg hu _ _) _ _) _ _
    (canonical_setReg (canonical_setReg (canonical_setReg h _ _) _ _) _ _)) _ _) _ _) _ _) _ _) _ _) _ _ _

theorem canonical_clearEntries (h : s.canonical = true) : s.clearEntries.canonical = true :=
  canonical_eachShard h (fun _ _ _ hu => canonical_foldl _ (fun _ _ hv => canonical_setReg hv _ _) _ _ hu)

theorem canonical_putRoute (h : s.canonical = true) (g v) : (s.putRoute g v).canonical = true :=
  canonical_ite h (canonical_holdRoute (canonical_setReg h _ _) _)

theorem canonical_writeDatelines (h : s.canonical = true) (j me) : (s.writeDatelines j me).canonical = true :=
  canonical_foldl _ (fun _ _ hu => canonical_setFld (canonical_setFld hu _ _) _ _) _ _ h

theorem canonical_writeRoutes (h : s.canonical = true) (j) : (s.writeRoutes j).canonical = true := by
  unfold State.writeRoutes
  split
  · exact h
  · extract_lets _ _ _ _ _ s1 s2 s3 s4
    have hs1 : s1.canonical = true := canonical_foldl _ (fun _ _ hu => canonical_putRoute hu _ _) _ _ h
    have hs2 : s2.canonical = true := canonical_foldl _ (fun _ _ hu => canonical_putRoute hu _ _) _ _ hs1
    have hs3 : s3.canonical = true := canonical_foldl _ (fun _ _ hu => canonical_putRoute hu _ _) _ _ hs2
    have hs4 : s4.canonical = true := canonical_ite (canonical_writeDatelines hs3 _ _) hs3
    exact canonical_reroute (canonical_setJob hs4 _)

theorem canonical_writeSets (h : s.canonical = true) (j) : (s.writeSets j).canonical = true := by
  unfold State.writeSets
  extract_lets sets groups s1 s2 s3
  have h1 : s1.canonical = true := canonical_filter_regs h _
  have h2 : s2.canonical = true := canonical_foldl _ (fun _ _ hu => canonical_setFld hu _ _) _ _ h1
  have h3 : s3.canonical = true := canonical_foldl _ (fun _ _ hu => canonical_setFld hu _ _) _ _ h2
  exact (canonical_with_fab _ _).trans h3

theorem canonical_placeDress (h : s.canonical = true) (mine) : (s.placeDress mine).canonical = true := by
  unfold State.placeDress
  refine canonical_foldl _ (fun u x hu => ?_) _ _ h
  split
  exacts [canonical_setFld (canonical_setFld hu _ _) _ _, canonical_setFld hu _ _]

theorem canonical_writeBudgets (h : s.canonical = true) (id) : (s.writeBudgets id).canonical = true :=
  canonical_foldl _ (fun _ _ hu => canonical_ite (canonical_setReg hu _ _) hu) _ _ h

theorem canonical_applyPlan (h : s.canonical = true) (pp version) : (s.applyPlan pp version).canonical = true := by
  unfold State.applyPlan
  refine canonical_setFld (canonical_setFld (canonical_setReg (canonical_writeBudgets
    (canonical_writeSets (canonical_writeRoutes ?_ _) _) _) _ _) _ _) _ _
  split
  · exact canonical_placeDress (canonical_setJob ((canonical_with_promoted _ _).trans
      (canonical_foldl _ (fun _ _ hu => canonical_ite (canonical_resWrite (canonical_copyImage hu _ _ _ _) _ _ _)
      (canonical_resWrite (canonical_copyImage hu _ _ _ _) _ _ _)) _ _ (canonical_setRes
      (canonical_foldl _ (fun _ _ hv => canonical_writeEntry hv _ _ _) _ _ (canonical_clearEntries h)) _))) _) _
  · exact canonical_setJob ((canonical_with_promoted _ _).trans (canonical_foldl _
      (fun _ _ hu => canonical_ite (canonical_resWrite (canonical_copyImage hu _ _ _ _) _ _ _)
      (canonical_resWrite (canonical_copyImage hu _ _ _ _) _ _ _)) _ _ (canonical_setRes
      (canonical_foldl _ (fun _ _ hv => canonical_writeEntry hv _ _ _) _ _ (canonical_clearEntries h)) _))) _

theorem canonical_leaveReport (h : s.canonical = true) (l) : (s.leaveReport l).canonical = true := canonical_setFld h _ _

theorem canonical_planResult (h : s.canonical = true) (result) : (s.planResult result).canonical = true := canonical_setFld h _ _

theorem canonical_planIdle (h : s.canonical = true) : s.planIdle.canonical = true := canonical_setFld h _ _

theorem canonical_planFailed (h : s.canonical = true) (c id result) : (s.planFailed c id result).canonical = true :=
  canonical_cmdDone (canonical_planIdle (canonical_setFld (canonical_planResult (canonical_setJob h _) _) _ _)) _ _ _

theorem canonical_permSend (h : s.canonical = true) (op dst addr l) : (s.permSend op dst addr l).canonical = true :=
  canonical_ite h (canonical_ite (canonical_permuteLess (canonical_ite (canonical_resXor h _ _) (canonical_resWrite h _ _ _)) _)
    (canonical_foldl _ (fun _ _ hu => canonical_sendReq (canonical_setRes hu _) _ _ _ _ _ _ _ _ _ _ _) _ _ h))

theorem canonical_permConvert (h : s.canonical = true) (k src dst n) : (s.permConvert k src dst n).canonical = true :=
  canonical_permuteLess (canonical_ite (canonical_resFail (canonical_moverWrite (canonical_moverRead h _ _ _ _ _ _) _ _ _ _ _ _ _) _)
    (canonical_moverWrite (canonical_moverRead h _ _ _ _ _ _) _ _ _ _ _ _ _)) _

theorem canonical_sendOwn (h : s.canonical = true) (p new) : (s.sendOwn p new).canonical = true :=
  canonical_foldl _ (fun _ _ hu => canonical_foldl _ (fun _ _ hv => canonical_foldl _
    (fun _ _ hw => canonical_ite (canonical_permConvert hw _ _ _ _) (canonical_permSend (canonical_resRead hw _ _ _) _ _ _ _)) _ _ hv) _
    _ hu) _ _ h

theorem canonical_sendLost (h : s.canonical = true) (lost old dst news) : (s.sendLost lost old dst news).canonical = true := by
  unfold State.sendLost
  extract_lets m j pieces keep b
  split
  · split
    · exact h
    · split
      · exact h
      · exact canonical_foldl _ (fun _ _ hu => canonical_permSend (canonical_resRead hu _ _ _) _ _ _ _) _ _ h
  · split
    · exact h
    · next st _ =>
      refine canonical_foldl _ (fun t i ht => ?_) _ _ h
      extract_lets stripe _ src
      have hs : src.2.canonical = true := by
        refine canonical_ite_snd (canonical_resRead ht _ _ _) ?_
        refine canonical_foldl_of (Prod.snd : List PByte × State → State) _ (fun _ _ hu => ?_) _ _ ?_
        · exact canonical_segment hu st _ stripe true
        · exact ht
      exact canonical_foldl _ (fun _ _ hu => canonical_permSend hu _ _ _ _) _ _ hs

theorem canonical_placePermute (h : s.canonical = true) (pp) : (s.placePermute pp).canonical = true :=
  canonical_setFld (canonical_setJob (canonical_foldl _ (fun _ _ hu => canonical_resZero hu _ _) _ _ h) _) _ _

theorem canonical_startPermute (h : s.canonical = true) (pp) : (s.startPermute pp).canonical = true := by
  unfold State.startPermute
  refine canonical_setFld (canonical_setJob ?_ _) _ _
  split
  · exact canonical_rollback h _
  · refine canonical_foldl _ (fun u x hu => ?_) _ _ (canonical_rollback h _)
    split
    · exact canonical_ite (canonical_foldl _ (fun _ _ hv => canonical_sendOwn hv _ _) _ _ hu) hu
    · exact canonical_ite hu (canonical_foldl _ (fun _ _ hv => canonical_foldl _
        (fun _ _ hw => canonical_ite (canonical_sendLost hw _ _ _ _) hw) _ _ hv) _ _ hu)

theorem canonical_keepPlan (h : s.canonical = true) (c pp) : (s.keepPlan c pp).canonical = true :=
  canonical_cmdDone (canonical_setFld (canonical_setJob h _) _ _) _ _ _

theorem canonical_tryApply (h : s.canonical = true) (c) : (s.tryApply c).canonical = true := by
  unfold State.tryApply
  split
  · exact h
  · exact canonical_ite h (canonical_ite (canonical_planFailed h _ _ _) (canonical_ite h
      (canonical_ite (canonical_keepPlan h _ _) (canonical_ite (canonical_setFld h _ _)
      (canonical_ite (canonical_planFailed h _ _ _) (canonical_ite (canonical_startPermute h _)
      (canonical_ite (canonical_setFld h _ _) (canonical_cmdDone (canonical_applyPlan h _ _) _ _ _))))))))

theorem canonical_plan (h : s.canonical = true) (c reshard j est bubble) : (s.plan c reshard j est bubble).canonical = true :=
  canonical_ite (canonical_planFailed (canonical_setFld (canonical_leaveReport h _) _ _) _ _ _)
    (canonical_tryApply (canonical_setFld ((canonical_sendC3 _ _ _).trans (canonical_ite
    (canonical_placePermute (canonical_setFld (canonical_leaveReport h _) _ _) _)
    (canonical_setJob (canonical_setFld (canonical_leaveReport h _) _ _) _))) _ _) _)

theorem canonical_planProgress (h : s.canonical = true) (id) : (s.planProgress id).canonical = true := by
  unfold State.planProgress
  split
  exacts [canonical_ite (canonical_cmdUnits h _ _ _) (canonical_cmdUnits h _ _ _), h]

theorem canonical_placing (h : s.canonical = true) (c reshard j est bubble) : (s.placing c reshard j est bubble).canonical = true :=
  canonical_ite (canonical_planProgress (canonical_tryApply h _) _) (canonical_ite
    (canonical_ite (canonical_setFld h _ _) (canonical_cmdUnits (canonical_setFld h _ _) _ _ _)) (canonical_plan h _ _ _ _ _))

theorem canonical_readyFails (h : s.canonical = true) (c pp) : (s.readyFails c pp).canonical = true :=
  canonical_cmdDone (canonical_planIdle (canonical_planResult (canonical_setJob h _) _)) _ _ _

/-! #### Operations of Machine/RegBus.lean -/

theorem canonical_cueCtlWrite (h : s.canonical = true) (off len v) : (s.cueCtlWrite off len v).canonical = true :=
  canonical_ite (canonical_setFld (canonical_setFld (canonical_setFld (canonical_setFld
    (canonical_ite (canonical_setFld (canonical_regWrite h _ _ _ _) _ _) (canonical_regWrite h _ _ _ _)) _ _) _ _) _ _) _ _)
    (canonical_ite (canonical_setFld (canonical_regWrite h _ _ _ _) _ _) (canonical_regWrite h _ _ _ _))

theorem canonical_freshKey (h : s.canonical = true) (n w) : (s.freshKey n w).2.canonical = true := (canonical_usedFree _ _).trans h

theorem canonical_setWindow (h : s.canonical = true) (n w base pages access key) :
    (s.setWindow n w base pages access key).canonical = true :=
  canonical_setFld (canonical_setFld (canonical_setFld (canonical_setFld (canonical_setFld h _ _) _ _) _ _) _ _) _ _

theorem canonical_dropWindow (h : s.canonical = true) (n w) : (s.dropWindow n w).canonical = true :=
  canonical_setReg (canonical_setReg h _ _) _ _

theorem canonical_sessionBegins (h : s.canonical = true) (n) : (s.sessionBegins n).canonical = true :=
  canonical_ite (canonical_setFld (canonical_setFld (canonical_foldl _ (fun _ _ hu => canonical_setRingIdx hu _ _ _) _ _ h) _ _) _ _)
    (canonical_setWindow (canonical_freshKey (canonical_setFld (canonical_setFld
    (canonical_foldl _ (fun _ _ hv => canonical_setRingIdx hv _ _ _) _ _ h) _ _) _ _) _ _) _ _ _ _ _ _)

theorem canonical_sessionEnds (h : s.canonical = true) (n) : (s.sessionEnds n).canonical = true :=
  (canonical_with_host _ _).trans (canonical_foldl _ (fun _ _ hu => canonical_dropWindow hu _ _) _ _ h)

theorem canonical_sessCfgWrite (h : s.canonical = true) (n off len v) : (s.sessCfgWrite n off len v).canonical = true :=
  canonical_ite (canonical_ite (canonical_regWrite h _ _ _ _) (canonical_ite (canonical_sessionBegins (canonical_regWrite h _ _ _ _) _)
    (canonical_sessionEnds (canonical_regWrite h _ _ _ _) _))) (canonical_setFld (canonical_setFld (canonical_regWrite h _ _ _ _) _ _) _
    _)

theorem canonical_busPost (h : s.canonical = true) (mid n v) : (s.busPost mid n v).2.canonical = true := canonical_posts h _ _

theorem canonical_satAgain (h : s.canonical = true) (a) : (s.satAgain a).canonical = true := canonical_addFld h _ _

theorem canonical_keepLimits (h : s.canonical = true) : s.keepLimits.canonical = true := canonical_ite h h

theorem canonical_hookWrite (h : s.canonical = true) (mid r a off len v) : (s.hookWrite mid r a off len v).2.canonical = true := by
  have hp := canonical_regWrite h a off len v
  have hk := canonical_regWrite (canonical_keepForce h a) a off len v
  unfold State.hookWrite
  extract_lets
  refine canonical_ite_snd (canonical_seedWrite h _ _ _ _) ?_
  refine canonical_ite_snd hk ?_
  refine canonical_ite_snd (canonical_satAgain hp _) ?_
  refine canonical_ite_snd (canonical_bankctlWrite h _ _ _ _) ?_
  refine canonical_ite_snd (canonical_dcCtlWrite h _ _ _) ?_
  refine canonical_ite_snd (canonical_dcAreaWrite h _ _ _ _) ?_
  refine canonical_ite_snd (canonical_cacheResize h _) ?_
  refine canonical_ite_snd (canonical_ite (canonical_bqPost h _) h) ?_
  refine canonical_ite_snd (canonical_clipResolve h _ _) ?_
  refine canonical_ite_snd (canonical_shardEntryWrite h _ _ _) ?_
  refine canonical_ite_snd ((canonical_reseedSoon _ _).trans hk) ?_
  refine canonical_ite_snd (canonical_cePost h _) ?_
  refine canonical_ite_snd (canonical_portCfgWrite h _ _) ?_
  refine canonical_ite_snd (canonical_ite hp h) ?_
  refine canonical_ite_snd (canonical_holdRoute hp _) ?_
  refine canonical_ite_snd (canonical_holdRoute hp _) ?_
  refine canonical_ite_snd (canonical_busPost h _ _ _) ?_
  refine canonical_ite_snd (canonical_flushChan h _) ?_
  refine canonical_ite_snd (canonical_setReg h _ _) ?_
  refine canonical_ite_snd (canonical_ite hp h) ?_
  refine canonical_ite_snd (canonical_cueCtlWrite h _ _ _) ?_
  refine canonical_ite_snd (canonical_alarmCtlWrite h _ _ _ _) ?_
  refine canonical_ite_snd (canonical_ite hp h) ?_
  refine canonical_ite_snd (canonical_regWrite (canonical_keepLimits h) _ _ _ _) ?_
  refine canonical_ite_snd (canonical_ite hp h) ?_
  refine canonical_ite_snd (canonical_sessCfgWrite h _ _ _ _) ?_
  exact canonical_ite_snd (canonical_ptpSelect (canonical_ptpMoved hp _ _)) hp

theorem canonical_busRefuse (h : s.canonical = true) (mid a code) : (s.busRefuse mid a code).2.canonical = true :=
  canonical_memEntry h _ _ _

theorem canonical_busWrite (h : s.canonical = true) (mid a len v) : (s.busWrite mid a len v).2.canonical = true := by
  unfold State.busWrite
  refine canonical_ite_snd (canonical_busRefuse h _ _ _) ?_
  split
  · exact canonical_busRefuse h _ _ _
  · exact canonical_ite_snd ((canonical_writerGranted _ _ _).trans h) (canonical_hookWrite ((canonical_writerGranted _ _ _).trans h) _ _
      _ _ _ _)

theorem canonical_hookRead (h : s.canonical = true) (mid r a) : (s.hookRead mid r a).2.2.canonical = true := by
  unfold State.hookRead
  extract_lets _ r1 r2
  have hr1 : r1.2.canonical = true := canonical_takeNotice h _
  have hr2 : r2.2.canonical = true := canonical_acqWin h _ _
  split
  · split
    · exact hr1
    · split
      exacts [h, canonical_countFld h _ _]
  · split
    exacts [hr2, h]

theorem canonical_noteRead (h : s.canonical = true) (r a) : (s.noteRead r a).canonical = true :=
  canonical_ite (canonical_readReg (canonical_readReg h _) _) (canonical_readReg h _)

theorem canonical_busRead (h : s.canonical = true) (mid a len) : (s.busRead mid a len).2.2.canonical = true := by
  unfold State.busRead
  extract_lets
  split
  · exact canonical_memEntry h _ _ _
  · split
    · exact canonical_memEntry h _ _ _
    · extract_lets s1 r1
      have hs1 : s1.canonical = true := canonical_noteRead h _ _
      have hr1 : r1.2.2.canonical = true := canonical_hookRead hs1 _ _ _
      exact canonical_regReadEffect hr1 _ _ _

theorem canonical_writeNow (h : s.canonical = true) (w) : (s.writeNow w).canonical = true :=
  (canonical_send _ _).trans (canonical_busWrite h _ _ _ _)

theorem canonical_writesIn (h : s.canonical = true) (r ws) : (s.writesIn r ws).canonical = true :=
  canonical_ite ((canonical_with_now _ _).trans h) (canonical_foldl _ (fun _ _ hu => canonical_writeNow hu _) _ _ h)

theorem canonical_ringAccess (h : s.canonical = true) (n a len data) : (s.ringAccess n a len data).2.canonical = true := by
  unfold State.ringAccess
  extract_lets off inside
  split
  · exact canonical_memEntry h _ _ _
  · split
    · exact h
    · next d _ =>
      rcases hw : s.rdmaPerform n a d noEcc with ⟨c, u⟩
      exact canonical_of_rdmaPerform h hw

theorem canonical_anyAccess (h : s.canonical = true) (mid a len data hint narrow ecc) :
    (s.anyAccess mid a len data hint narrow ecc).2.canonical = true := by
  unfold State.anyAccess
  split
  · split
    exacts [canonical_busWrite h _ _ _ _, canonical_busRead h _ _ _]
  · split
    exacts [canonical_busWrite h _ _ _ _, canonical_busRead h _ _ _]
  · split
    exacts [canonical_ringAccess h _ _ _ _, canonical_access h _]
  · split
    exacts [canonical_ite_snd (canonical_memEntry h _ _ _) (canonical_access h _), canonical_access h _]

theorem canonical_serve (h : s.canonical = true) (p) : (s.serve p).canonical = true :=
  canonical_ite (canonical_scrub h _ _) ((canonical_send _ _).trans (canonical_ite
    (canonical_memEntry (canonical_anyAccess h _ _ _ _ _ _ _) _ _ _) (canonical_anyAccess h _ _ _ _ _ _ _)))

theorem canonical_serveAll : ∀ (f l) {s : State}, s.canonical = true → (State.serveAll f l s).canonical = true
  | 0, _, _, h => h
  | f + 1, l, s, h => by
    unfold State.serveAll
    split
    · exact h
    · exact canonical_serveAll f _ (canonical_serve h _)

/-! #### Operations of Machine/CmdTake.lean -/

theorem canonical_takeFrom (h : s.canonical = true) (n) : (s.takeFrom n).canonical = true := by
  unfold State.takeFrom
  dsimp only
  split
  · exact canonical_putStatus (canonical_countFld (canonical_setFld (canonical_setFld (canonical_setRingIdx h _ _ _) _ _) _ _) _ _) _ _ _
  · exact canonical_ite (canonical_acceptWarm (canonical_cmdStatus (canonical_showJobs
      ((canonical_with_host _ _).trans (canonical_setFld (canonical_setFld (canonical_setRingIdx h _ _ _) _ _) _ _))) _ _ _ _) _)
      (canonical_cmdStatus (canonical_showJobs ((canonical_with_host _ _).trans
      (canonical_setFld (canonical_setFld (canonical_setRingIdx h _ _ _) _ _) _ _))) _ _ _ _)

/-! #### Operations of Machine/Commands.lean -/

theorem canonical_boothWrite (h : s.canonical = true) (a l) : (s.boothWrite a l).canonical = true :=
  canonical_foldl _ (fun _ _ hu => canonical_anyAccess hu _ _ _ _ _ _ _) _ _ h

theorem canonical_boothRead8 (h : s.canonical = true) (a) : (s.boothRead8 a).2.canonical = true := canonical_anyAccess h _ _ _ _ _ _ _

theorem canonical_readAll (h : s.canonical = true) (l) : (s.readAll l).2.canonical = true := by
  unfold State.readAll
  refine canonical_foldl_of Prod.snd _ (fun u x hu => ?_) _ _ ?_
  · exact canonical_boothRead8 hu _
  · exact h

theorem canonical_enableSession (h : s.canonical = true) (n kind notify prefixLen qpMax peer) :
    (s.enableSession n kind notify prefixLen qpMax peer).canonical = true :=
  canonical_ite (canonical_setReg (canonical_setReg (canonical_setFld (canonical_setFld (canonical_setFld h _ _) _ _) _ _) _ _) _ _)
    (canonical_sessionBegins (canonical_setFld (canonical_setFld (canonical_setReg
    (canonical_setReg (canonical_setFld (canonical_setFld (canonical_setFld h _ _) _ _) _ _) _ _) _ _) _ _) _ _) _)

theorem canonical_disableSession (h : s.canonical = true) (n) : (s.disableSession n).canonical = true := by
  unfold State.disableSession
  refine canonical_setFld (canonical_sessionEnds (canonical_foldl _ (fun u x hu => ?_) _ _ h) _) _ _
  split
  exacts [canonical_qpError hu _, hu]

theorem canonical_openQp (h : s.canonical = true) (n port ip i) : (s.openQp n port ip i).canonical = true :=
  canonical_sendCm (canonical_setQp ((canonical_usedFree _ _).trans h) _) _ _

theorem canonical_openQps (n port ip) : ∀ (k) {s : State}, s.canonical = true → (s.openQps n port ip k).canonical = true
  | 0, _, h => h
  | k + 1, s, h => by
    unfold State.openQps
    refine canonical_openQps n port ip k ?_
    cases s.freeQp? with
    | none => exact h
    | some q => exact canonical_openQp h _ _ _ _

theorem canonical_storeReady (h : s.canonical = true) (n late) : (s.storeReady n late).canonical = true := by
  unfold State.storeReady
  split
  exacts [h, canonical_ite (canonical_cmdDone h _ _ _) h]

theorem canonical_closeJob (h : s.canonical = true) : s.closeJob.canonical = true := by
  unfold State.closeJob
  extract_lets _ s1 s2
  have hs1 : s1.canonical = true := h
  have hs2 : s2.canonical = true := canonical_setFld (canonical_setFld (canonical_setFld hs1 _ _) _ _) _ _
  exact canonical_setFld (canonical_setFld (canonical_setFld (canonical_setFld hs2 _ _) _ _) _ _) _ _

/-! #### Operations of Machine/Reset.lean -/

theorem canonical_showFuses (h : s.canonical = true) : s.showFuses.canonical = true := canonical_setFld (canonical_setFld h _ _) _ _

/-- A restart keeps the form whatever the part held: its stores begin anew. -/
theorem canonical_restart (_h : s.canonical = true) (kind mid) : (s.restart kind mid).canonical = true := by
  unfold State.restart
  extract_lets cold held _ _ _ r1 r2
  have h1 : r1.canonical = true := canonical_of_stores (s := State.reset) rfl rfl rfl reset_canonical
  have h2 : r2.canonical = true := canonical_showFuses (canonical_setFld (canonical_setFld h1 _ _) _ _)
  exact canonical_ite h2 (canonical_setFld (canonical_setFld (canonical_setFld h2 _ _) _ _) _ _)

/-! #### Operations of Machine/Boot.lean -/

theorem canonical_setBoot (h : s.canonical = true) (b) : (s.setBoot b).canonical = true := h

theorem canonical_bootSay (h : s.canonical = true) (e) : (s.bootSay e).canonical = true :=
  canonical_ite (canonical_pbHand h _) (canonical_setBoot h _)

theorem canonical_bootFault (h : s.canonical = true) (code) : (s.bootFault code).canonical = true := canonical_setBoot h _

theorem canonical_toStage (h : s.canonical = true) (n) : (s.toStage n).canonical = true := canonical_setFld (canonical_setBoot h _) _ _

theorem canonical_bootSlot (h : s.canonical = true) (slot root) : (s.bootSlot slot root).canonical = true := by
  unfold State.bootSlot
  extract_lets _ _ _ s1 s2 s3 s4 s5
  have hs1 : s1.canonical = true := h
  have hs2 : s2.canonical = true := canonical_setFld (canonical_setFld (canonical_setFld (canonical_setFld hs1 _ _) _ _) _ _) _ _
  have hs3 : s3.canonical = true := canonical_setFld (canonical_setFld hs2 _ _) _ _
  have hs4 : s4.canonical = true := canonical_measExtend hs3 _ _
  have hs5 : s5.canonical = true := canonical_measExtend hs4 _ _
  exact canonical_foldl _ (fun _ _ hu => canonical_measExtend hu _ _) _ _ hs5

theorem canonical_pbPut (h : s.canonical = true) (r) : (s.pbPut r).2.canonical = true := canonical_setFld (canonical_setFld h _ _) _ _

theorem canonical_pbAccept (h : s.canonical = true) (e) : (s.pbAccept e).canonical = true :=
  canonical_ite (canonical_eventStatus (canonical_pbPut h _) _ _) (canonical_pbPut h _)

theorem canonical_copyTail (h : s.canonical = true) (ok) : (s.copyTail ok).canonical = true := by
  unfold State.copyTail
  split
  · exact h
  · exact canonical_ite (canonical_pbAccept h _) (canonical_setFld (canonical_setFld
      (canonical_setFld (canonical_foldl _ (fun _ _ hu => canonical_pbPut hu _) _ _
      (canonical_pbAccept ((canonical_with_pb _ _).trans h) _)) _ _) _ _) _ _)

theorem canonical_showFlash (h : s.canonical = true) (i) : (s.showFlash i).canonical = true := by
  unfold State.showFlash
  split
  exacts [h, canonical_setFld (canonical_setFld h _ _) _ _]

theorem canonical_memoryFaults (h : s.canonical = true) (details) : (s.memoryFaults details).canonical = true :=
  canonical_foldl _ (fun _ _ hu => canonical_bootFault (canonical_bootSay hu _) _) _ _ h

theorem canonical_linksOver (h : s.canonical = true) (b) : (s.linksOver b).canonical = true :=
  canonical_ite (canonical_setFld (canonical_setBoot (canonical_setBoot h _) _) _ _) (canonical_setBoot h _)

theorem canonical_openSession0 (h : s.canonical = true) (cfg) : (s.openSession0 cfg).canonical = true :=
  canonical_enableSession h _ _ _ _ _ _

theorem canonical_applyConfig (h : s.canonical = true) (c raw) : (s.applyConfig c raw).canonical = true := by
  unfold State.applyConfig
  refine canonical_openSession0 (canonical_measExtend ?_ _ _) _
  split
  exacts [h, (canonical_with_sec _ _).trans (canonical_foldl _ (fun _ _ hu => canonical_boothWrite hu _ _) _ _ h)]

theorem canonical_raiseSvn (h : s.canonical = true) : (s.raiseSvn).canonical = true := by
  unfold State.raiseSvn
  extract_lets m n _ t
  have ht : t.canonical = true := (canonical_with_sec _ _).trans h
  exact canonical_ite (canonical_event (canonical_setFld ht _ _) _ _ _) h

theorem canonical_bootLock (h : s.canonical = true) (us test) : (s.bootLock us test).canonical = true :=
  canonical_toStage (canonical_ite (canonical_setFld (canonical_bootSay (canonical_bootSay
    (canonical_setFld (canonical_setFld (canonical_measExtend (canonical_ite (canonical_event (canonical_raiseSvn h) _ _ _)
    (canonical_raiseSvn h)) _ _) _ _) _ _) _) _) _ _) (canonical_bootSay (canonical_bootSay
    (canonical_setFld (canonical_setFld (canonical_measExtend (canonical_ite (canonical_event (canonical_raiseSvn h) _ _ _)
    (canonical_raiseSvn h)) _ _) _ _) _ _) _) _)) _

/-! #### Operations of Machine/FabRows.lean -/

theorem canonical_fenceLost (h : s.canonical = true) (t k ord) : (s.fenceLost t k ord).canonical = true := by
  unfold State.fenceLost
  split
  · exact canonical_ite h (canonical_ite h ((canonical_with_discardFlag _ _).trans
      (canonical_foldl _ (fun _ _ hu => canonical_loseSeat hu _) _ _ h)))
  · exact h

/-! #### Operations of Machine/Power.lean -/

theorem canonical_setPower (h : s.canonical = true) (x) : (s.setPower x).canonical = true := h

theorem canonical_powerEvent (h : s.canonical = true) (code about) : (s.powerEvent code about).canonical = true :=
  canonical_health (canonical_hostEvent h _ _ _) _

theorem canonical_stopEngines (h : s.canonical = true) : s.stopEngines.canonical = true :=
  canonical_foldl _ (fun _ _ hu => (canonical_setTile _ _ _).trans hu) _ _ ((canonical_with_fab _ _).trans
    (canonical_foldl _ (fun _ _ hv => canonical_setTe hv _ _) _ _ (canonical_setFld h _ _)))

theorem canonical_dropLinks (h : s.canonical = true) : s.dropLinks.canonical = true :=
  canonical_foldl _ (fun _ _ hu => canonical_ite (canonical_fhDown hu _) hu) _ _
    (canonical_foldl _ (fun _ _ hv => canonical_ite (canonical_linkDrop (canonical_setFld hv _ _) _) hv) _ _ h)

theorem canonical_loseStores (h : s.canonical = true) : s.loseStores.canonical = true := by
  have hm := canonical_filter_mem h (fun c => decide (0x12000000000 ≤ c.1))
  rw [canonical_iff] at hm ⊢
  exact ⟨hm.1, hm.2.1, rfl⟩

theorem canonical_tripHub (h : s.canonical = true) (die) : (s.tripHub die).canonical = true :=
  canonical_ite (canonical_setPower (canonical_powerEvent h _ _) _) (canonical_setPower (canonical_powerEvent h _ _) _)

theorem canonical_tripAll (h : s.canonical = true) : s.tripAll.canonical = true :=
  canonical_foldl _ (fun _ _ hu => canonical_tripDie hu _) _ _ h

theorem canonical_showHold (h : s.canonical = true) : s.showHold.canonical = true :=
  canonical_setFld (canonical_setFld (canonical_setFld h _ _) _ _) _ _

/-! #### Operations of Machine/Security.lean -/

theorem canonical_secEvent (h : s.canonical = true) (code about) : (s.secEvent code about).canonical = true := canonical_bootSay h _

theorem canonical_noChallenge (h : s.canonical = true) : s.noChallenge.canonical = true := h

/-! #### Operations of Machine/Mgmt.lean -/

theorem canonical_setMgmt (h : s.canonical = true) (x) : (s.setMgmt x).canonical = true := h

theorem canonical_takeAddr (h : s.canonical = true) (a) : (s.takeAddr a).canonical = true :=
  canonical_ite h (canonical_setFld (canonical_setMgmt h _) _ _)

theorem canonical_sample (h : s.canonical = true) (id) : (s.sample id).canonical = true := by
  unfold State.sample
  extract_lets _ _ _ s1
  have hs1 : s1.canonical = true := canonical_setMgmt h _
  split
  exacts [canonical_ite ((canonical_send _ _).trans hs1) hs1, hs1]

theorem canonical_updateFail (h : s.canonical = true) (u) : (s.updateFail u).canonical = true := by
  unfold State.updateFail
  extract_lets _ s1
  have hs1 : s1.canonical = true := h
  exact canonical_secEvent hs1 _ _

/-! #### Operations of Machine/Booth.lean -/

theorem canonical_coreGlobal (h : s.canonical = true) (n a len ld data) : (s.coreGlobal n a len ld data).canonical = true := by
  unfold State.coreGlobal
  refine canonical_ite (canonical_coreDone (canonical_memEntry h _ _ _) _ _ _ _)
    (canonical_ite ?_ (canonical_ite (canonical_coreDone h _ _ _ _) (canonical_sendReq (canonical_setCore h _ _) _ _ _ _ _ _ _ _ _ _ _)))
  split
  · exact canonical_putOff (canonical_setCore h _ _) _
  · refine canonical_coreDone (canonical_foldl_of (fun p : _ × _ × State => p.2.2) _ (fun u x hu => ?_) _ _ ?_) _ _ _ _
    · exact canonical_ite (canonical_memEntry (canonical_anyAccess hu _ _ _ _ _ _ _) _ _ _) (canonical_anyAccess hu _ _ _ _ _ _ _)
    · exact h

theorem canonical_coreVmem (h : s.canonical = true) (n store vd rs1 w pred) : (s.coreVmem n store vd rs1 w pred).canonical = true := by
  unfold State.coreVmem
  extract_lets
  split
  · exact canonical_ite (canonical_setCore h _ _) (canonical_coreVector h _ _ _)
  · exact canonical_ite (canonical_setCore h _ _) (canonical_setCore h _ _)

theorem canonical_coreDo (h : s.canonical = true) (n pred pd i) : (s.coreDo n pred pd i).canonical = true := by
  unfold State.coreDo
  dsimp only
  split
  · refine canonical_ite (canonical_coreGlobal h _ _ _ _ _) ?_
    split
    exacts [canonical_coreVector h _ _ _, canonical_setCore h _ _]
  · refine canonical_ite (canonical_coreGlobal h _ _ _ _ _) ?_
    split
    exacts [canonical_coreVector h _ _ _, canonical_setCore h _ _]
  · exact canonical_coreVmem h _ _ _ _ _ _
  · exact canonical_coreVmem h _ _ _ _ _ _
  · exact canonical_ite (canonical_coreVector h _ _ _) (canonical_setCore h _ _)
  · exact canonical_ite (canonical_coreVector h _ _ _) (canonical_setCore h _ _)
  · exact canonical_coreVector h _ _ _
  · exact canonical_coreVector h _ _ _
  · exact canonical_coreVector h _ _ _
  · exact (canonical_usedFree _ _).trans (canonical_setCore h _ _)

/-! #### Operations of Machine/PrompterCmds.lean -/

theorem canonical_runChecked (h : s.canonical = true) (t i) : (s.runChecked t i).canonical = true :=
  canonical_ite (canonical_runP h _ _) (canonical_issueAlone h _ _ (fun _ hu => hu))

/-! #### Operations of Machine/Rigging.lean -/

theorem canonical_setRigBuf (h : s.canonical = true) (t p cls l) : (s.setRigBuf t p cls l).canonical = true := h

theorem canonical_rigPut (h : s.canonical = true) (t p f) : (s.rigPut t p f).canonical = true :=
  canonical_ite (canonical_setRigBuf h _ _ _ _) h

theorem canonical_setRigEnd (h : s.canonical = true) (e cls l) : (s.setRigEnd e cls l).canonical = true := h

theorem canonical_rigHand (h : s.canonical = true) (t f) : (s.rigHand t f).canonical = true := h

theorem canonical_rigGrant (h : s.canonical = true) (t o) : (s.rigGrant t o).canonical = true := by
  unfold State.rigGrant
  extract_lets
  split
  · exact h
  · extract_lets s1 _ s2
    have hs1 : s1.canonical = true := canonical_setRigBuf h _ _ _ _
    have hs2 : s2.canonical = true := hs1
    split
    exacts [canonical_rigPut hs2 _ _ _, canonical_ite (canonical_rigHand hs2 _ _) (canonical_setRigEnd hs2 _ _ _)]

theorem canonical_rigTake (h : s.canonical = true) (t e cls) : (s.rigTake t e cls).canonical = true := by
  unfold State.rigTake
  split
  exacts [canonical_rigHand (canonical_setRigEnd h _ _ _) _ _, h]

theorem canonical_hubGrant (h : s.canonical = true) : s.hubGrant.canonical = true := by
  unfold State.hubGrant
  extract_lets
  split
  · exact h
  · extract_lets s1 s2
    have hs1 : s1.canonical = true := canonical_setRigEnd h _ _ _
    have hs2 : s2.canonical = true := canonical_setRigEnd hs1 _ _ _
    exact hs2

theorem canonical_rigEnds (h : s.canonical = true) (t o take) : (s.rigEnds t o take).canonical = true :=
  canonical_foldl _ (fun _ _ hu => canonical_rigTake hu _ _ _) _ _ (canonical_hubGrant
    (canonical_ite (canonical_foldl _ (fun _ _ hv => canonical_rigTake hv _ _ _) _ _ h) h))

theorem canonical_hubSends (h : s.canonical = true) (f) : (s.hubSends f).canonical = true := canonical_ite (canonical_setRigEnd h _ _ _) h

theorem canonical_hubFeeds (h : s.canonical = true) (t) : (s.hubFeeds t).canonical = true := by
  unfold State.hubFeeds
  refine canonical_ite h ?_
  split
  exacts [h, canonical_rigPut (canonical_setRigEnd h _ _ _) _ _ _]

/-! #### Operations of Machine/TileTick.lean -/

theorem canonical_cleanWords (h : s.canonical = true) (a n) : (s.cleanWords a n).canonical = true :=
  canonical_foldl _ (fun _ _ hu => canonical_setPoison hu _ _) _ _ h

theorem canonical_commitBytes (h : s.canonical = true) (t ord a l) : (s.commitBytes t ord a l).canonical = true :=
  (canonical_win _ _ _ _ _).trans (canonical_cleanFlaws (canonical_cleanWords (canonical_noteWrites (canonical_setBytes _ _ h) _ _) _ _)
    _ _)

theorem canonical_maskedWrite (h : s.canonical = true) (t ord l) : (s.maskedWrite t ord l).canonical = true := by
  unfold State.maskedWrite
  dsimp only
  split
  · exact canonical_foldl _ (fun _ _ hu => canonical_cleanFlaws (canonical_setPoison hu _ _) _ _) _ _
      (canonical_foldl _ (fun _ _ hv => canonical_ite hv ((canonical_win _ _ _ _ _).trans
      (canonical_noteWrites (canonical_setByte hv _ _) _ _))) _ _ h)
  · exact canonical_tileCause (canonical_foldl _ (fun _ _ hu => canonical_cleanFlaws (canonical_setPoison hu _ _) _ _) _ _
      (canonical_foldl _ (fun _ _ hv => canonical_ite hv ((canonical_win _ _ _ _ _).trans
      (canonical_noteWrites (canonical_setByte hv _ _) _ _))) _ _ h)) _ _ _ _ _

theorem canonical_swapBanks (h : s.canonical = true) (t) : (s.swapBanks t).canonical = true :=
  canonical_setResume (canonical_setFld (canonical_setFld h _ _) _ _) _ _

theorem canonical_unissue (h : s.canonical = true) (n) : (s.unissue n).canonical = true :=
  (canonical_with_dc _ _).trans (canonical_setReg ((canonical_setTile _ _ _).trans
    (canonical_foldl _ (fun _ _ hu => canonical_wcDec hu _ _) _ _ (canonical_foldl _ (fun _ _ hv => canonical_wcDec hv _ _) _ _ h))) _ _)

theorem canonical_swapHalt (h : s.canonical = true) (t pt slot c) : (s.swapHalt t pt slot c).canonical = true :=
  canonical_haltTile h _ _ _ _ _ _ _ _

theorem canonical_settleSlot (h : s.canonical = true) (t bundle performed) : (s.settleSlot t bundle performed).canonical = true := by
  unfold State.settleSlot
  split
  · exact h
  · split
    · exact h
    · exact canonical_swapHalt (canonical_unissue h _) _ _ _ _
    · exact canonical_swapHalt h _ _ _ _
    · dsimp only
      split
      exacts [canonical_performBundle h _ _ _, canonical_performS h _ _]

theorem canonical_settleMark (h : s.canonical = true) (t) : (s.settleMark t).canonical = true := by
  unfold State.settleMark
  split
  exacts [canonical_swapHalt (canonical_setFld h _ _) _ _ _ _, canonical_setResume (canonical_setFld h _ _) _ _]

theorem canonical_settleSwaps (h : s.canonical = true) : s.settleSwaps.canonical = true := by
  unfold State.settleSwaps
  refine canonical_foldl _ (fun u x hu => ?_) _ _ h
  split
  exacts [canonical_settleMark hu _, canonical_settleSlot hu _ _ _]

theorem canonical_gatherCommit (h : s.canonical = true) (t ord id) : (s.gatherCommit t ord id).canonical = true := by
  unfold State.gatherCommit
  split
  · exact h
  · refine canonical_ite ((canonical_setTile _ _ _).trans h) (canonical_foldl _ (fun u x hu => ?_) _ _
      ((canonical_setTile _ _ _).trans h))
    split
    exacts [canonical_commitReg hu _ _ _ _ _, hu]

theorem canonical_commitEff (h : s.canonical = true) (t ord e) : (s.commitEff t ord e).canonical = true := by
  unfold State.commitEff
  split
  · exact canonical_commitReg h _ _ _ _ _
  · exact canonical_commitBytes h _ _ _ _
  · exact canonical_commitBytes (canonical_dcWindowWrite h _ _ _) _ _ _ _
  · exact canonical_maskedWrite h _ _ _
  · exact canonical_poisonAll h _ _
  · exact (canonical_win _ _ _ _ _).trans (canonical_tileRegStore h _ _ _ _)
  · exact canonical_tileStat h _ _
  · exact canonical_swapBanks h _
  · exact canonical_gatherCommit h _ _ _
  · exact h

theorem canonical_loadNow (h : s.canonical = true) (t ord a k rd insn pt x late) :
    (s.loadNow t ord a k rd insn pt x late).canonical = true := by
  unfold State.loadNow
  exact canonical_ite (canonical_ite (canonical_schedAt (canonical_regRead h _ _ _) _ _ _ _)
    (canonical_ite (canonical_regRead h _ _ _) (canonical_schedAt (canonical_regRead h _ _ _) _ _ _ _)))
    (canonical_ite (canonical_raiseTrap (canonical_meetFlaws h _ _ _) _ _) (canonical_ite
    (canonical_schedAt (canonical_meetFlaws h _ _ _) _ _ _ _) (canonical_ite (canonical_meetFlaws h _ _ _)
    (canonical_schedAt (canonical_meetFlaws h _ _ _) _ _ _ _))))

theorem canonical_vloadNow (h : s.canonical = true) (t ord a vl w vd insn pt x) :
    (s.vloadNow t ord a vl w vd insn pt x).canonical = true := by
  unfold State.vloadNow
  refine canonical_ite (canonical_foldl _ (fun _ _ hu => canonical_schedAt hu _ _ _ _) _ _
    (canonical_foldl_of Prod.snd _ (fun v x hv => ?_) _ _ ?_)) (canonical_ite (canonical_raiseTrap (canonical_meetFlaws h _ _ _) _ _)
    (canonical_foldl _ (fun _ _ hw => canonical_schedAt hw _ _ _ _) _ _ (canonical_meetFlaws h _ _ _)))
  · exact canonical_regRead hv _ _ _
  · exact h

theorem canonical_readEff (h : s.canonical = true) (t ord e) : (s.readEff t ord e).canonical = true := by
  unfold State.readEff
  split
  · exact canonical_loadNow h _ _ _ _ _ _ _ _ _
  · exact canonical_vloadNow h _ _ _ _ _ _ _ _ _
  · exact canonical_mmFinish h _ _
  · exact canonical_shdReadNow h _ _ _ _ _
  · exact canonical_drainReadNow h _ _ _
  · exact canonical_drainConvNow h _ _ _
  · exact canonical_gatherStep h _ _ _
  · exact h

theorem canonical_panelEff (h : s.canonical = true) (t e) : (s.panelEff t e).canonical = true := by
  unfold State.panelEff
  split
  exacts [canonical_mmPanelsDone h _ _, h]

theorem canonical_leaveHandler (h : s.canonical = true) (t) : (s.leaveHandler t).canonical = true :=
  canonical_ite (canonical_setFld (canonical_setFld h _ _) _ _) (canonical_setFld h _ _)

theorem canonical_tileReturn (h : s.canonical = true) (t) : (s.tileReturn t).canonical = true := by
  unfold State.tileReturn
  extract_lets _ _ s1
  have hs1 : s1.canonical = true := canonical_leaveHandler ((canonical_setTile _ _ _).trans h) _
  split
  · refine canonical_ite h ?_
    split
    · exact canonical_haltAt hs1 _ _ _
    · split
      · exact canonical_haltAt hs1 _ _ _
      · extract_lets
        exact canonical_setIssueAt (canonical_issueP hs1 _ _ _ _) _ _
  · exact canonical_ite h (canonical_leaveHandler ((canonical_setTile _ _ _).trans h) _)
  · exact h

theorem canonical_tileCycle (h : s.canonical = true) (t) : (s.tileCycle t).canonical = true :=
  canonical_tileReturn (canonical_foldl _ (fun _ _ hu => canonical_readEff hu _ _ _) _ _
    (canonical_foldl _ (fun _ _ hv => canonical_commitEff hv _ _ _) _ _ (canonical_foldl _ (fun _ _ hw => canonical_panelEff hw _ _) _ _
    ((canonical_setTile _ _ _).trans h)))) _

theorem canonical_addEnc (h : s.canonical = true) (k c) : (s.addEnc k c).canonical = true :=
  canonical_ite ((canonical_setTile _ _ _).trans h) (canonical_setTe h _ _)

theorem canonical_newCycle (h : s.canonical = true) : s.newCycle.canonical = true :=
  canonical_of_stores rfl rfl rfl (canonical_foldl _ (fun _ _ hu => canonical_addEnc hu _ _) _ _
    (canonical_foldl _ (fun _ _ hv => canonical_ite (canonical_reseedNext hv _) (canonical_setTe hv _ _)) _ _ h))

theorem canonical_tileTick (h : s.canonical = true) : s.tileTick.canonical = true :=
  canonical_ite (canonical_newCycle (canonical_settleSwaps h)) (canonical_foldl _ (fun _ _ hu => canonical_tileCycle hu _) _ _
    ((canonical_with_active _ _).trans (canonical_newCycle (canonical_settleSwaps h))))

/-! #### Operations of Machine/Tick.lean -/

theorem canonical_acqsOf (h : s.canonical = true) (l n) : (s.acqsOf l n).canonical = true := by
  unfold State.acqsOf
  extract_lets _ r1
  have hr1 : r1.2.canonical = true := canonical_acqWin (canonical_readReg h _) _ _
  refine canonical_foldl _ (fun u x hu => ?_) _ _ hr1
  extract_lets
  split
  exacts [canonical_coreDone hu _ _ _ _, (canonical_send _ _).trans hu]

theorem canonical_acqsNow (h : s.canonical = true) (l) : (s.acqsNow l).canonical = true :=
  canonical_foldl _ (fun _ _ hu => canonical_acqsOf hu _ _) _ _ h

theorem canonical_haltLate (h : s.canonical = true) (x) : (s.haltLate x).canonical = true := canonical_bankctlWrite h _ _ _ _

theorem canonical_tick (h : s.canonical = true) : s.tick.canonical = true :=
  canonical_foldl _ (fun _ _ hu => canonical_transmit hu _) _ _ (canonical_acqsNow
    (canonical_foldl _ (fun _ _ hv => canonical_writeNow hv _) _ _ (canonical_foldl _ (fun _ _ hw => canonical_haltLate hw _) _ _
    (canonical_tileTick h))) _)

end

end Sys2Proof.Machine
end

section
/-!
PROOFS. What a command answers (O60): a next state in canonical form, in every state for all commands but the four that can meet an
undefined format.
-/
namespace Sys2Proof.Machine

section
variable {s : State}

/-- What an outcome owes the invariant: a next state is in the form if the state before was, and there is one wherever `P` holds. -/
structure Answers (P : Prop) (s : State) (o : Out) : Prop where
  form : s.canonical = true → ∀ u, o = .next u → u.canonical = true
  next : P → ∃ u, o = .next u

section
variable {P : Prop}

theorem answers_next {u : State} (hu : s.canonical = true → u.canonical = true) : Answers P s (.next u) where
  form h v hv := by cases hv; exact hu h
  next _ := ⟨u, rfl⟩

theorem answers_fault (hP : ¬ P) (f) : Answers P s (.fault f) := ⟨fun _ _ hu => (nomatch hu), fun p => (hP p).elim⟩

theorem answers_same : Answers P s (.next s) := answers_next id

theorem answers_ite {c : Prop} [Decidable c] {o p : Out} (ho : Answers P s o) (hp : Answers P s p) :
    Answers P s (if c then o else p) := by
  split
  · exact ho
  · exact hp

/-- An outcome followed by a total operation that keeps the form. -/
theorem answers_bind {o : Out} {g : State → State} {k : Out → Out} (ho : Answers P s o)
    (hg : ∀ u, u.canonical = true → (g u).canonical = true)
    (hk : ∀ u, k (.next u) = .next (g u)) (hn : ∀ v, k o = .next v → ∃ u, o = .next u) : Answers P s (k o) where
  form h v hv := by
    obtain ⟨u, rfl⟩ := hn v hv
    rw [hk u] at hv
    cases hv
    exact hg u (ho.form h u rfl)
  next p := by
    obtain ⟨u, rfl⟩ := ho.next p
    exact ⟨g u, hk u⟩

theorem answers_settleOut {o : Out} (ho : Answers P s o) : Answers P s (settleOut o) :=
  answers_bind ho (fun _ hu => canonical_resSettle hu) (fun _ => rfl) (fun v hv => by cases o <;> simp_all [settleOut])

theorem answers_ctlSettled {o : Out} (ho : Answers P s o) (p hi m) : Answers P s (ctlSettled p hi m o) :=
  answers_bind ho (fun _ hu => canonical_ite hu (canonical_ctlTaken hu p hi m)) (fun _ => rfl)
    (fun v hv => by cases o <;> simp_all [ctlSettled])

theorem answers_onCmd (o) {f : State → CmdRec → State} (hf : ∀ c, s.canonical = true → (f s c).canonical = true) :
    Answers P s (s.onCmd o f) := by
  unfold State.onCmd
  split
  · exact answers_same
  · exact answers_next (hf _)

theorem answers_respond {u : State} (hu : s.canonical = true → u.canonical = true) (code body) : Answers P s (u.respond code body) :=
  answers_next fun h => (canonical_send _ _).trans (hu h)

theorem answers_mctp {f : State → Out} (hf : Answers P s (f s)) : Answers P s (s.mctp f) := answers_ite hf answers_same

theorem answers_vendor (req n) {f : State → Out} (hf : Answers P s (f s)) : Answers P s (s.vendor req n f) :=
  answers_ite answers_same (answers_ite (answers_respond id _ _) hf)

theorem answers_owning (life ok) {f : State → State} (hf : ∀ u, u.canonical = true → (f u).canonical = true) :
    Answers P s (s.owning life ok f) := by
  unfold State.owning
  refine answers_ite (answers_respond id _ _) ?_
  split
  · exact answers_respond id _ _
  · exact answers_ite (answers_respond id _ _) (answers_ite (answers_respond canonical_noChallenge _ _)
      (answers_respond (fun h => canonical_secEvent (hf _ (canonical_noChallenge h)) _ _) _ _))

/-- An M slot issued alone: only an undefined format keeps it from answering. -/
theorem answers_runM (t i) (hP : P → s.definedM t i = true) : Answers P s (s.runM t i) where
  form h u hu := by
    unfold State.runM at hu
    split at hu
    · cases hu
    · cases hu
      exact canonical_issueAlone h t _ fun _ hv => canonical_performM hv t i
  next p := by
    unfold State.runM
    simp [hP p]

/-- A D slot issued alone: likewise. -/
theorem answers_runD (t : Tile) (i) (hP : P → s.definedD t i = true) : Answers P s (s.runD t i) where
  form h u hu := by
    unfold State.runD at hu
    split at hu
    · cases hu
    · cases hu
      exact canonical_issueAlone h t _ fun _ hv => canonical_performD hv t i
  next p := by
    unfold State.runD
    simp [hP p]

/-- An instruction on a tile always answers; a booth core answers those it admits. -/
theorem answers_runOn (r i) (hP : P → r.isBooth = true → boothAdmits i = true) : Answers P s (s.runOn r i) := by
  cases r with
  | tile t => exact answers_next fun h => canonical_runChecked h _ _
  | booth n pred pd =>
    rcases runCore_cases s n pred pd i with ⟨_, e⟩ | ⟨_, _, e⟩ | ⟨_, ha, e⟩
    · exact (show s.runOn (.booth n pred pd) i = _ from e) ▸ answers_same
    · exact (show s.runOn (.booth n pred pd) i = _ from e) ▸ answers_next fun h => canonical_coreDo h _ _ _ _
    · have hno : ¬ P := fun p => by simp [hP p rfl] at ha
      exact (show s.runOn (.booth n pred pd) i = _ from e) ▸ answers_fault hno _

/-- A word of a booth core's stream may be reserved. -/
theorem answers_fetchCore (n) (hP : ¬ P) : Answers P s (s.fetchCore n) := by
  unfold State.fetchCore
  refine answers_ite answers_same ?_
  split
  · exact answers_next fun h => canonical_coreDo h _ _ _ _
  · exact answers_fault hP _

end

/-! #### Commands whose answer branches -/

section
variable {P : Prop}

theorem answers_execRcRead (mid a len) : Answers P s (execRcRead mid a len s) := by
  unfold execRcRead
  split
  · exact answers_next fun h => canonical_putOff h _
  · exact answers_next fun h => (canonical_send _ _).trans (canonical_busRead h _ _ _)

theorem answers_execMemoryAccess (mid a len data hint narrow turn) : Answers P s (execMemoryAccess mid a len data hint narrow turn s) :=
  answers_ite (answers_next fun h => canonical_writesIn h _ _) (answers_ite (answers_next fun h => canonical_putOff h _)
    (answers_next fun h => canonical_serveAll _ _ (canonical_foldl _ (fun _ _ hu => (canonical_plant _ _).trans hu) _ _
    ((canonical_plant _ _).trans h))))

theorem answers_execRiggingFlit (t ins o) : Answers P s (execRiggingFlit t ins o s) :=
  answers_next fun h => canonical_rigEnds (canonical_rigGrant (canonical_hubFeeds
    (canonical_foldl _ (fun _ _ hu => canonical_hubSends hu _) _ _ (canonical_foldl _ (fun _ _ hv => canonical_rigPut hv _ _ _) _ _ h))
    _) _ _) _ _ _

theorem answers_execCueIncrement : Answers P s (execCueIncrement  s) := by
  unfold execCueIncrement
  refine answers_ite answers_same (answers_next fun h => ?_)
  refine canonical_reportRisk (canonical_ite (canonical_flood ?_ _) ?_)
  · split
    · exact canonical_ite (canonical_setFld (canonical_foldl _ (fun _ _ hu => canonical_ite hu (canonical_addFld hu _ _)) _ _
        (canonical_setCount ((canonical_with_cueX _ _).trans h) _ _)) _ _) (canonical_foldl _
        (fun _ _ hv => canonical_ite hv (canonical_addFld hv _ _)) _ _ (canonical_setCount ((canonical_with_cueX _ _).trans h) _ _))
    · exact canonical_foldl _ (fun _ _ hu => canonical_ite hu (canonical_addFld hu _ _)) _ _
        (canonical_setCount ((canonical_with_cueX _ _).trans h) _ _)
  · split
    · exact canonical_ite (canonical_setFld (canonical_foldl _ (fun _ _ hu => canonical_ite hu (canonical_addFld hu _ _)) _ _
        (canonical_setCount ((canonical_with_cueX _ _).trans h) _ _)) _ _) (canonical_foldl _
        (fun _ _ hv => canonical_ite hv (canonical_addFld hv _ _)) _ _ (canonical_setCount ((canonical_with_cueX _ _).trans h) _ _))
    · exact canonical_foldl _ (fun _ _ hu => canonical_ite hu (canonical_addFld hu _ _)) _ _
        (canonical_setCount ((canonical_with_cueX _ _).trans h) _ _)

theorem answers_execHoldover : Answers P s (execHoldover  s) :=
  answers_ite answers_same (answers_next fun h => canonical_cueEntry (canonical_setFld
    (canonical_setFld ((canonical_with_cueX _ _).trans h) _ _) _ _) _ _)

theorem answers_execBackupMasterTakeover : Answers P s (execBackupMasterTakeover  s) :=
  answers_ite answers_same (answers_next fun h => canonical_ite (canonical_startCount
    (canonical_setFld (canonical_setFld (canonical_raiseFld (canonical_setFld h _ _) _) _ _) _ _))
    (canonical_setFld (canonical_setFld (canonical_raiseFld (canonical_setFld h _ _) _) _ _) _ _))

theorem answers_execAlarmFire (n) : Answers P s (execAlarmFire n s) := by
  unfold execAlarmFire
  extract_lets _ s1 s2
  refine answers_ite answers_same ?_
  split
  · exact answers_next fun h => (canonical_send _ _).trans (canonical_ite (canonical_raiseFld
      (canonical_raiseFld (canonical_raiseFld (canonical_setFld h _ _) _) _) _) (canonical_raiseFld (canonical_setFld h _ _) _))
  · exact answers_next fun h => canonical_post (canonical_ite (canonical_raiseFld
      (canonical_raiseFld (canonical_raiseFld (canonical_setFld h _ _) _) _) _) (canonical_raiseFld (canonical_setFld h _ _) _)) _ _ _
  · exact answers_next fun h => canonical_cueEntry (canonical_ite (canonical_raiseFld
      (canonical_raiseFld (canonical_raiseFld (canonical_setFld h _ _) _) _) _) (canonical_raiseFld (canonical_setFld h _ _) _)) _ _

theorem answers_execCurtainDrainStart : Answers P s (execCurtainDrainStart  s) := by
  unfold execCurtainDrainStart
  split
  · exact answers_ite (answers_next fun h => canonical_setFld (canonical_setCurtain h _) _ _) answers_same
  · exact answers_same

theorem answers_execClassDrained : Answers P s (execClassDrained  s) := by
  unfold execClassDrained
  split
  · exact answers_same
  · refine answers_ite answers_same ?_
    split
    · exact answers_ite (answers_next fun h => canonical_ite (canonical_drainedIn (canonical_setFld (canonical_setCurtain h _) _ _) _ _
        _) (canonical_ctlRouted (canonical_setFld (canonical_setCurtain h _) _ _) _ _)) (answers_next fun h => canonical_setCurtain h _)
    · exact answers_ite answers_same (answers_next fun h => canonical_ite (canonical_resSettle
        (canonical_reportDrained (canonical_setCurtain h _))) (canonical_setCurtain h _))

theorem answers_execVerdictSet : Answers P s (execVerdictSet  s) := by
  unfold execVerdictSet
  split
  · exact answers_same
  · exact answers_ite answers_same (answers_next fun h => canonical_foldl _ (fun _ _ hu => canonical_loseSeat hu _) _ _
      (canonical_verdictIn (canonical_flood (canonical_ite (canonical_straggle (canonical_setCurtain h _)) (canonical_setCurtain h _)) _)
      _ _))

theorem answers_execCurtainCutOff : Answers P s (execCurtainCutOff  s) := by
  unfold execCurtainCutOff
  split
  exacts [answers_same, answers_ite answers_same (answers_next fun h => canonical_loseSeat (canonical_raiseFld h _) _)]

theorem answers_execPublish (peer asked flash) : Answers P s (execPublish peer asked flash s) := by
  unfold execPublish
  split
  exacts [answers_same, answers_ite (answers_next fun h => canonical_publish h _ _ _ _) answers_same]

theorem answers_execDiscard (peer) : Answers P s (execDiscard peer s) := by
  unfold execDiscard
  split
  exacts [answers_same, answers_ite (answers_next fun h => canonical_discard h _ _) answers_same]

theorem answers_execStepStart : Answers P s (execStepStart  s) :=
  answers_ite answers_same (answers_ite (answers_next fun h => canonical_stopSteps (canonical_setFld h _ _))
    (answers_next fun h => canonical_foldl _ (fun _ _ hu => canonical_ite (canonical_ite (canonical_startTile hu _ _) hu)
    (canonical_armTile hu _)) _ _ (canonical_setCurtain (canonical_setFld h _ _) _)))

theorem answers_execSceneStart : Answers P s (execSceneStart  s) :=
  answers_ite answers_same (answers_next fun h => canonical_foldl _ (fun _ _ hu => canonical_startTile hu _ _) _ _
    (canonical_clearOutside (canonical_reseedEngines (canonical_setCurtain h _)) _))

theorem answers_execSceneChangeStart (heard) : Answers P s (execSceneChangeStart heard s) := by
  unfold execSceneChangeStart
  split
  · exact answers_next fun h => canonical_setScene h _
  · exact answers_same
  · exact answers_ite (answers_next fun h => canonical_beginChange h _) answers_same
  · exact answers_same

theorem answers_execStopWave (w) : Answers P s (execStopWave w s) := by
  unfold execStopWave
  split
  · exact answers_same
  · exact answers_ite answers_same (answers_next fun h => canonical_setScene
      (canonical_foldl _ (fun _ _ hu => canonical_ite (canonical_setFld ((canonical_dcAbandon _ _).trans hu) _ _)
      ((canonical_dcAbandon _ _).trans hu)) _ _ h) _)

theorem answers_execSceneSave (quiet) : Answers P s (execSceneSave quiet s) := by
  unfold execSceneSave
  split
  · exact answers_same
  · exact answers_ite answers_same (answers_next fun h => canonical_setScene
      (canonical_ite (canonical_dropScene ((canonical_sendC3 _ _ _).trans h)) (canonical_saveScene ((canonical_sendC3 _ _ _).trans h) _))
      _)

theorem answers_execSceneSwapIn : Answers P s (execSceneSwapIn  s) := by
  unfold execSceneSwapIn
  split
  · exact answers_same
  · split
    · exact answers_same
    · exact answers_ite answers_same (answers_next fun h => canonical_setScene
        (canonical_foldl _ (fun _ _ hu => canonical_swapMarked hu _) _ _ (canonical_loadStaged h _)) _)

theorem answers_execStartWave (w) : Answers P s (execStartWave w s) := by
  unfold execStartWave
  split
  · exact answers_same
  · exact answers_ite answers_same (answers_next fun h => canonical_ite (canonical_endChange
      (canonical_foldl _ (fun _ _ hu => canonical_ite ((canonical_setTile _ _ _).trans (canonical_startTile hu _ _))
      (canonical_ite ((canonical_setTile _ _ _).trans (canonical_setFld hu _ _)) hu)) _ _ (canonical_ite (canonical_reseedEngines h) h))
      _) (canonical_setScene (canonical_foldl _ (fun _ _ hv => canonical_ite
      ((canonical_setTile _ _ _).trans (canonical_startTile hv _ _)) (canonical_ite
      ((canonical_setTile _ _ _).trans (canonical_setFld hv _ _)) hv)) _ _ (canonical_ite (canonical_reseedEngines h) h)) _))

theorem answers_execRestoreStart (heard peer) : Answers P s (execRestoreStart heard peer s) := by
  unfold execRestoreStart
  split
  · exact answers_next fun h => canonical_setScene h _
  · exact answers_same
  · exact answers_same
  · split
    · exact answers_same
    · exact answers_ite answers_same (answers_ite (answers_next fun h => canonical_beginRestore h _)
        (answers_ite answers_same (answers_next fun h => canonical_ite (canonical_restoreScene h _ _)
        (canonical_resSettle (canonical_startRecovery (canonical_setRes (canonical_restoreScene h _ _) _) _)))))

theorem answers_fetchBundle (t ecc) (hP : ¬ P) : Answers P s (s.fetchBundle t ecc) := by
  unfold State.fetchBundle
  refine answers_ite ?_ ?_
  · refine answers_next fun h => ?_
    split
    · next u _ =>
      extract_lets pt a bad b waits
      refine canonical_ite (canonical_haltTile h _ _ _ _ _ _ _ _) (canonical_ite ?_ h)
      cases u.issueHalt t b with
      | none => exact h
      | some r => exact canonical_haltAt h _ _ _
    · exact h
  · extract_lets pt a here s1 b
    refine answers_ite (answers_next fun h => canonical_haltTile h _ _ _ _ _ _ _ _)
      (answers_ite (answers_next fun h => canonical_haltTile h _ _ _ _ _ _ _ _) ?_)
    have h1 : s.canonical = true → s1.canonical = true := by
      intro h
      unfold s1
      split
      · exact canonical_ite (canonical_eccCorrected h _ _ _) h
      · exact h
    refine answers_ite (answers_next fun h => canonical_setFld (h1 h) _ _) ?_
    split
    · exact answers_next fun h => canonical_stopIssue (h1 h) _ _ _ _
    · exact answers_ite (answers_next fun h => canonical_performBundle (h1 h) _ _ _) (answers_fault hP _)

theorem answers_execBundleFetch (r ecc) (hP : ¬ P) : Answers P s (execBundleFetch r ecc s) := by
  cases r with
  | tile t => exact answers_fetchBundle t ecc hP
  | booth n => exact answers_fetchCore n hP

theorem answers_execTransferComplete (t k ecc) : Answers P s (execTransferComplete t k ecc s) := by
  unfold execTransferComplete
  split
  · exact answers_same
  · split
    · exact answers_ite answers_same (answers_ite (answers_next fun h => canonical_tryFinish (canonical_startReads h _ _) _ _)
        (answers_next fun h => canonical_tryFinish (canonical_deliver (canonical_putXfer
        (canonical_ite_snd ((canonical_plant _ _).trans h) (canonical_moverRead ((canonical_plant _ _).trans h) _ _ _ _ _ _)) _ _) _ _ _)
        _ _))
    · exact answers_next fun h => canonical_finishXfer h _ _
    · exact answers_same

theorem answers_execFenceComplete (t) : Answers P s (execFenceComplete t s) := by
  unfold execFenceComplete
  extract_lets
  split
  · exact answers_same
  · exact answers_ite (answers_next fun h => canonical_ite (canonical_setFld
      ((canonical_setTile _ _ _).trans (canonical_fenceLost h _ _ _)) _ _) ((canonical_setTile _ _ _).trans
      (canonical_fenceLost h _ _ _))) answers_same

theorem answers_execGlobalAccessComplete (t k ecc) : Answers P s (execGlobalAccessComplete t k ecc s) := by
  unfold execGlobalAccessComplete
  split
  · exact answers_same
  · exact answers_ite (answers_next fun h => canonical_finishGlobal h _ _ _ _)
      (answers_ite answers_same (answers_ite (answers_next fun h => canonical_finishGlobal (canonical_access h _) _ _ _ _)
      (answers_ite answers_same (answers_ite (answers_next fun h => canonical_finishGlobal h _ _ _ _)
      (answers_next fun h => canonical_sendReq ((canonical_setTile _ _ _).trans h) _ _ _ _ _ _ _ _ _ _ _)))))

theorem answers_execTrapEntry (t) : Answers P s (execTrapEntry t s) := by
  unfold execTrapEntry
  split
  exacts [answers_same, answers_ite (answers_next fun h => canonical_enterTrap h _ _) answers_same]

theorem answers_execLoadScene : Answers P s (execLoadScene  s) := by
  unfold execLoadScene
  split
  · exact answers_same
  · refine answers_ite answers_same (answers_ite (answers_next fun h => ?_) (answers_ite (answers_next fun h => canonical_setFld h _ _)
      ?_))
    · split
      exacts [canonical_readyFails h _ _, h]
    · extract_lets r1 s1 s2 s3 _ s4
      split
      · exact answers_next fun h => canonical_verifyFailed (canonical_readImages h _) _ _
      · refine answers_next fun h => ?_
        have hr1 : r1.2.canonical = true := canonical_readImages h _
        have hs1 : s1.canonical = true := hr1
        have hs2 : s2.canonical = true := by
          unfold s2
          split
          exacts [canonical_applyPlan hs1 _ _, hs1]
        have hs3 : s3.canonical = true := canonical_clearOutside (canonical_loadImages (canonical_measImages hs2 _) _ _) _
        have hs4 : s4.canonical = true := (canonical_with_scene _ _).trans hs3
        exact canonical_cmdDone hs4 _ _ _

theorem answers_execReduceWrite (mid addr xor fmt data psn ecc) : Answers P s (execReduceWrite mid addr xor fmt data psn ecc s) :=
  answers_next fun h => canonical_ite (canonical_reduceWrite h _ _) (canonical_reduceAck (canonical_reduceWrite h _ _) _ _ _ _)

theorem answers_execHeldReduceWrite (k req) : Answers P s (execHeldReduceWrite k req s) :=
  answers_ite answers_same (answers_next fun h => canonical_foldl _ (fun _ _ hu => canonical_addHeld hu _ _) _ _
    (canonical_setTe (canonical_engineZero h _ _ _) _ _))

theorem answers_execStackTempSample (k temp) : Answers P s (execStackTempSample k temp s) :=
  answers_ite (answers_next fun h => canonical_setFld h _ _) (answers_ite (answers_next fun h => canonical_tripDie
    (canonical_setFld (canonical_setFld (canonical_ite (canonical_health (canonical_ite
    (canonical_hostEvent (canonical_setFld (canonical_setFld h _ _) _ _) _ _ _)
    (canonical_memEvent (canonical_setFld (canonical_setFld h _ _) _ _) _ _ _)) _)
    (canonical_ite (canonical_hostEvent (canonical_setFld (canonical_setFld h _ _) _ _) _ _ _)
    (canonical_memEvent (canonical_setFld (canonical_setFld h _ _) _ _) _ _ _))) _ _) _ _) _)
    (answers_next fun h => canonical_ite (canonical_health (canonical_ite (canonical_hostEvent
    (canonical_setFld (canonical_setFld h _ _) _ _) _ _ _) (canonical_memEvent (canonical_setFld (canonical_setFld h _ _) _ _) _ _ _)) _)
    (canonical_ite (canonical_hostEvent (canonical_setFld (canonical_setFld h _ _) _ _) _ _ _)
    (canonical_memEvent (canonical_setFld (canonical_setFld h _ _) _ _) _ _ _))))

theorem answers_execRetirePage (bad) : Answers P s (execRetirePage bad s) := by
  refine answers_onCmd _ fun c h => ?_
  extract_lets a at' page spare inPage s1 s2 s3 s4 list _ s5 s6
  have h1 : s1.canonical = true := (canonical_homeGrant _ _ _).trans h
  have h2 : s2.canonical = true := canonical_countFld h1 _ _
  have h3 : s3.canonical = true :=
    canonical_foldl _ (fun _ _ hu => canonical_ite (canonical_stackUncorr ((canonical_setFlaw _ _ _).trans hu) _ _ _) hu) _ _ h2
  have h4 : s4.canonical = true := canonical_foldl _ (fun _ _ hu => canonical_meetFlaw hu _ _) _ _ h3
  have h5 : s5.canonical = true := canonical_of_stores (s := s4) rfl rfl rfl h4
  have h6 : s6.canonical = true := canonical_memEvent (canonical_setFld h5 _ _) _ _ _
  exact canonical_ite (canonical_cmdDone h _ _ _) (canonical_cmdDone h6 _ _ _)

theorem answers_execDescriptorDispatch (k) : Answers P s (execDescriptorDispatch k s) := by
  unfold execDescriptorDispatch
  extract_lets
  split
  · exact answers_same
  · split
    · exact answers_same
    · extract_lets s1 _ _ s2 _ _ s3
      exact answers_next fun h => canonical_handUnits (canonical_setPass (canonical_setTe
        (canonical_foldl _ (fun _ _ hu => canonical_flushRange hu _ _) _ _ (canonical_unqueue h _ _ _)) _ _)) _

theorem canonical_completeDesc (h : s.canonical = true) {k r run u} (e : s.completeDesc k r = some (run, u)) : u.canonical = true := by
  unfold State.completeDesc at e
  extract_lets x at e
  split at e
  · cases e
  · next run0 _ =>
    split at e
    · cases e
    · extract_lets sums v live sum s1 s2 _ run1 s3 s4 s5 s6 y s7 note at e
      have h1 : s1.canonical = true := canonical_ite ((canonical_usedFree _ _).trans h) h
      have h2 : s2.canonical = true := canonical_ite (canonical_teStat h1 _ _ _) h1
      have h3 : s3.canonical = true := canonical_ite (canonical_optDone h2 _ _ _) h2
      have h4 : s4.canonical = true := canonical_ite (canonical_setFld h3 _ _) h3
      have h5 : s5.canonical = true := canonical_ite ((canonical_with_discardFlag _ _).trans h4) h4
      have h6 : s6.canonical = true := canonical_ite (canonical_moverWrite h5 _ _ _ _ _ _ _) h5
      have h7 : s7.canonical = true := canonical_setPass (canonical_setTe h6 _ _)
      clear_value s7
      split at e
      all_goals obtain ⟨-, rfl⟩ := Prod.mk.inj (Option.some.inj e)
      · exact canonical_post h7 _ _ _
      · exact (canonical_send _ _).trans h7
      · exact h7

theorem answers_execDescriptorComplete (k r) : Answers P s (execDescriptorComplete k r s) := by
  unfold execDescriptorComplete
  split
  · exact answers_same
  · next run t e =>
    extract_lets p _ t1 _ t2
    refine answers_next fun h => canonical_postOwed ?_
    have ht : t.canonical = true := canonical_completeDesc h e
    have h1 : t1.canonical = true := canonical_ite (canonical_setRes ht _) ht
    unfold t2
    split
    · exact h1
    · exact canonical_ite (canonical_ite (canonical_setRes h1 _) (canonical_ite (canonical_postDelta (canonical_setRes h1 _) _ _) h1))
        (canonical_ite (canonical_setRes h1 _) h1)

theorem answers_execDressCheckRecompute (die) : Answers P s (execDressCheckRecompute die s) := by
  unfold execDressCheckRecompute
  split
  · exact answers_same
  · exact answers_next fun h => (canonical_dcUpd _ _ _).trans ((canonical_with_dcQueue _ _).trans ((canonical_usedFree _ _).trans h))

theorem answers_execDcEvaluate : Answers P s (execDcEvaluate s) := by
  unfold execDcEvaluate
  extract_lets t1 t2 t3 src hi lo sum dies elements vanished saturated nanOut done dis nonf top topDie per disLim vanLim satLim s0 s1 s2
    s3
  have h1 : s.canonical = true → t1.canonical = true := fun h => canonical_dcReport h _
  have h2 : s.canonical = true → t2.canonical = true := fun h => canonical_ite (h1 h) (canonical_event (h1 h) _ _ _)
  have h3 : s.canonical = true → t3.canonical = true := fun h => canonical_of_stores (s := t2) rfl rfl rfl (h2 h)
  have g0 : s.canonical = true → s0.canonical = true := fun h => (canonical_usedFree _ _).trans (h3 h)
  have g1 : s.canonical = true → s1.canonical = true := fun h => canonical_ite (canonical_dcEvent (g0 h) _ _ _) (g0 h)
  have g2 : s.canonical = true → s2.canonical = true := fun h => canonical_ite (canonical_dcEvent (g1 h) _ _ _) (g1 h)
  have g3 : s.canonical = true → s3.canonical = true := fun h => canonical_ite (canonical_dcEvent (g2 h) _ _ _) (g2 h)
  clear_value s3
  exact answers_ite (answers_next h1) (answers_next fun h => canonical_ite (canonical_dcEvent (g3 h) _ _ _) (g3 h))

theorem answers_execPlace (j est bubble) : Answers P s (execPlace j est bubble s) := by
  unfold execPlace
  split
  exacts [answers_same, answers_next fun h => canonical_placing h _ _ _ _ _]

theorem answers_execPlanIdExchange (seat id) : Answers P s (execPlanIdExchange seat id s) := by
  unfold execPlanIdExchange
  extract_lets _ s1
  split
  · exact answers_next fun h => canonical_setJob h _
  · split
    exacts [answers_next fun h => canonical_setJob h _, answers_next fun h => canonical_tryApply (canonical_setJob h _) _]

theorem answers_execReshard (j est bubble) : Answers P s (execReshard j est bubble s) := by
  unfold execReshard
  split
  exacts [answers_same, answers_next fun h => canonical_placing h _ _ _ _ _]

theorem answers_execPermuteComplete (others) : Answers P s (execPermuteComplete others s) := by
  unfold execPermuteComplete
  split
  · exact answers_same
  · refine answers_ite answers_same (answers_ite (answers_next fun h => canonical_setFld h _ _) ?_)
    extract_lets _ s1
    split
    · exact answers_next fun h => canonical_resume (canonical_applyPlan h _ _) _ _
    · exact answers_next fun h => canonical_cmdDone (canonical_resume (canonical_applyPlan h _ _) _ _) _ _ _

theorem answers_execStageScene (r) : Answers P s (execStageScene r s) := by
  unfold execStageScene
  split
  · exact answers_same
  · refine answers_ite answers_same ?_
    extract_lets r1 s1 _ _ s2 _ _ _ _ _ s3
    split
    · exact answers_next fun h => canonical_verifyFailed (canonical_readImages h _) _ _
    · exact answers_ite (answers_next fun h => canonical_cmdDone (canonical_setFld (canonical_leaveReport (canonical_readImages h _) _) _
        _) _ _ _) (answers_next fun h => canonical_cmdDone (canonical_setScene
        (canonical_measImages (canonical_stageScene (canonical_setFld (canonical_leaveReport (canonical_readImages h _) _) _ _) _ _) _)
        _) _ _ _)

theorem answers_execLinkTraining (p lanes delay peerSeat peerPort peerNormal) :
    Answers P s (execLinkTraining p lanes delay peerSeat peerPort peerNormal s) :=
  answers_ite answers_same (answers_ite (answers_ite (answers_next fun h => canonical_setPort h _ _)
    (answers_next fun h => canonical_ite (canonical_fbEvent (canonical_setPort (canonical_setFld (canonical_setPort h _ _) _ _) _ _) _ _)
    (canonical_setPort (canonical_setFld (canonical_setPort h _ _) _ _) _ _)))
    (answers_next fun h => canonical_reroute (canonical_fbEvent (canonical_ite
    (canonical_fbEvent (canonical_showTickets (canonical_setPort (canonical_portBits
    (canonical_setFld (canonical_setFld (canonical_setFld (canonical_setFld (canonical_setFld (canonical_setFld h _ _) _ _) _ _) _ _) _
    _) _ _) _ _ _) _ _) _) _ _) (canonical_showTickets (canonical_setPort (canonical_portBits
    (canonical_setFld (canonical_setFld (canonical_setFld (canonical_setFld (canonical_setFld (canonical_setFld h _ _) _ _) _ _) _ _) _
    _) _ _) _ _ _) _ _) _)) _ _)))

theorem answers_execSeatLost (p seat stamp peer) : Answers P s (execSeatLost p seat stamp peer s) := by
  unfold execSeatLost
  split
  · exact answers_ite answers_same (answers_next fun h => canonical_resSettle
      (canonical_acceptLost (canonical_seatGone (canonical_ite (canonical_floodFrom h _ _)
      (canonical_fbEvent (canonical_noteLost (canonical_floodFrom h _ _) _) _ _)) _) _ _))
  · split
    exacts [answers_next fun h => canonical_resSettle (canonical_acceptLost (canonical_seatGone h _) _ _), answers_same]

/-- A control message that has come acts on a part in the form. -/
theorem answers_ctlAct {u : State} (hu : s.canonical = true → u.canonical = true) (p hi hop peer m) :
    Answers P s (u.ctlAct p hi hop peer m) := by
  cases m with
  | cue n master delay retried => exact answers_next fun h => canonical_cueIn (hu h) _ _ _ _ _ _
  | stepComplete dst sender step discard =>
    exact answers_next fun h => canonical_ite (canonical_completeIn (hu h) _ _ _) (canonical_ctlForward (hu h) _ _ _ _)
  | announce k step => exact answers_next fun h => canonical_announceIn (canonical_floodFrom (hu h) _ _) _ _
  | drained dst sender k discard =>
    exact answers_next fun h => canonical_ite (canonical_drainedIn (hu h) _ _ _) (canonical_ctlForward (hu h) _ _ _ _)
  | verdict k publish => exact answers_next fun h => canonical_verdictIn (canonical_floodFrom (hu h) _ _) _ _
  | ack dst recs => exact answers_next fun h => canonical_resSettle (canonical_ackIn (hu h) _ _ _ _)
  | tickets vcs lo hi' => exact answers_next fun h => canonical_ticketsIn (hu h) _ _ _ _
  | retry n => exact answers_next fun h => canonical_resSettle (canonical_retryIn (hu h) _ _)
  | idle => exact answers_next hu
  | probe => exact answers_next hu
  | seatLost seat stamp =>
    have ha := answers_execSeatLost (P := P) (s := u) (some p) (BitVec.ofNat 15 seat) (BitVec.ofNat 32 stamp) peer
    exact ⟨fun h => ha.form (hu h), ha.next⟩

theorem answers_execFlitReceive (p f fecCorr fecUncorr hi hop peer) :
    Answers P s (execFlitReceive p f fecCorr fecUncorr hi hop peer s) := by
  unfold execFlitReceive
  refine answers_ite answers_same ?_
  extract_lets r
  have hr : s.canonical = true → r.1.canonical = true := fun h => canonical_flitIn h _ _ _ _
  split
  · exact answers_next hr
  · exact answers_ctlSettled (answers_ctlAct hr _ _ _ _ _) _ _ _

theorem answers_execPacketGrant (p) : Answers P s (execPacketGrant p s) := by
  unfold execPacketGrant
  refine answers_ite answers_same ?_
  extract_lets
  split
  · extract_lets
    exact answers_next fun h => canonical_settleCtl (canonical_sendFlit (canonical_setPort h _ _) _ _ _ _ _ _)
  · refine answers_ite answers_same ?_
    split
    exacts [answers_next fun h => canonical_sendNext h _ _, answers_next fun h => canonical_startPkt h _ _, answers_same]

theorem answers_execPacketRoute (input) : Answers P s (execPacketRoute input s) := by
  unfold execPacketRoute
  refine answers_ite ?_ ?_
  · split
    exacts [answers_same, answers_next fun h => canonical_routePkt ((canonical_with_fab _ _).trans h) _ _ _]
  · split
    exacts [answers_same, answers_next fun h => canonical_routePkt (canonical_setPort h _ _) _ _ _]

theorem answers_execWrite (ecc) : Answers P s (execWrite ecc s) := by
  unfold execWrite
  split
  exacts [answers_same, answers_next fun h => canonical_ingressWrite (canonical_takeIn h _) _ _]

theorem answers_execRwriteAdd (ecc) : Answers P s (execRwriteAdd ecc s) := by
  unfold execRwriteAdd
  split
  exacts [answers_same, answers_next fun h => canonical_ingressReduce (canonical_takeIn h _) _ _ _]

theorem answers_execRwriteXor (ecc) : Answers P s (execRwriteXor ecc s) := by
  unfold execRwriteXor
  split
  exacts [answers_same, answers_next fun h => canonical_ingressReduce (canonical_takeIn h _) _ _ _]

theorem answers_execReadReq (rdst ecc) : Answers P s (execReadReq rdst ecc s) := by
  unfold execReadReq
  split
  · exact answers_same
  · exact answers_next fun h => canonical_injectPkt (canonical_moverRead (canonical_takeIn h _) _ _ _ _ _ _) _

theorem answers_execReadResp : Answers P s (execReadResp s) := by
  refine answers_settleOut ?_
  unfold readRespRow
  split
  · exact answers_same
  · dsimp only
    split
    · exact answers_next fun h => canonical_stray (canonical_takeIn h _)
    · exact answers_next fun h => canonical_reqDone (canonical_takeIn h _) _ _ _

theorem answers_execRespTimeout (tag) : Answers P s (execRespTimeout tag s) := by
  refine answers_settleOut ?_
  unfold respTimeoutRow
  split
  · exact answers_same
  · exact answers_ite (answers_next fun h => canonical_reqLost (canonical_fbEvent h _ _) _ _) answers_same

theorem answers_execCollectiveStart (hf) : Answers P s (execCollectiveStart hf s) := by
  unfold execCollectiveStart
  extract_lets q
  clear_value q
  split
  · exact answers_same
  · exact answers_ite answers_same (answers_next fun h => canonical_ceFree ((canonical_with_fab _ _).trans h))

theorem answers_execCollData (m ecc) : Answers P s (execCollData m ecc s) := by
  unfold execCollData
  split
  · exact answers_same
  · extract_lets s1
    split
    · exact answers_ite (answers_next fun h => canonical_ingressWrite (canonical_takeIn h _) _ _)
        (answers_ite (answers_next fun h => canonical_putRun (canonical_cePiece (canonical_ingressWrite (canonical_takeIn h _) _ _) _ _
        _) _) (answers_next fun h => (canonical_with_fab _ _).trans (canonical_ingressWrite (canonical_takeIn h _) _ _)))
    · exact answers_next fun h => (canonical_with_fab _ _).trans (canonical_ingressWrite (canonical_takeIn h _) _ _)

theorem answers_execCollCtrl (set num) : Answers P s (execCollCtrl set num s) := by
  unfold execCollCtrl
  split
  · exact answers_same
  · exact answers_next fun h => canonical_ite (canonical_collStopped (canonical_takeIn h _) _ _)
      (canonical_collCtrl (canonical_takeIn h _) _ _ _)

theorem answers_execCollectiveComplete (r) : Answers P s (execCollectiveComplete r s) := by
  unfold execCollectiveComplete
  split
  · exact answers_same
  · refine answers_ite answers_same ?_
    extract_lets _ _ s1 s2 s3 _ _ _ s4 _ s5 s6
    split
    · exact answers_next fun h => canonical_post (canonical_moverWrite ((canonical_with_fab _ _).trans
        (canonical_countFld (canonical_ite (canonical_fbEvent (canonical_ite ((canonical_usedFree _ _).trans h) h) _ _)
        (canonical_ite ((canonical_with_discardFlag _ _).trans (canonical_fbEvent (canonical_ite ((canonical_usedFree _ _).trans h) h) _
        _)) (canonical_ite ((canonical_usedFree _ _).trans h) h))) _ _)) _ _ _ _ _ _ _) _ _ _
    · exact answers_next fun h => (canonical_send _ _).trans (canonical_moverWrite
        ((canonical_with_fab _ _).trans (canonical_countFld (canonical_ite (canonical_fbEvent
        (canonical_ite ((canonical_usedFree _ _).trans h) h) _ _) (canonical_ite
        ((canonical_with_discardFlag _ _).trans (canonical_fbEvent (canonical_ite ((canonical_usedFree _ _).trans h) h) _ _))
        (canonical_ite ((canonical_usedFree _ _).trans h) h))) _ _)) _ _ _ _ _ _ _)
    · exact answers_next fun h => canonical_moverWrite ((canonical_with_fab _ _).trans
        (canonical_countFld (canonical_ite (canonical_fbEvent (canonical_ite ((canonical_usedFree _ _).trans h) h) _ _)
        (canonical_ite ((canonical_with_discardFlag _ _).trans (canonical_fbEvent (canonical_ite ((canonical_usedFree _ _).trans h) h) _
        _)) (canonical_ite ((canonical_usedFree _ _).trans h) h))) _ _)) _ _ _ _ _ _ _

theorem answers_execFhLinkUp (p mode) : Answers P s (execFhLinkUp p mode s) :=
  answers_ite answers_same (answers_next fun h => canonical_ptpSelect (canonical_askGateways
    (canonical_setFld (canonical_setFld (canonical_setFhPort h _ _) _ _) _ _) _))

theorem answers_execArpRequest (p m) : Answers P s (execArpRequest p m s) := by
  unfold execArpRequest
  refine answers_next fun h => ?_
  split
  · exact canonical_ite ((canonical_send _ _).trans h) (canonical_dropFrame h _)
  · exact canonical_ite (canonical_setFhPort h _ _) (canonical_dropFrame h _)

theorem answers_execNeighborSolicitation (p m) : Answers P s (execNeighborSolicitation p m s) := by
  unfold execNeighborSolicitation
  refine answers_next fun h => ?_
  split
  · exact canonical_ite ((canonical_send _ _).trans h) (canonical_dropFrame h _)
  · exact canonical_ite (canonical_setFhPort h _ _) (canonical_dropFrame h _)

theorem answers_execPfcRefresh (p drain) : Answers P s (execPfcRefresh p drain s) :=
  answers_ite (answers_next fun h => canonical_pfcCheck (canonical_setFhPort h _ _) _)
    (answers_next fun h => (canonical_send _ _).trans (canonical_setFhPort (canonical_pfcCheck (canonical_setFhPort h _ _) _) _ _))

theorem answers_execPfcWatchdog (p) : Answers P s (execPfcWatchdog p s) :=
  answers_ite answers_same (answers_next fun h => canonical_event ((canonical_usedFree _ _).trans
    (canonical_setFld (canonical_raiseFld (canonical_setFhPort h _ _) _) _ _)) _ _ _)

theorem answers_execRdmaRead (k reth ecc) : Answers P s (execRdmaRead k reth ecc s) := by
  unfold execRdmaRead
  refine answers_next fun h => ?_
  refine canonical_request h _ (fun _ _ hu => canonical_ite (canonical_nak hu _ _ _)
    (canonical_ite (canonical_nak (canonical_memEntry hu _ _ _) _ _ _) ?_))
  split
  · exact canonical_nak (canonical_memEntry hu _ _ _) _ _ _
  · exact canonical_ite (canonical_sendRoce (canonical_setQp hu _) _ _) (canonical_readPackets _ _ _ _ _
      ((canonical_plant _ _).trans (canonical_setQp hu _)))

theorem answers_execRdmaReadResponse (k data last) : Answers P s (execRdmaReadResponse k data last s) := by
  unfold execRdmaReadResponse
  have hr : s.canonical = true → (s.roceIn k).2.canonical = true := fun h => canonical_roceIn h k
  generalize s.roceIn k = r at hr ⊢
  split
  · exact answers_next hr
  · split
    · exact answers_next hr
    · exact answers_next fun h =>
        canonical_ite (canonical_fetchPump (canonical_setQp (canonical_readLands (hr h) _ _ _) _)) (canonical_readLands (hr h) _ _ _)

theorem answers_execRcAck (k syndrome) : Answers P s (execRcAck k syndrome s) := by
  unfold execRcAck
  have hr : s.canonical = true → (s.roceIn k).2.canonical = true := fun h => canonical_roceIn h k
  generalize s.roceIn k = r at hr ⊢
  split
  · exact answers_next hr
  · extract_lets y q2 t1 q3
    refine answers_ite (answers_next fun h => canonical_setQp (hr h) _) (answers_ite (answers_ite ?_ ?_) (answers_ite ?_ ?_))
    · exact answers_next fun h => (canonical_with_host _ _).trans (canonical_setQp (hr h) _)
    · exact answers_next fun h => canonical_resend (canonical_setQp (hr h) _) _
    · exact answers_next fun h => canonical_resend (canonical_setQp (hr h) _) _
    · exact answers_next fun h => canonical_qpError (hr h) _

theorem answers_execRcTimeout (qpn) : Answers P s (execRcTimeout qpn s) := by
  unfold execRcTimeout
  split
  exacts [answers_same, answers_ite answers_same (answers_next fun h => canonical_retryQp h _)]

theorem answers_execCnp (k) : Answers P s (execCnp k s) := by
  unfold execCnp
  have hr : s.canonical = true → (s.roceIn k).2.canonical = true := fun h => canonical_roceIn h k
  generalize s.roceIn k = r at hr ⊢
  split
  · exact answers_next hr
  · next q t =>
    extract_lets t1 q1
    have h1 : s.canonical = true → t1.canonical = true := fun h => canonical_countFld (hr h) _ _
    clear_value t1 q1
    exact answers_ite (answers_next fun h => canonical_setQp (h1 h) _) (answers_next fun h => canonical_setQp (h1 h) _)

theorem answers_execRateIncrease (qpn) : Answers P s (execRateIncrease qpn s) := by
  unfold execRateIncrease
  split
  exacts [answers_same, answers_ite answers_same (answers_next fun h => canonical_setQp h _)]

theorem answers_execReq (port cm peerQpn psn session dbImm mtu qpn) :
    Answers P s (execReq port cm peerQpn psn session dbImm mtu qpn s) := by
  unfold execReq
  refine answers_ite answers_same (answers_ite (answers_next fun h => canonical_rxFrame h _ _)
    (answers_ite (answers_next fun h => canonical_sendCm (canonical_rxFrame h _ _) _ _)
    (answers_ite (answers_next fun h => canonical_sendCm (canonical_rxFrame h _ _) _ _) ?_)))
  split
  · exact answers_next fun h => canonical_sendCm (canonical_rxFrame h _ _) _ _
  · exact answers_next fun h => canonical_sendCm (canonical_setFld (canonical_setQp
      ((canonical_usedFree _ _).trans (canonical_rxFrame h _ _)) _) _ _) _ _

theorem answers_execRep (k peerQpn psn mtu) : Answers P s (execRep k peerQpn psn mtu s) := by
  unfold execRep
  split
  · exact answers_same
  · exact answers_ite answers_same (answers_ite (answers_next fun h => canonical_rxFrame h _ _)
      (answers_next fun h => canonical_storeReady (canonical_setFld (canonical_setQp (canonical_rxFrame h _ _) _) _ _) _ _))

theorem answers_execPtpSync (p x seq origin slew) : Answers P s (execPtpSync p x seq origin slew s) := by
  unfold execPtpSync
  refine answers_ite answers_same ?_
  split
  exacts [answers_next fun h => canonical_servo h _ _ _, answers_next fun h => canonical_setPtp h _]

theorem answers_execPtpFollowUp (p x seq origin slew) : Answers P s (execPtpFollowUp p x seq origin slew s) := by
  unfold execPtpFollowUp
  refine answers_ite answers_same ?_
  split
  exacts [answers_ite (answers_next fun h => canonical_servo h _ _ _) answers_same, answers_same]

theorem answers_execPtpDelayResp (p x seq t4) : Answers P s (execPtpDelayResp p x seq t4 s) := by
  unfold execPtpDelayResp
  refine answers_ite answers_same ?_
  split
  exacts [answers_ite (answers_next fun h => canonical_setPtp h _) answers_same, answers_same]

theorem answers_execPtpAnnounceTimeout (p) : Answers P s (execPtpAnnounceTimeout p s) :=
  answers_next fun h => canonical_ptpSelect (canonical_ite (canonical_setPtp (canonical_setFld (canonical_setPtp h _) _ _) _)
    (canonical_setPtp h _))

theorem answers_execCommandTake : Answers P s (execCommandTake  s) := by
  unfold execCommandTake
  split
  exacts [answers_same, answers_next fun h => canonical_takeFrom ((canonical_with_host _ _).trans h) _]

theorem answers_execJCommandStart : Answers P s (execJCommandStart  s) := by
  unfold execJCommandStart
  split
  exacts [answers_same, answers_ite answers_same (answers_next fun h => canonical_showJobs (canonical_putCmd h _))]

theorem answers_execNop : Answers P s (execNop s) :=
  answers_onCmd _ (fun _ h => canonical_cmdDone h _ _ _)

theorem answers_execRegRead : Answers P s (execRegRead s) :=
  answers_onCmd _ (fun _ h => canonical_cmdDone (canonical_readAll h _) _ _ _)

theorem answers_execRegWrite : Answers P s (execRegWrite  s) :=
  answers_onCmd _ (fun _ h => canonical_cmdDone (canonical_readAll (canonical_foldl _ (fun _ _ hu => canonical_boothWrite hu _ _) _ _ h)
    _) _ _ _)

theorem answers_execReadLatency : Answers P s (execReadLatency s) :=
  answers_onCmd _ (fun _ h => canonical_cmdDone (canonical_boothWrite h _ _) _ _ _)

theorem answers_execReadBinding : Answers P s (execReadBinding s) :=
  answers_onCmd _ (fun _ h => canonical_cmdDone (canonical_boothWrite h _ _) _ _ _)

theorem answers_execReadPromptbook : Answers P s (execReadPromptbook  s) :=
  answers_onCmd _ (fun _ h => canonical_ite (canonical_cmdDone h _ _ _) (canonical_cmdDone (canonical_boothWrite h _ _) _ _ _))

theorem answers_execReadReport : Answers P s (execReadReport s) :=
  answers_onCmd _ (fun _ h => canonical_cmdDone (canonical_boothWrite h _ _) _ _ _)

theorem answers_execSessionOpen : Answers P s (execSessionOpen s) :=
  answers_onCmd _ (fun _ h => canonical_cmdDone (canonical_enableSession h _ _ _ _ _ _) _ _ _)

theorem answers_execSessionClose : Answers P s (execSessionClose s) :=
  answers_onCmd _ (fun _ h => canonical_cmdDone (canonical_disableSession h _) _ _ _)

theorem answers_execWindowAdd : Answers P s (execWindowAdd  s) := by
  unfold execWindowAdd
  refine answers_onCmd _ (fun c h => ?_)
  split
  · exact canonical_cmdDone h _ _ _
  · exact canonical_cmdDone (canonical_setWindow (canonical_freshKey h _ _) _ _ _ _ _ _) _ _ _

theorem answers_execWindowRemove : Answers P s (execWindowRemove s) :=
  answers_onCmd _ (fun _ h => canonical_ite h (canonical_cmdDone (canonical_dropWindow h _ _) _ _ _))

theorem answers_execStoreOpen : Answers P s (execStoreOpen  s) :=
  answers_onCmd _ (fun _ h => canonical_ite (canonical_storeReady h _ _) (canonical_openQps _ _ _ _
    (canonical_putCmd ((canonical_with_host _ _).trans (canonical_enableSession (canonical_disableSession h _) _ _ _ _ _ _)) _)))

theorem answers_execJobOpen : Answers P s (execJobOpen  s) :=
  answers_onCmd _ (fun _ h => canonical_ite (canonical_cmdDone h _ _ _) (canonical_ite (canonical_cmdDone h _ _ _)
    (canonical_cmdDone (canonical_setFld ((canonical_with_cueX _ _).trans (canonical_ite
    (canonical_startCount (canonical_setFld (canonical_setFld (canonical_setFld
    (canonical_setFld (canonical_setFld (canonical_setFld (canonical_setFld (canonical_setFld (canonical_setFld h _ _) _ _) _ _) _ _) _
    _) _ _) _ _) _ _) _ _)) (canonical_setFld (canonical_setFld (canonical_setFld
    (canonical_setFld (canonical_setFld (canonical_setFld (canonical_setFld (canonical_setFld (canonical_setFld h _ _) _ _) _ _) _ _) _
    _) _ _) _ _) _ _) _ _))) _ _) _ _ _)))

theorem answers_execJobClose : Answers P s (execJobClose  s) :=
  answers_onCmd _ (fun _ h => canonical_ite (canonical_setCurtain (canonical_foldl _ (fun _ _ hu => canonical_cmdDone hu _ _ _) _ _ h) _)
    (canonical_cmdDone (canonical_closeJob (canonical_endCmds (canonical_foldl _ (fun _ _ hv => canonical_cmdDone hv _ _ _) _ _ h) _ _ _
    _)) _ _ _))

theorem answers_execJobStart : Answers P s (execJobStart  s) := by
  unfold execJobStart
  split
  · exact answers_same
  · exact answers_ite answers_same (answers_ite (answers_next fun h => canonical_cmdDone h _ _ _)
      (answers_next fun h => canonical_setCurtain (canonical_setFld (canonical_putCmd h _) _ _) _))

theorem answers_execJobStop : Answers P s (execJobStop  s) :=
  answers_onCmd _ (fun _ h => canonical_ite (canonical_setCurtain h _) (canonical_cmdDone
    (canonical_endCmds (canonical_setCurtain h _) _ _ _ _) _ _ _))

theorem answers_execSceneChange : Answers P s (execSceneChange  s) := by
  unfold execSceneChange
  split
  · exact answers_same
  · exact answers_ite (answers_next fun h => canonical_cmdDone h _ _ _) (answers_next fun h => canonical_setScene
      ((canonical_sendC3 _ _ _).trans (canonical_putCmd h _)) _)

theorem answers_execSceneRestore : Answers P s (execSceneRestore  s) := by
  unfold execSceneRestore
  split
  · exact answers_same
  · exact answers_ite (answers_next fun h => canonical_cmdDone h _ _ _) (answers_next fun h => canonical_setScene
      ((canonical_sendC3 _ _ _).trans (canonical_putCmd h _)) _)

theorem answers_execSetRiskFloor : Answers P s (execSetRiskFloor s) :=
  answers_onCmd _ (fun _ h => canonical_cmdDone (canonical_reRisk ((canonical_with_host _ _).trans h)) _ _ _)

theorem answers_execPromote : Answers P s (execPromote  s) := by
  unfold execPromote
  split
  · exact answers_same
  · exact answers_ite (answers_next fun h => canonical_chooseTarget (canonical_setRes (canonical_putCmd h _) _))
      (answers_next fun h => canonical_setRes (canonical_setRes (canonical_putCmd h _) _) _)

/-- The state a step of reading an object back leaves. -/
def FetchStep.left : FetchStep → State
  | .waits t => t
  | .absent t => t
  | .image _ t => t

theorem canonical_waits (h : s.canonical = true) : (FetchStep.waits s).left.canonical = true := h

theorem canonical_fetchAt (h : s.canonical = true) (st cmd step i) : (s.fetchAt st cmd step i).left.canonical = true := by
  unfold State.fetchAt
  split
  · exact canonical_setFetch h _
  · exact canonical_waits (canonical_fetchPump (canonical_setFetch h _))

theorem canonical_fetchStart (h : s.canonical = true) (c step) : (s.fetchStart c step).left.canonical = true := by
  unfold State.fetchStart
  split
  · exact h
  · exact canonical_fetchAt (canonical_putCmd (canonical_setRes h _) _) _ _ _ _

theorem canonical_fetchHeader (h : s.canonical = true) (st f) : (s.fetchHeader st f).left.canonical = true := by
  unfold State.fetchHeader
  extract_lets len
  split
  · exact canonical_waits (canonical_fetchPump (canonical_setFetch h _))
  · exact canonical_fetchAt h _ _ _ _

theorem canonical_fetchRecords (h : s.canonical = true) (st f) : (s.fetchRecords st f).left.canonical = true := by
  unfold State.fetchRecords
  extract_lets len laid
  split
  · exact canonical_waits (canonical_fetchPump (canonical_setFetch h _))
  · exact canonical_fetchAt h _ _ _ _

theorem canonical_fetchData (h : s.canonical = true) (st f) : (s.fetchData st f).left.canonical = true := by
  unfold State.fetchData
  extract_lets r _ whole
  have hr : r.2.canonical = true := by
    refine canonical_foldl_of (Prod.snd : List FlashShard × State → State) _ (fun acc x hu => ?_) _ _ h
    dsimp only
    split
    · exact hu
    · exact canonical_resRead hu _ _ _
  split
  · exact canonical_setFetch hr _
  · exact canonical_fetchAt hr _ _ _ _

theorem canonical_fetchNext (h : s.canonical = true) : s.fetchNext.left.canonical = true := by
  unfold State.fetchNext
  split
  · extract_lets qs
    split
    · exact canonical_setFetch h _
    · split
      · exact canonical_fetchPump h
      · split
        · exact canonical_fetchHeader h _ _
        · split
          · exact canonical_fetchRecords h _ _
          · exact canonical_fetchData h _ _
  · exact canonical_setFetch h _

theorem answers_execRestoreCheckpoint (others checks) : Answers P s (execRestoreCheckpoint others checks s) := by
  unfold execRestoreCheckpoint
  split
  · exact answers_same
  · next c _ =>
    refine answers_ite (answers_next fun h => canonical_cmdUnits h _ _ _) (answers_ite answers_same (answers_ite ?_
      (answers_ite (answers_next fun h => canonical_notHeld h _) (answers_ite
        (answers_ite (answers_next fun h => canonical_restoring (canonical_rollback h _) _ _)
          (answers_next fun h => canonical_notHeld h _)) ?_))))
    · have hf : s.canonical = true → (if c.word = 2 then s.fetchNext else s.fetchStart c (c.par 0 4)).left.canonical = true := by
        intro h
        split
        · exact canonical_fetchNext h
        · exact canonical_fetchStart h _ _
      split
      all_goals rename_i e; rw [e] at hf
      · exact answers_next hf
      · exact answers_next fun h => canonical_notHeld (hf h) _
      · exact answers_next fun h => canonical_ite (canonical_restoreFrom (hf h) _ _) (canonical_notHeld (hf h) _)
    · split
      · exact answers_next fun h => canonical_notHeld h _
      · exact answers_next fun h => canonical_restoreFrom h _ _

theorem answers_execLinkRetrain : Answers P s (execLinkRetrain  s) :=
  answers_onCmd _ (fun _ h => canonical_ite (canonical_resSettle (canonical_foldl _ (fun _ _ hu => canonical_portCfgWrite hu _ _) _ _
    (canonical_putCmd h _))) (canonical_ite h (canonical_cmdDone h _ _ _)))

theorem answers_execWarmReset : Answers P s (execWarmReset s) :=
  answers_onCmd _ (fun _ h => canonical_acceptWarm h _)

theorem answers_execWarmResetExecute : Answers P s (execWarmResetExecute  s) := by
  unfold execWarmResetExecute
  split
  exacts [answers_same, answers_next fun h => canonical_ite (canonical_restart h _ _) h]

theorem answers_execCbPost (ch posts) : Answers P s (execCbPost ch posts s) := by
  unfold execCbPost
  refine answers_next fun h => ?_
  refine canonical_foldl _ (fun u x hu => ?_) _ _ (canonical_posts h _ _)
  split
  exacts [(canonical_send _ _).trans hu, canonical_haltAt hu _ _ _, hu]

theorem answers_execCbLock (n w) : Answers P s (execCbLock n w s) :=
  answers_next fun h => canonical_ite ((canonical_send _ _).trans (canonical_memEntry h _ _ _))
    (canonical_ite ((canonical_with_now _ _).trans h) ((canonical_send _ _).trans
    (canonical_setFld ((canonical_writerGranted _ _ _).trans h) _ _)))

theorem answers_execCheckpointOrder (k n layers) : Answers P s (execCheckpointOrder k n layers s) := by
  unfold execCheckpointOrder
  split
  · exact answers_next fun h => canonical_ite (canonical_settle (canonical_floodOrder h _)) h
  · exact answers_next fun h => canonical_settle (canonical_ckptOrder h _ _ _)

theorem answers_execParityReady (stripe) : Answers P s (execParityReady stripe s) :=
  answers_ite answers_same (answers_ite (answers_next fun h => canonical_setRes h _)
    (answers_ite (answers_next fun h => canonical_settle (canonical_stripeReady h _)) answers_same))

theorem answers_execCkptDone (seat k failed) : Answers P s (execCkptDone seat k failed s) := by
  unfold execCkptDone
  split
  · exact answers_same
  · exact answers_ite answers_same (answers_next fun h => canonical_ite (canonical_afterCommit
      (canonical_masterDone (canonical_setRes h _))) (canonical_masterDone (canonical_setRes h _)))

theorem answers_execFlashCheckpoint : Answers P s (execFlashCheckpoint  s) :=
  answers_ite answers_same (answers_next fun h => canonical_setFld (canonical_setRes
    (canonical_setHolds (canonical_applyHeld (canonical_stageImage h)) _) _) _ _)

theorem answers_execFlashImageComplete (ok) : Answers P s (execFlashImageComplete ok s) := by
  unfold execFlashImageComplete
  split
  · exact answers_same
  · exact answers_next fun h => canonical_ite h (canonical_ite (canonical_flashDurable h _) (canonical_flashFail h))

theorem answers_execStoreCheckpoint : Answers P s (execStoreCheckpoint  s) := by
  unfold execStoreCheckpoint
  split
  · refine answers_ite answers_same ?_
    split
    · exact answers_next fun h => canonical_storeFail h
    · refine answers_ite (answers_next fun h => canonical_storeFail h) (answers_next fun h => ?_)
      split
      · exact canonical_qpRequest (canonical_qpRequest (canonical_setRes h _) _ _ _ _) _ _ _ _
      · exact canonical_qpRequest (canonical_setRes h _) _ _ _ _
  · exact answers_ite (answers_next fun h => canonical_storeFail h) answers_same

theorem answers_execStoreCopyComplete : Answers P s (execStoreCopyComplete  s) := by
  unfold execStoreCopyComplete
  refine answers_ite answers_same ?_
  split
  · exact answers_next fun h => canonical_storeFail h
  · refine answers_ite answers_same (answers_ite (answers_next fun h => canonical_storeFail h) ?_)
    split
    · exact answers_next fun h => canonical_storeFail h
    · exact answers_next fun h => canonical_ckptCmds (canonical_resCode (canonical_setFld
        (canonical_setFld (canonical_setRes (canonical_wrote h _) _) _ _) _ _) _ _ _) _ _

theorem answers_execStepDeadline : Answers P s (execStepDeadline  s) := by
  unfold execStepDeadline
  split
  · exact answers_same
  · exact answers_ite answers_same (answers_next fun h => canonical_ite (canonical_loseSeat
      (canonical_setCurtain (canonical_health (canonical_resCode (canonical_sendComplete
      ((canonical_with_discardFlag _ _).trans (canonical_foldl _ (fun _ _ hu => canonical_revoke (canonical_bankctlWrite hu _ _ _ _) _) _
      _ h))) _ _ _) _) _) _) (canonical_setCurtain (canonical_health (canonical_resCode
      (canonical_sendComplete ((canonical_with_discardFlag _ _).trans (canonical_foldl _
      (fun _ _ hv => canonical_revoke (canonical_bankctlWrite hv _ _ _ _) _) _ _ h))) _ _ _) _) _))

theorem answers_execStepCompleteDeadline : Answers P s (execStepCompleteDeadline  s) := by
  unfold execStepCompleteDeadline
  split
  · exact answers_same
  · exact answers_ite answers_same (answers_next fun h => canonical_foldl _ (fun _ _ hu => canonical_loseSeat hu _) _ _ h)

theorem answers_execBoothWatchdog : Answers P s (execBoothWatchdog  s) :=
  answers_ite answers_same (answers_next fun h => canonical_loseSeat (canonical_resCode
    (canonical_foldl _ (fun _ _ hu => canonical_setCore hu _ _) _ _ (canonical_foldl _
    (fun _ _ hv => canonical_ite (canonical_setFld hv _ _) hv) _ _ (canonical_setRes h _))) _ _ _) _)

theorem answers_execRestored (m) : Answers P s (execRestored m s) := by
  unfold execRestored
  refine answers_ite (answers_next fun h => canonical_ite (canonical_promotionRefused h _) h) ?_
  extract_lets s1
  split
  · exact answers_next fun h => canonical_restoredIn h _ _
  · exact answers_ite (answers_next fun h => canonical_resume ((canonical_sendC3 _ _ _).trans (canonical_restoredIn h _ _)) _ _)
      (answers_next fun h => canonical_restoredIn h _ _)

theorem answers_execPowerStage (us charged) : Answers P s (execPowerStage us charged s) :=
  answers_ite answers_same (answers_next fun h => canonical_toStage (canonical_ite
    (canonical_ite (canonical_setFld (canonical_setFld (canonical_setBoot h _) _ _) _ _) (canonical_setFld (canonical_setBoot h _) _ _))
    (canonical_bootFault (canonical_bootSay (canonical_ite (canonical_setFld (canonical_setFld (canonical_setBoot h _) _ _) _ _)
    (canonical_setFld (canonical_setBoot h _) _ _)) _) _)) _)

theorem answers_execRootStage (us) : Answers P s (execRootStage us s) := by
  unfold execRootStage
  refine answers_ite answers_same ?_
  extract_lets _ s1 s2 _ s3
  split
  · refine answers_next fun h => ?_
    have hs1 : s1.canonical = true := (canonical_with_sec _ _).trans h
    have hs2 : s2.canonical = true := by
      unfold s2
      split
      exacts [canonical_setFld (canonical_setFld hs1 _ _) _ _, h]
    have hs3 : s3.canonical = true := canonical_foldl _ (fun _ _ hu => canonical_bootSay hu _) _ _ hs2
    exact canonical_setFld (canonical_setFld (canonical_bootFault hs3 _) _ _) _ _
  · refine answers_next fun h => ?_
    have hs1 : s1.canonical = true := (canonical_with_sec _ _).trans h
    have hs2 : s2.canonical = true := by
      unfold s2
      split
      exacts [canonical_setFld (canonical_setFld hs1 _ _) _ _, h]
    have hs3 : s3.canonical = true := canonical_foldl _ (fun _ _ hu => canonical_bootSay hu _) _ _ hs2
    exact canonical_toStage (canonical_setBoot (canonical_ite (canonical_bootSlot hs3 _ _)
      (canonical_setFld (canonical_bootSlot hs3 _ _) _ _)) _) _

theorem answers_execHubStage (us tailOk) : Answers P s (execHubStage us tailOk s) := by
  unfold execHubStage
  refine answers_ite answers_same (answers_next fun h => ?_)
  refine canonical_toStage (canonical_setBoot (canonical_foldl _ (fun _ _ hu => canonical_ite hu (canonical_portTo hu _ _)) _ _
    (canonical_bootSay (canonical_foldl _ (fun _ _ hu => canonical_bootSay hu _) _ _ ?_) _)) _) _
  refine canonical_showFlash (canonical_showFlash (canonical_copyTail (canonical_pbAccept ?_ _) _) _) _
  exact canonical_of_stores rfl rfl rfl (canonical_setReg
    (canonical_of_stores (s := s.setBoot { s.boot with held := [] }) rfl rfl rfl (canonical_setBoot h _)) R.CU_COUNT 0)

theorem answers_execMemoryStage (us badStacks badWings listOk corrected) :
    Answers P s (execMemoryStage us badStacks badWings listOk corrected s) := by
  refine answers_ite answers_same (answers_next fun h => ?_)
  have hm := canonical_filter_poison (canonical_filter_mem h fun c => decide (0x11000000000 ≤ c.1)) fun p => decide (0x11000000000 ≤ p.1)
  refine canonical_toStage (canonical_bootSay (canonical_memoryFaults (canonical_foldl _ (fun _ _ hu => canonical_watchError hu _ _ _ _)
    _ _
    (canonical_foldl _ (fun _ _ hu => canonical_setFld (canonical_setFld (canonical_setFld hu _ _) _ _) _ _) _ _ ?_)) _) _) _
  exact canonical_of_stores rfl rfl rfl hm

theorem answers_execSelfTestStage (us fails) : Answers P s (execSelfTestStage us fails s) := by
  refine answers_ite answers_same (answers_next fun h => ?_)
  have hm := canonical_filter_regs (canonical_filter_poison
    (canonical_filter_mem h fun c => decide (c.1 < 0x11000000000 ∨ 0x11080000000 ≤ c.1))
    fun c => decide (c.1 < 0x11000000000 ∨ 0x11080000000 ≤ c.1)) fun c => decide (c.1 < 0x11000000000 ∨ 0x11080000000 ≤ c.1)
  have hf := canonical_foldl (fun t (f : Tile × BitVec 8 × BitVec 20) =>
      (t.haltTile f.1 0x0A 0 0 0 0 0 (f.2.1.toNat + f.2.2.toNat * 2 ^ 32)).bootFault 0x0A)
    (fun _ _ hu => canonical_bootFault (canonical_haltTile hu _ _ _ _ _ _ _ _) _) fails _ ((canonical_with_tiles _ []).trans hm)
  have hs := canonical_toStage (canonical_bootSay ((canonical_with_tiles _ []).trans hf) (stageEntry 4 us.toNat)) 6
  exact canonical_ite hs (canonical_setFld hs _ _)

theorem answers_execConfigurationStage (us) : Answers P s (execConfigurationStage us s) := by
  unfold execConfigurationStage
  refine answers_ite answers_same ?_
  extract_lets _ _ _ _ s1
  split
  · extract_lets s2
    exact answers_next fun h => canonical_bootLock (canonical_applyConfig ((canonical_with_sec _ _).trans h) _ _) _ _
  · exact answers_next fun h => canonical_bootLock (canonical_applyConfig (canonical_bootFault (canonical_bootSay h _) _) _ _) _ _

theorem answers_execStageTimeout (stage) : Answers P s (execStageTimeout stage s) :=
  answers_ite answers_same (answers_ite (answers_next fun h => canonical_setBoot (canonical_bootSay h _) _)
    (answers_ite (answers_next fun h => canonical_setFld (canonical_setFld (canonical_bootFault
    (canonical_setBoot (canonical_bootSay h _) _) _) _ _) _ _) (answers_ite (answers_next fun h => canonical_linksOver
    (canonical_setBoot (canonical_bootSay h _) _) _) (answers_next fun h => canonical_bootFault
    (canonical_setBoot (canonical_bootSay h _) _) _))))

theorem answers_execPromptbookWrite : Answers P s (execPromptbookWrite  s) := by
  unfold execPromptbookWrite
  split
  · exact answers_same
  · exact answers_next fun h => canonical_foldl _ (fun _ _ hu => canonical_pbAccept hu _) _ _
      (canonical_ite ((canonical_with_pb _ _).trans h) (canonical_pbAccept ((canonical_with_pb _ _).trans h) _))

theorem answers_execVinBandChange (vin) : Answers P s (execVinBandChange vin s) :=
  answers_next fun h => canonical_ite (canonical_setPower (canonical_setFld h _ _) _)
    (canonical_powerEvent (canonical_setPower (canonical_setFld h _ _) _) _ _)

theorem answers_execPowerFail (vin vbank) : Answers P s (execPowerFail vin vbank s) := by
  unfold execPowerFail
  refine answers_ite answers_same ?_
  split
  · exact answers_next fun h => canonical_setPower (canonical_setFld (canonical_setFld h _ _) _ _) _
  · exact answers_next fun h => canonical_ite (canonical_setPower h _) h
  · exact answers_same

theorem answers_execPowerFailRailsOff : Answers P s (execPowerFailRailsOff s) :=
  answers_ite answers_same (answers_next fun h => canonical_of_stores (s := s.loseStores) rfl rfl rfl (canonical_loseStores h))

theorem answers_execHoldupWriteEnd (tail written us) : Answers P s (execHoldupWriteEnd tail written us s) := by
  unfold execHoldupWriteEnd
  refine answers_ite answers_same (answers_next fun h => ?_)
  refine canonical_setPower (canonical_ite ((canonical_with_pb _ _).trans ?_) ?_) _
  · split
    exacts [canonical_ite (canonical_flashDurable h _) (canonical_setRes h _), h]
  · split
    exacts [canonical_ite (canonical_flashDurable h _) (canonical_setRes h _), h]

theorem answers_execHoldupEnd (vin) : Answers P s (execHoldupEnd vin s) := by
  unfold execHoldupEnd
  split
  · exact answers_same
  · exact answers_same
  · exact answers_same
  · exact answers_same
  · exact answers_ite answers_same (answers_ite (answers_next fun h => canonical_setFld (canonical_restart h _ _) _ _)
      (answers_next fun h => canonical_setPower h _))
  · exact answers_ite answers_same (answers_ite (answers_next fun h => canonical_setFld (canonical_restart h _ _) _ _)
      (answers_next fun h => canonical_setPower h _))

theorem answers_execRailFault (r) : Answers P s (execRailFault r s) := by
  unfold execRailFault
  refine answers_ite answers_same ?_
  split
  · exact answers_next fun h => canonical_tripDie (canonical_powerEvent h _ _) _
  · exact answers_next fun h => canonical_tripDie (canonical_powerEvent h _ _) _
  · exact answers_next fun h => canonical_tripDie (canonical_setFld (canonical_setFld (canonical_powerEvent h _ _) _ _) _ _) _
  · exact answers_next fun h => canonical_tripHub (canonical_powerEvent h _ _) _
  · exact answers_next fun h => canonical_tripHub (canonical_powerEvent h _ _) _
  · exact answers_next fun h => canonical_powerEvent h _ _
  · exact answers_next fun h => canonical_powerEvent h _ _
  · exact answers_next fun h => canonical_powerEvent h _ _

theorem answers_execClkUnlock (domain ports) : Answers P s (execClkUnlock domain ports s) :=
  answers_ite answers_same (answers_ite (answers_next fun h => canonical_tripAll (canonical_powerEvent h _ _))
    (answers_ite (answers_next fun h => canonical_resSettle (canonical_foldl _ (fun _ _ hu => canonical_ite (canonical_portTo hu _ _) hu)
    _ _ (canonical_powerEvent h _ _))) (answers_ite (answers_next fun h => canonical_foldl _
    (fun _ _ hv => canonical_ite (canonical_fhDown hv _) hv) _ _ (canonical_powerEvent h _ _))
    (answers_next fun h => canonical_restart (canonical_powerEvent h _ _) _ _))))

theorem answers_execGovernorFill (die draw) : Answers P s (execGovernorFill die draw s) :=
  answers_ite (answers_next fun h => canonical_setPower h _) (answers_next fun h => canonical_foldl _
    (fun _ _ hu => (canonical_setTile _ _ _).trans hu) _ _ h)

theorem answers_execStartGrant : Answers P s (execStartGrant  s) := by
  unfold execStartGrant
  extract_lets
  split
  · exact answers_next fun h => canonical_setPower h _
  · extract_lets _ s1
    exact answers_ite (answers_next fun h => canonical_setPower h _) (answers_next fun h => canonical_foldl _
      (fun _ _ hu => (canonical_setTile _ _ _).trans hu) _ _ (canonical_setPower h _))

theorem answers_execCapEvaluate (watts) : Answers P s (execCapEvaluate watts s) :=
  answers_next fun h => canonical_ite (canonical_powerEvent (canonical_showHold (canonical_setPower (canonical_setFld h _ _) _)) _ _)
    (canonical_showHold (canonical_setPower (canonical_setFld h _ _) _))

theorem answers_execThermalSample (d temp) : Answers P s (execThermalSample d temp s) :=
  answers_ite (answers_next fun h => canonical_setFld (canonical_setFld h _ _) _ _)
    (answers_ite (answers_next fun h => canonical_setFld h _ _) (answers_next fun h => canonical_ite
    (canonical_ite (canonical_tripDie (canonical_ite (canonical_powerEvent (canonical_powerEvent
    (canonical_showHold (canonical_setFld (canonical_setFld h _ _) _ _)) _ _) _ _)
    (canonical_powerEvent (canonical_showHold (canonical_setFld (canonical_setFld h _ _) _ _)) _ _)) _)
    (canonical_tripHub (canonical_ite (canonical_powerEvent (canonical_powerEvent
    (canonical_showHold (canonical_setFld (canonical_setFld h _ _) _ _)) _ _) _ _)
    (canonical_powerEvent (canonical_showHold (canonical_setFld (canonical_setFld h _ _) _ _)) _ _)) _))
    (canonical_ite (canonical_powerEvent (canonical_powerEvent (canonical_showHold (canonical_setFld (canonical_setFld h _ _) _ _)) _ _)
    _ _) (canonical_powerEvent (canonical_showHold (canonical_setFld (canonical_setFld h _ _) _ _)) _ _))))

theorem answers_execCoolantSample (inlet outlet) : Answers P s (execCoolantSample inlet outlet s) :=
  answers_next fun h => canonical_ite (canonical_tripAll (canonical_ite (canonical_ite
    (canonical_setPower (canonical_setFld (canonical_setFld h _ _) _ _) _) (canonical_powerEvent
    (canonical_setPower (canonical_setFld (canonical_setFld h _ _) _ _) _) _ _))
    (canonical_ite (canonical_showHold (canonical_setPower (canonical_setFld (canonical_setFld h _ _) _ _) _))
    (canonical_setFld (canonical_setFld h _ _) _ _)))) (canonical_ite (canonical_ite
    (canonical_setPower (canonical_setFld (canonical_setFld h _ _) _ _) _) (canonical_powerEvent
    (canonical_setPower (canonical_setFld (canonical_setFld h _ _) _ _) _) _ _))
    (canonical_ite (canonical_showHold (canonical_setPower (canonical_setFld (canonical_setFld h _ _) _ _) _))
    (canonical_setFld (canonical_setFld h _ _) _ _)))

theorem answers_execGetReport (nonce) : Answers P s (execGetReport nonce s) :=
  answers_ite answers_same (answers_ite (answers_respond (fun h => h) _ _) (answers_ite (answers_respond (fun h => h) _ _)
    (answers_respond (fun h => (canonical_usedFree _ _).trans h) _ _)))

theorem answers_execGetCert (x0) : Answers P s (execGetCert x0 s) :=
  answers_vendor _ _ (answers_respond (fun h => h) _ _)

theorem answers_execChallenge (req) : Answers P s (execChallenge req s) :=
  answers_vendor _ _ (answers_ite (answers_respond (fun h => canonical_secEvent h _ _) _ _)
    (answers_ite (answers_respond (fun h => h) _ _) (answers_ite (answers_respond (fun h => h) _ _)
    (answers_respond (fun h => (canonical_with_sec _ _).trans ((canonical_usedFree _ _).trans h)) _ _))))

theorem answers_execChallengeExpiry : Answers P s (execChallengeExpiry  s) := by
  unfold execChallengeExpiry
  split
  exacts [answers_next fun h => canonical_ite (canonical_noChallenge h) h, answers_same]

theorem answers_execUnlock (req) : Answers P s (execUnlock req s) := by
  unfold execUnlock
  refine answers_vendor _ _ ?_
  split
  · exact answers_respond (fun h => h) _ _
  · exact answers_ite (answers_respond (fun h => h) _ _) (answers_ite (answers_respond (fun h => h) _ _)
      (answers_ite (answers_respond (fun h => canonical_secEvent (canonical_setFld ((canonical_with_sec _ _).trans h) _ _) _ _) _ _)
      (answers_respond (fun h => canonical_secEvent (canonical_addFld (canonical_noChallenge h) _ _) _ _) _ _)))

theorem answers_execClose (req) : Answers P s (execClose req s) :=
  answers_vendor _ _ (answers_respond (fun h => canonical_setFld (canonical_setFld ((canonical_with_sec _ _).trans h) _ _) _ _) _ _)

theorem answers_execClaim (x0) : Answers P s (execClaim x0 s) :=
  answers_vendor _ _ (answers_owning _ _ (fun _ h => (canonical_with_sec _ _).trans h))

theorem answers_execRotate (x0) : Answers P s (execRotate x0 s) :=
  answers_vendor _ _ (answers_owning _ _ (fun _ h => (canonical_with_sec _ _).trans h))

theorem answers_execDecommission (req) : Answers P s (execDecommission req s) :=
  answers_vendor _ _ (answers_owning _ _ fun u hu =>
    canonical_setReg (canonical_setReg (canonical_of_stores (s := u) rfl rfl rfl hu) _ _) _ _)

theorem answers_execReset (req) : Answers P s (execReset req s) :=
  answers_vendor _ _ (answers_ite (answers_respond (fun h => h) _ _) (answers_respond (fun h => canonical_askWarm h _ _) _ _))

theorem answers_execEntdaa (x) : Answers P s (execEntdaa x s) :=
  answers_mctp (answers_next fun h => canonical_takeAddr h _)

theorem answers_execSetdasa : Answers P s (execSetdasa s) :=
  answers_mctp (answers_next fun h => canonical_takeAddr h _)

theorem answers_execSetEndpointId (x) : Answers P s (execSetEndpointId x s) :=
  answers_mctp (answers_ite (answers_respond (fun h => h) _ _) (answers_respond (fun h => canonical_setFld h _ _) _ _))

theorem answers_execGetEndpointId : Answers P s (execGetEndpointId s) :=
  answers_mctp (answers_respond (fun h => h) _ _)

theorem answers_execGetEndpointUuid : Answers P s (execGetEndpointUuid s) :=
  answers_mctp (answers_respond (fun h => h) _ _)

theorem answers_execGetMctpVersionSupport (x) : Answers P s (execGetMctpVersionSupport x s) :=
  answers_mctp (answers_respond (fun h => h) _ _)

theorem answers_execGetMessageTypeSupport : Answers P s (execGetMessageTypeSupport s) :=
  answers_mctp (answers_respond (fun h => h) _ _)

theorem answers_execGetTid : Answers P s (execGetTid s) :=
  answers_mctp (answers_respond (fun h => h) _ _)

theorem answers_execSetTid (x) : Answers P s (execSetTid x s) :=
  answers_mctp (answers_respond (fun h => canonical_setMgmt h _) _ _)

theorem answers_execGetPldmVersion (x) : Answers P s (execGetPldmVersion x s) :=
  answers_mctp (answers_respond (fun h => h) _ _)

theorem answers_execGetPldmTypes : Answers P s (execGetPldmTypes s) :=
  answers_mctp (answers_respond (fun h => h) _ _)

theorem answers_execGetPldmCommands (x0 x1) : Answers P s (execGetPldmCommands x0 x1 s) :=
  answers_mctp (answers_respond (fun h => h) _ _)

theorem answers_execGetPdr (x) : Answers P s (execGetPdr x s) :=
  answers_mctp (answers_respond (fun h => h) _ _)

theorem answers_execGetSensorReading (id) : Answers P s (execGetSensorReading id s) := by
  unfold execGetSensorReading
  refine answers_mctp (answers_ite (answers_respond (fun h => h) _ _) ?_)
  split <;> exact answers_respond (fun h => h) _ _

theorem answers_execSetEventReceiver (receiver) : Answers P s (execSetEventReceiver receiver s) := by
  refine answers_mctp ?_
  exact answers_respond (fun h => canonical_setMgmt h _) _ _

theorem answers_execSensorSample : Answers P s (execSensorSample s) := by
  refine answers_mctp ?_
  exact answers_next fun h => canonical_foldl _ (fun _ _ hu => canonical_sample hu _) _ _ h

theorem answers_execRequestUpdate (image place) : Answers P s (execRequestUpdate image place s) := by
  unfold execRequestUpdate
  refine answers_mctp ?_
  split
  exacts [answers_respond (fun h => h) _ _, answers_respond (fun h => canonical_setMgmt h _) _ _]

theorem answers_execUpdateComponent (off data last) : Answers P s (execUpdateComponent off data last s) := by
  unfold execUpdateComponent
  refine answers_mctp ?_
  split
  · exact answers_respond (fun h => h) _ _
  · exact answers_ite (answers_respond (fun h => h) _ _) (answers_ite (answers_respond (fun h => canonical_updateFail h _) _ _)
      (answers_respond (fun h => canonical_setMgmt ((canonical_with_sec _ _).trans h) _) _ _))

theorem answers_execVerifyComplete : Answers P s (execVerifyComplete  s) := by
  unfold execVerifyComplete
  refine answers_mctp ?_
  split
  · exact answers_respond (fun h => h) _ _
  · exact answers_ite (answers_respond (fun h => h) _ _) (answers_ite (answers_respond (fun h => canonical_setMgmt h _) _ _)
      (answers_respond (fun h => canonical_updateFail h _) _ _))

theorem answers_execActivateFirmware : Answers P s (execActivateFirmware s) := by
  refine answers_mctp ?_
  split
  · exact answers_respond id _ _
  · extract_lets x _ t
    have ht : s.canonical = true → t.canonical = true := canonical_of_stores rfl rfl rfl
    clear_value t
    exact answers_ite (answers_respond id _ _) (answers_respond (fun h => canonical_secEvent (ht h) _ _) _ _)

theorem answers_execCancelUpdate : Answers P s (execCancelUpdate  s) := by
  unfold execCancelUpdate
  refine answers_mctp ?_
  split
  exacts [answers_respond (fun h => h) _ _, answers_respond (fun h => canonical_updateFail h _) _ _]

theorem answers_execPfcStormEnd (p) : Answers P s (execPfcStormEnd p s) := by
  unfold execPfcStormEnd
  extract_lets
  split
  exacts [answers_same, answers_ite answers_same (answers_next fun h => canonical_setFhPort h _ _)]

end

/-! #### The instructions of Table 6.2 that a booth core admits -/

theorem boothAdmits_shiftImm (op : IntOp) (hop : (shiftCode op).isSome = true) (rd rs1 : XReg) (sh : Fin 64) :
    boothAdmits (.intI op rd rs1 (BitVec.ofNat 16 sh)) = true := by
  have hsh : sh.val % 2 ^ 16 < 64 := by omega
  simp only [boothAdmits, PInsn.wf, hop, BitVec.toNat_ofNat, hsh]
  simp

theorem boothAdmits_load (k : LdKind) (rd rs1 : XReg) (imm) : boothAdmits (.load k (mkF rd.val) rs1 imm) = true :=
  (rfl : _ = PInsn.wf _).trans (Claim.wf_load k rd rs1 imm)

theorem boothAdmits_store (k : StKind) (rs2 rs1 : XReg) (imm) : boothAdmits (.store k (mkF rs2.val) rs1 imm) = true :=
  (rfl : _ = PInsn.wf _).trans (Claim.wf_store k rs2 rs1 imm)

theorem boothAdmits_fmov (op : FMov) (hs : op.xSrc = false) (dbl) (rd : XReg) (rs1 rs2 : FReg) (hu : (!op.unary || rs2.val == 0) = true) :
    boothAdmits (.fmov op dbl (mkF rd.val) rs1 rs2) = true := by
  have hrd : (mkF rd.val).val < 16 := by rw [Claim.mkF_xreg]; exact rd.isLt
  simp only [boothAdmits, PInsn.wf, hs, hu, hrd]
  simp

theorem boothAdmits_xtof (dbl) (fd : FReg) (rs1 : XReg) : boothAdmits (.fmov .xtof dbl fd (mkF rs1.val) 0) = true := by
  have hrs : (mkF rs1.val).val < 16 := by rw [Claim.mkF_xreg]; exact rs1.isLt
  simp only [boothAdmits, PInsn.wf, hrs]
  rfl

/-- The commands that meet no undefined format: all but four. -/
def NoFormatMet (c : Instr) : Prop :=
  (∀ t f, c ≠ .mm t f) ∧ (∀ t f, c ≠ .drain t f) ∧ (∀ t f, c ≠ .convert t f) ∧ ∀ r ecc, c ≠ .bundleFetch r ecc

/-- Command by command: the form is kept, and every command the manual admits answers but for the four. -/
theorem answers_exec (s : State) : ∀ c : Instr, Answers (c.wf = true ∧ NoFormatMet c) s (exec c s)
  | .registerWrite _ _ => answers_next fun h => canonical_writesIn h _ _
  | .rcRead mid a len => answers_execRcRead mid a len
  | .memoryAccess mid a len data hint narrow turn => answers_execMemoryAccess mid a len data hint narrow turn
  | .riggingFlit t ins o => answers_execRiggingFlit t ins o
  | .cueIncrement => answers_execCueIncrement
  | .cue _ _ _ _ _ _ => answers_next fun h => canonical_cueIn h _ _ _ _ _ _
  | .holdover => answers_execHoldover
  | .cutOff => answers_ite answers_same (answers_next fun h => canonical_loseSeat (canonical_raiseFld h _) _)
  | .backupMasterTakeover => answers_execBackupMasterTakeover
  | .alarmArm _ _ => answers_next fun h => canonical_alarmCtlWrite h _ _ _ _
  | .alarmFire n => answers_execAlarmFire n
  | .stepComplete => answers_ite (answers_next fun h => canonical_sendComplete (canonical_setCurtain h _)) answers_same
  | .stepCompleteAccepted _ _ _ => answers_next fun h => canonical_completeIn h _ _ _
  | .announce _ _ _ => answers_next fun h => canonical_announceIn (canonical_floodFrom h _ _) _ _
  | .curtainDrainStart => answers_execCurtainDrainStart
  | .classDrained => answers_execClassDrained
  | .drained _ _ _ => answers_next fun h => canonical_drainedIn h _ _ _
  | .verdictSet => answers_execVerdictSet
  | .verdict _ _ _ => answers_next fun h => canonical_verdictIn (canonical_floodFrom h _ _) _ _
  | .curtainCutOff => answers_execCurtainCutOff
  | .publish peer asked flash => answers_execPublish peer asked flash
  | .discard peer => answers_execDiscard peer
  | .stepStart => answers_execStepStart
  | .sceneStart => answers_execSceneStart
  | .sceneChangeStart heard => answers_execSceneChangeStart heard
  | .stopWave w => answers_execStopWave w
  | .sceneSave quiet => answers_execSceneSave quiet
  | .sceneSwapIn => answers_execSceneSwapIn
  | .startWave w => answers_execStartWave w
  | .restoreStart heard peer => answers_execRestoreStart heard peer
  | .matrixNop _ => answers_runM _ _ fun _ => rfl
  | .mm _ _ => answers_runM _ _ fun p => (p.2.1 _ _ rfl).elim
  | .shd _ _ => answers_runM _ _ fun _ => rfl
  | .drain _ _ => answers_runM _ _ fun p => (p.2.2.1 _ _ rfl).elim
  | .bundleFetch r ecc => answers_execBundleFetch r ecc fun p => p.2.2.2.2 _ _ rfl
  | .dnop _ => answers_runD _ _ fun _ => rfl
  | .copy _ _ => answers_runD _ _ fun _ => rfl
  | .convert _ _ => answers_runD _ _ fun p => (p.2.2.2.1 _ _ rfl).elim
  | .rwrite _ _ => answers_runD _ _ fun _ => rfl
  | .gather _ _ => answers_runD _ _ fun _ => rfl
  | .regather _ _ => answers_runD _ _ fun _ => rfl
  | .fill _ _ => answers_runD _ _ fun _ => rfl
  | .transferComplete t k ecc => answers_execTransferComplete t k ecc
  | .snop _ => answers_next fun h => canonical_runS h _ _
  | .wait _ _ _ => answers_next fun h => canonical_runS h _ _
  | .fenceL _ => answers_next fun h => canonical_runS h _ _
  | .fenceD _ => answers_next fun h => canonical_runS h _ _
  | .fenceF _ _ => answers_next fun h => canonical_runS h _ _
  | .fenceComplete t => answers_execFenceComplete t
  | .notice _ _ _ => answers_next fun h => canonical_runS h _ _
  | .take _ _ _ => answers_next fun h => canonical_runS h _ _
  | .swapBank _ => answers_next fun h => canonical_runS h _ _
  | .endOp _ => answers_next fun h => canonical_runS h _ _
  | .tileEnded _ => answers_ite (answers_next fun h => canonical_setFld h _ _) answers_same
  | .prompterNop _ => answers_runOn _ _ fun _ _ => rfl
  | .iadd _ _ _ _ => answers_runOn _ _ fun _ _ => rfl
  | .isub _ _ _ _ => answers_runOn _ _ fun _ _ => rfl
  | .iand _ _ _ _ => answers_runOn _ _ fun _ _ => rfl
  | .ior _ _ _ _ => answers_runOn _ _ fun _ _ => rfl
  | .ixor _ _ _ _ => answers_runOn _ _ fun _ _ => rfl
  | .ishl _ _ _ _ => answers_runOn _ _ fun _ _ => rfl
  | .ishr _ _ _ _ => answers_runOn _ _ fun _ _ => rfl
  | .isar _ _ _ _ => answers_runOn _ _ fun _ _ => rfl
  | .ilt _ _ _ _ => answers_runOn _ _ fun _ _ => rfl
  | .iltu _ _ _ _ => answers_runOn _ _ fun _ _ => rfl
  | .imin _ _ _ _ => answers_runOn _ _ fun _ _ => rfl
  | .imax _ _ _ _ => answers_runOn _ _ fun _ _ => rfl
  | .iminu _ _ _ _ => answers_runOn _ _ fun _ _ => rfl
  | .imaxu _ _ _ _ => answers_runOn _ _ fun _ _ => rfl
  | .iaddk _ _ _ _ => answers_runOn _ _ fun _ _ => rfl
  | .iandk _ _ _ _ => answers_runOn _ _ fun _ _ => rfl
  | .iork _ _ _ _ => answers_runOn _ _ fun _ _ => rfl
  | .ixork _ _ _ _ => answers_runOn _ _ fun _ _ => rfl
  | .iltk _ _ _ _ => answers_runOn _ _ fun _ _ => rfl
  | .iltuk _ _ _ _ => answers_runOn _ _ fun _ _ => rfl
  | .ishlk _ _ _ _ => answers_runOn _ _ fun _ _ => boothAdmits_shiftImm _ (by rfl) _ _ _
  | .ishrk _ _ _ _ => answers_runOn _ _ fun _ _ => boothAdmits_shiftImm _ (by rfl) _ _ _
  | .isark _ _ _ _ => answers_runOn _ _ fun _ _ => boothAdmits_shiftImm _ (by rfl) _ _ _
  | .iputh _ _ _ _ => answers_runOn _ _ fun _ _ => rfl
  | .imul _ _ _ _ => answers_runOn _ _ fun _ _ => rfl
  | .imulh _ _ _ _ => answers_runOn _ _ fun _ _ => rfl
  | .imulhu _ _ _ _ => answers_runOn _ _ fun _ _ => rfl
  | .idiv _ _ _ _ => answers_runOn _ _ fun _ _ => rfl
  | .idivu _ _ _ _ => answers_runOn _ _ fun _ _ => rfl
  | .irem _ _ _ _ => answers_runOn _ _ fun _ _ => rfl
  | .iremu _ _ _ _ => answers_runOn _ _ fun _ _ => rfl
  | .ldb _ _ _ _ => answers_runOn _ _ fun _ _ => boothAdmits_load _ _ _ _
  | .ldh _ _ _ _ => answers_runOn _ _ fun _ _ => boothAdmits_load _ _ _ _
  | .ldw _ _ _ _ => answers_runOn _ _ fun _ _ => boothAdmits_load _ _ _ _
  | .ldd _ _ _ _ => answers_runOn _ _ fun _ _ => boothAdmits_load _ _ _ _
  | .ldbu _ _ _ _ => answers_runOn _ _ fun _ _ => boothAdmits_load _ _ _ _
  | .ldhu _ _ _ _ => answers_runOn _ _ fun _ _ => boothAdmits_load _ _ _ _
  | .ldwu _ _ _ _ => answers_runOn _ _ fun _ _ => boothAdmits_load _ _ _ _
  | .fldw _ _ _ _ => answers_runOn _ _ fun _ _ => rfl
  | .fldd _ _ _ _ => answers_runOn _ _ fun _ _ => rfl
  | .stb _ _ _ _ => answers_runOn _ _ fun _ _ => boothAdmits_store _ _ _ _
  | .sth _ _ _ _ => answers_runOn _ _ fun _ _ => boothAdmits_store _ _ _ _
  | .stw _ _ _ _ => answers_runOn _ _ fun _ _ => boothAdmits_store _ _ _ _
  | .std _ _ _ _ => answers_runOn _ _ fun _ _ => boothAdmits_store _ _ _ _
  | .fstw _ _ _ _ => answers_runOn _ _ fun _ _ => rfl
  | .fstd _ _ _ _ => answers_runOn _ _ fun _ _ => rfl
  | .globalAccessComplete t k ecc => answers_execGlobalAccessComplete t k ecc
  | .cbeq _ _ _ _ => answers_runOn _ _ fun _ _ => rfl
  | .cbne _ _ _ _ => answers_runOn _ _ fun _ _ => rfl
  | .cblt _ _ _ _ => answers_runOn _ _ fun _ _ => rfl
  | .cbge _ _ _ _ => answers_runOn _ _ fun _ _ => rfl
  | .cbltu _ _ _ _ => answers_runOn _ _ fun _ _ => rfl
  | .cbgeu _ _ _ _ => answers_runOn _ _ fun _ _ => rfl
  | .call _ _ _ => answers_runOn _ _ fun _ _ => rfl
  | .jreg _ _ => answers_runOn _ _ fun _ _ => rfl
  | .fadd _ _ _ _ _ _ => answers_runOn _ _ fun p _ => p.1
  | .fsub _ _ _ _ _ _ => answers_runOn _ _ fun p _ => p.1
  | .fmul _ _ _ _ _ _ => answers_runOn _ _ fun p _ => p.1
  | .fdiv _ _ _ _ _ _ => answers_runOn _ _ fun p _ => p.1
  | .fsqrt _ _ _ _ _ => answers_runOn _ _ fun p _ => p.1
  | .fmin _ _ _ _ _ _ => answers_runOn _ _ fun p _ => p.1
  | .fmax _ _ _ _ _ _ => answers_runOn _ _ fun p _ => p.1
  | .fabs _ _ _ _ _ => answers_runOn _ _ fun p _ => p.1
  | .fneg _ _ _ _ _ => answers_runOn _ _ fun p _ => p.1
  | .fcpys _ _ _ _ _ _ => answers_runOn _ _ fun p _ => p.1
  | .fmac _ _ _ _ _ _ _ => answers_runOn _ _ fun p _ => p.1
  | .fmacn _ _ _ _ _ _ _ => answers_runOn _ _ fun p _ => p.1
  | .fmacs _ _ _ _ _ _ _ => answers_runOn _ _ fun p _ => p.1
  | .fmacns _ _ _ _ _ _ _ => answers_runOn _ _ fun p _ => p.1
  | .cvt _ _ _ _ _ _ => answers_runOn _ _ fun p _ => p.1
  | .ftox _ _ _ _ => answers_runOn _ _ fun _ _ => boothAdmits_fmov _ (by rfl) _ _ _ _ (by rfl)
  | .xtof _ _ _ _ => answers_runOn _ _ fun _ _ => boothAdmits_xtof _ _ _
  | .fceq _ _ _ _ _ => answers_runOn _ _ fun _ _ => boothAdmits_fmov _ (by rfl) _ _ _ _ (by rfl)
  | .fclt _ _ _ _ _ => answers_runOn _ _ fun _ _ => boothAdmits_fmov _ (by rfl) _ _ _ _ (by rfl)
  | .fcle _ _ _ _ _ => answers_runOn _ _ fun _ _ => boothAdmits_fmov _ (by rfl) _ _ _ _ (by rfl)
  | .fkind _ _ _ _ => answers_runOn _ _ fun _ _ => boothAdmits_fmov _ (by rfl) _ _ _ _ (by rfl)
  | .vlset _ _ _ _ => answers_runOn _ _ fun p hb => absurd p.1 (by simp [Instr.wf, Instr.pInsn, hb])
  | .getcyc _ _ => answers_runOn _ _ fun _ _ => rfl
  | .getcue _ _ => answers_runOn _ _ fun _ _ => rfl
  | .holdpt _ => answers_runOn _ _ fun _ _ => rfl
  | .tret _ => answers_runOn _ _ fun _ _ => rfl
  | .tskip _ => answers_runOn _ _ fun _ _ => rfl
  | .trapEntry t => answers_execTrapEntry t
  | .vadd _ _ _ _ _ => answers_runOn _ _ fun p _ => p.1
  | .vsub _ _ _ _ _ => answers_runOn _ _ fun p _ => p.1
  | .vmul _ _ _ _ _ => answers_runOn _ _ fun p _ => p.1
  | .vmin _ _ _ _ _ => answers_runOn _ _ fun p _ => p.1
  | .vmax _ _ _ _ _ => answers_runOn _ _ fun p _ => p.1
  | .vand _ _ _ _ _ => answers_runOn _ _ fun p _ => p.1
  | .vor _ _ _ _ _ => answers_runOn _ _ fun p _ => p.1
  | .vxor _ _ _ _ _ => answers_runOn _ _ fun p _ => p.1
  | .vsll _ _ _ _ _ => answers_runOn _ _ fun p _ => p.1
  | .vsrl _ _ _ _ _ => answers_runOn _ _ fun p _ => p.1
  | .vsra _ _ _ _ _ => answers_runOn _ _ fun p _ => p.1
  | .vceq _ _ _ _ _ => answers_runOn _ _ fun p _ => p.1
  | .vclt _ _ _ _ _ => answers_runOn _ _ fun p _ => p.1
  | .vcle _ _ _ _ _ => answers_runOn _ _ fun p _ => p.1
  | .vredsum _ _ _ _ => answers_runOn _ _ fun p _ => p.1
  | .vredmax _ _ _ _ => answers_runOn _ _ fun p _ => p.1
  | .vcvt _ _ _ _ _ => answers_runOn _ _ fun _ _ => rfl
  | .vbcast _ _ _ _ => answers_runOn _ _ fun p _ => p.1
  | .vext _ _ _ _ _ => answers_runOn _ _ fun p _ => p.1
  | .vfma _ _ _ _ _ => answers_runOn _ _ fun p _ => p.1
  | .vfms _ _ _ _ _ => answers_runOn _ _ fun p _ => p.1
  | .vfnma _ _ _ _ _ => answers_runOn _ _ fun p _ => p.1
  | .vcmul _ _ _ _ _ _ _ => answers_runOn _ _ fun p _ => p.1
  | .vld _ _ _ _ => answers_runOn _ _ fun _ _ => rfl
  | .vst _ _ _ _ => answers_runOn _ _ fun _ _ => rfl
  | .vgather _ _ _ _ _ => answers_runOn _ _ fun _ _ => rfl
  | .vscatter _ _ _ _ _ => answers_runOn _ _ fun _ _ => rfl
  | .srSeedWrite _ _ => answers_next fun h => canonical_seedWrite h _ _ _ _
  | .loadScene => answers_execLoadScene
  | .bankWrite _ _ _ _ _ => answers_next fun h => canonical_boothBank h _ _ _ _ _
  | .bankCommit _ _ _ _ => answers_next fun h => canonical_boothBank h _ _ _ _ _
  | .bankctlMark _ _ => answers_next fun h => canonical_bankctlWrite h _ _ _ _
  | .boothHalt _ _ _ => answers_next fun h => canonical_bankctlWrite h _ _ _ _
  | .tileRevoke _ => answers_ite (answers_next fun h => canonical_revoke h _) answers_same
  | .cacheResize _ => answers_next fun h => canonical_cacheResize h _
  | .cacheResizeDone => answers_ite (answers_next fun h => (canonical_with_cacheN _ _).trans (canonical_setFld h _ _)) answers_same
  | .reduceWrite mid addr xor fmt data psn ecc => answers_execReduceWrite mid addr xor fmt data psn ecc
  | .heldReduceWrite k req => answers_execHeldReduceWrite k req
  | .scrub _ _ => answers_next fun h => canonical_scrub h _ _
  | .stackTempSample k temp => answers_execStackTempSample k temp
  | .retirePage bad => answers_execRetirePage bad
  | .shardEntryWrite _ _ _ => answers_next fun h => canonical_shardEntryWrite h _ _ _
  | .bqPost _ => answers_next fun h => canonical_bqPost h _
  | .descriptorDispatch k => answers_execDescriptorDispatch k
  | .sgdm _ _ _ => answers_next fun h => canonical_runUnit h _ _ _ _ fun d _ lo hi hu => canonical_optUnit d lo hi hu
  | .adamw _ _ _ => answers_next fun h => canonical_runUnit h _ _ _ _ fun d _ lo hi hu => canonical_optUnit d lo hi hu
  | .teConvert _ _ _ => answers_next fun h => canonical_runUnit h _ _ _ _ fun d _ lo hi hu => canonical_convertUnit d lo hi hu
  | .teFill _ _ _ => answers_next fun h => canonical_runUnit h _ _ _ _ fun d _ lo hi hu => canonical_fillUnit d lo hi hu
  | .axpy _ _ _ => answers_next fun h => canonical_runUnit h _ _ _ _ fun d _ lo hi hu => canonical_axpyUnit d lo hi hu
  | .norm _ _ _ => answers_next fun h => canonical_runUnit h _ _ _ _ fun d _ lo hi hu => canonical_normUnit d lo hi hu
  | .parityDelta _ _ _ => answers_next fun h => canonical_runUnit h _ _ _ _ fun d _ lo hi hu => canonical_parityUnit d lo hi hu
  | .descriptorComplete k r => answers_execDescriptorComplete k r
  | .clipResolve _ _ => answers_next fun h => canonical_clipResolve h _ _
  | .clipDone _ => answers_ite (answers_next fun h => canonical_setFld h _ _) answers_same
  | .dcSnapshot => answers_next fun h => canonical_ite (canonical_dcSnapshot h) h
  | .dressCheckRecompute die => answers_execDressCheckRecompute die
  | .dcEvaluate => answers_execDcEvaluate
  | .dcSeedWrite _ => answers_next fun h => canonical_dcCtlWrite h _ _ _
  | .place j est bubble => answers_execPlace j est bubble
  | .planIdExchange seat id => answers_execPlanIdExchange seat id
  | .reshard j est bubble => answers_execReshard j est bubble
  | .permuteComplete others => answers_execPermuteComplete others
  | .stageScene r => answers_execStageScene r
  | .linkTraining p lanes delay peerSeat peerPort peerNormal => answers_execLinkTraining p lanes delay peerSeat peerPort peerNormal
  | .portDisable _ => answers_settleOut (answers_next fun h => canonical_portCfgWrite h _ _)
  | .portEnable _ => answers_next fun h => canonical_portCfgWrite h _ _
  | .retrain _ => answers_settleOut (answers_next fun h => canonical_portCfgWrite h _ _)
  | .flitReceive p f fecCorr fecUncorr hi hop peer => answers_execFlitReceive p f fecCorr fecUncorr hi hop peer
  | .retry _ _ => answers_settleOut (answers_next fun h => canonical_ite (canonical_retryIn h _ _) h)
  | .retryTimeout _ => answers_next fun h => canonical_ite (canonical_askRetry h _) h
  | .linkIdleTimeout _ => answers_settleOut (answers_next fun h => canonical_ite (canonical_portTo h _ _) h)
  | .tickets _ _ _ _ => answers_next fun h => canonical_ite (canonical_ticketsIn h _ _ _ _) h
  | .ticketReturn _ => answers_ite answers_same (answers_next fun h => canonical_setPort h _ _)
  | .packetGrant p => answers_execPacketGrant p
  | .packetRoute input => answers_execPacketRoute input
  | .write ecc => answers_execWrite ecc
  | .rwriteAdd ecc => answers_execRwriteAdd ecc
  | .rwriteXor ecc => answers_execRwriteXor ecc
  | .readReq rdst ecc => answers_execReadReq rdst ecc
  | .readResp => answers_execReadResp
  | .ack _ _ _ _ => answers_settleOut (answers_next fun h => canonical_ackIn h _ _ _ _)
  | .respTimeout tag => answers_execRespTimeout tag
  | .seatLost _ _ _ _ => answers_execSeatLost _ _ _ _
  | .idle _ => answers_next fun h => canonical_ite (canonical_setPort h _ _) h
  | .cePost _ => answers_next fun h => canonical_cePost h _
  | .collectiveStart x => answers_execCollectiveStart x
  | .allReduce _ => answers_next fun h => canonical_ceRow h _ _
  | .reduceScatter _ => answers_next fun h => canonical_ceRow h _ _
  | .allGather _ => answers_next fun h => canonical_ceRow h _ _
  | .broadcast _ => answers_next fun h => canonical_ceRow h _ _
  | .permute _ => answers_next fun h => canonical_ceRow h _ _
  | .barrier _ => answers_next fun h => canonical_ceRow h _ _
  | .scalarSum _ => answers_next fun h => canonical_ceRow h _ _
  | .collData m ecc => answers_execCollData m ecc
  | .collCtrl set num => answers_execCollCtrl set num
  | .collectiveComplete r => answers_execCollectiveComplete r
  | .fhLinkUp p mode => answers_execFhLinkUp p mode
  | .fhLinkDown _ => answers_next fun h => canonical_ite (canonical_fhDown h _) h
  | .arpRequest p m => answers_execArpRequest p m
  | .neighborSolicitation p m => answers_execNeighborSolicitation p m
  | .icmpEcho _ _ _ _ => answers_next fun h => canonical_ite ((canonical_send _ _).trans h) (canonical_dropFrame h _)
  | .frameDrop _ => answers_next fun h => canonical_ite h (canonical_ite (canonical_dropFrame h _) (canonical_rxFrame h _ _))
  | .pfcFrame _ _ => answers_ite answers_same (answers_next fun h => canonical_setFld (canonical_setFhPort h _ _) _ _)
  | .pfcRefresh p drain => answers_execPfcRefresh p drain
  | .pfcWatchdog p => answers_execPfcWatchdog p
  | .send _ => answers_next fun h => canonical_request h _ (fun _ _ hu => canonical_nak hu _ _ _)
  | .rdmaWrite _ _ _ _ _ => answers_next fun h => canonical_rdmaWrite h _ _ _ _ _ _
  | .rdmaWriteImm _ _ _ _ _ => answers_next fun h => canonical_rdmaWrite h _ _ _ _ _ _
  | .rdmaRead k reth ecc => answers_execRdmaRead k reth ecc
  | .atomic _ => answers_next fun h => canonical_request h _ (fun _ _ hu => canonical_nak hu _ _ _)
  | .rdmaReadResponse k data last => answers_execRdmaReadResponse k data last
  | .rcAck k syndrome => answers_execRcAck k syndrome
  | .rcTimeout qpn => answers_execRcTimeout qpn
  | .cnp k => answers_execCnp k
  | .rateIncrease qpn => answers_execRateIncrease qpn
  | .req port cm peerQpn psn session dbImm mtu qpn => answers_execReq port cm peerQpn psn session dbImm mtu qpn
  | .rep k peerQpn psn mtu => answers_execRep k peerQpn psn mtu
  | .doorbell _ _ => answers_next fun h => canonical_ite (canonical_doorbell h _ _) h
  | .statusConsumed _ _ => answers_next fun h => canonical_ite (canonical_statusConsumed h _ _) h
  | .ptpSync p x seq origin slew => answers_execPtpSync p x seq origin slew
  | .ptpFollowUp p x seq origin slew => answers_execPtpFollowUp p x seq origin slew
  | .ptpDelayReq _ => answers_ite answers_same (answers_next fun h => (canonical_send _ _).trans (canonical_setPtp h _))
  | .ptpDelayResp p x seq t4 => answers_execPtpDelayResp p x seq t4
  | .ptpAnnounce _ _ _ _ => answers_ite answers_same (answers_next fun h => canonical_ptpSelect (canonical_setPtp h _))
  | .ptpAnnounceTimeout p => answers_execPtpAnnounceTimeout p
  | .commandTake => answers_execCommandTake
  | .jCommandStart => answers_execJCommandStart
  | .nop => answers_execNop
  | .regRead => answers_execRegRead
  | .regWrite => answers_execRegWrite
  | .readLatency => answers_execReadLatency
  | .readBinding => answers_execReadBinding
  | .readPromptbook => answers_execReadPromptbook
  | .readReport => answers_execReadReport
  | .sessionOpen => answers_execSessionOpen
  | .sessionClose => answers_execSessionClose
  | .windowAdd => answers_execWindowAdd
  | .windowRemove => answers_execWindowRemove
  | .storeOpen => answers_execStoreOpen
  | .jobOpen => answers_execJobOpen
  | .jobClose => answers_execJobClose
  | .jobStart => answers_execJobStart
  | .jobStop => answers_execJobStop
  | .sceneChange => answers_execSceneChange
  | .sceneRestore => answers_execSceneRestore
  | .setRiskFloor => answers_execSetRiskFloor
  | .riskFloorExpiry => answers_next fun h => canonical_reRisk ((canonical_with_host _ _).trans h)
  | .checkpointNow => answers_next fun h => canonical_foldl _ (fun _ _ hu => canonical_cmdUnits hu _ _ _) _ _ (canonical_setRes h _)
  | .promote => answers_execPromote
  | .restoreCheckpoint others checks => answers_execRestoreCheckpoint others checks
  | .linkRetrain => answers_execLinkRetrain
  | .warmReset => answers_execWarmReset
  | .warmResetExecute => answers_execWarmResetExecute
  | .cbPost ch posts => answers_execCbPost ch posts
  | .cbTake _ _ => answers_next fun h => canonical_cbTake h _ _
  | .cbFlush _ => answers_next fun h => canonical_flushChan h _
  | .cbLock n w => answers_execCbLock n w
  | .cbAcq _ _ => answers_next fun h => canonical_ite (canonical_putOff h _) (canonical_acquire h _ _)
  | .remoteNotice _ _ _ => answers_next fun h => canonical_post h _ _ _
  | .healthDecay => answers_ite answers_same (answers_next fun h => canonical_reRisk (canonical_setFld (canonical_setRes h _) _ _))
  | .riskReport _ _ => answers_ite (answers_next fun h => canonical_jobRisk ((canonical_with_jobRisks _ _).trans h)) answers_same
  | .checkpointOrder k n layers => answers_execCheckpointOrder k n layers
  | .parityReady stripe => answers_execParityReady stripe
  | .ckptDone seat k failed => answers_execCkptDone seat k failed
  | .ckptCommit _ _ => answers_next fun h => canonical_ckptCommit h _ _
  | .ckptAbandon _ => answers_next fun h => canonical_ckptAbandon h _
  | .flashCheckpoint => answers_execFlashCheckpoint
  | .flashImageComplete ok => answers_execFlashImageComplete ok
  | .storeCheckpoint => answers_execStoreCheckpoint
  | .storeCopyComplete => answers_execStoreCopyComplete
  | .stepDeadline => answers_execStepDeadline
  | .stepCompleteDeadline => answers_execStepCompleteDeadline
  | .watchdogRefresh => answers_next fun h => canonical_setRes h _
  | .boothWatchdog => answers_execBoothWatchdog
  | .recoveryReport _ _ _ => answers_next fun h => canonical_recoveryIn h _ _ _
  | .recover _ _ _ _ => answers_ite answers_same (answers_next fun h => canonical_ite (canonical_recover h _ _ _)
    (canonical_toMaster h _))
  | .restored m => answers_execRestored m
  | .resume _ _ => answers_ite answers_same (answers_next fun h => canonical_resume h _ _)
  | .powerOn _ => answers_ite (answers_next fun h => canonical_setFld (canonical_restart h _ _) _ _) answers_same
  | .resetContact => answers_ite answers_same (answers_next fun h => (canonical_with_boot _ _).trans (canonical_restart h _ _))
  | .powerStage us charged => answers_execPowerStage us charged
  | .rootStage us => answers_execRootStage us
  | .hubStage us tailOk => answers_execHubStage us tailOk
  | .memoryStage us badStacks badWings listOk corrected => answers_execMemoryStage us badStacks badWings listOk corrected
  | .selfTestStage us fails => answers_execSelfTestStage us fails
  | .linksStage _ => answers_ite answers_same (answers_next fun h => canonical_linksOver (canonical_bootSay h _) _)
  | .configurationStage us => answers_execConfigurationStage us
  | .stageTimeout stage => answers_execStageTimeout stage
  | .promptbookWrite => answers_execPromptbookWrite
  | .vinBandChange vin => answers_execVinBandChange vin
  | .powerFail vin vbank => answers_execPowerFail vin vbank
  | .powerFailStageStop => answers_ite (answers_next fun h => canonical_setPower (canonical_dropLinks (canonical_stopEngines h)) _)
    answers_same
  | .powerFailRailsOff => answers_execPowerFailRailsOff
  | .holdupWriteEnd tail written us => answers_execHoldupWriteEnd tail written us
  | .holdupEnd vin => answers_execHoldupEnd vin
  | .railFault r => answers_execRailFault r
  | .clkUnlock domain ports => answers_execClkUnlock domain ports
  | .governorFill die draw => answers_execGovernorFill die draw
  | .fillDecay => answers_ite answers_same (answers_next fun h => canonical_setPower h _)
  | .startGrant => answers_execStartGrant
  | .dutyStep => answers_next fun h => canonical_ite h (canonical_setFld (canonical_setPower h _) _ _)
  | .capEvaluate watts => answers_execCapEvaluate watts
  | .thermalSample d temp => answers_execThermalSample d temp
  | .coolantSample inlet outlet => answers_execCoolantSample inlet outlet
  | .getReport nonce => answers_execGetReport nonce
  | .getCert req => answers_execGetCert req
  | .challenge req => answers_execChallenge req
  | .challengeExpiry => answers_execChallengeExpiry
  | .unlock req => answers_execUnlock req
  | .close req => answers_execClose req
  | .claim req => answers_execClaim req
  | .rotate req => answers_execRotate req
  | .decommission req => answers_execDecommission req
  | .reset req => answers_execReset req
  | .entdaa addr => answers_execEntdaa addr
  | .setdasa => answers_execSetdasa
  | .setEndpointId eid => answers_execSetEndpointId eid
  | .getEndpointId => answers_execGetEndpointId
  | .getEndpointUuid => answers_execGetEndpointUuid
  | .getMctpVersionSupport type => answers_execGetMctpVersionSupport type
  | .getMessageTypeSupport => answers_execGetMessageTypeSupport
  | .getTid => answers_execGetTid
  | .setTid tid => answers_execSetTid tid
  | .getPldmVersion type => answers_execGetPldmVersion type
  | .getPldmTypes => answers_execGetPldmTypes
  | .getPldmCommands type version => answers_execGetPldmCommands type version
  | .getPdr id => answers_execGetPdr id
  | .getSensorReading id => answers_execGetSensorReading id
  | .setEventReceiver receiver => answers_execSetEventReceiver receiver
  | .sensorSample => answers_execSensorSample
  | .requestUpdate image place => answers_execRequestUpdate image place
  | .updateComponent off data last => answers_execUpdateComponent off data last
  | .verifyComplete => answers_execVerifyComplete
  | .activateFirmware => answers_execActivateFirmware
  | .cancelUpdate => answers_execCancelUpdate
  | .rstLRise => answers_next fun h => (canonical_with_boot _ _).trans h
  | .pfcStormEnd p => answers_execPfcStormEnd p

/-- A step is a command's answer, or the tick. -/
theorem step_canonical {u : State} (h : s.canonical = true) (hu : step s = .next u) : u.canonical = true := by
  unfold step at hu
  split at hu
  · cases hu
    exact canonical_tick h
  · next c r _ => exact (answers_exec _ c).form ((canonical_with_pending _ r).trans h) u hu

theorem exec_next (c : Instr) (s : State) (hw : c.wf = true) (hd : NoFormatMet c) : ∃ u, exec c s = .next u :=
  (answers_exec s c).next ⟨hw, hd⟩

end

end Sys2Proof.Machine

namespace Sys2Proof.Claim
open Sys2Proof.Machine

/-- Settles O60: command by command and operation by operation, what a step writes it writes through operations that keep the form. -/
theorem everyStepKeepsTheStoresCanonical : Obligations.EveryStepKeepsTheStoresCanonical := by
  unfold Obligations.EveryStepKeepsTheStoresCanonical
  refine ⟨fun s u h hu => step_canonical h hu, fun c s hw => ?_⟩
  split
  · trivial
  · trivial
  · trivial
  · trivial
  · next hmm hdrain hconvert hfetch => exact exec_next _ s hw ⟨hmm, hdrain, hconvert, hfetch⟩

end Sys2Proof.Claim
end

section
/-!
PROOFS. An S slot issued alone whose guard holds, and what lifts a fence and ends a tile (O17).
-/
namespace Sys2Proof.Machine
open Sys2Proof.Claim

/-! ### Freeing a held tile -/

/-- A held tile is issuing again. -/
def State.freed (s : State) (t : Nat) : State := if s.fld (R.TA_SEQ_STATE t) = seqHeld then s.setFld (R.TA_SEQ_STATE t) seqIssuing else s

theorem fld_setSeqState (s : State) (t : Nat) {v : Nat} (h : v < 8) : (s.setFld (R.TA_SEQ_STATE t) v).fld (R.TA_SEQ_STATE t) = v := by
  rw [fld_setFld_same s (R.TA_SEQ_STATE t) v (by decide : 28 < 64)]
  exact Nat.mod_eq_of_lt h

theorem freed_not_held (s : State) (t : Nat) : (s.freed t).fld (R.TA_SEQ_STATE t) ≠ seqHeld := by
  unfold State.freed
  split
  · rw [fld_setSeqState s t (by decide)]
    decide
  · assumption

theorem tile_freed (s : State) (t k : Nat) : (s.freed t).tile k = s.tile k := by
  unfold State.freed
  split
  · exact tile_setFld s _ _ k
  · rfl

theorem byte_freed (s : State) (t a : Nat) : (s.freed t).byte a = s.byte a := by
  unfold State.freed
  split
  · exact byte_setFld s _ _ a
  · rfl

/-- A fence outside a handler, of the D kind and done, is lifted. -/
theorem execFenceComplete_lifted {s : State} {t : Tile} {n : Nat} (hin : s.inHandler t = false) (hf : (s.tile t).fence = some (.d, n))
    (hdone : s.fenceDone t .d n = true) :
    execFenceComplete t s = .next ((s.setTile t { s.tile t with fence := none, cutF := false }).freed t) := by
  unfold execFenceComplete
  simp only [hin, hf, hdone, Bool.false_eq_true, if_false, if_true]
  rw [show s.fenceLost t .d n = s from rfl, hin]
  rfl

/-! ### An S slot issued alone -/

theorem runS_performed {s : State} {t : Tile} {i : SInsn} (hcan : s.canIssue t = true) (hguard : s.guardHolds t i = true)
    (hcheck : s.checkS t i = none) : s.runS t i = (s.noteIssue t).performS t i := by
  unfold State.runS
  rw [hcan, hguard]
  exact (issueAlone_spec s t (fun u => u.checkS t i) (fun u => u.performS t i)).2.2 hcan hcheck

/-- The callboard's side of a state: a channel's queue, the cycle's posts to it, its pointer. -/
def State.callboard (s : State) (n : Nat) : List Word × Option ChanTurn × Nat := (s.chan n, s.turn? n, smapGet 0 s.cbPtr n)

theorem callboard_setFld (s : State) (f : Fld) (v n : Nat) : (s.setFld f v).callboard n = s.callboard n := rfl

theorem callboard_setTile (s : State) (t : Nat) (x : TileX) (n : Nat) : (s.setTile t x).callboard n = s.callboard n := rfl

theorem callboard_issued (s : State) (l : List IssueNote) (n : Nat) :
    ({ s with now := { s.now with issued := l } } : State).callboard n = s.callboard n := rfl

/-- Noting an issue leaves the callboard. -/
theorem noteIssue_callboard (s : State) (t n : Nat) : (s.noteIssue t).callboard n = s.callboard n := by
  unfold State.noteIssue
  extract_lets _ u _ w
  have hw : w.callboard n = s.callboard n := (callboard_setTile u t _ n).trans (callboard_issued s _ n)
  split
  · exact (callboard_setFld w _ _ n).trans hw
  · exact hw

theorem InFlight.callboard {t : Nat} {s u : State} (h : InFlight t s u) (n : Nat) : u.callboard n = s.callboard n :=
  (congrArg (fun w : State => w.callboard n) h.rest :)

theorem takeNotice_oldest {s : State} {n : Nat} {v : Word} {r : List Word} (hturn : s.turn? n = none) (hc : s.chan n = v :: r) :
    s.takeNotice n = (v, s.setChan n r) := by
  have hn : s.hasNotice n = true := by
    rw [State.hasNotice, State.posted, hturn, hc]
    rfl
  unfold State.takeNotice
  rw [if_pos hn, hturn, hc]
  rfl

/-- Two states with the same cycle and the same of a tile in flight schedule alike. -/
theorem acts_schedX_congr {s u : State} {t : Nat} (hactive : u.active = s.active) (hacts : (u.tile t).acts = (s.tile t).acts)
    (hord : (u.tile t).ordNext = (s.tile t).ordNext) (after r : Nat) (v : Word) :
    ((u.schedX t after r v).tile t).acts = ((s.schedX t after r v).tile t).acts := by
  rw [(schedX_spec u t after r v).2, (schedX_spec s t after r v).2, hactive, hacts, hord]

/-- TAKE takes the oldest notice into its register at cycle 1. -/
theorem runS_take {s : State} {t : Tile} {ch : BitVec 8} {x : XReg} {v : Word} {r : List Word} (hcan : s.canIssue t = true)
    (hfree : Free s t resSync) (hallow : s.takeAllowed ch.toNat (tileMid t) = true) (hc : s.chan ch.toNat = v :: r)
    (hturn : s.turn? ch.toNat = none) :
    (s.runS t (.take ch x)).chan ch.toNat = r ∧ ((s.runS t (.take ch x)).tile t).acts = ((s.schedX t 1 x v).tile t).acts
      ∧ ∀ a, (s.runS t (.take ch x)).byte a = s.byte a := by
  have hn : s.hasNotice ch.toNat = true := by
    rw [State.hasNotice, State.posted, hturn, hc]
    rfl
  have hguard : s.guardHolds t (.take ch x) = true := by rw [State.guardHolds, hn, Bool.or_true]
  have hcheck : s.checkS t (.take ch x) = none := by
    rw [State.checkS, hallow]
    exact busyCheck_free hfree _ _
  obtain ⟨htile, _, _, hbyte, _⟩ := noteIssue_spec s t
  obtain ⟨hheld, hacts, hord⟩ := hold_spec (s.noteIssue t) t resSync 1
  have hboard := (hheld.callboard ch.toNat).trans (noteIssue_callboard s t ch.toNat)
  have htake := takeNotice_oldest ((congrArg (·.2.1) hboard).trans hturn) ((congrArg Prod.fst hboard).trans hc)
  have hrun : s.runS t (.take ch x) = (((s.noteIssue t).hold t resSync 1).setChan ch.toNat r).schedX t 1 x v := by
    rw [runS_performed hcan hguard hcheck, State.performS, htake]
  have hactive := (noteIssue_rest s t).2.2.2.2
  rw [hrun]
  generalize (s.noteIssue t).hold t resSync 1 = w at hheld hacts hord
  have hsched := (schedX_spec (w.setChan ch.toNat r) t 1 x v).1
  refine ⟨(congrArg Prod.fst (hsched.callboard ch.toNat)).trans (chan_setChan_same w _ r), acts_schedX_congr ?_ ?_ ?_ 1 x v, fun a => ?_⟩
  · exact (active_setFld _ _ _).trans (hheld.active.trans hactive)
  · exact (congrArg TileX.acts (tile_setFld _ _ _ t)).trans (hacts.trans (by rw [htile]))
  · exact (congrArg TileX.ordNext (tile_setFld _ _ _ t)).trans (hord.trans (by rw [htile]))
  · exact (hsched.byte a).trans ((byte_setFld _ _ _ a).trans ((hheld.byte a).trans (hbyte a)))

/-- The one post of a cycle to a channel with room is queued. -/
theorem settleLocal_single {s : State} {n : Nat} (hlen : (s.chan n).length < 16) {x : ChanTurn} (p : Poster × Word) (hch : x.ch = n)
    (hbase : x.base = s.chan n) (hposts : x.posts = [p]) (hlost : x.lost = 0) :
    (s.settleLocal x).chan n = s.chan n ++ [deliveredNotice p.2] := by
  obtain ⟨k, hk⟩ : ∃ k, 16 - (s.chan n).length = k + 1 := ⟨15 - (s.chan n).length, by omega⟩
  unfold State.settleLocal
  rw [hposts, hbase, hk, hch]
  extract_lets order room u
  have hu : u.chan n = s.chan n ++ [deliveredNotice p.2] := by
    refine (chan_setChan_same s n _).trans ?_
    rw [show order = [p] from rfl, show room = k + 1 from rfl, List.take_succ_cons, List.take_nil, List.map_cons, List.map_nil]
  obtain ⟨q, hq⟩ := turnPtr_eq (u.setLost x ([p].length - room)) n order
  have hset : u.setLost x ([p].length - room) = u.setTurn { x with lost := 0 } := by
    rw [show [p].length - room = 0 by simp [room], State.setLost, hlost]
    rfl
  rw [hq, hset]
  exact hu

/-- The rules of posting and taking read no register of a tile's sequencing. -/
theorem postAllowed_congr {s u : State} {t : Tile} (h : ∀ a, a ≠ R.TA_SEQ t → u.reg a = s.reg a) {n : Nat} (p : Poster)
    (hp : posterSeat p = none) :
    u.chanKind n = s.chanKind n ∧ u.postAllowed n p = s.postAllowed n p := by
  have hr : u.reg (0x12001000000 + 0x8 * n) = s.reg (0x12001000000 + 0x8 * n) := h _ (by simp only [R.TA_SEQ]; omega)
  have hk : u.chanKind n = s.chanKind n := by
    unfold State.chanKind State.bit State.fld
    simp only [R.CB_BIND_REMOTE_OUT, R.CB_BIND_REMOTE_IN, R.CB_BIND_VALID, hr]
    rfl
  refine ⟨hk, ?_⟩
  unfold State.postAllowed State.fld
  simp only [hk, R.CB_BIND_SENDER_MID, hr, hp]

/-- NOTICE to a channel of this seat that has room queues the register's value. -/
theorem runS_notice {s : State} {t : Tile} {ch : BitVec 8} {x : XReg} (hcan : s.canIssue t = true) (hfree : Free s t resSync)
    (hpost : s.tilePosts t ch.toNat = true) (hkind : s.chanKind ch.toNat = .localCh) (hturn : s.turn? ch.toNat = none)
    (hlen : (s.chan ch.toNat).length < 16) :
    (s.runS t (.notice ch x)).chan ch.toNat = s.chan ch.toNat ++ [deliveredNotice (s.x t x)]
      ∧ ∀ a, (s.runS t (.notice ch x)).byte a = s.byte a := by
  have hcheck : s.checkS t (.notice ch x) = none := by
    rw [State.checkS, hpost]
    exact busyCheck_free hfree _ _
  obtain ⟨_, _, hreg, hbyte, _⟩ := noteIssue_spec s t
  obtain ⟨hheld, _, _⟩ := hold_spec (s.noteIssue t) t resSync 1
  have hboard := (hheld.callboard ch.toNat).trans (noteIssue_callboard s t ch.toNat)
  have hx : (s.noteIssue t).x t x = s.x t x := by
    unfold State.x
    split
    · rfl
    · exact hreg _ (PXN_ne_SEQ t _ (by omega))
  have hregs : ∀ a, a ≠ R.TA_SEQ t → ((s.noteIssue t).hold t resSync 1).reg a = s.reg a := fun a h => (hheld.reg a).trans (hreg a h)
  have hbytes : ∀ a, ((s.noteIssue t).hold t resSync 1).byte a = s.byte a := fun a => (hheld.byte a).trans (hbyte a)
  obtain ⟨hkind', hallow⟩ := postAllowed_congr hregs (n := ch.toNat) (.tile t) rfl
  rw [runS_performed hcan rfl hcheck, State.performS, hx]
  generalize (s.noteIssue t).hold t resSync 1 = w at hboard hbytes hkind' hallow
  have hchan : w.chan ch.toNat = s.chan ch.toNat := congrArg Prod.fst hboard
  have hnone : w.turn? ch.toNat = none := (congrArg (·.2.1) hboard).trans hturn
  have hp : w.posts ch.toNat [(.tile t, s.x t x)] = w.settleLocal { w.turn ch.toNat with posts := [(.tile t, s.x t x)] } := by
    change w.post ch.toNat (.tile t) (s.x t x) = _
    unfold State.post State.postThrough
    rw [hallow, show s.postAllowed ch.toNat (.tile t) = true from hpost, hkind', hkind, State.turn, hnone]
    rfl
  rw [hp, State.turn, hnone, Option.getD_none]
  have hq := settleLocal_single (hchan.symm ▸ hlen : (w.chan ch.toNat).length < 16) (.tile t, s.x t x)
    (x := ⟨ch.toNat, smapGet 0 w.cbPtr ch.toNat, w.chan ch.toNat, [(.tile t, s.x t x)], 0, []⟩) rfl rfl rfl rfl
  refine ⟨hq.trans (by rw [hchan]), fun a => ?_⟩
  exact ((only_settleLocal w _).bytes a).trans (hbytes a)

/-- A swap noted for the end of the cycle changes no tile and no register. -/
theorem tileFrame_noteSwap (s : State) (t : Nat) (how : SwapHow) : TileFrame t s (s.noteSwap t how) :=
  ⟨fun _ _ => rfl, fun _ => rfl, fun _ => rfl, fun _ _ => rfl, rfl, rfl, rfl, rfl⟩

/-- SWAP_BANK to a committed standby bank: the swap is due one cycle on, the next issue two. -/
theorem runS_swapBank {s : State} {t : Tile} (hcan : s.canIssue t = true) (hbar : s.swapBar t (1 - s.fld (R.TA_SEQ_BANK t)) = none) :
    Issues t (fun v => v.sched t 1 .bankSwap) s (s.runS t .swapBank) ∧ ((s.runS t .swapBank).tile t).issueAt = s.active + 2 := by
  have hcheck : s.checkS t .swapBank = none := by
    rw [State.checkS, hbar]
    rfl
  obtain ⟨htile, _⟩ := noteIssue_spec s t
  have hframe := tileFrame_noteIssue s t
  have hactive := (noteIssue_rest s t).2.2.2.2
  rw [runS_performed hcan rfl hcheck, State.performS]
  generalize s.noteIssue t = w at htile hframe hactive
  obtain ⟨hfl, hsched⟩ := sched_spec w t 1 .bankSwap
  have hset := inFlight_trans hfl (inFlight_setTile t _ { (w.sched t 1 .bankSwap).tile t with issueAt := w.active + 2 })
  have htile' : (((w.sched t 1 .bankSwap).setIssueAt t (w.active + 2)).noteSwap t (.slot none true)).tile t
      = { (w.sched t 1 .bankSwap).tile t with issueAt := w.active + 2 } := tile_setTile_same _ _ _
  refine ⟨⟨?_, (hframe.trans (tileFrame_of_inFlight hset)).trans (tileFrame_noteSwap _ t _)⟩, ?_⟩
  · rw [htile', hsched, htile, hactive, (sched_spec s t 1 .bankSwap).2]
  · rw [htile', hactive]

/-- END ends the issue of the tile, or of its handler. -/
theorem runS_endOp {s : State} {t : Tile} (hcan : s.canIssue t = true) :
    Nothing t s (s.runS t .endOp)
      ∧ (if s.inHandler t then ((s.runS t .endOp).tile t).endH else ((s.runS t .endOp).tile t).endIssued) = true
      ∧ (s.runS t .endOp).canIssue t = false := by
  obtain ⟨htile, _, hreg, _⟩ := noteIssue_spec s t
  have hframe := tileFrame_noteIssue s t
  have hin : (s.noteIssue t).inHandler t = s.inHandler t := by
    unfold State.inHandler State.bit State.fld
    rw [hreg _ (by simp only [R.TA_PTRAP0_ACTIVE, R.TA_SEQ]; omega)]
  rw [runS_performed hcan rfl rfl, State.performS, hin]
  generalize s.noteIssue t = w at htile hframe hin
  generalize hx : (if s.inHandler t = true then { w.tile t with endH := true } else { w.tile t with endIssued := true } : TileX) = x
  have hsame : (w.setTile t x).tile t = x := tile_setTile_same w t x
  have hin' : (w.setTile t x).inHandler t = s.inHandler t := hin
  have hacts : x.acts = (s.tile t).acts := by
    rw [← hx, apply_ite TileX.acts, ite_self, htile]
  have hend : (if s.inHandler t then x.endH else x.endIssued) = true := by
    rw [← hx]
    cases s.inHandler t <;> rfl
  refine ⟨⟨(congrArg TileX.acts hsame).trans hacts, hframe.trans (tileFrame_of_inFlight (inFlight_setTile t w x))⟩,
    hsame.symm ▸ hend, ?_⟩
  unfold State.canIssue
  rw [hin', hsame]
  cases hh : s.inHandler t <;> rw [hh] at hend <;> simp_all

/-- TILE_ENDED writes the tile's sequencing state and nothing else. -/
theorem execTileEnded_ended {s : State} {t : Tile} (hend : s.hasEnded t = true) (hst : s.fld (R.TA_SEQ_STATE t) ≤ seqHeld) :
    execTileEnded t s = .next (s.setFld (R.TA_SEQ_STATE t) seqEnded) := by
  unfold execTileEnded
  rw [hend, decide_eq_true hst]
  rfl

theorem tileFrame_setFld (s : State) (t v : Nat) {f : Fld} (hf : f.addr = R.TA_SEQ t) : TileFrame t s (s.setFld f v) :=
  ⟨fun _ h => reg_setFld_ne s (hf ▸ h), byte_setFld s f v, poisoned_setFld s f v, fun k _ => tile_setFld s f v k, rfl, rfl, rfl, rfl⟩

end Sys2Proof.Machine
end

section
namespace Sys2Proof.Claim
open Sys2Proof.Machine

/-- Settles O17: each command is performed as its guard and its check let it, and what it performs is read off part by part. -/
theorem fencesTakesSwapsAndEnds : Obligations.FencesTakesSwapsAndEnds := by
  intro s t
  refine ⟨fun n hin hf hdone => ?_, fun hcan => ⟨fun ch x v r hfree hallow hc hturn => ?_, fun ch x hfree hpost hkind hturn hlen => ?_,
    fun hbar => ?_, ?_⟩, fun hend hst => ?_⟩
  · exact ⟨_, (exec_fenceComplete t s).trans (execFenceComplete_lifted hin hf hdone), by rw [tile_freed, tile_setTile_same],
      freed_not_held _ t, fun a => byte_freed _ _ a⟩
  · exact ⟨_, exec_take t ch x s, runS_take hcan hfree hallow hc hturn⟩
  · exact ⟨_, exec_notice t ch x s, runS_notice hcan hfree hpost hkind hturn hlen⟩
  · exact ⟨_, exec_swapBank t s, runS_swapBank hcan hbar⟩
  · exact ⟨_, exec_endOp t s, runS_endOp hcan⟩
  · exact ⟨_, (exec_tileEnded t s).trans (execTileEnded_ended hend hst), fld_setSeqState s t (by decide), tile_setFld s _ _ _,
      tileFrame_setFld s t _ rfl⟩

end Sys2Proof.Claim
end

section
/-!
PROOFS. One flit in the mesh (O23): what a router, an attachment's far end and the hub port do with it where they hold nothing else.
-/
namespace Sys2Proof.Machine
open Sys2Proof.Claim

/-! ### The buffers -/

theorem rigKey_inj {t t' : Nat} {p p' : RigPort} {c c' : Fin 4} (h : rigKey t p c = rigKey t' p' c') : t = t' ∧ p = p' ∧ c = c' := by
  unfold rigKey at h
  have hp : rigNum p < 5 := by cases p <;> decide
  have hp' : rigNum p' < 5 := by cases p' <;> decide
  have hc := c.isLt
  have hc' := c'.isLt
  refine ⟨by omega, ?_, Fin.ext (by omega)⟩
  have hn : rigNum p = rigNum p' := by omega
  cases p <;> cases p' <;> first | rfl | exact absurd hn (by decide)

/-- An attachment's end and a class have their own place. -/
theorem endKey_inj {e e' : Nat} {c c' : Fin 4} (h : e * 4 + c.val = e' * 4 + c'.val) : e = e' ∧ c = c' :=
  ⟨by omega, Fin.ext (by omega)⟩

theorem rigBuf_setRigBuf (s : State) (t t' : Nat) (p p' : RigPort) (c c' : Fin 4) (l : List RigFlit) :
    (s.setRigBuf t p c l).rigBuf t' p' c' = if t' = t ∧ p' = p ∧ c' = c then l else s.rigBuf t' p' c' := by
  split
  · next h =>
    obtain ⟨rfl, rfl, rfl⟩ := h
    exact smapGet_set_same [] _ _ l
  · next h => exact smapGet_set_ne [] [] _ l (fun e => h (rigKey_inj e))

theorem rigEndBuf_setRigEnd (s : State) (e e' : Nat) (c c' : Fin 4) (l : List RigFlit) :
    (s.setRigEnd e c l).rigEndBuf e' c' = if e' = e ∧ c' = c then l else s.rigEndBuf e' c' := by
  split
  · next h =>
    obtain ⟨rfl, rfl⟩ := h
    exact smapGet_set_same [] _ _ l
  · next h => exact smapGet_set_ne [] [] _ l (fun k => h (endKey_inj k))

/-- A router that holds one flit, at one input. -/
def State.RouterOnly (s : State) (t : Nat) (p : RigPort) (f : RigFlit) : Prop :=
  ∀ q (c : Fin 4), s.rigBuf t q c = if q = p ∧ c = f.cls then [f] else []

def State.RouterEmpty (s : State) (t : Nat) : Prop := ∀ q (c : Fin 4), s.rigBuf t q c = []

/-- The attachments hold one flit, at one far end. -/
def State.EndsOnly (s : State) (e : Nat) (f : RigFlit) : Prop := ∀ q (c : Fin 4), s.rigEndBuf q c = if q = e ∧ c = f.cls then [f] else []

def State.EndsEmpty (s : State) : Prop := ∀ e (c : Fin 4), s.rigEndBuf e c = []

variable {s : State} {t e : Nat} {p o : RigPort} {f : RigFlit}

theorem State.RouterEmpty.set (h : s.RouterEmpty t) (p : RigPort) (f : RigFlit) : (s.setRigBuf t p f.cls [f]).RouterOnly t p f := by
  intro q c
  rw [rigBuf_setRigBuf, h q c]
  simp only [true_and]

theorem State.RouterOnly.clear (h : s.RouterOnly t p f) : (s.setRigBuf t p f.cls []).RouterEmpty t := by
  intro q c
  rw [rigBuf_setRigBuf, h q c]
  by_cases hq : q = p ∧ c = f.cls
  · rw [if_pos ⟨rfl, hq⟩]
  · rw [if_neg (fun h => hq h.2), if_neg hq]

theorem State.EndsEmpty.set (h : s.EndsEmpty) (e : Nat) (f : RigFlit) : (s.setRigEnd e f.cls [f]).EndsOnly e f := by
  intro q c
  rw [rigEndBuf_setRigEnd, h q c]

theorem State.EndsOnly.clear (h : s.EndsOnly e f) : (s.setRigEnd e f.cls []).EndsEmpty := by
  intro q c
  rw [rigEndBuf_setRigEnd, h q c]
  split
  · rfl
  · rfl

/-- A flit that comes into an empty router. -/
theorem rigPut_empty (h : s.RouterEmpty t) (hs : 0 < rigSpace f.cls) : s.rigPut t p f = s.setRigBuf t p f.cls [f] := by
  unfold State.rigPut
  rw [h p f.cls]
  exact if_pos hs

/-! ### The grant of an output -/

/-- The one place of a list at which a function answers is the one that is found. -/
theorem findSome?_of_only {α β : Type} {g : α → Option β} {a : α} {b : β} (hb : g a = some b) :
    ∀ {l : List α}, a ∈ l → (∀ x ∈ l, x ≠ a → g x = none) → l.findSome? g = some b := by
  intro l
  induction l with
  | nil => intro ha; cases ha
  | cons x xs ih =>
    intro ha h
    by_cases hx : x = a
    · rw [List.findSome?_cons, hx, hb]
    · rw [List.findSome?_cons, h x List.mem_cons_self hx]
      exact ih ((List.mem_cons.mp ha).resolve_left (Ne.symm hx)) (fun y hy => h y (List.mem_cons_of_mem x hy))

theorem rigOffer_nil {q : RigPort} (h : ∀ c : Fin 4, s.rigBuf t q c = []) : s.rigOffer t o q = none := by
  unfold State.rigOffer
  refine List.findSome?_eq_none_iff.mpr fun c hc => ?_
  rw [h ⟨c, List.mem_range.mp hc⟩]
  rfl

/-- An input offers no flit that goes elsewhere. -/
theorem rigOffer_elsewhere (h : s.RouterOnly t p f) (ho : rigRoute t f.dst ≠ o) (q : RigPort) : s.rigOffer t o q = none := by
  unfold State.rigOffer
  refine List.findSome?_eq_none_iff.mpr fun c hc => ?_
  rw [h q ⟨c, List.mem_range.mp hc⟩]
  split
  · next g hg =>
    split at hg
    · cases hg
      exact if_neg (fun hr => ho hr.1)
    · cases hg
  · rfl

theorem rigOffer_only (h : s.RouterOnly t p f) (ho : rigRoute t f.dst = o) (hfree : s.rigFree t o f = true) :
    s.rigOffer t o p = some f := by
  unfold State.rigOffer
  refine findSome?_of_only (a := f.cls.val) ?_ (List.mem_range.mpr f.cls.isLt) fun c hc hne => ?_
  · rw [h p f.cls, if_pos ⟨rfl, rfl⟩]
    exact if_pos ⟨ho, hfree⟩
  · rw [h p ⟨c, List.mem_range.mp hc⟩, if_neg (fun hq => hne (congrArg Fin.val hq.2))]
    rfl

theorem mem_portOrder (n : Nat) (p : RigPort) : p ∈ rigPorts.drop n ++ rigPorts.take n := by
  have hp : p ∈ rigPorts.take n ++ rigPorts.drop n := by
    rw [List.take_append_drop]
    cases p <;> decide
  exact List.mem_append.mpr (List.mem_append.mp hp).symm

theorem rigGrant_idle (h : ∀ q, s.rigOffer t o q = none) : s.rigGrant t o = s := by
  unfold State.rigGrant
  extract_lets k ptr order
  have hf : order.findSome? (fun p => (s.rigOffer t o p).map (fun f => (p, f))) = none :=
    List.findSome?_eq_none_iff.mpr fun q _ => by rw [h q]; rfl
  rw [hf]

/-- A flit taken from its input by a grant of an output. -/
def State.rigTaken (s : State) (t : Nat) (p o : RigPort) (f : RigFlit) : State :=
  let s := s.setRigBuf t p f.cls []
  { s with rig := { s.rig with ptrs := smapSet 0 s.rig.ptrs (t * 5 + rigNum o) ((rigNum p + 1) % 5) } }

/-- The one flit of a router leaves by the output it is routed to, once there is room. -/
theorem rigGrant_only (h : s.RouterOnly t p f) (ho : rigRoute t f.dst = o) (hfree : s.rigFree t o f = true) :
    s.rigGrant t o = match rigNext t o with
      | some n => (s.rigTaken t p o f).rigPut n.1 n.2 f
      | none => if o = .tile then (s.rigTaken t p o f).rigHand t f
        else (s.rigTaken t p o f).setRigEnd (rigEnd t o) f.cls (s.rigEndBuf (rigEnd t o) f.cls ++ [f]) := by
  unfold State.rigGrant
  extract_lets k ptr order
  have hf : order.findSome? (fun p => (s.rigOffer t o p).map (fun f => (p, f))) = some (p, f) := by
    refine findSome?_of_only (a := p) ?_ (mem_portOrder ptr p) fun q _ hq => ?_
    · rw [rigOffer_only h ho hfree]
      rfl
    · rw [rigOffer_nil (fun c => (h q c).trans (if_neg (fun hq' => hq hq'.1)))]
      rfl
  have htail : s.setRigBuf t p f.cls (s.rigBuf t p f.cls).tail = s.setRigBuf t p f.cls [] := by
    rw [h p f.cls, if_pos ⟨rfl, rfl⟩]
    rfl
  rw [hf]
  dsimp only
  rw [htail]
  rfl

/-! ### The far ends and the hub port -/

/-- The endpoint at a far end takes the flits of some classes. -/
def State.rigTakes (s : State) (t e : Nat) (l : List Nat) : State := l.foldl (fun u c => u.rigTake t e c) s

theorem rigTakes_nothing {l : List Nat} (h : ∀ c ∈ l, (s.rigEndBuf e c).find? (fun f => !rigToHub f || e == hubEnd) = none) :
    s.rigTakes t e l = s := by
  unfold State.rigTakes
  induction l with
  | nil => rfl
  | cons c l ih =>
    have hc : s.rigTake t e c = s := by
      unfold State.rigTake
      rw [h c List.mem_cons_self]
    rw [List.foldl_cons, hc]
    exact ih fun d hd => h d (List.mem_cons_of_mem c hd)

theorem rigTakes_nil {l : List Nat} (hl : ∀ c ∈ l, c < 4) (h : ∀ c : Fin 4, s.rigEndBuf e c = []) : s.rigTakes t e l = s :=
  rigTakes_nothing fun c hc => by rw [h ⟨c, hl c hc⟩]; rfl

/-- The one flit at a far end, not bound for elsewhere, is taken with its class. -/
theorem rigTakes_only (h : s.EndsOnly e f) (hf : (!rigToHub f || e == hubEnd) = true) :
    ∀ {l : List Nat}, (∀ c ∈ l, c < 4) →
      s.rigTakes t e l = if f.cls.val ∈ l then (s.setRigEnd e f.cls []).rigHand t f else s := by
  intro l
  induction l with
  | nil => intro _; rfl
  | cons c l ih =>
    intro hl
    have hl' := fun d hd => hl d (List.mem_cons_of_mem c hd)
    change (s.rigTake t e c).rigTakes t e l = _
    have hbuf := h e ⟨c, hl c List.mem_cons_self⟩
    by_cases hc : c = f.cls.val
    · have htake : s.rigTake t e c = (s.setRigEnd e f.cls []).rigHand t f := by
        subst hc
        unfold State.rigTake
        rw [h e f.cls, if_pos ⟨rfl, rfl⟩, List.find?_cons_of_pos (by exact hf)]
        simp only [List.erase_cons_head]
      rw [htake, if_pos (List.mem_cons.mpr (.inl hc.symm))]
      exact rigTakes_nil hl' fun d => h.clear e d
    · have htake : s.rigTake t e c = s := by
        unfold State.rigTake
        rw [hbuf, if_neg (fun hq => hc (congrArg Fin.val hq.2))]
        rfl
      rw [htake, ih hl']
      simp only [List.mem_cons, Ne.symm hc, false_or]

/-- The classes whose flits the far ends take. -/
def takenClasses (take : Bool) : List Nat := if take then List.range 4 else [0]

theorem takenClasses_lt (take : Bool) : ∀ c ∈ takenClasses take, c < 4 := by cases take <;> decide

theorem mem_takenClasses (c : Fin 4) (take : Bool) : c.val ∈ takenClasses take ↔ c.val = 0 ∨ take = true := by
  cases take
  · simp [takenClasses]
  · simp [takenClasses, c.isLt]

theorem rigEnds_eq (s : State) (t : Nat) (o : RigPort) (take : Bool) :
    s.rigEnds t o take = ((if o != .tile && (rigNext t o).isNone then s.rigTakes t (rigEnd t o) (takenClasses take) else
      s).hubGrant).rigTakes
      2048 hubEnd (takenClasses take) := rfl

/-- The offer of a row's end to the hub port. -/
def State.rowOffer (s : State) (row : Nat) : Option (Nat × Nat × RigFlit) :=
  (List.range 4).findSome? (fun c =>
    if (s.rigEndBuf hubEnd c).length < rigSpace c then ((s.rigEndBuf (128 + row) c).find? rigToHub).map (fun f => (row, c, f)) else none)

theorem rowOffer_none {row : Nat} (h : ∀ c : Fin 4, (s.rigEndBuf (128 + row) c).find? rigToHub = none) : s.rowOffer row = none := by
  refine List.findSome?_eq_none_iff.mpr fun c hc => ?_
  rw [h ⟨c, List.mem_range.mp hc⟩]
  exact ite_self none

theorem hubRows_lt (n : Nat) {row : Nat} (h : row ∈ (List.range 32).map (fun i => (n + i) % 32)) : row < 32 := by
  obtain ⟨i, _, rfl⟩ := List.mem_map.mp h
  exact Nat.mod_lt _ (by decide)

theorem hubGrant_idle (h : ∀ row, row < 32 → ∀ c : Fin 4, (s.rigEndBuf (128 + row) c).find? rigToHub = none) : s.hubGrant = s := by
  have hf : ((List.range 32).map (fun i => (s.rig.hubPtr + i) % 32)).findSome? s.rowOffer = none :=
    List.findSome?_eq_none_iff.mpr fun row hrow => rowOffer_none (h row (hubRows_lt _ hrow))
  unfold State.hubGrant
  extract_lets rows offer
  rw [show rows.findSome? offer = none from hf]

/-- Every row has its turn at the hub port. -/
theorem mem_hubRows (n : Nat) {row : Nat} (h : row < 32) : row ∈ (List.range 32).map (fun i => (n + i) % 32) :=
  List.mem_map.mpr ⟨(row + 32 - n % 32) % 32, List.mem_range.mpr (by omega), by omega⟩

/-- The one flit at a row's end, bound for the hub, goes on to the hub's end. -/
theorem hubGrant_only {row : Nat} (h : s.EndsOnly (128 + row) f) (hrow : row < 32) (hf : rigToHub f = true) (hs : 0 < rigSpace f.cls) :
    ∃ n, s.hubGrant = { (s.setRigEnd (128 + row) f.cls []).setRigEnd hubEnd f.cls [f] with
      rig := { ((s.setRigEnd (128 + row) f.cls []).setRigEnd hubEnd f.cls [f]).rig with hubPtr := n } } := by
  have hhub : s.rigEndBuf hubEnd f.cls = [] := (h hubEnd f.cls).trans (if_neg (by simp only [hubEnd]; omega))
  have hmine : s.rigEndBuf (128 + row) f.cls = [f] := (h (128 + row) f.cls).trans (if_pos ⟨rfl, rfl⟩)
  have hoffer : s.rowOffer row = some (row, f.cls.val, f) := by
    refine findSome?_of_only (a := f.cls.val) ?_ (List.mem_range.mpr f.cls.isLt) fun c hc hne => ?_
    · rw [hhub, hmine, List.find?_cons_of_pos hf]
      exact if_pos hs
    · have hnil : s.rigEndBuf (128 + row) c = [] :=
        (h (128 + row) ⟨c, List.mem_range.mp hc⟩).trans (if_neg (fun hq => hne (congrArg Fin.val hq.2)))
      rw [hnil]
      exact ite_self none
  have hfind : ((List.range 32).map (fun i => (s.rig.hubPtr + i) % 32)).findSome? s.rowOffer = some (row, f.cls.val, f) := by
    refine findSome?_of_only hoffer (mem_hubRows _ hrow) fun r _ hr => rowOffer_none fun c => ?_
    rw [h (128 + r) c, if_neg (fun hq => hr (by omega))]
    rfl
  have hstay : (s.setRigEnd (128 + row) f.cls []).rigEndBuf hubEnd f.cls = [] := h.clear hubEnd f.cls
  unfold State.hubGrant
  extract_lets rows offer
  rw [show rows.findSome? offer = some (row, f.cls.val, f) from hfind]
  dsimp only
  rw [hmine, List.erase_cons_head, hstay]
  exact ⟨_, rfl⟩

theorem hubFeeds_idle (h : ∀ c : Fin 4, s.rigEndBuf hubPort c = []) : s.hubFeeds t = s := by
  have hf : (List.range 4).findSome? (fun c => (s.rigEndBuf hubPort c).head?.filter
    (fun _ => decide ((s.rigBuf t .west c).length < rigSpace c)))
      = none := List.findSome?_eq_none_iff.mpr fun c hc => by rw [h ⟨c, List.mem_range.mp hc⟩]; rfl
  unfold State.hubFeeds
  rw [hf]
  exact ite_self s

/-- A router at the west edge that holds nothing takes the one flit of the hub port. -/
theorem hubFeeds_only (h : s.EndsOnly hubPort f) (hcol : pkgCol t = 0) (hempty : s.RouterEmpty t) (hs : 0 < rigSpace f.cls) :
    s.hubFeeds t = (s.setRigEnd hubPort f.cls []).rigPut t .west f := by
  have hmine : s.rigEndBuf hubPort f.cls = [f] := (h hubPort f.cls).trans (if_pos ⟨rfl, rfl⟩)
  have hf : (List.range 4).findSome? (fun c => (s.rigEndBuf hubPort c).head?.filter
    (fun _ => decide ((s.rigBuf t .west c).length < rigSpace c)))
      = some f := by
    refine findSome?_of_only (a := f.cls.val) ?_ (List.mem_range.mpr f.cls.isLt) fun c hc hne => ?_
    · rw [hmine, hempty .west f.cls]
      simp only [List.length_nil, hs, decide_true]
      rfl
    · rw [h hubPort ⟨c, List.mem_range.mp hc⟩, if_neg (fun hq => hne (congrArg Fin.val hq.2))]
      rfl
  unfold State.hubFeeds
  rw [if_neg (not_not_intro hcol), hf]
  dsimp only
  rw [hmine]
  rfl

/-! ### One turn of a router -/

theorem rigEnd_lt (t : Tile) (o : RigPort) : rigEnd t o < 192 := by
  have ht := t.isLt
  cases o <;> simp only [rigEnd, pkgCol, pkgRow] <;> omega

theorem pkgRow_lt (t : Tile) : pkgRow t < 32 := by
  have ht := t.isLt
  unfold pkgRow
  omega

/-- Where the attachments hold nothing, but for the hub port, nothing is taken. -/
theorem rigEnds_idle {t : Tile} {take : Bool} (h : ∀ e, e ≠ hubPort → ∀ c : Fin 4, s.rigEndBuf e c = []) : s.rigEnds t o take = s := by
  have hfar : s.rigTakes t (rigEnd t o) (takenClasses take) = s :=
    rigTakes_nil (takenClasses_lt take) (h _ (by have := rigEnd_lt t o; simp only [hubPort]; omega))
  have hgrant : s.hubGrant = s := hubGrant_idle fun row hrow c => by
    rw [h (128 + row) (by simp only [hubPort]; omega) c]
    rfl
  rw [rigEnds_eq, hfar, ite_self, hgrant]
  exact rigTakes_nil (takenClasses_lt take) (h _ (by decide))

/-- The one flit at the far end of an edge output, not for the hub, is taken with its class. -/
theorem rigEnds_far {t : Tile} {take : Bool} (h : s.EndsOnly (rigEnd t o) f) (hnext : rigNext t o = none) (ho : o ≠ .tile)
    (hf : f.dst ≠ .hub) : s.rigEnds t o take
      = if f.cls.val ∈ takenClasses take then (s.setRigEnd (rigEnd t o) f.cls []).rigHand t f else s := by
  have hhub : rigToHub f = false := beq_false_of_ne hf
  have htakes := rigTakes_only (t := t) h (by rw [hhub]; rfl) (takenClasses_lt take)
  have hgrant : ∀ u : State, u.EndsEmpty ∨ u.EndsOnly (rigEnd t o) f →
      u.hubGrant = u ∧ u.rigTakes 2048 hubEnd (takenClasses take) = u := by
    intro u hu
    refine ⟨hubGrant_idle fun row _ c => ?_, rigTakes_nil (takenClasses_lt take) fun c => ?_⟩
    · rcases hu with hu | hu
      · rw [hu (128 + row) c]
        rfl
      · rw [hu (128 + row) c]
        split
        · exact List.find?_cons_of_neg (by rw [hhub]; decide)
        · rfl
    · rcases hu with hu | hu
      · exact hu hubEnd c
      · exact (hu hubEnd c).trans (if_neg fun hq => by have := rigEnd_lt t o; simp only [hubEnd] at hq; omega)
  have hguard : (o != .tile && (rigNext t o).isNone) = true := by rw [hnext, bne_iff_ne.mpr ho]; rfl
  rw [rigEnds_eq, if_pos hguard, htakes]
  split
  · obtain ⟨h1, h2⟩ := hgrant ((s.setRigEnd (rigEnd t o) f.cls []).rigHand t f) (.inl h.clear)
    rw [h1, h2]
  · obtain ⟨h1, h2⟩ := hgrant s (.inr h)
    rw [h1, h2]

/-- The one flit at a row's west end, for the hub, goes by the hub port to the hub's end, and is taken there with its class. -/
theorem rigEnds_hub {t : Tile} {take : Bool} (h : s.EndsOnly (128 + pkgRow t) f) (ho : rigEnd t o = 128 + pkgRow t) (hf : f.dst = .hub)
    (hs : 0 < rigSpace f.cls) : ∃ u : State, s.rigEnds t o take = (if f.cls.val ∈ takenClasses take then
      (u.setRigEnd hubEnd f.cls []).rigHand 2048 f else u)
      ∧ u.EndsOnly hubEnd f ∧ u.rig.handed = s.rig.handed ∧ u.rig.bufs = s.rig.bufs := by
  have hhub : rigToHub f = true := by
    unfold rigToHub
    rw [hf]
    rfl
  have hfar : s.rigTakes t (rigEnd t o) (takenClasses take) = s := rigTakes_nothing fun c hc => by
    rw [ho, h (128 + pkgRow t) ⟨c, takenClasses_lt take c hc⟩]
    split
    · refine List.find?_cons_of_neg ?_
      have hrow := pkgRow_lt t
      rw [hhub, beq_false_of_ne (by simp only [hubEnd]; omega)]
      decide
    · rfl
  obtain ⟨n, hn⟩ := hubGrant_only h (pkgRow_lt t) hhub hs
  refine ⟨s.hubGrant, ?_, ?_, by rw [hn]; rfl, by rw [hn]; rfl⟩
  · rw [rigEnds_eq, hfar, ite_self]
    refine rigTakes_only ?_ (by rw [BEq.rfl, Bool.or_true]) (takenClasses_lt take)
    rw [hn]
    exact h.clear.set hubEnd f
  · rw [hn]
    exact h.clear.set hubEnd f

/-- A flit that the tile sends into its empty router stands at the output's choice. -/
theorem execRiggingFlit_tile {t : Tile} {take : Bool} (hempty : s.RouterEmpty t) (hends : s.EndsEmpty) (hs : 0 < rigSpace f.cls) :
    execRiggingFlit t [(.tile, f)] ⟨o, take, []⟩ s = .next (((s.setRigBuf t .tile f.cls [f]).rigGrant t o).rigEnds t o take) := by
  have hput : s.rigPut t .tile f = s.setRigBuf t .tile f.cls [f] := rigPut_empty hempty hs
  have hfeed : (s.setRigBuf t .tile f.cls [f]).hubFeeds t = s.setRigBuf t .tile f.cls [f] := hubFeeds_idle (hends hubPort)
  unfold execRiggingFlit
  change (.next ((((s.rigPut t .tile f).hubFeeds t).rigGrant t o).rigEnds t o take) : Out) = _
  rw [hput, hfeed]

/-- A flit that the hub sends waits at the hub port, from where a router may take it. -/
theorem execRiggingFlit_hub {t : Tile} {take : Bool} (hends : s.EndsEmpty) (hs : 0 < rigSpace f.cls) :
    execRiggingFlit t [] ⟨o, take, [f]⟩ s = .next ((((s.setRigEnd hubPort f.cls [f]).hubFeeds t).rigGrant t o).rigEnds t o take) := by
  have hsend : s.hubSends f = s.setRigEnd hubPort f.cls [f] := by
    unfold State.hubSends
    rw [hends hubPort f.cls]
    exact if_pos hs
  change (.next ((((s.hubSends f).hubFeeds t).rigGrant t o).rigEnds t o take) : Out) = _
  rw [hsend]

theorem rigPut_room (h : (s.rigBuf t p f.cls).length < rigSpace f.cls) :
    s.rigPut t p f = s.setRigBuf t p f.cls (s.rigBuf t p f.cls ++ [f]) :=
  if_pos h

theorem rigNext_port {n : Nat × RigPort} (h : rigNext t o = some n) : n.2 ≠ .tile := by
  cases o <;> simp only [rigNext, Option.ite_none_left_eq_some, Option.some.injEq, reduceCtorEq] at h <;> rw [← h.2] <;> nofun

/-- A flit moves on to the next router's input. -/
theorem rigTurn_next {t : Tile} {take : Bool} (hempty : s.RouterEmpty t) (hends : s.EndsEmpty) (ho : rigRoute t f.dst = o)
    {n : Nat × RigPort} (hn : rigNext t o = some n) (hroom : (s.rigBuf n.1 n.2 f.cls).length < rigSpace f.cls) :
    let u := ((s.setRigBuf t .tile f.cls [f]).rigGrant t o).rigEnds t o take
    u.rigBuf n.1 n.2 f.cls = s.rigBuf n.1 n.2 f.cls ++ [f] ∧ u.rigBuf t .tile f.cls = [] ∧ u.rig.handed = s.rig.handed := by
  have hport := rigNext_port hn
  have hnot : ∀ l, (s.setRigBuf t .tile f.cls l).rigBuf n.1 n.2 f.cls = s.rigBuf n.1 n.2 f.cls := fun l =>
    (rigBuf_setRigBuf s t n.1 .tile n.2 f.cls f.cls l).trans (if_neg fun h => hport h.2.1)
  have honly := hempty.set .tile f
  have hfree : (s.setRigBuf t .tile f.cls [f]).rigFree t o f = true := by
    unfold State.rigFree
    rw [hn]
    exact decide_eq_true ((hnot [f]).symm ▸ hroom)
  have hgrant := rigGrant_only honly ho hfree
  rw [hn] at hgrant
  dsimp only at hgrant
  generalize hw : (s.setRigBuf t .tile f.cls [f]).rigTaken t .tile o f = w at hgrant
  have hwn : w.rigBuf n.1 n.2 f.cls = s.rigBuf n.1 n.2 f.cls := by
    rw [← hw]
    refine Eq.trans ?_ (hnot [f])
    exact (rigBuf_setRigBuf _ t n.1 .tile n.2 f.cls f.cls []).trans (if_neg fun h => hport h.2.1)
  have hwt : w.rigBuf t .tile f.cls = [] := by
    rw [← hw]
    exact honly.clear .tile f.cls
  have hwe : w.EndsEmpty := by
    rw [← hw]
    exact hends
  have hwh : w.rig.handed = s.rig.handed := by
    rw [← hw]
    rfl
  intro u
  have hu : u = w.setRigBuf n.1 n.2 f.cls (s.rigBuf n.1 n.2 f.cls ++ [f]) := by
    have hput := rigPut_room (s := w) (t := n.1) (p := n.2) (f := f) (hwn.symm ▸ hroom)
    rw [hwn] at hput
    change (State.rigGrant _ t o).rigEnds t o take = _
    rw [hgrant, hput]
    exact rigEnds_idle fun e _ => hwe e
  rw [hu, rigBuf_setRigBuf, rigBuf_setRigBuf, if_pos ⟨rfl, rfl, rfl⟩, if_neg fun h => hport h.2.1.symm]
  exact ⟨rfl, hwt, hwh⟩

/-- The flit of a router that its tile has sent, taken from its input. -/
theorem tileTaken_rig {t : Tile} (hempty : s.RouterEmpty t) (hends : s.EndsEmpty) :
    ((s.setRigBuf t .tile f.cls [f]).rigTaken t .tile o f).rigBuf t .tile f.cls = []
      ∧ ((s.setRigBuf t .tile f.cls [f]).rigTaken t .tile o f).EndsEmpty
      ∧ ((s.setRigBuf t .tile f.cls [f]).rigTaken t .tile o f).rig.handed = s.rig.handed :=
  ⟨(hempty.set .tile f).clear .tile f.cls, hends, rfl⟩

/-- A flit at its tile is handed to it. -/
theorem rigTurn_tile {t : Tile} {take : Bool} (hempty : s.RouterEmpty t) (hends : s.EndsEmpty) (ho : rigRoute t f.dst = .tile) :
    let u := ((s.setRigBuf t .tile f.cls [f]).rigGrant t .tile).rigEnds t .tile take
    u.rig.handed = s.rig.handed ++ [(t.val, f)] ∧ u.rigBuf t .tile f.cls = [] := by
  have hgrant : (s.setRigBuf t .tile f.cls [f]).rigGrant t .tile
      = ((s.setRigBuf t .tile f.cls [f]).rigTaken t .tile .tile f).rigHand t f := rigGrant_only (hempty.set .tile f) ho rfl
  obtain ⟨hbuf, hempty', hhanded⟩ := tileTaken_rig (o := .tile) (f := f) hempty hends
  intro u
  have hu : u = ((s.setRigBuf t .tile f.cls [f]).rigTaken t .tile .tile f).rigHand t f := by
    change (State.rigGrant _ t .tile).rigEnds t .tile take = _
    rw [hgrant]
    exact rigEnds_idle fun e _ => hempty' e
  rw [hu]
  exact ⟨congrArg (· ++ [(t.val, f)]) hhanded, hbuf⟩

/-- A flit that leaves the mesh comes to the far end of its attachment. -/
theorem rigGrant_off {t : Tile} (hempty : s.RouterEmpty t) (hends : s.EndsEmpty) (hs : 0 < rigSpace f.cls) (ho : rigRoute t f.dst = o)
    (hn : rigNext t o = none) (htile : o ≠ .tile) : (s.setRigBuf t .tile f.cls [f]).rigGrant t o
      = ((s.setRigBuf t .tile f.cls [f]).rigTaken t .tile o f).setRigEnd (rigEnd t o) f.cls [f] := by
  have hend : (s.setRigBuf t .tile f.cls [f]).rigEndBuf (rigEnd t o) f.cls = [] := hends _ f.cls
  have hfree : (s.setRigBuf t .tile f.cls [f]).rigFree t o f = true := by
    unfold State.rigFree
    rw [hn, hend]
    exact (congrArg _ (decide_eq_true hs)).trans (Bool.or_true _)
  rw [rigGrant_only (hempty.set .tile f) ho hfree, hn, hend]
  exact if_neg htile

theorem rigTurn_far {t : Tile} {take : Bool} (hempty : s.RouterEmpty t) (hends : s.EndsEmpty) (hs : 0 < rigSpace f.cls)
    (ho : rigRoute t f.dst = o) (hn : rigNext t o = none) (htile : o ≠ .tile) (hf : f.dst ≠ .hub) :
    let taken := f.cls.val = 0 ∨ take = true
    let u := ((s.setRigBuf t .tile f.cls [f]).rigGrant t o).rigEnds t o take
    u.rigBuf t .tile f.cls = []
      ∧ (taken → u.rig.handed = s.rig.handed ++ [(t.val, f)] ∧ u.rigEndBuf (rigEnd t o) f.cls = [])
      ∧ (¬ taken → u.rig.handed = s.rig.handed ∧ u.rigEndBuf (rigEnd t o) f.cls = [f]) := by
  obtain ⟨hbuf, hempty', hhanded⟩ := tileTaken_rig (o := o) (f := f) hempty hends
  intro taken u
  have hu : u = _ := congrArg (fun w : State => w.rigEnds t o take) (rigGrant_off hempty hends hs ho hn htile)
  generalize (s.setRigBuf t .tile f.cls [f]).rigTaken t .tile o f = w at hbuf hempty' hhanded hu
  have honly := hempty'.set (rigEnd t o) f
  rw [rigEnds_far honly hn htile hf, ite_cond_congr (propext (mem_takenClasses f.cls take))] at hu
  by_cases ht : taken
  · rw [if_pos ht] at hu
    rw [hu]
    exact ⟨hbuf, fun _ => ⟨congrArg (· ++ [(t.val, f)]) hhanded, honly.clear (rigEnd t o) f.cls⟩, fun h => absurd ht h⟩
  · rw [if_neg ht] at hu
    rw [hu]
    exact ⟨hbuf, fun h => absurd h ht, fun _ => ⟨hhanded, (honly (rigEnd t o) f.cls).trans (if_pos ⟨rfl, rfl⟩)⟩⟩

/-- A flit for the hub goes to the west. -/
theorem rigRoute_hub {t : Tile} (ho : rigRoute t .hub = o) : o = .west := by
  unfold rigRoute at ho
  simp only [rigExit, Nat.not_lt_zero, if_false, Nat.lt_irrefl] at ho
  split at ho <;> exact ho.symm

theorem rigTurn_hub {t : Tile} {take : Bool} (hempty : s.RouterEmpty t) (hends : s.EndsEmpty) (hs : 0 < rigSpace f.cls)
    (ho : rigRoute t f.dst = o) (hn : rigNext t o = none) (hf : f.dst = .hub) :
    let taken := f.cls.val = 0 ∨ take = true
    let u := ((s.setRigBuf t .tile f.cls [f]).rigGrant t o).rigEnds t o take
    u.rigBuf t .tile f.cls = []
      ∧ (taken → u.rig.handed = s.rig.handed ++ [(2048, f)] ∧ u.rigEndBuf hubEnd f.cls = [])
      ∧ (¬ taken → u.rig.handed = s.rig.handed ∧ u.rigEndBuf hubEnd f.cls = [f]) := by
  have hwest : o = .west := rigRoute_hub (hf ▸ ho)
  obtain ⟨hbuf, hempty', hhanded⟩ := tileTaken_rig (o := o) (f := f) hempty hends
  intro taken u
  have hu : u = _ := congrArg (fun w : State => w.rigEnds t o take) (rigGrant_off hempty hends hs ho hn (by rw [hwest]; nofun))
  generalize (s.setRigBuf t .tile f.cls [f]).rigTaken t .tile o f = w at hbuf hempty' hhanded hu
  have hrow : rigEnd t o = 128 + pkgRow t := by rw [hwest]; rfl
  obtain ⟨v, hv, honly, hvh, hvb⟩ := rigEnds_hub (o := o) (take := take) (hrow ▸ hempty'.set (rigEnd t o) f) hrow hf hs
  rw [hrow, hv, ite_cond_congr (propext (mem_takenClasses f.cls take))] at hu
  have hvbuf : v.rigBuf t .tile f.cls = [] := (congrArg (fun b => smapGet [] b (rigKey t .tile f.cls)) hvb).trans hbuf
  by_cases ht : taken
  · rw [if_pos ht] at hu
    rw [hu]
    exact ⟨hvbuf, fun _ => ⟨congrArg (· ++ [(2048, f)]) (hvh.trans hhanded), honly.clear hubEnd f.cls⟩, fun h => absurd ht h⟩
  · rw [if_neg ht] at hu
    rw [hu]
    exact ⟨hvbuf, fun h => absurd h ht, fun _ => ⟨hvh.trans hhanded, (honly hubEnd f.cls).trans (if_pos ⟨rfl, rfl⟩)⟩⟩

/-- Along the row first. -/
theorem rigRoute_row (t : Nat) (d : RigDst) : (pkgCol t < (rigExit (pkgRow t) d).2.1 → rigRoute t d = .east)
    ∧ ((rigExit (pkgRow t) d).2.1 < pkgCol t → rigRoute t d = .west) := by
  refine ⟨fun h => if_pos h, fun h => ?_⟩
  exact (if_neg (by omega)).trans (if_pos h)

/-! ### What the hub sends -/

/-- Away from the west edge the hub's flit waits. -/
theorem hubTurn_waits {t : Tile} {take : Bool} (hempty : s.RouterEmpty t) (hends : s.EndsEmpty) (hcol : pkgCol t ≠ 0) :
    let u := (((s.setRigEnd hubPort f.cls [f]).hubFeeds t).rigGrant t o).rigEnds t o take
    u.rigEndBuf hubPort f.cls = [f] ∧ u.rig.handed = s.rig.handed := by
  have honly := hends.set hubPort f
  have hgrant : (s.setRigEnd hubPort f.cls [f]).rigGrant t o = s.setRigEnd hubPort f.cls [f] :=
    rigGrant_idle fun q => rigOffer_nil (hempty q)
  intro u
  have hu : u = s.setRigEnd hubPort f.cls [f] := by
    change ((State.hubFeeds _ t).rigGrant t o).rigEnds t o take = _
    rw [show (s.setRigEnd hubPort f.cls [f]).hubFeeds t = s.setRigEnd hubPort f.cls [f] from if_pos hcol, hgrant]
    exact rigEnds_idle fun e he c => (honly e c).trans (if_neg fun h => he h.1)
  rw [hu]
  exact ⟨(honly hubPort f.cls).trans (if_pos ⟨rfl, rfl⟩), rfl⟩

/-- At the west edge the hub's flit enters the router's west input. -/
theorem hubTurn_enters {t : Tile} {take : Bool} (hempty : s.RouterEmpty t) (hends : s.EndsEmpty) (hs : 0 < rigSpace f.cls)
    (hcol : pkgCol t = 0) (ho : o ≠ rigRoute t f.dst) :
    let u := (((s.setRigEnd hubPort f.cls [f]).hubFeeds t).rigGrant t o).rigEnds t o take
    u.rigBuf t .west f.cls = [f] ∧ u.rigEndBuf hubPort f.cls = [] ∧ u.rig.handed = s.rig.handed := by
  have honly := hends.set hubPort f
  have hempty' : ((s.setRigEnd hubPort f.cls [f]).setRigEnd hubPort f.cls []).RouterEmpty t := hempty
  have hclear : ((s.setRigEnd hubPort f.cls [f]).setRigEnd hubPort f.cls []).EndsEmpty := honly.clear
  have hfeed := (hubFeeds_only honly hcol hempty hs).trans (rigPut_empty hempty' hs)
  have hhanded : ((s.setRigEnd hubPort f.cls [f]).setRigEnd hubPort f.cls []).rig.handed = s.rig.handed := rfl
  generalize (s.setRigEnd hubPort f.cls [f]).setRigEnd hubPort f.cls [] = w at hempty' hclear hfeed hhanded
  have hw := hempty'.set .west f
  have hwe : (w.setRigBuf t .west f.cls [f]).EndsEmpty := hclear
  intro u
  have hu : u = w.setRigBuf t .west f.cls [f] := by
    change ((State.hubFeeds _ t).rigGrant t o).rigEnds t o take = _
    rw [hfeed, rigGrant_idle (rigOffer_elsewhere hw (Ne.symm ho))]
    exact rigEnds_idle fun e _ => hwe e
  rw [hu]
  exact ⟨(hw .west f.cls).trans (if_pos ⟨rfl, rfl⟩), hwe hubPort f.cls, hhanded⟩

/-! ### Only the mesh changes -/

/-- Two states that differ in the mesh alone. -/
def State.RigOnly (s u : State) : Prop := ∃ r, u = { s with rig := r }

theorem rigOnly_refl (s : State) : s.RigOnly s := ⟨s.rig, rfl⟩

theorem State.RigOnly.trans {s u w : State} (h : s.RigOnly u) (g : u.RigOnly w) : s.RigOnly w := by
  obtain ⟨r, rfl⟩ := h
  obtain ⟨q, rfl⟩ := g
  exact ⟨q, rfl⟩

theorem rigOnly_foldl {α : Type} {g : State → α → State} (hg : ∀ (s : State) a, s.RigOnly (g s a)) (l : List α) (s : State) :
    s.RigOnly (l.foldl g s) := by
  induction l generalizing s with
  | nil => exact rigOnly_refl s
  | cons a l ih => exact (hg s a).trans (ih (g s a))

theorem rigOnly_rigPut (s : State) (t : Nat) (p : RigPort) (f : RigFlit) : s.RigOnly (s.rigPut t p f) := by
  unfold State.rigPut
  extract_lets l
  split
  · exact ⟨_, rfl⟩
  · exact rigOnly_refl s

theorem rigOnly_rigGrant (s : State) (t : Nat) (o : RigPort) : s.RigOnly (s.rigGrant t o) := by
  unfold State.rigGrant
  extract_lets k ptr order
  split
  · exact rigOnly_refl s
  · extract_lets u _ w
    have hw : s.RigOnly w := ⟨_, rfl⟩
    split
    · exact hw.trans (rigOnly_rigPut w _ _ _)
    · split
      · exact hw.trans ⟨_, rfl⟩
      · exact hw.trans ⟨_, rfl⟩

theorem rigOnly_rigTakes (s : State) (t e : Nat) (l : List Nat) : s.RigOnly (s.rigTakes t e l) :=
  rigOnly_foldl (fun u c => by unfold State.rigTake; split; exacts [⟨_, rfl⟩, rigOnly_refl u]) l s

theorem rigOnly_hubGrant (s : State) : s.RigOnly s.hubGrant := by
  unfold State.hubGrant
  extract_lets rows offer
  split
  · exact rigOnly_refl s
  · exact ⟨_, rfl⟩

theorem rigOnly_rigEnds (s : State) (t : Nat) (o : RigPort) (take : Bool) : s.RigOnly (s.rigEnds t o take) := by
  rw [rigEnds_eq]
  split
  · exact ((rigOnly_rigTakes s t _ _).trans (rigOnly_hubGrant _)).trans (rigOnly_rigTakes _ _ _ _)
  · exact (rigOnly_hubGrant s).trans (rigOnly_rigTakes _ _ _ _)

theorem rigOnly_hubSends (s : State) (f : RigFlit) : s.RigOnly (s.hubSends f) := by
  unfold State.hubSends
  split
  · exact ⟨_, rfl⟩
  · exact rigOnly_refl s

theorem rigOnly_hubFeeds (s : State) (t : Nat) : s.RigOnly (s.hubFeeds t) := by
  unfold State.hubFeeds
  split
  · exact rigOnly_refl s
  · split
    · exact rigOnly_refl s
    · exact State.RigOnly.trans ⟨_, rfl⟩ (rigOnly_rigPut _ _ _ _)

theorem rigOnly_ins (s : State) (t : Nat) (ins : List (RigPort × RigFlit)) : s.RigOnly (ins.foldl (fun u i => u.rigPut t i.1 i.2) s) :=
  rigOnly_foldl (α := RigPort × RigFlit) (g := fun u i => u.rigPut t i.1 i.2) (fun u i => rigOnly_rigPut u t i.1 i.2) ins s

/-- RIGGING_FLIT changes the mesh alone. -/
theorem execRiggingFlit_rigOnly (t : Tile) (ins : List (RigPort × RigFlit)) (o : RigTurn) (s : State) :
    ∃ u, execRiggingFlit t ins o s = .next u ∧ s.RigOnly u := by
  refine ⟨_, rfl, ?_⟩
  have hput := rigOnly_ins s t (ins.filter (fun i => rigEdge t i.1))
  generalize List.foldl _ s _ = v at hput ⊢
  have hsend := hput.trans (rigOnly_foldl rigOnly_hubSends o.hub v)
  exact ((hsend.trans (rigOnly_hubFeeds _ t)).trans (rigOnly_rigGrant _ t o.port)).trans (rigOnly_rigEnds _ t o.port o.take)

end Sys2Proof.Machine
end

section
namespace Sys2Proof.Claim
open Sys2Proof.Machine

/-- Settles O23: the one flit is the one that the output's grant, the far end and the hub port find, each among buffers that hold nothing
  else. -/
theorem riggingForwardsAlongTheRowFirst : Obligations.RiggingForwardsAlongTheRowFirst := by
  refine ⟨fun s t f o take hempty hall hs ho => ?_, fun s t f o take hempty hall hs => ?_, fun s t ins o => ?_⟩
  · have hends : s.EndsEmpty := fun e c => hall e c
    have hrun := (exec_riggingFlit t [(.tile, f)] ⟨o, take, []⟩ s).trans (execRiggingFlit_tile (o := o) (take := take) hempty hends hs)
    refine ⟨fun n hn hroom => ⟨_, hrun, rigTurn_next hempty hends ho.symm hn hroom⟩, fun htile => ?_,
      fun hn htile hf => ⟨_, hrun, rigTurn_far hempty hends hs ho.symm hn htile hf⟩,
      fun hn hf => ⟨_, hrun, rigTurn_hub hempty hends hs ho.symm hn hf⟩,
      fun h => ho.trans ((rigRoute_row t f.dst).1 h), fun h => ho.trans ((rigRoute_row t f.dst).2 h)⟩
    subst htile
    exact ⟨_, hrun, rigTurn_tile hempty hends ho.symm⟩
  · have hends : s.EndsEmpty := fun e c => hall e c
    have hrun := (exec_riggingFlit t [] ⟨o, take, [f]⟩ s).trans (execRiggingFlit_hub (o := o) (take := take) hends hs)
    exact ⟨fun hcol => ⟨_, hrun, hubTurn_waits hempty hends hcol⟩, fun hcol ho => ⟨_, hrun, hubTurn_enters hempty hends hs hcol ho⟩⟩
  · obtain ⟨u, hu, r, rfl⟩ := execRiggingFlit_rigOnly t ins o s
    exact ⟨_, (exec_riggingFlit t ins o s).trans hu, ⟨fun _ _ => rfl, fun _ => rfl, fun _ => rfl, fun _ => rfl⟩, rfl⟩

end Sys2Proof.Claim
end

section
/-!
PROOFS. The first issues of a scene and of a step (O32): what a start does in one tile's window, and what a fold of starts leaves in each.
-/
namespace Sys2Proof.Machine
open Sys2Proof.Claim

/-! ### What stays in some tiles -/

/-- A device address of tile `t`'s window. -/
def InWindow (t a : Nat) : Prop := tileBase t ≤ a ∧ a < tileBase (t + 1)

theorem inWindow_inj {t k a : Nat} (h : InWindow t a) (g : InWindow k a) : t = k := by
  unfold InWindow tileBase at h g
  omega

/-- Only registers and the state of the tiles of `T` change. -/
structure TilesOnly (T : Nat → Prop) (s u : State) : Prop where
  regs : ∀ a, (∀ t, T t → ¬ InWindow t a) → u.reg a = s.reg a
  tiles : ∀ k, ¬ T k → u.tile k = s.tile k
  rest : ({ u with regs := [], tiles := [] } : State) = { s with regs := [], tiles := [] }

variable {T : Nat → Prop} {s u w : State} {t k : Nat}

theorem tilesOnly_refl (T : Nat → Prop) (s : State) : TilesOnly T s s := ⟨fun _ _ => rfl, fun _ _ => rfl, rfl⟩

theorem TilesOnly.trans (h : TilesOnly T s u) (g : TilesOnly T u w) : TilesOnly T s w :=
  ⟨fun a ha => (g.regs a ha).trans (h.regs a ha), fun k hk => (g.tiles k hk).trans (h.tiles k hk), g.rest.trans h.rest⟩

theorem TilesOnly.mono {S : Nat → Prop} (h : TilesOnly S s u) (hst : ∀ t, S t → T t) : TilesOnly T s u :=
  ⟨fun a ha => h.regs a fun t ht => ha t (hst t ht), fun k hk => h.tiles k fun hs => hk (hst k hs), h.rest⟩

theorem TilesOnly.mem (h : TilesOnly T s u) : u.mem = s.mem := (congrArg State.mem h.rest :)
theorem TilesOnly.te (h : TilesOnly T s u) : u.te = s.te := (congrArg State.te h.rest :)
theorem TilesOnly.curtain (h : TilesOnly T s u) : u.curtain = s.curtain := (congrArg State.curtain h.rest :)
theorem TilesOnly.scene (h : TilesOnly T s u) : u.scene = s.scene := (congrArg State.scene h.rest :)

theorem TilesOnly.reg_other (h : TilesOnly T s u) (hk : ¬ T k) {a : Nat} (ha : InWindow k a) : u.reg a = s.reg a :=
  h.regs a fun _ ht hw => hk (inWindow_inj hw ha ▸ ht)

theorem TilesOnly.fld_other (h : TilesOnly T s u) (hk : ¬ T k) {f : Fld} (hf : InWindow k f.addr) : u.fld f = s.fld f :=
  fld_congr (h.reg_other hk hf)

theorem tilesOnly_setReg (s : State) {a : Nat} (v : Word) (h : InWindow t a) : TilesOnly (· = t) s (s.setReg a v) :=
  ⟨fun _ hb => reg_setReg_ne s v fun e => hb t rfl (e ▸ h), fun k _ => tile_setReg s a v k, rfl⟩

theorem tilesOnly_setFld (s : State) {f : Fld} {a : Nat} (v : Nat) (hf : f.addr = a) (h : InWindow t a) :
    TilesOnly (· = t) s (s.setFld f v) :=
  tilesOnly_setReg s _ (hf ▸ h)

theorem tilesOnly_setTile (s : State) (t : Nat) (x : TileX) : TilesOnly (· = t) s (s.setTile t x) :=
  ⟨fun a _ => reg_setTile s t x a, fun _ hk => tile_setTile_ne s x hk, rfl⟩

/-- A register of a tile's window, by its offset. -/
theorem inWindow_offset (t : Nat) {o : Nat} (h : o < 0x100000) : InWindow t (0x11000000000 + o + 0x100000 * t) := by
  unfold InWindow tileBase
  omega

theorem inWindow_TA (t : Nat) : InWindow t (R.TA_SEQ t)
    ∧ InWindow t (R.TA_HALT0 t) ∧ InWindow t (R.TA_HALT1 t) ∧ InWindow t (R.TA_HALT2 t)
    ∧ InWindow t (R.TA_MFAULT0 t) ∧ InWindow t (R.TA_MFAULT1 t) ∧ InWindow t (R.TA_MFAULT2 t) ∧ InWindow t (R.TA_PTRAP0 t)
    ∧ InWindow t (R.TA_PVL t) ∧ InWindow t (R.TA_SR_SEED t) :=
  ⟨inWindow_offset t (o := 0xf8300) (by decide),
    inWindow_offset t (o := 0xf8318) (by decide), inWindow_offset t (o := 0xf8320) (by decide), inWindow_offset t (o := 0xf8328) (by decide),
    inWindow_offset t (o := 0xf8900) (by decide), inWindow_offset t (o := 0xf8908) (by decide), inWindow_offset t (o := 0xf8910) (by decide),
    inWindow_offset t (o := 0xf8610) (by decide), inWindow_offset t (o := 0xf8630) (by decide), inWindow_offset t (o := 0xf8110) (by decide)⟩

theorem inWindow_bankctl (t : Nat) : InWindow t (R.TA_BANKCTL t) := inWindow_offset t (o := 0xf8330) (by decide)

/-! ### The start of one tile -/

/-- A tile at a scene start, before its mark and its first issue. -/
def State.cleared (s : State) (t : Nat) : State :=
  let s := (((s.setReg (R.TA_HALT0 t) 0).setReg (R.TA_HALT1 t) 0).setReg (R.TA_HALT2 t) 0).setFld (R.TA_SEQ_HALT_REASON t) 0
  let s := ((s.setReg (R.TA_MFAULT0 t) 0).setReg (R.TA_MFAULT1 t) 0).setReg (R.TA_MFAULT2 t) 0
  let s := ((s.setReg (R.TA_PTRAP0 t) 0).setFld (R.TA_PVL_VL t) 0).setFld (R.TA_SEQ_STATE t) seqIdle
  let s := s.setReg (R.TA_SR_SEED t) (BitVec.ofNat 64 s.scene.seed)
  s.setTile t { s.tile t with
    fence := none, fenceH := none, cutF := false, cutH := false, trap := none, reexec := none, resumeAt := none, swapAt := none, sr := [],
    samplerDraws := 0 }

theorem startTile_eq (s : State) (t : Nat) (swap : Bool) : s.startTile t swap
    = (let u := if swap then (s.cleared t).swapMarked t else s.cleared t
       if u.fld (R.TA_SEQ_STATE t) = seqHalted then u else u.armTile t) := rfl

theorem tilesOnly_cleared (s : State) (t : Nat) : TilesOnly (· = t) s (s.cleared t) := by
  obtain ⟨hseq, hhalt0, hhalt1, hhalt2, hfault0, hfault1, hfault2, htrap, hvl, hseed⟩ := inWindow_TA t
  unfold State.cleared
  extract_lets s1 s2 s3 s4
  have h1 : TilesOnly (· = t) s s1 := (((tilesOnly_setReg s 0 hhalt0).trans (tilesOnly_setReg _ 0 hhalt1)).trans
    (tilesOnly_setReg _ 0 hhalt2)).trans (tilesOnly_setFld _ 0 rfl hseq)
  have h2 : TilesOnly (· = t) s1 s2 :=
    ((tilesOnly_setReg s1 0 hfault0).trans (tilesOnly_setReg _ 0 hfault1)).trans (tilesOnly_setReg _ 0 hfault2)
  have h3 : TilesOnly (· = t) s2 s3 := ((tilesOnly_setReg s2 0 htrap).trans (tilesOnly_setFld _ 0 rfl hvl)).trans
    (tilesOnly_setFld _ seqIdle rfl hseq)
  have h4 : TilesOnly (· = t) s3 s4 := tilesOnly_setReg s3 _ hseed
  exact (((h1.trans h2).trans h3).trans h4).trans (tilesOnly_setTile s4 t _)

theorem fld_setFld_zero (s : State) {f : Fld} (h : f.hi < 64) : (s.setFld f 0).fld f = 0 :=
  (fld_setFld_same s f 0 h).trans (Nat.zero_mod _)

/-- What a start has cleared of a tile. -/
structure ClearedAs (seed t : Nat) (u : State) : Prop where
  vl : u.fld (R.TA_PVL_VL t) = 0
  halt : u.reg (R.TA_HALT0 t) = 0
  gen : u.reg (R.TA_SR_SEED t) = BitVec.ofNat 64 seed
  sr : (u.tile t).sr = []

theorem scene_setReg (s : State) (a : Nat) (v : Word) : (s.setReg a v).scene = s.scene := rfl

theorem scene_setFld (s : State) (f : Fld) (v : Nat) : (s.setFld f v).scene = s.scene := rfl

/-- Each register keeps what was written to it, the others of the tile lying elsewhere. -/
theorem cleared_values (s : State) (t : Nat) : ClearedAs s.scene.seed t (s.cleared t) ∧ (s.cleared t).fld (R.TA_SEQ_STATE t) = seqIdle
    ∧ (s.cleared t).bit (R.TA_BANKCTL_MARK t) = s.bit (R.TA_BANKCTL_MARK t) := by
  suffices h : (s.cleared t).fld (R.TA_PVL_VL t) = 0 ∧ (s.cleared t).reg (R.TA_HALT0 t) = 0
      ∧ (s.cleared t).reg (R.TA_SR_SEED t) = BitVec.ofNat 64 s.scene.seed ∧ ((s.cleared t).tile t).sr = []
      ∧ (s.cleared t).fld (R.TA_SEQ_STATE t) = seqIdle ∧ (s.cleared t).fld (R.TA_BANKCTL_MARK t) = s.fld (R.TA_BANKCTL_MARK t) from
    let ⟨hvl, hhalt, hgen, hsr, hstate, hmark⟩ := h
    ⟨⟨hvl, hhalt, hgen, hsr⟩, hstate, congrArg (· == 1) hmark⟩
  simp (disch := first | decide | (simp only [R.TA_HALT0, R.TA_HALT1, R.TA_HALT2, R.TA_SEQ_STATE, R.TA_SEQ_HALT_REASON, R.TA_MFAULT0,
      R.TA_MFAULT1, R.TA_MFAULT2, R.TA_PTRAP0, R.TA_PVL_VL, R.TA_SR_SEED, R.TA_BANKCTL_MARK]; omega)) only
    [State.cleared, reg_setTile, reg_setReg_ne, reg_setFld_ne, reg_setReg_same, fld_setTile, fld_setReg_ne, fld_setFld_ne, fld_setSeqState,
      fld_setFld_zero, tile_setTile_same, scene_setReg, scene_setFld, and_true]

/-- Arming a tile sets its sequencing and leaves what a start has cleared. -/
theorem tilesOnly_armTile (s : State) (t : Nat) : TilesOnly (· = t) s (s.armTile t) := by
  have hseq : InWindow t (R.TA_SEQ t) := (inWindow_TA t).1
  unfold State.armTile
  extract_lets x rest u
  have hu : TilesOnly (· = t) s u := tilesOnly_setTile s t _
  have hresume : TilesOnly (· = t) u (u.setResume t 0) := (tilesOnly_setFld u _ rfl hseq).trans (tilesOnly_setFld _ _ rfl hseq)
  exact (hu.trans hresume).trans (tilesOnly_setFld _ _ rfl hseq)

/-- A tile that issues from index 0. -/
def State.Armed (u : State) (t : Nat) : Prop := u.fld (R.TA_SEQ_STATE t) = seqIssuing ∧ u.fld (R.TA_SEQ_RESUME t) = 0

theorem armed_armTile (s : State) (t : Nat) : (s.armTile t).Armed t := by
  unfold State.armTile
  extract_lets x rest u
  refine ⟨fld_setSeqState _ t (by decide), ?_⟩
  rw [fld_setFld_disjoint (f := R.TA_SEQ_STATE t) (g := R.TA_SEQ_RESUME t) _ _ (.inl (by decide : 12 < 26)), State.setResume,
    fld_setFld_disjoint (f := R.TA_SEQ_REPEAT_LEFT t) (g := R.TA_SEQ_RESUME t) _ _ (.inl (by decide : 12 < 13))]
  exact fld_setFld_zero _ (by decide : 12 < 64)

theorem reg_armTile {a : Nat} (s : State) (t : Nat) (h : a ≠ R.TA_SEQ t) : (s.armTile t).reg a = s.reg a := by
  unfold State.armTile
  extract_lets x rest u
  rw [reg_setFld_ne _ (f := R.TA_SEQ_STATE t) h, State.setResume, reg_setFld_ne _ (f := R.TA_SEQ_REPEAT_LEFT t) h,
    reg_setFld_ne _ (f := R.TA_SEQ_RESUME t) h]
  exact reg_setTile s t _ a

theorem sr_armTile (s : State) (t : Nat) : ((s.armTile t).tile t).sr = (s.tile t).sr := by
  unfold State.armTile
  extract_lets x rest u
  rw [tile_setFld, State.setResume, tile_setFld, tile_setFld, tile_setTile_same]

/-- A tile that is not to swap is cleared and armed at its start. -/
theorem startTile_unmarked (s : State) (t : Nat) (swap : Bool) (h : swap = true → s.bit (R.TA_BANKCTL_MARK t) = false) :
    s.startTile t swap = (s.cleared t).armTile t := by
  obtain ⟨_, hstate, hmark⟩ := cleared_values s t
  have hswap : (if swap then (s.cleared t).swapMarked t else s.cleared t) = s.cleared t := by
    split
    · next hs =>
      unfold State.swapMarked
      rw [hmark, h hs]
      rfl
    · rfl
  rw [startTile_eq, hswap]
  exact if_neg (by rw [hstate]; decide)

/-- A tile as its scene's start leaves it. -/
def StartedAs (seed t : Nat) (u : State) : Prop := u.Armed t ∧ ClearedAs seed t u

theorem ClearedAs.armTile {seed : Nat} (h : ClearedAs seed t s) : ClearedAs seed t (s.armTile t) :=
  ⟨(fld_congr (reg_armTile s t (by simp only [R.TA_PVL_VL, R.TA_SEQ]; omega))).trans h.vl,
    (reg_armTile s t (by simp only [R.TA_HALT0, R.TA_SEQ]; omega)).trans h.halt,
    (reg_armTile s t (by simp only [R.TA_SR_SEED, R.TA_SEQ]; omega)).trans h.gen, (sr_armTile s t).trans h.sr⟩

theorem startTile_spec (s : State) (t : Nat) (swap : Bool) (h : swap = true → s.bit (R.TA_BANKCTL_MARK t) = false) :
    TilesOnly (· = t) s (s.startTile t swap) ∧ StartedAs s.scene.seed t (s.startTile t swap)
      ∧ (s.startTile t swap).bit (R.TA_BANKCTL_MARK t) = s.bit (R.TA_BANKCTL_MARK t) := by
  obtain ⟨hcleared, _, hmark⟩ := cleared_values s t
  rw [startTile_unmarked s t swap h]
  refine ⟨(tilesOnly_cleared s t).trans (tilesOnly_armTile _ t), ⟨armed_armTile _ t, hcleared.armTile⟩, ?_⟩
  rw [← hmark, State.bit, State.bit, fld_congr (reg_armTile _ t (by simp only [R.TA_BANKCTL_MARK, R.TA_SEQ]; omega))]

/-! ### The start of a scene's tiles -/

/-- What another tile's operation leaves of a started tile. -/
theorem StartedAs.other {seed : Nat} (h : StartedAs seed t s) (g : TilesOnly T s u) (ht : ¬ T t) : StartedAs seed t u := by
  obtain ⟨hseq, hhalt, _, _, _, _, _, _, hvl, hseed⟩ := inWindow_TA t
  obtain ⟨⟨hstate, hresume⟩, hc⟩ := h
  exact ⟨⟨(g.fld_other ht (f := R.TA_SEQ_STATE t) hseq).trans hstate, (g.fld_other ht (f := R.TA_SEQ_RESUME t) hseq).trans hresume⟩,
    (g.fld_other ht (f := R.TA_PVL_VL t) hvl).trans hc.vl, (g.reg_other ht hhalt).trans hc.halt, (g.reg_other ht hseed).trans hc.gen,
    (congrArg TileX.sr (g.tiles t ht)).trans hc.sr⟩

theorem startTiles_spec (l : List Nat) : ∀ s : State, (∀ t ∈ l, s.bit (R.TA_BANKCTL_MARK t) = false) →
    TilesOnly (· ∈ l) s (l.foldl (fun u t => u.startTile t true) s)
      ∧ ∀ t ∈ l, StartedAs s.scene.seed t (l.foldl (fun u t => u.startTile t true) s) := by
  induction l with
  | nil => exact fun s _ => ⟨tilesOnly_refl _ s, fun _ ht => absurd ht List.not_mem_nil⟩
  | cons i l ih =>
    intro s h
    obtain ⟨honly, hstarted, hmark⟩ := startTile_spec s i true fun _ => h i List.mem_cons_self
    have hmarks : ∀ t ∈ l, (s.startTile i true).bit (R.TA_BANKCTL_MARK t) = false := fun t ht => by
      by_cases hti : t = i
      · rw [hti, hmark]
        exact h i List.mem_cons_self
      · rw [State.bit, honly.fld_other hti (f := R.TA_BANKCTL_MARK t) (inWindow_bankctl t)]
        exact h t (List.mem_cons_of_mem i ht)
    obtain ⟨hrest, hall⟩ := ih (s.startTile i true) hmarks
    rw [honly.scene] at hall
    refine ⟨(honly.mono fun t ht => ht ▸ List.mem_cons_self).trans (hrest.mono fun t ht => List.mem_cons_of_mem i ht), fun t ht => ?_⟩
    by_cases htl : t ∈ l
    · exact hall t htl
    · have hti : t = i := (List.mem_cons.mp ht).resolve_right htl
      subst hti
      exact hstarted.other hrest htl

/-! ### The trap engines' generators -/

/-- Only registers from the trap engines' up, and what the engines hold, change. -/
structure EnginesOnly (s u : State) : Prop where
  regs : ∀ a, a < R.TP_SR_SEED 0 0 → u.reg a = s.reg a
  rest : ({ u with regs := [], te := [] } : State) = { s with regs := [], te := [] }

theorem EnginesOnly.trans (h : EnginesOnly s u) (g : EnginesOnly u w) : EnginesOnly s w :=
  ⟨fun a ha => (g.regs a ha).trans (h.regs a ha), g.rest.trans h.rest⟩

theorem EnginesOnly.scene (h : EnginesOnly s u) : u.scene = s.scene := (congrArg State.scene h.rest :)
theorem EnginesOnly.curtain (h : EnginesOnly s u) : u.curtain = s.curtain := (congrArg State.curtain h.rest :)
theorem EnginesOnly.mem (h : EnginesOnly s u) : u.mem = s.mem := (congrArg State.mem h.rest :)

/-- The generators of one stack's engines start again. -/
def State.reseedStack (s : State) (k : Nat) (l : List Nat) : State :=
  l.foldl (fun u e => u.setReg (R.TP_SR_SEED k e) (BitVec.ofNat 64 u.scene.seed)) s

theorem reseedStack_spec (k : Nat) (l : List Nat) : ∀ s : State, EnginesOnly s (s.reseedStack k l) ∧ (s.reseedStack k l).te = s.te
    ∧ ∀ a, (s.reseedStack k l).reg a = if (∃ e ∈ l, a = R.TP_SR_SEED k e) then BitVec.ofNat 64 s.scene.seed else s.reg a := by
  induction l with
  | nil => exact fun s => ⟨⟨fun _ _ => rfl, rfl⟩, rfl, fun a => (if_neg fun ⟨_, he, _⟩ => absurd he List.not_mem_nil).symm⟩
  | cons e l ih =>
    intro s
    have hset : EnginesOnly s (s.setReg (R.TP_SR_SEED k e) (BitVec.ofNat 64 s.scene.seed)) :=
      ⟨fun a ha => reg_setReg_ne s _ (by simp only [R.TP_SR_SEED] at ha ⊢; omega), rfl⟩
    obtain ⟨honly, hte, hreg⟩ := ih (s.setReg (R.TP_SR_SEED k e) (BitVec.ofNat 64 s.scene.seed))
    refine ⟨hset.trans honly, hte, fun a => (hreg a).trans ?_⟩
    by_cases hl : ∃ e ∈ l, a = R.TP_SR_SEED k e
    · obtain ⟨d, hd, ha⟩ := hl
      rw [if_pos ⟨d, hd, ha⟩, if_pos ⟨d, List.mem_cons_of_mem e hd, ha⟩, scene_setReg]
    · rw [if_neg hl, reg_setReg]
      by_cases ha : a = R.TP_SR_SEED k e
      · rw [if_pos ha, if_pos ⟨e, List.mem_cons_self, ha⟩]
      · refine (if_neg ha).trans (if_neg ?_).symm
        rintro ⟨d, hd, had⟩
        rcases List.mem_cons.mp hd with rfl | hd
        · exact ha had
        · exact hl ⟨d, hd, had⟩

/-- The generators of a stack have started from a seed. -/
def Reseeded (seed : Nat) (u : State) (k : Nat) : Prop :=
  (u.teStack k).sr = [] ∧ ∀ e, e < 16 → u.reg (R.TP_SR_SEED k e) = BitVec.ofNat 64 seed

theorem reseedStacks_spec (l : List Nat) : ∀ s : State,
    let u := l.foldl (fun t k => (t.setTe k { t.teStack k with sr := [] }).reseedStack k (List.range 16)) s
    EnginesOnly s u ∧ ∀ k, k ∈ l ∨ Reseeded s.scene.seed s k → Reseeded s.scene.seed u k := by
  induction l with
  | nil => exact fun s => ⟨⟨fun _ _ => rfl, rfl⟩, fun k h => h.resolve_left List.not_mem_nil⟩
  | cons i l ih =>
    intro s
    obtain ⟨honly, hte, hreg⟩ := reseedStack_spec i (List.range 16) (s.setTe i { s.teStack i with sr := [] })
    rw [List.foldl_cons]
    generalize (s.setTe i { s.teStack i with sr := [] }).reseedStack i (List.range 16) = v at honly hte hreg
    have hv : EnginesOnly s v := ⟨honly.regs, honly.rest⟩
    obtain ⟨hrest, hall⟩ := ih v
    rw [hv.scene] at hall
    refine ⟨hv.trans hrest, fun k hk => hall k ?_⟩
    by_cases hki : k = i
    · subst hki
      refine .inr ⟨?_, fun e he => (hreg _).trans (if_pos ⟨e, List.mem_range.mpr he, rfl⟩)⟩
      exact congrArg TeStack.sr ((congrArg (fun te => smapGet TeStack.init te k) hte).trans (smapGet_set_same TeStack.init s.te k _))
    · rcases hk with hk | ⟨hsr, hseeds⟩
      · exact .inl ((List.mem_cons.mp hk).resolve_left hki)
      · refine .inr ⟨?_, fun e he => (hreg _).trans ((if_neg ?_).trans (hseeds e he))⟩
        · exact (congrArg TeStack.sr ((congrArg (fun te => smapGet TeStack.init te k) hte).trans
            (smapGet_set_ne TeStack.init TeStack.init s.te _ hki))).trans hsr
        · rintro ⟨d, hd, h⟩
          have hd' := List.mem_range.mp hd
          simp only [R.TP_SR_SEED] at h
          omega

theorem reseedEngines_spec (s : State) : EnginesOnly s s.reseedEngines ∧ ∀ k, k < 8 → Reseeded s.scene.seed s.reseedEngines k :=
  ⟨(reseedStacks_spec (List.range 8) s).1, fun k hk => (reseedStacks_spec (List.range 8) s).2 k (.inl (List.mem_range.mpr hk))⟩

/-! ### The tiles outside the scene -/

theorem smapGet_filter_out {α : Type} (d : α) {g : Nat × α → Bool} {q : Nat} (h : ∀ v, g (q, v) = false) (m : SMap α) :
    smapGet d (m.filter g) q = d := by
  induction m with
  | nil => rfl
  | cons p m ih =>
    obtain ⟨a, v⟩ := p
    by_cases ha : g (a, v) = true
    · rw [List.filter_cons_of_pos ha, smapGet, if_neg (fun e => by rw [e, h v] at ha; exact absurd ha (by decide))]
      exact ih
    · rw [List.filter_cons_of_neg ha]
      exact ih

theorem smapGet_not_mem {α : Type} (d : α) {q : Nat} {m : SMap α} (h : q ∉ m.map Prod.fst) : smapGet d m q = d := by
  induction m with
  | nil => rfl
  | cons p m ih =>
    rw [List.map_cons, List.mem_cons, not_or] at h
    rw [smapGet, if_neg (Ne.symm h.1)]
    exact ih h.2

/-- The tile of an address in the tile windows. -/
def windowTile (a : Nat) : Nat := (a - 0x11000000000) / 0x100000

theorem windowTile_bankctl (t : Nat) : windowTile (R.TA_BANKCTL t) = t := by
  simp only [windowTile, R.TA_BANKCTL]
  omega

/-- Marks are cleared of the tiles of a list of addresses. -/
def State.unmark (s : State) (l : List Nat) : State := l.foldl (fun t a => t.setFld (R.TA_BANKCTL_MARK (windowTile a)) 0) s

theorem unmark_spec (l : List Nat) : ∀ s : State, (∀ a ∈ l, T (windowTile a)) → TilesOnly T s (s.unmark l)
    ∧ ∀ t, s.bit (R.TA_BANKCTL_MARK t) = false ∨ t ∈ l.map windowTile → (s.unmark l).bit (R.TA_BANKCTL_MARK t) = false := by
  induction l with
  | nil => exact fun s _ => ⟨tilesOnly_refl T s, fun t h => h.resolve_right List.not_mem_nil⟩
  | cons a l ih =>
    intro s h
    have honly : TilesOnly (· = windowTile a) s (s.setFld (R.TA_BANKCTL_MARK (windowTile a)) 0) :=
      tilesOnly_setFld s 0 rfl (inWindow_bankctl _)
    obtain ⟨hrest, hmarks⟩ := ih (s.setFld (R.TA_BANKCTL_MARK (windowTile a)) 0) fun b hb => h b (List.mem_cons_of_mem a hb)
    refine ⟨(honly.mono fun t ht => ht ▸ h a List.mem_cons_self).trans hrest, fun t ht => hmarks t ?_⟩
    by_cases hta : t = windowTile a
    · rw [hta]
      exact .inl (bit_setFld_zero s _ (by decide : 0 < 64))
    · refine ht.imp (fun h0 => ?_) fun hm => (List.mem_cons.mp hm).resolve_left hta
      rw [State.bit, honly.fld_other hta (f := R.TA_BANKCTL_MARK t) (inWindow_bankctl t)]
      exact h0

theorem regReset_bankctl {t : Nat} (ht : t < 2048) : regReset (R.TA_BANKCTL t) = 0 :=
  regReset_zero_within (lo := R.TA_BANKCTL 0) (hi := R.TA_BANKCTL 2047) (by simp only [R.TA_BANKCTL]; omega)
    (by simp only [R.TA_BANKCTL]; omega)
    (resetPerCopy_none (by simp only [R.TA_BANKCTL]; omega) (by simp only [R.TA_BANKCTL]; omega) (by simp only [R.TA_BANKCTL]; omega))
    (by decide +kernel)

/-- Is the tile that an address belongs to outside a list? -/
def outsideTile (tiles : List Nat) (x : Option Nat) : Bool := match x with | some t => !tiles.contains t | none => false

theorem commitTile_commitAddr {t b : Nat} (ht : t < 2048) (hb : b < 2) : commitTile (commitAddr t b) = some t := by
  unfold commitTile commitAddr tileBase
  rw [if_pos (by omega)]
  congr 1
  omega

theorem clearOutside_eq (s : State) (tiles : List Nat) : s.clearOutside tiles
    = ({ s with mem := s.mem.filter (fun p => !outsideTile tiles (commitTile p.1)) } : State).unmark
        ((s.regs.map Prod.fst).filter (fun a => outsideTile tiles (bankctlTile a))) := rfl

theorem clearOutside_spec (s : State) (tiles : List Nat) :
    TilesOnly (fun t => t ∉ tiles ∧ t < 2048) { s with mem := s.mem.filter (fun p => !outsideTile tiles (commitTile p.1)) }
        (s.clearOutside tiles)
      ∧ ∀ t, t < 2048 → t ∉ tiles → (s.clearOutside tiles).commitSet t 0 = false ∧ (s.clearOutside tiles).commitSet t 1 = false
        ∧ (s.clearOutside tiles).bit (R.TA_BANKCTL_MARK t) = false := by
  have hout : ∀ t, t ∉ tiles → outsideTile tiles (some t) = true := fun t ht => by simp [outsideTile, ht]
  have htiles : ∀ a ∈ (s.regs.map Prod.fst).filter (fun a => outsideTile tiles (bankctlTile a)),
      windowTile a ∉ tiles ∧ windowTile a < 2048 := by
    intro a ha
    have h := (List.mem_filter.mp ha).2
    unfold bankctlTile at h
    split at h
    · next hr => exact ⟨by simpa [outsideTile, windowTile] using h, by unfold windowTile; omega⟩
    · cases h
  obtain ⟨honly, hmarks⟩ := unmark_spec (T := fun t => t ∉ tiles ∧ t < 2048) _
    ({ s with mem := s.mem.filter (fun p => !outsideTile tiles (commitTile p.1)) } : State) htiles
  rw [← clearOutside_eq] at honly hmarks
  refine ⟨honly, fun t ht2 ht => ?_⟩
  have hcommit : ∀ b, b < 2 → (s.clearOutside tiles).commitSet t b = false := fun b hb => by
    have hbyte : (s.clearOutside tiles).byte (commitAddr t b) = 0 := by
      unfold State.byte
      rw [honly.mem]
      refine smapGet_filter_out _ (fun v => ?_) s.mem
      rw [commitTile_commitAddr ht2 hb, hout t ht]
      rfl
    unfold State.commitSet
    rw [hbyte]
    rfl
  refine ⟨hcommit 0 (by decide), hcommit 1 (by decide), hmarks t ?_⟩
  by_cases hkey : R.TA_BANKCTL t ∈ s.regs.map Prod.fst
  · have hb : bankctlTile (R.TA_BANKCTL t) = some t := by
      unfold bankctlTile R.TA_BANKCTL
      rw [if_pos (by omega)]
      congr 1
      omega
    refine .inr (List.mem_map.mpr ⟨R.TA_BANKCTL t, List.mem_filter.mpr ⟨hkey, ?_⟩, windowTile_bankctl t⟩)
    rw [hb]
    exact hout t ht
  · refine .inl ?_
    have hz : s.reg (R.TA_BANKCTL t) = 0 := (smapGet_not_mem _ hkey).trans (regReset_bankctl ht2)
    change (bitsOf (s.reg (R.TA_BANKCTL t)).toNat 0 0 == 1) = false
    rw [hz]
    decide

/-! ### SCENE_START -/

theorem commitSet_congr (h : u.mem = s.mem) (t b : Nat) : u.commitSet t b = s.commitSet t b := by
  unfold State.commitSet State.byte
  rw [h]

/-- A scene's first issue: its tiles started, the engines' generators and the tiles outside it cleared. -/
def State.sceneStarted (s : State) : State :=
  s.tilesOfScene.foldl (fun t i => t.startTile i true) (s.reseedEngines.clearOutside s.tilesOfScene)

theorem sceneStarted_spec (s : State) (h : ∀ t, t ∈ s.tilesOfScene → t < 2048 ∧ s.bit (R.TA_BANKCTL_MARK t) = false) :
    s.sceneStarted.curtain = s.curtain ∧ (∀ k, k < 8 → Reseeded s.scene.seed s.sceneStarted k)
      ∧ (∀ t, t < 2048 → t ∉ s.tilesOfScene → s.sceneStarted.commitSet t 0 = false ∧ s.sceneStarted.commitSet t 1 = false
        ∧ s.sceneStarted.bit (R.TA_BANKCTL_MARK t) = false)
      ∧ ∀ t, t ∈ s.tilesOfScene → StartedAs s.scene.seed t s.sceneStarted := by
  unfold State.sceneStarted
  generalize s.tilesOfScene = tiles at h
  obtain ⟨hengines, hseeds⟩ := reseedEngines_spec s
  generalize s.reseedEngines = v at hengines hseeds
  obtain ⟨hclear, hout⟩ := clearOutside_spec v tiles
  generalize v.clearOutside tiles = w at hclear hout
  have hscene : w.scene = s.scene := hclear.scene.trans hengines.scene
  have hmarks : ∀ t ∈ tiles, w.bit (R.TA_BANKCTL_MARK t) = false := fun t ht => by
    have h1 : w.reg (R.TA_BANKCTL t) = v.reg (R.TA_BANKCTL t) := hclear.reg_other (fun hn => hn.1 ht) (inWindow_bankctl t)
    have h2 : v.reg (R.TA_BANKCTL t) = s.reg (R.TA_BANKCTL t) := hengines.regs _ (by
      have := (h t ht).1
      simp only [R.TA_BANKCTL, R.TP_SR_SEED]
      omega)
    rw [State.bit, fld_congr (f := R.TA_BANKCTL_MARK t) (h1.trans h2)]
    exact (h t ht).2
  obtain ⟨honly, hstarted⟩ := startTiles_spec tiles w hmarks
  rw [hscene] at hstarted
  generalize tiles.foldl (fun u t => u.startTile t true) w = u at honly hstarted
  refine ⟨honly.curtain.trans (hclear.curtain.trans hengines.curtain), fun k hk => ⟨?_, fun e he => ?_⟩, fun t ht2 ht => ?_, hstarted⟩
  · exact (congrArg (fun te => (smapGet TeStack.init te k).sr) (honly.te.trans hclear.te)).trans (hseeds k hk).1
  · have hfar : ∀ t, t < 2048 → ¬ InWindow t (R.TP_SR_SEED k e) := fun t ht hw => by
      simp only [InWindow, tileBase, R.TP_SR_SEED] at hw
      omega
    exact (honly.regs _ fun t ht => hfar t (h t ht).1).trans ((hclear.regs _ fun t ht => hfar t ht.2).trans ((hseeds k hk).2 e he))
  · obtain ⟨hcommit0, hcommit1, hmark⟩ := hout t ht2 ht
    rw [commitSet_congr honly.mem, commitSet_congr honly.mem, State.bit, honly.fld_other ht (f := R.TA_BANKCTL_MARK t) (inWindow_bankctl t)]
    exact ⟨hcommit0, hcommit1, hmark⟩

theorem execSceneStart_waits (h : s.curtain.starting = false) : execSceneStart s = .next s := by
  unfold execSceneStart
  rw [h]
  rfl

theorem execSceneStart_starts (h : s.curtain.starting = true) : execSceneStart s
    = .next (s.setCurtain { s.curtain with starting := false, running := true, firstIssue := some s.cue }).sceneStarted := by
  unfold execSceneStart
  rw [h]
  rfl

/-! ### STEP_START -/

/-- Between steps a tile restarts, or is armed, unless it stays halted or stopped. -/
def State.stepTile (s : State) (again : Bool) (t : Nat) : State :=
  if s.fld (R.TA_SEQ_STATE t) = seqHalted ∨ s.fld (R.TA_SEQ_STATE t) = seqStopped then (if again then s.startTile t false else s)
  else s.armTile t

/-- A tile whose sequencing state was `st`, after the first issue of a step. -/
def SteppedFrom (again : Bool) (st t : Nat) (u : State) : Prop :=
  if again = true ∨ st ≠ seqHalted ∧ st ≠ seqStopped then u.Armed t else u.fld (R.TA_SEQ_STATE t) = st

theorem stepTile_spec (s : State) (again : Bool) (t : Nat) :
    TilesOnly (· = t) s (s.stepTile again t) ∧ SteppedFrom again (s.fld (R.TA_SEQ_STATE t)) t (s.stepTile again t) := by
  unfold State.stepTile SteppedFrom
  by_cases hst : s.fld (R.TA_SEQ_STATE t) = seqHalted ∨ s.fld (R.TA_SEQ_STATE t) = seqStopped
  · rw [if_pos hst]
    cases again
    · rw [if_neg Bool.false_ne_true, if_neg (by rintro (h | ⟨h1, h2⟩); exacts [absurd h (by decide), hst.elim h1 h2])]
      exact ⟨tilesOnly_refl _ s, rfl⟩
    · obtain ⟨honly, ⟨harmed, _⟩, _⟩ := startTile_spec s t false (fun h => absurd h (by decide))
      rw [if_pos rfl, if_pos (.inl rfl)]
      exact ⟨honly, harmed⟩
  · rw [if_neg hst, if_pos (.inr ⟨fun h => hst (.inl h), fun h => hst (.inr h)⟩)]
    exact ⟨tilesOnly_armTile s t, armed_armTile s t⟩

theorem SteppedFrom.other {again : Bool} {st : Nat} (h : SteppedFrom again st t s) (g : TilesOnly T s u) (ht : ¬ T t) :
    SteppedFrom again st t u := by
  have hseq : InWindow t (R.TA_SEQ t) := (inWindow_TA t).1
  have hstate := g.fld_other ht (f := R.TA_SEQ_STATE t) hseq
  have hresume := g.fld_other ht (f := R.TA_SEQ_RESUME t) hseq
  unfold SteppedFrom State.Armed at *
  rw [hstate, hresume]
  exact h

/-- A tile met twice is left as one met once. -/
theorem SteppedFrom.twice {again : Bool} {st : Nat} (h : SteppedFrom again st t s) (g : SteppedFrom again (s.fld (R.TA_SEQ_STATE t)) t u) :
    SteppedFrom again st t u := by
  unfold SteppedFrom at h g ⊢
  by_cases hc : again = true ∨ st ≠ seqHalted ∧ st ≠ seqStopped
  · rw [if_pos hc] at h ⊢
    rw [if_pos (.inr (by rw [h.1]; decide))] at g
    exact g
  · rw [if_neg hc] at h ⊢
    rw [h, if_neg hc] at g
    exact g

theorem stepTiles_spec (again : Bool) (l : List Nat) : ∀ s : State, TilesOnly (· ∈ l) s (l.foldl (fun u t => u.stepTile again t) s)
    ∧ ∀ t ∈ l, SteppedFrom again (s.fld (R.TA_SEQ_STATE t)) t (l.foldl (fun u t => u.stepTile again t) s) := by
  induction l with
  | nil => exact fun s => ⟨tilesOnly_refl _ s, fun _ ht => absurd ht List.not_mem_nil⟩
  | cons i l ih =>
    intro s
    obtain ⟨honly, hstep⟩ := stepTile_spec s again i
    obtain ⟨hrest, hall⟩ := ih (s.stepTile again i)
    refine ⟨(honly.mono fun t ht => ht ▸ List.mem_cons_self).trans (hrest.mono fun t ht => List.mem_cons_of_mem i ht), fun t ht => ?_⟩
    by_cases hti : t = i
    · subst hti
      by_cases htl : t ∈ l
      · exact hstep.twice (hall t htl)
      · exact hstep.other hrest htl
    · have h := hall t ((List.mem_cons.mp ht).resolve_left hti)
      rw [honly.fld_other hti (f := R.TA_SEQ_STATE t) (inWindow_TA t).1] at h
      exact h

/-! #### The commands that end with the steps -/

/-- Only status rings, the host's records and the counts of waiting commands change. -/
structure HostOnly (s u : State) : Prop where
  regs : ∀ a, a ≠ R.BT_JOB → a ≠ R.BK_STATUS → u.reg a = s.reg a
  bytes : ∀ a, a < ringBase 0 → u.byte a = s.byte a
  rest : ({ u with regs := [], mem := [], host := s.host } : State) = { s with regs := [], mem := [] }

theorem HostOnly.trans (h : HostOnly s u) (g : HostOnly u w) : HostOnly s w :=
  ⟨fun a h1 h2 => (g.regs a h1 h2).trans (h.regs a h1 h2), fun a ha => (g.bytes a ha).trans (h.bytes a ha),
    (congrArg (fun v : State => ({ v with host := s.host } : State)) g.rest).trans h.rest⟩

theorem hostOnly_refl (s : State) : HostOnly s s := ⟨fun _ _ _ => rfl, fun _ _ => rfl, rfl⟩

theorem HostOnly.curtain (h : HostOnly s u) : u.curtain = s.curtain := (congrArg State.curtain h.rest :)
theorem HostOnly.scene (h : HostOnly s u) : u.scene = s.scene := (congrArg State.scene h.rest :)
theorem HostOnly.job (h : HostOnly s u) : u.job = s.job := (congrArg State.job h.rest :)
theorem HostOnly.tiles (h : HostOnly s u) : u.tiles = s.tiles := (congrArg State.tiles h.rest :)

theorem HostOnly.fld (h : HostOnly s u) {f : Fld} (h1 : f.addr ≠ R.BT_JOB) (h2 : f.addr ≠ R.BK_STATUS) : u.fld f = s.fld f :=
  fld_congr (h.regs f.addr h1 h2)

theorem hostOnly_host (s : State) (x : HostState) : HostOnly s { s with host := x } := ⟨fun _ _ _ => rfl, fun _ _ => rfl, rfl⟩

theorem hostOnly_setBytes (s : State) {a : Nat} (l : List Byte) (h : ringBase 0 ≤ a) : HostOnly s (s.setBytes a l) := by
  have hb : ∀ c, c < ringBase 0 → (s.setBytes a l).byte c = s.byte c := fun c hc => byte_setBytes_outside l s (.inl (by omega))
  obtain ⟨m, hm⟩ := setBytes_eq l s a
  rw [hm] at hb ⊢
  exact ⟨fun _ _ _ => rfl, hb, rfl⟩

theorem ringBase_le (n o : Nat) : ringBase 0 ≤ ringBase n + o := by
  unfold ringBase
  omega

theorem hostOnly_notifyEntry (s : State) (n : Nat) (b : List Byte) : HostOnly s (s.notifyEntry n b) := by
  unfold State.notifyEntry
  split
  · exact hostOnly_refl s
  · split
    · exact hostOnly_refl s
    · exact hostOnly_host s _

theorem hostOnly_writeStatus (s : State) (n : Nat) (e : StEntry) : HostOnly s (s.writeStatus n e) := by
  unfold State.writeStatus
  extract_lets pi b
  have hentry : HostOnly s (s.setBytes (ringBase n + 0x100000 + pi % 1024 * 64) b) :=
    hostOnly_setBytes s b (by rw [Nat.add_assoc]; exact ringBase_le n _)
  have hidx : HostOnly _ ((s.setBytes (ringBase n + 0x100000 + pi % 1024 * 64) b).setRingIdx n offStsPi (pi + 1)) :=
    hostOnly_setBytes _ _ (ringBase_le n _)
  exact (hentry.trans hidx).trans (hostOnly_notifyEntry _ n b)

theorem hostOnly_putStatus (s : State) (n cmd : Nat) (e : StEntry) : HostOnly s (s.putStatus n cmd e) := by
  unfold State.putStatus
  split
  · exact hostOnly_refl s
  · split
    · exact hostOnly_host s _
    · exact hostOnly_writeStatus s n e

theorem hostOnly_setFld (s : State) {f : Fld} (v : Nat) (h : f.addr = R.BT_JOB ∨ f.addr = R.BK_STATUS) : HostOnly s (s.setFld f v) :=
  ⟨fun _ h1 h2 => reg_setFld_ne s fun e => h.elim (fun hf => h1 (e.trans hf)) (fun hf => h2 (e.trans hf)),
    fun a _ => byte_setFld s f v a, rfl⟩

theorem hostOnly_showJobs (s : State) : HostOnly s s.showJobs :=
  (hostOnly_setFld s _ (.inl rfl)).trans (hostOnly_setFld _ _ (.inr rfl))

theorem hostOnly_cmdGone (s : State) (c : CmdRec) : HostOnly s (s.cmdGone c) := (hostOnly_host s _).trans (hostOnly_showJobs _)

/-- A command that is done changes nothing but what the host sees. -/
theorem hostOnly_cmdDone (s : State) (c : CmdRec) (code : Nat) (detail : List Byte) : HostOnly s (s.cmdDone c code detail) :=
  (hostOnly_cmdGone s c).trans (hostOnly_putStatus _ _ _ _)

theorem hostOnly_endCmds (s : State) (o : Nat) (pick : CmdRec → Bool) (code : Nat) (detail : List Byte) :
    HostOnly s (s.endCmds o pick code detail) :=
  List.foldlRecOn _ _ (motive := fun u => HostOnly s u) (hostOnly_refl s) fun u hu c _ => hu.trans (hostOnly_cmdDone u c code detail)

/-! #### The tiles of a scene -/

theorem ofLe_lt (l : List Byte) : ofLe l < 256 ^ l.length := by
  induction l with
  | nil => decide
  | cons b l ih =>
    have hb := b.isLt
    rw [ofLe, List.length_cons, Nat.pow_succ]
    omega

/-- An image names its tiles by 16 bits. -/
theorem sceneTiles_lt {images : List (List Byte)} {t : Nat} (h : t ∈ sceneTiles images) : t < 65536 := by
  obtain ⟨l, _, ht⟩ := List.mem_flatMap.mp h
  obtain ⟨p, hp, rfl⟩ := List.mem_map.mp (show t ∈ (secEntries l (imgSec l 0x18) 2).map Prod.snd from ht)
  obtain ⟨i, _, rfl⟩ := List.mem_map.mp hp
  refine (ofLe_lt _).trans_le (Nat.pow_le_pow_right (by decide) ?_ : 256 ^ _ ≤ 256 ^ 2)
  exact List.length_take_le 2 _

theorem status_outside {t : Nat} (h : t < 65536) : ¬ InWindow t R.CU_STATUS := by
  unfold InWindow tileBase R.CU_STATUS
  omega

/-! #### The command -/

/-- A curtain is over and its verdict applied: STEP_START asks for the cue, the gap's work and a stop. -/
structure Between (s : State) (k : Nat) : Prop where
  running : s.curtain.running = true
  announced : s.curtain.announced = some k
  applied : s.curtain.applied = true
  noResume : s.curtain.resumeAt = none

theorem Between.over (h : Between s k) : s.curtainOver = decide (k + 64 ≤ s.cue) := by
  unfold State.curtainOver
  rw [h.announced, h.applied]
  rfl

theorem execStepStart_waits (h : Between s k) (hw : s.cue < k + 64 ∨ s.gapWork = true) : execStepStart s = .next s := by
  unfold execStepStart
  rw [h.noResume, h.running, h.over]
  rcases hw with hw | hw
  · rw [decide_eq_false (by omega)]
    rfl
  · rw [hw]
    simp

theorem execStepStart_idle (h : s.curtain.running = false) : execStepStart s = .next s := by
  unfold execStepStart
  rw [h]
  rfl

/-- The curtain's phase is over. -/
def State.phaseOver (s : State) : State := s.setFld R.CU_STATUS_CURTAIN_PHASE 0

theorem execStepStart_due (h : Between s k) (hk : k + 64 ≤ s.cue) (hgap : s.gapWork = false) : execStepStart s
    = .next (if s.curtain.stopAsked || s.curtain.left == some 0 then s.phaseOver.stopSteps
        else s.tilesOfScene.foldl (fun u t => u.stepTile (s.curtain.verdict == some false) t)
          (s.phaseOver.setCurtain (s.curtain.next s.phaseOver.cue))) := by
  unfold execStepStart
  rw [h.noResume, h.running, h.over, hgap, decide_eq_true hk]
  by_cases hstop : (s.curtain.stopAsked || s.curtain.left == some 0) = true
  · rw [if_pos hstop]
    exact if_pos hstop
  · rw [if_neg hstop]
    exact if_neg hstop

theorem phaseOver_phase (s : State) : s.phaseOver.fld R.CU_STATUS_CURTAIN_PHASE = 0 := fld_setFld_zero s (by decide)

theorem phaseOver_cue (s : State) : s.phaseOver.cue = s.cue := congrArg BitVec.toNat (reg_setFld_ne s (by decide))

/-- The steps stop with this curtain. -/
theorem stopSteps_spec (s : State) : HostOnly
    (s.setCurtain { (s.curtain.next s.cue) with running := false, firstIssue := none, left := none, stopAsked := false }) s.stopSteps :=
  (hostOnly_endCmds _ _ _ _ _).trans (hostOnly_endCmds _ _ _ _ _)

end Sys2Proof.Machine
end

section
namespace Sys2Proof.Claim
open Sys2Proof.Machine

/-- Settles O32: what a start does stays in its tile's window, so that each tile is left as its own start leaves it, whatever the others. -/
theorem firstIssuesOfStepAndScene : Obligations.FirstIssuesOfStepAndScene := by
  intro s
  refine ⟨fun hstart htiles => ?_, fun hstart => (exec_sceneStart s).trans (execSceneStart_waits hstart),
    fun k hrun hann happ hres => ⟨fun hw => ?_, fun hk hgap hstop => ?_, fun hk hgap hask hleft hverdict => ?_⟩,
    fun hrun => (exec_stepStart s).trans (execStepStart_idle hrun)⟩
  · obtain ⟨hcurtain, hengines, hout, hin⟩ := sceneStarted_spec
      (s.setCurtain { s.curtain with starting := false, running := true, firstIssue := some s.cue }) htiles
    refine ⟨_, (exec_sceneStart s).trans (execSceneStart_starts hstart), hcurtain, hengines, hout, fun t ht => ?_⟩
    obtain ⟨⟨hstate, hresume⟩, hc⟩ := hin t ht
    exact ⟨hstate, hresume, hc.vl, hc.halt, hc.gen, hc.sr⟩
  · exact (exec_stepStart s).trans (execStepStart_waits ⟨hrun, hann, happ, hres⟩ hw)
  · have hstop' : (s.curtain.stopAsked || s.curtain.left == some 0) = true := by
      rcases hstop with h | h <;> rw [h]
      · rfl
      · exact Bool.or_true _
    have hdue := execStepStart_due ⟨hrun, hann, happ, hres⟩ hk hgap
    rw [if_pos hstop'] at hdue
    have hends := stopSteps_spec s.phaseOver
    have hphase : s.phaseOver.stopSteps.fld R.CU_STATUS_CURTAIN_PHASE = 0 := (hends.fld (by decide) (by decide)).trans (phaseOver_phase s)
    refine ⟨_, (exec_stepStart s).trans hdue, ?_, ?_, ?_, hphase, hends.tiles⟩ <;> rw [hends.curtain] <;> rfl
  · have hstop' : ¬ (s.curtain.stopAsked || s.curtain.left == some 0) = true := by
      rw [hask, Bool.false_or, beq_iff_eq]
      exact hleft
    have hdue := execStepStart_due ⟨hrun, hann, happ, hres⟩ hk hgap
    rw [if_neg hstop', phaseOver_cue] at hdue
    obtain ⟨honly, hstep⟩ := stepTiles_spec (s.curtain.verdict == some false) s.tilesOfScene
      (s.phaseOver.setCurtain (s.curtain.next s.cue))
    have hphase : (s.phaseOver.setCurtain (s.curtain.next s.cue)).fld R.CU_STATUS_CURTAIN_PHASE = 0 := phaseOver_phase s
    have hstates : ∀ t, t < 2048 → (s.phaseOver.setCurtain (s.curtain.next s.cue)).fld (R.TA_SEQ_STATE t) = s.fld (R.TA_SEQ_STATE t) :=
      fun t ht => fld_setFld_ne s (by simp only [R.TA_SEQ_STATE, R.CU_STATUS_CURTAIN_PHASE]; omega)
    have hmem : (s.phaseOver.setCurtain (s.curtain.next s.cue)).mem = s.mem := rfl
    have hcurtain : (s.phaseOver.setCurtain (s.curtain.next s.cue)).curtain = s.curtain.next s.cue := rfl
    generalize s.phaseOver.setCurtain (s.curtain.next s.cue) = w at honly hstep hphase hstates hmem hcurtain hdue
    refine ⟨_, (exec_stepStart s).trans hdue, ?_, ?_, ?_, ?_, honly.mem.trans hmem, fun t ht => ?_⟩
    · rw [honly.curtain, hcurtain]
      rfl
    · rw [honly.curtain, hcurtain]
      rfl
    · rw [honly.curtain, hcurtain]
      rfl
    · exact (fld_congr (honly.regs R.CU_STATUS fun t ht => status_outside (sceneTiles_lt ht))).trans hphase
    · by_cases htl : t ∈ s.tilesOfScene
      · have h := hstep t htl
        rw [hstates t ht] at h
        unfold SteppedFrom State.Armed at h
        simpa only [htl, true_and, beq_iff_eq] using h
      · rw [if_neg (fun hc => htl hc.1)]
        exact (honly.fld_other htl (f := R.TA_SEQ_STATE t) (inWindow_TA t).1).trans (hstates t ht)

end Sys2Proof.Claim
end

section
/-!
PROOFS. What a booth core's read leaves alone (O33): the tiles' registers, the scene and the job.
-/
namespace Sys2Proof.Machine
open Sys2Proof.Claim

/-- Nothing of the tiles' registers, the scene or the job changes. -/
structure Apart (s u : State) : Prop where
  regs : ∀ a, a < R.BT_JOB → u.reg a = s.reg a
  scene : u.scene = s.scene
  job : u.job = s.job

theorem Apart.refl (s : State) : Apart s s := ⟨fun _ _ => rfl, rfl, rfl⟩

theorem Apart.trans {s u w : State} (h : Apart s u) (g : Apart u w) : Apart s w :=
  ⟨fun a ha => (g.regs a ha).trans (h.regs a ha), g.scene.trans h.scene, g.job.trans h.job⟩

theorem apart_foldl {α : Type} {f : State → α → State} (hf : ∀ t x, Apart t (f t x)) (l : List α) (s : State) : Apart s (l.foldl f s) :=
  List.foldlRecOn l f (motive := fun u => Apart s u) (.refl s) fun t ht x _ => ht.trans (hf t x)

/-- A fold that carries more than the state. -/
theorem apart_foldl_snd {α β : Type} {f : β × State → α → β × State} (hf : ∀ y x, Apart y.2 (f y x).2) (l : List α) (y : β × State) :
    Apart y.2 (l.foldl f y).2 :=
  List.foldlRecOn l f (motive := fun z => Apart y.2 z.2) (.refl _) fun z hz x _ => hz.trans (hf z x)

/-! ### Registers, memory, marks -/

theorem shared_add {b : Nat} (h : R.BT_JOB ≤ b) (k : Nat) : R.BT_JOB ≤ b + k := Nat.le_add_right_of_le h

theorem shared_add₂ {b : Nat} (h : R.BT_JOB ≤ b) (j k : Nat) : R.BT_JOB ≤ b + j + k := shared_add (shared_add h j) k

theorem apart_setReg (s : State) {a : Nat} (v : Word) (h : R.BT_JOB ≤ a) : Apart s (s.setReg a v) :=
  ⟨fun _ hb => reg_setReg_ne s v (Nat.ne_of_lt (Nat.lt_of_lt_of_le hb h)), rfl, rfl⟩
theorem apart_setFld (s : State) {f : Fld} (v : Nat) (h : R.BT_JOB ≤ f.addr) : Apart s (s.setFld f v) := apart_setReg s _ h
theorem apart_addFld (s : State) {f : Fld} (n : Nat) (h : R.BT_JOB ≤ f.addr) : Apart s (s.addFld f n) := apart_setFld s _ h
theorem apart_noteEvt (s : State) (f : Fld) (n : Nat) : Apart s (s.noteEvt f n) := ⟨fun _ _ => rfl, rfl, rfl⟩
theorem apart_raiseFld (s : State) {f : Fld} (h : R.BT_JOB ≤ f.addr) : Apart s (s.raiseFld f) :=
  (apart_noteEvt s f 1).trans (apart_setFld _ 1 h)
theorem apart_countFld (s : State) {f : Fld} (n : Nat) (h : R.BT_JOB ≤ f.addr) : Apart s (s.countFld f n) :=
  (apart_noteEvt s f n).trans (apart_addFld _ n h)
theorem apart_setPoison (s : State) (u : Nat) (p : Bool) : Apart s (s.setPoison u p) := ⟨fun _ _ => rfl, rfl, rfl⟩
theorem apart_setLine (s : State) (g : Nat) (l : CLine) : Apart s (s.setLine g l) := ⟨fun _ _ => rfl, rfl, rfl⟩
theorem apart_setFlaw (s : State) (u k : Nat) : Apart s (s.setFlaw u k) := ⟨fun _ _ => rfl, rfl, rfl⟩
theorem apart_setLine_clock (s : State) (g : Nat) (l : CLine) (n : Nat) : Apart s { s.setLine g l with cacheClock := n } :=
  ⟨fun _ _ => rfl, rfl, rfl⟩

theorem apart_setBytes (l : List Byte) (s : State) (a : Nat) : Apart s (s.setBytes a l) := by
  obtain ⟨m, h⟩ := setBytes_eq l s a
  rw [h]
  exact ⟨fun _ _ => rfl, rfl, rfl⟩

theorem HostOnly.apart {s u : State} (h : HostOnly s u) : Apart s u :=
  ⟨fun a ha => h.regs a (Nat.ne_of_lt ha) (Nat.ne_of_lt (Nat.lt_trans ha (by decide))), h.scene, h.job⟩

/-! ### The promptbook and the risk estimate -/

theorem apart_pbHand (s : State) (l : List PbIn) : Apart s (s.pbHand l) := by
  have hc := apart_countFld s (f := R.BT_PB_INFO_DROPPED) l.length (by decide)
  obtain ⟨pb, h | h⟩ := pbHand_cases s l
  · rw [h]
    exact ⟨fun _ _ => rfl, rfl, rfl⟩
  · rw [h]
    generalize s.countFld R.BT_PB_INFO_DROPPED l.length = u at hc
    exact hc.trans ⟨fun _ _ => rfl, rfl, rfl⟩

theorem apart_pbEntry (s : State) (kind source code detail : Nat) : Apart s (s.pbEntry kind source code detail) := apart_pbHand s _

theorem apart_memEntry (s : State) (mid code addr : Nat) : Apart s (s.memEntry mid code addr) := by
  obtain h | ⟨seen, l, h⟩ := memEntry_cases s mid code addr
  · rw [h]
    exact .refl s
  · have hp := apart_pbHand s l
    rw [h]
    generalize s.pbHand l = u at hp
    exact hp.trans ⟨fun _ _ => rfl, rfl, rfl⟩

theorem apart_memEvent (s : State) (mid code detail : Nat) : Apart s (s.memEvent mid code detail) := by
  unfold State.memEvent
  split
  · exact .refl s
  · have hp := apart_pbEntry s pbEvent mid code detail
    generalize s.pbEntry pbEvent mid code detail = u at hp
    exact hp.trans ⟨fun _ _ => rfl, rfl, rfl⟩

theorem apart_eventStatus (s : State) (code : Nat) (d : List Byte) : Apart s (s.eventStatus code d) := by
  unfold State.eventStatus
  dsimp only
  split
  · exact ((hostOnly_putStatus s 0 0 _).trans (hostOnly_putStatus _ _ 0 _)).apart
  · exact (hostOnly_putStatus s 0 0 _).apart

theorem apart_hostEvent (s : State) (mid code detail : Nat) : Apart s (s.hostEvent mid code detail) := by
  unfold State.hostEvent
  split
  · exact apart_pbHand s _
  · exact (apart_pbEntry s _ _ _ _).trans (apart_eventStatus _ _ _)

theorem apart_reportRisk (s : State) : Apart s s.reportRisk := by
  unfold State.reportRisk
  extract_lets e go u
  have hu : Apart s u := ⟨fun _ _ => rfl, rfl, rfl⟩
  by_cases hgo : (!go) = true
  · rw [if_pos hgo]
    exact .refl s
  · rw [if_neg hgo]
    split
    · exact hu
    · exact hu.trans ⟨fun _ _ => rfl, rfl, rfl⟩

theorem apart_jobRisk (s : State) : Apart s s.jobRisk := by
  unfold State.jobRisk
  split
  · exact (apart_setFld s _ (by decide)).trans (apart_setFld _ _ (by decide))
  · exact .refl s

theorem apart_reRisk (s : State) : Apart s s.reRisk := by
  unfold State.reRisk
  extract_lets f e old u w
  have hu : Apart s u := ((apart_setFld s f (by decide)).trans (apart_setFld _ e (by decide))).trans (apart_setFld _ _ (by decide))
  have hw : Apart u w := by
    change Apart u (if riskBand e = old then u else u.hostEvent 5 0xAD (u.mySeat * 2 ^ 32 + u.fld R.CU_STEP_STEP))
    split
    · exact .refl u
    · exact apart_hostEvent u _ _ _
  exact ((hu.trans hw).trans (apart_reportRisk w)).trans (apart_jobRisk _)

theorem apart_health (s : State) (n : Nat) : Apart s (s.health n) := (apart_setFld s _ (by decide)).trans (apart_reRisk _)

/-! ### The cache -/

theorem apart_storeLine (s : State) (g : Nat) (l : CLine) : Apart s (s.storeLine g l) :=
  (apart_setBytes _ s _).trans (apart_foldl (fun _ _ => apart_setPoison _ _ _) _ _)

theorem apart_writeBack (s : State) (g : Nat) : Apart s (s.writeBack g) := by
  unfold State.writeBack
  dsimp only
  split
  · exact ((apart_storeLine s g _).trans (apart_setLine _ _ _)).trans (apart_addFld _ (f := R.WG_WRITEBACKS_COUNT _) 1 (shared_add (by decide) _))
  · exact .refl s

theorem apart_flushLine (s : State) (g : Nat) : Apart s (s.flushLine g) := (apart_writeBack s g).trans (apart_setLine _ _ _)

theorem apart_allocLine (s : State) (g : Nat) (keep : Bool) : Apart s (s.allocLine g keep) := by
  unfold State.allocLine
  extract_lets cs same u psn
  have hu : Apart s u := by
    by_cases h : same.length < 16
    · exact (if_pos h : u = s) ▸ .refl s
    · have hv : u = (match victimOf same with | some v => s.flushLine v | none => s) := if_neg h
      rw [hv]
      split
      · exact apart_flushLine s _
      · exact .refl s
  exact hu.trans ⟨fun _ _ => rfl, rfl, rfl⟩

theorem apart_setTrapPoison (s : State) (u : Nat) (p : Bool) : Apart s (s.setTrapPoison u p) := by
  unfold State.setTrapPoison
  dsimp only
  split
  · exact apart_setLine s _ _
  · exact apart_setPoison s u p

theorem apart_cacheOnRead (s : State) (a len hint : Nat) (narrow : Bool) : Apart s (s.cacheOnRead a len hint narrow) := by
  unfold State.cacheOnRead
  extract_lets g d l u _ w
  have hu : Apart s u := apart_addFld s (f := R.WG_HITS_COUNT d) 1 (shared_add (by decide) _)
  have hw : Apart s w := apart_addFld s (f := R.WG_MISSES_COUNT d) 1 (shared_add (by decide) _)
  split
  · exact .refl s
  · split
    · split
      · exact hu
      · split
        · exact hu.trans (apart_setLine_clock _ _ _ _)
        · split
          · exact hu.trans (apart_setLine _ _ _)
          · split
            · exact (hu.trans (apart_setLine _ _ _)).trans (apart_addFld _ (f := R.WG_DROPS_COUNT d) 1 (shared_add (by decide) _))
            · exact hu
    · split
      · exact hw
      · exact hw.trans (apart_allocLine _ _ _)

/-! ### Errors that a read meets -/

theorem apart_watch (s : State) (m : SMap (List WatchEnt)) : Apart s { s with watch := m } := ⟨fun _ _ => rfl, rfl, rfl⟩

theorem apart_watchError (s : State) (mid st loc a : Nat) : Apart s (s.watchError mid st loc a) := by
  unfold State.watchError
  extract_lets u r w th
  have hw : Apart s w := (apart_countFld s (f := R.TP_ECC_CORRECTED st) 1 (shared_add (by decide) _)).trans
    (apart_watch u _)
  by_cases h : th ≠ 0 ∧ r.2 = th
  · rw [if_pos h]
    exact (hw.trans (apart_memEvent w _ _ _)).trans (apart_health _ _)
  · rw [if_neg h]
    exact hw

theorem apart_correctedInTile (s : State) (mid t d : Nat) :
    Apart s (if s.corrSeen.contains t then s else { (s.pbEntry pbCorrected mid 0 d) with corrSeen := t :: s.corrSeen }) := by
  split
  · exact .refl s
  · have hp := apart_pbEntry s pbCorrected mid 0 d
    generalize s.pbEntry pbCorrected mid 0 d = u at hp
    exact hp.trans ⟨fun _ _ => rfl, rfl, rfl⟩

theorem apart_eccCorrected (s : State) (mid : Nat) (r : Region) (a : Nat) : Apart s (s.eccCorrected mid r a) := by
  cases r with
  | trap st loc =>
    unfold State.eccCorrected
    dsimp only
    split
    · exact apart_countFld s (f := R.WG_ECC_CORRECTED st) 1 (shared_add (by decide) _)
    · exact apart_watchError s _ _ _ _
  | wings d o => exact apart_countFld s (f := R.WG_ECC_CORRECTED d) 1 (shared_add (by decide) _)
  | tbank t b => exact apart_pbEntry s pbCorrected (tileMid t) 0 (s.mySeat * 2 ^ 44 + a)
  | tdata t => exact apart_correctedInTile s mid t (s.mySeat * 2 ^ 44 + a)
  | tacc t => exact apart_correctedInTile s mid t (s.mySeat * 2 ^ 44 + a)
  | tshadow t => exact apart_correctedInTile s mid t (s.mySeat * 2 ^ 44 + a)
  | tpmem t => exact apart_correctedInTile s mid t (s.mySeat * 2 ^ 44 + a)
  | tregs t => exact .refl s
  | breg b => exact .refl s
  | ring => exact .refl s
  | unmapped => exact .refl s

theorem apart_errLog (s : State) (st cause u mid : Nat) : Apart s (s.errLog st cause u mid) := by
  have h0 : R.BT_JOB ≤ R.TP_ERRLOG0 st := shared_add (by decide) _
  have h1 : R.BT_JOB ≤ R.TP_ERRLOG1 st := shared_add (by decide) _
  unfold State.errLog
  split
  · exact .refl s
  · exact ((((apart_raiseFld s h0).trans (apart_setFld _ _ h0)).trans (apart_setFld _ _ h0)).trans (apart_setFld _ _ h1)).trans
      (apart_setFld _ _ h1)

theorem apart_eccUncorrectable (s : State) (mid : Nat) (r : Region) (a : Nat) : Apart s (s.eccUncorrectable mid r a) := by
  cases r with
  | trap st loc =>
    unfold State.eccUncorrectable
    dsimp only
    split
    · exact (apart_setTrapPoison s _ _).trans (apart_countFld _ (f := R.WG_ECC_UNCORR st) 1 (shared_add (by decide) _))
    · exact ((apart_setPoison s _ _).trans (apart_countFld _ (f := R.TP_ECC_UNCORR st) 1 (shared_add (by decide) _))).trans
        (apart_errLog _ _ _ _ _)
  | wings d o =>
    exact (apart_setPoison s (unitBase (.wings d o) a) true).trans (apart_countFld _ (f := R.WG_ECC_UNCORR d) 1 (shared_add (by decide) _))
  | tdata t => exact apart_setPoison s (unitBase (.tdata t) a) true
  | tacc t => exact apart_setPoison s (unitBase (.tacc t) a) true
  | tshadow t => exact apart_setPoison s (unitBase (.tshadow t) a) true
  | tpmem t => exact apart_setPoison s (unitBase (.tpmem t) a) true
  | tbank t b => exact .refl s
  | tregs t => exact .refl s
  | breg b => exact .refl s
  | ring => exact .refl s
  | unmapped => exact .refl s

theorem apart_meetFlaw (s : State) (mid u : Nat) : Apart s (s.meetFlaw mid u).2 := by
  unfold State.meetFlaw
  dsimp only
  split
  · exact .refl s
  · split
    · exact (apart_eccCorrected s _ _ _).trans (apart_setFlaw _ _ _)
    · refine (apart_eccUncorrectable s mid (regionOf s.cacheN u) u).trans (Apart.trans ?_ (apart_setFlaw _ _ _))
      split
      · exact apart_memEntry _ _ _ _
      · exact .refl _

theorem apart_meetFlaws (s : State) (mid a n : Nat) : Apart s (s.meetFlaws mid a n).2 := by
  unfold State.meetFlaws
  split
  · exact .refl s
  · exact apart_foldl_snd (f := fun (acc : Bool × State) u => (acc.1 || (acc.2.meetFlaw mid u).1, (acc.2.meetFlaw mid u).2))
      (fun acc u => apart_meetFlaw acc.2 mid u) _ (false, s)

/-! ### The read -/

theorem plant_noEcc (s : State) : s.plant noEcc = s := rfl

theorem apart_performRead (s : State) {q : MemReq} (hq : q.ecc = noEcc) (r : Region) : Apart s (s.performRead q r).2 := by
  have hm := apart_meetFlaws s q.mid q.addr q.len
  unfold State.performRead
  rw [hq, plant_noEcc]
  generalize s.meetFlaws q.mid q.addr q.len = f at hm
  cases r with
  | trap st loc =>
    refine hm.trans (Apart.trans ?_ (apart_foldl (fun _ _ => apart_cacheOnRead _ _ _ _ _) _ _))
    dsimp only
    split
    · exact apart_countFld f.2 (f := R.TP_ECC_POISON_READS st) 1 (shared_add (by decide) _)
    · exact .refl f.2
  | wings d o => exact hm
  | tbank t b => exact hm
  | tdata t => exact hm
  | tacc t => exact hm
  | tshadow t => exact hm
  | tpmem t => exact hm
  | tregs t => exact hm
  | breg b => exact hm
  | ring => exact hm
  | unmapped => exact hm

theorem apart_homeGrant (s : State) (r : Region) (i : HomeIn) : Apart s (s.homeGrant r i) := by
  unfold State.homeGrant
  split
  · exact ⟨fun _ _ => rfl, rfl, rfl⟩
  · exact .refl s

theorem apart_perform (s : State) {q : MemReq} (hq : q.ecc = noEcc) (hw : q.write = none) (r : Region) : Apart s (s.perform q r).2 := by
  unfold State.perform
  extract_lets u
  have hu : Apart s u := by
    change Apart s (if (masterOf q.mid).isEngine then s else s.homeGrant r q.input)
    split
    · exact .refl s
    · exact apart_homeGrant s r _
  rw [hw]
  exact hu.trans (apart_performRead u hq r)

theorem apart_atHome (s : State) {q : MemReq} (hq : q.ecc = noEcc) (hw : q.write = none) (r : Region) : Apart s (s.atHome q r).2 := by
  have hperform := apart_perform s hq hw r
  cases r with
  | trap st loc =>
    unfold State.atHome
    dsimp only
    split
    · exact (apart_errLog s _ _ _ _).trans (apart_memEntry _ _ _ _)
    · exact hperform
  | wings d o =>
    unfold State.atHome
    dsimp only
    split
    · exact apart_memEntry s _ _ _
    · exact hperform
  | tbank t b =>
    unfold State.atHome
    dsimp only
    rw [hw]
    exact hperform
  | tdata t => exact hperform
  | tacc t => exact hperform
  | tshadow t => exact hperform
  | tpmem t => exact hperform
  | tregs t => exact hperform
  | breg b => exact hperform
  | ring => exact hperform
  | unmapped => exact hperform

/-- A read by booth core 0 performs nothing on a register, and on the tiles' none at all. -/
theorem apart_memAccess (s : State) {q : MemReq} (hq : q.ecc = noEcc) (hw : q.write = none) (hm : q.mid = 1) :
    Apart s (s.memAccess q).2 := by
  have hnamed : (masterOf q.mid).named = false := by
    rw [hm]
    rfl
  unfold State.memAccess
  rw [hnamed]
  simp only [Bool.false_eq_true, if_false]
  have hrefuse : ∀ c, Apart s (s.memEntry q.mid c q.addr) := fun c => apart_memEntry s q.mid c q.addr
  split
  · exact hrefuse _
  · exact hrefuse _
  · next t _ =>
    rw [if_neg (by rw [hm]; unfold tileMid; omega)]
    exact hrefuse _
  · split
    · exact hrefuse _
    · split
      · exact hrefuse _
      · exact apart_atHome s hq hw _

theorem apart_access (s : State) {q : MemReq} (hq : q.ecc = noEcc) (hw : q.write = none) (hm : q.mid = 1) : Apart s (s.access q).2 := by
  have h := apart_memAccess s hq hw hm
  unfold State.access
  dsimp only
  split
  · exact h.trans (apart_memEntry _ _ _ _)
  · exact h

theorem apart_moverRead (s : State) (a n hint : Nat) (narrow : Bool) : Apart s (s.moverRead 1 a n hint narrow noEcc).2 :=
  List.foldlRecOn _ _ (motive := fun z : (List SrcByte × List (Nat × Nat) × List (Nat × Nat)) × State => Apart s z.2) (.refl s)
    fun z hz _ _ => hz.trans (apart_access z.2 rfl rfl rfl)

/-- The images are read without a change to what they are to be verified against and loaded into. -/
theorem apart_readImages (s : State) (c : CmdRec) : Apart s (s.readImages c).2 :=
  List.foldlRecOn _ _ (motive := fun z : List (List Byte) × State => Apart s z.2) (.refl s)
    fun z hz _ _ => hz.trans (apart_moverRead z.2 _ _ _ _)

end Sys2Proof.Machine
end

section
/-!
PROOFS. A write into a tile's bank (O33): every byte of memory after it, and the commit word.
-/
namespace Sys2Proof.Machine
open Sys2Proof.Claim

/-- The bytes of a bank write that lie below the commit word. -/
def State.bankCode (s : State) (cw a : Nat) (l : List (Byte × Nat)) : State :=
  l.foldl (fun v p => if cw ≤ a + p.2 then v else v.setByte (a + p.2) p.1) s

theorem bankWrite_eq (s : State) (t b a : Nat) (data : List Byte) : s.bankWrite t b a data
    = (s.bankCode (commitAddr t b) a data.zipIdx).setBytes (commitAddr t b)
      (if decide (a ≤ commitAddr t b) && decide (commitAddr t b + 16 ≤ a + data.length)
          && (ofLe ((data.drop (commitAddr t b - a)).take 16) % 2 == 1)
        then (data.drop (commitAddr t b - a)).take 16 else List.replicate 16 0) := by
  unfold State.bankWrite
  split
  · next h => rw [if_pos h]; rfl
  · next h => rw [if_neg h]; rfl

theorem bankCode_mem (cw a : Nat) (l : List (Byte × Nat)) : ∀ s : State, ∃ m, s.bankCode cw a l = { s with mem := m } := by
  induction l with
  | nil => exact fun s => ⟨s.mem, rfl⟩
  | cons p l ih =>
    intro s
    unfold State.bankCode
    rw [List.foldl_cons]
    split
    · exact ih s
    · exact ih (s.setByte (a + p.2) p.1)

/-- A bank write changes memory alone. -/
theorem bankWrite_mem (s : State) (t b a : Nat) (data : List Byte) : ∃ m, s.bankWrite t b a data = { s with mem := m } := by
  obtain ⟨m, hm⟩ := bankCode_mem (commitAddr t b) a data.zipIdx s
  rw [bankWrite_eq, hm]
  exact setBytes_eq _ _ _

theorem byte_bankCode_outside {cw a x : Nat} {l : List (Byte × Nat)} (h : ∀ p ∈ l, x ≠ a + p.2 ∨ cw ≤ x) :
    ∀ s : State, (s.bankCode cw a l).byte x = s.byte x := by
  induction l with
  | nil => exact fun _ => rfl
  | cons p l ih =>
    intro s
    have hl := ih fun q hq => h q (List.mem_cons_of_mem p hq)
    unfold State.bankCode at hl ⊢
    rw [List.foldl_cons, hl]
    split
    · rfl
    · next hp => exact byte_setByte_ne s p.1 (by have := h p List.mem_cons_self; omega)

theorem byte_bankCode_inside {cw a : Nat} (data : List Byte) : ∀ (n : Nat) (s : State) (i : Nat) (hi : i < data.length), a + n + i < cw →
    (s.bankCode cw a (data.zipIdx n)).byte (a + n + i) = data[i] := by
  induction data with
  | nil => exact fun _ _ i hi => absurd hi (Nat.not_lt_zero i)
  | cons b data ih =>
    intro n s i hi hcw
    rw [List.zipIdx_cons]
    change ((if cw ≤ a + n then s else s.setByte (a + n) b).bankCode cw a (data.zipIdx (n + 1))).byte (a + n + i) = _
    rw [if_neg (by omega)]
    cases i with
    | zero =>
      rw [byte_bankCode_outside fun p hp => .inl ?_]
      · exact byte_setByte_same s _ b
      · have := List.le_snd_of_mem_zipIdx hp
        omega
    | succ i =>
      have h := ih (n + 1) (s.setByte (a + n) b) i (Nat.lt_of_succ_lt_succ hi) (by omega)
      rw [show a + (n + 1) + i = a + n + (i + 1) by omega] at h
      exact h

/-- A byte below the commit word is the written one where the write reaches it. -/
theorem byte_bankWrite_inside (s : State) (t b a : Nat) (data : List Byte) {i : Nat} (hi : i < data.length) (h : a + i < commitAddr t b) :
    (s.bankWrite t b a data).byte (a + i) = data[i] := by
  rw [bankWrite_eq, byte_setBytes_outside _ _ (.inl h)]
  exact byte_bankCode_inside data 0 s i hi h

theorem byte_bankWrite_outside (s : State) (t b a : Nat) (data : List Byte) {x : Nat} (h : x < a ∨ a + data.length ≤ x)
    (hcw : x < commitAddr t b ∨ commitAddr t b + 16 ≤ x) : (s.bankWrite t b a data).byte x = s.byte x := by
  rw [bankWrite_eq, byte_setBytes_outside _ _ ?_]
  · refine byte_bankCode_outside (fun p hp => .inl ?_) s
    have := List.snd_lt_of_mem_zipIdx hp
    omega
  · refine hcw.imp_right fun hc => ?_
    split
    · rw [List.length_take]
      omega
    · rw [List.length_replicate]
      omega

/-- A whole commit word with SET commits. -/
structure Commits (t b a : Nat) (data : List Byte) : Prop where
  below : a ≤ commitAddr t b
  whole : commitAddr t b + 16 ≤ a + data.length
  set : ofLe ((data.drop (commitAddr t b - a)).take 16) % 2 = 1

theorem byte_bankWrite_commit {t b a : Nat} {data : List Byte} (h : Commits t b a data) (s : State) {i : Nat} (hi : i < 16) :
    (s.bankWrite t b a data).byte (commitAddr t b + i) = data[commitAddr t b - a + i]'(by have := h.below; have := h.whole; omega) := by
  have hlen : ((data.drop (commitAddr t b - a)).take 16).length = 16 := by
    have := h.below
    have := h.whole
    rw [List.length_take, List.length_drop]
    omega
  rw [bankWrite_eq, if_pos (by rw [decide_eq_true h.below, decide_eq_true h.whole, h.set]; rfl),
    byte_setBytes_inside _ _ _ i (by omega), List.getElem_take, List.getElem_drop]

/-- An odd number begins with an odd byte. -/
theorem ofLe_odd {l : List Byte} (h : ofLe l % 2 = 1) : ∃ hl : 0 < l.length, l[0].toNat % 2 = 1 := by
  cases l with
  | nil => exact absurd h (by decide)
  | cons b l =>
    refine ⟨Nat.succ_pos _, ?_⟩
    change (b.toNat + 256 * ofLe l) % 2 = 1 at h
    change b.toNat % 2 = 1
    omega

theorem commitSet_bankWrite_commit {t b a : Nat} {data : List Byte} (h : Commits t b a data) (s : State) :
    (s.bankWrite t b a data).commitSet t b = true := by
  obtain ⟨hl, hodd⟩ := ofLe_odd h.set
  have hbyte := byte_bankWrite_commit h s (i := 0) (by decide)
  unfold State.commitSet
  rw [beq_iff_eq]
  rw [List.getElem_take, List.getElem_drop] at hodd
  rw [Nat.add_zero] at hbyte
  rw [hbyte]
  exact hodd

/-- What is no whole commit word with SET clears the commit word. -/
theorem commitSet_bankWrite_clear {t b a : Nat} {data : List Byte} (h : ¬ Commits t b a data) (s : State) :
    (s.bankWrite t b a data).commitSet t b = false := by
  have hcond : ¬ (decide (a ≤ commitAddr t b) && decide (commitAddr t b + 16 ≤ a + data.length)
      && (ofLe ((data.drop (commitAddr t b - a)).take 16) % 2 == 1)) = true := fun hc => by
    simp only [Bool.and_eq_true, decide_eq_true_eq, beq_iff_eq] at hc
    obtain ⟨⟨hbelow, hwhole⟩, hset⟩ := hc
    exact h ⟨hbelow, hwhole, hset⟩
  have hbyte := byte_setBytes_inside (List.replicate 16 (0 : Byte)) (s.bankCode (commitAddr t b) a data.zipIdx) (commitAddr t b) 0 (by decide)
  unfold State.commitSet
  rw [bankWrite_eq, if_neg hcond]
  rw [Nat.add_zero] at hbyte
  rw [hbyte]
  decide

end Sys2Proof.Machine
end

section
/-!
PROOFS. The booth's writes into a bank (O33): one access, which the bank in use refuses.
-/
namespace Sys2Proof.Machine
open Sys2Proof.Claim

theorem regionOf_bank (n : Nat) (t : Tile) (bank : Fin 2) {off : Nat} (h : off < 0x20000) :
    regionOf n (tileBase t + 0x80000 + 0x20000 * bank + off) = .tbank t bank := by
  have ht := t.isLt
  have hb := bank.isLt
  unfold regionOf tileBase
  rw [if_neg (by omega), if_neg (by omega), if_pos (by omega),
    show (0x11000000000 + 0x100000 * t.val + 0x80000 + 0x20000 * bank.val + off - 0x11000000000) / 0x100000 = t.val by omega,
    show (0x11000000000 + 0x100000 * t.val + 0x80000 + 0x20000 * bank.val + off - 0x11000000000) % 0x100000 = 0x80000 + 0x20000 * bank.val + off
      by omega]
  unfold windowRegion
  rcases Nat.lt_or_ge bank.val 1 with h0 | h1
  · rw [if_neg (by omega), if_pos (by omega), show bank.val = 0 by omega]
  · rw [if_neg (by omega), if_neg (by omega), if_pos (by omega), show bank.val = 1 by omega]

theorem masterOf_booth (core : Fin 2) : masterOf (1 + core) = .booth core := by
  have h : ∀ c : Fin 2, masterOf (1 + c) = .booth c := by decide
  exact h core

theorem memAccess_bank {s : State} {q : MemReq} {t b : Nat} {core : Fin 2} (hr : regionOf s.cacheN q.addr = .tbank t b) (hm : q.mid = 1 + core) :
    s.memAccess q = s.atHome q (.tbank t b) := by
  unfold State.memAccess
  rw [hr, hm, masterOf_booth]
  rfl

theorem cleanFlaws_eq (s : State) (a n : Nat) : ∃ fl, s.cleanFlaws a n = { s with flaws := fl } := by
  unfold State.cleanFlaws
  split
  · exact ⟨s.flaws, rfl⟩
  · refine List.foldlRecOn _ _ (motive := fun u : State => ∃ fl, u = { s with flaws := fl }) ⟨s.flaws, rfl⟩ fun u hu x _ => ?_
    obtain ⟨fl, rfl⟩ := hu
    exact ⟨_, rfl⟩

/-- A booth write to the standby bank. -/
theorem boothBank_standby {s : State} {core : Fin 2} {t : Tile} {bank : Fin 2} {off : Nat} (h : s.bankInUse t ≠ bank.val) (hoff : off < 0x20000)
    (data : List Byte) : ∃ fl, s.boothBank core t bank off data
      = (({ s with flaws := fl } : State).bankWrite t bank (tileBase t + 0x80000 + 0x20000 * bank + off) data).send
          (.bus (1 + core) (tileBase t + 0x80000 + 0x20000 * bank + off) 0 []) := by
  have hr := regionOf_bank s.cacheN t bank hoff
  unfold State.boothBank
  generalize tileBase t + 0x80000 + 0x20000 * bank + off = a at hr ⊢
  obtain ⟨fl, hfl⟩ := cleanFlaws_eq s a data.length
  refine ⟨fl, ?_⟩
  have hhome : s.memAccess ⟨1 + core, a, data.length, some data, 0, false, noEcc, none⟩
      = (⟨0, [], [], 0⟩, ({ s with flaws := fl } : State).bankWrite t bank a data) := by
    rw [memAccess_bank (core := core) hr rfl, ← hfl]
    unfold State.atHome
    dsimp only
    rw [if_neg (by simp [h])]
    unfold State.perform
    dsimp only
    rw [masterOf_booth]
    rfl
  have haccess := access_of_cause_zero hhome rfl
  dsimp only
  rw [haccess]

/-- A booth write to the bank in use is refused. -/
theorem boothBank_inUse {s : State} {core : Fin 2} {t : Tile} {bank : Fin 2} {off : Nat} (h : s.bankInUse t = bank.val) (hoff : off < 0x20000)
    (data : List Byte) : s.boothBank core t bank off data
      = (s.pbEntry pbFault (1 + core) 0x10 (tileBase t + 0x80000 + 0x20000 * bank + off)).send
          (.bus (1 + core) (tileBase t + 0x80000 + 0x20000 * bank + off) 0x10 []) := by
  have hr := regionOf_bank s.cacheN t bank hoff
  unfold State.boothBank
  generalize tileBase t + 0x80000 + 0x20000 * bank + off = a at hr ⊢
  have hhome : s.memAccess ⟨1 + core, a, data.length, some data, 0, false, noEcc, none⟩
      = (⟨0x10, List.replicate data.length 0, [], 0⟩, s.pbEntry pbFault (1 + core) 0x10 a) := by
    rw [memAccess_bank (core := core) hr rfl]
    unfold State.atHome
    dsimp only
    rw [if_pos (by simp [h])]
  unfold State.access
  dsimp only
  rw [hhome]
  rfl

theorem byte_pbHand (s : State) (l : List PbIn) (x : Nat) : (s.pbHand l).byte x = s.byte x := by
  obtain ⟨pb, h | h⟩ := pbHand_cases s l
  · rw [h]
    rfl
  · have hc : (s.countFld R.BT_PB_INFO_DROPPED l.length).byte x = s.byte x :=
      byte_addFld (s.noteEvt R.BT_PB_INFO_DROPPED l.length) R.BT_PB_INFO_DROPPED l.length x
    rw [h]
    generalize s.countFld R.BT_PB_INFO_DROPPED l.length = u at hc
    exact hc

theorem byte_pbEntry (s : State) (kind source code detail x : Nat) : (s.pbEntry kind source code detail).byte x = s.byte x :=
  byte_pbHand s _ x

/-- What a booth write to a standby bank leaves. -/
theorem boothBank_spec {s : State} {core : Fin 2} {t : Tile} {bank : Fin 2} {off : Nat} (h : s.bankInUse t ≠ bank.val) (hoff : off < 0x20000)
    (data : List Byte) : ∃ v : State, v.mem = s.mem ∧ (∀ x, (s.boothBank core t bank off data).byte x
        = (v.bankWrite t bank (tileBase t + 0x80000 + 0x20000 * bank + off) data).byte x)
      ∧ (s.boothBank core t bank off data).regs = s.regs
      ∧ (s.boothBank core t bank off data).out = s.out ++ [.bus (1 + core) (tileBase t + 0x80000 + 0x20000 * bank + off) 0 []] := by
  obtain ⟨fl, hfl⟩ := boothBank_standby h hoff (core := core) data
  obtain ⟨m, hm⟩ := bankWrite_mem ({ s with flaws := fl } : State) t bank (tileBase t + 0x80000 + 0x20000 * bank + off) data
  refine ⟨{ s with flaws := fl }, rfl, fun x => by rw [hfl]; rfl, ?_, ?_⟩
  · rw [hfl, hm]
    rfl
  · rw [hfl, hm]
    rfl

/-- A write below the commit word stores its bytes and clears the commit word. -/
theorem boothBank_code {s : State} {core : Fin 2} {t : Tile} {bank : Fin 2} {off : Nat} {data : List Byte} (h : s.bankInUse t ≠ bank.val)
    (hoff : off < 0x20000) (hdata : off + data.length ≤ 0x1FFF0) :
    let a := tileBase t + 0x80000 + 0x20000 * bank.val + off
    (s.boothBank core t bank off data).bytes a data.length = data ∧ (s.boothBank core t bank off data).commitSet t bank = false
      ∧ ∀ x, (x < a ∨ a + data.length ≤ x) → (x < commitAddr t bank ∨ commitAddr t bank + 16 ≤ x) →
        (s.boothBank core t bank off data).byte x = s.byte x := by
  intro a
  have hcw : a + data.length ≤ commitAddr t bank := by
    unfold commitAddr
    omega
  obtain ⟨v, hmem, hbyte, _⟩ := boothBank_spec h hoff (core := core) data
  have hno : ¬ Commits t bank a data := fun hc => by
    have := hc.whole
    omega
  refine ⟨List.ext_getElem (by simp [State.bytes]) fun i _ hi => ?_, ?_, fun x hx hxc => ?_⟩
  · simp only [State.bytes, List.getElem_map, List.getElem_range, hbyte]
    exact byte_bankWrite_inside v t bank a data hi (by omega)
  · exact (congrArg (fun b : Byte => b.toNat % 2 == 1) (hbyte _)).trans (commitSet_bankWrite_clear hno v)
  · rw [hbyte, byte_bankWrite_outside v t bank a data hx hxc]
    exact congrArg (fun m => smapGet memDefault m x) hmem

/-- A write that ends in a whole commit word with SET stores its bytes and commits. -/
theorem boothBank_commit {s : State} {core : Fin 2} {t : Tile} {bank : Fin 2} {off : Nat} {data : List Byte} (h : s.bankInUse t ≠ bank.val)
    (hoff : off ≤ 0x1FFF0) (hdata : off + data.length = 0x20000) (hset : ((data.drop (0x1FFF0 - off)).headD 0).toNat % 2 = 1) :
    let a := tileBase t + 0x80000 + 0x20000 * bank.val + off
    (s.boothBank core t bank off data).bytes a data.length = data ∧ (s.boothBank core t bank off data).commitSet t bank = true
      ∧ ∀ x, (x < a ∨ a + data.length ≤ x) → (s.boothBank core t bank off data).byte x = s.byte x := by
  intro a
  have hcw : commitAddr t bank = a + (0x1FFF0 - off) := by
    unfold commitAddr
    omega
  obtain ⟨v, hmem, hbyte, _⟩ := boothBank_spec h (Nat.lt_of_le_of_lt hoff (by decide)) (core := core) data
  have hword : ofLe ((data.drop (0x1FFF0 - off)).take 16) % 2 = 1 := by
    cases hd : data.drop (0x1FFF0 - off) with
    | nil =>
      rw [hd] at hset
      exact absurd hset (by decide)
    | cons b l =>
      rw [hd] at hset
      change (b.toNat + 256 * ofLe (l.take 15)) % 2 = 1
      change b.toNat % 2 = 1 at hset
      omega
  have hcommits : Commits t bank a data :=
    ⟨by omega, by omega, by rw [hcw, Nat.add_sub_cancel_left]; exact hword⟩
  refine ⟨List.ext_getElem (by simp [State.bytes]) fun i _ hi => ?_, ?_, fun x hx => ?_⟩
  · simp only [State.bytes, List.getElem_map, List.getElem_range, hbyte]
    by_cases hlow : a + i < commitAddr t bank
    · exact byte_bankWrite_inside v t bank a data hi hlow
    · obtain ⟨j, rfl⟩ : ∃ j, i = 0x1FFF0 - off + j := ⟨i - (0x1FFF0 - off), by omega⟩
      have hj := byte_bankWrite_commit hcommits v (i := j) (by omega)
      rw [show a + (0x1FFF0 - off + j) = commitAddr t bank + j by omega]
      refine hj.trans ?_
      congr 1
      omega
  · exact (congrArg (fun b : Byte => b.toNat % 2 == 1) (hbyte _)).trans (commitSet_bankWrite_commit hcommits v)
  · rw [hbyte, byte_bankWrite_outside v t bank a data hx (by omega)]
    exact congrArg (fun m => smapGet memDefault m x) hmem

theorem exec_bankWrite_within (core : Fin 2) (t : Tile) (bank : Fin 2) {off : Fin 0x20000} {data : List Byte} (s : State)
    (h : off.val + data.length ≤ 0x20000) : exec (.bankWrite core t bank off data) s = .next (s.boothBank core t bank off data) := by
  rw [exec_bankWrite, execBankWrite, List.take_of_length_le (by omega)]

/-- The word that BANK_COMMIT writes. -/
theorem commitData_spec (w : BitVec 128) : (leBytes (w ||| 1#128).toNat 16).length = 16
    ∧ (((leBytes (w ||| 1#128).toNat 16).drop (0x1FFF0 - 0x1FFF0)).headD 0).toNat % 2 = 1 := by
  refine ⟨leBytes_length _ _, ?_⟩
  change (BitVec.ofNat 8 (w ||| 1#128).toNat).toNat % 2 = 1
  rw [BitVec.toNat_ofNat, Nat.mod_mod_of_dvd _ (by decide : 2 ∣ 2 ^ 8), BitVec.toNat_or]
  have hor := Nat.or_mod_two_pow (a := w.toNat) (b := 1) (n := 1)
  rw [show (1#128).toNat = 1 from rfl]
  change (w.toNat ||| 1) % 2 = w.toNat % 2 ||| 1 at hor
  rw [hor]
  rcases Nat.mod_two_eq_zero_or_one w.toNat with h | h <;> rw [h] <;> rfl

end Sys2Proof.Machine
end

section
/-!
PROOFS. LOAD_SCENE (O33): a plan applied first, the images' banks, the tiles outside the scene.
-/
namespace Sys2Proof.Machine
open Sys2Proof.Claim

variable {s u w : State} {T : Nat → Prop}

/-! ### A plan applied -/

/-- The plan that waits and the one applied stay. -/
structure PlanKept (s u : State) : Prop where
  ready : u.job.ready = s.job.ready
  applied : u.job.applied = s.job.applied

theorem PlanKept.refl (s : State) : PlanKept s s := ⟨rfl, rfl⟩

theorem PlanKept.trans (h : PlanKept s u) (g : PlanKept u w) : PlanKept s w := ⟨g.ready.trans h.ready, g.applied.trans h.applied⟩

theorem planKept_foldl {α : Type} {f : State → α → State} (hf : ∀ t x, PlanKept t (f t x)) (l : List α) (s : State) :
    PlanKept s (l.foldl f s) :=
  List.foldlRecOn l f (motive := fun u => PlanKept s u) (.refl s) fun t ht x _ => ht.trans (hf t x)

theorem planKept_setReg (s : State) (a : Nat) (v : Word) : PlanKept s (s.setReg a v) := ⟨rfl, rfl⟩

theorem planKept_setFld (s : State) (f : Fld) (v : Nat) : PlanKept s (s.setFld f v) := ⟨rfl, rfl⟩

theorem planKept_holdRoute (s : State) (g : Nat) : PlanKept s (s.holdRoute g) := ⟨rfl, rfl⟩

theorem planKept_setVia (s : State) (f : Fld) (g v : Nat) : PlanKept s (s.setVia f g v) := by
  unfold State.setVia
  split
  · exact .refl s
  · exact (planKept_setFld s f v).trans (planKept_holdRoute _ g)

theorem planKept_putRoute (s : State) (g v : Nat) : PlanKept s (s.putRoute g v) := by
  unfold State.putRoute
  split
  · exact .refl s
  · exact (planKept_setReg s _ _).trans (planKept_holdRoute _ g)

theorem planKept_reroute (s : State) : PlanKept s s.reroute := by
  have hpaths : PlanKept s s.reroutePaths := by
    refine planKept_foldl (fun u e => ?_) _ s
    split
    · exact planKept_setVia u _ _ _
    · split
      · exact .refl u
      · exact planKept_setVia u _ _ _
  refine hpaths.trans ?_
  unfold State.reroute State.rerouteCompany
  split
  · exact .refl _
  · refine planKept_foldl (fun u d => ?_) _ _
    split
    · exact .refl u
    · dsimp only
      split
      · exact planKept_setVia u _ _ _
      · split
        · exact .refl u
        · exact planKept_setVia u _ _ _

theorem planKept_writeDatelines (s : State) (j : JobDesc) (me : SeatDesc) : PlanKept s (s.writeDatelines j me) :=
  planKept_foldl (fun u _ => (planKept_setFld u _ _).trans (planKept_setFld _ _ _)) _ s

theorem planKept_writeRoutes (s : State) (j : JobDesc) : PlanKept s (s.writeRoutes j) := by
  unfold State.writeRoutes
  split
  · exact .refl s
  · extract_lets _ _ _ ways _ s1 s2 s3 s4
    have h1 : PlanKept s s1 := planKept_foldl (fun u _ => planKept_putRoute u _ _) _ s
    have h2 : PlanKept s1 s2 := planKept_foldl (fun u _ => planKept_putRoute u _ _) _ s1
    have h3 : PlanKept s2 s3 := planKept_foldl (fun u _ => planKept_putRoute u _ _) _ s2
    have h4 : PlanKept s3 s4 := by
      change PlanKept s3 (if s3.ownPos < 8 then _ else s3)
      split
      · exact planKept_writeDatelines s3 _ _
      · exact .refl s3
    have h5 : PlanKept s4 (s4.setJob { s4.job with paths := ways.map (fun w => (w.1, w.2.1)) }) := ⟨rfl, rfl⟩
    exact ((((h1.trans h2).trans h3).trans h4).trans h5).trans (planKept_reroute _)

theorem planKept_writeSets (s : State) (j : JobDesc) : PlanKept s (s.writeSets j) := by
  unfold State.writeSets
  extract_lets sets groups s1 s2 s3
  have h1 : PlanKept s s1 := ⟨rfl, rfl⟩
  have h2 : PlanKept s1 s2 := planKept_foldl (fun u _ => planKept_setFld u _ _) _ s1
  have h3 : PlanKept s2 s3 := planKept_foldl (fun u _ => planKept_setFld u _ _) _ s2
  exact ((h1.trans h2).trans h3).trans ⟨rfl, rfl⟩

theorem planKept_writeBudgets (s : State) (id : Nat) : PlanKept s (s.writeBudgets id) := by
  refine planKept_foldl (fun u i => ?_) _ s
  dsimp only
  split
  · exact planKept_setReg u _ _
  · exact .refl u

theorem planKept_placeDress (s : State) (mine : SeatPlan) : PlanKept s (s.placeDress mine) := by
  refine planKept_foldl (fun u d => ?_) _ s
  split
  · exact (planKept_setFld u _ _).trans (planKept_setFld _ _ _)
  · exact planKept_setFld u _ _

theorem planKept_dressOf (s : State) (own : Option SeatPlan) : PlanKept s (match own with | some m => s.placeDress m | none => s) := by
  cases own with
  | none => exact .refl s
  | some m => exact planKept_placeDress s m

/-- A plan applied waits no more. -/
theorem applyPlan_job (s : State) (pp : PendingPlan) (version : Nat) :
    (s.applyPlan pp version).job.ready = none ∧ (s.applyPlan pp version).job.applied = some pp.plan := by
  unfold State.applyPlan
  extract_lets j p g own pos mine before s1 sb nb s2 s3 s4 s5 s6 s7 s8 s9 s10
  have h7 : s7.job.ready = none ∧ s7.job.applied = some pp.plan := ⟨rfl, rfl⟩
  have h8 : PlanKept s7 s8 := planKept_dressOf s7 own
  have h9 : PlanKept s8 s9 := ((planKept_writeRoutes s8 j).trans (planKept_writeSets _ j)).trans (planKept_writeBudgets _ _)
  have h10 : PlanKept s9 (s10.setFld R.BK_STATUS_STATE 0) :=
    ((planKept_setReg s9 _ _).trans (planKept_setFld _ _ _)).trans (planKept_setFld _ _ _)
  have hall := (h8.trans h9).trans h10
  exact ⟨hall.ready.trans h7.1, hall.applied.trans h7.2⟩

/-- The plan that waits for a load is applied before it. -/
def State.planApplied (s : State) : State := match s.job.ready with | some pp => s.applyPlan pp 0 | none => s

theorem planApplied_none (h : s.job.ready = none) : s.planApplied = s := by
  unfold State.planApplied
  rw [h]

theorem planApplied_some {pp : PendingPlan} (h : s.job.ready = some pp) : s.planApplied = s.applyPlan pp 0 := by
  unfold State.planApplied
  rw [h]

/-! ### The images' banks -/

theorem apart_measImages (s : State) (images : List (List Byte)) : Apart s (s.measImages images) :=
  apart_foldl (fun t _ => apart_foldl (fun u w => apart_setReg u (a := R.SC_MEAS 5 w) _ (shared_add₂ (by decide) _ _)) _ t) images s

theorem keepMark_curtain (s : State) (t : Nat) : ∃ c, s.keepMark t = { s with curtain := c } := by
  unfold State.keepMark
  split
  · exact ⟨s.curtain, rfl⟩
  · split
    · exact ⟨s.curtain, rfl⟩
    · exact ⟨_, rfl⟩

theorem job_bankWrite (s : State) (t b a : Nat) (data : List Byte) : (s.bankWrite t b a data).job = s.job := by
  obtain ⟨m, h⟩ := bankWrite_mem s t b a data
  rw [h]

theorem job_marked (s : State) (t : Nat) : ((s.keepMark t).setFld (R.TA_BANKCTL_MARK t) 1).job = s.job := by
  obtain ⟨c, h⟩ := keepMark_curtain s t
  rw [h]
  rfl

theorem mem_marked (s : State) (t : Nat) : ((s.keepMark t).setFld (R.TA_BANKCTL_MARK t) 1).mem = s.mem := by
  obtain ⟨c, h⟩ := keepMark_curtain s t
  rw [h]
  rfl

theorem job_loadTile (s : State) (l : List Byte) (mark : Bool) (t : Nat) : (s.loadTile l mark t).job = s.job := by
  unfold State.loadTile State.loadBank
  dsimp only
  split
  · rw [job_marked, job_bankWrite, job_bankWrite]
  · rw [job_bankWrite, job_bankWrite]

theorem job_loadImages (s : State) (images : List (List Byte)) (mark : Bool) : (s.loadImages images mark).job = s.job := by
  refine List.foldlRecOn _ _ (motive := fun u : State => u.job = s.job) rfl fun u hu l _ => ?_
  exact List.foldlRecOn _ _ (motive := fun v : State => v.job = s.job) hu fun v hv t _ => (job_loadTile v l mark t).trans hv

/-- An image's commit word is whole, and its SET is 1. -/
theorem commits_commitWordOf {l : List Byte} (h : 128 ≤ l.length) (t b : Nat) : Commits t b (commitAddr t b) (commitWordOf l) := by
  have hlen : (commitWordOf l).length = 16 := by
    unfold commitWordOf Image.ofBytes
    simp only [List.length_append, leBytes_length, List.length_take, List.length_drop]
    omega
  refine ⟨Nat.le_refl _, by rw [hlen], ?_⟩
  rw [Nat.sub_self, List.drop_zero, List.take_of_length_le (by rw [hlen])]
  unfold commitWordOf
  generalize Image.ofBytes l = g
  change ((BitVec.ofNat 8 (1 + 2 * b2n g.unverified + g.code.length * 2 ^ 16 + g.scene * 2 ^ 48)).toNat + 256 * _) % 2 = 1
  rw [BitVec.toNat_ofNat]
  omega

/-- An image loaded into a tile commits the standby bank, and marks it where the load says so. -/
theorem loadTile_spec {l : List Byte} (h : 128 ≤ l.length) (s : State) (mark : Bool) (t : Nat) :
    (s.loadTile l mark t).commitSet t (1 - s.fld (R.TA_SEQ_BANK t)) = true
      ∧ (mark = true → (s.loadTile l mark t).bit (R.TA_BANKCTL_MARK t) = true) := by
  unfold State.loadTile State.loadBank
  extract_lets b v w
  have hw : w.commitSet t (1 - s.fld (R.TA_SEQ_BANK t)) = true := commitSet_bankWrite_commit (commits_commitWordOf h t b) v
  clear_value w
  cases mark
  · exact ⟨hw, fun hm => absurd hm (by decide)⟩
  · refine ⟨?_, fun _ => bit_setFld_one _ _ (by decide : 0 < 64) (Nat.le_refl 0)⟩
    exact (commitSet_congr (mem_marked w t) t _).trans hw

theorem loadImages_single {l : List Byte} {t : Nat} (h : (Image.ofBytes l).tiles = [t]) (s : State) (mark : Bool) :
    s.loadImages [l] mark = s.loadTile l mark t := by
  unfold State.loadImages
  rw [List.foldl_cons, List.foldl_nil, h, List.foldl_cons, List.foldl_nil]

/-- An image that is not rejected has its header. -/
theorem length_of_verified {l : List Byte} {plan : Option (List Nat)} (h : s.verifyScene plan [l] = none) : 128 ≤ l.length := by
  by_contra hlen
  unfold State.verifyScene at h
  rw [List.findSome?_eq_none_iff] at h
  have hl := h (l, 0) (by simp)
  rw [Option.map_eq_none_iff] at hl
  unfold State.verifyImage at hl
  dsimp only at hl
  rw [if_pos (by omega)] at hl
  cases hl

/-! ### The load -/

theorem smapGet_filter_in {α : Type} (d : α) {g : Nat × α → Bool} {q : Nat} (h : ∀ v, g (q, v) = true) (m : SMap α) :
    smapGet d (m.filter g) q = smapGet d m q := by
  induction m with
  | nil => rfl
  | cons p m ih =>
    obtain ⟨a, v⟩ := p
    by_cases ha : g (a, v) = true
    · rw [List.filter_cons_of_pos ha, smapGet, smapGet, ih]
    · rw [List.filter_cons_of_neg ha, smapGet, if_neg (fun e => ha (by rw [e]; exact h v))]
      exact ih

/-- A tile of the scene keeps its commit words and its mark. -/
theorem clearOutside_kept {tiles : List Nat} {t b : Nat} (ht : t ∈ tiles) (ht2 : t < 2048) (hb : b < 2) (s : State) :
    (s.clearOutside tiles).commitSet t b = s.commitSet t b
      ∧ (s.clearOutside tiles).bit (R.TA_BANKCTL_MARK t) = s.bit (R.TA_BANKCTL_MARK t) := by
  obtain ⟨honly, _⟩ := clearOutside_spec s tiles
  refine ⟨?_, ?_⟩
  · have hbyte : (s.clearOutside tiles).byte (commitAddr t b) = s.byte (commitAddr t b) := by
      unfold State.byte
      rw [honly.mem]
      refine smapGet_filter_in _ (fun v => ?_) s.mem
      rw [commitTile_commitAddr ht2 hb]
      simp [outsideTile, ht]
    unfold State.commitSet
    rw [hbyte]
  · rw [State.bit, honly.fld_other (fun hn => hn.1 ht) (f := R.TA_BANKCTL_MARK t) (inWindow_bankctl t)]
    rfl

/-- The images in their tiles, the tiles outside cleared. -/
def State.withImages (s : State) (c : CmdRec) (images : List (List Byte)) : State :=
  ((s.measImages images).loadImages images (c.sceneMark != 0)).clearOutside (sceneTiles images)

/-- The scene loaded and its command done. -/
def State.sceneLoaded (s : State) (c : CmdRec) (images : List (List Byte)) : State :=
  let v := s.withImages c images
  ({ v with scene := { v.scene with id := c.sceneId, images := images, seed := c.sceneSeed } } : State).cmdDone
    { c with done := c.imageCount, total := c.imageCount } 0 []

theorem HostOnly.commitSet (h : HostOnly s u) {t b : Nat} (ht : t < 2048) (hb : b < 2) : u.commitSet t b = s.commitSet t b := by
  unfold State.commitSet
  rw [h.bytes _ (by unfold commitAddr tileBase ringBase; omega)]

theorem HostOnly.mark (h : HostOnly s u) {t : Nat} (ht : t < 2048) : u.bit (R.TA_BANKCTL_MARK t) = s.bit (R.TA_BANKCTL_MARK t) := by
  have haddr : (R.TA_BANKCTL_MARK t).addr < R.BT_JOB := by
    simp only [R.TA_BANKCTL_MARK, R.BT_JOB]
    omega
  rw [State.bit, State.bit, h.fld (Nat.ne_of_lt haddr) (Nat.ne_of_lt (Nat.lt_trans haddr (by decide)))]

theorem sceneLoaded_spec (s : State) (c : CmdRec) (images : List (List Byte)) :
    ((s.sceneLoaded c images).scene.images = images ∧ (s.sceneLoaded c images).scene.id = c.sceneId
        ∧ (s.sceneLoaded c images).scene.seed = c.sceneSeed)
      ∧ (∀ t, t < 2048 → t ∉ sceneTiles images → (s.sceneLoaded c images).commitSet t 0 = false
        ∧ (s.sceneLoaded c images).commitSet t 1 = false ∧ (s.sceneLoaded c images).bit (R.TA_BANKCTL_MARK t) = false)
      ∧ (s.sceneLoaded c images).job = s.job := by
  obtain ⟨honly, hout⟩ := clearOutside_spec ((s.measImages images).loadImages images (c.sceneMark != 0)) (sceneTiles images)
  have hjob : (s.withImages c images).job = s.job := (congrArg State.job honly.rest :).trans
    ((job_loadImages _ _ _).trans (apart_measImages s images).job)
  unfold State.sceneLoaded
  change ∀ t, t < 2048 → t ∉ sceneTiles images → (s.withImages c images).commitSet t 0 = false ∧ (s.withImages c images).commitSet t 1 = false
    ∧ (s.withImages c images).bit (R.TA_BANKCTL_MARK t) = false at hout
  generalize s.withImages c images = v at hjob hout
  dsimp only
  have hdone := hostOnly_cmdDone ({ v with scene := { v.scene with id := c.sceneId, images := images, seed := c.sceneSeed } } : State)
    { c with done := c.imageCount, total := c.imageCount } 0 []
  refine ⟨by rw [hdone.scene]; exact ⟨rfl, rfl, rfl⟩, fun t ht2 ht => ?_, hdone.job.trans hjob⟩
  rw [hdone.commitSet ht2 (by decide), hdone.commitSet ht2 (by decide), hdone.mark ht2]
  exact hout t ht2 ht

/-- One image in one tile. -/
theorem sceneLoaded_single {l : List Byte} {t : Nat} (hl : 128 ≤ l.length) (htile : (Image.ofBytes l).tiles = [t]) (ht2 : t < 2048)
    (hbank : s.fld (R.TA_SEQ_BANK t) < 2) (c : CmdRec) :
    (s.sceneLoaded c [l]).commitSet t (1 - s.fld (R.TA_SEQ_BANK t)) = true
      ∧ (c.sceneMark ≠ 0 → (s.sceneLoaded c [l]).bit (R.TA_BANKCTL_MARK t) = true) := by
  have hin : t ∈ sceneTiles [l] := List.mem_flatMap.mpr ⟨l, List.mem_singleton.mpr rfl, by rw [htile]; exact List.mem_singleton.mpr rfl⟩
  have hfld : (s.measImages [l]).fld (R.TA_SEQ_BANK t) = s.fld (R.TA_SEQ_BANK t) :=
    fld_congr ((apart_measImages s [l]).regs _ (by simp only [R.TA_SEQ_BANK, R.BT_JOB]; omega))
  obtain ⟨hcommit, hmark⟩ := loadTile_spec hl (s.measImages [l]) (c.sceneMark != 0) t
  rw [hfld] at hcommit
  have hb : 1 - s.fld (R.TA_SEQ_BANK t) < 2 := by omega
  obtain ⟨hc, hm⟩ := clearOutside_kept hin ht2 hb ((s.measImages [l]).loadImages [l] (c.sceneMark != 0))
  rw [loadImages_single htile, hcommit] at hc
  rw [loadImages_single htile] at hm
  have hwith : s.withImages c [l] = ((s.measImages [l]).loadTile l (c.sceneMark != 0) t).clearOutside (sceneTiles [l]) := by
    unfold State.withImages
    rw [loadImages_single htile]
  rw [← hwith] at hc hm
  unfold State.sceneLoaded
  generalize s.withImages c [l] = v at hc hm
  dsimp only
  have hdone := hostOnly_cmdDone ({ v with scene := { v.scene with id := c.sceneId, images := [l], seed := c.sceneSeed } } : State)
    { c with done := c.imageCount, total := c.imageCount } 0 []
  rw [hdone.commitSet ht2 hb, hdone.mark ht2]
  exact ⟨hc, fun hs => hm.trans (hmark (bne_iff_ne.mpr hs))⟩

/-! ### The command -/

theorem execLoadScene_waits (h : s.runningCmd opcLoadScene = none ∨ s.inCurtain = true) : execLoadScene s = .next s := by
  unfold execLoadScene
  split
  · rfl
  · next c hc =>
    rw [hc] at h
    exact if_pos (h.resolve_left (by nofun))

/-- LOAD_SCENE between curtains. -/
structure Loading (s : State) (c : CmdRec) : Prop where
  cmd : s.runningCmd opcLoadScene = some c
  between : s.inCurtain = false

variable {c : CmdRec}

theorem execLoadScene_fails (h : Loading s c) {pp : PendingPlan} (hpp : s.job.ready = some pp) (hfit : s.planFits pp.plan = false) :
    execLoadScene s = .next (s.readyFails c pp) := by
  unfold execLoadScene
  rw [h.cmd, h.between, hpp]
  dsimp only
  rw [if_neg (by decide), if_pos (by rw [Option.any_some, hfit]; rfl)]

theorem execLoadScene_shows (h : Loading s c) {pp : PendingPlan} (hpp : s.job.ready = some pp) (hfit : s.planFits pp.plan = true)
    (hstate : s.fld R.BK_STATUS_STATE ≠ 4) : execLoadScene s = .next (s.setFld R.BK_STATUS_STATE 4) := by
  unfold execLoadScene
  rw [h.cmd, h.between, hpp]
  dsimp only
  rw [if_neg (by decide), if_neg (by rw [Option.any_some, hfit]; decide), if_pos (by rw [bne_iff_ne.mpr hstate]; rfl)]

/-- No plan waits, or it fits and is shown. -/
def State.loadReady (s : State) : Prop := ∀ pp, s.job.ready = some pp → s.planFits pp.plan = true ∧ s.fld R.BK_STATUS_STATE = 4

theorem execLoadScene_reads (h : Loading s c) (hready : s.loadReady) : execLoadScene s
    = match (s.readImages c).2.verifyScene (s.readImages c).2.planTiles (s.readImages c).1 with
      | some p => .next ((s.readImages c).2.verifyFailed c p)
      | none => .next ((s.readImages c).2.planApplied.sceneLoaded c (s.readImages c).1) := by
  have hfit : s.job.ready.any (fun pp => !s.planFits pp.plan) = false := by
    cases hpp : s.job.ready with
    | none => rfl
    | some pp =>
      rw [Option.any_some, (hready pp hpp).1]
      rfl
  have hshown : (s.job.ready.isSome && s.fld R.BK_STATUS_STATE != 4) = false := by
    cases hpp : s.job.ready with
    | none => rfl
    | some pp =>
      rw [(hready pp hpp).2]
      rfl
  unfold execLoadScene
  rw [h.cmd, h.between]
  dsimp only
  rw [if_neg (by decide), hfit, if_neg (by decide), hshown, if_neg (by decide)]
  rfl

end Sys2Proof.Machine
end

section
namespace Sys2Proof.Claim
open Sys2Proof.Machine

/-- The load's part of O33: the images are read apart from what they are loaded into, and the clearing of the tiles outside comes last. -/
theorem loadSceneLoads (s : State) (c : CmdRec) (hcmd : s.runningCmd opcLoadScene = some c) (hcur : s.inCurtain = false) :
    let r := s.readImages c
    let loaded := fun (u : State) => u.scene.images = r.1 ∧ u.scene.id = c.sceneId ∧ u.scene.seed = c.sceneSeed
    (∀ p, s.loadReady → r.2.verifyScene r.2.planTiles r.1 = some p → Completes .loadScene s
      (fun u => u = r.2.verifyFailed c p ∧ u.scene = s.scene ∧ ∀ a, 0x11000000000 ≤ a → a < 0x11080000000 → u.byte a = r.2.byte a))
    ∧ (∀ l t, s.job.ready = none → r.1 = [l] → r.2.verifyScene r.2.planTiles r.1 = none → (Image.ofBytes l).tiles = [t] → t < 2048 →
      s.fld (R.TA_SEQ_BANK t) < 2 →
      Completes .loadScene s (fun u => u.commitSet t (1 - s.fld (R.TA_SEQ_BANK t)) = true ∧ loaded u
        ∧ (c.sceneMark ≠ 0 → u.bit (R.TA_BANKCTL_MARK t) = true)))
    ∧ (s.loadReady → r.2.verifyScene r.2.planTiles r.1 = none → Completes .loadScene s (fun u => loaded u
        ∧ (∀ t, t < 2048 → t ∉ sceneTiles r.1 → u.commitSet t 0 = false ∧ u.commitSet t 1 = false ∧ u.bit (R.TA_BANKCTL_MARK t) = false)
        ∧ ∀ pp, s.job.ready = some pp → u.job.ready = none ∧ u.job.applied = some pp.plan)) := by
  intro r loaded
  have hread : Apart s r.2 := apart_readImages s c
  have hrun := fun hready => (exec_loadScene s).trans (execLoadScene_reads ⟨hcmd, hcur⟩ hready)
  change s.loadReady → exec .loadScene s = match r.2.verifyScene r.2.planTiles r.1 with
    | some p => .next (r.2.verifyFailed c p)
    | none => .next (r.2.planApplied.sceneLoaded c r.1) at hrun
  clear_value r
  refine ⟨fun p hready hverify => ?_, fun l t hnone hone hverify htile ht2 hbank => ?_, fun hready hverify => ?_⟩
  · have hexec := hrun hready
    rw [hverify] at hexec
    have hdone : HostOnly r.2 (r.2.verifyFailed c p) := hostOnly_cmdDone _ _ _ _
    exact ⟨_, hexec, rfl, hdone.scene.trans hread.scene, fun a _ ha => hdone.bytes a (Nat.lt_trans ha (by decide))⟩
  · have hexec := hrun fun pp hpp => absurd (hnone.symm.trans hpp) (by nofun)
    rw [hverify] at hexec
    dsimp only at hexec
    rw [planApplied_none (hread.job ▸ hnone), hone] at hexec
    rw [hone] at hverify
    have hfld : r.2.fld (R.TA_SEQ_BANK t) = s.fld (R.TA_SEQ_BANK t) :=
      fld_congr (hread.regs _ (by simp only [R.TA_SEQ_BANK, R.BT_JOB]; omega))
    obtain ⟨hcommit, hmark⟩ := sceneLoaded_single (length_of_verified hverify) htile ht2 (hfld.symm ▸ hbank) c
    obtain ⟨hloaded, _⟩ := sceneLoaded_spec r.2 c [l]
    rw [hfld] at hcommit
    exact ⟨_, hexec, hcommit, by simp only [loaded, hone]; exact hloaded, hmark⟩
  · have hexec := hrun hready
    rw [hverify] at hexec
    obtain ⟨hloaded, hout, hjob⟩ := sceneLoaded_spec r.2.planApplied c r.1
    refine ⟨_, hexec, hloaded, hout, fun pp hpp => ?_⟩
    rw [hjob, planApplied_some (hread.job ▸ hpp)]
    exact applyPlan_job r.2 pp 0

/-- Settles O33: the loader's part as read, verified and loaded, the booth's as one access to a bank. -/
theorem loaderCommitsWhatVerifies : Obligations.LoaderCommitsWhatVerifies := by
  refine ⟨fun s => ⟨fun h => (exec_loadScene s).trans (execLoadScene_waits h), fun c hcmd hcur => ?_⟩, fun s core t bank off data w => ?_⟩
  · obtain ⟨hfails, hone, hall⟩ := loadSceneLoads s c hcmd hcur
    exact ⟨fun pp hpp => ⟨fun hfit => (exec_loadScene s).trans (execLoadScene_fails ⟨hcmd, hcur⟩ hpp hfit),
      fun hfit hstate => (exec_loadScene s).trans (execLoadScene_shows ⟨hcmd, hcur⟩ hpp hfit hstate)⟩, hfails, hone, hall⟩
  · have hoff := off.isLt
    refine ⟨fun h _ hlen => ?_, fun h hle hlen hset => ?_, fun h => ?_, fun h => ⟨?_, ?_⟩⟩
    · have hrun := exec_bankWrite_within core t bank s (by omega : off.val + data.length ≤ 0x20000)
      obtain ⟨_, _, _, hregs, hout⟩ := boothBank_spec h hoff (core := core) data
      obtain ⟨hbytes, hcommit, hrest⟩ := boothBank_code h hoff hlen (core := core)
      exact ⟨_, hrun, hbytes, hcommit, hrest, hregs, hout⟩
    · have hrun := exec_bankWrite_within core t bank s (by omega : off.val + data.length ≤ 0x20000)
      obtain ⟨_, _, _, hregs, hout⟩ := boothBank_spec h hoff (core := core) data
      obtain ⟨hbytes, hcommit, hrest⟩ := boothBank_commit h hle hlen hset (core := core)
      exact ⟨_, hrun, hbytes, hcommit, hrest, hregs, hout⟩
    · obtain ⟨hlen, hset⟩ := commitData_spec w
      obtain ⟨_, _, _, hregs, _⟩ := boothBank_spec h (by decide : 0x1FFF0 < 0x20000) (core := core) (leBytes (w ||| 1#128).toNat 16)
      obtain ⟨_, hcommit, hrest⟩ := boothBank_commit h (Nat.le_refl 0x1FFF0) (by rw [hlen]) hset (core := core)
      refine ⟨_, exec_bankCommit core t bank w s, hcommit, fun x hx => hrest x ?_, hregs⟩
      rw [hlen]
      exact hx
    · have hrefused := boothBank_inUse h hoff (core := core) (data.take (0x20000 - off.val))
      refine ⟨_, (exec_bankWrite core t bank off data s).trans (congrArg Host.Outcome.next hrefused), fun x => byte_pbEntry s _ _ _ _ x, ?_⟩
      exact congrArg (· ++ _) (quiet_pbEntry s pbFault (1 + core) 0x10 _).out
    · have hrefused := boothBank_inUse h (by decide : 0x1FFF0 < 0x20000) (core := core) (leBytes (w ||| 1#128).toNat 16)
      exact ⟨_, (exec_bankCommit core t bank w s).trans (congrArg Host.Outcome.next hrefused), fun x => byte_pbEntry s _ _ _ _ x⟩

end Sys2Proof.Claim
end

section
/-!
PROOFS. What changes only some registers, or only the fabric, and the flood of a control flit (O24, O25, O27).
-/
namespace Sys2Proof.Machine
open Sys2Proof.Claim

/-! ### Only registers change -/

/-- Only the registers of `P` change, and with them what the cycle has seen. -/
structure RegsOnly (P : Nat → Prop) (s u : State) : Prop where
  regs : ∀ a, ¬ P a → u.reg a = s.reg a
  rest : u = { s with regs := u.regs, now := u.now }

section
variable {P Q : Nat → Prop} {s u w : State}

theorem regsOnly_refl (P : Nat → Prop) (s : State) : RegsOnly P s s := ⟨fun _ _ => rfl, rfl⟩

theorem RegsOnly.trans (h : RegsOnly P s u) (g : RegsOnly P u w) : RegsOnly P s w :=
  ⟨fun a ha => (g.regs a ha).trans (h.regs a ha),
    g.rest.trans (congrArg (fun v : State => { v with regs := w.regs, now := w.now }) h.rest)⟩

theorem RegsOnly.mono (h : RegsOnly P s u) (hq : ∀ a, P a → Q a) : RegsOnly Q s u := ⟨fun a ha => h.regs a fun hp => ha (hq a hp), h.rest⟩

theorem RegsOnly.mem (h : RegsOnly P s u) : u.mem = s.mem := (congrArg State.mem h.rest :)
theorem RegsOnly.tiles (h : RegsOnly P s u) : u.tiles = s.tiles := (congrArg State.tiles h.rest :)
theorem RegsOnly.fab (h : RegsOnly P s u) : u.fab = s.fab := (congrArg State.fab h.rest :)
theorem RegsOnly.cueX (h : RegsOnly P s u) : u.cueX = s.cueX := (congrArg State.cueX h.rest :)
theorem RegsOnly.curtain (h : RegsOnly P s u) : u.curtain = s.curtain := (congrArg State.curtain h.rest :)
theorem RegsOnly.scene (h : RegsOnly P s u) : u.scene = s.scene := (congrArg State.scene h.rest :)
theorem RegsOnly.riskSent (h : RegsOnly P s u) : u.riskSent = s.riskSent := (congrArg State.riskSent h.rest :)
theorem RegsOnly.memSeen (h : RegsOnly P s u) : u.memSeen = s.memSeen := (congrArg State.memSeen h.rest :)
theorem RegsOnly.pb (h : RegsOnly P s u) : u.pb = s.pb := (congrArg State.pb h.rest :)
theorem RegsOnly.out (h : RegsOnly P s u) : u.out = s.out := (congrArg State.out h.rest :)

theorem RegsOnly.timeNs (h : RegsOnly P s u) : u.timeNs = s.timeNs := by
  rw [State.timeNs, State.timeNs, show u.cycle = s.cycle from (congrArg State.cycle h.rest :), show u.tbOff = s.tbOff from (congrArg State.tbOff h.rest :)]

theorem RegsOnly.only (h : RegsOnly P s u) : Only P s u :=
  ⟨h.regs, fun a => congrArg (smapGet memDefault · a) h.mem, fun a => congrArg (smapGet false · a) (congrArg State.poison h.rest :),
    fun t => congrArg (smapGet TileX.init · t) h.tiles⟩

theorem RegsOnly.fld (h : RegsOnly P s u) {f : Fld} (hf : ¬ P f.addr) : u.fld f = s.fld f := fld_congr (h.regs _ hf)
theorem RegsOnly.bit (h : RegsOnly P s u) {f : Fld} (hf : ¬ P f.addr) : u.bit f = s.bit f := bit_congr (h.regs _ hf)

theorem regsOnly_setReg (s : State) {a : Nat} (v : Word) (h : P a) : RegsOnly P s (s.setReg a v) :=
  ⟨fun _ hb => reg_setReg_ne s v fun e => hb (e ▸ h), rfl⟩

theorem regsOnly_setFld (s : State) {f : Fld} (v : Nat) (h : P f.addr) : RegsOnly P s (s.setFld f v) := regsOnly_setReg s _ h

theorem regsOnly_raiseFld (s : State) {f : Fld} (h : P f.addr) : RegsOnly P s (s.raiseFld f) :=
  RegsOnly.trans (u := s.noteEvt f 1) ⟨fun _ _ => rfl, rfl⟩ (regsOnly_setFld _ 1 h)

theorem regsOnly_countFld (s : State) {f : Fld} (n : Nat) (h : P f.addr) : RegsOnly P s (s.countFld f n) :=
  RegsOnly.trans (u := s.noteEvt f n) ⟨fun _ _ => rfl, rfl⟩ (regsOnly_setFld _ _ h)

theorem regsOnly_ite {c : Prop} [Decidable c] (h : RegsOnly P s u) (g : RegsOnly P s w) : RegsOnly P s (if c then u else w) := by
  split
  exacts [h, g]

theorem regsOnly_foldl {α : Type} {f : State → α → State} (hf : ∀ t x, RegsOnly P t (f t x)) (l : List α) (s : State) :
    RegsOnly P s (l.foldl f s) :=
  List.foldlRecOn l f (motive := fun u => RegsOnly P s u) (regsOnly_refl P s) fun t ht x _ => ht.trans (hf t x)

end

/-! ### Only the fabric changes -/

/-- Only the fabric's queues change. -/
structure FabOnly (s u : State) : Prop where
  rest : u = { s with fab := u.fab }

section
variable {s u w : State}

theorem fabOnly_refl (s : State) : FabOnly s s := ⟨rfl⟩

theorem FabOnly.trans (h : FabOnly s u) (g : FabOnly u w) : FabOnly s w :=
  ⟨g.rest.trans (congrArg (fun v : State => { v with fab := w.fab }) h.rest)⟩

theorem FabOnly.regs (h : FabOnly s u) : u.regs = s.regs := (congrArg State.regs h.rest :)
theorem FabOnly.mem (h : FabOnly s u) : u.mem = s.mem := (congrArg State.mem h.rest :)
theorem FabOnly.poison (h : FabOnly s u) : u.poison = s.poison := (congrArg State.poison h.rest :)
theorem FabOnly.tiles (h : FabOnly s u) : u.tiles = s.tiles := (congrArg State.tiles h.rest :)
theorem FabOnly.curtain (h : FabOnly s u) : u.curtain = s.curtain := (congrArg State.curtain h.rest :)
theorem FabOnly.cueX (h : FabOnly s u) : u.cueX = s.cueX := (congrArg State.cueX h.rest :)
theorem FabOnly.cycle (h : FabOnly s u) : u.cycle = s.cycle := (congrArg State.cycle h.rest :)
theorem FabOnly.riskSent (h : FabOnly s u) : u.riskSent = s.riskSent := (congrArg State.riskSent h.rest :)
theorem FabOnly.memSeen (h : FabOnly s u) : u.memSeen = s.memSeen := (congrArg State.memSeen h.rest :)
theorem FabOnly.out (h : FabOnly s u) : u.out = s.out := (congrArg State.out h.rest :)
theorem FabOnly.reg (h : FabOnly s u) (a : Nat) : u.reg a = s.reg a := congrArg (smapGet (regReset a) · a) h.regs
theorem FabOnly.fld (h : FabOnly s u) (f : Fld) : u.fld f = s.fld f := fld_congr (h.reg _)
theorem FabOnly.bit (h : FabOnly s u) (f : Fld) : u.bit f = s.bit f := bit_congr (h.reg _)
theorem FabOnly.only {P : Nat → Prop} (h : FabOnly s u) : Only P s u := only_of_stores h.regs h.mem h.poison h.tiles

end

/-! ### The flood of a control flit (R39) -/

theorem port_setPort_same (s : State) (p : Nat) (x : FPort) : (s.setPort p x).port p = x := smapGet_set_same _ _ _ _

theorem port_setPort_ne (s : State) {p q : Nat} (x : FPort) (h : q ≠ p) : (s.setPort p x).port q = s.port q := smapGet_set_ne _ _ _ _ h

theorem port_of_fab {s u : State} (h : u.fab = s.fab) (p : Nat) : u.port p = s.port p := by rw [State.port, State.port, h]

theorem portUp_of_reg {s u : State} {p : Nat} (h : u.reg (R.FB_PORT_STATUS p) = s.reg (R.FB_PORT_STATUS p)) : u.portUp p = s.portUp p :=
  congrArg (· == 2) (fld_congr (f := R.FB_PORT_STATUS_STATE p) h)

theorem ctlq_ctlOut_same (s : State) (p prio : Nat) (m : Ctl) : ((s.ctlOut p prio m).port p).ctlq = (s.port p).ctlq ++ [(prio, m)] :=
  congrArg FPort.ctlq (port_setPort_same s p _)

theorem mem_ctlq_ctlOut {s : State} {p q prio : Nat} {m : Ctl} {x : Nat × Ctl} (h : x ∈ (s.port q).ctlq) :
    x ∈ ((s.ctlOut p prio m).port q).ctlq := by
  by_cases hq : q = p
  · rw [hq, ctlq_ctlOut_same]
    exact List.mem_append_left _ (hq ▸ h)
  · rw [State.ctlOut, port_setPort_ne s _ hq]
    exact h

/-- A control flit out of a port, where it is up. -/
def State.floodOne (m : Ctl) (s : State) (p : Nat) : State := if s.portUp p then s.ctlOut p 1 m else s

/-- A control flit out of every port of a list that is up. -/
def State.floodOver (s : State) (m : Ctl) (l : List Nat) : State := l.foldl (State.floodOne m) s

theorem flood_eq (s : State) (m : Ctl) : s.flood m = s.floodOver m s.fab.tree := rfl

theorem floodFrom_eq (s : State) (p : Nat) (m : Ctl) : s.floodFrom p m = s.floodOver m (s.fab.tree.filter (fun q => q != p)) := rfl

theorem fabOnly_floodOne (s : State) (m : Ctl) (p : Nat) : FabOnly s (s.floodOne m p) := by
  unfold State.floodOne
  split
  exacts [⟨rfl⟩, fabOnly_refl s]

theorem fabOnly_floodOver (s : State) (m : Ctl) (l : List Nat) : FabOnly s (s.floodOver m l) :=
  List.foldlRecOn l _ (motive := fun u => FabOnly s u) (fabOnly_refl s) fun t ht p _ => ht.trans (fabOnly_floodOne t m p)

theorem mem_ctlq_floodOne {s : State} {m : Ctl} {p q : Nat} {x : Nat × Ctl} (h : x ∈ (s.port q).ctlq) :
    x ∈ ((s.floodOne m p).port q).ctlq := by
  unfold State.floodOne
  split
  exacts [mem_ctlq_ctlOut h, h]

theorem ctlq_floodOne_same {s : State} {m : Ctl} {p : Nat} (h : s.portUp p = true) : (1, m) ∈ ((s.floodOne m p).port p).ctlq := by
  rw [State.floodOne, if_pos h, ctlq_ctlOut_same]
  exact List.mem_append_right _ List.mem_cons_self

/-- Every port of the list that is up is to send the flit. -/
theorem ctlq_floodOver {m : Ctl} {p : Nat} (l : List Nat) : ∀ s : State, p ∈ l → s.portUp p = true → (1, m) ∈ ((s.floodOver m l).port p).ctlq := by
  induction l with
  | nil => exact fun _ hp => absurd hp List.not_mem_nil
  | cons q l ih =>
    intro s hp hup
    by_cases hpl : p ∈ l
    · exact ih (s.floodOne m q) hpl ((portUp_of_reg ((fabOnly_floodOne s m q).reg _)).trans hup)
    · obtain rfl := (List.mem_cons.mp hp).resolve_right hpl
      exact List.foldlRecOn l _ (motive := fun u : State => (1, m) ∈ (u.port p).ctlq) (ctlq_floodOne_same hup) fun t ht r _ => mem_ctlq_floodOne ht

theorem fabOnly_flood (s : State) (m : Ctl) : FabOnly s (s.flood m) := fabOnly_floodOver s m _

theorem ctlq_flood {s : State} {m : Ctl} {p : Nat} (hp : p ∈ s.fab.tree) (hup : s.portUp p = true) : (1, m) ∈ ((s.flood m).port p).ctlq :=
  ctlq_floodOver _ s hp hup

end Sys2Proof.Machine
end

section
/-!
PROOFS. The curtain cue (O27).
-/
namespace Sys2Proof.Machine
open Sys2Proof.Claim

/-- The part with an announcement that lies ahead taken (R51). -/
def State.announcedAt (s : State) (k : Nat) : State :=
  s.setCurtain { s.curtain with announced := some k, drain := none, verdict := none, applied := false, lateMarks := [] }

/-- An announcement of the running step that lies ahead is waited for (R51, R54). -/
theorem announceIn_ahead {s : State} {k step : Nat} (hrun : s.curtain.running = true) (hnone : s.curtain.announced = none)
    (hstep : step = s.fld R.CU_STEP_STEP) (hk : s.cue < k) : s.announceIn k step
      = ((s.announcedAt k).setReg R.CU_CURTAIN (BitVec.ofNat 64 k)).setFld R.CU_STATUS_CURTAIN_PHASE 1 := by
  have hlate : decide (k ≤ s.cue) = false := decide_eq_false (by omega)
  unfold State.announceIn
  rw [if_neg (by simp [hrun, hnone, hstep])]
  simp only [hlate, Bool.false_eq_true, if_false]
  rfl

/-- Every seat's step-complete has come with this one (R51). -/
structure LastComplete (s : State) (sender step : Nat) : Prop where
  master : s.bit R.CU_STATUS_MASTER = true
  none : s.curtain.announced = none
  step : step = s.fld R.CU_STEP_STEP
  seat : s.jobSeats.contains sender = true
  first : s.curtain.completes.any (fun c => c.1 == sender) = false
  last : s.jobSeats.all (fun q => q == sender || s.curtain.completes.any (fun c => c.1 == q)) = true

/-- The part with the step-complete of `sender` stamped (R46). -/
def State.completed (s : State) (sender : Nat) (discard : Bool) : State :=
  s.setCurtain { s.curtain with completes := s.curtain.completes ++ [(sender, s.cue, discard)] }

/-- The last step-complete gives K, which is announced everywhere (R51). -/
theorem completeIn_last {s : State} {sender step : Nat} {discard : Bool} (h : LastComplete s sender step) :
    s.completeIn sender step discard
      = ((s.completed sender discard).flood (.announce (s.cue + max 8 (s.fld R.CU_CTL_MARGIN)) step)).announceIn
          (s.cue + max 8 (s.fld R.CU_CTL_MARGIN)) step := by
  obtain ⟨hmaster, hnone, hstep, hseat, hfirst, hlast⟩ := h
  have hall : (s.completed sender discard).jobSeats.all (fun q => (s.completed sender discard).curtain.completes.any (fun c => c.1 == q)) = true := by
    refine List.all_eq_true.mpr fun q hq => ?_
    have hq : q = sender ∨ s.curtain.completes.any (fun c => c.1 == q) = true := by simpa using List.all_eq_true.mp hlast q hq
    have happ : (s.curtain.completes ++ [(sender, s.cue, discard)]).any (fun c => c.1 == q) = true := by
      rw [List.any_append]
      obtain rfl | hq := hq
      · simp
      · simp [hq]
    exact happ
  unfold State.completeIn
  rw [if_neg (by simp only [hmaster, hnone, hstep, hseat, hfirst]; simp)]
  exact if_pos hall

end Sys2Proof.Machine

namespace Sys2Proof.Claim
open Sys2Proof.Machine

/-- Settles O27: the last step-complete floods the announcement, which the master then takes itself. -/
theorem curtainCueIsLastAcceptancePlusMargin : Obligations.CurtainCueIsLastAcceptancePlusMargin := by
  intro s sender step discard hmaster hnone hrun hstep hseat hfirst hlast k
  have hmax : max 8 (s.fld R.CU_CTL_MARGIN) = if s.fld R.CU_CTL_MARGIN < 8 then 8 else s.fld R.CU_CTL_MARGIN := by split <;> omega
  have hk : s.cue < k := by
    change s.cue < s.cue + _
    split <;> omega
  have hcomplete := completeIn_last (discard := discard) (s := s) ⟨hmaster, hnone, hstep, hseat, hfirst, hlast⟩
  rw [hmax] at hcomplete
  generalize hv : (s.completed sender.toNat discard).flood (.announce k step.toNat) = v at hcomplete
  have hfab : FabOnly (s.completed sender.toNat discard) v := hv ▸ fabOnly_flood _ _
  have hcur : v.curtain = { s.curtain with completes := s.curtain.completes ++ [(sender.toNat, s.cue, discard)] } := hfab.curtain
  have hcue : v.cue = s.cue := congrArg BitVec.toNat (hfab.reg R.CU_COUNT)
  rw [announceIn_ahead (hcur ▸ hrun) (hcur ▸ hnone) (hstep.trans (hfab.fld _).symm) (by rw [hcue]; exact hk)] at hcomplete
  refine ⟨_, congrArg Host.Outcome.next hcomplete, rfl, ?_, fld_setFld_same _ _ 1 (by decide), ?_, ?_, fun p hp hup => ?_, ?_⟩
  · exact (reg_setFld_ne _ (by decide)).trans (reg_setReg_same _ _ _)
  · exact (congrArg BitVec.toNat ((reg_setFld_ne _ (by decide)).trans (reg_setReg_ne _ _ (by decide)))).trans hcue
  · change _ ∈ v.curtain.completes
    rw [hcur]
    exact List.mem_append_right _ List.mem_cons_self
  · exact hv ▸ ctlq_flood (s := s.completed sender.toNat discard) hp hup
  · have hs : Only (fun a => a = R.CU_CURTAIN ∨ a = R.CU_STATUS) s v := Only.trans (u := s.completed sender.toNat discard)
      (only_of_stores rfl rfl rfl rfl) hfab.only
    have hv : Only (fun a => a = R.CU_CURTAIN ∨ a = R.CU_STATUS) v (v.announcedAt k) := only_of_stores rfl rfl rfl rfl
    exact (hs.trans hv).trans ((only_setReg _ _ (.inl rfl)).trans (only_setFld _ 1 (.inr rfl)))

end Sys2Proof.Claim
end

section
/-!
PROOFS. The cue count (O24): what the end of a cue period does, stage by stage.
-/
namespace Sys2Proof.Machine
open Sys2Proof.Claim

/-! ### A new count (R36, R44) -/

/-- The registers that show the count. -/
def CountRegs (a : Nat) : Prop := a ∈ [R.CU_COUNT, R.CU_MAP_CUE, R.CU_MAP_NS]

theorem not_countRegs_status : ¬ CountRegs R.CU_STATUS := by
  unfold CountRegs
  decide

/-- What is limited to once a cue starts again where the count is a new one (R242, R257). -/
def State.newCue (s : State) (n : Nat) : State := if n = s.cue then s else { s with memSeen := [], corrSeen := [] }

theorem newCue_of_ne {s : State} {n : Nat} (h : n ≠ s.cue) : s.newCue n = { s with memSeen := [], corrSeen := [] } := if_neg h

theorem newCue_rest (s : State) (n : Nat) : ({ s.newCue n with memSeen := s.memSeen, corrSeen := s.corrSeen } : State) = s := by
  unfold State.newCue
  split <;> rfl

theorem reg_newCue (s : State) (n a : Nat) : (s.newCue n).reg a = s.reg a :=
  (congrArg (fun v : State => v.reg a) (newCue_rest s n) :)

/-- The part with its count at `n`, before the latch of R44. -/
def State.counting (s : State) (n : Nat) : State :=
  let s := s.newCue n
  { s.setReg R.CU_COUNT (BitVec.ofNat 64 n) with now := { s.now with cueNew := true } }

theorem setCount_eq (s : State) (n c : Nat) : s.setCount n c
    = if n % 1024 = 0 then ((s.counting n).setReg R.CU_MAP_CUE (BitVec.ofNat 64 n)).setReg R.CU_MAP_NS (BitVec.ofNat 64 ((s.counting n).nsAt c))
      else s.counting n := rfl

theorem regsOnly_counting (s : State) (n : Nat) : RegsOnly CountRegs (s.newCue n) (s.counting n) :=
  ⟨fun _ ha => reg_setReg_ne _ _ fun e => ha (e ▸ List.mem_cons_self), rfl⟩

theorem regsOnly_setCount (s : State) (n c : Nat) : RegsOnly CountRegs (s.newCue n) (s.setCount n c) := by
  rw [setCount_eq]
  refine (regsOnly_counting s n).trans (regsOnly_ite ?_ (regsOnly_refl _ _))
  exact (regsOnly_setReg _ _ (by simp [CountRegs])).trans (regsOnly_setReg _ _ (by simp [CountRegs]))

theorem only_setCount (s : State) (n c : Nat) : Only CountRegs s (s.setCount n c) := by
  have hnew : Only CountRegs s (s.newCue n) := by
    unfold State.newCue
    split
    exacts [only_refl _ _, only_of_stores rfl rfl rfl rfl]
  exact hnew.trans (regsOnly_setCount s n c).only

theorem reg_setCount_ne {s : State} {n c a : Nat} (h : ¬ CountRegs a) : (s.setCount n c).reg a = s.reg a := (only_setCount s n c).regs a h

theorem reg_counting (s : State) (n : Nat) : (s.counting n).reg R.CU_COUNT = BitVec.ofNat 64 n := reg_setReg_same _ _ _

theorem reg_setCount_count (s : State) (n c : Nat) : (s.setCount n c).reg R.CU_COUNT = BitVec.ofNat 64 n := by
  rw [setCount_eq]
  split
  · rw [reg_setReg_ne _ _ (by decide), reg_setReg_ne _ _ (by decide), reg_counting]
  · exact reg_counting s n

theorem cue_setCount {s : State} {n c : Nat} (h : n < 2 ^ 64) : (s.setCount n c).cue = n := by
  rw [State.cue, reg_setCount_count, BitVec.toNat_ofNat, Nat.mod_eq_of_lt h]

theorem reg_setCount_latched (s : State) {n c : Nat} (h : n % 1024 = 0) :
    (s.setCount n c).reg R.CU_MAP_CUE = BitVec.ofNat 64 n ∧ (s.setCount n c).reg R.CU_MAP_NS = BitVec.ofNat 64 (s.nsAt c) := by
  have hns : (s.counting n).nsAt c = s.nsAt c := (congrArg (fun v : State => v.nsAt c) (newCue_rest s n) :)
  rw [setCount_eq, if_pos h, hns]
  exact ⟨(reg_setReg_ne _ _ (by decide)).trans (reg_setReg_same _ _ _), reg_setReg_same _ _ _⟩

theorem reg_setCount_unlatched (s : State) {n c : Nat} (h : n % 1024 ≠ 0) :
    (s.setCount n c).reg R.CU_MAP_CUE = s.reg R.CU_MAP_CUE ∧ (s.setCount n c).reg R.CU_MAP_NS = s.reg R.CU_MAP_NS := by
  rw [setCount_eq, if_neg h]
  exact ⟨(reg_setReg_ne _ _ (by decide)).trans (reg_newCue s n _), (reg_setReg_ne _ _ (by decide)).trans (reg_newCue s n _)⟩

theorem cueX_setCount (s : State) (n c : Nat) : (s.setCount n c).cueX = s.cueX :=
  (regsOnly_setCount s n c).cueX.trans (congrArg State.cueX (newCue_rest s n) :)

/-! ### The stacks that count a cue (R252) -/

/-- A throttled stack counts the cue. -/
def State.throttleCue (s : State) (k : Nat) : State := if s.fld (R.TP_STATUS_STEP k) < 2 then s else s.addFld (R.TP_THROTTLE_CUES k) 1

theorem throttle_ne_status (k j : Nat) : R.TP_STATUS j ≠ R.TP_THROTTLE k := by
  unfold R.TP_STATUS R.TP_THROTTLE
  omega

theorem throttle_inj {k j : Nat} (h : k ≠ j) : R.TP_THROTTLE k ≠ R.TP_THROTTLE j := by
  unfold R.TP_THROTTLE
  omega

theorem regsOnly_throttleCue (s : State) (k : Nat) : RegsOnly (· = R.TP_THROTTLE k) s (s.throttleCue k) := by
  unfold State.throttleCue
  split
  exacts [regsOnly_refl _ s, regsOnly_setFld s _ rfl]

/-- The count of a stack after a cue. -/
def State.throttleCount (s : State) (k : Nat) : Nat :=
  if s.fld (R.TP_STATUS_STEP k) < 2 then s.fld (R.TP_THROTTLE_CUES k)
  else min (2 ^ ((R.TP_THROTTLE_CUES k).hi + 1 - (R.TP_THROTTLE_CUES k).lo) - 1) (s.fld (R.TP_THROTTLE_CUES k) + 1)

theorem fld_throttleCue (s : State) (k : Nat) : (s.throttleCue k).fld (R.TP_THROTTLE_CUES k) = s.throttleCount k := by
  unfold State.throttleCue State.throttleCount
  split
  · rfl
  · exact fld_countFld_same s (R.TP_THROTTLE_CUES k) 1 (by decide : 63 < 64)

theorem throttleCount_of_regs {s u : State} {k : Nat} (hs : u.reg (R.TP_STATUS k) = s.reg (R.TP_STATUS k))
    (ht : u.reg (R.TP_THROTTLE k) = s.reg (R.TP_THROTTLE k)) : u.throttleCount k = s.throttleCount k := by
  rw [State.throttleCount, State.throttleCount, fld_congr (f := R.TP_STATUS_STEP k) hs, fld_congr (f := R.TP_THROTTLE_CUES k) ht]

theorem throttleCues_spec (l : List Nat) : l.Nodup → ∀ s : State,
    RegsOnly (fun a => ∃ k ∈ l, a = R.TP_THROTTLE k) s (l.foldl State.throttleCue s)
      ∧ ∀ k ∈ l, (l.foldl State.throttleCue s).fld (R.TP_THROTTLE_CUES k) = s.throttleCount k := by
  induction l with
  | nil => exact fun _ s => ⟨regsOnly_refl _ s, fun _ hk => absurd hk List.not_mem_nil⟩
  | cons j l ih =>
    intro hnd s
    obtain ⟨hj, hl⟩ := List.nodup_cons.mp hnd
    obtain ⟨honly, hall⟩ := ih hl (s.throttleCue j)
    have hone := regsOnly_throttleCue s j
    refine ⟨(hone.mono fun a ha => ⟨j, List.mem_cons_self, ha⟩).trans
      (honly.mono fun a ⟨k, hk, ha⟩ => ⟨k, List.mem_cons_of_mem j hk, ha⟩), fun k hk => ?_⟩
    by_cases hkl : k ∈ l
    · have hkj : k ≠ j := fun e => hj (e ▸ hkl)
      exact (hall k hkl).trans (throttleCount_of_regs (hone.regs _ (throttle_ne_status j k)) (hone.regs _ (throttle_inj hkj)))
    · obtain rfl := (List.mem_cons.mp hk).resolve_right hkl
      have hkeep : ¬ ∃ i ∈ l, R.TP_THROTTLE k = R.TP_THROTTLE i := fun ⟨i, hi, he⟩ =>
        throttle_inj (fun e : k = i => hj (e.symm ▸ hi)) he
      exact (honly.fld (f := R.TP_THROTTLE_CUES k) hkeep).trans (fld_throttleCue s k)

/-! ### The risk report that leaves (R466) -/

/-- A report takes nothing but the fabric and the note of what was sent. -/
structure Reported (s u : State) : Prop where
  rest : { u with fab := s.fab, riskSent := s.riskSent } = s

section
variable {s u : State}

theorem Reported.regs (h : Reported s u) : u.regs = s.regs := (congrArg State.regs h.rest :)
theorem Reported.cueX (h : Reported s u) : u.cueX = s.cueX := (congrArg State.cueX h.rest :)
theorem Reported.memSeen (h : Reported s u) : u.memSeen = s.memSeen := (congrArg State.memSeen h.rest :)
theorem Reported.out (h : Reported s u) : u.out = s.out := (congrArg State.out h.rest :)
theorem Reported.reg (h : Reported s u) (a : Nat) : u.reg a = s.reg a := congrArg (smapGet (regReset a) · a) h.regs
theorem Reported.only {P : Nat → Prop} (h : Reported s u) : Only P s u :=
  only_of_stores h.regs (congrArg State.mem h.rest :) (congrArg State.poison h.rest :) (congrArg State.tiles h.rest :)

end

theorem reported_reportRisk (s : State) : Reported s s.reportRisk := by
  unfold State.reportRisk
  extract_lets e go u
  split
  · exact ⟨rfl⟩
  · split <;> exact ⟨rfl⟩

theorem fab_reportRisk_master {s : State} (h : s.bit R.CU_STATUS_MASTER = true) : s.reportRisk.fab = s.fab := by
  unfold State.reportRisk
  extract_lets e go u
  split
  · rfl
  · rw [if_pos (show u.bit R.CU_STATUS_MASTER = true from h)]

/-- No report waits where the estimate is the one last reported. -/
theorem reportRisk_same {s : State} {c : Nat} (h : s.riskSent = some (s.fld R.RS_RISK_ESTIMATE, c)) : s.reportRisk = s := by
  unfold State.reportRisk
  rw [h]
  exact if_pos (by simp)

/-- A move of 16 or more is withheld for 1024 cues. -/
theorem reportRisk_withheld {s : State} {v c : Nat} (h : s.riskSent = some (v, c)) (hc : s.cue < c + 1024) : s.reportRisk = s := by
  unfold State.reportRisk
  rw [h]
  refine if_pos ?_
  simp only [decide_eq_false (by omega : ¬ c + 1024 ≤ s.cue), Bool.and_false, Bool.not_false]

/-- The part with its estimate noted as reported. -/
def State.riskNoted (s : State) : State := { s with riskSent := some (s.fld R.RS_RISK_ESTIMATE, s.cue) }

/-- Once the limit is over it leaves, but at the master. -/
theorem reportRisk_leaves {s : State} {v c : Nat} (h : s.riskSent = some (v, c)) (hc : c + 1024 ≤ s.cue)
    (hv : 16 ≤ v - s.fld R.RS_RISK_ESTIMATE ∨ 16 ≤ s.fld R.RS_RISK_ESTIMATE - v) :
    s.reportRisk = if s.bit R.CU_STATUS_MASTER then s.riskNoted else s.riskNoted.sendC3 [s.cueMaster] (.risk (s.fld R.RS_RISK_ESTIMATE)) := by
  have hmove : decide (16 ≤ max v (s.fld R.RS_RISK_ESTIMATE) - min v (s.fld R.RS_RISK_ESTIMATE)) = true := decide_eq_true (by omega)
  unfold State.reportRisk
  rw [h]
  simp only [hmove, decide_eq_true hc, Bool.or_true, Bool.and_true, Bool.not_true, Bool.false_eq_true, if_false]
  rfl

/-- What a message to some seats puts into the fabric. -/
theorem inject_sendC3 (s : State) (l : List Nat) (m : MgmtMsg) : (s.sendC3 l m).fab.inject
    = s.fab.inject ++ (l.filter (fun q => q != s.mySeat && !s.fab.lostSeats.contains q)).map (s.mgmtPkt m) := rfl

theorem mgmtPkt_of_seat {s u : State} (m : MgmtMsg) (h : u.mySeat = s.mySeat) : u.mgmtPkt m = s.mgmtPkt m :=
  funext fun dst => by rw [State.mgmtPkt, State.mgmtPkt, h]

/-! ### The end of a cue period (R36-R39, R70) -/

/-- The phase of the curtain at K + 56. -/
def State.curtainOpens (s : State) (n : Nat) : State :=
  match s.curtain.announced with
  | some k => if s.curtain.applied && n == k + 56 then s.setFld R.CU_STATUS_CURTAIN_PHASE 6 else s
  | none => s

/-- The part in its next cue period. -/
def State.nextPeriod (s : State) : State := { s with cueX := s.cueX.next s.cuePeriod }

/-- Its next period begun, with what is limited to once a cue starting again. -/
def State.newPeriod (s : State) : State := { s.nextPeriod with memSeen := [], corrSeen := [] }

/-- The part at the end of a cue period, before anything leaves it. -/
def State.cueCounted (s : State) : State :=
  ((List.range 8).foldl State.throttleCue (s.nextPeriod.setCount (s.cue + 1) (s.cueX.start + s.cueX.len))).curtainOpens (s.cue + 1)

theorem execCueIncrement_early {s : State} (h : s.cycle < s.cueX.start + s.cueX.len) : execCueIncrement s = .next s := if_pos h

theorem execCueIncrement_due {s : State} (h : s.cueX.start + s.cueX.len ≤ s.cycle) : execCueIncrement s
    = .next (if (s.cue + 1) % 16 = 0 ∧ s.cueCounted.bit R.CU_STATUS_MASTER then s.cueCounted.flood (.cue (s.cue + 1) s.cueCounted.mySeat 0 false)
        else s.cueCounted).reportRisk :=
  if_neg (Nat.not_lt.mpr h)

/-- The registers that the end of a cue period changes. -/
def CueRegs (a : Nat) : Prop :=
  a ∈ [R.CU_COUNT, R.CU_MAP_CUE, R.CU_MAP_NS, R.CU_STATUS] ∨ ∃ k, k < 8 ∧ a = R.TP_THROTTLE k

theorem not_cueRegs {a : Nat} (h : a ∉ [R.CU_COUNT, R.CU_MAP_CUE, R.CU_MAP_NS, R.CU_STATUS]) (ht : ∀ k, a ≠ R.TP_THROTTLE k) : ¬ CueRegs a :=
  fun ha => ha.elim h fun ⟨k, _, hk⟩ => ht k hk

theorem not_cueRegs_below {a : Nat} (h : a ∉ [R.CU_COUNT, R.CU_MAP_CUE, R.CU_MAP_NS, R.CU_STATUS]) (ht : a < R.TP_THROTTLE 0) : ¬ CueRegs a :=
  not_cueRegs h fun k e => by
    unfold R.TP_THROTTLE at e ht
    omega

theorem regsOnly_curtainOpens (s : State) (n : Nat) : RegsOnly (· = R.CU_STATUS) s (s.curtainOpens n) := by
  unfold State.curtainOpens
  split
  · exact regsOnly_ite (regsOnly_setFld s 6 rfl) (regsOnly_refl _ s)
  · exact regsOnly_refl _ s

/-- The phase is all of CU_STATUS that changes. -/
theorem bit_curtainOpens (s : State) (n : Nat) {f : Fld} (h : f.hi < 8) : (s.curtainOpens n).bit f = s.bit f := by
  unfold State.curtainOpens
  split
  · split
    · exact bit_setFld_disjoint s 6 (.inl h)
    · rfl
  · rfl

/-- What the end of a cue period leaves before anything is sent. -/
structure CueCounted (s w : State) : Prop where
  only : RegsOnly CueRegs s.newPeriod w
  count : w.reg R.CU_COUNT = BitVec.ofNat 64 (s.cue + 1)
  latched : (s.cue + 1) % 1024 = 0 → w.reg R.CU_MAP_CUE = BitVec.ofNat 64 (s.cue + 1)
    ∧ w.reg R.CU_MAP_NS = BitVec.ofNat 64 (s.nsAt (s.cueX.start + s.cueX.len))
  unlatched : (s.cue + 1) % 1024 ≠ 0 → w.reg R.CU_MAP_CUE = s.reg R.CU_MAP_CUE ∧ w.reg R.CU_MAP_NS = s.reg R.CU_MAP_NS
  throttles : ∀ k, k < 8 → w.fld (R.TP_THROTTLE_CUES k) = s.throttleCount k
  status : ∀ f : Fld, f.addr = R.CU_STATUS → f.hi < 8 → w.bit f = s.bit f

theorem cueCounted_spec (s : State) : CueCounted s s.cueCounted := by
  obtain ⟨hthr, hcues⟩ := throttleCues_spec (List.range 8) List.nodup_range
    (s.nextPeriod.setCount (s.cue + 1) (s.cueX.start + s.cueX.len))
  have hopen := regsOnly_curtainOpens ((List.range 8).foldl State.throttleCue (s.nextPeriod.setCount (s.cue + 1) (s.cueX.start + s.cueX.len)))
    (s.cue + 1)
  have hcount := regsOnly_setCount s.nextPeriod (s.cue + 1) (s.cueX.start + s.cueX.len)
  have hne : s.cue + 1 ≠ s.nextPeriod.cue := Nat.succ_ne_self s.cue
  rw [newCue_of_ne hne] at hcount
  have hlow : ∀ a, a < R.TP_THROTTLE 0 → ¬ ∃ k ∈ List.range 8, a = R.TP_THROTTLE k := by
    rintro a ha ⟨k, _, rfl⟩
    unfold R.TP_THROTTLE at ha
    omega
  have hreg : ∀ a, a < R.TP_THROTTLE 0 → a ≠ R.CU_STATUS → s.cueCounted.reg a
      = (s.nextPeriod.setCount (s.cue + 1) (s.cueX.start + s.cueX.len)).reg a := fun a ha hs =>
    (hopen.regs a hs).trans (hthr.regs a (hlow a ha))
  refine ⟨?_, ?_, fun h => ?_, fun h => ?_, fun k hk => ?_, fun f hf hhi => ?_⟩
  · exact (hcount.mono fun a ha => .inl (List.mem_append_left [R.CU_STATUS] ha)).trans ((hthr.mono fun a ⟨k, hk, ha⟩ => .inr ⟨k, List.mem_range.mp hk, ha⟩).trans
      (hopen.mono fun a ha => .inl (by simp [ha])))
  · exact (hreg _ (by decide) (by decide)).trans (reg_setCount_count _ _ _)
  · rw [hreg _ (by decide) (by decide), hreg _ (by decide) (by decide)]
    exact reg_setCount_latched s.nextPeriod h
  · rw [hreg _ (by decide) (by decide), hreg _ (by decide) (by decide)]
    exact reg_setCount_unlatched s.nextPeriod h
  · have hstatus : R.TP_THROTTLE k ≠ R.CU_STATUS := by unfold R.TP_THROTTLE R.CU_STATUS; omega
    have hnot : ∀ a, 0x1200b000000 ≤ a → ¬ CountRegs a := fun a ha hc => by
      simp only [CountRegs, List.mem_cons, List.not_mem_nil, or_false] at hc
      obtain rfl | rfl | rfl := hc <;> revert ha <;> decide
    refine ((hopen.fld (f := R.TP_THROTTLE_CUES k) hstatus).trans (hcues k (List.mem_range.mpr hk))).trans
      (throttleCount_of_regs (reg_setCount_ne (hnot _ ?_)) (reg_setCount_ne (hnot _ ?_)))
    · unfold R.TP_STATUS; omega
    · unfold R.TP_THROTTLE; omega
  · refine (bit_curtainOpens _ _ hhi).trans (bit_congr ?_)
    rw [hf]
    exact (hthr.regs _ (hlow _ (by decide))).trans (reg_setCount_ne (s := s.nextPeriod) not_countRegs_status)

end Sys2Proof.Machine

namespace Sys2Proof.Claim
open Sys2Proof.Machine

/-- The period after this one, as R37 and R40 give it. -/
theorem next_cueX (s : State) : s.cueX.next s.cuePeriod = { s.cueX with
    start := s.cueX.start + s.cueX.len, len := (15 * s.fld R.CU_CTL_PERIOD + max (-15) (min 15 s.cueX.slew)).toNat,
    slew := s.cueX.slew - max (-15) (min 15 s.cueX.slew) } := by
  simp only [CueState.next, CueState.step, State.cuePeriod, Nat.cast_mul, Nat.cast_ofNat]

/-- Settles O24: the count, its latch and the stacks' counts as the period's end leaves them, then what is sent. -/
theorem cueTimerCounts : Obligations.CueTimerCounts := by
  intro s
  refine ⟨execCueIncrement_early, fun hlt hdue => ?_⟩
  obtain ⟨honly, hcount, hlatched, hunlatched, hthrottles, hstatus⟩ := cueCounted_spec s
  have hmaster := hstatus R.CU_STATUS_MASTER rfl (by decide)
  have hkeep : ∀ f : Fld, ¬ CueRegs f.addr → s.cueCounted.fld f = s.fld f := fun f hf => honly.fld hf
  have hrisk : s.cueCounted.fld R.RS_RISK_ESTIMATE = s.fld R.RS_RISK_ESTIMATE := hkeep _ (not_cueRegs_below (by decide) (by decide))
  have hseat : s.cueCounted.mySeat = s.mySeat := hkeep R.FB_CTL_SEAT (not_cueRegs_below (by decide) (by decide))
  have hlast : s.cueCounted.cueMaster = s.cueMaster := by
    rw [State.cueMaster, State.cueMaster, hstatus R.CU_STATUS_FAILOVER rfl (by decide),
      hkeep R.CU_CTL_MASTER_SEAT (not_cueRegs_below (by decide) (by decide)), honly.cueX]
    rfl
  have hrun := execCueIncrement_due hdue
  generalize hw : s.cueCounted = w at *
  generalize hv : (if (s.cue + 1) % 16 = 0 ∧ w.bit R.CU_STATUS_MASTER = true then w.flood (.cue (s.cue + 1) w.mySeat 0 false) else w) = v at hrun
  have hfab : FabOnly w v := by
    rw [← hv]
    split
    exacts [fabOnly_flood _ _, fabOnly_refl w]
  have hrep := reported_reportRisk v
  have hreg : ∀ a, v.reportRisk.reg a = w.reg a := fun a => (hrep.reg a).trans (hfab.reg a)
  have hcue : v.cue = s.cue + 1 := by
    rw [State.cue, hfab.reg, hcount, BitVec.toNat_ofNat, Nat.mod_eq_of_lt hlt]
  have hsent : v.riskSent = s.riskSent := hfab.riskSent.trans honly.riskSent
  have hestimate : v.fld R.RS_RISK_ESTIMATE = s.fld R.RS_RISK_ESTIMATE := (hfab.fld _).trans hrisk
  refine ⟨_, hrun, ?_, fun h => ?_, fun h => ?_, ?_, fun k hk => ?_, ?_, ?_, fun h hsame => ?_, fun v' c hsome hmove => ⟨fun hover => ⟨?_, fun hm => ?_⟩,
    fun hwithin => ?_⟩, fun hm h16 p hp hup => ?_, ?_⟩
  · exact (congrArg BitVec.toNat (hrep.reg R.CU_COUNT)).trans hcue
  · rw [hreg, hreg]
    exact hlatched h
  · rw [hreg, hreg]
    exact hunlatched h
  · exact ((hrep.cueX.trans hfab.cueX).trans honly.cueX).trans (next_cueX s)
  · exact (fld_congr (hreg _)).trans (hthrottles k hk)
  · exact (hrep.memSeen.trans hfab.memSeen).trans honly.memSeen
  · exact (hrep.out.trans hfab.out).trans honly.out
  · obtain ⟨c, hc⟩ := hsame
    rw [reportRisk_same (c := c) (by rw [hsent, hestimate, hc]), ← hv, if_neg]
    · exact honly.fab
    · rintro ⟨h16, hm⟩
      rw [hmaster] at hm
      exact h.elim (fun h => by simp [h] at hm) (fun h => h h16)
  · rw [reportRisk_leaves (hsent.trans hsome) (by rw [hcue]; exact hover) (by rw [hestimate]; exact hmove)]
    have hnoted : v.riskNoted.riskSent = some (s.fld R.RS_RISK_ESTIMATE, s.cue + 1) := by rw [State.riskNoted, hestimate, hcue]
    split <;> exact hnoted
  · have hvw : v = w := hv.symm.trans (if_neg fun h => by simp [hmaster, hm] at h)
    rw [reportRisk_leaves (hsent.trans hsome) (by rw [hcue]; exact hover) (by rw [hestimate]; exact hmove), hvw,
      if_neg (by rw [hmaster, hm]; decide), hlast, hrisk]
    rw [inject_sendC3, mgmtPkt_of_seat _ (show w.riskNoted.mySeat = s.mySeat from hseat),
      show w.riskNoted.fab = s.fab from honly.fab, show w.riskNoted.mySeat = s.mySeat from hseat]
  · rw [reportRisk_withheld (hsent.trans hsome) (by rw [hcue]; exact hwithin), hsent]
  · have hvf : v = w.flood (.cue (s.cue + 1) s.mySeat 0 false) := by
      rw [← hv, if_pos ⟨h16, hmaster.trans hm⟩, hseat]
    have hport : w.reg (R.FB_PORT_STATUS p) = s.reg (R.FB_PORT_STATUS p) := honly.regs _ (not_cueRegs
      (by unfold R.FB_PORT_STATUS; simp only [List.mem_cons, List.not_mem_nil, or_false, R.CU_COUNT, R.CU_MAP_CUE, R.CU_MAP_NS, R.CU_STATUS]; omega)
      (fun k => by unfold R.FB_PORT_STATUS R.TP_THROTTLE; omega))
    rw [port_of_fab (fab_reportRisk_master ((hfab.bit _).trans (hmaster.trans hm))), hvf]
    exact ctlq_flood (by rw [honly.fab]; exact hp) ((portUp_of_reg hport).trans hup)
  · have hperiod : Only CueRegs s s.newPeriod := only_of_stores rfl rfl rfl rfl
    exact ((hperiod.trans honly.only).trans hfab.only).trans hrep.only

end Sys2Proof.Claim
end

section
/-!
PROOFS. Cue flits, holdover, cut-off and takeover (O25): what a followed flit does to the count and to the phase.
-/
namespace Sys2Proof.Machine
open Sys2Proof.Claim

/-- The registers of the cue timer that hardware writes. -/
def TimerRegs (a : Nat) : Prop := a ∈ [R.CU_COUNT, R.CU_MAP_CUE, R.CU_MAP_NS, R.CU_STATUS]

theorem CountRegs.timer {a : Nat} (h : CountRegs a) : TimerRegs a := List.mem_append_left [R.CU_STATUS] h

theorem timerRegs_status : TimerRegs R.CU_STATUS := by
  unfold TimerRegs
  decide

theorem not_timerRegs {a : Nat} (h : R.CU_STATUS < a) (g : a < R.CU_MAP_CUE ∨ R.CU_MAP_NS < a) : ¬ TimerRegs a := by
  simp only [TimerRegs, List.mem_cons, List.not_mem_nil, or_false, R.CU_COUNT, R.CU_MAP_CUE, R.CU_MAP_NS, R.CU_STATUS] at *
  omega

theorem not_timerRegs_ctl : ¬ TimerRegs R.CU_CTL := by
  unfold TimerRegs
  decide

theorem only_timer_status {s u : State} (h : Only (· = R.CU_STATUS) s u) : Only TimerRegs s u := h.mono fun _ ha => ha ▸ timerRegs_status

theorem cue_of_only_status {s u : State} (h : Only (· = R.CU_STATUS) s u) : u.cue = s.cue := congrArg BitVec.toNat (h.regs R.CU_COUNT (by decide))

theorem regsOnly_status (s : State) {f : Fld} (v : Nat) (h : f.addr = R.CU_STATUS) : RegsOnly (· = R.CU_STATUS) s (s.setFld f v) :=
  regsOnly_setFld s v h

/-! ### A followed flit's count (R36, R40) -/

/-- A master that follows another is no longer one (R42). -/
def State.demoted (s : State) : State := if s.bit R.CU_STATUS_MASTER then s.setFld R.CU_STATUS_MASTER 0 else s

theorem regsOnly_demoted (s : State) : RegsOnly (· = R.CU_STATUS) s s.demoted := regsOnly_ite (regsOnly_setFld s 0 rfl) (regsOnly_refl _ s)

theorem bit_demoted_master (s : State) : s.demoted.bit R.CU_STATUS_MASTER = false := by
  unfold State.demoted
  split
  · exact bit_setFld_zero s _ (by decide)
  · next h => exact Bool.eq_false_iff.mpr h

theorem bit_demoted {f : Fld} (s : State) (h : f.hi < 1 ∨ 1 < f.lo) : s.demoted.bit f = s.bit f := by
  unfold State.demoted
  split
  · exact bit_setFld_disjoint s 0 h
  · rfl

/-- A count that a flit gives with its delay. -/
def State.flitCount (s : State) (count d : Nat) : Nat := count + d / max 1 s.cuePeriod

/-- The part with the phase of a flit that gives a new count. -/
def State.rephased (s : State) (d : Nat) : State :=
  { s with cueX := { s.cueX with start := s.cycle - d % max 1 s.cuePeriod, len := max 1 s.cuePeriod, slew := 0 } }

theorem takeCount_behind {s : State} {count d : Nat} {retried : Bool} (h : ¬ s.cue < s.flitCount count d) : s.takeCount count d retried = s :=
  if_pos (Nat.not_lt.mp h)

theorem takeCount_ahead {s : State} {count d : Nat} {retried : Bool} (h : s.cue < s.flitCount count d) : s.takeCount count d retried
    = (if retried then s else s.rephased d).setCount (s.flitCount count d) (if retried then s else s.rephased d).cueX.start :=
  if_neg (Nat.not_le.mpr h)

/-- A takeover by another master than the one named is a failover (R42). -/
def State.failedOver (s : State) (master : Nat) : State := if master ≠ s.fld R.CU_CTL_MASTER_SEAT then s.raiseFld R.CU_STATUS_FAILOVER else s

theorem regsOnly_failedOver (s : State) (master : Nat) : RegsOnly (· = R.CU_STATUS) s (s.failedOver master) :=
  regsOnly_ite (regsOnly_raiseFld s rfl) (regsOnly_refl _ s)

theorem bit_failedOver {f : Fld} (s : State) (master : Nat) (h : f.hi < 4 ∨ 4 < f.lo) : (s.failedOver master).bit f = s.bit f := by
  unfold State.failedOver
  split
  · exact bit_raiseFld_disjoint s h
  · rfl

theorem bit_failedOver_set (s : State) {master : Nat} (h : master ≠ s.fld R.CU_CTL_MASTER_SEAT) :
    (s.failedOver master).bit R.CU_STATUS_FAILOVER = true := by
  rw [State.failedOver, if_pos h]
  exact bit_raiseFld_same s _ (by decide) (by decide)

/-- Is the count of a flit taken (R40)? -/
def State.takesCount (s : State) (count d : Nat) (retried : Bool) : Prop :=
  (s.cueX.followed = none ∨ retried = true) ∧ s.cue < s.flitCount count d

/-- The part with the count of a followed flit taken, where it is taken. -/
def State.flitCounted (s : State) (count d : Nat) (retried : Bool) : State :=
  if s.cueX.followed.isNone || retried then s.demoted.takeCount count d retried else s.demoted

theorem cuePeriod_of_only {s u : State} (h : Only TimerRegs s u) : u.cuePeriod = s.cuePeriod :=
  congrArg (15 * ·) (fld_congr (h.regs R.CU_CTL not_timerRegs_ctl))

theorem only_demoted (s : State) : Only TimerRegs s s.demoted := only_timer_status (regsOnly_demoted s).only

theorem cue_demoted (s : State) : s.demoted.cue = s.cue := cue_of_only_status (regsOnly_demoted s).only

theorem flitCount_demoted (s : State) (count d : Nat) : s.demoted.flitCount count d = s.flitCount count d := by
  rw [State.flitCount, State.flitCount, cuePeriod_of_only (only_demoted s)]

/-- The part that takes a count, with the phase unless the flit was resent. -/
def State.flitPhased (s : State) (d : Nat) (retried : Bool) : State := if retried then s.demoted else s.demoted.rephased d

theorem flitPhased_rest (s : State) (d : Nat) (retried : Bool) : ({ s.flitPhased d retried with cueX := s.demoted.cueX } : State) = s.demoted := by
  unfold State.flitPhased
  split <;> rfl

theorem cueX_flitPhased (s : State) (d : Nat) (retried : Bool) :
    (s.flitPhased d retried).cueX = if retried then s.cueX else (s.rephased d).cueX := by
  have hdem := regsOnly_demoted s
  unfold State.flitPhased
  split
  · exact hdem.cueX
  · rw [State.rephased, State.rephased, cuePeriod_of_only (only_demoted s), hdem.cueX, show s.demoted.cycle = s.cycle from (congrArg State.cycle hdem.rest :)]

theorem flitCounted_takes {s : State} {count d : Nat} {retried : Bool} (h : s.takesCount count d retried) : s.flitCounted count d retried
    = (s.flitPhased d retried).setCount (s.flitCount count d) (s.flitPhased d retried).cueX.start := by
  obtain ⟨hfirst, hlt⟩ := h
  have hasked : (s.cueX.followed.isNone || retried) = true := by
    obtain h | h := hfirst <;> simp [h]
  rw [State.flitCounted, if_pos hasked, takeCount_ahead (by rw [flitCount_demoted, cue_demoted]; exact hlt), flitCount_demoted]
  rfl

theorem flitCounted_leaves {s : State} {count d : Nat} {retried : Bool} (h : ¬ s.takesCount count d retried) :
    s.flitCounted count d retried = s.demoted := by
  unfold State.flitCounted
  split
  · next hasked =>
    refine takeCount_behind fun hlt => h ⟨by simpa using hasked, ?_⟩
    rw [flitCount_demoted, cue_demoted] at hlt
    exact hlt
  · rfl

/-- What a flit's count leaves: the timer's registers changed, the status as the demotion has it. -/
structure FlitCounted (s v : State) : Prop where
  only : Only TimerRegs s v
  fab : v.fab = s.fab
  cycle : v.cycle = s.cycle
  status : v.reg R.CU_STATUS = s.demoted.reg R.CU_STATUS

theorem flitCounted_demoted (s : State) : FlitCounted s s.demoted :=
  ⟨only_demoted s, (regsOnly_demoted s).fab, (congrArg State.cycle (regsOnly_demoted s).rest :), rfl⟩

theorem flitCounted_spec (s : State) (count d : Nat) (retried : Bool) : FlitCounted s (s.flitCounted count d retried) := by
  obtain ⟨honly, hfab, hcycle, _⟩ := flitCounted_demoted s
  by_cases ht : s.takesCount count d retried
  · rw [flitCounted_takes ht]
    have hphased := flitPhased_rest s d retried
    generalize s.flitPhased d retried = w at hphased
    have hw : Only TimerRegs s.demoted w := only_of_stores (congrArg State.regs hphased :) (congrArg State.mem hphased :)
      (congrArg State.poison hphased :) (congrArg State.tiles hphased :)
    have hset := regsOnly_setCount w (s.flitCount count d) w.cueX.start
    have hnew := newCue_rest w (s.flitCount count d)
    refine ⟨(honly.trans hw).trans ((only_setCount w _ _).mono fun _ => CountRegs.timer), ?_, ?_, ?_⟩
    · exact ((hset.fab.trans (congrArg State.fab hnew :)).trans (congrArg State.fab hphased :)).trans hfab
    · exact (((congrArg State.cycle hset.rest :).trans (congrArg State.cycle hnew :)).trans (congrArg State.cycle hphased :)).trans hcycle
    · exact (reg_setCount_ne not_countRegs_status).trans (congrArg (fun v : State => v.reg R.CU_STATUS) hphased :)
  · exact flitCounted_leaves ht ▸ flitCounted_demoted s

/-- The part with a followed flit's count taken and its master noted in CU_STATUS. -/
def State.flitTaken (s : State) (count master d : Nat) (retried : Bool) : State := (s.flitCounted count d retried).failedOver master

/-- What a flit's count and its master leave: the timer's registers changed, the status bits but MASTER and FAILOVER as they were. -/
structure FlitTaken (s : State) (count master d : Nat) (retried : Bool) (v : State) : Prop where
  only : Only TimerRegs s v
  fab : v.fab = s.fab
  cycle : v.cycle = s.cycle
  demoted : v.bit R.CU_STATUS_MASTER = false
  failover : master ≠ s.fld R.CU_CTL_MASTER_SEAT → v.bit R.CU_STATUS_FAILOVER = true
  locked : v.bit R.CU_STATUS_LOCKED = s.bit R.CU_STATUS_LOCKED
  holdover : v.bit R.CU_STATUS_HOLDOVER = s.bit R.CU_STATUS_HOLDOVER
  taken : s.takesCount count d retried → s.flitCount count d < 2 ^ 64 → v.cue = s.flitCount count d
    ∧ (s.flitCount count d % 1024 = 0 → v.reg R.CU_MAP_CUE = BitVec.ofNat 64 (s.flitCount count d))
    ∧ v.cueX = if retried then s.cueX else (s.rephased d).cueX
  left : ¬ s.takesCount count d retried → v.cue = s.cue ∧ v.cueX = s.cueX

theorem flitTaken_spec (s : State) (count master d : Nat) (retried : Bool) :
    FlitTaken s count master d retried (s.flitTaken count master d retried) := by
  obtain ⟨honly, hfab, hcycle, hstatus⟩ := flitCounted_spec s count d retried
  have hover := regsOnly_failedOver (s.flitCounted count d retried) master
  have hbit : ∀ f : Fld, f.addr = R.CU_STATUS → f.hi < 4 ∨ 4 < f.lo → (s.flitTaken count master d retried).bit f = s.demoted.bit f := fun f hf hd =>
    (bit_failedOver _ master hd).trans (bit_congr (by rw [hf]; exact hstatus))
  refine ⟨honly.trans (only_timer_status hover.only), hover.fab.trans hfab, (congrArg State.cycle hover.rest :).trans hcycle, ?_, fun h => ?_, ?_, ?_,
    fun ht hlt => ⟨?_, fun h => ?_, ?_⟩, fun ht => ⟨?_, ?_⟩⟩
  · exact (hbit _ rfl (by decide)).trans (bit_demoted_master s)
  · exact bit_failedOver_set _ (by rw [fld_congr (f := R.CU_CTL_MASTER_SEAT) (honly.regs _ not_timerRegs_ctl)]; exact h)
  · exact (hbit _ rfl (by decide)).trans (bit_demoted s (by decide))
  · exact (hbit _ rfl (by decide)).trans (bit_demoted s (by decide))
  · rw [State.flitTaken, cue_of_only_status hover.only, flitCounted_takes ht]
    exact cue_setCount hlt
  · rw [State.flitTaken, hover.regs _ (by decide), flitCounted_takes ht]
    exact (reg_setCount_latched _ h).1
  · rw [State.flitTaken, hover.cueX, flitCounted_takes ht, cueX_setCount]
    exact cueX_flitPhased s d retried
  · rw [State.flitTaken, cue_of_only_status hover.only, flitCounted_leaves ht]
    exact cue_demoted s
  · rw [State.flitTaken, hover.cueX, flitCounted_leaves ht]
    exact (regsOnly_demoted s).cueX

/-! ### What a flit says of the phase (R40, R41) -/

/-- How far the edges are to move. -/
def State.phaseOff (s : State) (count d : Nat) : Int := (s.cycle : Int) - d - s.edgeOf count

/-- The part with what is to be slewed. -/
def State.toSlew (s : State) (off : Int) : State := { s with cueX := { s.cueX with slew := off } }

theorem takePhase_eq (s : State) (count d : Nat) : s.takePhase count d
    = if (s.phaseOff count d).natAbs ≤ 30 then ((s.toSlew (s.phaseOff count d)).setFld R.CU_STATUS_HOLDOVER 0).setFld R.CU_STATUS_LOCKED 1
      else (s.toSlew (s.phaseOff count d)).setFld R.CU_STATUS_LOCKED 0 := rfl

structure PhaseTaken (s : State) (off : Int) (u : State) : Prop where
  only : RegsOnly (· = R.CU_STATUS) (s.toSlew off) u
  locked : u.bit R.CU_STATUS_LOCKED = decide (off.natAbs ≤ 30)
  holdover : u.bit R.CU_STATUS_HOLDOVER = (s.bit R.CU_STATUS_HOLDOVER && !decide (off.natAbs ≤ 30))
  others : ∀ f : Fld, 2 < f.lo ∨ f = R.CU_STATUS_MASTER → u.bit f = s.bit f

theorem takePhase_spec (s : State) (count d : Nat) : PhaseTaken s (s.phaseOff count d) (s.takePhase count d) := by
  rw [takePhase_eq]
  generalize s.phaseOff count d = off
  split
  · next h =>
    have hheld : RegsOnly (· = R.CU_STATUS) (s.toSlew off) ((s.toSlew off).setFld R.CU_STATUS_HOLDOVER 0) := regsOnly_setFld _ 0 rfl
    refine ⟨hheld.trans (regsOnly_setFld _ 1 rfl), ?_, ?_, fun f hf => ?_⟩
    · rw [decide_eq_true h]
      exact bit_setFld_one _ _ (by decide) (by decide)
    · rw [decide_eq_true h, Bool.not_true, Bool.and_false, bit_setFld_disjoint _ _ (by decide)]
      exact bit_setFld_zero _ _ (by decide)
    · have hd : (f.hi < 0 ∨ 0 < f.lo) ∧ (f.hi < 2 ∨ 2 < f.lo) := by
        obtain h | rfl := hf
        · omega
        · decide
      exact (bit_setFld_disjoint _ 1 hd.1).trans (bit_setFld_disjoint _ 0 hd.2)
  · next h =>
    refine ⟨regsOnly_setFld _ 0 rfl, ?_, ?_, fun f hf => ?_⟩
    · rw [decide_eq_false h]
      exact bit_setFld_zero _ _ (by decide)
    · rw [decide_eq_false h, Bool.not_false, Bool.and_true]
      exact bit_setFld_disjoint _ 0 (by decide)
    · refine bit_setFld_disjoint _ 0 ?_
      obtain h | rfl := hf
      · exact .inr (Nat.lt_of_le_of_lt (Nat.zero_le 2) h)
      · decide

theorem edgeOf_congr {s u : State} (hc : u.cue = s.cue) (hx : u.cueX = s.cueX) (hp : u.cuePeriod = s.cuePeriod) (c : Nat) : u.edgeOf c = s.edgeOf c := by
  rw [State.edgeOf, State.edgeOf, hc, hx, hp]

/-! ### A cue flit (R39-R42) -/

/-- The part with the flit's master followed. -/
def State.following (s : State) (master : Nat) : State :=
  { s with cueX := { s.cueX with
      lastFlit := s.cue, followed := some master, lastNamed := if master = s.fld R.CU_CTL_MASTER_SEAT then s.cue else s.cueX.lastNamed } }

/-- The part after a followed flit's count, which the phase then corrects unless the flit was resent. -/
def State.flitFollowed (s : State) (count master d : Nat) (retried : Bool) : State :=
  let v := (s.flitTaken count master d retried).following master
  if retried then v else v.takePhase count d

/-- A cue flit's delay with the port's and the hop added (R361). -/
def State.hopDelay (s : State) (p delay hop : Nat) : Nat := delay + s.fld (R.FB_PORT_DELAY_PS p) + hop

theorem follows_floodFrom (s : State) (p master : Nat) (m : Ctl) : (s.floodFrom p m).follows master = s.follows master := by
  have hf : FabOnly s (s.floodFrom p m) := fabOnly_floodOver s m _
  unfold State.follows State.mySeat State.cue
  rw [hf.cueX, hf.fld, hf.fld, hf.fld, hf.bit, hf.bit, hf.reg]

/-- The part with a cue flit flooded on. -/
def State.cueFlooded (s : State) (p count master delay hop : Nat) (retried : Bool) : State :=
  s.floodFrom p (.cue count master (s.hopDelay p delay hop % 2 ^ 32) retried)

theorem cueIn_eq (s : State) (p count master delay hop : Nat) (retried : Bool) : s.cueIn (some p) count master delay hop retried
    = (let w := s.cueFlooded p count master delay hop retried
       if !w.follows master then w
       else w.flitFollowed count master (psCycles (s.hopDelay p delay hop)) retried) := rfl

theorem cueIn_ignored {s : State} {p count master delay hop : Nat} {retried : Bool} (h : s.follows master = false) :
    s.cueIn (some p) count master delay hop retried = s.cueFlooded p count master delay hop retried := by
  have hw : (s.cueFlooded p count master delay hop retried).follows master = false := (follows_floodFrom s p master _).trans h
  rw [cueIn_eq]
  exact if_pos (by rw [hw]; rfl)

theorem cueIn_followed {s : State} {p count master delay hop : Nat} {retried : Bool} (h : s.follows master = true) :
    s.cueIn (some p) count master delay hop retried
      = (s.cueFlooded p count master delay hop retried).flitFollowed count master (psCycles (s.hopDelay p delay hop)) retried := by
  have hw : (s.cueFlooded p count master delay hop retried).follows master = true := (follows_floodFrom s p master _).trans h
  rw [cueIn_eq]
  exact if_neg (by rw [hw]; decide)

/-- A flit whose count is taken moves the phase so that nothing is left to slew. -/
theorem phaseOff_rephased {s v : State} {count d : Nat} (hper : 0 < s.cuePeriod) (hd : d % max 1 s.cuePeriod ≤ s.cycle)
    (hn : v.cue = s.flitCount count d) (hcycle : v.cycle = s.cycle) (hp : v.cuePeriod = s.cuePeriod)
    (hx : v.cueX.start = (s.rephased d).cueX.start) : v.phaseOff count d = 0 := by
  have hmax : max 1 s.cuePeriod = s.cuePeriod := by omega
  have hle : count ≤ v.cue := by rw [hn]; exact Nat.le_add_right _ _
  have hsub : v.cue - count = d / s.cuePeriod := by rw [hn, State.flitCount, hmax, Nat.add_sub_cancel_left]
  have hdiv : d / s.cuePeriod * s.cuePeriod + d % s.cuePeriod = d := by rw [Nat.mul_comm]; exact Nat.div_add_mod d _
  rw [hmax] at hd
  rw [State.phaseOff, State.edgeOf, hx, hcycle, hp, if_pos hle, hsub, State.rephased, hmax]
  generalize d / s.cuePeriod * s.cuePeriod = a at hdiv ⊢
  generalize d % s.cuePeriod = b at hd hdiv ⊢
  dsimp only
  omega

/-- A followed flit changes the timer's registers alone, and nothing of the fabric. -/
theorem flitFollowed_frame (s : State) (count master d : Nat) (retried : Bool) :
    Only TimerRegs s (s.flitFollowed count master d retried) ∧ (s.flitFollowed count master d retried).fab = s.fab := by
  have htaken := flitTaken_spec s count master d retried
  have hfollow : Only TimerRegs (s.flitTaken count master d retried) ((s.flitTaken count master d retried).following master) :=
    only_of_stores rfl rfl rfl rfl
  unfold State.flitFollowed
  extract_lets v
  split
  · exact ⟨htaken.only.trans hfollow, htaken.fab⟩
  · have hp := (takePhase_spec v count d).only
    have hslewed : Only TimerRegs v (v.toSlew (v.phaseOff count d)) := only_of_stores rfl rfl rfl rfl
    exact ⟨((htaken.only.trans hfollow).trans hslewed).trans (only_timer_status hp.only), hp.fab.trans htaken.fab⟩

/-- What a followed cue flit leaves. -/
structure FlitFollowed (s : State) (count master d : Nat) (retried : Bool) (u : State) : Prop where
  demoted : u.bit R.CU_STATUS_MASTER = false
  followed : u.cueX.followed = some master
  lastFlit : u.cueX.lastFlit = u.cue
  lastNamed : u.cueX.lastNamed = if master = s.fld R.CU_CTL_MASTER_SEAT then u.cue else s.cueX.lastNamed
  taken : s.takesCount count d retried → u.cue = s.flitCount count d
    ∧ (s.flitCount count d % 1024 = 0 → u.reg R.CU_MAP_CUE = BitVec.ofNat 64 (s.flitCount count d))
  left : ¬ s.takesCount count d retried → u.cue = s.cue
  failover : master ≠ s.fld R.CU_CTL_MASTER_SEAT → u.bit R.CU_STATUS_FAILOVER = true
  resent : retried = true → u.cueX.slew = s.cueX.slew ∧ u.bit R.CU_STATUS_HOLDOVER = s.bit R.CU_STATUS_HOLDOVER
    ∧ u.bit R.CU_STATUS_LOCKED = s.bit R.CU_STATUS_LOCKED
  moved : retried = false → ¬ s.takesCount count d retried → u.cueX.slew = s.phaseOff count d ∧ u.cueX.start = s.cueX.start
    ∧ u.cueX.len = s.cueX.len ∧ u.bit R.CU_STATUS_LOCKED = decide ((s.phaseOff count d).natAbs ≤ 30)
    ∧ u.bit R.CU_STATUS_HOLDOVER = (s.bit R.CU_STATUS_HOLDOVER && !decide ((s.phaseOff count d).natAbs ≤ 30))
  aligned : retried = false → s.takesCount count d retried → 0 < s.cuePeriod → d % max 1 s.cuePeriod ≤ s.cycle →
    u.cueX.start = s.cycle - d % max 1 s.cuePeriod ∧ u.cueX.len = max 1 s.cuePeriod ∧ u.cueX.slew = 0
    ∧ u.bit R.CU_STATUS_LOCKED = true ∧ u.bit R.CU_STATUS_HOLDOVER = false

theorem flitFollowed_spec {s : State} {count master d : Nat} {retried : Bool} (hlt : s.flitCount count d < 2 ^ 64) :
    FlitFollowed s count master d retried (s.flitFollowed count master d retried) := by
  obtain ⟨honly, hfab, hcycle, hdem, hover, hlocked, hheld, htaken, hleft⟩ := flitTaken_spec s count master d retried
  have hnamed : (s.flitTaken count master d retried).cueX.lastNamed = s.cueX.lastNamed := by
    by_cases ht : s.takesCount count d retried
    · rw [(htaken ht hlt).2.2]
      split <;> rfl
    · rw [(hleft ht).2]
  have hctl : (s.flitTaken count master d retried).reg R.CU_CTL = s.reg R.CU_CTL := honly.regs _ not_timerRegs_ctl
  generalize hv : s.flitTaken count master d retried = v at *
  have hseat : v.fld R.CU_CTL_MASTER_SEAT = s.fld R.CU_CTL_MASTER_SEAT := fld_congr hctl
  have hper : v.cuePeriod = s.cuePeriod := cuePeriod_of_only honly
  have hlast : (v.following master).cueX.lastNamed = if master = s.fld R.CU_CTL_MASTER_SEAT then v.cue else s.cueX.lastNamed := by
    rw [State.following, hseat, hnamed]
  rw [State.flitFollowed, hv]
  cases retried with
  | true =>
    rw [if_pos rfl]
    refine ⟨hdem, rfl, rfl, hlast, fun ht => ⟨(htaken ht hlt).1, (htaken ht hlt).2.1⟩, fun ht => (hleft ht).1, hover,
      fun _ => ⟨?_, hheld, hlocked⟩, fun h => absurd h (by decide), fun h => absurd h (by decide)⟩
    by_cases ht : s.takesCount count d true
    · exact (congrArg CueState.slew (htaken ht hlt).2.2 : v.cueX.slew = s.cueX.slew)
    · exact (congrArg CueState.slew (hleft ht).2 : v.cueX.slew = s.cueX.slew)
  | false =>
    rw [if_neg Bool.false_ne_true]
    obtain ⟨hp, hplocked, hpheld, hpothers⟩ := takePhase_spec (v.following master) count d
    have hpcue : ((v.following master).takePhase count d).cue = v.cue := cue_of_only_status (s := (v.following master).toSlew _) hp.only
    refine ⟨(hpothers _ (.inr rfl)).trans hdem, ?_, ?_, ?_,
      fun ht => ⟨?_, fun h => ?_⟩, fun ht => ?_, fun h => ?_, fun h => absurd h (by decide), fun _ ht => ?_, fun _ ht hpos hle => ?_⟩
    · rw [hp.cueX]
      rfl
    · rw [hp.cueX, hpcue]
      rfl
    · rw [hpcue, ← hlast, hp.cueX]
      rfl
    · exact hpcue.trans (htaken ht hlt).1
    · exact (hp.regs _ (by decide)).trans ((htaken ht hlt).2.1 h)
    · exact hpcue.trans (hleft ht).1
    · exact (hpothers _ (.inl (by decide))).trans (hover h)
    · obtain ⟨hcue, hx⟩ := hleft ht
      have hoff : (v.following master).phaseOff count d = s.phaseOff count d := by
        rw [State.phaseOff, State.phaseOff, State.edgeOf, State.edgeOf]
        rw [show (v.following master).cue = s.cue from hcue, show (v.following master).cycle = s.cycle from hcycle,
          show (v.following master).cuePeriod = s.cuePeriod from hper]
        rw [State.following, hx]
      rw [hplocked, hpheld, hp.cueX, hoff, show (v.following master).bit R.CU_STATUS_HOLDOVER = s.bit R.CU_STATUS_HOLDOVER from hheld]
      exact ⟨rfl, (congrArg CueState.start hx : v.cueX.start = _), (congrArg CueState.len hx : v.cueX.len = _), rfl, rfl⟩
    · obtain ⟨hcue, _, hx⟩ := htaken ht hlt
      rw [if_neg Bool.false_ne_true] at hx
      have hoff : (v.following master).phaseOff count d = 0 :=
        phaseOff_rephased hpos hle hcue hcycle hper (congrArg CueState.start hx : v.cueX.start = _)
      rw [hplocked, hpheld, hp.cueX, hoff]
      exact ⟨(congrArg CueState.start hx : v.cueX.start = _), (congrArg CueState.len hx : v.cueX.len = _), rfl, rfl, by simp⟩

/-! ### Holdover, cut-off and takeover (R41-R43) -/

theorem execHoldover_idle {s : State}
    (h : s.bit R.CU_STATUS_MASTER = true ∨ s.bit R.CU_STATUS_HOLDOVER = true ∨ s.jobOpen = false ∨ s.cue < s.cueX.lastFlit + 64) :
    execHoldover s = .next s :=
  if_pos (by
    simp only [Bool.or_eq_true, Bool.not_eq_true', decide_eq_true_eq, or_assoc]
    exact h)

/-- The part that counts on at the nominal period (R41). -/
def State.heldNow (s : State) : State := { s with cueX := { s.cueX with heldAt := s.cue, slew := 0 } }

/-- The part in holdover, before the entry of it (R41). -/
def State.holding (s : State) : State := (s.heldNow.setFld R.CU_STATUS_HOLDOVER 1).setFld R.CU_STATUS_LOCKED 0

/-- What holdover sets, but for its entry. -/
theorem holding_spec (s : State) : RegsOnly (· = R.CU_STATUS) s.heldNow s.holding
    ∧ s.holding.bit R.CU_STATUS_HOLDOVER = true ∧ s.holding.bit R.CU_STATUS_LOCKED = false := by
  unfold State.holding
  refine ⟨(regsOnly_status _ 1 rfl).trans (regsOnly_status _ 0 rfl), ?_, bit_setFld_zero _ _ (by decide)⟩
  rw [bit_setFld_disjoint _ 0 (by decide)]
  exact bit_setFld_one _ _ (by decide) (by decide)

theorem cue_holding (s : State) : s.holding.cue = s.cue := cue_of_only_status (s := s.heldNow) (holding_spec s).1.only

/-- The entry of a holdover (R585): the master last followed, or the one configured. -/
def State.holdoverEntry (s : State) : PbIn :=
  ⟨s.cue, 1, pbEvent, 0, 2 ^ 56 + (s.cueX.followed.getD (s.fld R.CU_CTL_MASTER_SEAT) * 2 ^ 32 + s.cue % 2 ^ 32), false, false⟩

theorem holding_cueEntry (s : State) :
    s.holding.cueEntry 1 (s.cueX.followed.getD (s.fld R.CU_CTL_MASTER_SEAT) * 2 ^ 32 + s.holding.cue % 2 ^ 32) = s.holding.pbHand [s.holdoverEntry] := by
  rw [State.cueEntry, State.event, State.pbEntry, cue_holding, Nat.one_mul, State.holdoverEntry]

theorem execHoldover_due {s : State} (hm : s.bit R.CU_STATUS_MASTER = false) (hj : s.jobOpen = true) (hh : s.bit R.CU_STATUS_HOLDOVER = false)
    (hc : s.cueX.lastFlit + 64 ≤ s.cue) : execHoldover s = .next (s.holding.pbHand [s.holdoverEntry]) := by
  rw [← holding_cueEntry]
  refine if_neg ?_
  have : ¬ s.cue < s.cueX.lastFlit + 64 := by omega
  simp [hm, hj, hh, this]

theorem execCutOff_idle {s : State} (h : s.bit R.CU_STATUS_HOLDOVER = false ∨ s.bit R.CU_STATUS_CUT_OFF = true ∨ s.res.noMaster = true
    ∨ s.cue < s.cueX.heldAt + 1024) : execCutOff s = .next s :=
  if_pos (by
    simp only [Bool.or_eq_true, Bool.not_eq_true', decide_eq_true_eq, or_assoc]
    exact h)

theorem execCutOff_due {s : State} (hh : s.bit R.CU_STATUS_HOLDOVER = true) (ho : s.bit R.CU_STATUS_CUT_OFF = false) (hn : s.res.noMaster = false)
    (hc : s.cueX.heldAt + 1024 ≤ s.cue) : execCutOff s = .next ((s.raiseFld R.CU_STATUS_CUT_OFF).loseSeat s.mySeat) :=
  if_neg (by
    have : ¬ s.cue < s.cueX.heldAt + 1024 := by omega
    simp [hh, ho, hn, this])

theorem execBackupMasterTakeover_idle {s : State} (h : s.bit R.CU_STATUS_MASTER = true ∨ s.jobOpen = false ∨ s.bit R.CU_CTL_BACKUP_EN = false
    ∨ s.fld R.CU_CTL_BACKUP_SEAT ≠ s.mySeat ∨ s.cue < s.cueX.lastNamed + 64) : execBackupMasterTakeover s = .next s :=
  if_pos (by
    simp only [Bool.or_eq_true, Bool.not_eq_true', decide_eq_true_eq]
    tauto)

/-- An entry of the promptbook is appended where there is room (R519). -/
theorem queue_pbHand {s : State} {l : List PbIn} (hs : s.pb.started = true) (hl : s.pb.queue.length + l.length ≤ 512) :
    (s.pbHand l).pb.queue = s.pb.queue ++ l := by
  rw [State.pbHand, if_pos hs, if_pos hl]

theorem cueX_pbHand (s : State) (l : List PbIn) : (s.pbHand l).cueX = s.cueX := by
  obtain ⟨pb, h | h⟩ := pbHand_cases s l
  · rw [h]
  · have hcount := (regsOnly_countFld (P := (· = R.BT_PB_INFO)) (f := R.BT_PB_INFO_DROPPED) s l.length rfl).cueX
    rw [h]
    generalize s.countFld R.BT_PB_INFO_DROPPED l.length = u at hcount
    exact hcount

/-- The part with its backup as master (R42). -/
def State.takenOver (s : State) : State :=
  (((s.setFld R.CU_STATUS_MASTER 1).raiseFld R.CU_STATUS_FAILOVER).setFld R.CU_STATUS_HOLDOVER 0).setFld R.CU_STATUS_LOCKED 0

theorem takenOver_spec (s : State) : RegsOnly (· = R.CU_STATUS) s s.takenOver ∧ s.takenOver.bit R.CU_STATUS_MASTER = true
    ∧ s.takenOver.bit R.CU_STATUS_FAILOVER = true ∧ s.takenOver.bit R.CU_STATUS_HOLDOVER = false ∧ s.takenOver.bit R.CU_STATUS_LOCKED = false := by
  unfold State.takenOver
  have hover : RegsOnly (· = R.CU_STATUS) (s.setFld R.CU_STATUS_MASTER 1) ((s.setFld R.CU_STATUS_MASTER 1).raiseFld R.CU_STATUS_FAILOVER) :=
    regsOnly_raiseFld _ rfl
  refine ⟨(((regsOnly_status s 1 rfl).trans hover).trans (regsOnly_status _ 0 rfl)).trans (regsOnly_status _ 0 rfl), ?_, ?_, ?_,
    bit_setFld_zero _ _ (by decide)⟩
  · rw [bit_setFld_disjoint _ 0 (by decide), bit_setFld_disjoint _ 0 (by decide), bit_raiseFld_disjoint _ (by decide)]
    exact bit_setFld_one s _ (by decide) (by decide)
  · rw [bit_setFld_disjoint _ 0 (by decide), bit_setFld_disjoint _ 0 (by decide)]
    exact bit_raiseFld_same _ _ (by decide) (by decide)
  · rw [bit_setFld_disjoint _ 0 (by decide)]
    exact bit_setFld_zero _ _ (by decide)

/-- The count that a master starts with (R43). -/
def State.firstCount (s : State) : Nat := if s.bit R.FH_PTP_STATUS_LOCKED then s.timeNs / (s.fld R.CU_CTL_PERIOD * 10) else 0

theorem startCount_eq (s : State) : s.startCount = s.setCount s.firstCount s.cueX.start := rfl

theorem firstCount_takenOver (s : State) : s.takenOver.firstCount = s.firstCount := by
  have hreg := (takenOver_spec s).1
  rw [State.firstCount, State.firstCount, hreg.bit (f := R.FH_PTP_STATUS_LOCKED) (by decide), hreg.fld (f := R.CU_CTL_PERIOD) (by decide),
    hreg.timeNs]

theorem execBackupMasterTakeover_due {s : State} (hm : s.bit R.CU_STATUS_MASTER = false) (hj : s.jobOpen = true)
    (he : s.bit R.CU_CTL_BACKUP_EN = true) (hb : s.fld R.CU_CTL_BACKUP_SEAT = s.mySeat) (hc : s.cueX.lastNamed + 64 ≤ s.cue) :
    execBackupMasterTakeover s = .next (if s.cueX.followed.isNone then s.takenOver.startCount else s.takenOver) :=
  if_neg (by
    have : ¬ s.cue < s.cueX.lastNamed + 64 := by omega
    simp [hm, hj, he, hb, this])

end Sys2Proof.Machine

namespace Sys2Proof.Claim
open Sys2Proof.Machine

/-- Settles O25: the flit's flood, then its count and phase where it is followed; then the three events of a seat without its master. -/
theorem cueFlitsAlignFollowers : Obligations.CueFlitsAlignFollowers := by
  refine ⟨fun s p count master delay hop retried => ?_, fun s => ⟨execHoldover_idle, fun hm hj hh hc => ?_,
    fun hh ho hn hc => ⟨execCutOff_due hh ho hn hc, bit_raiseFld_same s _ (by decide) (by decide)⟩, execCutOff_idle, fun hm hj he hb hc => ?_,
    execBackupMasterTakeover_idle⟩⟩
  · intro d cyc per n off takes
    refine ⟨s.cueIn (some p) count.toNat master.toNat delay.toNat hop.toNat retried, rfl, ?_⟩
    have hfab : FabOnly s (s.cueFlooded p count.toNat master.toNat delay.toNat hop.toNat retried) := fabOnly_floodOver s _ _
    have hflood : ∀ q, q ∈ s.fab.tree → q ≠ p.val → s.portUp q = true →
        (1, Ctl.cue count.toNat master.toNat (d % 2 ^ 32) retried)
          ∈ ((s.cueFlooded p count.toNat master.toNat delay.toNat hop.toNat retried).port q).ctlq := fun q hq hqp hup =>
      ctlq_floodOver _ s (List.mem_filter.mpr ⟨hq, by simpa using hqp⟩) hup
    by_cases hf : s.follows master.toNat = true
    · rw [cueIn_followed hf]
      generalize s.cueFlooded p count.toNat master.toNat delay.toNat hop.toNat retried = w at hfab hflood ⊢
      -- the flood has changed the fabric alone, so what is said of the flooded part is said of `s`
      obtain ⟨f, rfl⟩ : ∃ f, w = { s with fab := f } := ⟨_, hfab.rest⟩
      obtain ⟨honly, hkeep⟩ := flitFollowed_frame { s with fab := f } count.toNat master.toNat cyc retried
      refine ⟨fun q hq hqp hup => port_of_fab hkeep q ▸ hflood q hq hqp hup, fun h => absurd (hf.symm.trans h) (by decide), fun _ hlt => ?_,
        hfab.only.trans honly⟩
      obtain ⟨hdem, hfollowed, hlast, hnamed, htaken, hleft, hover, hresent, hmoved, haligned⟩ :=
        flitFollowed_spec (s := { s with fab := f }) (count := count.toNat) (master := master.toNat) (d := cyc) (retried := retried) hlt
      exact ⟨hdem, hfollowed, hlast, hnamed, htaken, hleft, hover, hresent, hmoved, haligned⟩
    · rw [cueIn_ignored (Bool.eq_false_iff.mpr hf)]
      exact ⟨hflood, fun _ => ⟨hfab.regs, hfab.cueX⟩, fun h => absurd h hf, hfab.only⟩
  · obtain ⟨hreg, hheld, hlocked⟩ := holding_spec s
    have hpb := only_pbHand s.holding [s.holdoverEntry]
    have hs : Only (fun a => a = R.CU_STATUS ∨ a = R.BT_PB_INFO) s s.heldNow :=
      only_of_stores rfl rfl rfl rfl
    have hstatus : Only (fun a => a = R.CU_STATUS ∨ a = R.BT_PB_INFO) s.heldNow s.holding := hreg.only.mono fun _ => Or.inl
    refine ⟨_, execHoldover_due hm hj hh hc, (bit_congr (hpb.regs _ (by decide))).trans hheld, (bit_congr (hpb.regs _ (by decide))).trans hlocked,
      (cueX_pbHand _ _).trans hreg.cueX, (hs.trans hstatus).trans (hpb.mono fun _ => Or.inr), fun hstarted hroom => ?_⟩
    rw [queue_pbHand (by rw [hreg.pb]; exact hstarted) (by rw [hreg.pb]; exact hroom), hreg.pb]
    rfl
  · obtain ⟨hreg, hmaster, hover, hheld, hlocked⟩ := takenOver_spec s
    have hrun := execBackupMasterTakeover_due hm hj he hb hc
    have htaken : Only TimerRegs s s.takenOver := only_timer_status hreg.only
    by_cases hn : s.cueX.followed = none
    · rw [if_pos (by rw [hn]; rfl), startCount_eq, firstCount_takenOver] at hrun
      generalize s.takenOver = v at *
      have hset : Only TimerRegs v (v.setCount s.firstCount v.cueX.start) := (only_setCount _ _ _).mono fun _ => CountRegs.timer
      have hstatus : (v.setCount s.firstCount v.cueX.start).reg R.CU_STATUS = v.reg R.CU_STATUS := reg_setCount_ne not_countRegs_status
      refine ⟨_, hrun, ?_, ?_, ?_, ?_, (cueX_setCount v _ _).trans hreg.cueX, fun h => absurd hn h, fun _ => reg_setCount_count v _ _, htaken.trans hset⟩
      · exact (bit_congr (f := R.CU_STATUS_MASTER) hstatus).trans hmaster
      · exact (bit_congr (f := R.CU_STATUS_FAILOVER) hstatus).trans hover
      · exact (bit_congr (f := R.CU_STATUS_HOLDOVER) hstatus).trans hheld
      · exact (bit_congr (f := R.CU_STATUS_LOCKED) hstatus).trans hlocked
    · rw [if_neg (by simpa using hn)] at hrun
      exact ⟨_, hrun, hmaster, hover, hheld, hlocked, hreg.cueX, fun _ => cue_of_only_status hreg.only, fun h => absurd h hn, htaken⟩

end Sys2Proof.Claim
end

section
/-!
PROOFS. The two outcomes of a curtain (O29): a DISCARD whose held reduce-write names a tile beyond 2047. The statement lets a state hold such an
owner; the wait counter of "tile" 65713 lies in the shard table, where the end of its transfer counts down a VERSION.
-/
namespace Sys2Proof.Machine

/-! ### What the refresh of the queues leaves alone (R56) -/

/-- The shard table, the commands, the resilience engine and its answers stay. -/
structure QueuesOnly (s u : State) : Prop where
  regs : ∀ a, R.TP_SHARD_W0 0 0 ≤ a → u.reg a = s.reg a
  host : u.host = s.host
  res : u.res = s.res
  answers : u.fab.resilDone = s.fab.resilDone

theorem QueuesOnly.trans {s u w : State} (h : QueuesOnly s u) (g : QueuesOnly u w) : QueuesOnly s w :=
  ⟨fun a ha => (g.regs a ha).trans (h.regs a ha), g.host.trans h.host, g.res.trans h.res, g.answers.trans h.answers⟩

theorem queuesOnly_refl (s : State) : QueuesOnly s s := ⟨fun _ _ => rfl, rfl, rfl, rfl⟩

theorem queuesOnly_foldl {α : Type} {f : State → α → State} (l : List α) (hf : ∀ x ∈ l, ∀ t, QueuesOnly t (f t x)) (s : State) :
    QueuesOnly s (l.foldl f s) :=
  List.foldlRecOn l f (motive := fun u => QueuesOnly s u) (queuesOnly_refl s) fun t ht x hx => ht.trans (hf x hx t)

theorem queuesOnly_setReg (s : State) {a : Nat} (v : Word) (h : a < R.TP_SHARD_W0 0 0) : QueuesOnly s (s.setReg a v) :=
  ⟨fun _ hb => reg_setReg_ne s v fun e => absurd (e ▸ hb) (Nat.not_le.mpr h), rfl, rfl, rfl⟩

theorem queuesOnly_setFld (s : State) {f : Fld} (v : Nat) (h : f.addr < R.TP_SHARD_W0 0 0) : QueuesOnly s (s.setFld f v) := queuesOnly_setReg s _ h

theorem queuesOnly_setPort (s : State) (p : Nat) (x : FPort) : QueuesOnly s (s.setPort p x) := ⟨fun _ _ => rfl, rfl, rfl, rfl⟩

/-- The part with its packets, collectives and rigging buffers emptied. -/
def State.queuesEmptied (s : State) : State :=
  { s with fab := { s.fab with inject := [], inbox := [], ceQ0 := [], ceQ1 := [], early := [] }, rig := { s.rig with bufs := [], ends := [] } }

theorem queuesOnly_emptyQueues (s : State) : QueuesOnly s s.emptyQueues := by
  have hu : QueuesOnly s s.queuesEmptied := ⟨fun _ _ => rfl, rfl, rfl, rfl⟩
  have hports := queuesOnly_foldl (List.range 16) (f := fun t p => t.setPort p { t.port p with outq := [], arrived := [], part := [], going := none })
    (fun p _ t => queuesOnly_setPort t p _) s.queuesEmptied
  have hfree := fun t : State => (queuesOnly_setFld t (f := R.FB_CE_STATUS_FREE0) (16 - t.fab.ceQ0.length) (by decide)).trans
    (queuesOnly_setFld _ (f := R.FB_CE_STATUS_FREE1) (16 - t.fab.ceQ1.length) (by decide))
  exact (hu.trans hports).trans (hfree _)

theorem queuesOnly_refill (s : State) (peer : List (List Nat)) : QueuesOnly s (s.refill peer) :=
  queuesOnly_foldl _ (fun p hp t => by
    split
    · refine (queuesOnly_setPort t p _).trans (queuesOnly_setReg _ _ ?_)
      have : p < 16 := List.mem_range.mp hp
      unfold R.FB_TICKETS R.TP_SHARD_W0
      omega
    · exact queuesOnly_refl t) s

/-- The part with the notices of a channel replaced, before its COUNT shows them. -/
def State.chanQueue (s : State) (n : Nat) (q : List Word) : State :=
  { s with now := { s.now with turns := s.now.turns.filter (fun y => y.ch != n) }, cb := smapSet [] s.cb n q }

theorem refillChan_eq (s : State) (n : Nat) (q : List Word) : s.refillChan n q = (s.chanQueue n q).setFld (R.CB_DROP_COUNT n) q.length := rfl

theorem queuesOnly_refillChan (s : State) {n : Nat} (q : List Word) (h : n < 256) : QueuesOnly s (s.refillChan n q) := by
  have hqueue : QueuesOnly s (s.chanQueue n q) := ⟨fun _ _ => rfl, rfl, rfl, rfl⟩
  have haddr : R.CB_DROP n < R.TP_SHARD_W0 0 0 := by
    unfold R.CB_DROP R.TP_SHARD_W0
    omega
  exact hqueue.trans (queuesOnly_setFld _ (f := R.CB_DROP_COUNT n) _ haddr)

theorem queuesOnly_emptyTileChannels (s : State) : QueuesOnly s s.emptyTileChannels :=
  queuesOnly_foldl _ (fun n hn t => by
    split
    · exact queuesOnly_refillChan t [] (List.mem_range.mp hn)
    · exact queuesOnly_refl t) s

theorem queuesOnly_refreshQueues (s : State) (peer : List (List Nat)) : QueuesOnly s (s.refreshQueues peer) :=
  ((queuesOnly_emptyQueues s).trans (queuesOnly_refill _ peer)).trans (queuesOnly_emptyTileChannels _)

/-- A DISCARD takes effect from K + 40 (R57). -/
theorem execDiscard_due {s : State} {k : Nat} (peer : List (List (BitVec 16))) (hk : s.curtain.announced = some k)
    (hverdict : s.curtain.verdict = some false) (hnew : s.curtain.applied = false) (hcue : k + 40 ≤ s.cue) :
    execDiscard peer s = .next (s.discard k (peerTickets peer)) := by
  unfold execDiscard
  rw [hk]
  exact if_pos (by rw [hverdict, hnew, decide_eq_true hcue]; rfl)

theorem curtainReport_idle {s : State} (code k step : Nat) (h : s.host.cmds = []) : s.curtainReport code k step = s := by
  unfold State.curtainReport
  rw [h]
  rfl

theorem regs_settle_idle {s : State} (hopen : s.res.opened = none) (hanswers : s.fab.resilDone = []) : s.settle.regs = s.regs := by
  have htake : s.resTake = { s with fab := { s.fab with resilDone := [] } } := by rw [State.resTake, hanswers]; rfl
  rw [State.settle, htake, State.ckptSettle]
  dsimp only
  rw [hopen]

/-- The part after a DISCARD's work, before anyone is told. -/
def State.discardShown (s : State) (peer : List (List Nat)) : State :=
  let u := s.discardStep peer
  (u.setCurtain { u.curtain with applied := true }).setFld R.CU_STATUS_CURTAIN_PHASE 5

theorem queuesOnly_discardShown (s : State) (peer : List (List Nat)) : QueuesOnly s.discardWork (s.discardShown peer) := by
  have hq := queuesOnly_refreshQueues s.discardWork peer
  have hcurtain : ∀ (u : State) c, QueuesOnly u (u.setCurtain c) := fun _ _ => ⟨fun _ _ => rfl, rfl, rfl, rfl⟩
  exact (hq.trans (hcurtain _ _)).trans (queuesOnly_setFld _ 5 (by decide))

theorem discard_eq (s : State) (k : Nat) (peer : List (List Nat)) : ∃ step, s.discard k peer
    = (let v := (s.discardShown peer).curtainReport 0x92 k step
       (if v.res.opened.isSome then v.setHolds 1 else v).settle) := ⟨_, rfl⟩

/-- With no command to report to and no checkpoint open, a DISCARD has done with the shard table once the step's work is undone. -/
theorem reg_discard {s : State} (k : Nat) (peer : List (List Nat)) {a : Nat} (ha : R.TP_SHARD_W0 0 0 ≤ a) (hcmds : s.discardWork.host.cmds = [])
    (hopen : s.discardWork.res.opened = none) (hanswers : s.discardWork.fab.resilDone = []) : (s.discard k peer).reg a = s.discardWork.reg a := by
  have hq := queuesOnly_discardShown s peer
  obtain ⟨step, hdiscard⟩ := discard_eq s k peer
  have hnone : (s.discardShown peer).res.opened = none := by rw [hq.res, hopen]
  rw [hdiscard, curtainReport_idle _ _ _ (by rw [hq.host, hcmds])]
  dsimp only
  rw [hnone, if_neg (by decide), State.reg, regs_settle_idle hnone (by rw [hq.answers, hanswers])]
  exact hq.regs a ha

/-! ### The counterexample -/

/-- A reduce-write held in stack 0 whose owner is transfer 3 of a tile numbered 65713. -/
def strayHeld : HeldRw := ⟨0, 0, 0, 0, false, [], [], .xfer 65713 3⟩

/-- The transfer that owns it, done but for this answer, counted in wait counter 4. -/
def strayXfer : Xfer :=
  { id := 3, op := .copy, src := 0, dst := 0, len := 8, sfmt := 0, dfmt := 0, version := 0, slot := ⟨0, 4, 0, false, false⟩, ord := 0,
    sample := none, phase := .done, wait := 0, got := [], cause := none, more := [], vers := [], convSrc := [], convOut := [] }

/-- A follower in cue 100 of a curtain at K = 60 whose verdict is DISCARD; entry 774 of stack 7 is valid, with VERSION 1. -/
def strayState : State :=
  { State.reset with
    regs := ((((State.reset.setFld ⟨R.CU_COUNT, 63, 0⟩ 100).setFld (R.TP_SHARD_W0_VALID 7 774) 1).setFld (R.TP_SHARD_W1_VERSION 7 774) 1)).regs
    curtain := { CurtainState.init with running := true, announced := some 60, verdict := some false }
    te := [(0, { TeStack.init with heldRw := [strayHeld] })]
    tiles := [(65713, { TileX.init with xfers := [strayXfer] })] }

/-- The wait counter that the transfer's end counts down is the VERSION of the shard. -/
theorem strayState_discardWork : strayState.discardWork.fld (R.TP_SHARD_W1_VERSION 7 774) = 0 ∧ strayState.discardWork.host.cmds = []
    ∧ strayState.discardWork.res.opened = none ∧ strayState.discardWork.fab.resilDone = [] := by decide +kernel

theorem strayState_due : strayState.canonical = true ∧ 60 + 40 ≤ strayState.cue ∧ strayState.bit R.CU_STATUS_MASTER = false
    ∧ strayState.bit (R.TP_SHARD_W0_VALID 7 774) = true ∧ strayState.fld (R.TP_SHARD_W1_VERSION 7 774) = 1 := by decide +kernel

theorem strayState_discards (peer : List (List (BitVec 16))) : exec (.discard peer) strayState = .next (strayState.discard 60 (peerTickets peer)) :=
  execDiscard_due peer rfl rfl rfl strayState_due.2.1

end Sys2Proof.Machine

namespace Sys2Proof.Claim
open Sys2Proof.Machine

/-- Refutes O29: nothing in the statement keeps the owner of a held reduce-write among the 2048 tiles. The answer that a DISCARD gives to transfer 3
of "tile" 65713 counts down TA_WC_LO of that number, whose address is word 1 of entry 774 of stack 7: the VERSION of that shard goes from 1 to 0. -/
theorem not_publishAndDiscard : ¬ Obligations.PublishAndDiscard := by
  intro h
  obtain ⟨hcanonical, hcue, hmaster, hvalid, hversion⟩ := strayState_due
  obtain ⟨hcounted, hcmds, hopen, hanswers⟩ := strayState_discardWork
  obtain ⟨_, hdiscard⟩ := h strayState 60 [] 0 false hcanonical rfl rfl hcue hmaster rfl rfl rfl rfl rfl
  obtain ⟨u, hu, _, _, _, _, hshards⟩ := hdiscard rfl
  obtain ⟨hkept, _⟩ := hshards 7 774 ⟨by decide, by decide, hvalid⟩
  obtain rfl : strayState.discard 60 (peerTickets []) = u := Host.Outcome.next.inj ((strayState_discards []).symm.trans hu)
  have hreg := reg_discard 60 (peerTickets []) (by decide : R.TP_SHARD_W0 0 0 ≤ R.TP_SHARD_W1 7 774) hcmds hopen hanswers
  rw [fld_congr (f := R.TP_SHARD_W1_VERSION 7 774) hreg, hcounted, hversion] at hkept
  exact absurd hkept (by decide)

end Sys2Proof.Claim
end

section
/-!
PROOFS. Scene changes (O30): what a wave does to each tile, and what a command starts.
-/
namespace Sys2Proof.Machine
open Sys2Proof.Claim

/-! ### A fold that does one thing to each of its indices -/

/-- Where a step changes the value of its own index alone, and a second time changes nothing more, a fold has changed the values of its list. -/
theorem foldl_pointwise {V : Type} {g : State → Nat → State} {val : State → Nat → V} {F : V → V} (hself : ∀ s i, val (g s i) i = F (val s i))
    (hother : ∀ s i t, t ≠ i → val (g s i) t = val s t) (hF : ∀ v, F (F v) = F v) (l : List Nat) :
    ∀ s t, val (l.foldl g s) t = if t ∈ l then F (val s t) else val s t := by
  induction l with
  | nil => exact fun s t => (if_neg List.not_mem_nil).symm
  | cons i l ih =>
    intro s t
    rw [List.foldl_cons, ih]
    by_cases hti : t = i
    · subst hti
      rw [hself, hF, ite_self, if_pos List.mem_cons_self]
    · rw [hother s i t hti]
      exact if_congr (by simp [hti]) rfl rfl

/-- What every step keeps, a fold keeps. -/
theorem foldl_keeps {α V : Type} {g : State → α → State} {val : State → V} (h : ∀ s x, val (g s x) = val s) (l : List α) (s : State) :
    val (l.foldl g s) = val s :=
  List.foldlRecOn l g (motive := fun u => val u = val s) rfl fun t ht x _ => (h t x).trans ht

/-! ### The commands (R60, R61, R67) -/

/-- The part with a change or restore that starts at `k`, its cue sent to the other seats. -/
def State.changeAsked (s : State) (c : CmdRec) (k : Nat) (n : Option Nat) : State :=
  let t := (s.putCmd { c with word := 1 }).sendC3 s.mates (.sceneChange k (n.getD 0) n.isNone)
  t.setScene { t.scene with change := some ⟨k, n, false, false, false, []⟩ }

theorem execSceneChange_staged {s : State} {c : CmdRec} {st : StagedScene} (h : s.nextChange opcSceneChange = some c)
    (hst : s.staged? (c.par 0 2) = some st) : execSceneChange s = .next (s.changeAsked c (s.changeCue c) (some (c.par 0 2))) := by
  unfold execSceneChange
  rw [h]
  exact if_neg (by simp [hst])

theorem execSceneChange_unstaged {s : State} {c : CmdRec} (h : s.nextChange opcSceneChange = some c) (hst : s.staged? (c.par 0 2) = none) :
    execSceneChange s = .next (s.cmdDone c 0x88 []) := by
  unfold execSceneChange
  rw [h]
  exact if_pos (by rw [hst]; rfl)

theorem execSceneRestore_saved {s : State} {c : CmdRec} (h : s.nextChange opcSceneRestore = some c) (hs : s.scene.saved.isSome = true) :
    execSceneRestore s = .next (s.changeAsked c (s.changeCue c) none) := by
  unfold execSceneRestore
  rw [h]
  exact if_neg (by rw [Option.isNone_iff_eq_none]; exact fun hn => by rw [hn] at hs; exact absurd hs (by decide))

theorem execSceneRestore_unsaved {s : State} {c : CmdRec} (h : s.nextChange opcSceneRestore = some c) (hs : s.scene.saved = none) :
    execSceneRestore s = .next (s.cmdDone c 0x89 []) := by
  unfold execSceneRestore
  rw [h]
  exact if_pos (by rw [hs]; rfl)

theorem nextChange_changing {s : State} (h : s.scene.change.isSome = true) (o : Nat) : s.nextChange o = none := if_pos h

theorem changes_wait {s : State} (h : s.scene.change.isSome = true) : execSceneChange s = .next s ∧ execSceneRestore s = .next s := by
  unfold execSceneChange execSceneRestore
  rw [nextChange_changing h, nextChange_changing h]
  exact ⟨rfl, rfl⟩

/-! ### The cue of a change (R63, R438, R531) -/

/-- The part with its change begun, before anything is suspended. -/
def State.changeBegun (s : State) (ch : SceneChange) : State :=
  (s.setScene { s.scene with change := some { ch with begun := true } }).setFld R.CU_STATUS_SCENE_STATE 1

theorem only_changeBegun (s : State) (ch : SceneChange) : Only (fun a => a = R.CU_STATUS) s (s.changeBegun ch) := by
  unfold State.changeBegun
  have hscene : Only (fun a => a = R.CU_STATUS) s (s.setScene { s.scene with change := some { ch with begun := true } }) :=
    only_of_stores rfl rfl rfl rfl
  exact hscene.trans (only_setFld (f := R.CU_STATUS_SCENE_STATE) _ 1 rfl)

/-- Only commands, what the engines hold and the governor's turn change. -/
structure Suspends (s u : State) : Prop where
  rest : u = { s with host := u.host, te := u.te, power := u.power }

theorem Suspends.trans {s u w : State} (h : Suspends s u) (g : Suspends u w) : Suspends s w :=
  ⟨g.rest.trans (congrArg (fun v : State => { v with host := w.host, te := w.te, power := w.power }) h.rest)⟩

theorem Suspends.scene {s u : State} (h : Suspends s u) : u.scene = s.scene := (congrArg State.scene h.rest :)
theorem Suspends.reg {s u : State} (h : Suspends s u) (a : Nat) : u.reg a = s.reg a :=
  (congrArg (fun v : State => v.reg a) h.rest :)
theorem Suspends.only {s u : State} {P : Nat → Prop} (h : Suspends s u) : Only P s u :=
  only_of_stores (congrArg State.regs h.rest :) (congrArg State.mem h.rest :) (congrArg State.poison h.rest :) (congrArg State.tiles h.rest :)

/-- A stack takes nothing more from its queues. -/
def State.suspendStack (s : State) (k : Nat) : State := s.setTe k { s.teStack k with suspended := true }

theorem teStack_setTe_ne (s : State) {k j : Nat} (x : TeStack) (h : j ≠ k) : (s.setTe k x).teStack j = s.teStack j := smapGet_set_ne _ _ _ _ h

theorem suspended_suspendStacks (s : State) {k : Nat} (hk : k < 8) : (((List.range 8).foldl State.suspendStack s).teStack k).suspended = true :=
  (foldl_pointwise (g := State.suspendStack) (val := fun s k => (s.teStack k).suspended) (F := fun _ => true)
    (fun s i => congrArg TeStack.suspended (teStack_setTe_same s i _)) (fun s _ _ ht => congrArg TeStack.suspended (teStack_setTe_ne s _ ht))
    (fun _ => rfl) (List.range 8) s k).trans (if_pos (List.mem_range.mpr hk))

theorem suspends_suspendStacks (l : List Nat) (s : State) : Suspends s (l.foldl State.suspendStack s) :=
  List.foldlRecOn l _ (motive := fun u => Suspends s u) ⟨rfl⟩ fun _ ht _ _ => ht.trans ⟨rfl⟩

/-- The part with the commands that a change suspends (R438). -/
def State.cmdsSuspended (s : State) : State :=
  { s with host := { s.host with cmds := s.host.cmds.map (fun c => if suspends c.opcode ∧ c.started then { c with suspended := true } else c) } }

/-- The governor's turn starts over (R531). -/
def State.governorReset (s : State) : State := { s with power := { s.power with govPtr := 0 } }

theorem suspends_governorReset (s : State) : Suspends s s.governorReset := ⟨rfl⟩
theorem suspends_cmdsSuspended (s : State) : Suspends s s.cmdsSuspended := ⟨rfl⟩
theorem teStack_governorReset (s : State) (k : Nat) : s.governorReset.teStack k = s.teStack k := rfl

theorem beginChange_eq (s : State) (ch : SceneChange) :
    s.beginChange ch = ((List.range 8).foldl State.suspendStack (s.changeBegun ch).cmdsSuspended).governorReset := rfl

theorem suspends_beginChange (s : State) (ch : SceneChange) : Suspends (s.changeBegun ch) (s.beginChange ch) := by
  rw [beginChange_eq]
  exact ((suspends_cmdsSuspended _).trans (suspends_suspendStacks _ _)).trans (suspends_governorReset _)

theorem suspended_beginChange (s : State) (ch : SceneChange) {k : Nat} (hk : k < 8) : ((s.beginChange ch).teStack k).suspended = true := by
  rw [beginChange_eq, teStack_governorReset]
  exact suspended_suspendStacks _ hk

theorem execSceneChangeStart_due {s : State} {ch : SceneChange} (h : s.scene.change = some ch) (hs : ch.scene.isSome = true) (hb : ch.begun = false)
    (hc : ch.c ≤ s.cue) : execSceneChangeStart none s = .next (s.beginChange ch) := by
  unfold execSceneChangeStart
  rw [h]
  exact if_pos (by rw [hs, hb, decide_eq_true hc]; rfl)

theorem execSceneChangeStart_early {s : State} {ch : SceneChange} (h : s.scene.change = some ch) (hc : s.cue < ch.c) :
    execSceneChangeStart none s = .next s := by
  unfold execSceneChangeStart
  rw [h]
  exact if_neg (by rw [decide_eq_false (Nat.not_le.mpr hc), Bool.and_false]; decide)

theorem execSceneChangeStart_heard {s : State} (h : Word × BitVec 16) : execSceneChangeStart (some h) s
    = if s.scene.change.isNone then .next (s.setScene { s.scene with change := some ⟨h.1.toNat, some h.2.toNat, false, false, false, []⟩ }) else .next s := by
  unfold execSceneChangeStart
  cases s.scene.change <;> rfl

/-! ### A stop wave (R63, R64) -/

/-- A tile of a stop wave. -/
def State.waveStopTile (s : State) (i : Nat) : State :=
  let t := s.dcAbandon i
  if s.fld (R.TA_SEQ_STATE i) = seqIssuing ∨ s.fld (R.TA_SEQ_STATE i) = seqHeld then t.setFld (R.TA_SEQ_STATE i) seqStopped else t

/-- The state that a stop wave leaves a tile in. -/
def stoppedFrom (st : Nat) : Nat := if st = seqIssuing ∨ st = seqHeld then seqStopped else st

theorem stoppedFrom_twice (st : Nat) : stoppedFrom (stoppedFrom st) = stoppedFrom st := by
  unfold stoppedFrom
  by_cases h : st = seqIssuing ∨ st = seqHeld
  · rw [if_pos h]
    rfl
  · rw [if_neg h, if_neg h]

theorem dcAbandon_stores (s : State) (t : Nat) : (s.dcAbandon t).regs = s.regs ∧ (s.dcAbandon t).mem = s.mem ∧ (s.dcAbandon t).scene = s.scene := by
  unfold State.dcAbandon
  split <;> exact ⟨rfl, rfl, rfl⟩

theorem reg_dcAbandon (s : State) (t a : Nat) : (s.dcAbandon t).reg a = s.reg a := congrArg (smapGet (regReset a) · a) (dcAbandon_stores s t).1

theorem seq_inj {t k : Nat} (h : t ≠ k) : R.TA_SEQ t ≠ R.TA_SEQ k := by
  unfold R.TA_SEQ
  omega

theorem state_waveStopTile_self (s : State) (i : Nat) : (s.waveStopTile i).fld (R.TA_SEQ_STATE i) = stoppedFrom (s.fld (R.TA_SEQ_STATE i)) := by
  unfold State.waveStopTile stoppedFrom
  dsimp only
  split
  · exact fld_setSeqState _ i (by decide)
  · exact fld_congr (reg_dcAbandon s i _)

theorem state_waveStopTile_other (s : State) (i t : Nat) (h : t ≠ i) : (s.waveStopTile i).fld (R.TA_SEQ_STATE t) = s.fld (R.TA_SEQ_STATE t) := by
  unfold State.waveStopTile
  dsimp only
  split
  · exact (fld_setFld_ne _ (seq_inj h)).trans (fld_congr (reg_dcAbandon s i _))
  · exact fld_congr (reg_dcAbandon s i _)

theorem mem_setFld (s : State) (f : Fld) (v : Nat) : (s.setFld f v).mem = s.mem := rfl

theorem waveStopTile_stores (s : State) (i : Nat) : (s.waveStopTile i).mem = s.mem ∧ (s.waveStopTile i).scene = s.scene := by
  obtain ⟨_, hmem, hscene⟩ := dcAbandon_stores s i
  unfold State.waveStopTile
  generalize s.dcAbandon i = u at hmem hscene
  dsimp only
  split
  · exact ⟨(mem_setFld u _ _).trans hmem, (scene_setFld u _ _).trans hscene⟩
  · exact ⟨hmem, hscene⟩

/-- The tiles of a stop wave stopped. -/
def State.waveStopped (s : State) (w : Nat) : State := (waveTiles w s.tilesOfScene).foldl State.waveStopTile s

theorem waveStopped_state (s : State) (w t : Nat) : (s.waveStopped w).fld (R.TA_SEQ_STATE t)
    = if t ∈ waveTiles w s.tilesOfScene then stoppedFrom (s.fld (R.TA_SEQ_STATE t)) else s.fld (R.TA_SEQ_STATE t) :=
  foldl_pointwise (val := fun s t => s.fld (R.TA_SEQ_STATE t)) state_waveStopTile_self state_waveStopTile_other stoppedFrom_twice _ s t

theorem waveStopped_stores (s : State) (w : Nat) : (s.waveStopped w).mem = s.mem ∧ (s.waveStopped w).scene = s.scene :=
  ⟨foldl_keeps (val := State.mem) (fun s i => (waveStopTile_stores s i).1) _ s, foldl_keeps (val := State.scene) (fun s i => (waveStopTile_stores s i).2) _ s⟩

theorem mem_waveTiles {w t : Nat} {l : List Nat} : t ∈ waveTiles w l ↔ t ∈ l ∧ (t / 256 = w ∨ t / 256 = w + 4) := by
  simp [waveTiles]

theorem execStopWave_due {s : State} {ch : SceneChange} {w : Fin 4} (h : s.scene.change = some ch) (hb : ch.begun = true) (hs : ch.saved = false)
    (hw : ch.waves.length = w.val) : execStopWave w s
      = .next ((s.waveStopped w).setScene { (s.waveStopped w).scene with change := some { ch with waves := ch.waves ++ [w.val] } }) := by
  unfold execStopWave
  rw [h]
  exact if_neg (by rw [hb, hs, hw]; simp)

theorem execStopWave_idle {s : State} {ch : SceneChange} {w : Fin 4} (h : s.scene.change = some ch)
    (hn : ch.begun = false ∨ ch.saved = true ∨ ch.waves.length ≠ w.val) : execStopWave w s = .next s := by
  unfold execStopWave
  rw [h]
  refine if_pos ?_
  obtain h | h | h := hn <;> simp [h]

/-! ### A start wave (R64, R66) -/

/-- What each step does to its own tile, whatever the others do, a fold has done to every tile of its list. -/
theorem foldl_tiles {Q : Nat → State → Prop} {g : State → Nat → State} (seed : Nat) (honly : ∀ s i, TilesOnly (· = i) s (g s i))
    (hself : ∀ s i, s.scene.seed = seed → Q i (g s i))
    (hother : ∀ {T : Nat → Prop} {s u : State} {t : Nat}, Q t s → TilesOnly T s u → ¬ T t → Q t u) (l : List Nat) :
    ∀ s : State, s.scene.seed = seed → TilesOnly (· ∈ l) s (l.foldl g s) ∧ ∀ t ∈ l, Q t (l.foldl g s) := by
  induction l with
  | nil => exact fun s _ => ⟨tilesOnly_refl _ s, fun _ ht => absurd ht List.not_mem_nil⟩
  | cons i l ih =>
    intro s hs
    obtain ⟨hrest, hall⟩ := ih (g s i) ((congrArg SceneState.seed (honly s i).scene).trans hs)
    refine ⟨((honly s i).mono fun t ht => ht ▸ List.mem_cons_self).trans (hrest.mono fun t ht => List.mem_cons_of_mem i ht), fun t ht => ?_⟩
    by_cases htl : t ∈ l
    · exact hall t htl
    · obtain rfl := (List.mem_cons.mp ht).resolve_right htl
      exact hother (hself s t hs) hrest htl

/-- A tile of a new scene has its start grant. -/
def State.startGranted (s : State) (i : Nat) : State :=
  (s.startTile i false).setTile i { (s.startTile i false).tile i with waitGrant := false }

/-- A tile that has started with its grant. -/
def GrantedAs (seed t : Nat) (u : State) : Prop := StartedAs seed t u ∧ (u.tile t).waitGrant = false

theorem GrantedAs.other {T : Nat → Prop} {s u : State} {seed t : Nat} (h : GrantedAs seed t s) (g : TilesOnly T s u) (ht : ¬ T t) :
    GrantedAs seed t u :=
  ⟨h.1.other g ht, (congrArg TileX.waitGrant (g.tiles t ht)).trans h.2⟩

theorem tilesOnly_startGranted (s : State) (i : Nat) : TilesOnly (· = i) s (s.startGranted i) :=
  (startTile_spec s i false (fun h => nomatch h)).1.trans (tilesOnly_setTile _ i _)

theorem grantedAs_startGranted (s : State) (i : Nat) : GrantedAs s.scene.seed i (s.startGranted i) := by
  obtain ⟨_, ⟨⟨hstate, hresume⟩, hc⟩, _⟩ := startTile_spec s i false (fun h => nomatch h)
  unfold State.startGranted
  generalize s.startTile i false = v at hstate hresume hc
  refine ⟨⟨⟨(fld_setTile v i _ _).trans hstate, (fld_setTile v i _ _).trans hresume⟩, (fld_setTile v i _ _).trans hc.vl,
    (reg_setTile v i _ _).trans hc.halt, (reg_setTile v i _ _).trans hc.gen, ?_⟩, ?_⟩
  · rw [tile_setTile_same]
    exact hc.sr
  · rw [tile_setTile_same]

/-- A stopped tile of a restored scene goes on where it stopped, unless a recovery comes first. -/
def State.goOn (s : State) (i : Nat) : State :=
  if s.fld (R.TA_SEQ_STATE i) = seqStopped ∧ !s.res.recovering then
    (s.setFld (R.TA_SEQ_STATE i) seqIssuing).setTile i { s.tile i with waitGrant := false, issueAt := s.active }
  else s

/-- What going on makes of a tile's state and of the recovery. -/
def wentOn (v : Nat × Bool) : Nat × Bool := (if v.1 = seqStopped ∧ !v.2 then seqIssuing else v.1, v.2)

theorem wentOn_twice (v : Nat × Bool) : wentOn (wentOn v) = wentOn v := by
  unfold wentOn
  by_cases h : v.1 = seqStopped ∧ !v.2
  · rw [if_pos h]
    rfl
  · rw [if_neg h, if_neg h]

/-- A tile's state and whether a recovery is under way. -/
def State.stateAnd (s : State) (t : Nat) : Nat × Bool := (s.fld (R.TA_SEQ_STATE t), s.res.recovering)

theorem res_setFld (s : State) (f : Fld) (v : Nat) : (s.setFld f v).res = s.res := rfl
theorem res_setTile (s : State) (t : Nat) (x : TileX) : (s.setTile t x).res = s.res := rfl

theorem res_goOn (s : State) (i : Nat) : (s.goOn i).res = s.res := by
  unfold State.goOn
  split
  · exact (res_setTile _ i _).trans (res_setFld s _ _)
  · rfl

theorem state_goOn_self (s : State) (i : Nat) : (s.goOn i).fld (R.TA_SEQ_STATE i) = (wentOn (s.stateAnd i)).1 := by
  unfold State.goOn wentOn State.stateAnd
  split
  · exact (fld_setTile _ i _ _).trans (fld_setSeqState s i (by decide))
  · rfl

theorem state_goOn_other (s : State) (i t : Nat) (h : t ≠ i) : (s.goOn i).fld (R.TA_SEQ_STATE t) = s.fld (R.TA_SEQ_STATE t) := by
  unfold State.goOn
  split
  · exact (fld_setTile _ i _ _).trans (fld_setFld_ne s (seq_inj h))
  · rfl

theorem stateAnd_goOn_self (s : State) (i : Nat) : (s.goOn i).stateAnd i = wentOn (s.stateAnd i) :=
  Prod.ext (state_goOn_self s i) (congrArg ResState.recovering (res_goOn s i))

theorem stateAnd_goOn_other (s : State) (i t : Nat) (h : t ≠ i) : (s.goOn i).stateAnd t = s.stateAnd t :=
  Prod.ext (state_goOn_other s i t h) (congrArg ResState.recovering (res_goOn s i))

theorem resume_goOn (t : Nat) (s : State) (i : Nat) : (s.goOn i).fld (R.TA_SEQ_RESUME t) = s.fld (R.TA_SEQ_RESUME t) := by
  unfold State.goOn
  split
  · refine (fld_setTile _ i _ _).trans ?_
    by_cases h : t = i
    · subst h
      exact fld_setFld_disjoint (f := R.TA_SEQ_STATE t) (g := R.TA_SEQ_RESUME t) _ _ (.inl (by decide : 12 < 26))
    · exact fld_setFld_ne s (f := R.TA_SEQ_STATE i) (g := R.TA_SEQ_RESUME t) (seq_inj h)
  · rfl

/-- The tiles of a start wave started, and the engines before the first of a new scene's. -/
def State.waveStarted (s : State) (ch : SceneChange) (w : Fin 4) : State :=
  let s := if w = 0 ∧ ch.scene.isSome then s.reseedEngines else s
  (waveTiles w s.tilesOfScene).foldl (fun t i => if ch.scene.isSome then t.startGranted i else t.goOn i) s

/-- A start wave is done; the last one ends the change. -/
def State.waveDone (s : State) (ch : SceneChange) (w : Fin 4) : State :=
  if w = 3 then s.endChange ch else s.setScene { s.scene with change := some ch }

theorem execStartWave_due {s : State} {ch : SceneChange} {w : Fin 4} (h : s.scene.change = some ch) (hl : ch.loaded = true)
    (hw : ch.waves.length = w.val) : execStartWave w s = .next ((s.waveStarted ch w).waveDone { ch with waves := ch.waves ++ [w.val] } w) := by
  unfold execStartWave
  rw [h]
  exact if_neg (by rw [hl, hw]; simp)

theorem execStartWave_idle {s : State} {ch : SceneChange} {w : Fin 4} (h : s.scene.change = some ch)
    (hn : ch.loaded = false ∨ ch.waves.length ≠ w.val) : execStartWave w s = .next s := by
  unfold execStartWave
  rw [h]
  refine if_pos ?_
  obtain h | h := hn <;> simp [h]

theorem waveStarted_new (s : State) {ch : SceneChange} (w : Fin 4) (hs : ch.scene.isSome = true) {t : Nat} (ht : t ∈ waveTiles w s.tilesOfScene) :
    GrantedAs s.scene.seed t (s.waveStarted ch w) := by
  unfold State.waveStarted
  simp only [hs, if_true, and_true]
  have hscene : (if w = 0 then s.reseedEngines else s).scene = s.scene := by
    split
    · exact (reseedEngines_spec s).1.scene
    · rfl
  generalize (if w = 0 then s.reseedEngines else s) = v at hscene
  have htiles : v.tilesOfScene = s.tilesOfScene := congrArg (fun x : SceneState => sceneTiles x.images) hscene
  rw [htiles]
  exact (foldl_tiles s.scene.seed tilesOnly_startGranted (fun u i hu => hu ▸ grantedAs_startGranted u i)
    (fun h g ht => h.other g ht) _ v (congrArg SceneState.seed hscene)).2 t ht

theorem waveStarted_restored (s : State) {ch : SceneChange} (w : Fin 4) (hs : ch.scene = none) :
    s.waveStarted ch w = (waveTiles w s.tilesOfScene).foldl State.goOn s := by
  unfold State.waveStarted
  simp [hs]

theorem state_waveStarted_restored (s : State) {ch : SceneChange} (w : Fin 4) (hs : ch.scene = none) (hr : s.res.recovering = false) (t : Nat) :
    (s.waveStarted ch w).fld (R.TA_SEQ_STATE t)
      = if t ∈ waveTiles w s.tilesOfScene ∧ s.fld (R.TA_SEQ_STATE t) = seqStopped then seqIssuing else s.fld (R.TA_SEQ_STATE t) := by
  have h := foldl_pointwise stateAnd_goOn_self stateAnd_goOn_other wentOn_twice (waveTiles w s.tilesOfScene) s t
  rw [waveStarted_restored s w hs]
  refine (congrArg Prod.fst h).trans ?_
  by_cases ht : t ∈ waveTiles w s.tilesOfScene
  · rw [if_pos ht]
    simp [wentOn, State.stateAnd, hr, ht]
  · rw [if_neg ht, if_neg (fun hn => ht hn.1)]
    rfl

theorem resume_waveStarted_restored (s : State) {ch : SceneChange} (w : Fin 4) (hs : ch.scene = none) (t : Nat) :
    (s.waveStarted ch w).fld (R.TA_SEQ_RESUME t) = s.fld (R.TA_SEQ_RESUME t) := by
  rw [waveStarted_restored s w hs]
  exact foldl_keeps (val := fun s : State => s.fld (R.TA_SEQ_RESUME t)) (resume_goOn t) _ s

/-- A change that has ended, before its commands have. -/
def State.changeOver (s : State) : State := (s.setScene { s.scene with change := none }).setFld R.CU_STATUS_SCENE_STATE (if s.scene.saved.isSome then 2 else 0)

theorem hostOnly_endChange (s : State) (ch : SceneChange) : HostOnly s.changeOver (s.endChange ch) := hostOnly_endCmds _ _ _ _ _

/-- The end of a wave writes no register of a tile. -/
theorem reg_waveDone (s : State) (ch : SceneChange) (w : Fin 4) {t a : Nat} (ht : t < 65536) (ha : InWindow t a) : (s.waveDone ch w).reg a = s.reg a := by
  unfold State.waveDone
  split
  · have hne : a ≠ R.CU_STATUS ∧ a ≠ R.BT_JOB ∧ a ≠ R.BK_STATUS := by
      unfold InWindow tileBase at ha
      simp only [R.CU_STATUS, R.BT_JOB, R.BK_STATUS]
      omega
    exact ((hostOnly_endChange s ch).regs a hne.2.1 hne.2.2).trans (reg_setFld_ne _ hne.1)
  · rfl

theorem tile_waveDone (s : State) (ch : SceneChange) (w : Fin 4) (t : Nat) : (s.waveDone ch w).tile t = s.tile t := by
  unfold State.waveDone
  split
  · exact congrArg (smapGet TileX.init · t) (hostOnly_endChange s ch).tiles
  · rfl

theorem change_waveDone (s : State) (ch : SceneChange) (w : Fin 4) : (s.waveDone ch w).scene.change = if w = 3 then none else some ch := by
  unfold State.waveDone
  split
  · exact congrArg SceneState.change (hostOnly_endChange s ch).scene
  · rfl

end Sys2Proof.Machine

namespace Sys2Proof.Claim
open Sys2Proof.Machine

/-- A change that is asked for is kept, and its cue sent to the seats. -/
theorem changeAsked_spec (s : State) (c : CmdRec) (k : Nat) (n : Option Nat) :
    (s.changeAsked c k n).scene = { s.scene with change := some ⟨k, n, false, false, false, []⟩ }
    ∧ (s.changeAsked c k n).fab = (s.sendC3 s.mates (.sceneChange k (n.getD 0) n.isNone)).fab ∧ (s.changeAsked c k n).out = s.out
    ∧ (s.changeAsked c k n).regs = s.regs ∧ (s.changeAsked c k n).mem = s.mem ∧ (s.changeAsked c k n).tiles = s.tiles :=
  ⟨rfl, rfl, rfl, rfl, rfl, rfl⟩

/-- Settles O30: the commands, then the cue and the two kinds of wave of a change in progress. -/
theorem sceneChangesAtTheirCue : Obligations.SceneChangesAtTheirCue := by
  refine ⟨fun s c => ?_,
    fun s => ⟨changes_wait, fun h => ⟨fun hn => ?_, fun hn => ?_⟩⟩,
    fun s ch hch => ⟨fun hs hb => ⟨fun hc => ?_, execSceneChangeStart_early hch⟩, fun w hb hsv hw => ?_, fun w => execStopWave_idle hch,
      fun w hl hw => ?_, fun w => execStartWave_idle hch⟩⟩
  · exact ⟨fun h => ⟨fun ⟨_, hst⟩ => ⟨_, execSceneChange_staged h hst, changeAsked_spec s c _ (some (c.par 0 2))⟩, execSceneChange_unstaged h⟩,
      fun h => ⟨fun hs => ⟨_, execSceneRestore_saved h hs, changeAsked_spec s c _ none⟩, execSceneRestore_unsaved h⟩⟩
  · exact (execSceneChangeStart_heard h).trans (if_pos (by rw [hn]; rfl))
  · exact (execSceneChangeStart_heard h).trans (if_neg (by simpa using hn))
  · have honly : Only (fun a => a = R.CU_STATUS) s (s.changeBegun ch) := only_changeBegun s ch
    have hbegin := suspends_beginChange s ch
    refine ⟨_, execSceneChangeStart_due hch hs hb hc, congrArg SceneState.change hbegin.scene, (fld_congr (hbegin.reg _)).trans ?_,
      fun k hk => suspended_beginChange s ch hk, honly.trans hbegin.only⟩
    exact fld_setFld_same _ R.CU_STATUS_SCENE_STATE 1 (by decide)
  · obtain ⟨hmem, hscene⟩ := waveStopped_stores s w
    refine ⟨_, execStopWave_due hch hb hsv hw, rfl, hmem, fun t _ => (waveStopped_state s w t).trans ?_⟩
    simp only [mem_waveTiles, stoppedFrom]
    grind
  · have hidx : ∀ {t : Nat}, t < 2048 → t < 65536 := fun h => by omega
    refine ⟨_, execStartWave_due hch hl hw, fun hs t ht hts htw => ?_, fun hs hr t ht => ?_, ?_⟩
    · obtain ⟨⟨⟨hstate, hresume⟩, hcleared⟩, hgrant⟩ := waveStarted_new s (ch := ch) w hs (mem_waveTiles.mpr ⟨hts, htw⟩)
      obtain ⟨hseq, hhalt, _, _, _, _, _, _, hvl, _⟩ := inWindow_TA t
      have hreg : ∀ {a}, InWindow t a → _ := fun h => reg_waveDone (s.waveStarted ch w) { ch with waves := ch.waves ++ [w.val] } w (hidx ht) h
      exact ⟨(fld_congr (f := R.TA_SEQ_STATE t) (hreg hseq)).trans hstate, (fld_congr (f := R.TA_SEQ_RESUME t) (hreg hseq)).trans hresume,
        (fld_congr (f := R.TA_PVL_VL t) (hreg hvl)).trans hcleared.vl, (hreg hhalt).trans hcleared.halt,
        (congrArg TileX.waitGrant (tile_waveDone _ _ w t)).trans hgrant⟩
    · have hreg := reg_waveDone (s.waveStarted ch w) { ch with waves := ch.waves ++ [w.val] } w (hidx ht) (inWindow_TA t).1
      refine ⟨(fld_congr (f := R.TA_SEQ_RESUME t) hreg).trans (resume_waveStarted_restored s w hs t),
        (fld_congr (f := R.TA_SEQ_STATE t) hreg).trans ((state_waveStarted_restored s w hs hr t).trans (if_congr ?_ rfl rfl))⟩
      rw [mem_waveTiles, and_assoc]
    · rw [change_waveDone]
      split <;> rfl

end Sys2Proof.Claim
end

section
/-!
PROOFS. The records of a scene (O31): what the save writes of each tile's stores, and what the restore brings back.
-/
namespace Sys2Proof.Machine
open Sys2Proof.Claim

/-! ### A store copied cell by cell -/

theorem keys_nodup {α : Type} : ∀ (m : SMap α) (b : Option Nat), smapSorted b m = true →
    (m.map Prod.fst).Nodup ∧ ∀ n, b = some n → ∀ q ∈ m.map Prod.fst, n < q
  | [], _, _ => ⟨List.nodup_nil, fun _ _ _ hq => absurd hq List.not_mem_nil⟩
  | (k, v) :: m, b, h => by
    simp only [smapSorted, Bool.and_eq_true] at h
    obtain ⟨hb, hm⟩ := h
    obtain ⟨hnodup, habove⟩ := keys_nodup m (some k) hm
    refine ⟨List.nodup_cons.mpr ⟨fun hk => Nat.lt_irrefl k (habove k rfl k hk), hnodup⟩, fun n hn q hq => ?_⟩
    subst hn
    have hnk : n < k := by simpa using hb
    rcases List.mem_cons.mp hq with rfl | hq
    · exact hnk
    · exact hnk.trans (habove k rfl q hq)

theorem canonical_keys {s : State} (h : s.canonical = true) : (s.mem.map Prod.fst).Nodup := by
  simp only [State.canonical, Memory.wf, smapWf, Bool.and_eq_true] at h
  exact (keys_nodup s.mem none h.1.2.1).1

/-- The cells of a store set one by one. -/
def State.setCells (s : State) (l : List (Nat × Byte)) : State := l.foldl (fun t p => t.setByte p.1 p.2) s

/-- Cells that are set change the bytes at their addresses alone. -/
theorem byte_setCells_outside {a : Nat} (l : List (Nat × Byte)) (h : ∀ p ∈ l, p.1 ≠ a) (s : State) : (s.setCells l).byte a = s.byte a :=
  List.foldlRecOn l _ (motive := fun u : State => u.byte a = s.byte a) rfl fun u hu p hp => (byte_setByte_ne u p.2 (h p hp).symm).trans hu

/-- A map of cells takes the cell at `b`, and it alone, to `a`. -/
structure Moves (g : Nat × Byte → Option (Nat × Byte)) (b a : Nat) : Prop where
  hit : ∀ v, g (b, v) = some (a, v)
  only : ∀ p q, g p = some q → p.1 ≠ b → q.1 ≠ a

/-- A byte that was zero holds, after the cells of a store were moved, what the store has at its place. -/
theorem byte_setCells_moved {g : Nat × Byte → Option (Nat × Byte)} {a b : Nat} (hg : Moves g b a) : ∀ (m : List (Nat × Byte)),
    (m.map Prod.fst).Nodup → ∀ s : State, s.byte a = memDefault → (s.setCells (m.filterMap g)).byte a = smapGet memDefault m b
  | [], _, _, h0 => h0
  | (k, v) :: m, hnodup, s, h0 => by
    obtain ⟨hk, hnodup⟩ := List.nodup_cons.mp hnodup
    by_cases hkb : k = b
    · subst hkb
      have hrest : ∀ p ∈ m.filterMap g, p.1 ≠ a := fun p hp => by
        obtain ⟨q, hq, hgq⟩ := List.mem_filterMap.mp hp
        exact hg.only q p hgq fun e => hk (e ▸ (List.mem_map_of_mem hq : q.1 ∈ m.map Prod.fst))
      rw [List.filterMap_cons_some (hg.hit v), smapGet, if_pos rfl]
      exact (byte_setCells_outside _ hrest _).trans (byte_setByte_same s a v)
    · rw [smapGet, if_neg hkb]
      cases hgk : g (k, v) with
      | none =>
        rw [List.filterMap_cons_none hgk]
        exact byte_setCells_moved hg m hnodup s h0
      | some q =>
        rw [List.filterMap_cons_some hgk]
        exact byte_setCells_moved hg m hnodup (s.setByte q.1 q.2) ((byte_setByte_ne s q.2 (hg.only _ q hgk hkb).symm).trans h0)

/-! ### The windows and the save areas (R62) -/

theorem tileSpace_tileBase {t o : Nat} (ht : t < 2048) (ho : o < 0x100000) : tileSpace (tileBase t + o) = some (t, o) := by
  unfold tileSpace tileBase
  rw [if_pos (by omega)]
  simp only [Option.some.injEq, Prod.mk.injEq]
  omega

theorem tileSpace_inv {a t o : Nat} (h : tileSpace a = some (t, o)) : t < 2048 ∧ o < 0x100000 ∧ a = tileBase t + o := by
  unfold tileSpace at h
  split at h
  · obtain ⟨rfl, rfl⟩ := Prod.mk.inj (Option.some.inj h)
    unfold tileBase
    omega
  · cases h

theorem saveSpace_saveBase {t o : Nat} (ht : t < 2048) (ho : o < 0x100000) : saveSpace (saveBase t + o) = some (t, o) := by
  unfold saveSpace saveBase
  rw [if_pos (by omega)]
  dsimp only
  rw [if_pos (by omega)]
  simp only [Option.some.injEq, Prod.mk.injEq]
  omega

theorem saveSpace_inv {a t o : Nat} (h : saveSpace a = some (t, o)) : t < 2048 ∧ o < 0x100000 ∧ a = saveBase t + o := by
  unfold saveSpace at h
  split at h
  · dsimp only at h
    split at h
    · obtain ⟨rfl, rfl⟩ := Prod.mk.inj (Option.some.inj h)
      unfold saveBase
      omega
    · cases h
  · cases h

theorem tileBase_inj {t k o x : Nat} (ho : o < 0x100000) (hx : x < 0x100000) (h : tileBase t + o = tileBase k + x) : t = k ∧ o = x := by
  unfold tileBase at h
  omega

theorem saveBase_inj {t k o x : Nat} (ho : o < 0x100000) (hx : x < 0x100000) (h : saveBase t + o = saveBase k + x) : t = k ∧ o = x := by
  unfold saveBase at h
  omega

theorem saveBase_below {t : Nat} (ht : t < 2048) : saveBase t + 0x100000 ≤ 0x11000000000 := by
  unfold saveBase
  omega

/-- A record has its stores before its registers, and no record reaches into another. -/
theorem saveBase_apart {t k o x n : Nat} (ho : o < offRegs) (hx : offRegs ≤ x) (hn : x + n ≤ 0x100000) :
    saveBase t + o < saveBase k + x ∨ saveBase k + x + n ≤ saveBase t + o := by
  unfold saveBase
  unfold offRegs at ho hx
  omega

/-- The cell of a tile's store in its record. -/
def cellOut (p : Nat × Byte) : Option (Nat × Byte) :=
  match tileSpace p.1 with
  | some q => if q.2 < offRegs then some (saveBase q.1 + q.2, p.2) else none
  | none => none

/-- The cell of a record in its tile's store. -/
def cellIn (p : Nat × Byte) : Option (Nat × Byte) :=
  match saveSpace p.1 with
  | some q => if q.2 < offRegs then some (tileBase q.1 + q.2, p.2) else none
  | none => none

theorem cellOut_of {a t o : Nat} (h : tileSpace a = some (t, o)) (ho : o < offRegs) (v : Byte) : cellOut (a, v) = some (saveBase t + o, v) := by
  unfold cellOut
  rw [h]
  exact if_pos ho

theorem cellOut_inv {p q : Nat × Byte} (h : cellOut p = some q) : ∃ t o, t < 2048 ∧ o < offRegs ∧ p.1 = tileBase t + o ∧ q.1 = saveBase t + o := by
  unfold cellOut at h
  split at h
  · next x hx =>
    split at h
    · next ho =>
      obtain ⟨ht, _, ha⟩ := tileSpace_inv hx
      exact ⟨x.1, x.2, ht, ho, ha, (congrArg Prod.fst (Option.some.inj h)).symm⟩
    · cases h
  · cases h

theorem cellIn_of {a t o : Nat} (h : saveSpace a = some (t, o)) (ho : o < offRegs) (v : Byte) : cellIn (a, v) = some (tileBase t + o, v) := by
  unfold cellIn
  rw [h]
  exact if_pos ho

theorem cellIn_inv {p q : Nat × Byte} (h : cellIn p = some q) : ∃ t o, t < 2048 ∧ o < offRegs ∧ p.1 = saveBase t + o ∧ q.1 = tileBase t + o := by
  unfold cellIn at h
  split at h
  · next x hx =>
    split at h
    · next ho =>
      obtain ⟨ht, _, ha⟩ := saveSpace_inv hx
      exact ⟨x.1, x.2, ht, ho, ha, (congrArg Prod.fst (Option.some.inj h)).symm⟩
    · cases h
  · cases h

theorem offset_lt {o : Nat} (h : o < offRegs) : o < 0x100000 := h.trans (by decide)

theorem moves_cellOut {t o : Nat} (ht : t < 2048) (ho : o < offRegs) : Moves cellOut (tileBase t + o) (saveBase t + o) := by
  refine ⟨fun v => ?_, fun p q h hne e => hne ?_⟩
  · exact cellOut_of (tileSpace_tileBase ht (offset_lt ho)) ho v
  · obtain ⟨k, x, hk, hx, hp, hq⟩ := cellOut_inv h
    obtain ⟨rfl, rfl⟩ := saveBase_inj (offset_lt hx) (offset_lt ho) (hq.symm.trans e)
    exact hp

theorem moves_cellIn {t o : Nat} (ht : t < 2048) (ho : o < offRegs) : Moves cellIn (saveBase t + o) (tileBase t + o) := by
  refine ⟨fun v => ?_, fun p q h hne e => hne ?_⟩
  · exact cellIn_of (saveSpace_saveBase ht (offset_lt ho)) ho v
  · obtain ⟨k, x, hk, hx, hp, hq⟩ := cellIn_inv h
    obtain ⟨rfl, rfl⟩ := tileBase_inj (offset_lt hx) (offset_lt ho) (hq.symm.trans e)
    exact hp

/-! ### What a save or a restore leaves alone -/

/-- Memory, what the tiles hold, the scene and the resilience engine stay. -/
structure StoresKept (s u : State) : Prop where
  mem : u.mem = s.mem
  tiles : u.tiles = s.tiles
  scene : u.scene = s.scene
  res : u.res = s.res

theorem StoresKept.trans {s u w : State} (h : StoresKept s u) (g : StoresKept u w) : StoresKept s w :=
  ⟨g.mem.trans h.mem, g.tiles.trans h.tiles, g.scene.trans h.scene, g.res.trans h.res⟩

theorem storesKept_refl (s : State) : StoresKept s s := ⟨rfl, rfl, rfl, rfl⟩

theorem storesKept_foldl {α : Type} {f : State → α → State} (hf : ∀ t x, StoresKept t (f t x)) (l : List α) (s : State) :
    StoresKept s (l.foldl f s) :=
  List.foldlRecOn l f (motive := fun u => StoresKept s u) (storesKept_refl s) fun t ht x _ => ht.trans (hf t x)

theorem storesKept_setReg (s : State) (a : Nat) (v : Word) : StoresKept s (s.setReg a v) := ⟨rfl, rfl, rfl, rfl⟩
theorem storesKept_setFld (s : State) (f : Fld) (v : Nat) : StoresKept s (s.setFld f v) := ⟨rfl, rfl, rfl, rfl⟩
theorem storesKept_setPoison (s : State) (a : Nat) (p : Bool) : StoresKept s (s.setPoison a p) := ⟨rfl, rfl, rfl, rfl⟩
theorem storesKept_setTe (s : State) (k : Nat) (x : TeStack) : StoresKept s (s.setTe k x) := ⟨rfl, rfl, rfl, rfl⟩
theorem storesKept_setBoothQ (s : State) (k : Nat) (q : List TeDesc) : StoresKept s (s.setBoothQ k q) :=
  (storesKept_setTe s k _).trans (storesKept_setFld _ _ _)
theorem storesKept_chanQueue (s : State) (n : Nat) (q : List Word) : StoresKept s (s.chanQueue n q) := ⟨rfl, rfl, rfl, rfl⟩
theorem storesKept_refillChan (s : State) (n : Nat) (q : List Word) : StoresKept s (s.refillChan n q) := by
  rw [refillChan_eq]
  exact (storesKept_chanQueue s n q).trans (storesKept_setFld _ _ _)

theorem storesKept_emptyTileChannels (s : State) : StoresKept s s.emptyTileChannels :=
  storesKept_foldl (fun t n => by
    split
    · exact storesKept_refillChan t n []
    · exact storesKept_refl t) _ s

theorem storesKept_clearAlarms (s : State) : StoresKept s s.clearAlarms :=
  storesKept_foldl (fun t _ => (storesKept_setReg t _ _).trans (storesKept_setReg _ _ _)) _ s

/-! ### What leaves with a scene (R49, R454) -/

/-- The booth's queues for the trap engines emptied. -/
def State.boothQsEmptied (s : State) : State := (List.range 8).foldl (fun t k => t.setBoothQ k []) s

theorem dropScene_eq (s : State) : s.dropScene = s.boothQsEmptied.emptyTileChannels.clearAlarms := rfl

theorem storesKept_dropScene (s : State) : StoresKept s s.dropScene := by
  rw [dropScene_eq]
  have hqs : StoresKept s s.boothQsEmptied := storesKept_foldl (fun t k => storesKept_setBoothQ t k []) _ s
  exact (hqs.trans (storesKept_emptyTileChannels _)).trans (storesKept_clearAlarms _)

theorem te_setFld (s : State) (f : Fld) (v : Nat) : (s.setFld f v).te = s.te := rfl

theorem te_refillChan (s : State) (n : Nat) (q : List Word) : (s.refillChan n q).te = s.te := by
  rw [refillChan_eq, te_setFld]
  rfl

theorem te_emptyTileChannels (s : State) : s.emptyTileChannels.te = s.te :=
  foldl_keeps (val := State.te) (fun t n => by
    split
    · exact te_refillChan t n []
    · rfl) _ s

theorem te_clearAlarms (s : State) : s.clearAlarms.te = s.te :=
  foldl_keeps (val := State.te) (fun t n => (rfl : ((t.setReg (R.CU_ALARM_CTL n) 0).setReg (R.CU_ALARM_TGT n) 0).te = t.te)) s.sceneAlarms s

theorem cb_clearAlarms (s : State) : s.clearAlarms.cb = s.cb :=
  foldl_keeps (val := State.cb) (fun t n => (rfl : ((t.setReg (R.CU_ALARM_CTL n) 0).setReg (R.CU_ALARM_TGT n) 0).cb = t.cb)) s.sceneAlarms s

theorem teStack_setBoothQ (s : State) (k : Nat) (q : List TeDesc) : (s.setBoothQ k q).teStack k = { s.teStack k with boothQ := q } :=
  teStack_setTe_same s k _

theorem teStack_setBoothQ_ne (s : State) {k j : Nat} (q : List TeDesc) (h : j ≠ k) : (s.setBoothQ k q).teStack j = s.teStack j :=
  teStack_setTe_ne s _ h

theorem boothQ_dropScene (s : State) {k : Nat} (hk : k < 8) : (s.dropScene.teStack k).boothQ = [] := by
  have hte : s.dropScene.te = s.boothQsEmptied.te := by
    rw [dropScene_eq, te_clearAlarms, te_emptyTileChannels]
  refine (congrArg (fun m => (smapGet TeStack.init m k).boothQ) hte).trans ?_
  exact (foldl_pointwise (g := fun t k => t.setBoothQ k []) (val := fun t k => (t.teStack k).boothQ) (F := fun _ => [])
    (fun t i => congrArg TeStack.boothQ (teStack_setBoothQ t i [])) (fun t _ _ hne => congrArg TeStack.boothQ (teStack_setBoothQ_ne t [] hne))
    (fun _ => rfl) (List.range 8) s k).trans (if_pos (List.mem_range.mpr hk))

/-- A channel whose receiver is a tile. -/
def State.toTile (s : State) (n : Nat) : Bool := s.chanKind n != .unbound && decide (0x800 ≤ s.fld (R.CB_BIND_RECEIVER_MID n))

theorem toTile_congr {s u : State} {n : Nat} (h : u.reg (R.CB_BIND n) = s.reg (R.CB_BIND n)) : u.toTile n = s.toTile n := by
  have hbit : ∀ f : Fld, f.addr = R.CB_BIND n → u.fld f = s.fld f := fun f hf => fld_congr (hf ▸ h)
  unfold State.toTile State.chanKind State.bit
  rw [hbit (R.CB_BIND_REMOTE_OUT n) rfl, hbit (R.CB_BIND_REMOTE_IN n) rfl, hbit (R.CB_BIND_VALID n) rfl, hbit (R.CB_BIND_RECEIVER_MID n) rfl]

/-- A channel to a tile is emptied. -/
def State.emptyToTile (s : State) (n : Nat) : State := if s.toTile n then s.refillChan n [] else s

theorem emptyTileChannels_eq (s : State) : s.emptyTileChannels = (List.range 256).foldl State.emptyToTile s := rfl

theorem reg_refillChan (s : State) (n : Nat) (q : List Word) {a : Nat} (h : a ≠ R.CB_DROP n) : (s.refillChan n q).reg a = s.reg a := by
  rw [refillChan_eq]
  exact reg_setFld_ne _ h

theorem chan_refillChan_same (s : State) (n : Nat) (q : List Word) : (s.refillChan n q).chan n = q := chan_setChan_same _ n q

theorem chan_refillChan_ne (s : State) {n k : Nat} (q : List Word) (h : k ≠ n) : (s.refillChan n q).chan k = s.chan k := smapGet_set_ne _ _ _ _ h

/-- The registers that bind the channels lie below those that count their losses. -/
theorem bind_ne_drop {n k : Nat} (h : n < 256) : R.CB_BIND n ≠ R.CB_DROP k := by
  unfold R.CB_BIND R.CB_DROP
  omega

/-- What a channel holds, once those of a list that go to tiles are emptied. -/
theorem chan_emptyToTiles {n : Nat} (hn : n < 256) (l : List Nat) : ∀ s : State,
    (l.foldl State.emptyToTile s).chan n = if n ∈ l ∧ s.toTile n = true then [] else s.chan n := by
  induction l with
  | nil => exact fun s => (if_neg fun h => List.not_mem_nil h.1).symm
  | cons i l ih =>
    intro s
    have hto : (s.emptyToTile i).toTile n = s.toTile n := by
      unfold State.emptyToTile
      split
      · exact toTile_congr (reg_refillChan s i [] (bind_ne_drop hn))
      · rfl
    rw [List.foldl_cons, ih, hto]
    by_cases ht : s.toTile n = true
    · by_cases hni : n = i
      · subst hni
        have hchan : (s.emptyToTile n).chan n = [] := by
          unfold State.emptyToTile
          rw [if_pos ht]
          exact chan_refillChan_same s n []
        rw [hchan, ite_self, if_pos ⟨List.mem_cons_self, ht⟩]
      · have hchan : (s.emptyToTile i).chan n = s.chan n := by
          unfold State.emptyToTile
          split
          · exact chan_refillChan_ne s [] hni
          · rfl
        rw [hchan]
        exact if_congr (by simp [hni]) rfl rfl
    · have hchan : (s.emptyToTile i).chan n = s.chan n := by
        unfold State.emptyToTile
        split
        · next hti => exact chan_refillChan_ne s [] (fun e => ht (e ▸ hti))
        · rfl
      rw [if_neg (fun h => ht h.2), if_neg (fun h => ht h.2), hchan]

theorem reg_boothQsEmptied (s : State) {a : Nat} (h : a < R.TP_BQ_STATUS 0) : s.boothQsEmptied.reg a = s.reg a :=
  foldl_keeps (val := fun t : State => t.reg a) (fun t k => by
    refine (reg_setFld_ne (f := R.TP_BQ_STATUS_FREE k) _ ?_).trans rfl
    have : R.TP_BQ_STATUS 0 ≤ R.TP_BQ_STATUS k := by
      unfold R.TP_BQ_STATUS
      omega
    exact Nat.ne_of_lt (h.trans_le this)) _ s

theorem mem_tileChannels {s : State} {n : Nat} : n ∈ s.tileChannels ↔ n < 256 ∧ s.toTile n = true := by
  unfold State.tileChannels
  rw [List.mem_filter, List.mem_range]
  rfl

theorem chan_dropScene (s : State) {n : Nat} (h : n ∈ s.tileChannels) : s.dropScene.chan n = [] := by
  obtain ⟨hn, hto⟩ := mem_tileChannels.mp h
  have hqs : s.boothQsEmptied.toTile n = s.toTile n := toTile_congr (reg_boothQsEmptied s (by
    unfold R.CB_BIND R.TP_BQ_STATUS
    omega))
  have hcb : s.dropScene.chan n = s.boothQsEmptied.emptyTileChannels.chan n := by
    rw [dropScene_eq]
    exact congrArg (smapGet [] · n) (cb_clearAlarms _)
  rw [hcb, emptyTileChannels_eq, chan_emptyToTiles hn]
  exact if_pos ⟨List.mem_range.mpr hn, hqs.trans hto⟩

/-! ### The save (R62) -/

theorem tiles_setScene (s : State) (x : SceneState) : (s.setScene x).tiles = s.tiles := rfl
theorem toTile_setScene (s : State) (x : SceneState) (n : Nat) : (s.setScene x).toTile n = s.toTile n := rfl
theorem byte_setScene (s : State) (x : SceneState) (a : Nat) : (s.setScene x).byte a = s.byte a := rfl
theorem mem_setScene (s : State) (x : SceneState) : (s.setScene x).mem = s.mem := rfl
theorem scene_setScene (s : State) (x : SceneState) : (s.setScene x).scene = x := rfl

/-- The register of a tile as its record's word. -/
def wordOut (p : Nat × Word) : Option (Nat × Word) := match tileSpace p.1 with | some q => some (saveBase q.1 + q.2, p.2) | none => none

/-- The part with the save areas empty. -/
def State.saveCleared (s : State) : State :=
  { s with mem := s.mem.filter (fun p => (saveSpace p.1).isNone), poison := s.poison.filter (fun p => (saveSpace p.1).isNone) }

/-- Words written where a list says. -/
def State.setWords (s : State) (l : List (Nat × Word)) : State := l.foldl (fun t p => t.setNum p.1 8 p.2.toNat) s

/-- The headers of all records. -/
def State.setHeaders (s : State) (c : Nat) : State :=
  (List.range 2048).foldl (fun t i => (t.setNum (saveBase i + offRegs) 8 (t.resumeHeader i)).setNum (saveBase i + offRegs + 8) 8 c) s

theorem writeRecords_eq (s : State) (c : Nat) : s.writeRecords c
    = ((s.saveCleared.setCells (s.mem.filterMap cellOut)).setWords (s.regs.filterMap wordOut)).setHeaders c := rfl

theorem byte_setNum_outside (s : State) {a n v c : Nat} (h : c < a ∨ a + n ≤ c) : (s.setNum a n v).byte c = s.byte c :=
  byte_setBytes_outside _ s (by rwa [leBytes_length])

/-- Every register of a tile is within the register words of its record. -/
def RegsInRecords (s : State) : Prop := ∀ p ∈ s.regs, ∀ q, tileSpace p.1 = some q → offRegs + 16 ≤ q.2 ∧ q.2 + 8 ≤ 0x100000

/-- No register word or header of a record reaches the place `a`. -/
def OffRecords (a : Nat) : Prop := ∀ k x n, k < 2048 → offRegs ≤ x → x + n ≤ 0x100000 → a < saveBase k + x ∨ saveBase k + x + n ≤ a

theorem offRecords_save {t o : Nat} (ho : o < offRegs) : OffRecords (saveBase t + o) := fun _ _ _ _ hx hn => saveBase_apart ho hx hn

theorem offRecords_tile (t o : Nat) : OffRecords (tileBase t + o) := fun k x n hk _ hn => by
  have := saveBase_below hk
  unfold tileBase
  omega

theorem byte_setWords {a : Nat} (ha : OffRecords a) {l : List (Nat × Word)}
    (h : ∀ p ∈ l, ∃ k x, k < 2048 ∧ offRegs ≤ x ∧ x + 8 ≤ 0x100000 ∧ p.1 = saveBase k + x) (s : State) : (s.setWords l).byte a = s.byte a :=
  List.foldlRecOn l _ (motive := fun u : State => u.byte a = s.byte a) rfl fun u hu p hp => by
    obtain ⟨k, x, hk, hx, hx8, hpa⟩ := h p hp
    rw [hpa]
    exact (byte_setNum_outside u (ha k x 8 hk hx hx8)).trans hu

theorem wordOut_inv {s : State} (hs : RegsInRecords s) {p : Nat × Word} (h : p ∈ s.regs.filterMap wordOut) :
    ∃ k x, k < 2048 ∧ offRegs ≤ x ∧ x + 8 ≤ 0x100000 ∧ p.1 = saveBase k + x := by
  obtain ⟨r, hr, hrp⟩ := List.mem_filterMap.mp h
  unfold wordOut at hrp
  split at hrp
  · next q hq =>
    obtain ⟨hlo, hhi⟩ := hs r hr q hq
    exact ⟨q.1, q.2, (tileSpace_inv hq).1, by omega, hhi, (congrArg Prod.fst (Option.some.inj hrp)).symm⟩
  · cases hrp

theorem byte_setHeaders {a : Nat} (ha : OffRecords a) (c : Nat) (s : State) : (s.setHeaders c).byte a = s.byte a :=
  List.foldlRecOn (List.range 2048) _ (motive := fun u : State => u.byte a = s.byte a) rfl fun u hu i hi => by
    have hi := List.mem_range.mp hi
    rw [byte_setNum_outside _ (by rw [Nat.add_assoc]; exact ha i (offRegs + 8) 8 hi (by decide) (by decide)),
      byte_setNum_outside _ (ha i offRegs 8 hi (Nat.le_refl _) (by decide))]
    exact hu

/-- What the records hold of the stores, and what stays of the stores themselves. -/
theorem byte_writeRecords {s : State} (hs : RegsInRecords s) (c : Nat) {a : Nat} (ha : OffRecords a) :
    (s.writeRecords c).byte a = (s.saveCleared.setCells (s.mem.filterMap cellOut)).byte a := by
  rw [writeRecords_eq, byte_setHeaders ha, byte_setWords ha (fun p hp => wordOut_inv hs hp)]

theorem writeRecords_record {s : State} (hc : s.canonical = true) (hs : RegsInRecords s) (c : Nat) {t o : Nat} (ht : t < 2048) (ho : o < offRegs) :
    (s.writeRecords c).byte (saveBase t + o) = s.byte (tileBase t + o) := by
  rw [byte_writeRecords hs c (offRecords_save ho)]
  have hempty : s.saveCleared.byte (saveBase t + o) = memDefault :=
    smapGet_filter_out memDefault (fun v => by rw [saveSpace_saveBase ht (offset_lt ho)]; rfl) s.mem
  exact byte_setCells_moved (moves_cellOut ht ho) s.mem (canonical_keys hc) s.saveCleared hempty

theorem saveSpace_tileBase (t o : Nat) : saveSpace (tileBase t + o) = none := by
  unfold saveSpace tileBase
  exact if_neg (by omega)

theorem tileSpace_saveBase {t o : Nat} (ht : t < 2048) (ho : o < 0x100000) : tileSpace (saveBase t + o) = none := by
  have := saveBase_below ht
  unfold tileSpace
  exact if_neg (by omega)

theorem writeRecords_store {s : State} (hs : RegsInRecords s) (c : Nat) (t o : Nat) : (s.writeRecords c).byte (tileBase t + o) = s.byte (tileBase t + o) := by
  rw [byte_writeRecords hs c (offRecords_tile t o)]
  have hcells : ∀ p ∈ s.mem.filterMap cellOut, p.1 ≠ tileBase t + o := fun p hp => by
    obtain ⟨r, _, hr⟩ := List.mem_filterMap.mp hp
    obtain ⟨k, x, hk, hx, _, hpa⟩ := cellOut_inv hr
    have := saveBase_below hk
    have := offset_lt hx
    rw [hpa]
    unfold tileBase
    omega
  refine (byte_setCells_outside _ hcells s.saveCleared).trans ?_
  exact smapGet_filter_in memDefault (fun v => by rw [saveSpace_tileBase]; rfl) s.mem

/-- Only memory and poison marks change. -/
structure BytesOnly (s u : State) : Prop where
  rest : u = { s with mem := u.mem, poison := u.poison }

theorem BytesOnly.trans {s u w : State} (h : BytesOnly s u) (g : BytesOnly u w) : BytesOnly s w :=
  ⟨g.rest.trans (congrArg (fun v : State => { v with mem := w.mem, poison := w.poison }) h.rest)⟩

theorem BytesOnly.tiles {s u : State} (h : BytesOnly s u) : u.tiles = s.tiles := (congrArg State.tiles h.rest :)
theorem BytesOnly.scene {s u : State} (h : BytesOnly s u) : u.scene = s.scene := (congrArg State.scene h.rest :)
theorem BytesOnly.res {s u : State} (h : BytesOnly s u) : u.res = s.res := (congrArg State.res h.rest :)
theorem BytesOnly.te {s u : State} (h : BytesOnly s u) : u.te = s.te := (congrArg State.te h.rest :)
theorem BytesOnly.regs {s u : State} (h : BytesOnly s u) : u.regs = s.regs := (congrArg State.regs h.rest :)
theorem BytesOnly.toTile {s u : State} (h : BytesOnly s u) (n : Nat) : u.toTile n = s.toTile n :=
  (congrArg (fun v : State => v.toTile n) h.rest :)

theorem bytesOnly_refl (s : State) : BytesOnly s s := ⟨rfl⟩

theorem bytesOnly_foldl {α : Type} {f : State → α → State} (hf : ∀ t x, BytesOnly t (f t x)) (l : List α) (s : State) : BytesOnly s (l.foldl f s) :=
  List.foldlRecOn l f (motive := fun u => BytesOnly s u) (bytesOnly_refl s) fun t ht x _ => ht.trans (hf t x)

theorem bytesOnly_setByte (s : State) (a : Nat) (b : Byte) : BytesOnly s (s.setByte a b) := ⟨rfl⟩

theorem bytesOnly_setBytes (s : State) (a : Nat) (l : List Byte) : BytesOnly s (s.setBytes a l) := by
  obtain ⟨m, hm⟩ := setBytes_eq l s a
  rw [hm]
  exact ⟨rfl⟩

theorem bytesOnly_setNum (s : State) (a n v : Nat) : BytesOnly s (s.setNum a n v) := bytesOnly_setBytes s a _

theorem bytesOnly_setCells (s : State) (l : List (Nat × Byte)) : BytesOnly s (s.setCells l) := 
  bytesOnly_foldl (f := fun (t : State) (p : Nat × Byte) => t.setByte p.1 p.2) (fun t p => bytesOnly_setByte t p.1 p.2) l s

theorem bytesOnly_writeRecords (s : State) (c : Nat) : BytesOnly s (s.writeRecords c) := by
  rw [writeRecords_eq]
  have hclear : BytesOnly s s.saveCleared := ⟨rfl⟩
  have hwords : ∀ (t : State) l, BytesOnly t (t.setWords l) := fun t l => bytesOnly_foldl (fun t p => bytesOnly_setNum t _ _ _) l t
  have hheaders : ∀ t : State, BytesOnly t (t.setHeaders c) := fun t =>
    bytesOnly_foldl (fun t i => (bytesOnly_setNum t _ _ _).trans (bytesOnly_setNum _ _ _ _)) _ t
  exact ((hclear.trans (bytesOnly_setCells _ _)).trans (hwords _ _)).trans (hheaders _)

/-- What the save keeps beside the records. -/
def State.sceneSaved (s : State) (c : Nat) : SavedScene :=
  { id := s.scene.id, images := s.scene.images, seed := s.scene.seed, cue := c,
    tiles := s.tiles,
    notices := s.tileChannels.map (fun n => (n, s.chan n)),
    alarms := s.sceneAlarms.map (fun n => (n, s.reg (R.CU_ALARM_CTL n), s.reg (R.CU_ALARM_TGT n))),
    queues := (List.range 8).map (fun k => (k, (s.teStack k).boothQ)),
    gens := (List.range 8).map (fun k => (k, (s.teStack k).sr)),
    psn := (s.poison.map Prod.fst).filter (fun u => (tileSpace u).isSome) }

/-- The records written and the scene marked saved. -/
def State.recorded (s : State) (c : Nat) : State := (s.writeRecords c).setScene { (s.writeRecords c).scene with saved := some (s.sceneSaved c) }

theorem saveScene_eq (s : State) (c : Nat) : s.saveScene c = (s.recorded c).dropScene := rfl

/-- The seat is quiet: its queues, tiles and engines are (R63). -/
def State.atRest (s : State) : Prop :=
  (∀ c, c < 4 → s.classDrained c = true) ∧ (∀ t ∈ s.tilesOfScene, (s.tile t).quiet = true) ∧ ∀ k, k < 8 → (s.teStack k).running = []

/-- A change whose stop waves are all done and whose scene is not saved yet. -/
def SceneChange.saveDue (ch : SceneChange) : Prop := ch.begun = true ∧ ch.saved = false ∧ ch.waves.length = 4

/-- The part after a save, before the change shows it. -/
def State.savedOrDropped (s : State) (ch : SceneChange) : State :=
  let s := s.sendC3 s.mates .quiet
  if s.scene.rollout || ch.scene.isNone then s.dropScene else s.saveScene ch.c

/-- A change shown saved. -/
def State.showSaved (s : State) (ch : SceneChange) : State := s.setScene { s.scene with change := some { ch with saved := true, waves := [] } }

/-- What SCENE_SAVE looks at of the seat. -/
def State.restChecked (s : State) : Bool :=
  (List.range 4).all (fun c => s.classDrained c) && s.tilesOfScene.all (fun t => (s.tile t).quiet)
    && (List.range 8).all (fun k => (s.teStack k).running.isEmpty)

theorem restChecked_iff (s : State) : s.restChecked = true ↔ s.atRest := by
  unfold State.restChecked State.atRest
  simp [List.all_eq_true, and_assoc]

theorem execSceneSave_eq {s : State} {ch : SceneChange} (h : s.scene.change = some ch) (q : Bool) : execSceneSave q s
    = if (!q || !ch.begun || ch.saved || ch.waves.length != 4 || !s.restChecked) = true then .next s else .next ((s.savedOrDropped ch).showSaved ch) := by
  unfold execSceneSave
  rw [h]
  rfl

theorem execSceneSave_due {s : State} {ch : SceneChange} (h : s.scene.change = some ch) (hq : s.atRest) (hd : ch.saveDue) :
    execSceneSave true s = .next ((s.savedOrDropped ch).showSaved ch) := by
  obtain ⟨hb, hs, hw⟩ := hd
  rw [execSceneSave_eq h, (restChecked_iff s).mpr hq, hb, hs, hw]
  rfl

theorem execSceneSave_idle {s : State} {ch : SceneChange} (h : s.scene.change = some ch) (hn : ¬ s.atRest ∨ ¬ ch.saveDue) : execSceneSave true s = .next s := by
  rw [execSceneSave_eq h]
  refine if_pos (Classical.byContradiction fun hc => ?_)
  simp only [Bool.not_eq_true, Bool.or_eq_false_iff, Bool.not_eq_false', bne_eq_false_iff_eq] at hc
  obtain ⟨⟨⟨⟨_, hb⟩, hs⟩, hw⟩, hr⟩ := hc
  exact hn.elim (fun hn => hn ((restChecked_iff s).mp hr)) fun hn => hn ⟨hb, hs, hw⟩

theorem execSceneSave_waits {s : State} {ch : SceneChange} (h : s.scene.change = some ch) : execSceneSave false s = .next s := by
  rw [execSceneSave_eq h]
  exact if_pos rfl

/-- A part that has told its seats that it is quiet. -/
def State.toldQuiet (s : State) : State := s.sendC3 s.mates .quiet

theorem savedOrDropped_saves {s : State} {ch : SceneChange} (hs : ch.scene.isSome = true) (hr : s.scene.rollout = false) :
    s.savedOrDropped ch = s.toldQuiet.saveScene ch.c :=
  if_neg (by
    change ¬ (s.scene.rollout || ch.scene.isNone) = true
    rw [hr, Option.isNone_eq_false_iff.mpr hs]
    decide)

theorem savedOrDropped_drops {s : State} {ch : SceneChange} (h : ch.scene = none ∨ s.scene.rollout = true) :
    s.savedOrDropped ch = s.toldQuiet.dropScene :=
  if_pos (by
    change (s.scene.rollout || ch.scene.isNone) = true
    obtain h | h := h <;> simp [h])

/-! ### The swap to a staged scene (R60, R64) -/

theorem scene_loadBank (s : State) (l code : List Byte) (mark : Bool) (t : Nat) : (s.loadBank l code mark t).scene = s.scene := by
  have hbank : ∀ (u : State) b a data, (u.bankWrite t b a data).scene = u.scene := fun u b a data => by
    obtain ⟨m, hm⟩ := bankWrite_mem u t b a data
    rw [hm]
  have hkeep : ∀ u : State, (u.keepMark t).scene = u.scene := fun u => by
    obtain ⟨c, hc⟩ := keepMark_curtain u t
    rw [hc]
  unfold State.loadBank
  dsimp only
  split
  · rw [scene_setFld, hkeep, hbank, hbank]
  · rw [hbank, hbank]

theorem scene_stageBytes (s : State) (a : Nat) (l : List Byte) : (s.stageBytes a l).scene = s.scene :=
  (storesKept_foldl (f := fun t u => t.setPoison u false) (fun t u => storesKept_setPoison t u false) _ (s.setBytes a l)).scene.trans
    (bytesOnly_setBytes s a l).scene

theorem scene_swapMarked (s : State) (t : Nat) : (s.swapMarked t).scene = s.scene := by
  unfold State.swapMarked
  split
  · exact scene_setFld s (R.TA_BANKCTL_MARK t) 0
  · rfl

theorem scene_clearOutside (s : State) (tiles : List Nat) : (s.clearOutside tiles).scene = s.scene := (clearOutside_spec s tiles).1.scene

theorem scene_loadStaged (s : State) (x : StagedScene) : (s.loadStaged x).scene = s.scene := by
  unfold State.loadStaged
  extract_lets u
  have hu : u.scene = s.scene := List.foldlRecOn x.images _ (motive := fun v : State => v.scene = s.scene) rfl fun v hv l _ =>
    List.foldlRecOn _ _ (motive := fun w : State => w.scene = s.scene) hv fun w hw t _ => (scene_loadBank w l _ true t).trans hw
  refine List.foldlRecOn x.data _ (motive := fun v : State => v.scene = s.scene) ((scene_clearOutside u _).trans hu) fun v hv p _ => ?_
  split
  · exact (scene_stageBytes v _ _).trans hv
  · exact hv

/-- The banks of a staged scene loaded and the marked ones swapped. -/
def State.stagedIn (s : State) (st : StagedScene) : State := (sceneTiles st.images).foldl (fun t i => t.swapMarked i) (s.loadStaged st)

theorem scene_stagedIn (s : State) (st : StagedScene) : (s.stagedIn st).scene = s.scene :=
  (foldl_keeps (val := State.scene) scene_swapMarked (sceneTiles st.images) (s.loadStaged st)).trans (scene_loadStaged s st)

theorem execSceneSwapIn_due {s : State} {ch : SceneChange} {n : Nat} {st : StagedScene} (h : s.scene.change = some ch) (hn : ch.scene = some n)
    (hst : s.staged? n = some st) (hs : ch.saved = true) (hl : ch.loaded = false) : execSceneSwapIn s
      = .next ((s.stagedIn st).setScene { (s.stagedIn st).scene with
          id := st.id, images := st.images, seed := st.seed, rollout := true, change := some { ch with loaded := true } }) := by
  have hb : ch.scene.bind s.staged? = some st := by rw [hn, Option.bind_some, hst]
  unfold execSceneSwapIn
  simp only [h, hb]
  exact if_neg (by rw [hs, hl]; decide)

theorem execSceneSwapIn_idle {s : State} {ch : SceneChange} (h : s.scene.change = some ch) (hn : ch.scene = none ∨ ch.saved = false ∨ ch.loaded = true) :
    execSceneSwapIn s = .next s := by
  unfold execSceneSwapIn
  simp only [h]
  cases hb : ch.scene.bind s.staged? with
  | none => rfl
  | some st =>
    refine if_pos ?_
    rcases hn with hn | hn | hn
    · rw [hn] at hb
      cases hb
    · rw [hn]
      rfl
    · rw [hn, Bool.or_true]

/-! ### The restore (R66) -/

/-- The part with the tiles' stores empty and the tiles as the save kept them. -/
def State.windowsCleared (s : State) (sv : SavedScene) : State :=
  { s with mem := s.mem.filter (fun p => (tileSpace p.1).isNone), poison := s.poison.filter (fun p => (tileSpace p.1).isNone), tiles := sv.tiles }

/-- The registers and words of the tiles as the records have them, the rest of each record in place. -/
def State.recordsRead (s v : State) (psn : List Nat) : State :=
  let regs := s.regs.filterMap (fun p => if (tileSpace p.1).isSome then some p.1 else none)
  let words := (s.mem.filterMap (fun p => match saveSpace p.1 with
    | some q => if offRegs + 16 ≤ q.2 then some (tileBase q.1 + q.2 / 8 * 8) else none
    | none => none)).dedup
  let v := v.poisonAll psn true
  let v := regs.foldl (fun t a => t.setReg a 0) v
  let v := words.foldl (fun t a =>
    t.setReg a (BitVec.ofNat 64 (t.num (saveBase ((a - 0x11000000000) / 0x100000) + a % 0x100000) 8))) v
  (List.range 2048).foldl (fun t i =>
    let h := t.num (saveBase i + offRegs) 8
    if !bitOf h 32 then t
    else
      (((t.setFld (R.TA_SEQ_BANK i) (bitsOf h 31 31)).setFld (R.TA_BANKCTL_MARK i) (bitsOf h 30 30)).setFld (R.TA_SEQ_REPEAT_LEFT i)
        (bitsOf h 25 13)).setFld (R.TA_SEQ_RESUME i) (bitsOf h 12 0)) v

theorem readRecords_eq (s : State) (sv : SavedScene) :
    s.readRecords sv = s.recordsRead ((s.windowsCleared sv).setCells (s.mem.filterMap cellIn)) sv.psn := rfl

theorem storesKept_poisonAll (s : State) (us : List Nat) (p : Bool) : StoresKept s (s.poisonAll us p) :=
  storesKept_foldl (fun t u => storesKept_setPoison t u p) us s

theorem storesKept_recordsRead (s v : State) (psn : List Nat) : StoresKept v (s.recordsRead v psn) := by
  unfold State.recordsRead
  extract_lets regs words v1 v2 v3
  have h1 : StoresKept v v1 := storesKept_poisonAll v psn true
  have h2 : StoresKept v1 v2 := storesKept_foldl (fun t a => storesKept_setReg t a 0) regs v1
  have h3 : StoresKept v2 v3 := storesKept_foldl (fun t a => storesKept_setReg t a _) words v2
  refine ((h1.trans h2).trans h3).trans (storesKept_foldl (fun t i => ?_) _ v3)
  dsimp only
  split
  · exact storesKept_refl t
  · exact (((storesKept_setFld t _ _).trans (storesKept_setFld _ _ _)).trans (storesKept_setFld _ _ _)).trans (storesKept_setFld _ _ _)

/-- A restored scene's stores are what its records hold. -/
theorem readRecords_store {s : State} (hc : s.canonical = true) (sv : SavedScene) {t o : Nat} (ht : t < 2048) (ho : o < offRegs) :
    (s.readRecords sv).byte (tileBase t + o) = s.byte (saveBase t + o) := by
  have hempty : (s.windowsCleared sv).byte (tileBase t + o) = memDefault :=
    smapGet_filter_out memDefault (fun v => by rw [tileSpace_tileBase ht (offset_lt ho)]; rfl) s.mem
  rw [readRecords_eq]
  refine (congrArg (smapGet memDefault · (tileBase t + o)) (storesKept_recordsRead s _ sv.psn).mem).trans ?_
  exact byte_setCells_moved (moves_cellIn ht ho) s.mem (canonical_keys hc) (s.windowsCleared sv) hempty

theorem readRecords_tiles (s : State) (sv : SavedScene) : (s.readRecords sv).tiles = sv.tiles := by
  rw [readRecords_eq]
  exact (storesKept_recordsRead s _ sv.psn).tiles.trans (bytesOnly_setCells _ _).tiles

theorem readRecords_res (s : State) (sv : SavedScene) : (s.readRecords sv).res = s.res := by
  rw [readRecords_eq]
  exact (storesKept_recordsRead s _ sv.psn).res.trans (bytesOnly_setCells _ _).res

theorem readRecords_scene (s : State) (sv : SavedScene) : (s.readRecords sv).scene = s.scene := by
  rw [readRecords_eq]
  exact (storesKept_recordsRead s _ sv.psn).scene.trans (bytesOnly_setCells _ _).scene

/-- The commands that a change had suspended go on. -/
def State.unsuspended (s : State) : State := { s with host := { s.host with cmds := s.host.cmds.map (fun c => { c with suspended := false }) } }

theorem storesKept_unsuspended (s : State) : StoresKept s s.unsuspended := ⟨rfl, rfl, rfl, rfl⟩

/-- The notices of a restored scene (R454), its alarms, moved by the cues that passed (R49), its queues and its generators. -/
def State.noticesBack (s : State) (sv : SavedScene) : State := sv.notices.foldl (fun t p => t.refillChan p.1 p.2) s
def State.alarmsBack (s : State) (ch : SceneChange) (sv : SavedScene) : State := sv.alarms.foldl (fun t a =>
  (t.setReg (R.CU_ALARM_CTL a.1) a.2.1).setReg (R.CU_ALARM_TGT a.1) (a.2.2 + BitVec.ofNat 64 (ch.c - sv.cue))) s
def State.queuesBack (s : State) (sv : SavedScene) : State :=
  sv.queues.foldl (fun t p => (t.setTe p.1 { t.teStack p.1 with suspended := false }).setBoothQ p.1 p.2) s
def State.gensBack (s : State) (sv : SavedScene) : State := sv.gens.foldl (fun t p => t.setTe p.1 { t.teStack p.1 with sr := p.2 }) s

/-- What of a restored scene is not in its records, and the commands that a change had suspended. -/
def State.broughtBack (s : State) (ch : SceneChange) (sv : SavedScene) : State :=
  ((((s.emptyTileChannels.noticesBack sv).clearAlarms.alarmsBack ch sv).queuesBack sv).gensBack sv).unsuspended

/-- The saved scene as the running one. -/
def State.sceneBack (s : State) (ch : SceneChange) (sv : SavedScene) : State :=
  s.setScene { s.scene with id := sv.id, images := sv.images, seed := sv.seed, saved := none, rollout := false,
                            change := some { ch with begun := true, saved := true, loaded := true, waves := [] } }

theorem restoreScene_eq (s : State) (ch : SceneChange) (sv : SavedScene) :
    s.restoreScene ch sv = ((s.readRecords sv).broughtBack ch sv).sceneBack ch sv := rfl

theorem storesKept_noticesBack (s : State) (sv : SavedScene) : StoresKept s (s.noticesBack sv) := by
  unfold State.noticesBack
  exact storesKept_foldl (f := fun (t : State) (p : Nat × List Word) => t.refillChan p.1 p.2) (fun t p => storesKept_refillChan t p.1 p.2) _ s

theorem storesKept_alarmsBack (s : State) (ch : SceneChange) (sv : SavedScene) : StoresKept s (s.alarmsBack ch sv) := by
  unfold State.alarmsBack
  exact storesKept_foldl (f := fun (t : State) (a : Nat × Word × Word) => (t.setReg (R.CU_ALARM_CTL a.1) a.2.1).setReg (R.CU_ALARM_TGT a.1) (a.2.2 + BitVec.ofNat 64 (ch.c - sv.cue))) (fun t _ => (storesKept_setReg t _ _).trans (storesKept_setReg _ _ _)) _ s

theorem storesKept_queuesBack (s : State) (sv : SavedScene) : StoresKept s (s.queuesBack sv) := by
  unfold State.queuesBack
  exact storesKept_foldl (f := fun (t : State) (p : Nat × List TeDesc) => (t.setTe p.1 { t.teStack p.1 with suspended := false }).setBoothQ p.1 p.2) (fun t p => (storesKept_setTe t p.1 _).trans (storesKept_setBoothQ _ _ _)) _ s

theorem storesKept_gensBack (s : State) (sv : SavedScene) : StoresKept s (s.gensBack sv) := by
  unfold State.gensBack
  exact storesKept_foldl (f := fun (t : State) (p : Nat × SMap Nat) => t.setTe p.1 { t.teStack p.1 with sr := p.2 }) (fun t p => storesKept_setTe t p.1 _) _ s

theorem storesKept_broughtBack (s : State) (ch : SceneChange) (sv : SavedScene) : StoresKept s (s.broughtBack ch sv) := by
  unfold State.broughtBack
  have hnotices := (storesKept_emptyTileChannels s).trans (storesKept_noticesBack _ sv)
  have halarms := (hnotices.trans (storesKept_clearAlarms _)).trans (storesKept_alarmsBack _ ch sv)
  exact ((halarms.trans (storesKept_queuesBack _ sv)).trans (storesKept_gensBack _ sv)).trans (storesKept_unsuspended _)

theorem scene_sceneBack (s : State) (ch : SceneChange) (sv : SavedScene) : (s.sceneBack ch sv).scene
    = { s.scene with id := sv.id, images := sv.images, seed := sv.seed, saved := none, rollout := false,
                     change := some { ch with begun := true, saved := true, loaded := true, waves := [] } } := rfl

theorem byte_sceneBack (s : State) (ch : SceneChange) (sv : SavedScene) (a : Nat) : (s.sceneBack ch sv).byte a = s.byte a := byte_setScene _ _ a
theorem tiles_sceneBack (s : State) (ch : SceneChange) (sv : SavedScene) : (s.sceneBack ch sv).tiles = s.tiles := tiles_setScene _ _

/-- A restore whose cue has come and whose records are not yet back. -/
structure RestoreDue (s : State) (ch : SceneChange) (sv : SavedScene) : Prop where
  change : s.scene.change = some ch
  saved : s.scene.saved = some sv
  restores : ch.scene = none
  come : ch.c ≤ s.cue
  notYet : ch.loaded = false

theorem execRestoreStart_eq {s : State} {ch : SceneChange} {sv : SavedScene} (h : RestoreDue s ch sv) (peer : List (List (BitVec 16))) :
    execRestoreStart none peer s = if !ch.begun then .next (s.beginRestore ch) else if !ch.saved then .next s
      else .next (if (s.restoreScene ch sv).res.deferred.isEmpty then s.restoreScene ch sv
        else (((s.restoreScene ch sv).setRes { (s.restoreScene ch sv).res with deferred := [] }).startRecovery (peerTickets peer)).resSettle) := by
  obtain ⟨hch, hsv, hs, hc, hl⟩ := h
  unfold execRestoreStart
  simp only [hch, hsv]
  refine if_neg ?_
  rw [hs, hl, decide_eq_false (Nat.not_lt.mpr hc)]
  decide

theorem res_restoreScene (s : State) (ch : SceneChange) (sv : SavedScene) : (s.restoreScene ch sv).res = s.res := by
  rw [restoreScene_eq]
  exact (storesKept_broughtBack _ ch sv).res.trans (readRecords_res s sv)

theorem execRestoreStart_back {s : State} {ch : SceneChange} {sv : SavedScene} (h : RestoreDue s ch sv) (peer : List (List (BitVec 16)))
    (hb : ch.begun = true) (hs : ch.saved = true) (hd : s.res.deferred = []) : execRestoreStart none peer s = .next (s.restoreScene ch sv) := by
  rw [execRestoreStart_eq h, hb, hs, res_restoreScene, hd]
  rfl

theorem execRestoreStart_early {s : State} {ch : SceneChange} (h : s.scene.change = some ch) (hc : s.cue < ch.c) (peer : List (List (BitVec 16))) :
    execRestoreStart none peer s = .next s := by
  unfold execRestoreStart
  simp only [h]
  cases s.scene.saved with
  | none => rfl
  | some sv => exact if_pos (by rw [decide_eq_true hc, Bool.or_true])

theorem execRestoreStart_heard {s : State} (h : s.scene.change = none) (c : Word) (peer : List (List (BitVec 16))) :
    execRestoreStart (some c) peer s = .next (s.setScene { s.scene with change := some ⟨c.toNat, none, false, false, false, []⟩ }) := by
  unfold execRestoreStart
  simp only [h]

/-- A restore that has begun, before the governor's turn starts over. -/
def State.restoreBegun (s : State) (ch : SceneChange) : State :=
  (s.setScene { s.scene with change := some { ch with begun := true } }).setFld R.CU_STATUS_SCENE_STATE 3

theorem beginRestore_eq (s : State) (ch : SceneChange) : s.beginRestore ch = (s.restoreBegun ch).governorReset := rfl

theorem only_restoreBegun (s : State) (ch : SceneChange) : Only (fun a => a = R.CU_STATUS) s (s.restoreBegun ch) := by
  unfold State.restoreBegun
  have hscene : Only (fun a => a = R.CU_STATUS) s (s.setScene { s.scene with change := some { ch with begun := true } }) :=
    only_of_stores rfl rfl rfl rfl
  exact hscene.trans (only_setFld (f := R.CU_STATUS_SCENE_STATE) _ 3 rfl)

theorem beginRestore_spec (s : State) (ch : SceneChange) : (s.beginRestore ch).scene = { s.scene with change := some { ch with begun := true } }
    ∧ (s.beginRestore ch).fld R.CU_STATUS_SCENE_STATE = 3 ∧ Only (fun a => a = R.CU_STATUS) s (s.beginRestore ch) := by
  have hreset := suspends_governorReset (s.restoreBegun ch)
  rw [beginRestore_eq]
  refine ⟨hreset.scene.trans (scene_setFld _ _ _), (fld_congr (hreset.reg _)).trans ?_, (only_restoreBegun s ch).trans hreset.only⟩
  exact fld_setFld_same _ R.CU_STATUS_SCENE_STATE 3 (by decide)

/-! ### What the parts of a save leave -/

/-- The channels to tiles and the booth's queues are empty. -/
def Gone (s u : State) : Prop := (∀ n, n ∈ s.tileChannels → u.chan n = []) ∧ ∀ k, k < 8 → (u.teStack k).boothQ = []

theorem gone_dropScene {s u : State} (h : ∀ n, u.toTile n = s.toTile n) : Gone s u.dropScene :=
  ⟨fun n hn => chan_dropScene u (mem_tileChannels.mpr ⟨(mem_tileChannels.mp hn).1, (h n).trans (mem_tileChannels.mp hn).2⟩),
    fun _ hk => boothQ_dropScene u hk⟩

theorem toldQuiet_spec (s : State) : StoresKept s s.toldQuiet ∧ s.toldQuiet.regs = s.regs ∧ s.toldQuiet.te = s.te ∧ s.toldQuiet.poison = s.poison :=
  ⟨⟨rfl, rfl, rfl, rfl⟩, rfl, rfl, rfl⟩

theorem toTile_of_regs {s u : State} (h : u.regs = s.regs) (n : Nat) : u.toTile n = s.toTile n :=
  toTile_congr (congrArg (fun r => smapGet (regReset (R.CB_BIND n)) r (R.CB_BIND n)) h)

theorem tiles_recorded (s : State) (c : Nat) : (s.recorded c).tiles = s.tiles := (tiles_setScene _ _).trans (bytesOnly_writeRecords s c).tiles
theorem toTile_recorded (s : State) (c n : Nat) : (s.recorded c).toTile n = s.toTile n :=
  (toTile_setScene _ _ n).trans ((bytesOnly_writeRecords s c).toTile n)
theorem byte_recorded (s : State) (c a : Nat) : (s.recorded c).byte a = (s.writeRecords c).byte a := byte_setScene _ _ a
theorem saved_recorded (s : State) (c : Nat) : (s.recorded c).scene.saved = some (s.sceneSaved c) := rfl

theorem byte_of_mem {s u : State} (h : u.mem = s.mem) (a : Nat) : u.byte a = s.byte a := congrArg (smapGet memDefault · a) h

end Sys2Proof.Machine

namespace Sys2Proof.Claim
open Sys2Proof.Machine

theorem gone_setScene {s u : State} {x : SceneState} (h : Gone s u) : Gone s (u.setScene x) := h

theorem sceneSaved_toldQuiet (s : State) (c : Nat) : s.toldQuiet.sceneSaved c = { s.sceneSaved c with psn := (s.toldQuiet.sceneSaved c).psn } := rfl

/-- A save writes every tile's stores into its record and keeps the stores, the tiles and what they wait for. -/
theorem saveScene_spec {s : State} (hc : s.canonical = true) (hr : RegsInRecords s) (c : Nat) :
    (∀ t o, t < 2048 → o < offRegs →
      (s.saveScene c).byte (saveBase t + o) = s.byte (tileBase t + o) ∧ (s.saveScene c).byte (tileBase t + o) = s.byte (tileBase t + o))
    ∧ (s.saveScene c).scene.saved = some (s.sceneSaved c) ∧ Gone s (s.saveScene c) ∧ (s.saveScene c).tiles = s.tiles := by
  have hdrop := storesKept_dropScene (s.recorded c)
  rw [saveScene_eq]
  refine ⟨fun t o ht ho => ⟨?_, ?_⟩, (congrArg SceneState.saved hdrop.scene).trans (saved_recorded s c), gone_dropScene fun n => toTile_recorded s c n, hdrop.tiles.trans (tiles_recorded s c)⟩
  · exact (byte_of_mem hdrop.mem _).trans ((byte_recorded s c _).trans (writeRecords_record hc hr c ht ho))
  · exact (byte_of_mem hdrop.mem _).trans ((byte_recorded s c _).trans (writeRecords_store hr c t o))

/-- A restore brings the stores back from the records, the tiles and the scene from the save. -/
theorem restoreScene_spec {s : State} (hc : s.canonical = true) (ch : SceneChange) (sv : SavedScene) :
    (∀ t o, t < 2048 → o < offRegs → (s.restoreScene ch sv).byte (tileBase t + o) = s.byte (saveBase t + o)) ∧ (s.restoreScene ch sv).tiles = sv.tiles
    ∧ (s.restoreScene ch sv).scene.saved = none ∧ (s.restoreScene ch sv).scene.id = sv.id ∧ (s.restoreScene ch sv).scene.rollout = false
    ∧ (s.restoreScene ch sv).scene.change = some { ch with begun := true, saved := true, loaded := true, waves := [] } := by
  have hback := storesKept_broughtBack (s.readRecords sv) ch sv
  rw [restoreScene_eq]
  refine ⟨fun t o ht ho => (byte_sceneBack _ ch sv _).trans ((byte_of_mem hback.mem _).trans (readRecords_store hc sv ht ho)),
    (tiles_sceneBack _ ch sv).trans (hback.tiles.trans (readRecords_tiles s sv)), ?_⟩
  rw [scene_sceneBack]
  exact ⟨rfl, rfl, rfl, rfl⟩

theorem gone_of_toldQuiet {s u : State} (h : Gone s.toldQuiet u) : Gone s u := by
  obtain ⟨_, hregs, _, _⟩ := toldQuiet_spec s
  obtain ⟨hchan, hq⟩ := h
  exact ⟨fun n hn => hchan n (mem_tileChannels.mpr ⟨(mem_tileChannels.mp hn).1, (toTile_of_regs hregs n).trans (mem_tileChannels.mp hn).2⟩), hq⟩

/-- What SCENE_SAVE keeps of a scene of the job. -/
def SavesScene (s : State) (ch : SceneChange) (u : State) : Prop :=
  (∀ t o, t < 2048 → o < offRegs → u.byte (saveBase t + o) = s.byte (tileBase t + o) ∧ u.byte (tileBase t + o) = s.byte (tileBase t + o))
  ∧ (∃ sv, u.scene.saved = some sv ∧ sv.id = s.scene.id ∧ sv.tiles = s.tiles ∧ sv.cue = ch.c ∧ sv.seed = s.scene.seed
      ∧ sv.queues = (List.range 8).map (fun k => (k, (s.teStack k).boothQ)))
  ∧ Gone s u ∧ u.tiles = s.tiles

theorem savedOrDropped_scene {s : State} {ch : SceneChange} (hc : s.canonical = true) (hregs : RegsInRecords s) (hs : ch.scene.isSome = true)
    (hr : s.scene.rollout = false) : SavesScene s ch (s.savedOrDropped ch) := by
  obtain ⟨htold, htregs, _, htpoison⟩ := toldQuiet_spec s
  have htc : s.toldQuiet.canonical = true := canonical_of_stores htregs htold.mem htpoison hc
  have htr : RegsInRecords s.toldQuiet := fun p hp => hregs p (htregs ▸ hp)
  obtain ⟨hbytes, hsaved, hgone, htiles⟩ := saveScene_spec htc htr ch.c
  rw [savedOrDropped_saves hs hr]
  refine ⟨fun t o ht ho => ?_, ⟨_, hsaved, ?_⟩, gone_of_toldQuiet hgone, htiles.trans htold.tiles⟩
  · obtain ⟨hrec, hstore⟩ := hbytes t o ht ho
    exact ⟨hrec.trans (byte_of_mem htold.mem _), hstore.trans (byte_of_mem htold.mem _)⟩
  · rw [sceneSaved_toldQuiet]
    exact ⟨rfl, rfl, rfl, rfl, rfl⟩

theorem savedOrDropped_rollout {s : State} {ch : SceneChange} (h : ch.scene = none ∨ s.scene.rollout = true) :
    Gone s (s.savedOrDropped ch) ∧ StoresKept s (s.savedOrDropped ch) := by
  rw [savedOrDropped_drops h]
  exact ⟨gone_of_toldQuiet (gone_dropScene fun _ => rfl), (toldQuiet_spec s).1.trans (storesKept_dropScene _)⟩

/-- A saved change that is shown leaves what was saved. -/
theorem SavesScene.shown {s u : State} {ch : SceneChange} (h : SavesScene s ch u) : SavesScene s ch (u.showSaved ch) := h

theorem change_showSaved (s : State) (ch : SceneChange) : (s.showSaved ch).scene = { s.scene with change := some { ch with saved := true, waves := [] } } := rfl

theorem gone_showSaved {s u : State} {ch : SceneChange} (h : Gone s u) : Gone s (u.showSaved ch) := h

/-- Settles O31: the save, the swap to the staged scene, the restore at its cue. -/
theorem sceneRecordsMoveToAndFrom : Obligations.SceneRecordsMoveToAndFrom := by
  refine ⟨fun s ch hc hch hregs => ?_, fun s c peer hch => execRestoreStart_heard hch c peer⟩
  intro quiet due gone
  refine ⟨fun hq hd hs hr => ⟨_, execSceneSave_due hch hq hd, ?_⟩, fun hq hd hs => ⟨_, execSceneSave_due hch hq hd, ?_⟩, execSceneSave_waits hch,
    execSceneSave_idle hch, fun n st hn hst hs hl => ⟨_, execSceneSwapIn_due hch hn hst hs hl, ?_⟩, execSceneSwapIn_idle hch,
    fun peer sv hsv hs hcue hl => ?_, fun peer hcue => execRestoreStart_early hch hcue peer⟩
  · obtain ⟨hbytes, hsaved, hgone, htiles⟩ := (savedOrDropped_scene hc hregs hs hr).shown
    exact ⟨hbytes, hsaved, hgone, htiles, congrArg SceneState.change (change_showSaved _ ch)⟩
  · obtain ⟨hgone, hkept⟩ := savedOrDropped_rollout hs
    refine ⟨gone_showSaved hgone, (mem_setScene _ _).trans hkept.mem, (tiles_setScene _ _).trans hkept.tiles, ?_⟩
    rw [change_showSaved, hkept.scene]
  · refine (scene_setScene _ _).trans ?_
    rw [scene_stagedIn]
  · have hdue : RestoreDue s ch sv := ⟨hch, hsv, hs, hcue, hl⟩
    have hrun := execRestoreStart_eq hdue peer
    refine ⟨fun hb => ⟨_, hrun.trans (if_pos (by rw [hb]; rfl)), beginRestore_spec s ch⟩, fun hb hv => ?_, fun hb hv hd => ?_⟩
    · exact hrun.trans ((if_neg (by rw [hb]; decide)).trans (if_pos (by rw [hv]; rfl)))
    · exact ⟨_, execRestoreStart_back hdue peer hb hv hd, restoreScene_spec hc ch sv⟩

end Sys2Proof.Claim
end

section
/-!
PROOFS. Sessions, windows, jobs and floors (O49): the ring of a session, what a status writes, a session's registers.
-/
namespace Sys2Proof.Machine
open Sys2Proof.Claim

/-! ### Numbers in memory -/

theorem ofLe_leBytes (v n : Nat) : ofLe (leBytes v n) = v % 256 ^ n := by
  induction n generalizing v with
  | zero => exact (Nat.mod_one v).symm
  | succ n ih =>
    rw [leBytes, ofLe, ih, BitVec.toNat_ofNat, (Nat.pow_succ' : 256 ^ (n + 1) = 256 * 256 ^ n)]
    exact Nat.mod_mul.symm

theorem bytes_setBytes (s : State) (a : Nat) (l : List Byte) : (s.setBytes a l).bytes a l.length = l := by
  refine List.ext_getElem (by simp [State.bytes]) fun i _ hi => ?_
  simp only [State.bytes, List.getElem_map, List.getElem_range]
  exact byte_setBytes_inside l s a i hi

theorem bytes_of_byte {s u : State} {a n : Nat} (h : ∀ i, i < n → u.byte (a + i) = s.byte (a + i)) : u.bytes a n = s.bytes a n :=
  List.map_congr_left fun i hi => h i (List.mem_range.mp hi)

theorem bytes_prefix (s : State) {a n k : Nat} (h : k ≤ n) : s.bytes a k = (s.bytes a n).take k := by
  unfold State.bytes
  rw [← List.map_take, List.take_range, Nat.min_eq_left h]

/-! ### The indices of a session (R408) -/

theorem ringIdx_setRingIdx_same (s : State) (n o v : Nat) : (s.setRingIdx n o v).ringIdx n o = v % 2 ^ 32 := by
  have hbytes : (s.setRingIdx n o v).bytes (ringBase n + o) 8 = leBytes (v % 2 ^ 32) 8 := by
    have h := bytes_setBytes s (ringBase n + o) (leBytes (v % 2 ^ 32) 8)
    rwa [leBytes_length] at h
  unfold State.ringIdx State.num
  rw [bytes_prefix _ (by decide : 4 ≤ 8), hbytes]
  refine (ofLe_leBytes (v % 2 ^ 32) 4).trans (Nat.mod_eq_of_lt ?_)
  exact (Nat.mod_lt v (by decide)).trans_le (by decide)

/-- Places of the ring of a session: its region is 2 MiB (R408). -/
def InRing (n a : Nat) : Prop := ringBase n ≤ a ∧ a < ringBase (n + 1)

theorem inRing_inj {n m a : Nat} (h : InRing n a) (g : InRing m a) : n = m := by
  unfold InRing ringBase at h g
  omega

theorem inRing_offset (n : Nat) {o : Nat} (h : o < 0x200000) : InRing n (ringBase n + o) := by
  unfold InRing ringBase
  omega

theorem ringIdx_of_byte {s u : State} {n o : Nat} (ho : o + 4 ≤ 0x200000) (h : ∀ a, InRing n a → u.byte a = s.byte a) : u.ringIdx n o = s.ringIdx n o :=
  congrArg ofLe (bytes_of_byte fun i hi => h _ (by rw [Nat.add_assoc]; exact inRing_offset n (by omega)))

theorem byte_setRingIdx (s : State) {n o v a : Nat} (h : a < ringBase n + o ∨ ringBase n + o + 8 ≤ a) : (s.setRingIdx n o v).byte a = s.byte a :=
  byte_setNum_outside s h

theorem ringIdx_setRingIdx_ne (s : State) {n o p v : Nat} (h : p + 4 ≤ o ∨ o + 8 ≤ p) : (s.setRingIdx n o v).ringIdx n p = s.ringIdx n p :=
  congrArg ofLe (bytes_of_byte fun i hi => byte_setRingIdx s (by omega))

/-! ### What a status writes (R412, R430) -/

/-- Only memory, the notify QPs and the statuses that wait change. -/
structure StatusOnly (s u : State) : Prop where
  rest : u = { s with mem := u.mem, host := { s.host with qps := u.host.qps, ports := u.host.ports, waits := u.host.waits } }

theorem statusOnly_refl (s : State) : StatusOnly s s := ⟨rfl⟩

theorem StatusOnly.trans {s u w : State} (h : StatusOnly s u) (g : StatusOnly u w) : StatusOnly s w :=
  ⟨g.rest.trans (congrArg (fun v : State =>
    { v with mem := w.mem, host := { v.host with qps := w.host.qps, ports := w.host.ports, waits := w.host.waits } }) h.rest)⟩

theorem StatusOnly.regs {s u : State} (h : StatusOnly s u) : u.regs = s.regs := (congrArg State.regs h.rest :)
theorem StatusOnly.cmds {s u : State} (h : StatusOnly s u) : u.host.cmds = s.host.cmds := (congrArg (fun v : State => v.host.cmds) h.rest :)
theorem StatusOnly.floors {s u : State} (h : StatusOnly s u) : u.host.floors = s.host.floors := (congrArg (fun v : State => v.host.floors) h.rest :)
theorem StatusOnly.stores {s u : State} (h : StatusOnly s u) : u.host.stores = s.host.stores := (congrArg (fun v : State => v.host.stores) h.rest :)
theorem StatusOnly.job {s u : State} (h : StatusOnly s u) : u.job = s.job := (congrArg State.job h.rest :)
theorem StatusOnly.reg {s u : State} (h : StatusOnly s u) (a : Nat) : u.reg a = s.reg a := congrArg (smapGet (regReset a) · a) h.regs

theorem statusOnly_setBytes (s : State) (a : Nat) (l : List Byte) : StatusOnly s (s.setBytes a l) := by
  obtain ⟨m, hm⟩ := setBytes_eq l s a
  rw [hm]
  exact ⟨rfl⟩

theorem statusOnly_setRingIdx (s : State) (n o v : Nat) : StatusOnly s (s.setRingIdx n o v) := statusOnly_setBytes s _ _

theorem statusOnly_qpRequest (s : State) (q : Qp) (r : QpSent) (m : Nat → RoceMsg) (n : Nat) : StatusOnly s (s.qpRequest q r m n) := ⟨rfl⟩

theorem statusOnly_notifyEntry (s : State) (n : Nat) (b : List Byte) : StatusOnly s (s.notifyEntry n b) := by
  unfold State.notifyEntry
  split
  · exact statusOnly_refl s
  · split
    · exact statusOnly_refl s
    · exact statusOnly_qpRequest s _ _ _ _

theorem mem_notifyEntry (s : State) (n : Nat) (b : List Byte) : (s.notifyEntry n b).mem = s.mem := by
  unfold State.notifyEntry
  split
  · rfl
  · split <;> rfl

theorem waits_notifyEntry (s : State) (n : Nat) (b : List Byte) : (s.notifyEntry n b).host.waits = s.host.waits := by
  unfold State.notifyEntry
  split
  · rfl
  · split <;> rfl

/-- The place of the next entry of a status ring. -/
def State.entryAt (s : State) (n : Nat) : Nat := ringBase n + 0x100000 + s.ringIdx n offStsPi % 1024 * 64

theorem writeStatus_eq (s : State) (n : Nat) (e : StEntry) : s.writeStatus n e
    = ((s.setBytes (s.entryAt n) (e.toBytes s.cue)).setRingIdx n offStsPi (s.ringIdx n offStsPi + 1)).notifyEntry n (e.toBytes s.cue) := rfl

theorem statusOnly_writeStatus (s : State) (n : Nat) (e : StEntry) : StatusOnly s (s.writeStatus n e) := by
  rw [writeStatus_eq]
  exact ((statusOnly_setBytes s _ _).trans (statusOnly_setRingIdx _ _ _ _)).trans (statusOnly_notifyEntry _ _ _)

theorem statusOnly_putStatus (s : State) (n cmd : Nat) (e : StEntry) : StatusOnly s (s.putStatus n cmd e) := by
  unfold State.putStatus
  split
  · exact statusOnly_refl s
  · split
    · exact ⟨rfl⟩
    · exact statusOnly_writeStatus s n e

theorem toBytes_length (e : StEntry) (cue : Nat) : (e.toBytes cue).length = 64 := by
  unfold StEntry.toBytes
  simp only [List.length_append, leBytes_length, List.length_take, List.length_replicate]
  omega

/-- The entry and the index written, and no byte outside the ring. -/
theorem said_writeStatus (s : State) (n : Nat) (e : StEntry) : Said n e s (s.writeStatus n e) ∧ ∀ a, ¬ InRing n a → (s.writeStatus n e).byte a = s.byte a := by
  have hplace : s.entryAt n + 64 ≤ ringBase n + offStsPi := by
    unfold State.entryAt offStsPi
    omega
  have hbyte : ∀ a, (s.writeStatus n e).byte a = ((s.setBytes (s.entryAt n) (e.toBytes s.cue)).setRingIdx n offStsPi (s.ringIdx n offStsPi + 1)).byte a :=
    fun a => by rw [writeStatus_eq, byte_of_mem (mem_notifyEntry _ _ _)]
  refine ⟨⟨?_, ?_⟩, fun a ha => ?_⟩
  · refine (bytes_of_byte (s := s.setBytes (s.entryAt n) (e.toBytes s.cue)) (n := 64) fun i hi => (hbyte _).trans (byte_setRingIdx _ (.inl ?_))).trans ?_
    · unfold State.entryAt at hplace
      omega
    · have h := bytes_setBytes s (s.entryAt n) (e.toBytes s.cue)
      rwa [toBytes_length] at h
  · refine (congrArg ofLe (bytes_of_byte fun i _ => hbyte _)).trans (ringIdx_setRingIdx_same _ n offStsPi _)
  · have hring : ringBase (n + 1) = ringBase n + 0x200000 := by
      unfold ringBase
      omega
    have hlow : ringBase n ≤ s.entryAt n := by
      unfold State.entryAt
      omega
    have hout : a < ringBase n ∨ ringBase n + 0x200000 ≤ a := by
      unfold InRing at ha
      omega
    have hoff : offStsPi = 0x1FF180 := rfl
    rw [hbyte, byte_setRingIdx _ (by omega), byte_setBytes_outside _ _ (by rw [toBytes_length]; omega)]

theorem putStatus_room {s : State} {n : Nat} (h : Room s n) (cmd : Nat) (e : StEntry) : s.putStatus n cmd e = s.writeStatus n e := by
  obtain ⟨⟨_, hsess⟩, hcold, hspace, hfirst⟩ := h
  have hwait : s.host.waits.any (fun w => w.session == n) = false := List.any_eq_false.mpr fun w hw => by simpa using hfirst w hw
  unfold State.putStatus
  rw [if_neg (by rw [hsess, State.warmAccepted, hcold]; decide), if_neg (by rw [hwait]; simpa using hspace)]

theorem waits_writeStatus (s : State) (n : Nat) (e : StEntry) : (s.writeStatus n e).host.waits = s.host.waits := by
  rw [writeStatus_eq, waits_notifyEntry]
  have h := (statusOnly_setBytes s (s.entryAt n) (e.toBytes s.cue))
  obtain ⟨m, hm⟩ := setBytes_eq (e.toBytes s.cue) s (s.entryAt n)
  obtain ⟨m', hm'⟩ := setBytes_eq (leBytes ((s.ringIdx n offStsPi + 1) % 2 ^ 32) 8) (s.setBytes (s.entryAt n) (e.toBytes s.cue)) (ringBase n + offStsPi)
  unfold State.setRingIdx State.setNum
  rw [hm', hm]

/-! ### A command that is done (R431) -/

/-- What a status of a session needs of the part, and the commands, stay. -/
structure RingKept (n : Nat) (s u : State) : Prop where
  host : u.hostSess n = s.hostSess n
  cold : u.host.warmCmd = s.host.warmCmd
  pi : u.ringIdx n offStsPi = s.ringIdx n offStsPi
  ci : u.ringIdx n offStsCi = s.ringIdx n offStsCi
  waits : ∀ w ∈ u.host.waits, w ∈ s.host.waits
  cmds : u.host.cmds = s.host.cmds
  cue : u.cue = s.cue

theorem ringKept_refl (n : Nat) (s : State) : RingKept n s s := ⟨rfl, rfl, rfl, rfl, fun _ h => h, rfl, rfl⟩

theorem RingKept.room {n : Nat} {s u : State} (h : RingKept n s u) (hr : Room s n) : Room u n := by
  obtain ⟨⟨hn, hsess⟩, hcold, hspace, hfirst⟩ := hr
  refine ⟨⟨hn, h.host.trans hsess⟩, h.cold.trans hcold, ?_, fun w hw => hfirst w (h.waits w hw)⟩
  unfold State.stsFree at hspace ⊢
  rwa [h.pi, h.ci]

theorem host_setFld (s : State) (f : Fld) (v : Nat) : (s.setFld f v).host = s.host := rfl

/-- A command gone, before its DONE is said. -/
theorem cmdGone_spec (s : State) (c : CmdRec) : (s.cmdGone c).host = { s.host with cmds := s.host.cmds.filter (fun d => d.id != c.id) }
    ∧ (s.cmdGone c).mem = s.mem ∧ ∀ f : Fld, f.hi < 8 ∨ 15 < f.lo → (s.cmdGone c).fld f = s.fld f := by
  unfold State.cmdGone State.showJobs
  refine ⟨?_, ?_, fun f hf => ?_⟩
  · rw [host_setFld, host_setFld]
  · rw [mem_setFld, mem_setFld]
  rw [fld_setFld_disjoint (f := R.BK_STATUS_QUEUED) _ _ hf, fld_setFld_disjoint (f := R.BT_JOB_JQUEUE) _ _ (hf.imp_right fun h => (by decide : 12 < 15).trans h)]
  rfl

theorem cmdDone_eq (s : State) (c : CmdRec) (code : Nat) (detail : List Byte) : s.cmdDone c code detail
    = (s.cmdGone c).putStatus c.session c.id ⟨c.opcode, 3, code, c.seq, c.cookie, c.done % 2 ^ 32, c.total % 2 ^ 32, detail⟩ := rfl

theorem statusOnly_cmdDone (s : State) (c : CmdRec) (code : Nat) (detail : List Byte) : StatusOnly (s.cmdGone c) (s.cmdDone c code detail) :=
  statusOnly_putStatus _ _ _ _

/-- The fields beside those that count waiting commands stay. -/
theorem fld_cmdDone (s : State) (c : CmdRec) (code : Nat) (detail : List Byte) {f : Fld} (h : f.hi < 8 ∨ 15 < f.lo) :
    (s.cmdDone c code detail).fld f = s.fld f :=
  (fld_congr ((statusOnly_cmdDone s c code detail).reg f.addr)).trans ((cmdGone_spec s c).2.2 f h)

theorem bit_cmdDone (s : State) (c : CmdRec) (code : Nat) (detail : List Byte) {f : Fld} (h : f.hi < 8 ∨ 15 < f.lo) :
    (s.cmdDone c code detail).bit f = s.bit f := congrArg (· == 1) (fld_cmdDone s c code detail h)

theorem reg_cmdDone (s : State) (c : CmdRec) (code : Nat) (detail : List Byte) {a : Nat} (h1 : a ≠ R.BT_JOB) (h2 : a ≠ R.BK_STATUS) :
    (s.cmdDone c code detail).reg a = s.reg a := (hostOnly_cmdDone s c code detail).regs a h1 h2

theorem cmds_cmdDone (s : State) (c : CmdRec) (code : Nat) (detail : List Byte) :
    (s.cmdDone c code detail).host.cmds = s.host.cmds.filter (fun d => d.id != c.id) :=
  (statusOnly_cmdDone s c code detail).cmds.trans (congrArg HostState.cmds (cmdGone_spec s c).1)

theorem floors_cmdDone (s : State) (c : CmdRec) (code : Nat) (detail : List Byte) : (s.cmdDone c code detail).host.floors = s.host.floors :=
  (statusOnly_cmdDone s c code detail).floors.trans ((congrArg HostState.floors (cmdGone_spec s c).1 :))

theorem ringKept_cmdGone (n : Nat) (s : State) (c : CmdRec) : s.ringIdx n offStsPi = (s.cmdGone c).ringIdx n offStsPi ∧ (Room s n → Room (s.cmdGone c) n)
    ∧ (s.cmdGone c).cue = s.cue := by
  obtain ⟨hhost, hmem, hfld⟩ := cmdGone_spec s c
  have hidx : ∀ o, (s.cmdGone c).ringIdx n o = s.ringIdx n o := fun o => congrArg ofLe (bytes_of_byte fun _ _ => byte_of_mem hmem _)
  have hsess : (s.cmdGone c).hostSess n = s.hostSess n := by
    unfold State.hostSess State.bit
    rw [hfld _ (.inr (by decide : 15 < 63)), hfld _ (.inr (by decide : 15 < 62))]
  refine ⟨(hidx _).symm, fun ⟨⟨hn, hs⟩, hcold, hspace, hfirst⟩ => ⟨⟨hn, hsess.trans hs⟩, ?_, ?_, ?_⟩, ?_⟩
  · rw [hhost]
    exact hcold
  · unfold State.stsFree at hspace ⊢
    rwa [hidx, hidx]
  · rw [hhost]
    exact hfirst
  · exact congrArg BitVec.toNat ((hostOnly_cmdGone s c).regs R.CU_COUNT (by decide) (by decide))

/-- DONE of a command whose session has room, after operations that leave the ring alone. -/
theorem RingKept.done {s u : State} {c : CmdRec} (h : RingKept c.session s u) (hr : Room s c.session) (code : Nat) (detail : List Byte) :
    Done c code detail s (u.cmdDone c code detail) := by
  obtain ⟨hpi, hroom, hcue⟩ := ringKept_cmdGone c.session u c
  refine ⟨(cmds_cmdDone u c code detail).trans (by rw [h.cmds]), ?_⟩
  rw [cmdDone_eq, putStatus_room (hroom (h.room hr))]
  have hsaid := (said_writeStatus (u.cmdGone c) c.session ⟨c.opcode, 3, code, c.seq, c.cookie, c.done % 2 ^ 32, c.total % 2 ^ 32, detail⟩).1
  unfold Said at hsaid ⊢
  rwa [← hpi, h.pi, hcue, h.cue] at hsaid

/-- Only the ring of its session is written when a command is done. -/
theorem byte_cmdDone {s : State} {c : CmdRec} (hr : Room s c.session) (code : Nat) (detail : List Byte) {a : Nat} (ha : ¬ InRing c.session a) :
    (s.cmdDone c code detail).byte a = s.byte a := by
  rw [cmdDone_eq, putStatus_room ((ringKept_cmdGone c.session s c).2.1 hr)]
  exact ((said_writeStatus _ c.session _).2 a ha).trans (byte_of_mem (cmdGone_spec s c).2.1 a)

theorem waits_cmdDone {s : State} {c : CmdRec} (hr : Room s c.session) (code : Nat) (detail : List Byte) :
    (s.cmdDone c code detail).host.waits = s.host.waits := by
  rw [cmdDone_eq, putStatus_room ((ringKept_cmdGone c.session s c).2.1 hr), waits_writeStatus]
  exact (congrArg HostState.waits (cmdGone_spec s c).1 :)

/-! ### The registers and indices of a session (R404, R405, R408) -/

/-- The registers of session `n`. -/
def SessionReg (n a : Nat) : Prop :=
  a = R.FH_SESS_CFG n ∨ a = R.FH_SESS_PEER_HI n ∨ a = R.FH_SESS_PEER_LO n ∨ a = R.BT_CMDSEQ n ∨ ∃ w, w < 16 ∧ (a = R.FH_WIN0 n w ∨ a = R.FH_WIN1 n w)

/-- Only registers, the ring and the waiting statuses of session `n` change, and its store. -/
structure SessionOnly (n : Nat) (s u : State) : Prop where
  regs : ∀ a, ¬ SessionReg n a → u.reg a = s.reg a
  bytes : ∀ a, ¬ InRing n a → u.byte a = s.byte a
  waits : ∀ w ∈ u.host.waits, w ∈ s.host.waits
  qps : u.host.qps = s.host.qps
  cmds : u.host.cmds = s.host.cmds
  cold : u.host.warmCmd = s.host.warmCmd

theorem sessionOnly_refl (n : Nat) (s : State) : SessionOnly n s s := ⟨fun _ _ => rfl, fun _ _ => rfl, fun _ h => h, rfl, rfl, rfl⟩

theorem SessionOnly.trans {n : Nat} {s u w : State} (h : SessionOnly n s u) (g : SessionOnly n u w) : SessionOnly n s w :=
  ⟨fun a ha => (g.regs a ha).trans (h.regs a ha), fun a ha => (g.bytes a ha).trans (h.bytes a ha), fun x hx => h.waits x (g.waits x hx),
    g.qps.trans h.qps, g.cmds.trans h.cmds, g.cold.trans h.cold⟩

theorem sessionOnly_setReg {n a : Nat} (s : State) (v : Word) (h : SessionReg n a) : SessionOnly n s (s.setReg a v) :=
  ⟨fun _ hb => reg_setReg_ne s v fun e => hb (e ▸ h), fun _ _ => rfl, fun _ h => h, rfl, rfl, rfl⟩

theorem sessionOnly_setFld {n : Nat} {f : Fld} (s : State) (v : Nat) (h : SessionReg n f.addr) : SessionOnly n s (s.setFld f v) := sessionOnly_setReg s _ h

theorem sessionOnly_usedFree (n k : Nat) (s : State) : SessionOnly n s (s.usedFree k) := ⟨fun _ _ => rfl, fun _ _ => rfl, fun _ h => h, rfl, rfl, rfl⟩

theorem sessionOnly_setRingIdx (n : Nat) {o : Nat} (s : State) (v : Nat) (h : o + 8 ≤ 0x200000) : SessionOnly n s (s.setRingIdx n o v) := by
  have hb : ∀ a, ¬ InRing n a → (s.setRingIdx n o v).byte a = s.byte a := fun a ha => byte_setRingIdx s (by
    unfold InRing ringBase at ha
    unfold ringBase
    omega)
  have hs := statusOnly_setRingIdx s n o v
  refine ⟨fun a _ => hs.reg a, hb, fun w hw => ?_, ?_, hs.cmds, (congrArg (fun v : State => v.host.warmCmd) hs.rest :)⟩
  · obtain ⟨m, hm⟩ := setBytes_eq (leBytes (v % 2 ^ 32) 8) s (ringBase n + o)
    unfold State.setRingIdx State.setNum at hw
    rwa [hm] at hw
  · obtain ⟨m, hm⟩ := setBytes_eq (leBytes (v % 2 ^ 32) 8) s (ringBase n + o)
    unfold State.setRingIdx State.setNum
    rw [hm]

theorem sessionReg_cfg (n : Nat) : SessionReg n (R.FH_SESS_CFG n) := .inl rfl
theorem sessionReg_seq (n : Nat) : SessionReg n (R.BT_CMDSEQ n) := .inr (.inr (.inr (.inl rfl)))
theorem sessionReg_win0 {n w : Nat} (h : w < 16) : SessionReg n (R.FH_WIN0 n w) := .inr (.inr (.inr (.inr ⟨w, h, .inl rfl⟩)))
theorem sessionReg_win1 {n w : Nat} (h : w < 16) : SessionReg n (R.FH_WIN1 n w) := .inr (.inr (.inr (.inr ⟨w, h, .inr rfl⟩)))

theorem sessionOnly_dropWindow {n w : Nat} (s : State) (h : w < 16) : SessionOnly n s (s.dropWindow n w) :=
  (sessionOnly_setReg s 0 (sessionReg_win0 h)).trans (sessionOnly_setReg _ 0 (sessionReg_win1 h))

theorem sessionOnly_setWindow {n w : Nat} (s : State) (base pages access key : Nat) (h : w < 16) :
    SessionOnly n s (s.setWindow n w base pages access key) := by
  unfold State.setWindow
  have h1 : SessionOnly n s (s.setFld (R.FH_WIN1_RKEY n w) key) := sessionOnly_setFld s key (sessionReg_win1 h)
  have h2 : SessionOnly n _ ((s.setFld (R.FH_WIN1_RKEY n w) key).setFld (R.FH_WIN1_PAGES n w) pages) := sessionOnly_setFld _ pages (sessionReg_win1 h)
  refine (h1.trans h2).trans ?_
  generalize (s.setFld (R.FH_WIN1_RKEY n w) key).setFld (R.FH_WIN1_PAGES n w) pages = u
  have h3 : SessionOnly n u (u.setFld (R.FH_WIN0_BASE n w) base) := sessionOnly_setFld u base (sessionReg_win0 h)
  have h4 : SessionOnly n _ ((u.setFld (R.FH_WIN0_BASE n w) base).setFld (R.FH_WIN0_ACCESS n w) access) := sessionOnly_setFld _ access (sessionReg_win0 h)
  exact (h3.trans h4).trans (sessionOnly_setFld (f := R.FH_WIN0_VALID n w) _ 1 (sessionReg_win0 h))

/-- The registers of one session are not those of another's configuration, nor the cue count. -/
theorem not_sessionReg_cfg {n m : Nat} (hn : n < 8) (hm : m < 8) (h : m ≠ n) : ¬ SessionReg n (R.FH_SESS_CFG m) := by
  rintro (h | h | h | h | ⟨w, hw, h | h⟩) <;> simp only [R.FH_SESS_CFG, R.FH_SESS_PEER_HI, R.FH_SESS_PEER_LO, R.BT_CMDSEQ, R.FH_WIN0, R.FH_WIN1] at h <;> omega

theorem not_sessionReg_count {n : Nat} (hn : n < 8) : ¬ SessionReg n R.CU_COUNT := by
  rintro (h | h | h | h | ⟨w, hw, h | h⟩) <;>
    simp only [R.CU_COUNT, R.FH_SESS_CFG, R.FH_SESS_PEER_HI, R.FH_SESS_PEER_LO, R.BT_CMDSEQ, R.FH_WIN0, R.FH_WIN1] at h <;> omega

/-- What is done to one session leaves another's ring alone. -/
theorem SessionOnly.ringKept {n m : Nat} {s u : State} (h : SessionOnly n s u) (hn : n < 8) (hm : m < 8) (hne : m ≠ n) : RingKept m s u := by
  have hcfg := h.regs _ (not_sessionReg_cfg hn hm hne)
  have hring : ∀ a, InRing m a → u.byte a = s.byte a := fun a ha => h.bytes a fun g => hne (inRing_inj ha g)
  refine ⟨?_, h.cold, ringIdx_of_byte (by decide) hring, ringIdx_of_byte (by decide) hring, h.waits, h.cmds,
    congrArg BitVec.toNat (h.regs _ (not_sessionReg_count hn))⟩
  unfold State.hostSess
  rw [bit_congr (f := R.FH_SESS_CFG_VALID m) hcfg, bit_congr (f := R.FH_SESS_CFG_KIND m) hcfg]

/-! ### A window (R405, R425) -/

theorem setWindow_eq (s : State) (n w base pages access key : Nat) : s.setWindow n w base pages access key
    = ((((s.setFld (R.FH_WIN1_RKEY n w) key).setFld (R.FH_WIN1_PAGES n w) pages).setFld (R.FH_WIN0_BASE n w) base).setFld
        (R.FH_WIN0_ACCESS n w) access).setFld (R.FH_WIN0_VALID n w) 1 := rfl

theorem win_ne (n w : Nat) : R.FH_WIN1 n w ≠ R.FH_WIN0 n w := by
  unfold R.FH_WIN1 R.FH_WIN0
  omega

/-- A window holds what was put in it. -/
structure Window (u : State) (n w base pages access key : Nat) : Prop where
  valid : u.bit (R.FH_WIN0_VALID n w) = true
  base : u.fld (R.FH_WIN0_BASE n w) = base
  pages : u.fld (R.FH_WIN1_PAGES n w) = pages
  access : u.fld (R.FH_WIN0_ACCESS n w) = access
  key : u.fld (R.FH_WIN1_RKEY n w) = key

theorem window_setWindow (s : State) (n w : Nat) {base pages access key : Nat} (hb : base < 2 ^ 44) (hp : pages < 2 ^ 32) (ha : access < 4)
    (hk : key < 2 ^ 32) : Window (s.setWindow n w base pages access key) n w base pages access key := by
  rw [setWindow_eq]
  generalize hu : (s.setFld (R.FH_WIN1_RKEY n w) key).setFld (R.FH_WIN1_PAGES n w) pages = u
  have hpages : u.fld (R.FH_WIN1_PAGES n w) = pages := hu ▸ (fld_setFld_same _ (R.FH_WIN1_PAGES n w) pages (by decide : 31 < 64)).trans (Nat.mod_eq_of_lt hp)
  have hkey : u.fld (R.FH_WIN1_RKEY n w) = key := by
    rw [← hu, fld_setFld_disjoint (f := R.FH_WIN1_PAGES n w) (g := R.FH_WIN1_RKEY n w) _ _ (.inr (by decide : 31 < 32))]
    exact (fld_setFld_same _ (R.FH_WIN1_RKEY n w) key (by decide : 63 < 64)).trans (Nat.mod_eq_of_lt hk)
  clear hu
  have hwin1 : ∀ f : Fld, f.addr = R.FH_WIN1 n w → (((u.setFld (R.FH_WIN0_BASE n w) base).setFld (R.FH_WIN0_ACCESS n w) access).setFld
      (R.FH_WIN0_VALID n w) 1).fld f = u.fld f := fun f hf => by
    have hne : f.addr ≠ R.FH_WIN0 n w := hf ▸ win_ne n w
    rw [fld_setFld_ne _ (f := R.FH_WIN0_VALID n w) hne, fld_setFld_ne _ (f := R.FH_WIN0_ACCESS n w) hne, fld_setFld_ne _ (f := R.FH_WIN0_BASE n w) hne]
  refine ⟨bit_setFld_one _ (R.FH_WIN0_VALID n w) (by decide : 63 < 64) (by decide : 63 ≤ 63), ?_, (hwin1 _ rfl).trans hpages, ?_, (hwin1 _ rfl).trans hkey⟩
  · rw [fld_setFld_disjoint (f := R.FH_WIN0_VALID n w) (g := R.FH_WIN0_BASE n w) _ _ (.inl (by decide : 43 < 63)),
      fld_setFld_disjoint (f := R.FH_WIN0_ACCESS n w) (g := R.FH_WIN0_BASE n w) _ _ (.inl (by decide : 43 < 61))]
    exact (fld_setFld_same u (R.FH_WIN0_BASE n w) base (by decide : 43 < 64)).trans (Nat.mod_eq_of_lt hb)
  · rw [fld_setFld_disjoint (f := R.FH_WIN0_VALID n w) (g := R.FH_WIN0_ACCESS n w) _ _ (.inl (by decide : 62 < 63))]
    exact (fld_setFld_same _ (R.FH_WIN0_ACCESS n w) access (by decide : 62 < 64)).trans (Nat.mod_eq_of_lt ha)

theorem Window.of_regs {u v : State} {n w base pages access key : Nat} (h : Window u n w base pages access key)
    (h0 : v.reg (R.FH_WIN0 n w) = u.reg (R.FH_WIN0 n w)) (h1 : v.reg (R.FH_WIN1 n w) = u.reg (R.FH_WIN1 n w)) : Window v n w base pages access key :=
  ⟨(bit_congr (f := R.FH_WIN0_VALID n w) h0).trans h.valid, (fld_congr (f := R.FH_WIN0_BASE n w) h0).trans h.base,
    (fld_congr (f := R.FH_WIN1_PAGES n w) h1).trans h.pages, (fld_congr (f := R.FH_WIN0_ACCESS n w) h0).trans h.access,
    (fld_congr (f := R.FH_WIN1_RKEY n w) h1).trans h.key⟩

/-- A fresh key names its window in its low bits. -/
theorem freshKey_spec (s : State) {n w : Nat} (hn : n < 8) (hw : w < 16) :
    (s.freshKey n w).1 < 2 ^ 32 ∧ (s.freshKey n w).1 % 128 = n * 16 + w ∧ (s.freshKey n w).2 = s.usedFree 1 := by
  have h : s.freeAt 0 % 2 ^ 25 < 2 ^ 25 := Nat.mod_lt _ (by decide)
  refine ⟨?_, ?_, rfl⟩
  · change s.freeAt 0 % 2 ^ 25 * 128 + n * 16 + w < 2 ^ 32
    omega
  · change (s.freeAt 0 % 2 ^ 25 * 128 + n * 16 + w) % 128 = n * 16 + w
    omega

/-- A window dropped is empty; the others stay. -/
theorem reg_dropWindow_same (s : State) (n w : Nat) : (s.dropWindow n w).reg (R.FH_WIN0 n w) = 0 ∧ (s.dropWindow n w).reg (R.FH_WIN1 n w) = 0 :=
  ⟨(reg_setReg_ne _ _ (win_ne n w).symm).trans (reg_setReg_same s _ _), reg_setReg_same _ _ _⟩

theorem reg_dropWindow_ne (s : State) {n w a : Nat} (h0 : a ≠ R.FH_WIN0 n w) (h1 : a ≠ R.FH_WIN1 n w) : (s.dropWindow n w).reg a = s.reg a :=
  (reg_setReg_ne _ _ h1).trans (reg_setReg_ne s _ h0)

/-- Every window of a session dropped. -/
theorem reg_dropWindows (n : Nat) (l : List Nat) : ∀ (s : State) (w : Nat), w ∈ l ∨ (s.reg (R.FH_WIN0 n w) = 0 ∧ s.reg (R.FH_WIN1 n w) = 0) →
    (l.foldl (fun t w => t.dropWindow n w) s).reg (R.FH_WIN0 n w) = 0 ∧ (l.foldl (fun t w => t.dropWindow n w) s).reg (R.FH_WIN1 n w) = 0 := by
  induction l with
  | nil => exact fun s w h => h.resolve_left List.not_mem_nil
  | cons i l ih =>
    intro s w h
    rw [List.foldl_cons]
    refine ih _ w ?_
    by_cases hwi : w = i
    · subst hwi
      exact .inr (reg_dropWindow_same s n w)
    · refine h.imp (fun h => (List.mem_cons.mp h).resolve_left hwi) fun ⟨h0, h1⟩ => ⟨?_, ?_⟩
      · exact (reg_dropWindow_ne s (by unfold R.FH_WIN0; omega) (by unfold R.FH_WIN0 R.FH_WIN1; omega)).trans h0
      · exact (reg_dropWindow_ne s (by unfold R.FH_WIN0 R.FH_WIN1; omega) (by unfold R.FH_WIN1; omega)).trans h1

theorem sessionOnly_dropWindows (n : Nat) (s : State) : SessionOnly n s ((List.range 16).foldl (fun t w => t.dropWindow n w) s) :=
  List.foldlRecOn (List.range 16) _ (motive := fun u => SessionOnly n s u) (sessionOnly_refl n s)
    fun u hu _ hw => hu.trans (sessionOnly_dropWindow u (List.mem_range.mp hw))

/-! ### A session begins (R404, R405, R408, R429) -/

/-- The four indices of a session zero. -/
def State.indicesZero (s : State) (n : Nat) : State := [offCmdPi, offStsCi, offCmdCi, offStsPi].foldl (fun t o => t.setRingIdx n o 0) s

/-- No SEQ is expected of a session. -/
def State.seqForgotten (s : State) (n : Nat) : State := (s.setFld (R.BT_CMDSEQ_SET n) 0).setFld (R.BT_CMDSEQ_EXPECT n) 0

/-- The window of a session over its ring. -/
def State.ringWindow (s : State) (n : Nat) : State := (s.freshKey n 0).2.setWindow n 0 (ringBase n) 512 3 (s.freshKey n 0).1

theorem sessionBegins_eq (s : State) (n : Nat) : s.sessionBegins n
    = if ((s.indicesZero n).seqForgotten n).bit (R.FH_WIN0_VALID n 0) then (s.indicesZero n).seqForgotten n
      else ((s.indicesZero n).seqForgotten n).ringWindow n := rfl

/-- All indices of a session are zero. -/
def IndicesZero (n : Nat) (u : State) : Prop :=
  u.ringIdx n offCmdPi = 0 ∧ u.ringIdx n offCmdCi = 0 ∧ u.ringIdx n offStsPi = 0 ∧ u.ringIdx n offStsCi = 0

theorem indicesZero_indicesZero (s : State) (n : Nat) : IndicesZero n (s.indicesZero n) := by
  unfold State.indicesZero IndicesZero
  simp only [List.foldl_cons, List.foldl_nil]
  refine ⟨?_, ?_, (ringIdx_setRingIdx_same _ n offStsPi 0).trans (Nat.zero_mod _), ?_⟩
  · rw [ringIdx_setRingIdx_ne _ (.inl (by decide : offCmdPi + 4 ≤ offStsPi)), ringIdx_setRingIdx_ne _ (.inl (by decide : offCmdPi + 4 ≤ offCmdCi)),
      ringIdx_setRingIdx_ne _ (.inl (by decide : offCmdPi + 4 ≤ offStsCi)), ringIdx_setRingIdx_same, Nat.zero_mod]
  · rw [ringIdx_setRingIdx_ne _ (.inl (by decide : offCmdCi + 4 ≤ offStsPi)), ringIdx_setRingIdx_same, Nat.zero_mod]
  · rw [ringIdx_setRingIdx_ne _ (.inl (by decide : offStsCi + 4 ≤ offStsPi)), ringIdx_setRingIdx_ne _ (.inl (by decide : offStsCi + 4 ≤ offCmdCi)),
      ringIdx_setRingIdx_same, Nat.zero_mod]

theorem IndicesZero.of_byte {n : Nat} {s u : State} (h : IndicesZero n s) (hb : ∀ a, InRing n a → u.byte a = s.byte a) : IndicesZero n u := by
  obtain ⟨h1, h2, h3, h4⟩ := h
  exact ⟨(ringIdx_of_byte (by decide) hb).trans h1, (ringIdx_of_byte (by decide) hb).trans h2, (ringIdx_of_byte (by decide) hb).trans h3,
    (ringIdx_of_byte (by decide) hb).trans h4⟩

theorem sessionOnly_indicesZero (n : Nat) (s : State) : SessionOnly n s (s.indicesZero n) :=
  List.foldlRecOn [offCmdPi, offStsCi, offCmdCi, offStsPi] _ (motive := fun u => SessionOnly n s u) (sessionOnly_refl n s) fun u hu o ho => by
    refine hu.trans (sessionOnly_setRingIdx n u 0 ?_)
    have hoff : ∀ o ∈ [offCmdPi, offStsCi, offCmdCi, offStsPi], o + 8 ≤ 0x200000 := by decide
    exact hoff o ho

theorem reg_indicesZero (s : State) (n a : Nat) : (s.indicesZero n).reg a = s.reg a :=
  foldl_keeps (val := fun u : State => u.reg a) (fun u o => (statusOnly_setRingIdx u n o 0).reg a) _ s

theorem sessionOnly_seqForgotten (n : Nat) (s : State) : SessionOnly n s (s.seqForgotten n) :=
  (sessionOnly_setFld (f := R.BT_CMDSEQ_SET n) s 0 (sessionReg_seq n)).trans (sessionOnly_setFld (f := R.BT_CMDSEQ_EXPECT n) _ 0 (sessionReg_seq n))

theorem reg_seqForgotten (s : State) {n a : Nat} (h : a ≠ R.BT_CMDSEQ n) : (s.seqForgotten n).reg a = s.reg a :=
  (reg_setFld_ne (f := R.BT_CMDSEQ_EXPECT n) _ h).trans (reg_setFld_ne (f := R.BT_CMDSEQ_SET n) s h)

theorem set_seqForgotten (s : State) (n : Nat) : (s.seqForgotten n).bit (R.BT_CMDSEQ_SET n) = false := by
  unfold State.seqForgotten
  rw [bit_setFld_disjoint (f := R.BT_CMDSEQ_EXPECT n) (g := R.BT_CMDSEQ_SET n) _ _ (.inl (by decide : 31 < 32))]
  exact bit_setFld_zero s (R.BT_CMDSEQ_SET n) (by decide : 31 < 64)

theorem sessionOnly_ringWindow (n : Nat) (s : State) : SessionOnly n s (s.ringWindow n) :=
  (sessionOnly_usedFree n 1 s).trans (sessionOnly_setWindow _ _ _ _ _ (by decide))

theorem reg_setWindow_ne (s : State) {n w base pages access key a : Nat} (h0 : a ≠ R.FH_WIN0 n w) (h1 : a ≠ R.FH_WIN1 n w) :
    (s.setWindow n w base pages access key).reg a = s.reg a := by
  rw [setWindow_eq, reg_setFld_ne (f := R.FH_WIN0_VALID n w) _ h0, reg_setFld_ne (f := R.FH_WIN0_ACCESS n w) _ h0,
    reg_setFld_ne (f := R.FH_WIN0_BASE n w) _ h0, reg_setFld_ne (f := R.FH_WIN1_PAGES n w) _ h1, reg_setFld_ne (f := R.FH_WIN1_RKEY n w) _ h1]

theorem byte_setWindow (s : State) (n w base pages access key a : Nat) : (s.setWindow n w base pages access key).byte a = s.byte a := by
  rw [setWindow_eq, byte_setFld, byte_setFld, byte_setFld, byte_setFld, byte_setFld]

theorem byte_seqForgotten (s : State) (n a : Nat) : (s.seqForgotten n).byte a = s.byte a := (byte_setFld _ _ _ _).trans (byte_setFld s _ _ a)

theorem byte_ringWindow (s : State) (n a : Nat) : (s.ringWindow n).byte a = s.byte a := byte_setWindow (s.usedFree 1) _ _ _ _ _ _ a

theorem reg_ringWindow (s : State) {n a : Nat} (h0 : a ≠ R.FH_WIN0 n 0) (h1 : a ≠ R.FH_WIN1 n 0) : (s.ringWindow n).reg a = s.reg a :=
  reg_setWindow_ne (s.usedFree 1) h0 h1

/-- The window of a session over its ring region. -/
def RingWindow (n : Nat) (u : State) : Prop := ∃ key, key % 128 = n * 16 ∧ Window u n 0 (ringBase n) 512 3 key

theorem ringWindow_ringWindow (s : State) {n : Nat} (hn : n < 8) : RingWindow n (s.ringWindow n) := by
  obtain ⟨hlt, hlow, _⟩ := freshKey_spec s hn (by decide : 0 < 16)
  have hbase : ringBase n < 2 ^ 44 := by
    unfold ringBase
    omega
  exact ⟨_, hlow, window_setWindow _ n 0 hbase (by decide) (by decide) hlt⟩

/-- What a session begins with. -/
structure Begun (n : Nat) (s u : State) : Prop where
  only : SessionOnly n s u
  cfg : u.reg (R.FH_SESS_CFG n) = s.reg (R.FH_SESS_CFG n)
  zero : IndicesZero n u
  unset : u.bit (R.BT_CMDSEQ_SET n) = false
  window : s.bit (R.FH_WIN0_VALID n 0) = false → RingWindow n u

theorem begun_sessionBegins (s : State) {n : Nat} (hn : n < 8) : Begun n s (s.sessionBegins n) := by
  have hzero := indicesZero_indicesZero s n
  have hreg : ∀ a, a ≠ R.BT_CMDSEQ n → ((s.indicesZero n).seqForgotten n).reg a = s.reg a := fun a ha =>
    (reg_seqForgotten _ ha).trans (reg_indicesZero s n a)
  have hset := set_seqForgotten (s.indicesZero n) n
  have honly := (sessionOnly_indicesZero n s).trans (sessionOnly_seqForgotten n _)
  have hzero' : IndicesZero n ((s.indicesZero n).seqForgotten n) := hzero.of_byte fun a _ => byte_seqForgotten _ n a
  have hcfg : R.FH_SESS_CFG n ≠ R.BT_CMDSEQ n := by
    unfold R.FH_SESS_CFG R.BT_CMDSEQ
    omega
  have hwin : R.FH_WIN0 n 0 ≠ R.BT_CMDSEQ n := by
    unfold R.FH_WIN0 R.BT_CMDSEQ
    omega
  have hvalid : ((s.indicesZero n).seqForgotten n).bit (R.FH_WIN0_VALID n 0) = s.bit (R.FH_WIN0_VALID n 0) :=
    bit_congr (f := R.FH_WIN0_VALID n 0) (hreg _ hwin)
  rw [sessionBegins_eq, hvalid]
  generalize (s.indicesZero n).seqForgotten n = v at hreg hset honly hzero'
  split
  · next hv => exact ⟨honly, hreg _ hcfg, hzero', hset, fun h => absurd (hv.symm.trans h) (by decide)⟩
  · have hne : ∀ a, a ≠ R.FH_WIN0 n 0 → a ≠ R.FH_WIN1 n 0 → (v.ringWindow n).reg a = v.reg a := fun a h0 h1 => reg_ringWindow v h0 h1
    refine ⟨honly.trans (sessionOnly_ringWindow n v), (hne _ ?_ ?_).trans (hreg _ hcfg), hzero'.of_byte fun a _ => ?_, ?_, fun _ => ringWindow_ringWindow v hn⟩
    · unfold R.FH_SESS_CFG R.FH_WIN0
      omega
    · unfold R.FH_SESS_CFG R.FH_WIN1
      omega
    · exact byte_ringWindow v n a
    · refine (bit_congr (f := R.BT_CMDSEQ_SET n) (hne _ ?_ ?_)).trans hset
      · simp only [R.BT_CMDSEQ_SET, R.FH_WIN0]
        omega
      · simp only [R.BT_CMDSEQ_SET, R.FH_WIN1]
        omega

/-- The configuration of a session, before it is enabled. -/
def State.sessionSet (s : State) (n notify prefixLen qpMax peer : Nat) : State :=
  let s := ((s.setFld (R.FH_SESS_CFG_NOTIFY n) notify).setFld (R.FH_SESS_CFG_PREFIX n) prefixLen).setFld (R.FH_SESS_CFG_QP_MAX n) qpMax
  (s.setReg (R.FH_SESS_PEER_HI n) (BitVec.ofNat 64 (peer / 2 ^ 64))).setReg (R.FH_SESS_PEER_LO n) (BitVec.ofNat 64 (peer % 2 ^ 64))

/-- A session valid, of a kind. -/
def State.sessionValid (s : State) (n kind : Nat) : State := (s.setFld (R.FH_SESS_CFG_VALID n) 1).setFld (R.FH_SESS_CFG_KIND n) kind

theorem enableSession_eq (s : State) (n kind notify prefixLen qpMax peer : Nat) : s.enableSession n kind notify prefixLen qpMax peer
    = if (s.sessionSet n notify prefixLen qpMax peer).fld (R.FH_SESS_STATUS_QPS n) ≠ 0 then s.sessionSet n notify prefixLen qpMax peer
      else ((s.sessionSet n notify prefixLen qpMax peer).sessionValid n kind).sessionBegins n := rfl

theorem sessionOnly_sessionSet (s : State) (n notify prefixLen qpMax peer : Nat) : SessionOnly n s (s.sessionSet n notify prefixLen qpMax peer) := by
  unfold State.sessionSet
  have h1 : SessionOnly n s (s.setFld (R.FH_SESS_CFG_NOTIFY n) notify) := sessionOnly_setFld s _ (sessionReg_cfg n)
  have h2 := h1.trans (sessionOnly_setFld (f := R.FH_SESS_CFG_PREFIX n) _ prefixLen (sessionReg_cfg n))
  have h3 := h2.trans (sessionOnly_setFld (f := R.FH_SESS_CFG_QP_MAX n) _ qpMax (sessionReg_cfg n))
  exact (h3.trans (sessionOnly_setReg _ _ (.inr (.inl rfl)))).trans (sessionOnly_setReg _ _ (.inr (.inr (.inl rfl))))

theorem sessionOnly_sessionValid (s : State) (n kind : Nat) : SessionOnly n s (s.sessionValid n kind) :=
  (sessionOnly_setFld (f := R.FH_SESS_CFG_VALID n) s 1 (sessionReg_cfg n)).trans (sessionOnly_setFld (f := R.FH_SESS_CFG_KIND n) _ kind (sessionReg_cfg n))

theorem sessionValid_spec (s : State) (n : Nat) {kind : Nat} (h : kind ≤ 1) :
    (s.sessionValid n kind).bit (R.FH_SESS_CFG_VALID n) = true ∧ (s.sessionValid n kind).fld (R.FH_SESS_CFG_KIND n) = kind := by
  unfold State.sessionValid
  refine ⟨?_, ?_⟩
  · rw [bit_setFld_disjoint (f := R.FH_SESS_CFG_KIND n) (g := R.FH_SESS_CFG_VALID n) _ _ (.inr (by decide : 62 < 63))]
    exact bit_setFld_one s (R.FH_SESS_CFG_VALID n) (by decide : 63 < 64) (by decide : 63 ≤ 63)
  · refine (fld_setFld_same _ (R.FH_SESS_CFG_KIND n) kind (by decide : 62 < 64)).trans (Nat.mod_eq_of_lt ?_)
    exact Nat.lt_succ_of_le h

/-- An enabled session. -/
structure Enabled (n kind : Nat) (s u : State) : Prop where
  only : SessionOnly n s u
  valid : u.bit (R.FH_SESS_CFG_VALID n) = true
  kind : u.fld (R.FH_SESS_CFG_KIND n) = kind
  zero : IndicesZero n u
  unset : u.bit (R.BT_CMDSEQ_SET n) = false
  window : s.bit (R.FH_WIN0_VALID n 0) = false → RingWindow n u

theorem enabled_enableSession (s : State) {n kind : Nat} (hn : n < 8) (hk : kind ≤ 1) (hq : s.fld (R.FH_SESS_STATUS_QPS n) = 0)
    (notify prefixLen qpMax peer : Nat) : Enabled n kind s (s.enableSession n kind notify prefixLen qpMax peer) := by
  have hset := sessionOnly_sessionSet s n notify prefixLen qpMax peer
  have hstatus : ¬ SessionReg n (R.FH_SESS_STATUS n) := by
    rintro (h | h | h | h | ⟨w, hw, h | h⟩) <;>
      simp only [R.FH_SESS_STATUS, R.FH_SESS_CFG, R.FH_SESS_PEER_HI, R.FH_SESS_PEER_LO, R.BT_CMDSEQ, R.FH_WIN0, R.FH_WIN1] at h <;> omega
  have hqps : (s.sessionSet n notify prefixLen qpMax peer).fld (R.FH_SESS_STATUS_QPS n) = 0 :=
    (fld_congr (f := R.FH_SESS_STATUS_QPS n) (hset.regs _ hstatus)).trans hq
  have hwin : (s.sessionSet n notify prefixLen qpMax peer).reg (R.FH_WIN0 n 0) = s.reg (R.FH_WIN0 n 0) := by
    unfold State.sessionSet
    dsimp only
    rw [reg_setReg_ne _ _ (by unfold R.FH_WIN0 R.FH_SESS_PEER_LO; omega), reg_setReg_ne _ _ (by unfold R.FH_WIN0 R.FH_SESS_PEER_HI; omega),
      reg_setFld_ne _ (by simp only [R.FH_WIN0, R.FH_SESS_CFG_QP_MAX]; omega), reg_setFld_ne _ (by simp only [R.FH_WIN0, R.FH_SESS_CFG_PREFIX]; omega),
      reg_setFld_ne _ (by simp only [R.FH_WIN0, R.FH_SESS_CFG_NOTIFY]; omega)]
  rw [enableSession_eq, if_neg (by rw [hqps]; decide)]
  generalize s.sessionSet n notify prefixLen qpMax peer = v at hset hwin
  obtain ⟨hvalid, hkind⟩ := sessionValid_spec v n hk
  have hvonly := sessionOnly_sessionValid v n kind
  have hcfgwin : R.FH_WIN0 n 0 ≠ R.FH_SESS_CFG n := by
    unfold R.FH_WIN0 R.FH_SESS_CFG
    omega
  have hvwin : (v.sessionValid n kind).reg (R.FH_WIN0 n 0) = v.reg (R.FH_WIN0 n 0) :=
    (reg_setFld_ne (f := R.FH_SESS_CFG_KIND n) _ hcfgwin).trans (reg_setFld_ne (f := R.FH_SESS_CFG_VALID n) v hcfgwin)
  have hbegun := begun_sessionBegins (v.sessionValid n kind) hn
  exact ⟨(hset.trans hvonly).trans hbegun.only, (bit_congr (f := R.FH_SESS_CFG_VALID n) hbegun.cfg).trans hvalid,
    (fld_congr (f := R.FH_SESS_CFG_KIND n) hbegun.cfg).trans hkind, hbegun.zero, hbegun.unset,
    fun h => hbegun.window ((bit_congr (f := R.FH_WIN0_VALID n 0) (hvwin.trans hwin)).trans h)⟩

/-! ### A session ends (R404, R435) -/

/-- The statuses that wait for a session and its store forgotten. -/
def State.sessionForgotten (s : State) (n : Nat) : State :=
  { s with host := { s.host with waits := s.host.waits.filter (fun w => w.session != n), stores := s.host.stores.filter (fun x => x.session != n) } }

theorem sessionEnds_eq (s : State) (n : Nat) : s.sessionEnds n = ((List.range 16).foldl (fun t w => t.dropWindow n w) s).sessionForgotten n := rfl

theorem reg_sessionForgotten (s : State) (n a : Nat) : (s.sessionForgotten n).reg a = s.reg a := rfl

theorem waits_sessionForgotten (s : State) (n : Nat) : (s.sessionForgotten n).host.waits = s.host.waits.filter (fun w => w.session != n) := rfl

theorem waits_setFld (s : State) (f : Fld) (v : Nat) : (s.setFld f v).host.waits = s.host.waits := rfl

/-- What is left of a session that is disabled. -/
structure Disabled (n : Nat) (s u : State) : Prop where
  only : SessionOnly n s u
  invalid : u.bit (R.FH_SESS_CFG_VALID n) = false
  windows : ∀ w, w < 16 → u.reg (R.FH_WIN0 n w) = 0 ∧ u.reg (R.FH_WIN1 n w) = 0
  waits : ∀ w ∈ u.host.waits, w.session ≠ n

theorem sessionOnly_sessionForgotten (n : Nat) (s : State) : SessionOnly n s (s.sessionForgotten n) :=
  ⟨fun _ _ => rfl, fun _ _ => rfl, fun _ hw => (List.mem_filter.mp hw).1, rfl, rfl, rfl⟩

theorem disabled_disableSession {s : State} {n : Nat} (h : ∀ q ∈ s.qpList, q.session ≠ n) : Disabled n s (s.disableSession n) := by
  have hnone : s.qpList.filter (fun q => q.session == n) = [] := List.filter_eq_nil_iff.mpr fun q hq => by simpa using h q hq
  have heq : s.disableSession n = (s.sessionEnds n).setFld (R.FH_SESS_CFG_VALID n) 0 := by
    unfold State.disableSession
    rw [hnone, List.map_nil, List.foldl_nil]
  have hdrop := sessionOnly_dropWindows n s
  have hwin := fun w hw => reg_dropWindows n (List.range 16) s w (.inl (List.mem_range.mpr hw))
  rw [heq, sessionEnds_eq]
  generalize (List.range 16).foldl (fun t w => t.dropWindow n w) s = v at hdrop hwin
  refine ⟨(hdrop.trans (sessionOnly_sessionForgotten n v)).trans (sessionOnly_setFld (f := R.FH_SESS_CFG_VALID n) _ 0 (sessionReg_cfg n)),
    bit_setFld_zero _ (R.FH_SESS_CFG_VALID n) (by decide : 63 < 64), fun w hw => ?_, fun w hw => ?_⟩
  case refine_2 =>
    rw [waits_setFld, waits_sessionForgotten] at hw
    simpa using (List.mem_filter.mp hw).2
  have h0 : R.FH_WIN0 n w ≠ R.FH_SESS_CFG n := by
    unfold R.FH_WIN0 R.FH_SESS_CFG
    omega
  have h1 : R.FH_WIN1 n w ≠ R.FH_SESS_CFG n := by
    unfold R.FH_WIN1 R.FH_SESS_CFG
    omega
  rw [reg_setFld_ne (f := R.FH_SESS_CFG_VALID n) _ h0, reg_setFld_ne (f := R.FH_SESS_CFG_VALID n) _ h1, reg_sessionForgotten, reg_sessionForgotten]
  exact hwin w hw

end Sys2Proof.Machine
end

section
/-!
PROOFS. Sessions, windows, jobs and floors (O49): the commands.
-/
namespace Sys2Proof.Machine
open Sys2Proof.Claim

/-! ### The risk estimate and its floors (R443, R465) -/

/-- The estimate and its band as the score and the floors give them, before the change is told. -/
def State.riskSet (s : State) : State :=
  ((s.setFld R.RS_RISK_FLOOR s.riskFloor).setFld R.RS_RISK_ESTIMATE (max (s.fld R.RS_RISK_INTERNAL) s.riskFloor)).setFld R.RS_RISK_BAND
    (riskBand (max (s.fld R.RS_RISK_INTERNAL) s.riskFloor))

/-- A change of band is an event. -/
def State.bandTold (s t : State) : State :=
  if riskBand (max (s.fld R.RS_RISK_INTERNAL) s.riskFloor) = s.fld R.RS_RISK_BAND then t
  else t.hostEvent 5 0xAD (t.mySeat * 2 ^ 32 + t.fld R.CU_STEP_STEP)

theorem reRisk_eq (s : State) : s.reRisk = (s.bandTold s.riskSet).reportRisk.jobRisk := rfl

/-- Commands, floors and the risk register stay. -/
structure RiskKept (s u : State) : Prop where
  reg : u.reg R.RS_RISK = s.reg R.RS_RISK
  cmds : u.host.cmds = s.host.cmds
  floors : u.host.floors = s.host.floors

theorem riskKept_refl (s : State) : RiskKept s s := ⟨rfl, rfl, rfl⟩

theorem RiskKept.trans {s u w : State} (h : RiskKept s u) (g : RiskKept u w) : RiskKept s w :=
  ⟨g.reg.trans h.reg, g.cmds.trans h.cmds, g.floors.trans h.floors⟩

theorem StatusOnly.riskKept {s u : State} (h : StatusOnly s u) : RiskKept s u := ⟨h.reg _, h.cmds, h.floors⟩

theorem host_countFld (s : State) (f : Fld) (n : Nat) : (s.countFld f n).host = s.host := rfl
theorem cmds_setFld (s : State) (f : Fld) (v : Nat) : (s.setFld f v).host.cmds = s.host.cmds := rfl
theorem warmCmd_setFld (s : State) (f : Fld) (v : Nat) : (s.setFld f v).host.warmCmd = s.host.warmCmd := rfl

theorem host_pbHand (s : State) (l : List PbIn) : (s.pbHand l).host = s.host := by
  obtain ⟨pb, h | h⟩ := pbHand_cases s l <;> rw [h]
  rw [host_countFld]

theorem riskKept_pbHand (s : State) (l : List PbIn) : RiskKept s (s.pbHand l) :=
  ⟨(only_pbHand s l).regs _ (by decide), congrArg HostState.cmds (host_pbHand s l), congrArg HostState.floors (host_pbHand s l)⟩

theorem statusOnly_eventStatus (s : State) (code : Nat) (d : List Byte) : StatusOnly s (s.eventStatus code d) := by
  unfold State.eventStatus
  dsimp only
  split
  · exact (statusOnly_putStatus s 0 0 _).trans (statusOnly_putStatus _ _ 0 _)
  · exact statusOnly_putStatus s 0 0 _

theorem riskKept_hostEvent (s : State) (mid code detail : Nat) : RiskKept s (s.hostEvent mid code detail) := by
  unfold State.hostEvent
  split
  · exact riskKept_pbHand s _
  · exact (riskKept_pbHand s _).trans (statusOnly_eventStatus _ _ _).riskKept

theorem Reported.host {s u : State} (h : Reported s u) : u.host = s.host := (congrArg State.host h.rest :)

theorem riskKept_reportRisk (s : State) : RiskKept s s.reportRisk := by
  have h := reported_reportRisk s
  exact ⟨h.reg _, congrArg HostState.cmds h.host, congrArg HostState.floors h.host⟩

theorem riskKept_bandTold (s t : State) : RiskKept t (s.bandTold t) := by
  unfold State.bandTold
  split
  · exact riskKept_refl t
  · exact riskKept_hostEvent t _ _ _

/-- The levels in the register: the floor, and of the estimate `e` its low byte and band. -/
def Levels (u : State) (floor e : Nat) : Prop :=
  u.fld R.RS_RISK_FLOOR = floor % 256 ∧ u.fld R.RS_RISK_BAND = u.fld R.RS_RISK_ESTIMATE / 64 ∧ u.fld R.RS_RISK_ESTIMATE = e % 256

theorem Levels.of_reg {s u : State} {floor e : Nat} (h : Levels s floor e) (hr : u.reg R.RS_RISK = s.reg R.RS_RISK) : Levels u floor e := by
  have hf : ∀ f : Fld, f.addr = R.RS_RISK → u.fld f = s.fld f := fun f hf => fld_congr (hf ▸ hr)
  unfold Levels
  rw [hf R.RS_RISK_FLOOR rfl, hf R.RS_RISK_BAND rfl, hf R.RS_RISK_ESTIMATE rfl]
  exact h

theorem levels_riskSet (s : State) : Levels s.riskSet s.riskFloor (max (s.fld R.RS_RISK_INTERNAL) s.riskFloor) := by
  unfold State.riskSet Levels
  generalize s.riskFloor = f
  generalize max (s.fld R.RS_RISK_INTERNAL) f = e
  have hestimate : ((((s.setFld R.RS_RISK_FLOOR f).setFld R.RS_RISK_ESTIMATE e).setFld R.RS_RISK_BAND (riskBand e)).fld R.RS_RISK_ESTIMATE) = e % 256 := by
    rw [fld_setFld_disjoint _ _ (.inr (by decide))]
    exact fld_setFld_same _ R.RS_RISK_ESTIMATE e (by decide)
  have hband : ((((s.setFld R.RS_RISK_FLOOR f).setFld R.RS_RISK_ESTIMATE e).setFld R.RS_RISK_BAND (riskBand e)).fld R.RS_RISK_BAND) = e / 64 % 4 :=
    fld_setFld_same _ R.RS_RISK_BAND (riskBand e) (by decide)
  refine ⟨?_, by rw [hband, hestimate]; omega, hestimate⟩
  rw [fld_setFld_disjoint _ _ (.inr (by decide)), fld_setFld_disjoint _ _ (.inl (by decide))]
  exact fld_setFld_same s R.RS_RISK_FLOOR f (by decide)

/-- The job estimate lies beside the levels. -/
theorem Levels.jobRisk {s : State} {floor e : Nat} (h : Levels s floor e) : Levels s.jobRisk floor e := by
  unfold State.jobRisk
  split
  · unfold Levels at h ⊢
    dsimp only
    rw [fld_setFld_disjoint (g := R.RS_RISK_FLOOR) _ _ (.inr (by decide)), fld_setFld_disjoint (g := R.RS_RISK_FLOOR) _ _ (.inr (by decide)),
      fld_setFld_disjoint (g := R.RS_RISK_BAND) _ _ (.inl (by decide)), fld_setFld_disjoint (g := R.RS_RISK_BAND) _ _ (.inl (by decide)),
      fld_setFld_disjoint (g := R.RS_RISK_ESTIMATE) _ _ (.inr (by decide)), fld_setFld_disjoint (g := R.RS_RISK_ESTIMATE) _ _ (.inr (by decide))]
    exact h
  · exact h

theorem host_jobRisk (s : State) : s.jobRisk.host = s.host := by
  unfold State.jobRisk
  split
  · dsimp only
    rw [host_setFld, host_setFld]
  · rfl

theorem host_riskSet (s : State) : s.riskSet.host = s.host := by
  unfold State.riskSet
  rw [host_setFld, host_setFld, host_setFld]

/-- The estimate worked out again shows the floors in force, and leaves commands and floors. -/
theorem reRisk_spec (s : State) : Levels s.reRisk s.riskFloor (max (s.fld R.RS_RISK_INTERNAL) s.riskFloor) ∧ s.reRisk.host.cmds = s.host.cmds
    ∧ s.reRisk.host.floors = s.host.floors := by
  have hkept := (riskKept_bandTold s s.riskSet).trans (riskKept_reportRisk _)
  have hlevels := levels_riskSet s
  rw [reRisk_eq, host_jobRisk, hkept.cmds, hkept.floors, host_riskSet]
  exact ⟨(hlevels.of_reg hkept.reg).jobRisk, rfl, rfl⟩

theorem riskFloor_of_floors {s u : State} (h : u.host.floors = s.host.floors) : u.riskFloor = s.riskFloor := by
  unfold State.riskFloor
  rw [h]

/-- The part with other floors. -/
def State.withFloors (s : State) (m : SMap (Nat × Nat)) : State := { s with host := { s.host with floors := m } }

theorem execRiskFloorExpiry_eq (s : State) : execRiskFloorExpiry s
    = .next (s.withFloors (s.host.floors.filter (fun f => decide (s.cue < f.2.2)))).reRisk := rfl

/-- The levels of floors that are put in force. -/
theorem levels_withFloors (s : State) (m : SMap (Nat × Nat)) : Levels (s.withFloors m).reRisk (s.withFloors m).reRisk.riskFloor
    (max (s.fld R.RS_RISK_INTERNAL) (s.withFloors m).reRisk.riskFloor) := by
  obtain ⟨hlevels, _, hfloors⟩ := reRisk_spec (s.withFloors m)
  rw [riskFloor_of_floors hfloors]
  exact hlevels

/-! ### Commands that run -/

theorem onCmd_some {s : State} {o : Nat} {c : CmdRec} (h : s.runningCmd o = some c) (f : State → CmdRec → State) : s.onCmd o f = .next (f s c) := by
  unfold State.onCmd
  rw [h]

theorem runningCmd_opcode {s : State} {o : Nat} {c : CmdRec} (h : s.runningCmd o = some c) : c.opcode = o ∧ c.started = true := by
  have hp := List.find?_some h
  simp only [Bool.and_eq_true, beq_iff_eq] at hp
  exact ⟨hp.1.1, hp.1.2⟩

theorem mem_putCmd {s : State} {c d : CmdRec} (h : c ∈ s.host.cmds) (hid : d.id = c.id) : d ∈ (s.putCmd d).host.cmds :=
  List.mem_map.mpr ⟨c, h, if_pos hid.symm⟩

/-! ### Sessions (R404, R416) -/

/-- No QP of a session stands, and its commands come from another. -/
structure Unused (s : State) (n session : Nat) : Prop where
  small : n < 8
  other : n ≠ session
  idle : ∀ q ∈ s.qpList, q.session ≠ n
  none : s.fld (R.FH_SESS_STATUS_QPS n) = 0

/-- A session with fresh indices and no SEQ expected. -/
def Opened (n kind : Nat) (u : State) : Prop :=
  u.bit (R.FH_SESS_CFG_VALID n) = true ∧ u.fld (R.FH_SESS_CFG_KIND n) = kind
  ∧ u.ringIdx n offCmdPi = 0 ∧ u.ringIdx n offCmdCi = 0 ∧ u.ringIdx n offStsPi = 0 ∧ u.ringIdx n offStsCi = 0 ∧ u.bit (R.BT_CMDSEQ_SET n) = false

/-- A session's window 0 over its ring, as its fields say it. -/
def RingShown (n : Nat) (u : State) : Prop :=
  u.bit (R.FH_WIN0_VALID n 0) = true ∧ u.fld (R.FH_WIN0_BASE n 0) = ringBase n
  ∧ u.fld (R.FH_WIN1_PAGES n 0) = 512 ∧ u.fld (R.FH_WIN0_ACCESS n 0) = 3 ∧ u.fld (R.FH_WIN1_RKEY n 0) % 128 = n * 16

theorem RingWindow.shown {n : Nat} {u : State} (h : RingWindow n u) : RingShown n u := by
  obtain ⟨key, hkey, hvalid, hbase, hpages, haccess, hk⟩ := h
  exact ⟨hvalid, hbase, hpages, haccess, by rw [hk]; exact hkey⟩

theorem Enabled.opened {n kind : Nat} {s u : State} (h : Enabled n kind s u) : Opened n kind u := by
  obtain ⟨hcmdPi, hcmdCi, hstsPi, hstsCi⟩ := h.zero
  exact ⟨h.valid, h.kind, hcmdPi, hcmdCi, hstsPi, hstsCi, h.unset⟩

/-- The registers of sessions are none of those that a command's end writes. -/
theorem sessionReg_ne {n a : Nat} (hn : n < 8) (h : SessionReg n a) : a ≠ R.BT_JOB ∧ a ≠ R.BK_STATUS := by
  rcases h with h | h | h | h | ⟨w, hw, h | h⟩ <;>
    simp only [R.BT_JOB, R.BK_STATUS, R.FH_SESS_CFG, R.FH_SESS_PEER_HI, R.FH_SESS_PEER_LO, R.BT_CMDSEQ, R.FH_WIN0, R.FH_WIN1] at h ⊢ <;> omega

/-- What is read of a session stays where its registers and ring do. -/
theorem Opened.kept {n kind : Nat} {s u : State} (h : Opened n kind s) (hr : ∀ a, SessionReg n a → u.reg a = s.reg a)
    (hb : ∀ a, InRing n a → u.byte a = s.byte a) : Opened n kind u := by
  obtain ⟨hvalid, hkind, hcmdPi, hcmdCi, hstsPi, hstsCi, hset⟩ := h
  have hcfg := hr _ (sessionReg_cfg n)
  exact ⟨(bit_congr (f := R.FH_SESS_CFG_VALID n) hcfg).trans hvalid, (fld_congr (f := R.FH_SESS_CFG_KIND n) hcfg).trans hkind,
    (ringIdx_of_byte (by decide) hb).trans hcmdPi, (ringIdx_of_byte (by decide) hb).trans hcmdCi, (ringIdx_of_byte (by decide) hb).trans hstsPi,
    (ringIdx_of_byte (by decide) hb).trans hstsCi, (bit_congr (f := R.BT_CMDSEQ_SET n) (hr _ (sessionReg_seq n))).trans hset⟩

theorem RingWindow.kept {n : Nat} {s u : State} (h : RingWindow n s) (hr : ∀ a, SessionReg n a → u.reg a = s.reg a) : RingWindow n u := by
  obtain ⟨key, hkey, hw⟩ := h
  exact ⟨key, hkey, hw.of_regs (hr _ (sessionReg_win0 (by decide))) (hr _ (sessionReg_win1 (by decide)))⟩

theorem reg_cmdDone_session {n : Nat} (hn : n < 8) (s : State) (c : CmdRec) (code : Nat) (detail : List Byte) (a : Nat) (ha : SessionReg n a) :
    (s.cmdDone c code detail).reg a = s.reg a :=
  reg_cmdDone s c code detail (sessionReg_ne hn ha).1 (sessionReg_ne hn ha).2

theorem byte_cmdDone_session {s : State} {c : CmdRec} (hr : Room s c.session) {n : Nat} (hne : n ≠ c.session) (code : Nat) (detail : List Byte) (a : Nat)
    (ha : InRing n a) : (s.cmdDone c code detail).byte a = s.byte a :=
  byte_cmdDone hr code detail fun h => hne (inRing_inj ha h)

/-- What a SESSION_OPEN asks for. -/
def State.sessionAsked (s : State) (c : CmdRec) : State :=
  s.enableSession (c.par 0 1) (c.par 1 1) (c.par 2 1) (c.par 3 1) (c.par 4 2) (c.par 8 16)

theorem execSessionOpen_eq {s : State} {c : CmdRec} (h : s.runningCmd opcSessionOpen = some c) :
    execSessionOpen s = .next ((s.sessionAsked c).cmdDone c 0 []) := onCmd_some h fun s c => (s.sessionAsked c).cmdDone c 0 []

theorem execSessionClose_eq {s : State} {c : CmdRec} (h : s.runningCmd opcSessionClose = some c) :
    execSessionClose s = .next ((s.disableSession (c.par 0 1)).cmdDone c 0 []) := onCmd_some h fun s c => (s.disableSession (c.par 0 1)).cmdDone c 0 []

theorem sessionOpen_spec {s : State} {c : CmdRec} (h : s.runningCmd opcSessionOpen = some c) (hu : Unused s (c.par 0 1) c.session) (hk : c.par 1 1 ≤ 1)
    (hroom : Room s c.session) : Completes .sessionOpen s (fun u => Opened (c.par 0 1) (c.par 1 1) u
      ∧ (s.bit (R.FH_WIN0_VALID (c.par 0 1) 0) = false → RingShown (c.par 0 1) u) ∧ Done c 0 [] s u) := by
  obtain ⟨hn, hne, _, hqps⟩ := hu
  have henabled : Enabled (c.par 0 1) (c.par 1 1) s (s.sessionAsked c) := enabled_enableSession s hn hk hqps _ _ _ _
  refine ⟨_, execSessionOpen_eq h, ?_⟩
  generalize s.sessionAsked c = v at henabled
  have hkept : RingKept c.session s v := henabled.only.ringKept hn hroom.session.1 (Ne.symm hne)
  have hreg := reg_cmdDone_session hn v c 0 []
  exact ⟨henabled.opened.kept hreg (byte_cmdDone_session (hkept.room hroom) hne 0 []), fun hw => ((henabled.window hw).kept hreg).shown,
    hkept.done hroom 0 []⟩

theorem sessionClose_spec {s : State} {c : CmdRec} (h : s.runningCmd opcSessionClose = some c) (hu : Unused s (c.par 0 1) c.session)
    (hroom : Room s c.session) : Completes .sessionClose s (fun u => u.bit (R.FH_SESS_CFG_VALID (c.par 0 1)) = false
      ∧ (∀ w, w < 16 → u.reg (R.FH_WIN0 (c.par 0 1) w) = 0 ∧ u.reg (R.FH_WIN1 (c.par 0 1) w) = 0)
      ∧ (∀ w ∈ u.host.waits, w.session ≠ c.par 0 1) ∧ Done c 0 [] s u) := by
  obtain ⟨hn, hne, hidle, _⟩ := hu
  have hdis := disabled_disableSession hidle
  refine ⟨_, execSessionClose_eq h, ?_⟩
  generalize s.disableSession (c.par 0 1) = v at hdis
  have hkept : RingKept c.session s v := hdis.only.ringKept hn hroom.session.1 (Ne.symm hne)
  have hreg := reg_cmdDone_session hn v c 0 []
  refine ⟨(bit_congr (f := R.FH_SESS_CFG_VALID (c.par 0 1)) (hreg _ (sessionReg_cfg _))).trans hdis.invalid, fun w hw => ⟨?_, ?_⟩, fun w hw => ?_,
    hkept.done hroom 0 []⟩
  · exact (hreg _ (sessionReg_win0 hw)).trans (hdis.windows w hw).1
  · exact (hreg _ (sessionReg_win1 hw)).trans (hdis.windows w hw).2
  · rw [waits_cmdDone (hkept.room hroom)] at hw
    exact hdis.waits w hw

/-! ### Windows (R405, R407, R439) -/

/-- What is done to a session's windows leaves its own ring and configuration alone. -/
structure WindowsOnly (n : Nat) (s u : State) : Prop where
  regs : ∀ a, (∀ w, w < 16 → a ≠ R.FH_WIN0 n w ∧ a ≠ R.FH_WIN1 n w) → u.reg a = s.reg a
  bytes : ∀ a, u.byte a = s.byte a
  waits : u.host.waits = s.host.waits
  cmds : u.host.cmds = s.host.cmds
  cold : u.host.warmCmd = s.host.warmCmd

theorem host_setWindow (s : State) (n w base pages access key : Nat) : (s.setWindow n w base pages access key).host = s.host := by
  rw [setWindow_eq, host_setFld, host_setFld, host_setFld, host_setFld, host_setFld]

theorem windowsOnly_setWindow {n w : Nat} (s : State) (base pages access key : Nat) (h : w < 16) : WindowsOnly n s (s.setWindow n w base pages access key) := by
  have hhost := host_setWindow s n w base pages access key
  exact ⟨fun _ ha => reg_setWindow_ne s (ha w h).1 (ha w h).2, fun _ => byte_setWindow s _ _ _ _ _ _ _, congrArg HostState.waits hhost,
    congrArg HostState.cmds hhost, congrArg HostState.warmCmd hhost⟩

theorem windowsOnly_dropWindow {n w : Nat} (s : State) (h : w < 16) : WindowsOnly n s (s.dropWindow n w) :=
  ⟨fun _ ha => reg_dropWindow_ne s (ha w h).1 (ha w h).2, fun _ => rfl, rfl, rfl, rfl⟩

theorem WindowsOnly.ringKept {n : Nat} {s u : State} (h : WindowsOnly n s u) (hn : n < 8) : RingKept n s u := by
  have hcfg : u.reg (R.FH_SESS_CFG n) = s.reg (R.FH_SESS_CFG n) := h.regs _ fun w hw => by
    unfold R.FH_SESS_CFG R.FH_WIN0 R.FH_WIN1
    omega
  have hcount : u.reg R.CU_COUNT = s.reg R.CU_COUNT := h.regs _ fun w hw => by
    unfold R.CU_COUNT R.FH_WIN0 R.FH_WIN1
    omega
  refine ⟨?_, h.cold, ringIdx_of_byte (by decide) fun a _ => h.bytes a, ringIdx_of_byte (by decide) fun a _ => h.bytes a,
    fun w hw => h.waits ▸ hw, h.cmds, congrArg BitVec.toNat hcount⟩
  unfold State.hostSess
  rw [bit_congr (f := R.FH_SESS_CFG_VALID n) hcfg, bit_congr (f := R.FH_SESS_CFG_KIND n) hcfg]

/-- The lowest free window of a session (R405). -/
def State.freeWindow? (s : State) (n : Nat) : Option Nat := (List.range 15).find? (fun w => !s.bit (R.FH_WIN0_VALID n (w + 1)))

theorem freeWindow?_some {s : State} {n w : Nat} (hw : w < 15) (hfree : s.bit (R.FH_WIN0_VALID n (w + 1)) = false)
    (hlow : ∀ v, v < w → s.bit (R.FH_WIN0_VALID n (v + 1)) = true) : s.freeWindow? n = some w := by
  unfold State.freeWindow?
  rw [List.find?_range_eq_some]
  exact ⟨by rw [hfree]; rfl, List.mem_range.mpr hw, fun v hv => by rw [hlow v hv]; rfl⟩

theorem freeWindow?_none {s : State} {n : Nat} (h : ∀ v, v < 15 → s.bit (R.FH_WIN0_VALID n (v + 1)) = true) : s.freeWindow? n = none :=
  List.find?_eq_none.mpr fun v hv => by rw [h v (List.mem_range.mp hv)]; decide

theorem execWindowAdd_eq {s : State} {c : CmdRec} (h : s.runningCmd opcWindowAdd = some c) : execWindowAdd s
    = .next (match s.freeWindow? c.session with
      | none => s.cmdDone c 0x84 []
      | some w => ((s.freshKey c.session (w + 1)).2.setWindow c.session (w + 1) (c.par 0 8) (c.par 8 4) (c.par 12 1) (s.freshKey c.session (w + 1)).1).cmdDone c 0
          (leBytes (w + 1) 4 ++ leBytes (s.freshKey c.session (w + 1)).1 4)) := onCmd_some h _

theorem ringKept_usedFree (n k : Nat) (s : State) : RingKept n s (s.usedFree k) := ⟨rfl, rfl, rfl, rfl, fun _ h => h, rfl, rfl⟩

theorem RingKept.trans {n : Nat} {s u w : State} (h : RingKept n s u) (g : RingKept n u w) : RingKept n s w :=
  ⟨g.host.trans h.host, g.cold.trans h.cold, g.pi.trans h.pi, g.ci.trans h.ci, fun x hx => h.waits x (g.waits x hx), g.cmds.trans h.cmds,
    g.cue.trans h.cue⟩

theorem windowAdd_spec {s : State} {c : CmdRec} (h : s.runningCmd opcWindowAdd = some c) (hroom : Room s c.session) {w : Nat} (hw : w < 15)
    (hfree : s.bit (R.FH_WIN0_VALID c.session (w + 1)) = false) (hlow : ∀ v, v < w → s.bit (R.FH_WIN0_VALID c.session (v + 1)) = true)
    (hb : c.par 0 8 < 2 ^ 44) (hp : c.par 8 4 < 2 ^ 32) (ha : c.par 12 1 < 4) : Completes .windowAdd s (fun u =>
      u.bit (R.FH_WIN0_VALID c.session (w + 1)) = true ∧ u.fld (R.FH_WIN0_BASE c.session (w + 1)) = c.par 0 8
      ∧ u.fld (R.FH_WIN1_PAGES c.session (w + 1)) = c.par 8 4 ∧ u.fld (R.FH_WIN0_ACCESS c.session (w + 1)) = c.par 12 1
      ∧ u.fld (R.FH_WIN1_RKEY c.session (w + 1)) % 128 = c.session * 16 + w + 1
      ∧ Done c 0 (leBytes (w + 1) 4 ++ leBytes (u.fld (R.FH_WIN1_RKEY c.session (w + 1))) 4) s u) := by
  have hw16 : w + 1 < 16 := Nat.succ_lt_succ hw
  obtain ⟨hlt, hlow128, hstate⟩ := freshKey_spec s hroom.session.1 hw16
  have hrun := execWindowAdd_eq h
  rw [freeWindow?_some hw hfree hlow] at hrun
  refine ⟨_, hrun, ?_⟩
  dsimp only
  rw [hstate]
  generalize (s.freshKey c.session (w + 1)).1 = key at hlt hlow128 ⊢
  have hwin := window_setWindow (s.usedFree 1) c.session (w + 1) hb hp ha hlt
  have honly := windowsOnly_setWindow (n := c.session) (s.usedFree 1) (c.par 0 8) (c.par 8 4) (c.par 12 1) key hw16
  generalize (s.usedFree 1).setWindow c.session (w + 1) (c.par 0 8) (c.par 8 4) (c.par 12 1) key = v at hwin honly ⊢
  have hkept : RingKept c.session s v := (ringKept_usedFree _ 1 s).trans (honly.ringKept hroom.session.1)
  have hreg := reg_cmdDone_session hroom.session.1 v c 0 (leBytes (w + 1) 4 ++ leBytes key 4)
  obtain ⟨hvalid, hbase, hpages, haccess, hkey⟩ := hwin.of_regs (hreg _ (sessionReg_win0 hw16)) (hreg _ (sessionReg_win1 hw16))
  exact ⟨hvalid, hbase, hpages, haccess, by rw [hkey, hlow128]; rfl, by rw [hkey]; exact hkept.done hroom 0 _⟩

theorem windowAdd_full {s : State} {c : CmdRec} (h : s.runningCmd opcWindowAdd = some c) (hroom : Room s c.session)
    (hall : ∀ v, v < 15 → s.bit (R.FH_WIN0_VALID c.session (v + 1)) = true) : Completes .windowAdd s (Done c 0x84 [] s) := by
  have hrun := execWindowAdd_eq h
  rw [freeWindow?_none hall] at hrun
  exact ⟨_, hrun, (ringKept_refl c.session s).done hroom 0x84 []⟩

/-- Does a command of the session name memory of the window (R407, R439)? -/
def State.windowNamed (s : State) (c : CmdRec) : Bool := s.host.cmds.any (fun d => d.session == c.session
  && (memParams d.opcode d.par).any (fun m => s.windowHolds c.session (c.par 0 1) m.1 m.2.1 m.2.2))

theorem execWindowRemove_eq {s : State} {c : CmdRec} (h : s.runningCmd opcWindowRemove = some c) : execWindowRemove s
    = .next (if s.windowNamed c then s else (s.dropWindow c.session (c.par 0 1)).cmdDone c 0 []) := onCmd_some h _

theorem windowRemove_spec {s : State} {c : CmdRec} (h : s.runningCmd opcWindowRemove = some c) (hnamed : s.windowNamed c = false)
    (hroom : Room s c.session) (hn : c.par 0 1 < 16) : Completes .windowRemove s (fun u =>
      u.reg (R.FH_WIN0 c.session (c.par 0 1)) = 0 ∧ u.reg (R.FH_WIN1 c.session (c.par 0 1)) = 0 ∧ Done c 0 [] s u) := by
  refine ⟨_, (execWindowRemove_eq h).trans (congrArg _ (if_neg (by rw [hnamed]; decide))), ?_⟩
  obtain ⟨h0, h1⟩ := reg_dropWindow_same s c.session (c.par 0 1)
  have honly := windowsOnly_dropWindow (n := c.session) s hn
  generalize s.dropWindow c.session (c.par 0 1) = v at h0 h1 honly ⊢
  have hreg := reg_cmdDone_session hroom.session.1 v c 0 []
  exact ⟨(hreg _ (sessionReg_win0 hn)).trans h0, (hreg _ (sessionReg_win1 hn)).trans h1, (honly.ringKept hroom.session.1).done hroom 0 []⟩

/-! ### A store session (R416) -/

/-- Only QPs, what waits at the ports and free values change. -/
structure QpsOnly (s u : State) : Prop where
  rest : u = { s with free := u.free, host := { s.host with qps := u.host.qps, ports := u.host.ports } }

theorem qpsOnly_refl (s : State) : QpsOnly s s := ⟨rfl⟩

theorem QpsOnly.trans {s u w : State} (h : QpsOnly s u) (g : QpsOnly u w) : QpsOnly s w :=
  ⟨g.rest.trans (congrArg (fun v : State => { v with free := w.free, host := { v.host with qps := w.host.qps, ports := w.host.ports } }) h.rest)⟩

theorem QpsOnly.reg {s u : State} (h : QpsOnly s u) (a : Nat) : u.reg a = s.reg a := (congrArg (fun v : State => v.reg a) h.rest :)
theorem QpsOnly.byte {s u : State} (h : QpsOnly s u) (a : Nat) : u.byte a = s.byte a := (congrArg (fun v : State => v.byte a) h.rest :)
theorem QpsOnly.cmds {s u : State} (h : QpsOnly s u) : u.host.cmds = s.host.cmds := (congrArg (fun v : State => v.host.cmds) h.rest :)
theorem QpsOnly.stores {s u : State} (h : QpsOnly s u) : u.host.stores = s.host.stores := (congrArg (fun v : State => v.host.stores) h.rest :)

theorem qpsOnly_openQp (s : State) (n port ip i : Nat) : QpsOnly s (s.openQp n port ip i) := ⟨rfl⟩

theorem qpsOnly_openQps (n port ip : Nat) : ∀ (k : Nat) (s : State), QpsOnly s (s.openQps n port ip k)
  | 0, s => qpsOnly_refl s
  | k + 1, s => by
    have hone : QpsOnly s (s.freeQp?.elim s (s.openQp n port ip)) := by
      cases s.freeQp? with
      | none => exact qpsOnly_refl s
      | some i => exact qpsOnly_openQp s n port ip i
    unfold State.openQps
    exact hone.trans (qpsOnly_openQps n port ip k _)

/-- The keys that a STORE_OPEN names. -/
def CmdRec.storeKeys (c : CmdRec) : List StoreKey :=
  (List.range (c.par 3 1)).map (fun i => (⟨c.par (24 + 24 * i) 8, c.par (32 + 24 * i) 8, c.par (40 + 24 * i) 4⟩ : StoreKey))

/-- A session with the store that a STORE_OPEN names, its command marked. -/
def State.storeNamed (s : State) (c : CmdRec) : State :=
  ({ s with host := { s.host with
    stores := s.host.stores.filter (fun x => x.session != c.par 0 1) ++ [⟨c.par 0 1, c.par 1 1, c.par 2 1, c.par 8 16, c.storeKeys⟩] } } : State).putCmd
      { c with word := 1 }

/-- The session of a store, open afresh. -/
def State.storeAsked (s : State) (c : CmdRec) : State := (s.disableSession (c.par 0 1)).enableSession (c.par 0 1) 1 0 128 (c.par 2 1) (c.par 8 16)

theorem execStoreOpen_first {s : State} {c : CmdRec} (h : s.runningCmd opcStoreOpen = some c) (hw : c.word = 0) : execStoreOpen s
    = .next (((s.storeAsked c).storeNamed c).openQps (c.par 0 1) (c.par 1 1) (c.par 8 16) (c.par 2 1)) :=
  (onCmd_some h _).trans (congrArg _ (if_neg (by rw [hw]; decide)))

theorem execStoreOpen_second {s : State} {c : CmdRec} (h : s.runningCmd opcStoreOpen = some c) (hw : c.word = 1) :
    execStoreOpen s = .next (s.storeReady (c.par 0 1) true) :=
  (onCmd_some h _).trans (congrArg _ (if_pos hw))

theorem reg_storeNamed (s : State) (c : CmdRec) (a : Nat) : (s.storeNamed c).reg a = s.reg a := rfl
theorem byte_storeNamed (s : State) (c : CmdRec) (a : Nat) : (s.storeNamed c).byte a = s.byte a := rfl
theorem stores_storeNamed (s : State) (c : CmdRec) : ∃ x ∈ (s.storeNamed c).host.stores, x.session = c.par 0 1 ∧ x.qps = c.par 2 1 :=
  ⟨_, List.mem_append_right _ List.mem_cons_self, rfl, rfl⟩
theorem cmds_storeNamed {s : State} {c : CmdRec} (h : c ∈ s.host.cmds) : { c with word := 1 } ∈ (s.storeNamed c).host.cmds :=
  List.mem_map.mpr ⟨c, h, if_pos rfl⟩

theorem bit_of_reg_zero {s : State} {f : Fld} (h : s.reg f.addr = 0) : s.bit f = false := by
  have hz : s.fld f = 0 := by
    unfold State.fld bitsOf
    rw [h, show (0 : Word).toNat = 0 from rfl, Nat.zero_shiftRight, Nat.zero_mod]
  unfold State.bit
  rw [hz]
  rfl

theorem not_sessionReg_status {n : Nat} : ¬ SessionReg n (R.FH_SESS_STATUS n) := by
  rintro (h | h | h | h | ⟨w, hw, h | h⟩) <;>
    simp only [R.FH_SESS_STATUS, R.FH_SESS_CFG, R.FH_SESS_PEER_HI, R.FH_SESS_PEER_LO, R.BT_CMDSEQ, R.FH_WIN0, R.FH_WIN1] at h <;> omega

/-- A store's session is opened afresh, its windows dropped before. -/
theorem storeAsked_spec {s : State} {c : CmdRec} (hu : Unused s (c.par 0 1) c.session) :
    Opened (c.par 0 1) 1 (s.storeAsked c) ∧ RingWindow (c.par 0 1) (s.storeAsked c) ∧ (s.storeAsked c).host.cmds = s.host.cmds := by
  obtain ⟨hn, _, hidle, hqps⟩ := hu
  have hdis := disabled_disableSession hidle
  have hq0 := (fld_congr (f := R.FH_SESS_STATUS_QPS (c.par 0 1)) (hdis.only.regs _ not_sessionReg_status)).trans hqps
  have hwin := bit_of_reg_zero (f := R.FH_WIN0_VALID (c.par 0 1) 0) (hdis.windows 0 (by decide)).1
  unfold State.storeAsked
  generalize s.disableSession (c.par 0 1) = v at hdis hq0 hwin
  have henabled := enabled_enableSession v hn (Nat.le_refl 1) hq0 0 128 (c.par 2 1) (c.par 8 16)
  exact ⟨henabled.opened, henabled.window hwin, henabled.only.cmds.trans hdis.only.cmds⟩

/-- What the first turn of a STORE_OPEN leaves. -/
def StoreAsked (c : CmdRec) (u : State) : Prop := Opened (c.par 0 1) 1 u ∧ RingShown (c.par 0 1) u
  ∧ (∃ x ∈ u.host.stores, x.session = c.par 0 1 ∧ x.qps = c.par 2 1) ∧ ∃ d ∈ u.host.cmds, d = { c with word := 1 }

theorem QpsOnly.storeAsked {v u : State} {c : CmdRec} (h : QpsOnly (v.storeNamed c) u) (hopened : Opened (c.par 0 1) 1 v)
    (hring : RingWindow (c.par 0 1) v) (hc : c ∈ v.host.cmds) : StoreAsked c u := by
  have hreg : ∀ a, SessionReg (c.par 0 1) a → u.reg a = v.reg a := fun a _ => (h.reg a).trans (reg_storeNamed v c a)
  refine ⟨hopened.kept hreg fun a _ => (h.byte a).trans (byte_storeNamed v c a), (hring.kept hreg).shown, ?_, ?_⟩
  · rw [h.stores]
    exact stores_storeNamed v c
  · rw [h.cmds]
    exact ⟨_, cmds_storeNamed hc, rfl⟩

theorem storeOpen_first {s : State} {c : CmdRec} (h : s.runningCmd opcStoreOpen = some c) (hmem : c ∈ s.host.cmds) (hw : c.word = 0)
    (hu : Unused s (c.par 0 1) c.session) : Completes .storeOpen s (StoreAsked c) := by
  obtain ⟨hopened, hring, hcmds⟩ := storeAsked_spec hu
  have hc : c ∈ (s.storeAsked c).host.cmds := by
    rw [hcmds]
    exact hmem
  have hrun := execStoreOpen_first h hw
  have hqp := qpsOnly_openQps (c.par 0 1) (c.par 1 1) (c.par 8 16) (c.par 2 1) ((s.storeAsked c).storeNamed c)
  exact ⟨_, hrun, hqp.storeAsked hopened hring hc⟩

theorem storeReady_late {s : State} {c : CmdRec} {n : Nat}
    (h : s.host.cmds.find? (fun d => d.opcode == opcStoreOpen && d.started && d.word == 1 && d.par 0 1 == n) = some c) :
    s.storeReady n true = s.cmdDone c 0 (leBytes (s.connectedQps n) 2) := by
  unfold State.storeReady
  rw [h]
  exact if_pos (Bool.true_or _)

theorem storeOpen_second {s : State} {c : CmdRec} (h : s.runningCmd opcStoreOpen = some c) (hmem : c ∈ s.host.cmds) (hw : c.word = 1)
    (hroom : Room s c.session) (hone : ∀ d ∈ s.host.cmds, d.opcode = opcStoreOpen → d = c) :
    Completes .storeOpen s (Done c 0 (leBytes (s.connectedQps (c.par 0 1)) 2) s) := by
  obtain ⟨hop, hst⟩ := runningCmd_opcode h
  have hfind : s.host.cmds.find? (fun d => d.opcode == opcStoreOpen && d.started && d.word == 1 && d.par 0 1 == c.par 0 1) = some c := by
    cases hf : s.host.cmds.find? (fun d => d.opcode == opcStoreOpen && d.started && d.word == 1 && d.par 0 1 == c.par 0 1) with
    | none => exact absurd (List.find?_eq_none.mp hf c hmem) (by simp [hop, hst, hw])
    | some d =>
      have hd := List.find?_some hf
      simp only [Bool.and_eq_true, beq_iff_eq] at hd
      rw [hone d (List.mem_of_find?_eq_some hf) hd.1.1.1]
  refine ⟨_, execStoreOpen_second h hw, ?_⟩
  rw [storeReady_late hfind]
  exact (ringKept_refl c.session s).done hroom 0 _

end Sys2Proof.Machine
end

section
/-!
PROOFS. Sessions, windows, jobs and floors (O49): the job commands, the floors, and the statement.
-/
namespace Sys2Proof.Machine
open Sys2Proof.Claim

/-! ### JOB_OPEN (R43, R436) -/

theorem par_lt (c : CmdRec) (o n : Nat) : c.par o n < 256 ^ n :=
  (ofLe_lt _).trans_le (Nat.pow_le_pow_right (by decide) (List.length_take_le _ _))

/-- CU_CTL as a JOB_OPEN names it. -/
def State.jobCtl (s : State) (c : CmdRec) : State :=
  ((((s.setFld R.CU_CTL_PERIOD (c.par 4 2)).setFld R.CU_CTL_MARGIN (c.par 6 1)).setFld R.CU_CTL_BACKUP_EN (c.par 7 1)).setFld
    R.CU_CTL_MASTER_SEAT (c.par 8 2)).setFld R.CU_CTL_BACKUP_SEAT (c.par 10 2)

/-- The job and its owner as a JOB_OPEN names them. -/
def State.jobOwned (s : State) (c : CmdRec) : State :=
  ((s.setFld R.BT_JOB_JOB (c.par 0 4)).setFld R.BT_JOB_OWNER c.session).setFld R.BT_JOB_OPEN 1

/-- The master of a job that opens starts the count. -/
def State.masterSet (s : State) (m : Nat) : State := if m = s.mySeat then (s.setFld R.CU_STATUS_MASTER 1).startCount else s.setFld R.CU_STATUS_MASTER 0

/-- Nobody has been followed, and no master is locked to. -/
def State.cueFresh (s : State) : State := ({ s with cueX := s.cueX.fresh s.cue } : State).setFld R.CU_STATUS_LOCKED 0

/-- The job opened, before its command is done. -/
def State.jobTaken (s : State) (c : CmdRec) : State := (((s.jobCtl c).jobOwned c).masterSet (c.par 8 2)).cueFresh

/-- What a JOB_OPEN does. -/
def State.jobOpened (s : State) (c : CmdRec) : State :=
  if s.jobOpen then s.cmdDone c 0x87 [] else if s.res.left then s.cmdDone c 0x8C [] else (s.jobTaken c).cmdDone c 0 []

theorem execJobOpen_eq {s : State} {c : CmdRec} (h : s.runningCmd opcJobOpen = some c) : execJobOpen s = .next (s.jobOpened c) :=
  onCmd_some h State.jobOpened

/-- A write of CU_CTL and what of it a JOB_OPEN asks for. -/
structure CtlSet (c : CmdRec) (u : State) : Prop where
  period : u.fld R.CU_CTL_PERIOD = c.par 4 2
  margin : u.fld R.CU_CTL_MARGIN = c.par 6 1
  backupEn : u.fld R.CU_CTL_BACKUP_EN = c.par 7 1
  master : u.fld R.CU_CTL_MASTER_SEAT = c.par 8 2
  backup : u.fld R.CU_CTL_BACKUP_SEAT = c.par 10 2

theorem CtlSet.of_reg {c : CmdRec} {s u : State} (h : CtlSet c s) (hr : u.reg R.CU_CTL = s.reg R.CU_CTL) : CtlSet c u := by
  have hf : ∀ f : Fld, f.addr = R.CU_CTL → u.fld f = s.fld f := fun f hf => fld_congr (hf ▸ hr)
  exact ⟨(hf _ rfl).trans h.period, (hf _ rfl).trans h.margin, (hf _ rfl).trans h.backupEn, (hf _ rfl).trans h.master, (hf _ rfl).trans h.backup⟩

theorem ctlSet_jobCtl (s : State) {c : CmdRec} (h4 : c.par 4 2 < 2048) (h7 : c.par 7 1 < 2) (h8 : c.par 8 2 < 2 ^ 15) (h10 : c.par 10 2 < 2 ^ 15) :
    CtlSet c (s.jobCtl c) := by
  have h6 : c.par 6 1 < 256 := par_lt c 6 1
  unfold State.jobCtl
  refine ⟨?_, ?_, ?_, ?_, (fld_setFld_same _ _ _ (by decide)).trans (Nat.mod_eq_of_lt h10)⟩
  · rw [fld_setFld_disjoint _ _ (.inl (by decide)), fld_setFld_disjoint _ _ (.inl (by decide)), fld_setFld_disjoint _ _ (.inl (by decide)),
      fld_setFld_disjoint _ _ (.inl (by decide)), fld_setFld_same _ _ _ (by decide)]
    exact Nat.mod_eq_of_lt h4
  · rw [fld_setFld_disjoint _ _ (.inr (by decide)), fld_setFld_disjoint _ _ (.inr (by decide)), fld_setFld_disjoint _ _ (.inr (by decide)),
      fld_setFld_same _ _ _ (by decide)]
    exact Nat.mod_eq_of_lt h6
  · rw [fld_setFld_disjoint _ _ (.inr (by decide)), fld_setFld_disjoint _ _ (.inr (by decide)), fld_setFld_same _ _ _ (by decide)]
    exact Nat.mod_eq_of_lt h7
  · rw [fld_setFld_disjoint _ _ (.inl (by decide)), fld_setFld_same _ _ _ (by decide)]
    exact Nat.mod_eq_of_lt h8

/-- The job is open, named and owned. -/
structure JobOwned (c : CmdRec) (u : State) : Prop where
  opened : u.jobOpen = true
  job : u.fld R.BT_JOB_JOB = c.par 0 4
  owner : u.fld R.BT_JOB_OWNER = c.session

theorem JobOwned.of_fld {c : CmdRec} {s u : State} (h : JobOwned c s) (hf : ∀ f : Fld, f.addr = R.BT_JOB → f.hi < 8 ∨ 15 < f.lo → u.fld f = s.fld f) :
    JobOwned c u :=
  ⟨(congrArg (· == 1) (hf R.BT_JOB_OPEN rfl (by decide)) :).trans h.opened, (hf R.BT_JOB_JOB rfl (by decide)).trans h.job,
    (hf R.BT_JOB_OWNER rfl (by decide)).trans h.owner⟩

theorem owned_jobOwned (s : State) {c : CmdRec} (h : c.session < 8) : JobOwned c (s.jobOwned c) := by
  have h0 : c.par 0 4 < 2 ^ 32 := par_lt c 0 4
  unfold State.jobOwned
  refine ⟨bit_setFld_one _ R.BT_JOB_OPEN (by decide) (by decide), ?_, ?_⟩
  · rw [fld_setFld_disjoint _ _ (.inr (by decide)), fld_setFld_disjoint _ _ (.inr (by decide)), fld_setFld_same _ _ _ (by decide)]
    exact Nat.mod_eq_of_lt h0
  · rw [fld_setFld_disjoint _ _ (.inl (by decide)), fld_setFld_same _ _ _ (by decide)]
    exact Nat.mod_eq_of_lt h

theorem mySeat_of_reg {s u : State} (h : u.reg R.FB_CTL = s.reg R.FB_CTL) : u.mySeat = s.mySeat := fld_congr (f := R.FB_CTL_SEAT) h

theorem reg_jobCtl (s : State) (c : CmdRec) {a : Nat} (h : a ≠ R.CU_CTL) : (s.jobCtl c).reg a = s.reg a := by
  unfold State.jobCtl
  rw [reg_setFld_ne (f := R.CU_CTL_BACKUP_SEAT) _ h, reg_setFld_ne (f := R.CU_CTL_MASTER_SEAT) _ h, reg_setFld_ne (f := R.CU_CTL_BACKUP_EN) _ h,
    reg_setFld_ne (f := R.CU_CTL_MARGIN) _ h, reg_setFld_ne (f := R.CU_CTL_PERIOD) _ h]

theorem reg_jobOwned (s : State) (c : CmdRec) {a : Nat} (h : a ≠ R.BT_JOB) : (s.jobOwned c).reg a = s.reg a := by
  unfold State.jobOwned
  rw [reg_setFld_ne (f := R.BT_JOB_OPEN) _ h, reg_setFld_ne (f := R.BT_JOB_OWNER) _ h, reg_setFld_ne (f := R.BT_JOB_JOB) _ h]

/-- The master bit as the seat is the master or not; beside it only the count is written. -/
theorem masterSet_spec (s : State) (m : Nat) : (s.masterSet m).bit R.CU_STATUS_MASTER = decide (m = s.mySeat)
    ∧ ∀ a, ¬ CountRegs a → a ≠ R.CU_STATUS → (s.masterSet m).reg a = s.reg a := by
  unfold State.masterSet
  split
  · next h =>
    rw [startCount_eq]
    refine ⟨?_, fun a ha hne => (reg_setCount_ne ha).trans (reg_setFld_ne (f := R.CU_STATUS_MASTER) s hne)⟩
    rw [bit_congr (f := R.CU_STATUS_MASTER) (reg_setCount_ne not_countRegs_status), decide_eq_true h]
    exact bit_setFld_one s R.CU_STATUS_MASTER (by decide) (by decide)
  · next h =>
    refine ⟨?_, fun a _ hne => reg_setFld_ne (f := R.CU_STATUS_MASTER) s hne⟩
    rw [decide_eq_false h]
    exact bit_setFld_zero s R.CU_STATUS_MASTER (by decide)

theorem reg_withCueX (s : State) (x : CueState) (a : Nat) : ({ s with cueX := x } : State).reg a = s.reg a := rfl

/-- The lock is gone; the rest of CU_STATUS and the other registers stay. -/
theorem cueFresh_spec (s : State) : s.cueFresh.bit R.CU_STATUS_LOCKED = false ∧ s.cueFresh.bit R.CU_STATUS_MASTER = s.bit R.CU_STATUS_MASTER
    ∧ ∀ a, a ≠ R.CU_STATUS → s.cueFresh.reg a = s.reg a := by
  unfold State.cueFresh
  refine ⟨bit_setFld_zero _ R.CU_STATUS_LOCKED (by decide), ?_, fun a ha => (reg_setFld_ne (f := R.CU_STATUS_LOCKED) _ ha).trans (reg_withCueX _ _ a)⟩
  rw [bit_setFld_disjoint _ _ (.inr (by decide))]
  exact bit_congr (f := R.CU_STATUS_MASTER) (reg_withCueX _ _ _)

/-- What JOB_OPEN leaves of an open job. -/
structure JobTaken (s : State) (c : CmdRec) (u : State) : Prop where
  owned : JobOwned c u
  ctl : CtlSet c u
  master : u.bit R.CU_STATUS_MASTER = decide (c.par 8 2 = s.mySeat)
  unlocked : u.bit R.CU_STATUS_LOCKED = false

theorem jobTaken_spec (s : State) {c : CmdRec} (hs : c.session < 8) (h4 : c.par 4 2 < 2048) (h7 : c.par 7 1 < 2) (h8 : c.par 8 2 < 2 ^ 15)
    (h10 : c.par 10 2 < 2 ^ 15) : JobTaken s c (s.jobTaken c) := by
  have hctl := ctlSet_jobCtl s h4 h7 h8 h10
  have hregs : ∀ a, a ≠ R.CU_CTL → (s.jobCtl c).reg a = s.reg a := fun a => reg_jobCtl s c
  unfold State.jobTaken
  generalize s.jobCtl c = v at hctl hregs
  have howned := owned_jobOwned v hs
  have hctl' : CtlSet c (v.jobOwned c) := hctl.of_reg (reg_jobOwned v c (by decide))
  have hseat : (v.jobOwned c).mySeat = s.mySeat := mySeat_of_reg ((reg_jobOwned v c (by decide)).trans (hregs _ (by decide)))
  generalize v.jobOwned c = w at howned hctl' hseat
  obtain ⟨hmaster, hw⟩ := masterSet_spec w (c.par 8 2)
  obtain ⟨hlocked, hsame, hx⟩ := cueFresh_spec (w.masterSet (c.par 8 2))
  have hreg : ∀ a, ¬ CountRegs a → a ≠ R.CU_STATUS → (w.masterSet (c.par 8 2)).cueFresh.reg a = w.reg a := fun a ha hne => (hx a hne).trans (hw a ha hne)
  refine ⟨howned.of_fld fun f hf _ => fld_congr (hreg _ (by rw [hf]; unfold CountRegs; decide) (by rw [hf]; decide)),
    hctl'.of_reg (hreg _ (by unfold CountRegs; decide) (by decide)), hsame.trans (hmaster.trans ?_), hlocked⟩
  rw [hseat]

theorem JobTaken.done {s u : State} {c : CmdRec} (h : JobTaken s c u) (code : Nat) (detail : List Byte) : JobTaken s c (u.cmdDone c code detail) :=
  ⟨h.owned.of_fld fun _ _ hf => fld_cmdDone u c code detail hf, h.ctl.of_reg (reg_cmdDone u c code detail (by decide) (by decide)),
    (bit_cmdDone u c code detail (by decide)).trans h.master, (bit_cmdDone u c code detail (by decide)).trans h.unlocked⟩

theorem jobOpen_spec {s : State} {c : CmdRec} (h : s.runningCmd opcJobOpen = some c) (hj : s.jobOpen = false) (hl : s.res.left = false)
    (hs : c.session < 8) (h4 : c.par 4 2 < 2048) (h7 : c.par 7 1 < 2) (h8 : c.par 8 2 < 2 ^ 15) (h10 : c.par 10 2 < 2 ^ 15) :
    Completes .jobOpen s (JobTaken s c) := by
  refine ⟨_, execJobOpen_eq h, ?_⟩
  unfold State.jobOpened
  rw [if_neg (by rw [hj]; decide), if_neg (by rw [hl]; decide)]
  exact (jobTaken_spec s hs h4 h7 h8 h10).done 0 []

/-- A job that is open already, or a seat that has left one, gives the command an error. -/
theorem jobOpen_refused {s : State} {c : CmdRec} (h : s.runningCmd opcJobOpen = some c) (hroom : Room s c.session) :
    (s.jobOpen = true → Completes .jobOpen s (Done c 0x87 [] s))
    ∧ (s.jobOpen = false → s.res.left = true → Completes .jobOpen s (Done c 0x8C [] s)) := by
  refine ⟨fun hj => ⟨_, execJobOpen_eq h, ?_⟩, fun hj hl => ⟨_, execJobOpen_eq h, ?_⟩⟩
  · unfold State.jobOpened
    rw [if_pos hj]
    exact (ringKept_refl c.session s).done hroom 0x87 []
  · unfold State.jobOpened
    rw [if_neg (by rw [hj]; decide), if_pos hl]
    exact (ringKept_refl c.session s).done hroom 0x8C []

/-! ### JOB_START, JOB_STOP and JOB_CLOSE (R436, R440) -/

/-- The curtain asked to start its steps. -/
def CurtainState.asked (x : CurtainState) (n : Nat) : CurtainState := { x with starting := true, left := if n = 0 then none else some n }

/-- What a JOB_START does. -/
def State.jobStarted (s : State) (c : CmdRec) : State :=
  if s.curtain.running || s.curtain.starting then s
  else if s.res.left then s.cmdDone c 0x8C []
  else (((s.putCmd { c with word := 1 }).setFld R.CU_STEP_STEP (c.par 0 4)).setCurtain (s.curtain.asked (c.par 4 4)))

/-- The JOB_START that has not run yet. -/
def State.startCmd (s : State) : Option CmdRec := s.host.cmds.find? (fun d => d.opcode == opcJobStart && d.started && d.word == 0)

theorem execJobStart_eq {s : State} {c : CmdRec} (h : s.startCmd = some c) : execJobStart s = .next (s.jobStarted c) := by
  unfold execJobStart
  unfold State.startCmd at h
  rw [h]
  dsimp only
  unfold State.jobStarted
  split
  · rfl
  · split
    · rfl
    · rfl

theorem host_setCurtain (s : State) (x : CurtainState) : (s.setCurtain x).host = s.host := rfl
theorem curtain_setCurtain (s : State) (x : CurtainState) : (s.setCurtain x).curtain = x := rfl
theorem fld_setCurtain (s : State) (x : CurtainState) (f : Fld) : (s.setCurtain x).fld f = s.fld f := rfl

theorem jobStart_spec {s : State} {c : CmdRec} (h : s.startCmd = some c) (hr : s.curtain.running = false) (hs : s.curtain.starting = false)
    (hl : s.res.left = false) : Completes .jobStart s (fun u => u.curtain.starting = true
      ∧ u.curtain.left = (if c.par 4 4 = 0 then none else some (c.par 4 4)) ∧ u.fld R.CU_STEP_STEP = c.par 0 4
      ∧ { c with word := 1 } ∈ u.host.cmds ∧ Only (fun a => a = R.CU_STEP) s u) := by
  refine ⟨_, execJobStart_eq h, ?_⟩
  have hmem : { c with word := 1 } ∈ (s.putCmd { c with word := 1 }).host.cmds := mem_putCmd (List.mem_of_find?_eq_some h) rfl
  have honly : Only (fun a => a = R.CU_STEP) s (s.putCmd { c with word := 1 }) := only_of_stores rfl rfl rfl rfl
  have heq : s.jobStarted c = (((s.putCmd { c with word := 1 }).setFld R.CU_STEP_STEP (c.par 0 4)).setCurtain (s.curtain.asked (c.par 4 4))) :=
    (if_neg (by rw [hr, hs]; decide)).trans (if_neg (by rw [hl]; decide))
  rw [heq]
  generalize s.putCmd { c with word := 1 } = v at hmem honly
  dsimp only
  rw [curtain_setCurtain, fld_setCurtain, host_setCurtain, cmds_setFld, fld_setFld_same _ _ _ (by decide)]
  refine ⟨rfl, rfl, Nat.mod_eq_of_lt (par_lt c 0 4), hmem, (honly.trans (only_setFld v _ rfl)).trans (only_of_stores rfl rfl rfl rfl)⟩

theorem jobStart_refused {s : State} {c : CmdRec} (h : s.startCmd = some c) :
    (s.curtain.running = true ∨ s.curtain.starting = true → exec .jobStart s = .next s)
    ∧ (s.curtain.running = false → s.curtain.starting = false → s.res.left = true → Room s c.session → Completes .jobStart s (Done c 0x8C [] s)) := by
  refine ⟨fun hrun => (execJobStart_eq h).trans (congrArg _ (if_pos ?_)), fun hr hs hl hroom => ⟨_, execJobStart_eq h, ?_⟩⟩
  · simpa using hrun
  · unfold State.jobStarted
    rw [if_neg (by rw [hr, hs]; decide), if_pos hl]
    exact (ringKept_refl c.session s).done hroom 0x8C []

/-- A step that runs is asked to be the last. -/
def CurtainState.stopping (x : CurtainState) : CurtainState := { x with stopAsked := true }

/-- Steps that have been asked for and not begun are not asked for any more. -/
def CurtainState.unasked (x : CurtainState) : CurtainState := { x with starting := false, left := none }

/-- What a JOB_STOP does. -/
def State.jobStopped (s : State) (c : CmdRec) : State :=
  if s.curtain.running then s.setCurtain s.curtain.stopping
  else ((s.setCurtain s.curtain.unasked).endCmds opcJobStart (fun d => d.word == 1) 0 []).cmdDone c 0 []

theorem execJobStop_eq {s : State} {c : CmdRec} (h : s.runningCmd opcJobStop = some c) : execJobStop s = .next (s.jobStopped c) :=
  onCmd_some h State.jobStopped

/-- No command of another opcode stands beside the only one. -/
theorem endCmds_alone {s : State} {c : CmdRec} (h : s.host.cmds = [c]) {o : Nat} (ho : c.opcode ≠ o) (pick : CmdRec → Bool) (code : Nat)
    (detail : List Byte) : s.endCmds o pick code detail = s := by
  have hne : (c.opcode == o) = false := beq_false_of_ne ho
  unfold State.endCmds
  rw [h, List.filter_cons_of_neg (by rw [hne, Bool.false_and, Bool.false_and]; decide), List.filter_nil, List.foldl_nil]

theorem curtain_cmdDone (s : State) (c : CmdRec) (code : Nat) (detail : List Byte) : (s.cmdDone c code detail).curtain = s.curtain :=
  (hostOnly_cmdDone s c code detail).curtain

theorem ringKept_setCurtain (n : Nat) (s : State) (x : CurtainState) : RingKept n s (s.setCurtain x) := ⟨rfl, rfl, rfl, rfl, fun _ h => h, rfl, rfl⟩

theorem jobStop_spec {s : State} {c : CmdRec} (h : s.runningCmd opcJobStop = some c) (hr : s.curtain.running = false) (hone : s.host.cmds = [c])
    (hroom : Room s c.session) : Completes .jobStop s (fun u => u.curtain.starting = false ∧ u.curtain.left = none ∧ Done c 0 [] s u) := by
  refine ⟨_, execJobStop_eq h, ?_⟩
  have hop : c.opcode ≠ opcJobStart := by
    rw [(runningCmd_opcode h).1]
    decide
  unfold State.jobStopped
  rw [if_neg (by rw [hr]; decide), endCmds_alone (s := s.setCurtain s.curtain.unasked) hone hop]
  dsimp only
  rw [curtain_cmdDone, curtain_setCurtain]
  exact ⟨rfl, rfl, (ringKept_setCurtain c.session s _).done hroom 0 []⟩

/-- What a JOB_CLOSE does where no command waits to start. -/
def State.jobClosed (s : State) (c : CmdRec) : State :=
  if s.curtain.running && !s.res.noMaster && !s.res.left then s.setCurtain s.curtain.stopping
  else (s.endCmds opcJobStart (fun _ => true) 0 []).closeJob.cmdDone c 0 []

theorem execJobClose_eq {s : State} {c : CmdRec} (h : s.runningCmd opcJobClose = some c) (hone : s.host.cmds = [c]) :
    execJobClose s = .next (s.jobClosed c) := by
  have hwait : s.host.cmds.filter (fun d => groupJ d.opcode && !d.started) = [] := by
    rw [hone, List.filter_cons_of_neg (by rw [(runningCmd_opcode h).2]; simp), List.filter_nil]
  unfold execJobClose
  rw [onCmd_some h, hwait, List.foldl_nil]
  rfl

/-- The engines of a closed job, before its registers. -/
def State.enginesClosed (s : State) : State :=
  { s with curtain := CurtainState.init, cueX := s.cueX.fresh s.cue, jobRisks := [], res := s.res.closed,
           job := { s.job with desc := none, applied := none, ready := none } }

/-- The registers of a closed job. -/
def State.jobRegsClosed (s : State) : State :=
  ((((((s.setFld R.BT_JOB_OPEN 0).setFld R.BT_JOB_JOB 0).setFld R.BT_JOB_OWNER 0).setFld R.CU_STATUS_MASTER 0).setFld R.CU_STATUS_LOCKED 0).setFld
    R.CU_STATUS_HOLDOVER 0).setFld R.RS_CKPT_STATE_PHASE 0

theorem closeJob_eq (s : State) : s.closeJob = s.enginesClosed.jobRegsClosed := rfl

theorem curtain_setFld (s : State) (f : Fld) (v : Nat) : (s.setFld f v).curtain = s.curtain := rfl

/-- What a JOB_CLOSE leaves of the job. -/
structure JobGone (u : State) : Prop where
  closed : u.jobOpen = false
  job : u.fld R.BT_JOB_JOB = 0
  master : u.bit R.CU_STATUS_MASTER = false
  curtain : u.curtain = CurtainState.init

theorem curtain_jobRegsClosed (s : State) : s.jobRegsClosed.curtain = s.curtain := by
  unfold State.jobRegsClosed
  rw [curtain_setFld, curtain_setFld, curtain_setFld, curtain_setFld, curtain_setFld, curtain_setFld, curtain_setFld]

theorem cmds_jobRegsClosed (s : State) : s.jobRegsClosed.host.cmds = s.host.cmds := by
  unfold State.jobRegsClosed
  rw [cmds_setFld, cmds_setFld, cmds_setFld, cmds_setFld, cmds_setFld, cmds_setFld, cmds_setFld]

theorem jobGone_closeJob (s : State) : JobGone s.closeJob := by
  have hcurtain : s.enginesClosed.curtain = CurtainState.init := rfl
  rw [closeJob_eq]
  generalize s.enginesClosed = v at hcurtain
  refine ⟨?_, ?_, ?_, (curtain_jobRegsClosed v).trans hcurtain⟩
  · unfold State.jobRegsClosed State.jobOpen
    rw [bit_setFld_ne _ (by decide), bit_setFld_ne _ (by decide), bit_setFld_ne _ (by decide), bit_setFld_ne _ (by decide),
      bit_setFld_disjoint _ _ (.inr (by decide)), bit_setFld_disjoint _ _ (.inl (by decide))]
    exact bit_setFld_zero v R.BT_JOB_OPEN (by decide)
  · unfold State.jobRegsClosed
    rw [fld_setFld_ne _ (by decide), fld_setFld_ne _ (by decide), fld_setFld_ne _ (by decide), fld_setFld_ne _ (by decide),
      fld_setFld_disjoint _ _ (.inr (by decide))]
    exact fld_setFld_zero _ (f := R.BT_JOB_JOB) (by decide)
  · unfold State.jobRegsClosed
    rw [bit_setFld_ne _ (by decide), bit_setFld_disjoint _ _ (.inl (by decide)), bit_setFld_disjoint _ _ (.inr (by decide))]
    exact bit_setFld_zero _ R.CU_STATUS_MASTER (by decide)

theorem cmds_closeJob (s : State) : s.closeJob.host.cmds = s.host.cmds := by
  have hcmds : s.enginesClosed.host.cmds = s.host.cmds := rfl
  rw [closeJob_eq, cmds_jobRegsClosed, hcmds]

theorem JobGone.done {s : State} (h : JobGone s) (c : CmdRec) (code : Nat) (detail : List Byte) : JobGone (s.cmdDone c code detail) :=
  ⟨(bit_cmdDone s c code detail (f := R.BT_JOB_OPEN) (by decide)).trans h.closed, (fld_cmdDone s c code detail (by decide)).trans h.job,
    (bit_cmdDone s c code detail (by decide)).trans h.master, (curtain_cmdDone s c code detail).trans h.curtain⟩

theorem jobClose_spec {s : State} {c : CmdRec} (h : s.runningCmd opcJobClose = some c) (hone : s.host.cmds = [c]) (hr : s.curtain.running = false) :
    Completes .jobClose s (fun u => JobGone u ∧ u.host.cmds = []) := by
  refine ⟨_, execJobClose_eq h hone, ?_⟩
  have hop : c.opcode ≠ opcJobStart := by
    rw [(runningCmd_opcode h).1]
    decide
  unfold State.jobClosed
  rw [if_neg (by rw [hr, Bool.false_and, Bool.false_and]; decide), endCmds_alone hone hop]
  refine ⟨(jobGone_closeJob s).done c 0 [], ?_⟩
  rw [cmds_cmdDone, cmds_closeJob, hone, List.filter_cons_of_neg (by simp), List.filter_nil]

/-! ### SET_RISK_FLOOR and its end (R443) -/

/-- The floor that a SET_RISK_FLOOR puts in force; one without cues ends it. -/
def CmdRec.floor (c : CmdRec) : Nat × Nat := if c.par 4 4 = 0 then (0, 0) else (c.par 0 1, c.taken + c.par 4 4)

theorem execSetRiskFloor_eq {s : State} {c : CmdRec} (h : s.runningCmd opcSetRiskFloor = some c) : execSetRiskFloor s
    = .next ((s.withFloors (smapSet (0, 0) s.host.floors c.session c.floor)).reRisk.cmdDone c 0 []) :=
  onCmd_some h fun s c => (s.withFloors (smapSet (0, 0) s.host.floors c.session c.floor)).reRisk.cmdDone c 0 []

theorem floors_withFloors (s : State) (m : SMap (Nat × Nat)) : (s.withFloors m).host.floors = m := rfl
theorem cmds_withFloors (s : State) (m : SMap (Nat × Nat)) : (s.withFloors m).host.cmds = s.host.cmds := rfl

/-- The levels of the floors that a state has, with the score of the state before. -/
def Floored (s u : State) : Prop := Levels u u.riskFloor (max (s.fld R.RS_RISK_INTERNAL) u.riskFloor)

theorem setRiskFloor_spec {s : State} {c : CmdRec} (h : s.runningCmd opcSetRiskFloor = some c) : Completes .setRiskFloor s (fun u => Floored s u
    ∧ smapGet (0, 0) u.host.floors c.session = c.floor ∧ u.host.cmds = s.host.cmds.filter (fun d => d.id != c.id)) := by
  refine ⟨_, execSetRiskFloor_eq h, ?_⟩
  have hlevels := levels_withFloors s (smapSet (0, 0) s.host.floors c.session c.floor)
  obtain ⟨_, hcmds, hfloors⟩ := reRisk_spec (s.withFloors (smapSet (0, 0) s.host.floors c.session c.floor))
  rw [cmds_withFloors] at hcmds
  rw [floors_withFloors] at hfloors
  generalize (s.withFloors (smapSet (0, 0) s.host.floors c.session c.floor)).reRisk = v at hlevels hcmds hfloors
  refine ⟨?_, ?_, ?_⟩
  · unfold Floored
    rw [riskFloor_of_floors (floors_cmdDone v c 0 [])]
    exact hlevels.of_reg (reg_cmdDone v c 0 [] (by decide) (by decide))
  · rw [floors_cmdDone, hfloors, smapGet_set_same]
  · rw [cmds_cmdDone, hcmds]

theorem riskFloorExpiry_spec (s : State) : Completes .riskFloorExpiry s (fun u => Floored s u
    ∧ u.host.floors = s.host.floors.filter (fun f => decide (s.cue < f.2.2))) := by
  refine ⟨_, execRiskFloorExpiry_eq s, levels_withFloors s _, ?_⟩
  rw [(reRisk_spec _).2.2, floors_withFloors]

end Sys2Proof.Machine

namespace Sys2Proof.Claim
open Sys2Proof.Machine

/-- Settles O49: each command is followed to the state it leaves, and the DONE entry is written into a ring that the command's own session keeps. -/
theorem sessionsWindowsJobsAndFloorsFollowTheirCommands : Obligations.SessionsWindowsJobsAndFloorsFollowTheirCommands := by
  unfold Obligations.SessionsWindowsJobsAndFloorsFollowTheirCommands
  intro s
  refine ⟨riskFloorExpiry_spec s, fun c _ hmem => ⟨fun h ⟨hn, hne, hidle, hq⟩ hk hroom => sessionOpen_spec h ⟨hn, hne, hidle, hq⟩ hk hroom,
    fun h ⟨hn, hne, hidle, hq⟩ hroom => sessionClose_spec h ⟨hn, hne, hidle, hq⟩ hroom,
    fun h hroom => ⟨fun w hw hfree hlow hb hp ha => windowAdd_spec h hroom hw hfree hlow hb hp ha, windowAdd_full h hroom⟩,
    fun h => ⟨fun hnamed => (execWindowRemove_eq h).trans (congrArg _ (if_pos hnamed)), fun hnamed hroom hn => windowRemove_spec h hnamed hroom hn⟩,
    fun h => ⟨fun hw ⟨hn, hne, hidle, hq⟩ => storeOpen_first h hmem hw ⟨hn, hne, hidle, hq⟩, fun hw hroom hone => storeOpen_second h hmem hw hroom hone⟩,
    fun h hroom hs => ⟨(jobOpen_refused h hroom).1, (jobOpen_refused h hroom).2, fun hj hl h4 h7 h8 h10 => ?_⟩,
    fun h => ⟨(jobStart_refused h).1, (jobStart_refused h).2, fun hr hs hl => jobStart_spec h hr hs hl⟩,
    fun h => ⟨fun hr => (execJobStop_eq h).trans (congrArg _ (if_pos hr)), fun hr hone hroom => jobStop_spec h hr hone hroom⟩,
    fun h hone => ⟨fun hr hm hl => (execJobClose_eq h hone).trans (congrArg _ (if_pos (by rw [hr, hm, hl]; rfl))), fun hr _ => ?_⟩,
    setRiskFloor_spec⟩⟩
  · obtain ⟨u, hrun, ⟨hopened, hjob, howner⟩, ⟨hperiod, hmargin, hen, hmaster, hbackup⟩, hbit, hlocked⟩ := jobOpen_spec h hj hl hs h4 h7 h8 h10
    exact ⟨u, hrun, hopened, hjob, howner, hperiod, hmargin, hen, hmaster, hbackup, hbit, hlocked⟩
  · obtain ⟨u, hrun, ⟨hclosed, hjob, hmaster, hcurtain⟩, hcmds⟩ := jobClose_spec h hone hr
    exact ⟨u, hrun, hclosed, hjob, hmaster, hcurtain, hcmds⟩

end Sys2Proof.Claim
end

section
/-!
PROOFS. What memory accesses leave alone of the job (O40): the plan, the seats lost, the scene; the registers `G` and the tiles `T` where asked.
-/
namespace Sys2Proof.Machine
open Sys2Proof.Claim

/-- Registers that a plan's exchange and a resumed job go by are not these. -/
abbrev Unread (a : Nat) : Prop := a ≠ R.FB_CTL ∧ a ≠ R.CU_STEP

/-- The job, the seats lost and the scene stay; with `G` the registers a plan goes by, with `T` the tiles. -/
structure Beside (G T : Prop) (s u : State) : Prop where
  regs : G → ∀ a, ¬ Unread a → u.reg a = s.reg a
  job : u.job = s.job
  lost : u.res.lost = s.res.lost
  scene : u.scene = s.scene
  tiles : T → u.tiles = s.tiles

variable {G T : Prop} {s u w : State}

theorem Beside.refl (s : State) : Beside G T s s := ⟨fun _ _ _ => rfl, rfl, rfl, rfl, fun _ => rfl⟩

theorem Beside.trans (h : Beside G T s u) (g : Beside G T u w) : Beside G T s w :=
  ⟨fun hg a ha => (g.regs hg a ha).trans (h.regs hg a ha), g.job.trans h.job, g.lost.trans h.lost, g.scene.trans h.scene,
    fun ht => (g.tiles ht).trans (h.tiles ht)⟩

theorem Beside.weaken {G' T' : Prop} (h : Beside G T s u) (hG : G' → G) (hT : T' → T) : Beside G' T' s u :=
  ⟨fun g => h.regs (hG g), h.job, h.lost, h.scene, fun t => h.tiles (hT t)⟩

theorem beside_foldl {α : Type} {f : State → α → State} (hf : ∀ t x, Beside G T t (f t x)) (l : List α) (s : State) : Beside G T s (l.foldl f s) :=
  List.foldlRecOn l f (motive := fun u => Beside G T s u) (.refl s) fun t ht x _ => ht.trans (hf t x)

/-- A fold that carries more than the state. -/
theorem beside_foldl_snd {α β : Type} {f : β × State → α → β × State} (hf : ∀ y x, Beside G T y.2 (f y x).2) (l : List α) (y : β × State) :
    Beside G T y.2 (l.foldl f y).2 :=
  List.foldlRecOn l f (motive := fun z => Beside G T y.2 z.2) (.refl _) fun z hz x _ => hz.trans (hf z x)

theorem beside_ite {c : Prop} [Decidable c] (h : Beside G T s u) (g : Beside G T s w) : Beside G T s (if c then u else w) := by
  split
  · exact h
  · exact g

/-! ### Registers, memory, marks -/

theorem unread_of_lt {a : Nat} (h : R.FB_CTL < a) : Unread a := ⟨Nat.ne_of_gt h, Nat.ne_of_gt (Nat.lt_trans (by decide) h)⟩

theorem unread_add {b : Nat} (h : R.FB_CTL < b) (k : Nat) : Unread (b + k) := unread_of_lt (Nat.lt_of_lt_of_le h (Nat.le_add_right b k))

theorem unread_add₂ {b : Nat} (h : R.FB_CTL < b) (j k : Nat) : Unread (b + j + k) :=
  unread_of_lt (Nat.lt_of_lt_of_le h (Nat.le_trans (Nat.le_add_right b j) (Nat.le_add_right _ k)))

theorem beside_setReg (s : State) {a : Nat} (v : Word) (h : G → Unread a) : Beside G T s (s.setReg a v) :=
  ⟨fun hg _ hb => reg_setReg_ne s v fun e => hb (e ▸ h hg), rfl, rfl, rfl, fun _ => rfl⟩
theorem beside_setFld (s : State) {f : Fld} (v : Nat) (h : G → Unread f.addr) : Beside G T s (s.setFld f v) := beside_setReg s _ h
theorem beside_addFld (s : State) {f : Fld} (n : Nat) (h : G → Unread f.addr) : Beside G T s (s.addFld f n) := beside_setFld s _ h
theorem beside_noteEvt (s : State) (f : Fld) (n : Nat) : Beside G T s (s.noteEvt f n) := ⟨fun _ _ _ => rfl, rfl, rfl, rfl, fun _ => rfl⟩
theorem beside_raiseFld (s : State) {f : Fld} (h : G → Unread f.addr) : Beside G T s (s.raiseFld f) :=
  (beside_noteEvt s f 1).trans (beside_setFld _ 1 h)
theorem beside_countFld (s : State) {f : Fld} (n : Nat) (h : G → Unread f.addr) : Beside G T s (s.countFld f n) :=
  (beside_noteEvt s f n).trans (beside_addFld _ n h)
theorem beside_setByte (s : State) (a : Nat) (b : Byte) : Beside G T s (s.setByte a b) := ⟨fun _ _ _ => rfl, rfl, rfl, rfl, fun _ => rfl⟩
theorem beside_setPoison (s : State) (u : Nat) (p : Bool) : Beside G T s (s.setPoison u p) := ⟨fun _ _ _ => rfl, rfl, rfl, rfl, fun _ => rfl⟩
theorem beside_setLine (s : State) (g : Nat) (l : CLine) : Beside G T s (s.setLine g l) := ⟨fun _ _ _ => rfl, rfl, rfl, rfl, fun _ => rfl⟩
theorem beside_setFlaw (s : State) (u k : Nat) : Beside G T s (s.setFlaw u k) := ⟨fun _ _ _ => rfl, rfl, rfl, rfl, fun _ => rfl⟩
theorem beside_setLine_clock (s : State) (g : Nat) (l : CLine) (n : Nat) : Beside G T s { s.setLine g l with cacheClock := n } :=
  ⟨fun _ _ _ => rfl, rfl, rfl, rfl, fun _ => rfl⟩

theorem beside_setBytes (l : List Byte) (s : State) (a : Nat) : Beside G T s (s.setBytes a l) := by
  obtain ⟨m, h⟩ := setBytes_eq l s a
  rw [h]
  exact ⟨fun _ _ _ => rfl, rfl, rfl, rfl, fun _ => rfl⟩

theorem StatusOnly.beside (h : StatusOnly s u) : Beside G T s u :=
  ⟨fun _ a _ => h.reg a, h.job, (congrArg (fun v : State => v.res.lost) h.rest :), (congrArg State.scene h.rest :), fun _ => (congrArg State.tiles h.rest :)⟩

/-! ### The promptbook and the risk estimate -/

theorem beside_pbHand (s : State) (l : List PbIn) : Beside G T s (s.pbHand l) := by
  have hc : Beside G T s (s.countFld R.BT_PB_INFO_DROPPED l.length) := beside_countFld s _ fun _ => by decide
  obtain ⟨pb, h | h⟩ := pbHand_cases s l
  · rw [h]
    exact ⟨fun _ _ _ => rfl, rfl, rfl, rfl, fun _ => rfl⟩
  · rw [h]
    generalize s.countFld R.BT_PB_INFO_DROPPED l.length = u at hc
    exact hc.trans ⟨fun _ _ _ => rfl, rfl, rfl, rfl, fun _ => rfl⟩

theorem beside_pbEntry (s : State) (kind source code detail : Nat) : Beside G T s (s.pbEntry kind source code detail) := beside_pbHand s _

theorem beside_memEntry (s : State) (mid code addr : Nat) : Beside G T s (s.memEntry mid code addr) := by
  obtain h | ⟨seen, l, h⟩ := memEntry_cases s mid code addr
  · rw [h]
    exact .refl s
  · have hp : Beside G T s (s.pbHand l) := beside_pbHand s l
    rw [h]
    generalize s.pbHand l = u at hp
    exact hp.trans ⟨fun _ _ _ => rfl, rfl, rfl, rfl, fun _ => rfl⟩

theorem beside_memEvent (s : State) (mid code detail : Nat) : Beside G T s (s.memEvent mid code detail) := by
  unfold State.memEvent
  split
  · exact .refl s
  · have hp : Beside G T s (s.pbEntry pbEvent mid code detail) := beside_pbEntry s _ _ _ _
    generalize s.pbEntry pbEvent mid code detail = u at hp
    exact hp.trans ⟨fun _ _ _ => rfl, rfl, rfl, rfl, fun _ => rfl⟩

theorem beside_hostEvent (s : State) (mid code detail : Nat) : Beside G T s (s.hostEvent mid code detail) := by
  unfold State.hostEvent
  split
  · exact beside_pbHand s _
  · exact (beside_pbEntry s _ _ _ _).trans (statusOnly_eventStatus _ _ _).beside

theorem Reported.beside (h : Reported s u) : Beside G T s u :=
  ⟨fun _ a _ => h.reg a, (congrArg State.job h.rest :), (congrArg (fun v : State => v.res.lost) h.rest :), (congrArg State.scene h.rest :),
    fun _ => (congrArg State.tiles h.rest :)⟩

theorem beside_jobRisk (s : State) : Beside G T s s.jobRisk := by
  unfold State.jobRisk
  split
  · exact (beside_setFld s _ fun _ => by decide).trans (beside_setFld _ _ fun _ => by decide)
  · exact .refl s

theorem beside_riskSet (s : State) : Beside G T s s.riskSet :=
  ((beside_setFld (f := R.RS_RISK_FLOOR) s _ fun _ => by decide).trans (beside_setFld (f := R.RS_RISK_ESTIMATE) _ _ fun _ => by decide)).trans
    (beside_setFld (f := R.RS_RISK_BAND) _ _ fun _ => by decide)

theorem beside_bandTold (s t : State) : Beside G T t (s.bandTold t) := beside_ite (.refl t) (beside_hostEvent t _ _ _)

theorem beside_reRisk (s : State) : Beside G T s s.reRisk := by
  rw [reRisk_eq]
  exact (((beside_riskSet s).trans (beside_bandTold s _)).trans (reported_reportRisk _).beside).trans (beside_jobRisk _)

theorem beside_health (s : State) (n : Nat) : Beside G T s (s.health n) := (beside_setFld s _ fun _ => by decide).trans (beside_reRisk _)

/-! ### The cache -/

theorem beside_storeLine (s : State) (g : Nat) (l : CLine) : Beside G T s (s.storeLine g l) :=
  (beside_setBytes _ s _).trans (beside_foldl (fun _ _ => beside_setPoison _ _ _) _ _)

theorem beside_writeBack (s : State) (g : Nat) : Beside G T s (s.writeBack g) :=
  beside_ite (((beside_storeLine s g _).trans (beside_setLine _ _ _)).trans
    (beside_addFld _ (f := R.WG_WRITEBACKS_COUNT _) 1 fun _ => unread_add (by decide) _)) (.refl s)

theorem beside_flushLine (s : State) (g : Nat) : Beside G T s (s.flushLine g) := (beside_writeBack s g).trans (beside_setLine _ _ _)

theorem beside_flushRange (s : State) (a n : Nat) : Beside G T s (s.flushRange a n) := beside_foldl (fun _ _ => beside_flushLine _ _) _ _

theorem beside_allocLine (s : State) (g : Nat) (keep : Bool) : Beside G T s (s.allocLine g keep) := by
  unfold State.allocLine
  extract_lets cs same u psn
  have hu : Beside G T s u := by
    refine beside_ite (.refl s) ?_
    split
    · exact beside_flushLine s _
    · exact .refl s
  exact hu.trans ⟨fun _ _ _ => rfl, rfl, rfl, rfl, fun _ => rfl⟩

theorem beside_setTrapPoison (s : State) (u : Nat) (p : Bool) : Beside G T s (s.setTrapPoison u p) :=
  beside_ite (beside_setLine s _ _) (beside_setPoison s u p)

/-- A granule that hits. -/
theorem beside_hit (s : State) (d : Nat) : Beside G T s (s.addFld (R.WG_HITS_COUNT d) 1) := beside_addFld s 1 fun _ => unread_add (by decide) _

/-- A granule that misses, with the line it allocates. -/
theorem beside_miss (s : State) (d g : Nat) (c k : Bool) :
    Beside G T s (if c then s.addFld (R.WG_MISSES_COUNT d) 1 else (s.addFld (R.WG_MISSES_COUNT d) 1).allocLine g k) := by
  have h : Beside G T s (s.addFld (R.WG_MISSES_COUNT d) 1) := beside_addFld s 1 fun _ => unread_add (by decide) _
  exact beside_ite h (h.trans (beside_allocLine _ _ _))

theorem beside_cacheOnRead (s : State) (a len hint : Nat) (narrow : Bool) : Beside G T s (s.cacheOnRead a len hint narrow) := by
  have hhit : Beside G T s (s.addFld (R.WG_HITS_COUNT (trapHome a).1) 1) := beside_hit s _
  unfold State.cacheOnRead
  dsimp only
  refine beside_ite (.refl s) (beside_ite (beside_ite hhit ?_) (beside_miss s _ _ _ _))
  refine beside_ite (hhit.trans (beside_setLine_clock _ _ _ _)) (beside_ite (hhit.trans (beside_setLine _ _ _)) (beside_ite ?_ hhit))
  exact (hhit.trans (beside_setLine _ _ _)).trans (beside_addFld _ (f := R.WG_DROPS_COUNT _) 1 fun _ => unread_add (by decide) _)

theorem beside_cacheOnWrite (s : State) (a hint : Nat) (narrow : Bool) : Beside G T s (s.cacheOnWrite a hint narrow) := by
  have hhit : Beside G T s (s.addFld (R.WG_HITS_COUNT (trapHome a).1) 1) := beside_hit s _
  unfold State.cacheOnWrite
  dsimp only
  exact beside_ite (beside_ite hhit (beside_ite (hhit.trans (beside_setLine_clock _ _ _ _)) (beside_ite (hhit.trans (beside_setLine _ _ _)) hhit)))
    (beside_ite (beside_miss s _ _ _ _) (.refl s))

theorem beside_trapWritePiece (s : State) (a : Nat) (d : List Byte) : Beside G T s (s.trapWritePiece a d) :=
  beside_ite (beside_setLine s _ _) (beside_setBytes d s a)

theorem beside_writeUnits (s : State) (r : Region) (a : Nat) (d : List Byte) {wr : State → Nat → List Byte → State}
    (hw : ∀ t lo p, Beside G T t (wr t lo p)) : Beside G T s (s.writeUnits r a d wr).1 := by
  rw [writeUnits_eq]
  refine List.foldlRecOn _ _ (motive := fun z : State × Bool => Beside G T s z.1) (.refl s) fun z hz u _ => hz.trans ?_
  unfold writeUnit
  dsimp only
  split
  · exact .refl _
  · split
    · exact beside_ite ((hw _ _ _).trans (beside_setTrapPoison _ _ _)) (hw _ _ _)
    · exact beside_ite ((hw _ _ _).trans (beside_setPoison _ _ _)) (hw _ _ _)

/-! ### Errors that an access meets -/

theorem beside_watch (s : State) (m : SMap (List WatchEnt)) : Beside G T s { s with watch := m } := ⟨fun _ _ _ => rfl, rfl, rfl, rfl, fun _ => rfl⟩

theorem beside_watchError (s : State) (mid st loc a : Nat) : Beside G T s (s.watchError mid st loc a) := by
  unfold State.watchError
  extract_lets u r w th
  have hu : Beside G T s u := beside_countFld s (f := R.TP_ECC_CORRECTED st) 1 fun _ => unread_add (by decide) _
  have hw : Beside G T s w := hu.trans (beside_watch u _)
  exact beside_ite ((hw.trans (beside_memEvent w _ _ _)).trans (beside_health _ _)) hw

theorem beside_correctedInTile (s : State) (mid t d : Nat) :
    Beside G T s (if s.corrSeen.contains t then s else { (s.pbEntry pbCorrected mid 0 d) with corrSeen := t :: s.corrSeen }) := by
  refine beside_ite (.refl s) ?_
  have hp : Beside G T s (s.pbEntry pbCorrected mid 0 d) := beside_pbEntry s _ _ _ _
  generalize s.pbEntry pbCorrected mid 0 d = u at hp
  exact hp.trans ⟨fun _ _ _ => rfl, rfl, rfl, rfl, fun _ => rfl⟩

theorem beside_eccCorrected (s : State) (mid : Nat) (r : Region) (a : Nat) : Beside G T s (s.eccCorrected mid r a) := by
  cases r with
  | trap st loc => exact beside_ite (beside_countFld s (f := R.WG_ECC_CORRECTED st) 1 fun _ => unread_add (by decide) _) (beside_watchError s _ _ _ _)
  | wings d o => exact beside_countFld s (f := R.WG_ECC_CORRECTED d) 1 fun _ => unread_add (by decide) _
  | tbank t b => exact beside_pbEntry s pbCorrected (tileMid t) 0 (s.mySeat * 2 ^ 44 + a)
  | tdata t => exact beside_correctedInTile s mid t (s.mySeat * 2 ^ 44 + a)
  | tacc t => exact beside_correctedInTile s mid t (s.mySeat * 2 ^ 44 + a)
  | tshadow t => exact beside_correctedInTile s mid t (s.mySeat * 2 ^ 44 + a)
  | tpmem t => exact beside_correctedInTile s mid t (s.mySeat * 2 ^ 44 + a)
  | tregs t => exact .refl s
  | breg b => exact .refl s
  | ring => exact .refl s
  | unmapped => exact .refl s

theorem beside_errLog (s : State) (st cause u mid : Nat) : Beside G T s (s.errLog st cause u mid) := by
  have h0 : G → Unread (R.TP_ERRLOG0 st) := fun _ => unread_add (by decide) _
  have h1 : G → Unread (R.TP_ERRLOG1 st) := fun _ => unread_add (by decide) _
  exact beside_ite (.refl s) (((((beside_raiseFld s h0).trans (beside_setFld _ _ h0)).trans (beside_setFld _ _ h0)).trans (beside_setFld _ _ h1)).trans
    (beside_setFld _ _ h1))

theorem beside_eccUncorrectable (s : State) (mid : Nat) (r : Region) (a : Nat) : Beside G T s (s.eccUncorrectable mid r a) := by
  cases r with
  | trap st loc =>
    refine beside_ite ((beside_setTrapPoison s _ _).trans (beside_countFld _ (f := R.WG_ECC_UNCORR st) 1 fun _ => unread_add (by decide) _)) ?_
    exact ((beside_setPoison s _ _).trans (beside_countFld _ (f := R.TP_ECC_UNCORR st) 1 fun _ => unread_add (by decide) _)).trans
      (beside_errLog _ _ _ _ _)
  | wings d o =>
    exact (beside_setPoison s (unitBase (.wings d o) a) true).trans (beside_countFld _ (f := R.WG_ECC_UNCORR d) 1 fun _ => unread_add (by decide) _)
  | tdata t => exact beside_setPoison s (unitBase (.tdata t) a) true
  | tacc t => exact beside_setPoison s (unitBase (.tacc t) a) true
  | tshadow t => exact beside_setPoison s (unitBase (.tshadow t) a) true
  | tpmem t => exact beside_setPoison s (unitBase (.tpmem t) a) true
  | tbank t b => exact .refl s
  | tregs t => exact .refl s
  | breg b => exact .refl s
  | ring => exact .refl s
  | unmapped => exact .refl s

theorem beside_meetFlaw (s : State) (mid u : Nat) : Beside G T s (s.meetFlaw mid u).2 := by
  unfold State.meetFlaw
  dsimp only
  split
  · exact .refl s
  · split
    · exact (beside_eccCorrected s _ _ _).trans (beside_setFlaw _ _ _)
    · exact (beside_eccUncorrectable s mid (regionOf s.cacheN u) u).trans
        ((beside_ite (beside_memEntry _ _ _ _) (.refl _)).trans (beside_setFlaw _ _ _))

theorem beside_meetFlaws (s : State) (mid a n : Nat) : Beside G T s (s.meetFlaws mid a n).2 := by
  unfold State.meetFlaws
  split
  · exact .refl s
  · exact beside_foldl_snd (f := fun (acc : Bool × State) u => (acc.1 || (acc.2.meetFlaw mid u).1, (acc.2.meetFlaw mid u).2))
      (fun acc u => beside_meetFlaw acc.2 mid u) _ (false, s)

theorem beside_mergeReads (s : State) (mid : Nat) (us : List Nat) : Beside G T s (s.mergeReads mid us).2 :=
  beside_foldl_snd (f := fun (acc : Bool × State) u => (acc.1 || (acc.2.meetFlaws mid u 32).1, (acc.2.meetFlaws mid u 32).2))
    (fun acc u => beside_meetFlaws acc.2 mid u 32) us (false, s)

theorem beside_cleanFlaws (s : State) (a n : Nat) : Beside G T s (s.cleanFlaws a n) :=
  beside_ite (.refl s) (beside_foldl (fun _ _ => beside_setFlaw _ _ _) _ _)

theorem beside_plantFlaw (s : State) (x : Option Nat) (k : Nat) : Beside G T s (s.plantFlaw x k) := by
  unfold State.plantFlaw
  split
  · exact .refl s
  · split
    · exact .refl s
    · exact .refl s
    · exact .refl s
    · exact .refl s
    · exact beside_setFlaw s _ _

theorem beside_plant (s : State) (e : EccFinding) : Beside G T s (s.plant e) := (beside_plantFlaw s _ 1).trans (beside_plantFlaw _ _ 2)

/-! ### Reads and writes at their home -/

theorem beside_poisonRead (s : State) (c : Bool) (st : Nat) : Beside G T s (if c then s.countFld (R.TP_ECC_POISON_READS st) 1 else s) :=
  beside_ite (beside_countFld s 1 fun _ => unread_add (by decide) _) (.refl s)

theorem beside_performRead (s : State) (q : MemReq) (r : Region) : Beside G T s (s.performRead q r).2 := by
  have hm : Beside G T s ((s.plant q.ecc).meetFlaws q.mid q.addr q.len).2 := (beside_plant s _).trans (beside_meetFlaws _ _ _ _)
  unfold State.performRead
  generalize (s.plant q.ecc).meetFlaws q.mid q.addr q.len = f at hm
  cases r with
  | trap st loc => exact (hm.trans (beside_poisonRead f.2 _ st)).trans (beside_foldl (fun _ _ => beside_cacheOnRead _ _ _ _ _) _ _)
  | _ => exact hm

theorem beside_setTile (s : State) (t : Nat) (x : TileX) : Beside G False s (s.setTile t x) := ⟨fun _ _ _ => rfl, rfl, rfl, rfl, nofun⟩

theorem beside_noteWrites (s : State) (a : Nat) (l : List Byte) : Beside G False s (s.noteWrites a l) := beside_ite (.refl s) (beside_setTile s _ _)

theorem beside_sramWrite (s : State) (a : Nat) (who : Option (Nat × Nat)) (d : List Byte) : Beside G False s (s.sramWrite a who d) := by
  unfold State.sramWrite
  extract_lets v
  have hv : Beside G False s v :=
    beside_foldl (fun t _ => beside_ite (.refl t) ((beside_setByte t _ _).trans (beside_noteWrites _ _ _))) _ s
  split
  · exact hv.trans ⟨fun _ _ _ => rfl, rfl, rfl, rfl, nofun⟩
  · exact hv

theorem beside_dcUpd (s : State) (die : Nat) (g : DcLive → DcLive) : Beside G T s (s.dcUpd die g) := ⟨fun _ _ _ => rfl, rfl, rfl, rfl, fun _ => rfl⟩

theorem beside_dcAbandon (s : State) (t : Nat) : Beside G False s (s.dcAbandon t) := by
  unfold State.dcAbandon
  split
  · exact .refl s
  · exact (beside_setTile s _ _).trans (beside_dcUpd _ _ _)

theorem beside_dcWindowWrite (s : State) (t a n : Nat) : Beside G False s (s.dcWindowWrite t a n) := by
  unfold State.dcWindowWrite
  split
  · exact .refl s
  · exact beside_ite (beside_dcAbandon s t) (.refl s)

theorem beside_bankWrite (s : State) (t b a : Nat) (d : List Byte) : Beside G T s (s.bankWrite t b a d) := by
  obtain ⟨m, h⟩ := bankWrite_mem s t b a d
  rw [h]
  exact ⟨fun _ _ _ => rfl, rfl, rfl, rfl, fun _ => rfl⟩

theorem beside_performWrite_trap (s : State) (q : MemReq) (st loc : Nat) (d : List Byte) : Beside G T s (s.performWrite q (.trap st loc) d).2 := by
  unfold State.performWrite
  dsimp -zeta only
  extract_lets u partials old f v w x y
  have hv : Beside G T u v := (beside_mergeReads u q.mid partials).trans (beside_cleanFlaws f.2 q.addr d.length)
  have hw : Beside G T v w := beside_poisonRead v old st
  have hx : Beside G T w x := beside_foldl (fun _ _ => beside_cacheOnWrite _ _ _ _) _ _
  exact (beside_plant s q.ecc).trans (((hv.trans hw).trans hx).trans (beside_writeUnits x _ _ _ fun _ _ _ => beside_trapWritePiece _ _ _))

theorem beside_performWrite_store (s : State) (q : MemReq) (r : Region) (d : List Byte) :
    Beside G False s ((s.cleanFlaws q.addr d.length).writeUnits r q.addr d (fun t lo piece => t.sramWrite lo (q.who r) piece)).1 :=
  (beside_cleanFlaws s _ _).trans (beside_writeUnits _ _ _ _ fun _ _ _ => beside_sramWrite _ _ _ _)

theorem beside_performWrite (s : State) (q : MemReq) (r : Region) (d : List Byte) : Beside G False s (s.performWrite q r d).2 := by
  have hp : Beside G False s (s.plant q.ecc) := beside_plant s q.ecc
  cases r with
  | trap st loc => exact beside_performWrite_trap s q st loc d
  | wings die off => exact (hp.trans (beside_cleanFlaws _ _ _)).trans (beside_writeUnits _ _ _ _ fun _ _ _ => beside_setBytes _ _ _)
  | tbank t b => exact (hp.trans (beside_cleanFlaws _ _ _)).trans (beside_bankWrite _ _ _ _ _)
  | ring => exact hp.trans (beside_setBytes _ _ _)
  | tacc t => exact (hp.trans (beside_dcWindowWrite _ _ _ _)).trans (beside_performWrite_store _ q (.tacc t) d)
  | tdata t => exact hp.trans (beside_performWrite_store _ q (.tdata t) d)
  | tshadow t => exact hp.trans (beside_performWrite_store _ q (.tshadow t) d)
  | tpmem t => exact hp.trans (beside_performWrite_store _ q (.tpmem t) d)
  | tregs t => exact hp.trans (beside_performWrite_store _ q (.tregs t) d)
  | breg b => exact hp.trans (beside_performWrite_store _ q (.breg b) d)
  | unmapped => exact hp.trans (beside_performWrite_store _ q .unmapped d)

theorem beside_homeGrant (s : State) (r : Region) (i : HomeIn) : Beside G T s (s.homeGrant r i) := by
  obtain ⟨arb, h⟩ := homeGrant_eq s r i
  rw [h]
  exact ⟨fun _ _ _ => rfl, rfl, rfl, rfl, fun _ => rfl⟩

/-- An access performed; only a write touches tiles. -/
theorem beside_perform (s : State) (q : MemReq) (r : Region) : Beside G (q.write = none) s (s.perform q r).2 := by
  unfold State.perform
  extract_lets u
  have hu : Beside G (q.write = none) s u := beside_ite (.refl s) (beside_homeGrant s r _)
  refine hu.trans ?_
  split
  · exact beside_performRead u q r
  · next d hd => exact (beside_performWrite u q r d).weaken id fun h => absurd (hd.symm.trans h) (by nofun)

theorem beside_atHome (s : State) (q : MemReq) (r : Region) : Beside G (q.write = none) s (s.atHome q r).2 := by
  have hperform : Beside G (q.write = none) s (s.perform q r).2 := beside_perform s q r
  unfold State.atHome
  dsimp only
  split
  · split
    · exact (beside_errLog s _ _ _ _).trans (beside_memEntry _ _ _ _)
    · exact hperform
  · split
    · exact beside_memEntry s _ _ _
    · exact hperform
  · split
    · exact beside_pbEntry s _ _ _ _
    · exact hperform
  · exact hperform

/-! ### A tile's own registers -/

theorem beside_clearRc (s : State) (f : Fld) : Beside False T s (s.clearRc f) :=
  (beside_setFld s _ nofun).trans (beside_ite (.refl _) ⟨nofun, rfl, rfl, rfl, fun _ => rfl⟩)

theorem beside_regReadEffect (s : State) (a off n : Nat) : Beside False T s (s.regReadEffect a off n) := by
  refine beside_foldl (fun t f => ?_) _ s
  split
  · exact beside_ite (beside_clearRc t _) (.refl t)
  · exact .refl t

theorem beside_regWrite (s : State) (a off n v : Nat) : Beside False T s (s.regWrite a off n v) := beside_setReg s _ nofun

theorem beside_keepForce (s : State) (a : Nat) : Beside G T s (s.keepForce a) :=
  beside_ite (.refl s) ⟨fun _ _ _ => rfl, rfl, rfl, rfl, fun _ => rfl⟩

theorem beside_reseedSoon (s : State) (n : Nat) : Beside G T s (s.reseedSoon n) := ⟨fun _ _ _ => rfl, rfl, rfl, rfl, fun _ => rfl⟩

theorem beside_tileRegStore (s : State) (t a n v : Nat) : Beside False T s (s.tileRegStore t a n v) := by
  unfold State.tileRegStore
  extract_lets r u
  have hu : Beside False T s u := ⟨nofun, rfl, rfl, rfl, fun _ => rfl⟩
  have hseed : Beside False T u (u.seedWrite t (a % 8) n v) :=
    ((beside_keepForce u _).trans (beside_regWrite _ _ _ _ _)).trans (beside_reseedSoon _ _)
  exact beside_ite hu (beside_ite (hu.trans hseed) (beside_ite (hu.trans ((beside_keepForce u _).trans (beside_regWrite _ _ _ _ _)))
    (hu.trans (beside_regWrite u _ _ _ _))))

theorem beside_ownRegs (s : State) (q : MemReq) (t : Nat) : Beside False T s (s.ownRegs q t).2 := by
  unfold State.ownRegs
  split
  · exact beside_memEntry s _ _ _
  · refine beside_foldl_snd (fun acc u => ?_) _ ((⟨0, [], [], 0⟩ : MemEnd), s)
    dsimp only
    split
    · exact beside_memEntry acc.2 _ _ _
    · split
      · exact beside_regReadEffect acc.2 _ _ _
      · split
        · exact beside_memEntry acc.2 _ _ _
        · split
          · exact .refl acc.2
          · exact beside_tileRegStore acc.2 _ _ _ _

/-! ### The access -/

/-- The masters that are no tiles reach no tile's registers. -/
theorem beside_memAccess (s : State) (q : MemReq) : Beside (q.mid < 0x800) (q.write = none) s (s.memAccess q).2 := by
  have hrefuse : ∀ c, Beside (q.mid < 0x800) (q.write = none) s (s.memEntry q.mid c q.addr) := fun c => beside_memEntry s _ _ _
  unfold State.memAccess
  dsimp only
  split
  · exact hrefuse _
  · exact hrefuse _
  · next t _ =>
    split
    · next ht => exact (beside_ownRegs s q t).weaken (fun h => by unfold tileMid at ht; omega) id
    · exact hrefuse _
  · split
    · exact hrefuse _
    · split
      · exact hrefuse _
      · split
        · exact hrefuse _
        · exact beside_atHome s q _
        · next a v _ => exact beside_atHome s { q with addr := a } (regionOf s.cacheN a)

theorem beside_access (s : State) (q : MemReq) : Beside (q.mid < 0x800) (q.write = none) s (s.access q).2 :=
  (beside_memAccess s q).trans (beside_ite (beside_memEntry _ _ _ _) (.refl _))

theorem beside_poisonAt (s : State) (a : Nat) : Beside G T s (s.poisonAt a) := by
  unfold State.poisonAt
  dsimp only
  split
  · exact beside_setTrapPoison s _ _
  · exact .refl s
  · exact .refl s
  · exact .refl s
  · exact .refl s
  · exact .refl s
  · exact beside_setPoison s _ _

theorem beside_moverRead (s : State) (mid a n hint : Nat) (narrow : Bool) (ecc : EccFinding) :
    Beside (mid < 0x800) T s (s.moverRead mid a n hint narrow ecc).2 :=
  (beside_plant s ecc).trans (List.foldlRecOn _ _
    (motive := fun z : (List SrcByte × List (Nat × Nat) × List (Nat × Nat)) × State => Beside (mid < 0x800) T (s.plant ecc) z.2) (.refl _)
    fun z hz _ _ => hz.trans ((beside_access z.2 _).weaken id fun _ => rfl))

theorem beside_moverWrite (s : State) (mid a hint : Nat) (narrow : Bool) (ecc : EccFinding) (ord : Option Nat) (l : List (Byte × Bool)) :
    Beside (mid < 0x800) False s (s.moverWrite mid a hint narrow ecc ord l).2 := by
  refine (beside_plant s ecc).trans (beside_foldl_snd (fun acc p => ?_) (granulesOver a l.length) (([], 0), s.plant ecc))
  refine ((beside_access acc.2 ⟨mid, p.1, p.2, some (((l.drop (p.1 - a)).take p.2).map Prod.fst), hint, narrow, noEcc, ord⟩).weaken id nofun).trans ?_
  exact beside_ite (.refl _) (beside_foldl (fun _ _ => beside_poisonAt _ _) _ _)

/-! ### The resilience engine's reads and writes (R469, R478) -/

theorem beside_resFail (s : State) (job : Nat) : Beside G T s (s.resFail job) := ⟨fun _ _ _ => rfl, rfl, rfl, rfl, fun _ => rfl⟩

theorem beside_resRead (s : State) (job a n : Nat) : Beside True T s (s.resRead job a n).2 :=
  ((beside_moverRead s 5 a n 0 false noEcc).weaken (fun _ => by decide) id).trans (beside_ite (beside_resFail _ _) (.refl _))

theorem beside_resWrite (s : State) (job a : Nat) (l : List PByte) : Beside True False s (s.resWrite job a l) :=
  ((beside_moverWrite s 5 a 0 false noEcc none l).weaken (fun _ => by decide) id).trans (beside_ite (beside_resFail _ _) (.refl _))

theorem beside_resZero (s : State) (a n : Nat) : Beside True False s (s.resZero a n) := beside_resWrite s _ _ _

theorem beside_copyImage (s : State) (job k i copy : Nat) : Beside True T s (s.copyImage job k i copy).2 :=
  List.foldlRecOn _ _ (motive := fun z : List PByte × State => Beside True T s z.2) (.refl s) fun z hz c _ =>
    hz.trans (beside_resRead z.2 job (s.compBase k i c copy) (s.compBytes k i c))

end Sys2Proof.Machine
end

section
/-!
PROOFS. What a permute and an applied plan leave alone of the job (O40).
-/
namespace Sys2Proof.Machine
open Sys2Proof.Claim

variable {G T : Prop} {s u w : State}

/-! ### XOR reduce-writes (R277, R473) -/

theorem beside_setTe (s : State) (k : Nat) (x : TeStack) : Beside G T s (s.setTe k x) := ⟨fun _ _ _ => rfl, rfl, rfl, rfl, fun _ => rfl⟩

theorem beside_orReg (s : State) (a v : Nat) : Beside False T s (s.orReg a v) :=
  beside_ite (.refl s) ((beside_noteEvt s _ v).trans (beside_setReg _ _ False.elim))

theorem beside_countEnc (s : State) (k : Nat) (c : EncCnt) : Beside G T s (s.countEnc k c) :=
  beside_ite (.refl s) ⟨fun _ _ _ => rfl, rfl, rfl, rfl, fun _ => rfl⟩

theorem beside_teStat (s : State) (k e : Nat) (c : CvtStat) : Beside False T s (s.teStat k e c) :=
  ((beside_orReg s _ _).trans (beside_ite (.refl _) (beside_countFld _ _ False.elim))).trans (beside_countEnc _ _ _)

theorem beside_teDrew (s : State) (k e n : Nat) : Beside G T s (s.teDrew k e n) := beside_ite (.refl s) (beside_setTe s _ _)

theorem beside_countPoison (s : State) (q : RedReq) (r : Region) : Beside False T s (s.countPoison q r) := by
  unfold State.countPoison
  split
  · exact beside_ite (beside_countFld s _ False.elim) (.refl s)
  · exact .refl s

theorem beside_poisonIn (s : State) (r : Region) (u : Nat) : Beside G T s (s.poisonIn r u) := by
  unfold State.poisonIn
  split
  · exact beside_setTrapPoison s u true
  · exact beside_setPoison s u true

theorem beside_reducePrep (s : State) (q : RedReq) (r : Region) : Beside G T s (s.reducePrep q r).2 := by
  unfold State.reducePrep
  extract_lets v
  have hv : Beside G T s v := by
    change Beside G T s (match r with | .trap _ _ => s.flushRange q.addr q.data.length | _ => s)
    split
    · exact beside_flushRange s _ _
    · exact .refl s
  exact (hv.trans (beside_plant v _)).trans (beside_meetFlaws _ _ _ _)

theorem beside_usedFree (s : State) (n : Nat) : Beside G T s (s.usedFree n) := ⟨fun _ _ _ => rfl, rfl, rfl, rfl, fun _ => rfl⟩

theorem beside_reduceNow (s : State) (q : RedReq) (f : FmtWord) (r : Region) (k : Nat) : Beside False T s (s.reduceNow q f r k).2 := by
  unfold State.reduceNow
  extract_lets p un g s1 n z old unitsOf bad hit skip res s2 s3 s4 s5
  have h1 : Beside False T s s1 := ((beside_countPoison s q r).trans (beside_reducePrep _ q r)).trans (beside_setTe p.2 k _)
  have h2 : Beside False T s1 s2 := beside_foldl (fun _ _ => beside_setByte _ _ _) _ s1
  have h3 : Beside False T s2 s3 := beside_foldl (fun _ _ => beside_poisonIn _ _ _) _ s2
  have h4 : Beside False T s3 s4 := beside_ite (.refl s3) (beside_usedFree s3 n)
  have h5 : Beside False T s4 s5 := (beside_teStat s4 k g.1 _).trans (beside_teDrew _ k g.1 _)
  exact (((h1.trans h2).trans h3).trans h4).trans h5

theorem beside_reduceHome (s : State) (q : RedReq) (r : Region) (k : Nat) : Beside False T s (s.reduceHome q r k).2 := by
  unfold State.reduceHome
  dsimp only
  split
  · exact (beside_ite (beside_errLog s _ _ _ _) (.refl s)).trans (beside_memEntry _ _ _ _)
  · exact ((beside_homeGrant s r .c0).trans (beside_reduceNow _ q _ r k)).trans (beside_ite (.refl _) (beside_memEntry _ _ _ _))

/-- An XOR reduce-write, which counts in no buffer. -/
theorem beside_reduceWrite (s : State) (internal : Bool) {q : RedReq} (hq : q.xor = true) : Beside False T s (s.reduceWrite internal q).2 := by
  have hrefuse : ∀ c, Beside False T s (s.memEntry q.mid c q.addr) := fun c => beside_memEntry s _ _ _
  unfold State.reduceWrite
  dsimp only
  rw [if_pos hq, hq, Bool.true_or]
  split
  · exact hrefuse _
  · split
    · exact hrefuse _
    · split
      · exact hrefuse _
      · split
        · exact hrefuse _
        · split
          · exact beside_setTe s _ _
          · exact beside_reduceHome s q _ _

theorem beside_resXor (s : State) (a : Nat) (l : List PByte) : Beside False T s (s.resXor a l) :=
  beside_foldl (fun t _ => beside_reduceWrite t true rfl) _ s

/-! ### Items that move (R344) -/

theorem beside_permuteLess (s : State) (n : Nat) : Beside False T s (s.permuteLess n) := beside_setFld s _ False.elim

theorem beside_sendReq (s : State) (owner : ReqOwner) (op mid dst addr hint fmt : Nat) (d : List Byte) (psn : List Bool) (n rdst : Nat) :
    Beside G T s (s.sendReq owner op mid dst addr hint fmt d psn n rdst) := ⟨fun _ _ _ => rfl, rfl, rfl, rfl, fun _ => rfl⟩

/-- What the engine waits for changes, and no seat is lost by it. -/
theorem beside_setRes (s : State) {x : ResState} (h : x.lost = s.res.lost) : Beside G T s (s.setRes x) := ⟨fun _ _ _ => rfl, rfl, h, rfl, fun _ => rfl⟩

/-- One more answer to a permute's requests is waited for. -/
def State.awaited (s : State) : State :=
  s.setRes { s.res with wait := (jobPermute, s.resWait jobPermute + 1) :: s.res.wait.filter (fun w => w.1 != jobPermute) }

theorem beside_permSend (s : State) (op dst a : Nat) (l : List PByte) : Beside False False s (s.permSend op dst a l) := by
  refine beside_ite (.refl s) (beside_ite ?_ (beside_foldl (fun t _ => ?_) _ s))
  · exact (beside_ite (beside_resXor s a l) ((beside_resWrite s jobPermute a l).weaken nofun id)).trans (beside_permuteLess _ _)
  · exact Beside.trans (u := t.awaited) (beside_setRes t rfl) (beside_sendReq _ _ _ _ _ _ _ _ _ _ _ _)

theorem beside_permConvert (s : State) (k src dst n : Nat) : Beside False False s (s.permConvert k src dst n) := by
  unfold State.permConvert
  extract_lets mid r v
  have hr : Beside False False s r.2 := (beside_moverRead s mid src n 1 false noEcc).weaken nofun id
  have hv : Beside False False r.2 v.2 := (beside_moverWrite r.2 mid dst 1 false noEcc none _).weaken nofun id
  exact ((hr.trans hv).trans (beside_ite (beside_resFail v.2 _) (.refl v.2))).trans (beside_permuteLess _ _)

theorem beside_sendOwn (s : State) (p : PShard) (new : Plan) : Beside False False s (s.sendOwn p new) :=
  beside_foldl (fun _ _ => beside_foldl (fun _ _ => beside_foldl (fun t _ => beside_ite (beside_permConvert t _ _ _ _)
    (((beside_resRead t _ _ _).weaken nofun id).trans (beside_permSend _ _ _ _ _))) _ _) _ _) _ s

theorem beside_segment (s : State) (st : StripeArea) (a : ShardArea) (stripe : Nat) (front : Bool) : Beside True T s (s.segment st a stripe front).2 := by
  unfold State.segment
  dsimp only
  split
  · exact beside_copyImage s _ _ _ _
  · exact beside_resRead s _ _ _

theorem beside_sendLost (s : State) (lost : Nat) (old : PShard) (dst : Nat) (news : List PShard) :
    Beside False False s (s.sendLost lost old dst news) := by
  have hread : ∀ (t : State) (a n : Nat), Beside False False t (t.resRead jobPermute a n).2 := fun t a n => (beside_resRead t _ a n).weaken nofun id
  unfold State.sendLost
  extract_lets m j pieces keep b
  split
  · split
    · exact .refl s
    · split
      · exact .refl s
      · exact beside_foldl (fun t _ => (hread t _ _).trans (beside_permSend _ _ _ _ _)) _ s
  · split
    · exact .refl s
    · next st _ =>
      refine beside_foldl (fun t i => ?_) _ s
      extract_lets stripe h src
      have hsrc : Beside False False t src.2 := by
        change Beside False False t (if _ then _ else _ : List PByte × State).2
        split
        · exact hread t _ _
        · exact List.foldlRecOn _ _ (motive := fun z : List PByte × State => Beside False False t z.2) (.refl t) fun z hz a _ =>
            hz.trans ((beside_segment z.2 st a stripe true).weaken nofun id)
      exact hsrc.trans (beside_foldl (fun _ _ => beside_permSend _ _ _ _ _) _ _)

/-! ### Every shard rolled back (R490) -/

theorem beside_writeImage (s : State) (job k i copy : Nat) (l : List PByte) : Beside False False s (s.writeImage job k i copy l) :=
  List.foldlRecOn _ _ (motive := fun z : List PByte × State => Beside False False s z.2) (.refl s) fun z hz _ _ =>
    hz.trans ((beside_resWrite z.2 job _ _).weaken nofun id)

theorem beside_resZero_stores (s : State) (a n : Nat) : Beside False False s (s.resZero a n) := (beside_resZero s a n).weaken nofun id

theorem beside_clearShard (s : State) (k i : Nat) : Beside False T s (s.clearShard k i) :=
  (((beside_setFld (f := R.TP_SHARD_W0_WRITTEN k i) s 0 False.elim).trans (beside_setFld (f := R.TP_SHARD_W0_FIRED k i) _ 0 False.elim)).trans
    (beside_setFld (f := R.TP_SHARD_W0_SPEC k i) _ 0 False.elim)).trans (beside_setReg _ 0 False.elim)

theorem beside_settleShard (s : State) (target k i : Nat) : Beside False False s (s.settleShard target k i) := by
  unfold State.settleShard
  extract_lets v x g
  have hv : Beside False False s v := ((beside_setFld (f := R.TP_SHARD_W1_VERSION k i) s target False.elim).trans
    (beside_setFld (f := R.TP_SHARD_W0_FRONT k i) _ 0 False.elim)).trans (beside_clearShard _ k i)
  exact (hv.trans (beside_setFld (f := R.TP_SHARD_W13_ARRIVED k i) v 0 False.elim)).trans (beside_resZero_stores x _ _)

theorem beside_zeroDeltas (s : State) (a : ShardArea) : Beside False False s (s.zeroDeltas a) :=
  ((beside_ite (beside_resZero_stores s _ _) (.refl s)).trans (beside_resZero_stores _ _ _)).trans (beside_resZero_stores _ _ _)

/-- The image that a rollback restores, as it is read (R490). -/
theorem beside_rollImage (s : State) (a : ShardArea) (n : Nat) : Beside False False s
    (if a.method = 1 then s.resRead jobRebuild a.keep n
      else
        let f := s.copyImage jobRebuild a.stack a.entry (s.frontCopy a.stack a.entry)
        let d := f.2.resRead jobRebuild a.acc n
        let w := xorBytes f.1 d.1
        if s.res.heldX.contains (a.stack, a.entry) then
          let x := d.2.resRead jobRebuild a.delta n
          (xorBytes w x.1, x.2)
        else (w, d.2)).2 := by
  have hread : ∀ (t : State) (a n : Nat), Beside False False t (t.resRead jobRebuild a n).2 := fun t a n => (beside_resRead t _ a n).weaken nofun id
  have hcopy : ∀ c, Beside False False s (s.copyImage jobRebuild a.stack a.entry c).2 := fun c => (beside_copyImage s _ _ _ c).weaken nofun id
  split
  · exact hread s _ _
  · dsimp only
    split
    · exact ((hcopy _).trans (hread _ _ _)).trans (hread _ _ _)
    · exact (hcopy _).trans (hread _ _ _)

theorem beside_rollShard (s : State) (target : Nat) (a : ShardArea) : Beside False False s (s.rollShard target a) := by
  have himage := beside_rollImage s a (s.shardBytes a.stack a.entry)
  exact ((himage.trans (beside_writeImage _ jobRebuild a.stack a.entry 0 _)).trans (beside_settleShard _ target a.stack a.entry)).trans (beside_zeroDeltas _ a)

theorem beside_setHolds (s : State) (v : Nat) : Beside False T s (s.setHolds v) := beside_foldl (fun t _ => beside_setFld t v False.elim) _ s

/-- No delta is held or owed. -/
def State.deltasGone (s : State) : State := s.setRes { s.res with heldX := [], owed := [], deltas := [] }

theorem rollback_eq (s : State) (target : Nat) :
    s.rollback target = ((s.res.areas.foldl (fun t a => t.rollShard target a) s).deltasGone).setHolds 0 := rfl

theorem beside_deltasGone (s : State) : Beside G T s s.deltasGone := beside_setRes s rfl

theorem beside_rollback (s : State) (target : Nat) : Beside False False s (s.rollback target) := by
  rw [rollback_eq]
  exact ((beside_foldl (fun t a => beside_rollShard t target a) _ s).trans (beside_deltasGone _)).trans (beside_setHolds _ 0)

/-! ### A permute starts (R344) -/

/-- The items of a plan that move, from the state a recovery restores. -/
def State.itemsSent (s : State) (pp : PendingPlan) : State :=
  match s.job.applied with
  | none => s
  | some old => old.seats.foldl (fun (t : State) (q : SeatPlan) => match t.liveIn q.seat with
      | some l => if l = t.mySeat then q.shards.foldl (fun u p => u.sendOwn p pp.plan) t else t
      | none =>
        if q.seat / 16 ≠ t.ownGroup ∨ !t.isMember then t
        else q.shards.foldl (fun (u : State) p => pp.plan.seats.foldl (fun (v : State) (n : SeatPlan) =>
          if n.shards.any (fun x => !(movesOf p x).isEmpty) then v.sendLost q.seat p n.seat n.shards else v) u) t) s

theorem beside_itemsSent (s : State) (pp : PendingPlan) : Beside False False s (s.itemsSent pp) := by
  unfold State.itemsSent
  split
  · exact .refl s
  · refine beside_foldl (fun t q => ?_) _ s
    split
    · exact beside_ite (beside_foldl (fun _ _ => beside_sendOwn _ _ _) _ t) (.refl t)
    · exact beside_ite (.refl t) (beside_foldl (fun _ _ => beside_foldl (fun v _ => beside_ite (beside_sendLost v _ _ _ _) (.refl v)) _ _) _ t)

/-- A plan that waits, in the job. -/
def State.withPlan (s : State) (pp : PendingPlan) : State := s.setJob { s.job with plan := some pp }

theorem startPermute_eq (s : State) (pp : PendingPlan) : s.startPermute pp
    = (((s.rollback (s.fld R.RS_CKPT_STEP)).itemsSent pp).withPlan { pp with permuting := true }).setFld R.BK_STATUS_STATE 5 := rfl

theorem job_setFld (s : State) (f : Fld) (v : Nat) : (s.setFld f v).job = s.job := rfl

/-- A permute that starts runs, and the plan in force stays. -/
theorem startPermute_spec (s : State) (pp : PendingPlan) : (s.startPermute pp).fld R.BK_STATUS_STATE = 5
    ∧ (s.startPermute pp).job = { s.job with plan := some { pp with permuting := true } } := by
  have hjob := ((beside_rollback s (s.fld R.RS_CKPT_STEP)).trans (beside_itemsSent _ pp)).job
  rw [startPermute_eq]
  generalize (s.rollback (s.fld R.RS_CKPT_STEP)).itemsSent pp = v at hjob
  refine ⟨(fld_setFld_same _ R.BK_STATUS_STATE 5 (by decide)).trans (by decide), ?_⟩
  rw [job_setFld, State.withPlan, State.setJob, hjob]

/-! ### A plan applied (R317, R319) -/

theorem beside_holdRoute (s : State) (g : Nat) : Beside G T s (s.holdRoute g) := ⟨fun _ _ _ => rfl, rfl, rfl, rfl, fun _ => rfl⟩

theorem beside_setVia (s : State) (f : Fld) (g v : Nat) : Beside False T s (s.setVia f g v) :=
  beside_ite (.refl s) ((beside_setFld s v False.elim).trans (beside_holdRoute _ g))

theorem beside_putRoute (s : State) (g v : Nat) : Beside False T s (s.putRoute g v) :=
  beside_ite (.refl s) ((beside_setReg s _ False.elim).trans (beside_holdRoute _ g))

theorem beside_reroute (s : State) : Beside False T s s.reroute := by
  have hpaths : Beside False T s s.reroutePaths :=
    beside_foldl (fun u _ => beside_ite (beside_setVia u _ _ _) (by
      split
      · exact .refl u
      · exact beside_setVia u _ _ _)) _ s
  refine hpaths.trans (beside_ite (.refl _) (beside_foldl (fun u d => ?_) _ _))
  split
  · exact .refl u
  · dsimp only
    split
    · exact beside_setVia u _ _ _
    · split
      · exact .refl u
      · exact beside_setVia u _ _ _

theorem beside_writeDatelines (s : State) (j : JobDesc) (me : SeatDesc) : Beside False T s (s.writeDatelines j me) :=
  beside_foldl (fun u _ => (beside_setFld u _ False.elim).trans (beside_setFld _ _ False.elim)) _ s

/-- Of the job only the groups that routes cross change. -/
theorem job_writeRoutes (s : State) (j : JobDesc) : ∃ paths, (s.writeRoutes j).job = { s.job with paths := paths } := by
  unfold State.writeRoutes
  split
  · exact ⟨s.job.paths, rfl⟩
  · extract_lets _ _ _ ways _ s1 s2 s3 s4
    have h1 : Beside False False s s1 := beside_foldl (fun u _ => beside_putRoute u _ _) _ s
    have h2 : Beside False False s1 s2 := beside_foldl (fun u _ => beside_putRoute u _ _) _ s1
    have h3 : Beside False False s2 s3 := beside_foldl (fun u _ => beside_putRoute u _ _) _ s2
    have h4 : Beside False False s3 s4 := beside_ite (beside_writeDatelines s3 _ _) (.refl s3)
    have hjob := (((h1.trans h2).trans h3).trans h4).job
    have hset : ∀ paths, (s4.setJob { s4.job with paths := paths }).job = { s.job with paths := paths } := fun paths =>
      congrArg (fun x : JobState => { x with paths := paths }) hjob
    exact ⟨_, (beside_reroute (T := False) _).job.trans (hset _)⟩

theorem beside_fab (s : State) (x : FabState) : Beside G T s { s with fab := x } := ⟨fun _ _ _ => rfl, rfl, rfl, rfl, fun _ => rfl⟩

theorem beside_writeSets (s : State) (j : JobDesc) : Beside False T s (s.writeSets j) := by
  unfold State.writeSets
  extract_lets sets groups s1 s2 s3
  have h1 : Beside False T s s1 := ⟨nofun, rfl, rfl, rfl, fun _ => rfl⟩
  have h2 : Beside False T s1 s2 := beside_foldl (fun u _ => beside_setFld u _ False.elim) _ s1
  have h3 : Beside False T s2 s3 := beside_foldl (fun u _ => beside_setFld u _ False.elim) _ s2
  exact ((h1.trans h2).trans h3).trans (beside_fab s3 _)

theorem beside_writeBudgets (s : State) (id : Nat) : Beside False T s (s.writeBudgets id) :=
  beside_foldl (fun u _ => beside_ite (beside_setReg u _ False.elim) (.refl u)) _ s

theorem beside_dressOf (s : State) (own : Option SeatPlan) : Beside False T s (match own with | some m => s.placeDress m | none => s) := by
  cases own with
  | none => exact .refl s
  | some m =>
    refine beside_foldl (fun u d => ?_) _ s
    split
    · exact (beside_setFld u _ False.elim).trans (beside_setFld _ 1 False.elim)
    · exact beside_setFld u 0 False.elim

/-- The plan in force, its description, and no plan that waits. -/
def Applied (pp : PendingPlan) (u : State) : Prop := u.job.applied = some pp.plan ∧ u.job.plan = none ∧ u.job.desc = some pp.desc

theorem Applied.of_job {pp : PendingPlan} (h : Applied pp s) (hj : u.job = s.job) : Applied pp u := by
  unfold Applied
  rw [hj]
  exact h

theorem applied_applyPlan (s : State) (pp : PendingPlan) (version : Nat) : Applied pp (s.applyPlan pp version) := by
  unfold State.applyPlan
  extract_lets j p g own pos mine before s1 sb nb s2 s3 s4 s5 s6 s7 s8 s9 s10
  have h7 : Applied pp s7 := ⟨rfl, rfl, rfl⟩
  have h8 : Applied pp s8 := h7.of_job (beside_dressOf (T := False) s7 own).job
  have hroutes : Applied pp (s8.writeRoutes j) := by
    obtain ⟨paths, hpaths⟩ := job_writeRoutes s8 j
    unfold Applied
    rw [hpaths]
    exact h8
  have h9 : Applied pp s9 := hroutes.of_job ((beside_writeSets (T := False) _ j).trans (beside_writeBudgets _ _)).job
  exact h9.of_job (((beside_setReg (G := False) (T := False) s9 _ False.elim).trans (beside_setFld (f := R.BK_PERMUTE_BYTES_LEFT) _ 0 False.elim)).trans
    (beside_setFld (f := R.BK_STATUS_STATE) _ 0 False.elim)).job

/-! ### The job resumes (R488) -/

theorem HostOnly.beside_step (h : HostOnly s u) : u.reg R.CU_STEP = s.reg R.CU_STEP := h.regs _ (by decide) (by decide)

/-- The step counter and what a plan sets of the job. -/
structure StepKept (s u : State) : Prop where
  step : u.reg R.CU_STEP = s.reg R.CU_STEP
  applied : u.job.applied = s.job.applied
  plan : u.job.plan = s.job.plan
  desc : u.job.desc = s.job.desc

theorem StepKept.trans (h : StepKept s u) (g : StepKept u w) : StepKept s w :=
  ⟨g.step.trans h.step, g.applied.trans h.applied, g.plan.trans h.plan, g.desc.trans h.desc⟩

theorem Beside.stepKept (h : Beside True T s u) : StepKept s u :=
  ⟨h.regs trivial _ (by decide), congrArg JobState.applied h.job, congrArg JobState.plan h.job, congrArg JobState.desc h.job⟩

theorem HostOnly.stepKept (h : HostOnly s u) : StepKept s u :=
  ⟨h.beside_step, congrArg JobState.applied h.job, congrArg JobState.plan h.job, congrArg JobState.desc h.job⟩

theorem hostOnly_endCmdsOf (s : State) (o : Nat) (pick : CmdRec → Bool) (code units : Nat) (detail : List Byte) :
    HostOnly s (s.endCmdsOf o pick code units detail) :=
  List.foldlRecOn _ _ (motive := fun u => HostOnly s u) (hostOnly_refl s) fun u hu _ _ => hu.trans (hostOnly_cmdDone u _ code detail)

theorem beside_resCode (s : State) (ev : Bool) (code seat : Nat) : Beside G T s (s.resCode ev code seat) :=
  beside_ite (beside_hostEvent s _ _ _) (beside_pbEntry s _ _ _ _)

/-- The image of a COPY shard written where it is kept. -/
def State.keepCopy (s : State) (a : ShardArea) : State :=
  (s.copyImage 0 a.stack a.entry 0).2.resWrite 0 a.keep (s.copyImage 0 a.stack a.entry 0).1

theorem beside_keepCopy (s : State) (a : ShardArea) : Beside True False s (s.keepCopy a) :=
  (beside_copyImage s 0 a.stack a.entry 0).trans (beside_resWrite _ 0 _ _)

theorem beside_keepCopies (s : State) (l : List ShardArea) : Beside True False s (l.foldl State.keepCopy s) := beside_foldl beside_keepCopy l s

theorem job_releaseEntries (s : State) : s.releaseEntries.job = s.job :=
  (beside_foldl (G := False) (T := False) (fun t _ => beside_setFld t 1 False.elim) s.res.unset (s.setRes { s.res with unset := [] })).job

/-- RESUME leaves the step before the next, and of the job the plan. -/
theorem resume_spec (s : State) (cue step : Nat) : (s.resume cue step).fld R.CU_STEP_STEP = step % 2 ^ 32
    ∧ (s.resume cue step).job.applied = s.job.applied ∧ (s.resume cue step).job.plan = s.job.plan ∧ (s.resume cue step).job.desc = s.job.desc := by
  unfold State.resume
  extract_lets pairs s1 _ s2 s3 mine me s4 s5 s6 s7 _ s8 s9 _ s10 done
  have hstep : s1.fld R.CU_STEP_STEP = step % 2 ^ 32 := fld_setFld_same s.releaseEntries R.CU_STEP_STEP step (by decide)
  have hjob : s1.job = s.job := (job_setFld s.releaseEntries _ _).trans (job_releaseEntries s)
  have h2 : StepKept s1 s2 := ⟨rfl, rfl, rfl, rfl⟩
  have h3 : StepKept s2 s3 := (beside_foldl (G := True) (T := False) (f := fun (t : State) (p : Nat × Nat) => t.resCode true 0xA5 p.2)
    (fun _ _ => beside_resCode _ _ _ _) pairs s2).stepKept
  have h4 : StepKept s3 s4 := (beside_ite (beside_keepCopies s3 _) (.refl s3) : Beside True False s3 s4).stepKept
  have h5 : StepKept s4 s5 := (beside_ite (.refl s4) (beside_setFld s4 0 fun _ => by decide) : Beside True False s4 s5).stepKept
  have h6 : StepKept s5 s6 := (beside_ite (beside_setFld s5 0 fun _ => by decide) (.refl s5) : Beside True False s5 s6).stepKept
  have h7 : StepKept s6 s7 := (beside_foldl (G := True) (T := False) (f := fun (t : State) (p : Nat × Nat) =>
    if p.2 ≠ t.mySeat ∧ (t.standsAt + 1) % 8 = t.posAt (t.placeOf p.2) then t.resCode true 0xA4 t.mySeat else t)
    (fun t _ => beside_ite (beside_resCode _ _ _ _) (.refl t)) mine s6).stepKept
  have h8 : StepKept s7 s8 := ⟨rfl, rfl, rfl, rfl⟩
  have h9 : StepKept s8 s9 := (beside_setFld (T := False) s8 0 fun _ => by decide : Beside True False s8 s9).stepKept
  have h10 : StepKept s9 s10 := ⟨rfl, rfl, rfl, rfl⟩
  have h11 := ((hostOnly_endCmdsOf s10 opcPromote (fun _ => true) 0 (mib s10.res.rebuilt) done).trans
    (hostOnly_endCmdsOf _ opcRestoreCheckpoint (fun c => c.word == 1) 0 s10.mibWritten done)).stepKept
  have hall := ((((((((h2.trans h3).trans h4).trans h5).trans h6).trans h7).trans h8).trans h9).trans h10).trans h11
  exact ⟨(fld_congr (f := R.CU_STEP_STEP) hall.step).trans hstep, hall.applied.trans (congrArg JobState.applied hjob),
    hall.plan.trans (congrArg JobState.plan hjob), hall.desc.trans (congrArg JobState.desc hjob)⟩

end Sys2Proof.Machine
end

section
/-!
PROOFS. Plans are exchanged (O40): a plan made, compared with the other seats', kept or applied.
-/
namespace Sys2Proof.Machine
open Sys2Proof.Claim

variable {s u w : State} {c : CmdRec} {pp : PendingPlan}

/-! ### What a plan's exchange leaves alone -/

/-- The registers of the blocking engine. -/
def BlockReg (a : Nat) : Prop := R.BK_STATUS ≤ a ∧ a ≤ R.BK_PERMUTE

/-- Only the blocking engine's registers, the host's side, the fabric and the job change. -/
structure PlanOnly (s u : State) : Prop where
  rest : u = { s with regs := u.regs, host := u.host, fab := u.fab, job := u.job }
  regs : ∀ a, ¬ BlockReg a → u.reg a = s.reg a

theorem PlanOnly.trans (h : PlanOnly s u) (g : PlanOnly u w) : PlanOnly s w :=
  ⟨g.rest.trans (congrArg (fun v : State => ({ v with regs := w.regs, host := w.host, fab := w.fab, job := w.job } : State)) h.rest :),
    fun a ha => (g.regs a ha).trans (h.regs a ha)⟩

theorem PlanOnly.scene (h : PlanOnly s u) : u.scene = s.scene := (congrArg State.scene h.rest :)
theorem PlanOnly.tiles (h : PlanOnly s u) : u.tiles = s.tiles := (congrArg State.tiles h.rest :)
theorem PlanOnly.mem (h : PlanOnly s u) : u.mem = s.mem := (congrArg State.mem h.rest :)
theorem PlanOnly.res (h : PlanOnly s u) : u.res = s.res := (congrArg State.res h.rest :)
theorem PlanOnly.curtain (h : PlanOnly s u) : u.curtain = s.curtain := (congrArg State.curtain h.rest :)
theorem PlanOnly.cacheN (h : PlanOnly s u) : u.cacheN = s.cacheN := (congrArg State.cacheN h.rest :)

theorem PlanOnly.mySeat (h : PlanOnly s u) : u.mySeat = s.mySeat := mySeat_of_reg (h.regs _ (by unfold BlockReg; decide))

theorem PlanOnly.stepGap (h : PlanOnly s u) : u.stepGap = s.stepGap := by
  have hcue : u.cue = s.cue := congrArg BitVec.toNat (h.regs R.CU_COUNT (by unfold BlockReg; decide))
  unfold State.stepGap State.curtainOver
  rw [h.curtain, h.res, hcue]

theorem PlanOnly.planFits (h : PlanOnly s u) (p : Plan) : u.planFits p = s.planFits p := by
  unfold State.planFits State.sceneTop State.generalBytes
  rw [h.mySeat, h.scene, h.cacheN]

theorem planOnly_setFld (s : State) {f : Fld} (v : Nat) (h : BlockReg f.addr) : PlanOnly s (s.setFld f v) :=
  ⟨rfl, fun _ ha => reg_setFld_ne s fun e => ha (e ▸ h)⟩

theorem planOnly_host (s : State) (x : HostState) : PlanOnly s { s with host := x } := ⟨rfl, fun _ _ => rfl⟩

theorem planOnly_setJob (s : State) (x : JobState) : PlanOnly s (s.setJob x) := ⟨rfl, fun _ _ => rfl⟩

theorem planOnly_sendC3 (s : State) (l : List Nat) (m : MgmtMsg) : PlanOnly s (s.sendC3 l m) := ⟨rfl, fun _ _ => rfl⟩

theorem job_planOnly_leaveReport (s : State) (l : List Byte) : PlanOnly s (s.leaveReport l) ∧ (s.leaveReport l).job = s.job ∧ (s.leaveReport l).fab = s.fab
    ∧ (s.leaveReport l).host = { s.host with report := l } := by
  refine ⟨(planOnly_host s _).trans (planOnly_setFld _ _ (by unfold BlockReg; decide)), ?_, ?_, ?_⟩
  · exact job_setFld _ _ _
  · exact fab_setFld _ _ _
  · exact host_setFld _ _ _

/-! ### Commands that end or go on -/

theorem cmds_gone (s : State) (c : CmdRec) (code : Nat) (detail : List Byte) : ∀ e ∈ (s.cmdDone c code detail).host.cmds, e.id ≠ c.id := fun e he => by
  rw [cmds_cmdDone] at he
  simpa using (List.mem_filter.mp he).2

/-- A command that goes on says its units: no register, nothing of the job, the scene and the tiles. -/
structure UnitsOnly (s u : State) : Prop where
  regs : u.regs = s.regs
  job : u.job = s.job
  scene : u.scene = s.scene
  tiles : u.tiles = s.tiles

theorem UnitsOnly.fld (h : UnitsOnly s u) (f : Fld) : u.fld f = s.fld f := fld_congr (congrArg (smapGet (regReset f.addr) · f.addr) h.regs)

theorem UnitsOnly.trans (h : UnitsOnly s u) (g : UnitsOnly u w) : UnitsOnly s w :=
  ⟨g.regs.trans h.regs, g.job.trans h.job, g.scene.trans h.scene, g.tiles.trans h.tiles⟩

theorem unitsOnly_putCmd (s : State) (c : CmdRec) : UnitsOnly s (s.putCmd c) := ⟨rfl, rfl, rfl, rfl⟩

theorem unitsOnly_cmdStatus (s : State) (c : CmdRec) (kind code : Nat) (detail : List Byte) : UnitsOnly s (s.cmdStatus c kind code detail) := by
  have h := statusOnly_putStatus s c.session c.id ⟨c.opcode, kind, code, c.seq, c.cookie, c.done % 2 ^ 32, c.total % 2 ^ 32, detail⟩
  exact ⟨h.regs, h.job, (congrArg State.scene h.rest :), (congrArg State.tiles h.rest :)⟩

theorem unitsOnly_cmdUnits (s : State) (c : CmdRec) (done total : Nat) : UnitsOnly s (s.cmdUnits c done total) := by
  unfold State.cmdUnits State.cmdProgress
  extract_lets due
  split
  · exact unitsOnly_putCmd s _
  · exact (unitsOnly_putCmd s _).trans (unitsOnly_cmdStatus _ _ _ _ _)

theorem unitsOnly_planProgress (s : State) (id : Nat) : UnitsOnly s (s.planProgress id) := by
  unfold State.planProgress
  split
  · split
    · exact unitsOnly_cmdUnits s _ _ _
    · exact unitsOnly_cmdUnits s _ _ _
  · exact ⟨rfl, rfl, rfl, rfl⟩

theorem planProgress_none (h : s.job.plan = none) (id : Nat) : s.planProgress id = s := by
  unfold State.planProgress
  rw [h]

/-! ### A plan that ends or waits for its load (R319, R350) -/

/-- The job without a plan that waits. -/
def JobState.unplanned (x : JobState) : JobState := { x with plan := none, planIds := [], incoming := [] }

/-- What a placement that ends without a plan leaves. -/
structure PlanFailed (s : State) (c : CmdRec) (u : State) : Prop where
  job : u.job = s.job.unplanned
  scene : u.scene = s.scene
  tiles : u.tiles = s.tiles
  state : u.fld R.BK_STATUS_STATE = if s.job.ready.isSome then 3 else 0
  cmds : ∀ e ∈ u.host.cmds, e.id ≠ c.id

theorem planFailed_spec (s : State) (c : CmdRec) (id result : Nat) : PlanFailed s c (s.planFailed c id result) := by
  unfold State.planFailed
  extract_lets _ v
  have hv : PlanOnly s v ∧ v.job = s.job.unplanned := ⟨planOnly_setJob s _, rfl⟩
  clear_value v
  obtain ⟨hv, hjob⟩ := hv
  have hresult : PlanOnly v (v.planResult result) ∧ (v.planResult result).job = v.job :=
    ⟨(planOnly_host v _).trans (planOnly_setFld _ _ (by unfold BlockReg; decide)), job_setFld _ _ _⟩
  generalize v.planResult result = x at hresult
  obtain ⟨hx, hxjob⟩ := hresult
  have hless : PlanOnly x (x.setFld R.BK_PERMUTE_BYTES_LEFT 0) := planOnly_setFld x 0 (by unfold BlockReg; decide)
  have hlessJob := job_setFld x R.BK_PERMUTE_BYTES_LEFT 0
  generalize x.setFld R.BK_PERMUTE_BYTES_LEFT 0 = y at hless hlessJob
  have hyjob : y.job = s.job.unplanned := (hlessJob.trans hxjob).trans hjob
  have hidle : PlanOnly y y.planIdle := planOnly_setFld y _ (by unfold BlockReg; decide)
  have hstate : y.planIdle.fld R.BK_STATUS_STATE = if s.job.ready.isSome then 3 else 0 := by
    unfold State.planIdle
    rw [fld_setFld_same _ _ _ (by decide), hyjob]
    change (if s.job.ready.isSome = true then 3 else 0) % 8 = _
    split <;> rfl
  have hidleJob : y.planIdle.job = y.job := job_setFld _ _ _
  have honly := ((hv.trans hx).trans hless).trans hidle
  have hdone := hostOnly_cmdDone y.planIdle c 0x8B (planDetail id result)
  exact ⟨hdone.job.trans (hidleJob.trans hyjob), hdone.scene.trans honly.scene, hdone.tiles.trans honly.tiles,
    (fld_cmdDone _ _ _ _ (.inl (by decide))).trans hstate, cmds_gone _ _ _ _⟩

/-- What a first placement that is kept for its load leaves. -/
theorem keepPlan_spec (s : State) (c : CmdRec) (pp : PendingPlan) : (s.keepPlan c pp).job = { s.job with plan := none, ready := some pp, planIds := [] }
    ∧ (s.keepPlan c pp).fld R.BK_STATUS_STATE = 3 ∧ ∀ e ∈ (s.keepPlan c pp).host.cmds, e.id ≠ c.id := by
  unfold State.keepPlan
  have hjob := job_setFld (s.setJob { s.job with plan := none, ready := some pp, planIds := [] }) R.BK_STATUS_STATE 3
  have hstate := fld_setFld_same (s.setJob { s.job with plan := none, ready := some pp, planIds := [] }) R.BK_STATUS_STATE 3 (by decide)
  generalize (s.setJob { s.job with plan := none, ready := some pp, planIds := [] }).setFld R.BK_STATUS_STATE 3 = v at hjob hstate
  exact ⟨(hostOnly_cmdDone v _ 0 _).job.trans hjob, (fld_cmdDone v _ 0 _ (.inl (by decide))).trans hstate,
    cmds_gone v { c with done := 3, total := 3 } 0 _⟩

/-! ### Plans compared (R318) -/

/-- The other live seats of a plan. -/
def State.othersOf (s : State) (pp : PendingPlan) : List Nat :=
  (pp.desc.seats.map (fun q => q.seat)).filter (fun q => q != s.mySeat && !s.res.lost.contains q)

theorem othersOf_congr (hseat : u.mySeat = s.mySeat) (hlost : u.res.lost = s.res.lost) (pp : PendingPlan) : u.othersOf pp = s.othersOf pp := by
  unfold State.othersOf
  rw [hseat, hlost]

/-- Every PLAN_ID heard is the plan's. -/
def State.SameIds (s : State) (pp : PendingPlan) : Prop := ∀ h ∈ s.job.planIds, h.2 = pp.id

/-- Every other seat has been heard. -/
def State.AllHeard (s : State) (pp : PendingPlan) : Prop := ∀ q ∈ s.othersOf pp, ∃ h ∈ s.job.planIds, h.1 = q

/-- Another seat is still to be heard. -/
def State.Unheard (s : State) (pp : PendingPlan) : Prop := ∃ q ∈ s.othersOf pp, ∀ h ∈ s.job.planIds, h.1 ≠ q

/-- What is done with a plan that every seat made alike. -/
def State.agreed (s : State) (c : CmdRec) (pp : PendingPlan) : State :=
  if !pp.reshard && s.job.applied.isNone then s.keepPlan c pp
  else if !s.stepGap || (s.res.recovering && !pp.reshard) then s.setFld R.BK_STATUS_STATE 3
  else if !s.planFits pp.plan then s.planFailed c pp.id 2
  else if pp.reshard then s.startPermute pp
  else if s.fld R.BK_STATUS_STATE ≠ 4 then s.setFld R.BK_STATUS_STATE 4
  else ((s.applyPlan pp 0).cmdDone { c with done := 4, total := 4 } 0 (planDetail pp.id 0))

theorem tryApply_eq (h : s.job.plan = some pp) : s.tryApply c = if pp.permuting then s
    else if s.job.planIds.any (fun h => h.2 != pp.id) then s.planFailed c pp.id 7
    else if !(s.othersOf pp).all (fun q => s.job.planIds.any (fun h => h.1 == q)) then s
    else s.agreed c pp := by
  unfold State.tryApply
  rw [h]
  rfl

theorem any_differs (s : State) (pp : PendingPlan) (h : s.SameIds pp) : s.job.planIds.any (fun h => h.2 != pp.id) = false :=
  List.any_eq_false.mpr fun x hx => by rw [h x hx, bne_self_eq_false]; decide

theorem tryApply_permuting (h : s.job.plan = some pp) (hp : pp.permuting = true) : s.tryApply c = s := by
  rw [tryApply_eq h, if_pos hp]

theorem tryApply_differs (h : s.job.plan = some pp) (hp : pp.permuting = false) {x : Nat × Nat} (hx : x ∈ s.job.planIds) (hne : x.2 ≠ pp.id) :
    s.tryApply c = s.planFailed c pp.id 7 := by
  have hany : s.job.planIds.any (fun h => h.2 != pp.id) = true := List.any_eq_true.mpr ⟨x, hx, bne_iff_ne.mpr hne⟩
  rw [tryApply_eq h, if_neg (by rw [hp]; decide), if_pos hany]

theorem tryApply_unheard (h : s.job.plan = some pp) (hp : pp.permuting = false) (hids : s.SameIds pp) (hun : s.Unheard pp) : s.tryApply c = s := by
  obtain ⟨q, hq, hnone⟩ := hun
  have hall : (s.othersOf pp).all (fun q => s.job.planIds.any (fun h => h.1 == q)) = false :=
    List.all_eq_false.mpr ⟨q, hq, by
      rw [Bool.not_eq_true, List.any_eq_false]
      exact fun x hx => by simpa using hnone x hx⟩
  rw [tryApply_eq h, if_neg (by rw [hp]; decide), if_neg (by rw [any_differs s pp hids]; decide), if_pos (by rw [hall]; rfl)]

theorem tryApply_alike (h : s.job.plan = some pp) (hp : pp.permuting = false) (hids : s.SameIds pp) (hheard : s.AllHeard pp) :
    s.tryApply c = s.agreed c pp := by
  have hall : (s.othersOf pp).all (fun q => s.job.planIds.any (fun h => h.1 == q)) = true :=
    List.all_eq_true.mpr fun q hq => by
      obtain ⟨x, hx, he⟩ := hheard q hq
      exact List.any_eq_true.mpr ⟨x, hx, beq_iff_eq.mpr he⟩
  rw [tryApply_eq h, if_neg (by rw [hp]; decide), if_neg (by rw [any_differs s pp hids]; decide), if_neg (by rw [hall]; decide)]

theorem agreed_first (hr : pp.reshard = false) (ha : s.job.applied = none) : s.agreed c pp = s.keepPlan c pp :=
  if_pos (by rw [hr, ha]; rfl)

/-- A re-shard, or a placement that is not the first. -/
def State.Another (s : State) (pp : PendingPlan) : Prop := (!pp.reshard && s.job.applied.isNone) = false

theorem another_reshard (s : State) (h : pp.reshard = true) : s.Another pp := by
  unfold State.Another
  rw [h]
  rfl

theorem another_applied (h : s.job.applied ≠ none) (pp : PendingPlan) : s.Another pp := by
  unfold State.Another
  rw [Option.isNone_eq_false_iff.mpr (Option.isSome_iff_ne_none.mpr h), Bool.and_false]

theorem agreed_later (ha : s.Another pp) (h : s.stepGap = false ∨ (s.res.recovering = true ∧ pp.reshard = false)) :
    s.agreed c pp = s.setFld R.BK_STATUS_STATE 3 := by
  have hwait : (!s.stepGap || (s.res.recovering && !pp.reshard)) = true := by
    rcases h with h | ⟨hrec, hr⟩
    · rw [h]
      rfl
    · rw [hrec, hr, Bool.not_false, Bool.and_true, Bool.or_true]
  unfold State.agreed
  rw [if_neg (by rw [ha]; decide), if_pos hwait]

/-- A step gap in which the plan may be applied. -/
structure Now (s : State) (pp : PendingPlan) : Prop where
  another : s.Another pp
  gap : s.stepGap = true
  settled : s.res.recovering = false ∨ pp.reshard = true

theorem Now.not_later (h : Now s pp) : ¬ (!s.stepGap || (s.res.recovering && !pp.reshard)) = true := by
  rw [h.gap]
  rcases h.settled with hr | hr
  · rw [hr, Bool.false_and]
    decide
  · rw [hr, Bool.not_true, Bool.and_false]
    decide

theorem agreed_unfit (h : Now s pp) (hf : s.planFits pp.plan = false) : s.agreed c pp = s.planFailed c pp.id 2 := by
  unfold State.agreed
  rw [if_neg (by rw [h.another]; decide), if_neg h.not_later, if_pos (by rw [hf]; rfl)]

theorem agreed_fit (h : Now s pp) (hf : s.planFits pp.plan = true) : s.agreed c pp = if pp.reshard then s.startPermute pp
    else if s.fld R.BK_STATUS_STATE ≠ 4 then s.setFld R.BK_STATUS_STATE 4
    else ((s.applyPlan pp 0).cmdDone { c with done := 4, total := 4 } 0 (planDetail pp.id 0)) := by
  unfold State.agreed
  rw [if_neg (by rw [h.another]; decide), if_neg h.not_later, if_neg (by rw [hf]; decide)]

/-- A plan applied, its command done. -/
theorem applied_done (s : State) (c : CmdRec) (pp : PendingPlan) (version n : Nat) (detail : List Byte) :
    Applied pp ((s.applyPlan pp version).cmdDone { c with done := n, total := n } 0 detail)
    ∧ ∀ e ∈ ((s.applyPlan pp version).cmdDone { c with done := n, total := n } 0 detail).host.cmds, e.id ≠ c.id := by
  have h := applied_applyPlan s pp version
  generalize s.applyPlan pp version = v at h
  exact ⟨h.of_job (hostOnly_cmdDone v _ 0 _).job, cmds_gone v { c with done := n, total := n } 0 _⟩

/-! ### A plan made (R316-R318) -/

/-- The description that a plan is made of; a re-shard keeps the cuts and formats of the applied one. -/
def State.descOf (s : State) (again : Bool) (j : JobDesc) : JobDesc := if again then j.keeping s.job.desc else j

/-- The plan that a command makes, as it waits. -/
def State.pendingPlan (s : State) (again : Bool) (j : JobDesc) (est bubble : Nat) : PendingPlan :=
  let d := s.descOf again j
  let p := makePlan d s.partInputs s.job.applied again
  let body := p.report d est bubble
  let id := ofLe ((sha512 (List.replicate 8 0 ++ body)).take 8)
  ⟨d, p, id, leBytes id 8 ++ body, again, false, 0⟩

/-- A plan's report is left and its result shown. -/
def State.planSeen (s : State) (pp : PendingPlan) : State := (s.leaveReport pp.report).setFld R.BK_STATUS_RESULT pp.plan.result

/-- A plan's PLAN_ID goes to its seats. -/
def State.planSent (s : State) (pp : PendingPlan) : State :=
  (s.sendC3 (pp.desc.seats.map (fun q => q.seat)) (.planId pp.id)).setFld R.BK_STATUS_STATE 2

/-- A plan that waits for the other seats, with its copies placed for a re-shard. -/
def State.planWaits (s : State) (again : Bool) (pp : PendingPlan) : State :=
  (if again then (s.planSeen pp).placePermute pp else (s.planSeen pp).withPlan pp).planSent pp

theorem plan_eq (s : State) (c : CmdRec) (again : Bool) (j : JobDesc) (est bubble : Nat) : s.plan c again j est bubble
    = if (s.pendingPlan again j est bubble).plan.result ≠ 0 then
        (s.planSeen (s.pendingPlan again j est bubble)).planFailed c (s.pendingPlan again j est bubble).id (s.pendingPlan again j est bubble).plan.result
      else (s.planWaits again (s.pendingPlan again j est bubble)).tryApply c := rfl

theorem planSeen_spec (s : State) (pp : PendingPlan) : PlanOnly s (s.planSeen pp) ∧ (s.planSeen pp).job = s.job ∧ (s.planSeen pp).fab = s.fab
    ∧ (s.planSeen pp).host = { s.host with report := pp.report } := by
  obtain ⟨honly, hjob, hfab, hhost⟩ := job_planOnly_leaveReport s pp.report
  unfold State.planSeen
  exact ⟨honly.trans (planOnly_setFld _ _ (by unfold BlockReg; decide)), (job_setFld _ _ _).trans hjob, (fab_setFld _ _ _).trans hfab,
    (host_setFld _ _ _).trans hhost⟩

theorem job_sendC3 (s : State) (l : List Nat) (m : MgmtMsg) : (s.sendC3 l m).job = s.job := rfl
theorem host_sendC3 (s : State) (l : List Nat) (m : MgmtMsg) : (s.sendC3 l m).host = s.host := rfl

theorem fab_sendC3_congr (hf : u.fab = s.fab) (hm : u.mySeat = s.mySeat) (l : List Nat) (m : MgmtMsg) : (u.sendC3 l m).fab = (s.sendC3 l m).fab := by
  unfold State.sendC3
  rw [mgmtPkt_of_seat m hm, hm]
  dsimp only
  rw [hf]

theorem planSent_spec (s : State) (pp : PendingPlan) : PlanOnly s (s.planSent pp) ∧ (s.planSent pp).job = s.job
    ∧ (s.planSent pp).fab = (s.sendC3 (pp.desc.seats.map (fun q => q.seat)) (.planId pp.id)).fab ∧ (s.planSent pp).host = s.host
    ∧ (s.planSent pp).fld R.BK_STATUS_STATE = 2 := by
  have hsend := planOnly_sendC3 s (pp.desc.seats.map (fun q => q.seat)) (.planId pp.id)
  have hjob := job_sendC3 s (pp.desc.seats.map (fun q => q.seat)) (.planId pp.id)
  have hhost := host_sendC3 s (pp.desc.seats.map (fun q => q.seat)) (.planId pp.id)
  unfold State.planSent
  generalize s.sendC3 (pp.desc.seats.map (fun q => q.seat)) (.planId pp.id) = v at hsend hjob hhost
  exact ⟨hsend.trans (planOnly_setFld v 2 (by unfold BlockReg; decide)), (job_setFld v _ 2).trans hjob, fab_setFld v _ 2, (host_setFld v _ 2).trans hhost,
    (fld_setFld_same v R.BK_STATUS_STATE 2 (by decide)).trans (by decide)⟩

/-- A placement that waits. -/
structure PlanWaits (s : State) (pp : PendingPlan) (u : State) : Prop where
  only : PlanOnly s u
  job : u.job = { s.job with plan := some pp }
  fab : u.fab = (s.sendC3 (pp.desc.seats.map (fun q => q.seat)) (.planId pp.id)).fab
  report : u.host.report = pp.report
  state : u.fld R.BK_STATUS_STATE = 2

theorem planWaits_spec (s : State) (pp : PendingPlan) : PlanWaits s pp (s.planWaits false pp) := by
  obtain ⟨honly, hjob, hfab, hhost⟩ := planSeen_spec s pp
  have heq : s.planWaits false pp = ((s.planSeen pp).withPlan pp).planSent pp := rfl
  rw [heq]
  generalize s.planSeen pp = v at honly hjob hfab hhost
  have hplan : PlanOnly v (v.withPlan pp) ∧ (v.withPlan pp).job = { v.job with plan := some pp } ∧ (v.withPlan pp).fab = v.fab
      ∧ (v.withPlan pp).host = v.host :=
    ⟨planOnly_setJob v _, rfl, rfl, rfl⟩
  generalize v.withPlan pp = x at hplan
  obtain ⟨hxonly, hxjob, hxfab, hxhost⟩ := hplan
  obtain ⟨hsonly, hsjob, hsfab, hshost, hstate⟩ := planSent_spec x pp
  have hx := honly.trans hxonly
  refine ⟨hx.trans hsonly, ?_, hsfab.trans (fab_sendC3_congr (hxfab.trans hfab) hx.mySeat _ _), ?_, hstate⟩
  · rw [hsjob, hxjob, hjob]
  · rw [hshost, hxhost, hhost]

/-- The job of a re-shard that waits for `n` bytes into ranges. -/
def JobState.awaits (x : JobState) (pp : PendingPlan) (n : Nat) (l : List (Nat × Nat)) : JobState :=
  { x with plan := some { pp with bytes := n }, incoming := l }

/-- A range zeroed. -/
def State.zero (s : State) (r : Nat × Nat) : State := s.resZero r.1 r.2

theorem beside_zero (s : State) (r : Nat × Nat) : Beside True False s (s.zero r) := beside_resZero s r.1 r.2

/-- Ranges zeroed, one after the other. -/
def State.zeroed (s : State) (l : List (Nat × Nat)) : State := l.foldl State.zero s

theorem beside_zeroed (s : State) (l : List (Nat × Nat)) : Beside True False s (s.zeroed l) :=
  beside_foldl beside_zero l s

theorem placePermute_eq (s : State) (pp : PendingPlan) :
    ∃ n l, s.placePermute pp = ((s.zeroed l).setJob ((s.zeroed l).job.awaits pp n l)).setFld R.BK_PERMUTE_BYTES_LEFT n := ⟨_, _, rfl⟩

/-- A re-shard's copies placed, the bytes that come into them awaited. -/
theorem placePermute_spec (s : State) (pp : PendingPlan) : ∃ n l, (s.placePermute pp).job = s.job.awaits pp n l
    ∧ (s.placePermute pp).res.lost = s.res.lost ∧ (s.placePermute pp).mySeat = s.mySeat := by
  obtain ⟨n, l, heq⟩ := placePermute_eq s pp
  have hzero := beside_zeroed s l
  rw [heq]
  generalize s.zeroed l = v at hzero
  have hset : PlanOnly v (v.setJob (v.job.awaits pp n l)) ∧ (v.setJob (v.job.awaits pp n l)).job = v.job.awaits pp n l := ⟨planOnly_setJob v _, rfl⟩
  generalize v.setJob (v.job.awaits pp n l) = x at hset
  obtain ⟨hx, hjob⟩ := hset
  have hset := hx.trans (planOnly_setFld x (f := R.BK_PERMUTE_BYTES_LEFT) n (by unfold BlockReg; decide))
  refine ⟨n, l, ?_, ?_, hset.mySeat.trans (mySeat_of_reg (hzero.regs trivial _ (by decide)))⟩
  · rw [job_setFld, hjob, hzero.job]
  · rw [hset.res, hzero.lost]

/-- A re-shard that waits. -/
structure ReshardWaits (s : State) (pp : PendingPlan) (u : State) : Prop where
  applied : u.job.applied = s.job.applied
  ids : u.job.planIds = s.job.planIds
  plan : ∃ n, u.job.plan = some { pp with bytes := n }
  others : ∀ q : PendingPlan, u.othersOf q = s.othersOf q
  state : u.fld R.BK_STATUS_STATE = 2

theorem reshardWaits_spec (s : State) (pp : PendingPlan) : ReshardWaits s pp (s.planWaits true pp) := by
  obtain ⟨honly, hjob, _, _⟩ := planSeen_spec s pp
  have heq : s.planWaits true pp = ((s.planSeen pp).placePermute pp).planSent pp := rfl
  rw [heq]
  generalize s.planSeen pp = v at honly hjob
  obtain ⟨n, l, hxjob, hxlost, hxseat⟩ := placePermute_spec v pp
  generalize v.placePermute pp = x at hxjob hxlost hxseat
  obtain ⟨hsonly, hsjob, _, _, hstate⟩ := planSent_spec x pp
  have hall : (x.planSent pp).job = s.job.awaits pp n l := by rw [hsjob, hxjob, hjob]
  refine ⟨(congrArg JobState.applied hall :), (congrArg JobState.planIds hall :), ⟨n, (congrArg JobState.plan hall :)⟩,
    fun q => othersOf_congr ?_ ?_ q, hstate⟩
  · exact hsonly.mySeat.trans (hxseat.trans honly.mySeat)
  · rw [hsonly.res, hxlost, honly.res]

/-! ### A placement worked on (R319, R351) -/

/-- A request taken, seen placing. -/
def State.placed1 (s : State) (c : CmdRec) (again : Bool) : State :=
  if again then s.setFld R.BK_STATUS_STATE 1
  else (s.setFld R.BK_STATUS_STATE 1).cmdUnits c 1 (if (s.setFld R.BK_STATUS_STATE 1).job.applied.isNone then 3 else 4)

theorem placing_taken (h : s.job.plan = none) (hs : s.fld R.BK_STATUS_STATE ≠ 1) (again : Bool) (j : JobDesc) (est bubble : Nat) :
    s.placing c again j est bubble = s.placed1 c again := by
  unfold State.placing
  rw [if_neg (by rw [h]; decide), if_pos hs]
  rfl

theorem placing_made (h : s.job.plan = none) (hs : s.fld R.BK_STATUS_STATE = 1) (again : Bool) (j : JobDesc) (est bubble : Nat) :
    s.placing c again j est bubble = s.plan c again j est bubble := by
  unfold State.placing
  rw [if_neg (by rw [h]; decide), if_neg (by rw [hs]; decide)]

theorem placing_waits (h : s.job.plan = some pp) (again : Bool) (j : JobDesc) (est bubble : Nat) :
    s.placing c again j est bubble = (s.tryApply c).planProgress c.id := by
  unfold State.placing
  rw [if_pos (by rw [h]; rfl)]

theorem placed1_spec (s : State) (c : CmdRec) (again : Bool) : (s.placed1 c again).fld R.BK_STATUS_STATE = 1 ∧ (s.placed1 c again).job = s.job
    ∧ (s.placed1 c again).scene = s.scene ∧ (s.placed1 c again).tiles = s.tiles := by
  have honly : PlanOnly s (s.setFld R.BK_STATUS_STATE 1) := planOnly_setFld s 1 (by unfold BlockReg; decide)
  have hjob := job_setFld s R.BK_STATUS_STATE 1
  have hstate : (s.setFld R.BK_STATUS_STATE 1).fld R.BK_STATUS_STATE = 1 := (fld_setFld_same s R.BK_STATUS_STATE 1 (by decide)).trans (by decide)
  unfold State.placed1
  generalize s.setFld R.BK_STATUS_STATE 1 = v at honly hjob hstate
  split
  · exact ⟨hstate, hjob, honly.scene, honly.tiles⟩
  · have hunits := unitsOnly_cmdUnits v c 1 (if v.job.applied.isNone then 3 else 4)
    exact ⟨(hunits.fld _).trans hstate, hunits.job.trans hjob, hunits.scene.trans honly.scene, hunits.tiles.trans honly.tiles⟩

end Sys2Proof.Machine
end

section
/-!
PROOFS. PLACE, RESHARD, PLAN_ID and PERMUTE_COMPLETE (O40).
-/
namespace Sys2Proof.Machine
open Sys2Proof.Claim

variable {s u w : State} {c : CmdRec} {pp : PendingPlan} {j : JobDesc} {est bubble : Nat}

/-! ### The plan that a command makes -/

theorem PlanWaits.sameIds (h : PlanWaits s pp w) (hids : s.SameIds pp) : w.SameIds pp := by
  unfold State.SameIds at hids ⊢
  rw [h.job]
  exact hids

theorem PlanWaits.others (h : PlanWaits s pp w) : w.othersOf pp = s.othersOf pp := othersOf_congr h.only.mySeat (congrArg ResState.lost h.only.res) pp

theorem PlanWaits.unheard (h : PlanWaits s pp w) (hun : s.Unheard pp) : w.Unheard pp := by
  unfold State.Unheard at hun ⊢
  rw [h.others, h.job]
  exact hun

theorem PlanWaits.allHeard (h : PlanWaits s pp w) (hall : s.AllHeard pp) : w.AllHeard pp := by
  unfold State.AllHeard at hall ⊢
  rw [h.others, h.job]
  exact hall

theorem PlanWaits.plan (h : PlanWaits s pp w) : w.job.plan = some pp := congrArg JobState.plan h.job

theorem PlanWaits.applied (h : PlanWaits s pp w) : w.job.applied = s.job.applied := (congrArg JobState.applied h.job :)

/-- A plan that fails ends its command. -/
theorem plan_fails {again : Bool} (hr : (s.pendingPlan again j est bubble).plan.result ≠ 0) : PlanFailed s c (s.plan c again j est bubble) := by
  rw [plan_eq, if_pos hr]
  generalize s.pendingPlan again j est bubble = pp
  obtain ⟨honly, hjob, _, _⟩ := planSeen_spec s pp
  generalize s.planSeen pp = v at honly hjob
  obtain ⟨hfjob, hscene, htiles, hstate, hcmds⟩ := planFailed_spec v c pp.id pp.plan.result
  rw [hjob] at hfjob hstate
  exact ⟨hfjob, hscene.trans honly.scene, htiles.trans honly.tiles, hstate, hcmds⟩

/-- A plan that succeeds is compared. -/
theorem plan_compared {again : Bool} (hr : (s.pendingPlan again j est bubble).plan.result = 0) :
    s.plan c again j est bubble = (s.planWaits again (s.pendingPlan again j est bubble)).tryApply c := by
  rw [plan_eq, if_neg (by rw [hr]; decide)]

theorem plan_unheard (hr : (s.pendingPlan false j est bubble).plan.result = 0) (hids : s.SameIds (s.pendingPlan false j est bubble))
    (hun : s.Unheard (s.pendingPlan false j est bubble)) : PlanWaits s (s.pendingPlan false j est bubble) (s.plan c false j est bubble) := by
  have hw := planWaits_spec s (s.pendingPlan false j est bubble)
  rw [plan_compared hr, tryApply_unheard hw.plan rfl (hw.sameIds hids) (hw.unheard hun)]
  exact hw

theorem reshard_unheard (hr : (s.pendingPlan true j est bubble).plan.result = 0) (hids : s.SameIds (s.pendingPlan true j est bubble))
    (hun : s.Unheard (s.pendingPlan true j est bubble)) : ReshardWaits s (s.pendingPlan true j est bubble) (s.plan c true j est bubble) := by
  have hw := reshardWaits_spec s (s.pendingPlan true j est bubble)
  rw [plan_compared hr]
  have hper : (s.pendingPlan true j est bubble).permuting = false := rfl
  generalize s.pendingPlan true j est bubble = pp at hw hids hun hper
  generalize s.planWaits true pp = w at hw
  obtain ⟨n, hplan⟩ := hw.plan
  have hsame : w.SameIds { pp with bytes := n } := fun h hh => hids h (hw.ids ▸ hh)
  have hunheard : w.Unheard { pp with bytes := n } := by
    obtain ⟨q, hq, hnone⟩ := hun
    refine ⟨q, ?_, fun h hh => hnone h (hw.ids ▸ hh)⟩
    rw [hw.others]
    exact hq
  rw [tryApply_unheard hplan hper hsame hunheard]
  exact hw

/-- The plan that every seat made alike. -/
structure MadeAlike (s : State) (pp : PendingPlan) : Prop where
  result : pp.plan.result = 0
  ids : s.SameIds pp
  heard : s.AllHeard pp

theorem plan_alike (h : MadeAlike s (s.pendingPlan false j est bubble)) : s.plan c false j est bubble
    = (s.planWaits false (s.pendingPlan false j est bubble)).agreed c (s.pendingPlan false j est bubble) := by
  have hw := planWaits_spec s (s.pendingPlan false j est bubble)
  rw [plan_compared h.result, tryApply_alike hw.plan rfl (hw.sameIds h.ids) (hw.allHeard h.heard)]

/-- A first placement is kept for the scene load. -/
theorem plan_first (h : MadeAlike s (s.pendingPlan false j est bubble)) (ha : s.job.applied = none) :
    (s.plan c false j est bubble).job = { s.job with plan := none, ready := some (s.pendingPlan false j est bubble), planIds := [] }
    ∧ (s.plan c false j est bubble).fld R.BK_STATUS_STATE = 3 ∧ ∀ e ∈ (s.plan c false j est bubble).host.cmds, e.id ≠ c.id := by
  have hw := planWaits_spec s (s.pendingPlan false j est bubble)
  rw [plan_alike h, agreed_first rfl (hw.applied.trans ha)]
  obtain ⟨hjob, hstate, hcmds⟩ := keepPlan_spec (s.planWaits false (s.pendingPlan false j est bubble)) c (s.pendingPlan false j est bubble)
  rw [hw.job] at hjob
  exact ⟨hjob, hstate, hcmds⟩

/-- Another placement is seen ready, or applying where a step gap lets it. -/
theorem plan_shown {v : Nat} (hv : v < 8) {pp : PendingPlan} (hw : PlanWaits s pp w) : (w.setFld R.BK_STATUS_STATE v).fld R.BK_STATUS_STATE = v
    ∧ (w.setFld R.BK_STATUS_STATE v).job = { s.job with plan := some pp } :=
  ⟨(fld_setFld_same w R.BK_STATUS_STATE v (by decide)).trans (Nat.mod_eq_of_lt hv), (job_setFld w _ v).trans hw.job⟩

theorem plan_later (h : MadeAlike s (s.pendingPlan false j est bubble)) (ha : s.job.applied ≠ none) (hgap : s.stepGap = false ∨ s.res.recovering = true) :
    (s.plan c false j est bubble).fld R.BK_STATUS_STATE = 3
    ∧ (s.plan c false j est bubble).job = { s.job with plan := some (s.pendingPlan false j est bubble) } := by
  have hw := planWaits_spec s (s.pendingPlan false j est bubble)
  have hlater : (s.planWaits false (s.pendingPlan false j est bubble)).stepGap = false
      ∨ ((s.planWaits false (s.pendingPlan false j est bubble)).res.recovering = true ∧ (s.pendingPlan false j est bubble).reshard = false) := by
    rw [hw.only.stepGap, hw.only.res]
    exact hgap.imp_right fun hrec => ⟨hrec, rfl⟩
  rw [plan_alike h, agreed_later (another_applied (hw.applied ▸ ha) _) hlater]
  exact plan_shown (by decide) hw

theorem PlanWaits.now (hw : PlanWaits s pp w) (ha : s.job.applied ≠ none) (hgap : s.stepGap = true) (hrec : s.res.recovering = false) : Now w pp :=
  ⟨another_applied (hw.applied ▸ ha) pp, hw.only.stepGap.trans hgap, .inl ((congrArg ResState.recovering hw.only.res).trans hrec)⟩

theorem plan_fits (h : MadeAlike s (s.pendingPlan false j est bubble)) (ha : s.job.applied ≠ none) (hgap : s.stepGap = true)
    (hrec : s.res.recovering = false) (hf : s.planFits (s.pendingPlan false j est bubble).plan = true) :
    (s.plan c false j est bubble).fld R.BK_STATUS_STATE = 4
    ∧ (s.plan c false j est bubble).job = { s.job with plan := some (s.pendingPlan false j est bubble) } := by
  have hw := planWaits_spec s (s.pendingPlan false j est bubble)
  have hreshard : (s.pendingPlan false j est bubble).reshard = false := rfl
  rw [plan_alike h]
  generalize s.pendingPlan false j est bubble = pp at hw hf hreshard
  generalize s.planWaits false pp = w at hw
  rw [agreed_fit (hw.now ha hgap hrec) ((hw.only.planFits _).trans hf), if_neg (by rw [hreshard]; decide), if_pos (by rw [hw.state]; decide)]
  exact plan_shown (by decide) hw

theorem plan_unfit (h : MadeAlike s (s.pendingPlan false j est bubble)) (ha : s.job.applied ≠ none) (hgap : s.stepGap = true)
    (hrec : s.res.recovering = false) (hf : s.planFits (s.pendingPlan false j est bubble).plan = false) :
    (s.plan c false j est bubble).job = s.job.unplanned ∧ ∀ e ∈ (s.plan c false j est bubble).host.cmds, e.id ≠ c.id := by
  have hw := planWaits_spec s (s.pendingPlan false j est bubble)
  rw [plan_alike h]
  generalize s.pendingPlan false j est bubble = pp at hw hf
  generalize s.planWaits false pp = w at hw
  rw [agreed_unfit (hw.now ha hgap hrec) ((hw.only.planFits _).trans hf)]
  have hfail := planFailed_spec w c pp.id 2
  refine ⟨hfail.job.trans ?_, hfail.cmds⟩
  rw [hw.job]
  rfl

/-! ### PLACE and RESHARD -/

/-- A placement command: it works on the request of its opcode. -/
structure Places (cmd : Instr) (op : Nat) (again : Bool) (j : JobDesc) (est bubble : Nat) : Prop where
  idle : ∀ s : State, s.runningCmd op = none → exec cmd s = .next s
  works : ∀ (s : State) (c : CmdRec), s.runningCmd op = some c → exec cmd s = .next (s.placing c again j est bubble)

theorem places_place (j : JobDesc) (est : BitVec 32) (bubble : BitVec 16) : Places (.place j est bubble) opcPlace false j est.toNat bubble.toNat := by
  refine ⟨fun s h => (exec_place j est bubble s).trans ?_, fun s c h => (exec_place j est bubble s).trans ?_⟩
  · unfold execPlace
    rw [h]
  · unfold execPlace
    rw [h]

theorem places_reshard (j : JobDesc) (est : BitVec 32) (bubble : BitVec 16) : Places (.reshard j est bubble) opcReshard true j est.toNat bubble.toNat := by
  refine ⟨fun s h => (exec_reshard j est bubble s).trans ?_, fun s c h => (exec_reshard j est bubble s).trans ?_⟩
  · unfold execReshard
    rw [h]
  · unfold execReshard
    rw [h]

theorem places_of_mem {j : JobDesc} {est : BitVec 32} {bubble : BitVec 16} {cmd : Instr} {op : Nat} {again : Bool}
    (h : (cmd, op, again) ∈ [(Instr.place j est bubble, opcPlace, false), (.reshard j est bubble, opcReshard, true)]) :
    Places cmd op again j est.toNat bubble.toNat := by
  rcases List.mem_cons.mp h with h | h
  · obtain ⟨rfl, rfl, rfl⟩ : cmd = _ ∧ op = _ ∧ again = _ := by simpa using h
    exact places_place j est bubble
  · obtain ⟨rfl, rfl, rfl⟩ : cmd = _ ∧ op = _ ∧ again = _ := by simpa using h
    exact places_reshard j est bubble

variable {cmd : Instr} {op : Nat} {again : Bool}

theorem Places.taken (h : Places cmd op again j est bubble) (hc : s.runningCmd op = some c) (hp : s.job.plan = none)
    (hs : s.fld R.BK_STATUS_STATE ≠ 1) : exec cmd s = .next (s.placed1 c again) :=
  (h.works s c hc).trans (congrArg _ (placing_taken hp hs again j est bubble))

theorem Places.made (h : Places cmd op again j est bubble) (hc : s.runningCmd op = some c) (hp : s.job.plan = none)
    (hs : s.fld R.BK_STATUS_STATE = 1) : exec cmd s = .next (s.plan c again j est bubble) :=
  (h.works s c hc).trans (congrArg _ (placing_made hp hs again j est bubble))

theorem Places.goesOn (h : Places cmd op again j est bubble) (hc : s.runningCmd op = some c) (hp : s.job.plan = some pp) :
    exec cmd s = .next ((s.tryApply c).planProgress c.id) :=
  (h.works s c hc).trans (congrArg _ (placing_waits hp again j est bubble))

/-- A plan that waits and every seat made alike, at a step gap where it fits. -/
structure Ready (s : State) (pp : PendingPlan) : Prop where
  plan : s.job.plan = some pp
  starts : pp.permuting = false
  ids : s.SameIds pp
  heard : s.AllHeard pp
  gap : s.stepGap = true
  fits : s.planFits pp.plan = true

/-- A placement that has been seen applying is applied. -/
theorem ready_applies (h : Ready s pp) (hr : pp.reshard = false) (ha : s.job.applied ≠ none) (hrec : s.res.recovering = false)
    (hs : s.fld R.BK_STATUS_STATE = 4) : Applied pp ((s.tryApply c).planProgress c.id)
      ∧ ∀ e ∈ ((s.tryApply c).planProgress c.id).host.cmds, e.id ≠ c.id := by
  have hnow : Now s pp := ⟨another_applied ha pp, h.gap, .inl hrec⟩
  rw [tryApply_alike h.plan h.starts h.ids h.heard, agreed_fit hnow h.fits, if_neg (by rw [hr]; decide), if_neg (by rw [hs]; decide)]
  obtain ⟨happlied, hcmds⟩ := applied_done s c pp 0 4 (planDetail pp.id 0)
  rw [planProgress_none happlied.2.1]
  exact ⟨happlied, hcmds⟩

/-- A re-shard starts its permute. -/
theorem ready_permutes (h : Ready s pp) (hr : pp.reshard = true) : ((s.tryApply c).planProgress c.id).fld R.BK_STATUS_STATE = 5
    ∧ ((s.tryApply c).planProgress c.id).job = { s.job with plan := some { pp with permuting := true } } := by
  have hnow : Now s pp := ⟨another_reshard s hr, h.gap, .inr hr⟩
  rw [tryApply_alike h.plan h.starts h.ids h.heard, agreed_fit hnow h.fits, if_pos hr]
  obtain ⟨hstate, hjob⟩ := startPermute_spec s pp
  have hunits := unitsOnly_planProgress (s.startPermute pp) c.id
  exact ⟨(hunits.fld _).trans hstate, hunits.job.trans hjob⟩

/-! ### PLAN_ID (R318) -/

/-- The PLAN_IDs heard, with a seat's new one. -/
def State.idsWith (s : State) (seat : BitVec 15) (id : Word) : List (Nat × Nat) :=
  s.job.planIds.filter (fun h => h.1 != seat.toNat) ++ [(seat.toNat, id.toNat)]

/-- A PLAN_ID kept. -/
def State.idHeard (s : State) (seat : BitVec 15) (id : Word) : State := s.setJob { s.job with planIds := s.idsWith seat id }

/-- The opcode of the command that a plan is made for. -/
def PendingPlan.opcode (pp : PendingPlan) : Nat := if pp.reshard then opcReshard else opcPlace

theorem planIdExchange_none (h : s.job.plan = none) (seat : BitVec 15) (id : Word) : execPlanIdExchange seat id s = .next (s.idHeard seat id) := by
  have hplan : (s.idHeard seat id).job.plan = none := h
  unfold State.idHeard State.idsWith at hplan ⊢
  unfold execPlanIdExchange
  dsimp only
  rw [hplan]

theorem planIdExchange_idle (h : s.job.plan = some pp) (hc : s.runningCmd pp.opcode = none) (seat : BitVec 15) (id : Word) :
    execPlanIdExchange seat id s = .next (s.idHeard seat id) := by
  have hplan : (s.idHeard seat id).job.plan = some pp := h
  have hcmd : (s.idHeard seat id).runningCmd pp.opcode = none := hc
  unfold PendingPlan.opcode at hcmd
  unfold State.idHeard State.idsWith at hplan hcmd ⊢
  unfold execPlanIdExchange
  dsimp only
  rw [hplan]
  dsimp only
  rw [hcmd]

theorem planIdExchange_works (h : s.job.plan = some pp) (hc : s.runningCmd pp.opcode = some c) (seat : BitVec 15) (id : Word) :
    execPlanIdExchange seat id s = .next ((s.idHeard seat id).tryApply c) := by
  have hplan : (s.idHeard seat id).job.plan = some pp := h
  have hcmd : (s.idHeard seat id).runningCmd pp.opcode = some c := hc
  unfold PendingPlan.opcode at hcmd
  unfold State.idHeard State.idsWith at hplan hcmd ⊢
  unfold execPlanIdExchange
  dsimp only
  rw [hplan]
  dsimp only
  rw [hcmd]

/-- A PLAN_ID is only kept where no command goes on with the plan, or its permute runs. -/
theorem planIdExchange_kept (h : s.job.plan = some pp) {seat : BitVec 15} {id : Word} (hc : s.runningCmd pp.opcode = none ∨ pp.permuting = true) :
    execPlanIdExchange seat id s = .next (s.idHeard seat id) := by
  cases hcmd : s.runningCmd pp.opcode with
  | none => exact planIdExchange_idle h hcmd seat id
  | some c =>
    have hp : pp.permuting = true := hc.resolve_left (by rw [hcmd]; nofun)
    rw [planIdExchange_works h hcmd, tryApply_permuting (s := s.idHeard seat id) h hp]

theorem idHeard_new (s : State) (seat : BitVec 15) (id : Word) : (seat.toNat, id.toNat) ∈ (s.idHeard seat id).job.planIds :=
  List.mem_append_right _ (List.mem_singleton_self _)

theorem unplanned_idHeard (s : State) (seat : BitVec 15) (id : Word) : (s.idHeard seat id).job.unplanned = s.job.unplanned := rfl

/-- A differing PLAN_ID ends the plan. -/
theorem planIdExchange_differs (h : s.job.plan = some pp) (hc : s.runningCmd pp.opcode = some c) (hp : pp.permuting = false) {seat : BitVec 15}
    {id : Word} (hne : pp.id ≠ id.toNat) : ∃ u, execPlanIdExchange seat id s = .next u ∧ u.job = s.job.unplanned ∧ u.scene = s.scene
      ∧ ∀ e ∈ u.host.cmds, e.id ≠ c.id := by
  refine ⟨_, planIdExchange_works h hc seat id, ?_⟩
  rw [tryApply_differs (s := s.idHeard seat id) h hp (idHeard_new s seat id) fun e => hne e.symm]
  have hfail := planFailed_spec (s.idHeard seat id) c pp.id 7
  exact ⟨hfail.job.trans (unplanned_idHeard s seat id), hfail.scene, hfail.cmds⟩

theorem planIdExchange_unheard (h : s.job.plan = some pp) (hc : s.runningCmd pp.opcode = some c) (hp : pp.permuting = false) {seat : BitVec 15}
    {id : Word} (hids : (s.idHeard seat id).SameIds pp) (hun : (s.idHeard seat id).Unheard pp) :
    execPlanIdExchange seat id s = .next (s.idHeard seat id) := by
  rw [planIdExchange_works h hc, tryApply_unheard (s := s.idHeard seat id) h hp hids hun]

/-- The last PLAN_ID of a first placement: the plan is kept for the scene load. -/
theorem planIdExchange_first (h : s.job.plan = some pp) (hc : s.runningCmd pp.opcode = some c) (hp : pp.permuting = false) {seat : BitVec 15}
    {id : Word} (hids : (s.idHeard seat id).SameIds pp) (hheard : (s.idHeard seat id).AllHeard pp) (hr : pp.reshard = false)
    (ha : s.job.applied = none) : ∃ u, execPlanIdExchange seat id s = .next u
      ∧ u.job = { s.job with plan := none, ready := some pp, planIds := [] } ∧ ∀ e ∈ u.host.cmds, e.id ≠ c.id := by
  refine ⟨_, planIdExchange_works h hc seat id, ?_⟩
  rw [tryApply_alike (s := s.idHeard seat id) h hp hids hheard, agreed_first (s := s.idHeard seat id) hr ha]
  obtain ⟨hjob, _, hcmds⟩ := keepPlan_spec (s.idHeard seat id) c pp
  exact ⟨hjob, hcmds⟩

/-! ### PERMUTE_COMPLETE (R346) -/

/-- A permute whose items are all in. -/
structure AllIn (s : State) (pp : PendingPlan) : Prop where
  runs : pp.permuting = true
  left : s.fld R.BK_PERMUTE_BYTES_LEFT = 0
  answered : s.resWait jobPermute = 0
  going : s.anyCmd opcReshard CmdRec.suspended = false

/-- What a permute that waits for something goes by. -/
def State.permuteWaits (s : State) (others : Bool) (pp : PendingPlan) : Bool :=
  !pp.permuting || !others || s.fld R.BK_PERMUTE_BYTES_LEFT != 0 || s.resWait jobPermute != 0 || s.anyCmd opcReshard CmdRec.suspended

theorem AllIn.goes (h : AllIn s pp) : s.permuteWaits true pp = false := by
  unfold State.permuteWaits
  rw [h.runs, h.left, h.answered, h.going]
  rfl

theorem permuteWaits_of (h : pp.permuting = false ∨ s.anyCmd opcReshard CmdRec.suspended = true ∨ s.fld R.BK_PERMUTE_BYTES_LEFT ≠ 0
    ∨ s.resWait jobPermute ≠ 0) :
    s.permuteWaits true pp = true := by
  unfold State.permuteWaits
  simp only [Bool.or_eq_true, Bool.not_eq_true', bne_iff_ne]
  tauto

theorem permuteWaits_others (s : State) (pp : PendingPlan) : s.permuteWaits false pp = true := by
  unfold State.permuteWaits
  simp only [Bool.not_false, Bool.or_true, Bool.true_or]

/-- A permute over: the plan applied, the job resumed from the checkpoint. -/
def State.permuted (s : State) (pp : PendingPlan) : State :=
  (s.applyPlan pp (s.fld R.RS_CKPT_STEP)).resume (s.cue + 64) (s.fld R.RS_CKPT_STEP + 1)

theorem permuted_spec (s : State) (pp : PendingPlan) : Applied pp (s.permuted pp)
    ∧ (s.permuted pp).fld R.CU_STEP_STEP = (s.fld R.RS_CKPT_STEP + 1) % 2 ^ 32 := by
  have hplan := applied_applyPlan s pp (s.fld R.RS_CKPT_STEP)
  unfold State.permuted
  generalize s.fld R.RS_CKPT_STEP = n at hplan ⊢
  generalize s.applyPlan pp n = v at hplan ⊢
  unfold Applied at hplan ⊢
  have hresume := resume_spec v (s.cue + 64) (n + 1)
  generalize v.resume (s.cue + 64) (n + 1) = w at hresume ⊢
  obtain ⟨hstep, happlied, hplan', hdesc⟩ := hresume
  rw [happlied, hplan', hdesc]
  exact ⟨hplan, hstep⟩

theorem permuteComplete_waits {others : Bool} (h : s.job.plan = some pp) (hw : s.permuteWaits others pp = true) :
    execPermuteComplete others s = .next s := by
  unfold execPermuteComplete
  rw [h]
  exact if_pos hw

theorem permuteComplete_shows (h : s.job.plan = some pp) (hall : AllIn s pp) (hs : s.fld R.BK_STATUS_STATE ≠ 4) :
    execPermuteComplete true s = .next (s.setFld R.BK_STATUS_STATE 4) := by
  unfold execPermuteComplete
  rw [h]
  exact (if_neg (ne_true_of_eq_false hall.goes)).trans (if_pos hs)

/-- The re-shard's command, where one runs, reports the plan applied. -/
def State.reported (s : State) (pp : PendingPlan) : State :=
  match s.runningCmd opcReshard with
  | none => s
  | some c => s.cmdDone { c with done := mib pp.bytes, total := mib pp.bytes } 0 (planDetail pp.id 0)

theorem permuteComplete_applies (h : s.job.plan = some pp) (hall : AllIn s pp) (hs : s.fld R.BK_STATUS_STATE = 4) :
    execPermuteComplete true s = .next ((s.permuted pp).reported pp) := by
  unfold execPermuteComplete
  rw [h]
  refine (if_neg (ne_true_of_eq_false hall.goes)).trans ((if_neg (fun hn => hn hs)).trans ?_)
  unfold State.reported State.permuted
  dsimp only
  generalize s.fld R.RS_CKPT_STEP = n
  generalize s.applyPlan pp n = v
  generalize v.resume (s.cue + 64) (n + 1) = v
  cases v.runningCmd opcReshard with
  | none => rfl
  | some c => rfl

theorem hostOnly_reported (s : State) (pp : PendingPlan) : HostOnly s (s.reported pp) := by
  unfold State.reported
  split
  · exact hostOnly_refl s
  · exact hostOnly_cmdDone s _ _ _

theorem reported_spec (s : State) (pp : PendingPlan) : Applied pp ((s.permuted pp).reported pp)
    ∧ ((s.permuted pp).reported pp).fld R.CU_STEP_STEP = (s.fld R.RS_CKPT_STEP + 1) % 2 ^ 32 := by
  obtain ⟨happlied, hstep⟩ := permuted_spec s pp
  generalize s.permuted pp = v at happlied hstep
  have hhost := hostOnly_reported v pp
  exact ⟨happlied.of_job hhost.job, (hhost.fld (by decide) (by decide)).trans hstep⟩

end Sys2Proof.Machine
end

section
/-!
PROOFS. STAGE_SCENE (O40): the report, the staged scene and its bank image in the wings.
-/
namespace Sys2Proof.Machine
open Sys2Proof.Claim

variable {s u w : State} {c : CmdRec} {r : RolloutDesc} {images : List (List Byte)}

/-! ### What reading and measuring the images leaves -/

theorem beside_readImages (s : State) (c : CmdRec) : Beside True True s (s.readImages c).2 :=
  List.foldlRecOn _ _ (motive := fun z : List (List Byte) × State => Beside True True s z.2) (.refl s)
    fun z hz _ _ => hz.trans ((beside_moverRead z.2 1 _ _ 0 false noEcc).weaken (fun _ => by decide) id)

/-- Stores, tiles and scene stay, and the blocking engine's status. -/
structure StagedApart (s u : State) : Prop where
  stores : StoresKept s u
  status : u.reg R.BK_STATUS = s.reg R.BK_STATUS

theorem StagedApart.trans (h : StagedApart s u) (g : StagedApart u w) : StagedApart s w := ⟨h.stores.trans g.stores, g.status.trans h.status⟩

theorem stagedApart_foldl {α : Type} {f : State → α → State} (hf : ∀ t x, StagedApart t (f t x)) (l : List α) (s : State) :
    StagedApart s (l.foldl f s) :=
  List.foldlRecOn l f (motive := fun u => StagedApart s u) ⟨storesKept_refl s, rfl⟩ fun t ht x _ => ht.trans (hf t x)

theorem stagedApart_setMeasWord (s : State) (i j : Nat) (v : Word) : StagedApart s (s.setReg (R.SC_MEAS i j) v) :=
  ⟨⟨rfl, rfl, rfl, rfl⟩, reg_setReg_ne s v (by unfold R.SC_MEAS R.BK_STATUS; omega)⟩

theorem stagedApart_setMeas (s : State) (i : Nat) (l : List Byte) : StagedApart s (s.setMeas i l) := by
  unfold State.setMeas
  exact stagedApart_foldl (fun u j => stagedApart_setMeasWord u i j _) (List.range 8) s

theorem stagedApart_measExtend (s : State) (i : Nat) (l : List Byte) : StagedApart s (s.measExtend i l) := by
  unfold State.measExtend
  exact stagedApart_setMeas s i _

theorem stagedApart_measImages (s : State) (images : List (List Byte)) : StagedApart s (s.measImages images) := by
  unfold State.measImages
  exact stagedApart_foldl (fun u _ => stagedApart_measExtend u 5 _) images s

/-! ### The area of a staged scene (R60, R347) -/

theorem bytesOnly_stageBytes (s : State) (a : Nat) (l : List Byte) : BytesOnly s (s.stageBytes a l) :=
  (bytesOnly_setBytes s a l).trans (bytesOnly_foldl (f := fun (t : State) (u : Nat) => t.setPoison u false) (fun _ _ => ⟨rfl⟩) _ _)

theorem bytesOnly_ite {p : Prop} [Decidable p] (h : BytesOnly s u) : BytesOnly s (if p then u else s) := by
  split
  · exact h
  · exact bytesOnly_refl s

theorem bytesOnly_stageScene (s : State) (x : StagedScene) (data : List (Nat × List Byte)) : BytesOnly s (s.stageScene x data) :=
  (bytesOnly_foldl (f := fun (u : State) (l : List Byte) => (Image.ofBytes l).tiles.foldl (fun v t => v.stageBytes (x.bankAt t) (imgCode l)) u)
    (fun u l => bytesOnly_foldl (f := fun (v : State) (t : Nat) => v.stageBytes (x.bankAt t) (imgCode l))
      (fun v _ => bytesOnly_stageBytes v _ _) _ u) _ s).trans
    (bytesOnly_foldl (f := fun (u : State) (p : Nat × List Byte) => if x.ownsData p.1 p.2.length then u.stageBytes (x.dataAt p.1) p.2 else u)
      (fun u _ => bytesOnly_ite (bytesOnly_stageBytes u _ _)) data _)

theorem bytes_stageBytes (s : State) (a : Nat) (l : List Byte) : (s.stageBytes a l).bytes a l.length = l := by
  have hmem : (s.stageBytes a l).mem = (s.setBytes a l).mem :=
    (storesKept_foldl (f := fun (t : State) (u : Nat) => t.setPoison u false) (fun t u => storesKept_setPoison t u false) _ _).mem
  exact (bytes_of_byte fun i _ => byte_of_mem hmem (a + i)).trans (bytes_setBytes s a l)

/-- The one bank image of a scene of one image for one tile. -/
theorem bytes_stageScene {x : StagedScene} {l : List Byte} {t : Nat} (hx : x.images = [l]) (ht : (Image.ofBytes l).tiles = [t]) (s : State) :
    (s.stageScene x []).bytes (x.bankAt t) (imgCode l).length = imgCode l := by
  have heq : s.stageScene x [] = s.stageBytes (x.bankAt t) (imgCode l) := by
    unfold State.stageScene
    rw [hx, List.foldl_nil, List.foldl_cons, List.foldl_nil, ht, List.foldl_cons, List.foldl_nil]
  rw [heq]
  exact bytes_stageBytes s _ _

theorem foldl_min_le {α : Type} (f : α → Nat) (l : List α) (n : Nat) : l.foldl (fun m x => min m (f x)) n ≤ n :=
  List.foldlRecOn l _ (motive := fun m => m ≤ n) le_rfl fun m hm x _ => (Nat.min_le_left m (f x)).trans hm

theorem sceneTop_le (s : State) (id : Option Nat) (die : Nat) : s.sceneTop id die ≤ 0x1F0000000 :=
  (foldl_min_le _ _ _).trans (Nat.sub_le _ _)

theorem length_imgCode (l : List Byte) : (imgCode l).length < 2 ^ 32 :=
  (List.length_take_le _ _).trans_lt ((ofLe_lt _).trans_le (Nat.pow_le_pow_right (by decide) (List.length_take_le 4 _) : 256 ^ _ ≤ 256 ^ 4))

/-- Where the regions of a rollout start on each die. -/
def State.stageBase (s : State) (id : Nat) (homes : List Nat) : List Nat :=
  (List.range 8).map (fun d => 0x10000000000 + 0x200000000 * d + s.sceneTop (some id) d - homes.getD d 0)

/-- The scene that STAGE_SCENE stages. -/
def State.stagedAs (s : State) (c : CmdRec) (r : RolloutDesc) (images : List (List Byte)) (homes : List Nat) : StagedScene :=
  let base := s.stageBase c.sceneId homes
  let lay := rolloutLayout r base
  ⟨c.sceneId, images, c.sceneSeed, r.data.map (fun p => (p.1, p.2.length)), base.zipIdx.map (fun p => p.1 - sceneAreaBytes images p.2), lay.1, lay.2⟩

theorem getD_zipIdx_map (f : Nat → Nat) (g : Nat × Nat → Nat) {n d : Nat} (hd : d < n) :
    (((List.range n).map f).zipIdx.map g).getD d 0 = g (f d, d) := by
  simp [List.getD_eq_getElem?_getD, hd]

theorem low_stagedAs_le (s : State) (c : CmdRec) (r : RolloutDesc) (images : List (List Byte)) (homes : List Nat) {d : Nat} (hd : d < 8) :
    (s.stagedAs c r images homes).low.getD d 0 ≤ 0x10000000000 + 0x200000000 * d + 0x1F0000000 := by
  have htop := sceneTop_le s (some c.sceneId) d
  have hlow : (s.stagedAs c r images homes).low.getD d 0
      = 0x10000000000 + 0x200000000 * d + s.sceneTop (some c.sceneId) d - homes.getD d 0 - sceneAreaBytes images d := getD_zipIdx_map _ _ hd
  rw [hlow]
  exact (Nat.sub_le _ _).trans ((Nat.sub_le _ _).trans (Nat.add_le_add_left htop _))

/-- A staged bank image of a scene of one tile lies below the session rings. -/
theorem bankAt_below {x : StagedScene} {l : List Byte} {t : Nat} (hx : x.images = [l]) (ht : (Image.ofBytes l).tiles = [t]) (ht2 : t < 2048)
    (hlow : x.low.getD (t / 256) 0 ≤ 0x10000000000 + 0x200000000 * (t / 256) + 0x1F0000000) {i : Nat} (hi : i < (imgCode l).length) :
    x.bankAt t + i < ringBase 0 := by
  have hlen := length_imgCode l
  have hon : sceneTilesOn x.images (t / 256) = [t] := by
    unfold sceneTilesOn sceneTiles
    rw [hx, List.flatMap_cons, List.flatMap_nil, List.append_nil, ht]
    exact List.filter_cons_of_pos (beq_self_eq_true _)
  have hat : x.bankAt t = x.low.getD (t / 256) 0 := by
    unfold StagedScene.bankAt
    rw [hon, List.idxOf_cons_self]
    rfl
  unfold ringBase
  omega

/-! ### The command -/

/-- The plan of a rollout told to the host. -/
def State.rolloutTold (s : State) (r : RolloutDesc) (res : Nat × List Nat) : State :=
  (s.leaveReport (rolloutReport res.1 r.seats.length (res.2.foldl max 0) s.mySeat)).setFld R.BK_STATUS_RESULT res.1

theorem rolloutTold_spec (s : State) (r : RolloutDesc) (res : Nat × List Nat) : PlanOnly s (s.rolloutTold r res)
    ∧ (s.rolloutTold r res).fld R.BK_STATUS_RESULT = res.1 % 256
    ∧ (s.rolloutTold r res).host.report = rolloutReport res.1 r.seats.length (res.2.foldl max 0) s.mySeat := by
  unfold State.rolloutTold
  generalize rolloutReport res.1 r.seats.length (res.2.foldl max 0) s.mySeat = rep
  obtain ⟨honly, _, _, hhost⟩ := job_planOnly_leaveReport s rep
  generalize s.leaveReport rep = v at honly hhost
  refine ⟨honly.trans (planOnly_setFld v _ (by unfold BlockReg; decide)), fld_setFld_same v R.BK_STATUS_RESULT res.1 (by decide), ?_⟩
  rw [host_setFld, hhost]

/-- A staged scene written beside the running one and kept. -/
def State.sceneStaged (s : State) (r : RolloutDesc) (x : StagedScene) : State :=
  ((s.stageScene x r.data).measImages x.images).setScene { s.scene with staged := s.scene.staged.filter (fun y => y.id != x.id) ++ [x] }

/-- A scene staged, its command done. -/
def State.stageDone (s : State) (c : CmdRec) (r : RolloutDesc) (images : List (List Byte)) (homes : List Nat) : State :=
  (s.sceneStaged r (s.stagedAs c r images homes)).cmdDone { c with done := c.imageCount, total := c.imageCount } 0 []

/-- What STAGE_SCENE does with images that the verifier accepts. -/
def State.stageVerified (s : State) (c : CmdRec) (r : RolloutDesc) (images : List (List Byte)) : State :=
  let res := s.rolloutPlan r c.sceneId images
  if res.1 ≠ 0 then (s.rolloutTold r res).cmdDone c 0x8B
    (planDetail (ofLe ((rolloutReport res.1 r.seats.length (res.2.foldl max 0) s.mySeat).take 8)) res.1)
  else (s.rolloutTold r res).stageDone c r images res.2

theorem stageScene_idle (h : s.runningCmd opcStageScene = none ∨ s.inCurtain = true) (r : RolloutDesc) : execStageScene r s = .next s := by
  unfold execStageScene
  cases hc : s.runningCmd opcStageScene with
  | none => rfl
  | some c => exact if_pos (h.resolve_left (by rw [hc]; nofun))

theorem stageScene_rejected (hc : s.runningCmd opcStageScene = some c) (hi : s.inCurtain = false) {p : Nat × Reject}
    (hv : (s.readImages c).2.verifyScene none (s.readImages c).1 = some p) : execStageScene r s = .next ((s.readImages c).2.verifyFailed c p) := by
  unfold execStageScene
  rw [hc]
  refine (if_neg (ne_true_of_eq_false hi)).trans ?_
  dsimp only
  rw [hv]

theorem stageScene_verified (hc : s.runningCmd opcStageScene = some c) (hi : s.inCurtain = false)
    (hv : (s.readImages c).2.verifyScene none (s.readImages c).1 = none) :
    execStageScene r s = .next ((s.readImages c).2.stageVerified c r (s.readImages c).1) := by
  unfold execStageScene
  rw [hc]
  refine (if_neg (ne_true_of_eq_false hi)).trans ?_
  generalize s.readImages c = im at hv ⊢
  dsimp only
  rw [hv]
  unfold State.stageVerified
  dsimp only
  generalize im.2.rolloutPlan r c.sceneId im.1 = res
  by_cases hres : res.1 ≠ 0
  · rw [if_pos hres, if_pos hres]
    rfl
  · rw [if_neg hres, if_neg hres]
    rfl

theorem report_cmdDone (s : State) (c : CmdRec) (code : Nat) (detail : List Byte) : (s.cmdDone c code detail).host.report = s.host.report := by
  have hstatus : (s.cmdDone c code detail).host.report = (s.cmdGone c).host.report :=
    (congrArg (fun v : State => v.host.report) (statusOnly_cmdDone s c code detail).rest :)
  rw [hstatus, (cmdGone_spec s c).1]

theorem sceneStaged_spec (s : State) (r : RolloutDesc) (x : StagedScene) : (s.sceneStaged r x).tiles = s.tiles
    ∧ (s.sceneStaged r x).reg R.BK_STATUS = s.reg R.BK_STATUS
    ∧ (s.sceneStaged r x).scene = { s.scene with staged := s.scene.staged.filter (fun y => y.id != x.id) ++ [x] }
    ∧ (s.sceneStaged r x).mem = (s.stageScene x r.data).mem := by
  have hstage := bytesOnly_stageScene s x r.data
  unfold State.sceneStaged
  generalize s.stageScene x r.data = v at hstage
  have hmeas := stagedApart_measImages v x.images
  generalize v.measImages x.images = w at hmeas
  have hreg : v.reg R.BK_STATUS = s.reg R.BK_STATUS := congrArg (smapGet (regReset R.BK_STATUS) · R.BK_STATUS) hstage.regs
  exact ⟨hmeas.stores.tiles.trans hstage.tiles, hmeas.status.trans hreg, rfl, hmeas.stores.mem⟩

/-- The state that the verifier sees. -/
structure ImagesRead (s v : State) : Prop where
  scene : v.scene = s.scene
  tiles : v.tiles = s.tiles
  mySeat : v.mySeat = s.mySeat

theorem imagesRead (s : State) (c : CmdRec) : ImagesRead s (s.readImages c).2 := by
  have h := beside_readImages s c
  exact ⟨h.scene, h.tiles trivial, mySeat_of_reg (h.regs trivial _ (fun hu => hu.1 rfl))⟩

theorem verifyFailed_keeps (v : State) (c : CmdRec) (p : Nat × Reject) : (v.verifyFailed c p).scene = v.scene ∧ (v.verifyFailed c p).tiles = v.tiles := by
  have hdone : HostOnly v (v.verifyFailed c p) := hostOnly_cmdDone _ _ _ _
  exact ⟨hdone.scene, hdone.tiles⟩

/-- A scene staged beside the running one. -/
structure Staged (s : State) (c : CmdRec) (r : RolloutDesc) (files : List (List Byte)) (x : StagedScene) (u : State) : Prop where
  tiles : u.tiles = s.tiles
  result : u.fld R.BK_STATUS_RESULT = 0
  scene : u.scene = { s.scene with staged := s.scene.staged.filter (fun y => y.id != c.sceneId) ++ [x] }
  id : x.id = c.sceneId
  images : x.images = files
  seed : x.seed = c.sceneSeed
  data : x.data = r.data.map (fun p => (p.1, p.2.length))
  bank : ∀ l t, files = [l] → (Image.ofBytes l).tiles = [t] → t < 2048 → r.data = [] → u.bytes (x.bankAt t) (imgCode l).length = imgCode l

theorem Staged.of_read {v : State} {x : StagedScene} (h : Staged v c r images x u) (hread : ImagesRead s v) : Staged s c r images x u :=
  { h with tiles := h.tiles.trans hread.tiles, scene := h.scene.trans (by rw [hread.scene]) }

theorem stageVerified_fits {v : State} (c : CmdRec) (r : RolloutDesc) (images : List (List Byte)) (h : (v.rolloutPlan r c.sceneId images).1 = 0) :
    ∃ x, Staged v c r images x (v.stageVerified c r images) := by
  have heq : v.stageVerified c r images = (v.rolloutTold r (v.rolloutPlan r c.sceneId images)).stageDone c r images (v.rolloutPlan r c.sceneId images).2 :=
    if_neg (not_not_intro h)
  rw [heq]
  generalize v.rolloutPlan r c.sceneId images = res at h
  obtain ⟨honly, hresult, _⟩ := rolloutTold_spec v r res
  rw [h] at hresult
  generalize v.rolloutTold r res = t at honly hresult
  have hlow : ∀ d, d < 8 → (t.stagedAs c r images res.2).low.getD d 0 ≤ 0x10000000000 + 0x200000000 * d + 0x1F0000000 :=
    fun d hd => low_stagedAs_le t c r images res.2 hd
  have hid : (t.stagedAs c r images res.2).id = c.sceneId := rfl
  have himages : (t.stagedAs c r images res.2).images = images := rfl
  have hseed : (t.stagedAs c r images res.2).seed = c.sceneSeed := rfl
  have hdata : (t.stagedAs c r images res.2).data = r.data.map (fun p => (p.1, p.2.length)) := rfl
  unfold State.stageDone
  generalize t.stagedAs c r images res.2 = x at hlow hid himages hseed hdata
  obtain ⟨htiles, hreg, hscene, hmem⟩ := sceneStaged_spec t r x
  generalize t.sceneStaged r x = w at htiles hreg hscene hmem
  have hdone := hostOnly_cmdDone w { c with done := c.imageCount, total := c.imageCount } 0 []
  refine ⟨x, (hdone.tiles.trans htiles).trans honly.tiles, ?_, ?_, hid, himages, hseed, hdata, fun l n hl hn hn2 hr => ?_⟩
  · rw [fld_cmdDone w { c with done := c.imageCount, total := c.imageCount } 0 [] (.inr (by decide)), fld_congr hreg, hresult]
  · rw [hdone.scene, hscene, honly.scene, hid]
  · have hl' : x.images = [l] := himages.trans hl
    calc _ = w.bytes (x.bankAt n) (imgCode l).length :=
          bytes_of_byte fun i hi => hdone.bytes _ (bankAt_below hl' hn hn2 (hlow (n / 256) (by omega)) hi)
      _ = (t.stageScene x r.data).bytes (x.bankAt n) (imgCode l).length := bytes_of_byte fun i _ => byte_of_mem hmem _
      _ = imgCode l := by rw [hr, bytes_stageScene hl' hn t]

theorem stageVerified_unfit {v : State} (c : CmdRec) (r : RolloutDesc) (images : List (List Byte)) (h : (v.rolloutPlan r c.sceneId images).1 ≠ 0) :
    (v.stageVerified c r images).scene = v.scene ∧ (v.stageVerified c r images).tiles = v.tiles
    ∧ ∃ n region, (v.stageVerified c r images).host.report = rolloutReport (v.rolloutPlan r c.sceneId images).1 n region v.mySeat := by
  have heq : v.stageVerified c r images = (v.rolloutTold r (v.rolloutPlan r c.sceneId images)).cmdDone c 0x8B _ := if_pos h
  rw [heq]
  generalize v.rolloutPlan r c.sceneId images = res
  obtain ⟨honly, _, hreport⟩ := rolloutTold_spec v r res
  generalize v.rolloutTold r res = t at honly hreport
  have hdone := fun detail => hostOnly_cmdDone t c 0x8B detail
  exact ⟨(hdone _).scene.trans honly.scene, (hdone _).tiles.trans honly.tiles, _, _, (report_cmdDone t c _ _).trans hreport⟩

/-- A rollout that does not fit leaves nothing but its report. -/
structure StageRefused (s : State) (c : CmdRec) (result : Nat) (u : State) : Prop where
  scene : u.scene = s.scene
  tiles : u.tiles = s.tiles
  report : ∃ n region, u.host.report = rolloutReport result n region s.mySeat

theorem stageScene_rejects (hc : s.runningCmd opcStageScene = some c) (hi : s.inCurtain = false) {p : Nat × Reject}
    (hv : (s.readImages c).2.verifyScene none (s.readImages c).1 = some p) : ∃ u, execStageScene r s = .next u
      ∧ u = (s.readImages c).2.verifyFailed c p ∧ u.scene = s.scene ∧ u.tiles = s.tiles := by
  obtain ⟨hscene, htiles⟩ := verifyFailed_keeps (s.readImages c).2 c p
  have hread := imagesRead s c
  exact ⟨_, stageScene_rejected hc hi hv, rfl, hscene.trans hread.scene, htiles.trans hread.tiles⟩

theorem stageScene_fits (hc : s.runningCmd opcStageScene = some c) (hi : s.inCurtain = false)
    (hv : (s.readImages c).2.verifyScene none (s.readImages c).1 = none)
    (hfits : ((s.readImages c).2.rolloutPlan r c.sceneId (s.readImages c).1).1 = 0) :
    ∃ u x, execStageScene r s = .next u ∧ Staged s c r (s.readImages c).1 x u := by
  obtain ⟨x, hx⟩ := stageVerified_fits c r (s.readImages c).1 hfits
  exact ⟨_, x, stageScene_verified hc hi hv, hx.of_read (imagesRead s c)⟩

theorem stageScene_unfit (hc : s.runningCmd opcStageScene = some c) (hi : s.inCurtain = false)
    (hv : (s.readImages c).2.verifyScene none (s.readImages c).1 = none)
    (hfits : ((s.readImages c).2.rolloutPlan r c.sceneId (s.readImages c).1).1 ≠ 0) :
    ∃ u, execStageScene r s = .next u ∧ StageRefused s c ((s.readImages c).2.rolloutPlan r c.sceneId (s.readImages c).1).1 u := by
  obtain ⟨hscene, htiles, n, region, hreport⟩ := stageVerified_unfit c r (s.readImages c).1 hfits
  have hread := imagesRead s c
  exact ⟨_, stageScene_verified hc hi hv, hscene.trans hread.scene, htiles.trans hread.tiles, n, region, by rw [hreport, hread.mySeat]⟩

end Sys2Proof.Machine

namespace Sys2Proof.Claim
open Sys2Proof.Machine

/-- Settles O40: the lemmas about the plan a command makes, the PLAN_IDs heard, the permute and the staged scene, clause by clause. -/
theorem plansAreExchangedBeforeTheyApply : Obligations.PlansAreExchangedBeforeTheyApply := by
  unfold Obligations.PlansAreExchangedBeforeTheyApply
  refine ⟨fun s j est bubble cmd op again hmem => ?_, fun s j est bubble c pp hplan hper hids hheard hgap hf => ?_, fun s seat id => ?_,
    fun s pp hplan => ?_, fun s r => ?_⟩
  · have h := places_of_mem hmem
    refine ⟨h.idle s, fun c hc hp hs => ⟨_, h.taken hc hp hs, placed1_spec s c again⟩, fun c hc hp hs => ?_⟩
    have hmade := h.made hc hp hs
    refine ⟨fun hr => ?_, fun hr ha hids hun => ?_, fun hr ha hids hun => ?_, fun ⟨hr, hids, hheard⟩ ha happ => ?_,
      fun ⟨hr, hids, hheard⟩ ha happ hlate => ?_, fun ⟨hr, hids, hheard⟩ ha happ hgap hrec => ⟨fun hf => ?_, fun hf => ?_⟩⟩
    · have hfail := plan_fails (c := c) (est := est.toNat) (bubble := bubble.toNat) hr
      exact ⟨_, hmade, hfail.job, hfail.scene, hfail.tiles, hfail.state, hfail.cmds⟩
    · subst ha
      have hw := plan_unheard (c := c) (est := est.toNat) (bubble := bubble.toNat) hr hids hun
      exact ⟨_, hmade, hw.state, hw.only.mem, hw.only.tiles, hw.only.scene, hw.fab, hw.report, hw.job⟩
    · subst ha
      have hw := reshard_unheard (c := c) (est := est.toNat) (bubble := bubble.toNat) hr hids hun
      exact ⟨_, hmade, hw.state, hw.applied, hw.plan⟩
    · subst ha
      obtain ⟨hjob, hstate, hcmds⟩ := plan_first (c := c) (est := est.toNat) (bubble := bubble.toNat) ⟨hr, hids, hheard⟩ happ
      exact ⟨_, hmade, hstate, (congrArg JobState.applied hjob :).trans happ, (congrArg JobState.plan hjob :), (congrArg JobState.ready hjob :), hcmds⟩
    · subst ha
      exact ⟨_, hmade, plan_later ⟨hr, hids, hheard⟩ happ hlate⟩
    · subst ha
      exact ⟨_, hmade, plan_fits ⟨hr, hids, hheard⟩ happ hgap hrec hf⟩
    · subst ha
      exact ⟨_, hmade, plan_unfit ⟨hr, hids, hheard⟩ happ hgap hrec hf⟩
  · have hready : Ready s pp := ⟨hplan, hper, hids, hheard, hgap, hf⟩
    refine ⟨fun hc hr happ hrec hs => ?_, fun hc hr => ?_⟩
    · obtain ⟨⟨happlied, hnone, hdesc⟩, hcmds⟩ := ready_applies (c := c) hready hr happ hrec hs
      exact ⟨_, (places_place j est bubble).goesOn hc hplan, happlied, hnone, hdesc, hcmds⟩
    · obtain ⟨hstate, hjob⟩ := ready_permutes (c := c) hready hr
      exact ⟨_, (places_reshard j est bubble).goesOn hc hplan, hstate, (congrArg JobState.applied hjob :), (congrArg JobState.plan hjob :)⟩
  · refine ⟨fun hp => (exec_planIdExchange seat id s).trans (planIdExchange_none hp seat id), fun pp hp =>
      ⟨fun hc => (exec_planIdExchange seat id s).trans (planIdExchange_kept hp hc), fun c hc hper =>
        ⟨fun hne => ?_, fun hids hun => ?_, fun hids hheard hr ha => ?_⟩⟩⟩
    · obtain ⟨u, hu, hjob, hscene, hcmds⟩ := planIdExchange_differs hp hc hper hne
      exact ⟨u, (exec_planIdExchange seat id s).trans hu, hjob, hscene, hcmds⟩
    · exact (exec_planIdExchange seat id s).trans (planIdExchange_unheard hp hc hper hids hun)
    · obtain ⟨u, hu, hjob, hcmds⟩ := planIdExchange_first hp hc hper hids hheard hr ha
      exact ⟨u, (exec_planIdExchange seat id s).trans hu, hjob, hcmds⟩
  · refine ⟨fun hper hleft hres hgoing => ⟨fun hs => ?_, fun hs => ?_⟩, fun hw => ?_, ?_⟩
    · exact (exec_permuteComplete true s).trans (permuteComplete_shows hplan ⟨hper, hleft, hres, hgoing⟩ hs)
    · obtain ⟨⟨happlied, hnone, hdesc⟩, hstep⟩ := reported_spec s pp
      exact ⟨_, (exec_permuteComplete true s).trans (permuteComplete_applies hplan ⟨hper, hleft, hres, hgoing⟩ hs), happlied, hnone, hdesc, hstep⟩
    · exact (exec_permuteComplete true s).trans (permuteComplete_waits hplan (permuteWaits_of hw))
    · exact (exec_permuteComplete false s).trans (permuteComplete_waits hplan (permuteWaits_others s pp))
  · refine ⟨fun h => (exec_stageScene r s).trans (stageScene_idle h r), fun c hc hi => ⟨fun p hv => ?_, fun hv hfits => ?_, fun hv hfits => ?_⟩⟩
    · obtain ⟨u, hu, h⟩ := stageScene_rejects hc hi hv
      exact ⟨u, (exec_stageScene r s).trans hu, h⟩
    · obtain ⟨u, x, hu, hx⟩ := stageScene_fits hc hi hv hfits
      exact ⟨u, (exec_stageScene r s).trans hu, hx.tiles, hx.result, x, hx.scene, hx.id, hx.images, hx.seed, hx.data, hx.bank⟩
    · obtain ⟨u, hu, hx⟩ := stageScene_unfit hc hi hv hfits
      exact ⟨u, (exec_stageScene r s).trans hu, hx.scene, hx.tiles, hx.report⟩

end Sys2Proof.Claim
end
